-- ==== Sys2Proof/Word.lean ====
section
/-! DEFINITION. The words of the hub and their plainest arithmetic: bytes, 32-bit register words, 64-bit addresses and route words. -/

namespace Sys2Proof

/-- One byte, the smallest addressable unit. -/
abbrev Byte := BitVec 8

/-- One register: 32 bits (R7). -/
abbrev Word := BitVec 32

/-- A global address, a route word, or 8 bytes of fabric data. -/
abbrev DWord := BitVec 64

end Sys2Proof
end

