-- ==== Sys2Proof/Syntax.lean ====
section
/-! DEFINITION. The commands of the hub: one constructor for each row of spec/opcode_table.json, in the table's order, and the
types of their operands. -/

namespace Sys2Proof

/-- Who makes an access or issues a command (spec/00, spec/07 R189, spec/19 R455). -/
inductive Agent where
  | host      -- the PCIe host, through BAR0
  | core      -- the management core
  | fabric    -- a fabric transaction (its status goes into the completion)
  | test      -- the test port
  deriving DecidableEq, Repr

/-- The seven switch ports (spec/01, "The seven switch ports"); SWC's port index is `Port.idx`. -/
inductive Port where
  | e | w | c1 | c2 | h | f | m
  deriving DecidableEq, Repr

/-- The handshake classes of R28. -/
inductive HsClass where
  | datapath | memory | island | field
  deriving DecidableEq, Repr

/-- What the FCS of a received frame proves to be: correct, wrong, or the stomp code of R144. -/
inductive Fcs where
  | good | bad | stomp
  deriving DecidableEq, Repr

/-- The HSR tag of R79: path identifier (with the network identifier of R75) and 16-bit sequence number. -/
structure HsrTag where
  path : Nat
  seq : Nat
  deriving DecidableEq, Repr

/-- An Ethernet frame. `payload` is what follows the EtherType, up to the FCS; `vlan` is the TCI of a C-tag. -/
structure Frame where
  dmac : Nat
  smac : Nat
  hsr : Option HsrTag
  vlan : Option Nat
  etype : Nat
  payload : List Byte
  fcs : Fcs
  deriving DecidableEq, Repr

/-- An error that a block records in its page (R58): the status a fabric transaction would be given (0x00 if it concerns
no access), the cause code, and the register number. -/
structure ErrNote where
  status : Nat
  cause : Nat
  reg : Nat
  deriving DecidableEq, Repr

/-- An operation an initiator block offers (R100, R103): initiator identifier, flow, operation code, global address, length,
data, SPEC flag. -/
structure TxnReq where
  init : Nat
  flow : Nat
  op : Nat
  addr : DWord
  len : Nat
  data : List Byte
  spec : Bool
  deriving DecidableEq, Repr

/-- An error a buffer read finds (R133, R134): where it lies (0 cell word, 1 link RAM, 2 descriptor RAM), the cell or entry number
and the word; `single` for a single-bit error, which the read corrects. -/
structure EccFault where
  place : Nat
  index : Nat
  word : Nat
  single : Bool
  deriving DecidableEq, Repr

/-- What the timekeeper's stamping islands saw of a frame: the ingress stamp in 1/16 ns of local time (R222). -/
structure RxMeta where
  late : Bool      -- the FCS verdict came after the head of a cut-through copy had left
  linkLost : Bool  -- the ingress link was lost before the frame's end (R144)
  fecCorr : Nat    -- FEC codewords corrected on the port since the frame before
  fecUncorr : Nat  -- FEC codewords not correctable
  deriving DecidableEq, Repr

/-- An error of a word of journal memory (R160), by its byte address, which says what it holds (R159); `single` for a single-bit
error, which the read corrects. -/
structure JEcc where
  addr : Nat
  single : Bool
  deriving DecidableEq, Repr

/-- What a host write to configuration space or to the MSI-X table sets (R186, R213). -/
inductive CfgWrite where
  | command (mse bme : Bool)
  | devCtl (mps mrrs : Nat)
  | msixCtl (enable fmask : Bool)
  | power (d3 : Bool)
  | table (entry word : Nat) (value : Word)
  | bar (n : Nat) (value : Word)             -- a base address register, 0 to 5
  | read (ptag off : Nat)                    -- a configuration read request
  | tableRead (ptag off : Nat)               -- a read of four bytes in BAR4
  deriving DecidableEq, Repr

/-- A host read request in BAR2: its tag, its offset, its byte enables. -/
structure HostReq where
  ptag : Nat
  off : Nat
  enables : List Bool
  deriving DecidableEq, Repr

/-- A completion from the host: its tag, status and data, and whether it is poisoned (R211). -/
structure HostCpl where
  tag : Nat
  status : Nat
  data : List Byte
  poisoned : Bool
  deriving DecidableEq, Repr

/-- What happens to the PCIe link (R185, R214). -/
inductive LinkEvent where
  | up (speed width : Nat)
  | down
  | hotReset
  deriving DecidableEq, Repr

/-- What meets a resume at the USB (R338): nothing, a reset, a disconnect, or a remote wakeup. -/
inductive UsbMeet where
  | none | reset | disconnect | wake
  deriving DecidableEq, Repr

/-- What a chest word holds that has an uncorrectable error, or whose record fails its CRC (R423, R433, R459). -/
inductive ChestHit where
  | epoch (value : Nat)           -- the epoch record of this value
  | slot (flow seq : Nat)         -- the acceptance slot of this transaction
  | limit (flow : Nat)            -- a SEQ_LIMIT record
  | commit (seq : Nat)            -- the commit record of this SEQ
  | secret (which : Nat)          -- both copies of a secret: 0 device key, 1 owner key, 2 pairing keys
  | checkpoint
  | drawer
  | other
  deriving DecidableEq, Repr

/-- A bad chest word: its address, whether its ECC shows it (otherwise a CRC does), and what it holds. -/
structure ChestErr where
  addr : Nat
  ecc : Bool
  hit : ChestHit
  deriving DecidableEq, Repr

/-- A finished online self-test (R442, R443): its number, the port it ran on (tests 2 to 4), and whether it failed. -/
structure TestOut where
  test : Nat
  port : Nat
  fail : Bool
  deriving DecidableEq, Repr

/-- What the hardware does to a register in the resolution step in which it is written (R9, R58): nothing, sets these bits, or
records an error in its page. `pair` sets bits of both registers that an 8-byte write covers. -/
inductive RegMeet where
  | none
  | bits (w : Word)
  | pair (low high : Word)
  | err (e : ErrNote)
  deriving DecidableEq, Repr

/-- A command: one row of the table of operations and events, with its operands. -/
inductive Instr where
  /-- REGISTER_WRITE (R9): A write to a register that has no row of its own, applied by its access codes, lock and range checks. -/
  | registerWrite (who : Agent) (page off : Nat) (bytes : List Byte) (hw : RegMeet)
  /-- ERR_COUNT_READ (R58): A read of ERR_COUNT returns the count and clears it. -/
  | errCountRead (who : Agent) (page : Nat) (meet : List ErrNote)
  /-- RC_COUNTER_READ (R9): A read of an RC overflow or latch counter returns its value and clears it. -/
  | rcCounterRead (who : Agent) (page off : Nat)
  /-- BLOCK_RESET (R55): A write of 1 to PAGE_CTL.BLOCK_RESET sets RESETTING, completes or aborts held items and resets the page by its Warm column. -/
  | blockReset (who : Agent) (page : Nat)
  /-- BLOCK_RESET_DONE (R55): A block reset ends and STATE returns to RUN or OFF. -/
  | blockResetDone (page : Nat)
  /-- PAGE_ENABLE_WRITE (R54): A write of PAGE_CTL.ENABLE starts or stops the block taking new items. -/
  | pageEnableWrite (who : Agent) (page : Nat) (on : Bool)
  /-- FREEZE_WRITE (R56): A write of PAGE_CTL.FREEZE takes or releases a snapshot of the page's frozen counters. -/
  | freezeWrite (who : Agent) (page : Nat) (on : Bool)
  /-- IRQ_EN_WRITE (R57): A write of IRQ_EN sets IRQ_PEND for each newly enabled source whose IRQ_RAW is 1. -/
  | irqEnWrite (who : Agent) (page : Nat) (value : Word)
  /-- INT_EOI (R64): A write to INT.EOI re-evaluates an MSI-X vector and fires it again if its level is still 1. -/
  | intEoi (who : Agent) (vector : Nat) (meet : Option (Nat × Nat))
  /-- MSIX_PENDING_SEND (R213): A held MSI-X vector is sent once its mask, function mask, enable, bus master and link conditions have all ended. -/
  | msixPendingSend (vector : Nat)
  /-- WATCH_MEASURE (R27): Every 1 ms both watch oscillators are measured against the reference and out-of-tolerance bits are set. -/
  | watchMeasure (ringDev fieldDev : Int)
  /-- HANDSHAKE_TIMEOUT (R29): A handshake bound expires, so the block declares HANG, completes its items HANG and may block-reset. -/
  | handshakeTimeout (page : Nat) (cls : HsClass) (ack : Bool)
  /-- LATE_ACKNOWLEDGE (R30): An acknowledge that arrives after HANG was declared is discarded with its data. -/
  | lateAcknowledge (page : Nat) (data : List Byte)
  /-- PORT_CFG_WRITE (R69): A write to PORT.CFG that changes MODE, FEC or ROLE takes the port DOWN and retrains it. -/
  | portCfgWrite (who : Agent) (port : Nat) (value : Word)
  /-- SIGNAL_LOCK_CHANGE (R68): A change of signal detect, PCS lock or FEC lock on a port updates LINK between DOWN and TRAINING and starts the hold timers. -/
  | signalLockChange (port : Port) (signal pcs fec : Bool) (speed : Nat)
  /-- LINK_UP (R68): Lock has held for UP_HOLD and the port becomes UP. -/
  | linkUp (port : Port)
  /-- LINK_DOWN (R68): Lock has been lost for DOWN_HOLD and the port leaves UP, ending queued references PORT_DOWN. -/
  | linkDown (port : Port)
  /-- WALK_DONE (R156): A walker run ends, WALK_DONE is set and BUSY returns to 0. -/
  | walkDone
  /-- LEAK_SWEEP (R156): A write of 1 to BUF.WALK.SWEEP starts a sweep that returns unreachable cells to the free list. -/
  | leakSweep (who : Agent)
  /-- HSR_FRAME_RX (R71): An HSR frame received on a ring or QuadBox port is checked, removed, forwarded, delivered or discarded as a duplicate. -/
  | hsrFrameRx (port : Port) (frame : Frame) (rx : RxMeta)
  /-- DD_ENTRY_EXPIRE (R72): A duplicate-discard entry expires after DD_FORGET. -/
  | ddEntryExpire (smac seq : Nat) (sub : Bool)
  /-- REDBOX_FRAME_RX (R74): A frame received on a REDBOX port is proxied into the ring as an HSR pair, or discarded while the proxy table is full. -/
  | redboxFrameRx (port : Port) (frame : Frame)
  /-- PROXY_EXPIRE (R74): A proxy-table entry expires after PROXY_FORGET without traffic. -/
  | proxyExpire (mac : Nat)
  /-- HSR_SUPERVISION_SEND (R73): Every SUPV_INTERVAL the hub sends IEC 62439-3 supervision frames. -/
  | hsrSupervisionSend
  /-- HELLO_SEND (R77): Every 100 ms a KVL HELLO is sent on each UP port in an HSR, QUADBOX or MIRROR role. -/
  | helloSend
  /-- HELLO_RX (R77): A HELLO is consumed and LINK_VER and HELLO are updated. -/
  | helloRx (port : Port) (frame : Frame)
  /-- HELLO_TIMEOUT (R77): No HELLO has arrived for 300 ms and HELLO becomes NONE. -/
  | helloTimeout (port : Port)
  /-- VER_EN_WRITE (R86): A write to KVL.VER.EN changes the enabled versions and triggers renegotiation with every peer. -/
  | verEnWrite (who : Agent) (value : Word)
  /-- ANNOUNCE_SEND (R88): Every SUPV.PERIOD the hub sends an ANNOUNCE as an HSR pair on its ring, and a coupler also on its subring. -/
  | announceSend
  /-- ANNOUNCE_RX (R90): An ANNOUNCE updates the node-table entry of its sender and may change its state. -/
  | announceRx
  /-- NODE_LOSS (R90): A node has been silent for 3 × PERIOD and its entry becomes LOST. -/
  | nodeLoss (sub : Bool) (node : Nat)
  /-- CHG_POP (R91): A read of NOD.CHG_POP returns and removes the oldest change record. -/
  | chgPop (who : Agent)
  /-- NODE_NUMBER_WRITE (R483): A change of NOD.SELF.NODE re-judges the entries of the old and the new number. -/
  | nodeNumberWrite (who : Agent) (value : Word)
  /-- RB_CTL_WRITE (R99): A write to NOD.RB_CTL applies the staged re-basing path after checking it. -/
  | rbCtlWrite (who : Agent) (k : Nat) (value : Word)
  /-- COUPLER_FORWARD (R95): A coupler rewrites a KVL REQ or CPL's route words and sends it as a new HSR pair on the outgoing ring. -/
  | couplerForward
  /-- TRANSACTION_ISSUE (R109): An initiator offers a transaction, which takes a tag and passes the flow, path, destination and headgate checks. -/
  | transactionIssue (t : TxnReq)
  /-- SEQUENCE_ASSIGN (R109): A waiting transaction is assigned NEXT_SEQ and written to the retransmit store once its flow state allows. -/
  | sequenceAssign (flow : Nat)
  /-- DURABILITY_DONE (R110): The chest slot write of a DURABLE record completes and acceptance is returned. -/
  | durabilityDone (tag : Nat) (ecc : Option Nat)
  /-- FURROW_RELEASE (R170): A furrow releases its head burst to the class queues when its sluices hold zero or more tokens. -/
  | furrowRelease (flow : Nat)
  /-- PORT_SELECT (R173): An idle port selects its next frame by strict priority and deficit round robin and starts sending it. -/
  | portSelect (port : Port) (ecc : Option EccFault)
  /-- BUCKET_REFILL (R165): Every microsecond each headgate and sluice gains its rate's worth of bytes up to its burst. -/
  | bucketRefill
  /-- BUCKET_CTL_WRITE (R175): A write to a headgate or sluice CTL word applies the staged RATE and BURST and sets tokens by CHG_FILL. -/
  | bucketCtlWrite (who : Agent) (page k : Nat) (value : Word)
  /-- RETRANSMIT_TIMEOUT (R111): A flow's retransmission timer expires and open records are retransmitted, or closed UNREACHABLE when retries are exhausted. -/
  | retransmitTimeout (flow : Nat) (ecc : Option JEcc)
  /-- CPL_RX (R112): A CPL burst at the initiator's hub closes open records, starts FILLs for AGED records or is counted late. -/
  | cplRx
  /-- ABORT_GO (R113): A write to SEQ.ABORT_GO aborts the named sequence number by sending a FILL. -/
  | abortGo (who : Agent) (value : Word) (meet : Bool := false)
  /-- REQ_RX (R117): A REQ burst at the target is matched to its context and each record is held, executed, answered from the cache or discarded. -/
  | reqRx (ecc : Option JEcc)
  /-- BROADCAST_EVENT_RX (R122): A receiver executes a broadcast EVENT that lies ahead of the last one executed, and counts gaps. -/
  | broadcastEventRx
  /-- DEFERRED_EXECUTE (R121): A record deferred by the live-entry limits executes once room returns. -/
  | deferredExecute (ctx : Nat)
  /-- STREAM_WAIT_EXPIRE (R101): A STREAM waiting for FIFO room passes STREAM_WAIT and completes TARGET_ERR STREAM_FULL. -/
  | streamWaitExpire (ctx : Nat)
  /-- CONTEXT_RELEASE (R120): A target context with no record for RX_IDLE is released. -/
  | contextRelease (ctx : Nat)
  /-- NOP_SEND (R121): FLOOR_DELAY after its last send an idle flow sends a NOP to advance the receiver's floor. -/
  | nopSend (flow : Nat)
  /-- SEQ_LOG_POP (R130): A read of SEQ.LOG_POP0 removes the oldest log record and latches its other words. -/
  | seqLogPop (who : Agent)
  /-- AGE_SWEEP (R153): The age sweeper examines queue and furrow heads and discards frames past their class limit. -/
  | ageSweep
  /-- BUFFER_SCRUB (R135): The buffer scrubber completes a pass or overruns its period. -/
  | bufferScrub (corrected : Nat) (fault : Option EccFault) (overrun : Bool)
  /-- JOURNAL_PATROL_SCRUB (R160): The journal patrol scrubber completes a pass over the installed size. -/
  | journalPatrolScrub (corrected : Nat) (fault : Option JEcc)
  /-- BAR0_ACCESS (R189): A host access to BAR0 goes directly to the addressed page of this hub. -/
  | bar0Access (ptag off len : Nat) (data : Option (List Byte))
  /-- HOST_WRITE (R196): A host memory write to BAR2 is split into pieces and issued as non-posted fabric WRITEs. -/
  | hostWrite (off : Nat) (bytes : List (Option Byte))
  /-- HOST_READ (R195): A host memory read to BAR2 is split into pieces, served from prefetch or issued, with run-ahead. -/
  | hostRead (ptag off : Nat) (enables : List Bool)
  /-- HOST_FLUSH_READ (R198): A zero-length read completes once every earlier write through its window has completed. -/
  | hostFlushRead (ptag off : Nat)
  /-- HOST_READ_TIMEOUT (R202): A host read's TIMEOUT expires, CA is returned and open pieces are aborted and logged. -/
  | hostReadTimeout (ptag : Nat) (meet : Bool := false)   -- `meet`: a completion burst meets it (R203)
  /-- PREFETCH_LINE_EXPIRE (R207): A held prefetch line reaches PF_LIFE and is discarded. -/
  | prefetchLineExpire (win start : Nat) (meet : Option HostReq := none)   -- `meet`: a host read meets it (R208)
  /-- OB_CTL_WRITE (R191): A write to WIN.OB_CTL commits the staged outbound window after its checks. -/
  | obCtlWrite (who : Agent) (w : Nat) (value : Word)
  /-- IB_CTL_WRITE (R209): A write to WIN.IB_CTL commits the staged inbound window after its checks. -/
  | ibCtlWrite (who : Agent) (k : Nat) (value : Word)
  /-- HOST_COMPLETION_RX (R210): A host completion to an inbound read arrives, and the read completes once all have arrived. -/
  | hostCompletionRx (tag status : Nat) (data : List Byte) (poisoned : Bool)
  /-- INBOUND_CPL_TIMEOUT (R211): An inbound read waits past CPL_TO and completes TARGET_ERR HOST_TIMEOUT. -/
  | inboundCplTimeout (ctx : Nat) (meet : Option HostCpl := none)   -- `meet`: a host completion meets it (R211)
  /-- INBOUND_CREDIT_TIMEOUT (R211): An inbound transaction finds no credit within CREDIT_WAIT and completes TARGET_ERR HOST_CREDIT. -/
  | inboundCreditTimeout (ctx : Nat)
  /-- ERRLOG_POP (R215): A read of BRG.ERRLOG0 removes the oldest record and latches its other words. -/
  | errlogPop (who : Agent)
  /-- SPECLOSS_POP (R215): A read of BRG.SPECLOSS0 removes the oldest record and latches its other words. -/
  | speclossPop (who : Agent)
  /-- PCIE_LINK_CHANGE (R214): The PCIe link goes down or up, or a hot reset occurs, and bridge state is handled as R214 states. -/
  | pcieLinkChange (ev : LinkEvent)
  /-- PCIE_PERST (R471): PCIE_PERST_N low holds the link down and configuration space reset. -/
  | pciePerst (low : Bool)
  /-- PCIE_CONFIG_WRITE (R213): A host write to configuration space or the MSI-X table changes enables and masks. -/
  | pcieConfigWrite (w : CfgWrite)
  /-- NOW_LATCH (R218): A read of TMK.NOW_NS latches the seconds and stamp of the same instant. -/
  | nowLatch (who : Agent) (len : Nat)
  /-- REF_LOSS (R219): The 25 MHz reference fails, the time engine runs from the watch oscillator and the servo enters HOLDOVER. -/
  | refLoss
  /-- REF_RETURN (R219): The reference returns and the time engine changes back to it without a step. -/
  | refReturn
  /-- RESIDENCE_EXPIRE (R225): A residence-table entry expires after 1 s. -/
  | residenceExpire
  /-- PDELAY_REQ_RX (R226): A Pdelay_Req is answered by the hardware responder or passed to the management core. -/
  | pdelayReqRx (port : Port) (frame : Frame)
  /-- MANAGEMENT_FRAME_SEND (R227): A frame from the management core through M is sent, with ONE_STEP insertion or a TS_REQ stamp entry. -/
  | managementFrameSend (frame : Frame) (ports : List Port) (oneStep : Bool) (tsReq : Option Nat)
  /-- TSQ_POP (R229): A read of TSQ.POP_ID removes the oldest TX stamp entry and latches its stamp. -/
  | tsqPop (who : Agent) (p : Nat)
  /-- TIME_SET (R230): A write of 1 to TMK.TIME_CMD.SET sets local time to the staged value. -/
  | timeSet (who : Agent)
  /-- TIME_ADJUST (R230): A write to TMK.ADJUST steps local time by the signed value. -/
  | timeAdjust (who : Agent) (value : Word)
  /-- SERVO_SAMPLE (R232): A write to TMK.SERVO_IN gives the servo an offset sample. -/
  | servoSample (who : Agent) (value : Word) (meet : Bool)
  /-- PPS_IN_EDGE (R235): A PPS_IN edge is stamped and, with PPS_FEED, fed to the servo. -/
  | ppsInEdge (falling : Bool) (meet : Bool := false)
  /-- SERVO_HOLDOVER (R232): No sample arrives for HOLD and the servo enters HOLDOVER. -/
  | servoHoldover (meet : Bool := false)
  /-- PPS_OUT_PULSE (R235): PPS_OUT goes high at each whole second of local time for WIDTH. -/
  | ppsOutPulse
  /-- TRIGGER_COMMIT (R237): A write to a trigger's CTL commits its staged program and arms it. -/
  | triggerCommit (who : Agent) (t : Nat) (value : Word)
  /-- TRIGGER_EDGE (R238): A trigger reaches an edge time and fires, skips it as late, or ends its train. -/
  | triggerEdge (t : Nat)
  /-- CAPTURE_EDGE (R242): An edge on a capture pin is stamped into its FIFO or dropped. -/
  | captureEdge (c : Nat) (rising : Bool)
  /-- CAPTURE_POP (R242): A read of TRG.CAP_POP0 removes the oldest capture entry and latches its stamp. -/
  | capturePop (who : Agent) (c : Nat)
  /-- EXEC_ITEM (R250): The field die executes an EXEC item and sends its DONE. -/
  | execItem
  /-- DONE_ITEM (R250): A DONE item completes its EXEC at the ring die, or is discarded after HANG. -/
  | doneItem
  /-- CFG_ITEM (R250): The field die applies a configuration copy carried by a CFG item. -/
  | cfgItem
  /-- OFFER_ITEM (R279): The ring die takes a field-stream OFFER through R109 and answers ACCEPT or a refusing CPL. -/
  | offerItem
  /-- ACCEPT_ITEM (R279): The field die receives ACCEPT and removes the push's words from its FIFO. -/
  | acceptItem
  /-- FIELD_CPL_ITEM (R279): The field die receives the CPL of a push and frees its tag. -/
  | fieldCplItem
  /-- FIELD_PEND_ITEM (R61): A PEND item updates the ring die's copy of field-die page pending states. -/
  | fieldPendItem
  /-- FIELD_RECORD_ITEM (R254): A RECORD item delivers an SOE, CAN or capture entry to the ring die, or is discarded as a replay. -/
  | fieldRecordItem
  /-- CREDIT_RETURN (R251): A credit word returns credits of one VC to the sender. -/
  | creditReturn (toField : Bool) (vc : Nat)
  /-- KEEP_SEND (R252): A die that has sent nothing for 10 µs sends a KEEP item. -/
  | keepSend (fromField : Bool)
  /-- PERMIT_RENEW (R258): The ring die sends a new PERMIT at a quarter of the running permit's length. -/
  | permitRenew
  /-- PERMIT_ITEM (R258): The field die receives a PERMIT and times it from its arrival. -/
  | permitItem
  /-- PERMIT_EXPIRE (R258): A permit expires and every field output takes its lost-state. -/
  | permitExpire
  /-- MARK_SEND (R259): Every TIME_CTL.INTERVAL the ring die sends a MARK. -/
  | markSend
  /-- MARK_RX (R259): The field die stamps a MARK and answers MARK_REPLY. -/
  | markRx
  /-- MARK_REPLY_RX (R259): The ring die computes the offset, writes TIME_ERR and the field copy is corrected; FIELD_SYNC may change. -/
  | markReplyRx
  /-- FREQ_ITEM (R260): The field die applies a frequency change carried by a FREQ item. -/
  | freqItem
  /-- STEP_ITEM (R260): The field die applies a step of local time carried by a STEP item. -/
  | stepItem
  /-- CULVERT_SYMBOL_TIMEOUT (R253): A symbol sent by the ring die is not acknowledged within SYMBOL and the culvert resets. -/
  | culvertSymbolTimeout (done : Bool)
  /-- CULVERT_SILENCE_TIMEOUT (R253): Nothing arrives from the field die for 4 × SYMBOL + 10 µs and the culvert resets. -/
  | culvertSilenceTimeout
  /-- CULVERT_CREDIT_TIMEOUT (R253): An item waits for a credit past CREDIT and the culvert resets. -/
  | culvertCreditTimeout
  /-- CULVERT_CHECK_FAIL (R253): A code violation or item check failure at the ring die resets the culvert. -/
  | culvertCheckFail
  /-- CULVERT_ABORT_PATTERN (R253): The field die reports a check failure by the abort pattern and the culvert resets. -/
  | culvertAbortPattern
  /-- CULVERT_RETRAIN (R253): A write of 1 to CUL.RETRAIN.GO resets and trains the culvert. -/
  | culvertRetrain (who : Agent)
  /-- CULVERT_RSP_WAIT_EXPIRE (R263): During a CUL block or warm reset the wait for DONEs reaches RSP and the culvert resets. -/
  | culvertRspWaitExpire
  /-- CULVERT_TRAINING_FAIL (R257): A training attempt fails at a step and is retried or the culvert becomes FAILED. -/
  | culvertTrainingFail (why : Nat)
  /-- CULVERT_TRAINING_RETRY (R257): The pause after a failed attempt ends and training starts again. -/
  | culvertTrainingRetry
  /-- CULVERT_UP (R256): Training step 4 ends, the culvert is UP and field pending states are refreshed. -/
  | culvertUp (fieldEn fieldRev : Nat)
  /-- RING_DIE_LOST (R262): The field die hears no symbol for 4 × SYMBOL + 10 µs and runs on without the ring die. -/
  | ringDieLost
  /-- WAKE_PATTERN (R256): The field die receives the wake pattern, empties its slots and answers it. -/
  | wakePattern
  /-- SERIAL_CHAR_RX (R272): A character received on a serial port is packed into the open word, or lost. -/
  | serialCharRx (n data : Nat) (parityErr framingErr : Bool) (start : Nat) (startUnsync : Bool)
  /-- SERIAL_BREAK (R271): RX stays at space for the frame length + 1 bit, a break is counted and the open word is flushed. -/
  | serialBreak (n : Nat) (inChar : Bool)
  /-- SERIAL_CHAR_TIMEOUT (R271): No start bit arrives for CHAR_TO while the open word holds bytes, and the word is flushed.
  `startBit`: a start bit meets the expiry. -/
  | serialCharTimeout (n : Nat) (startBit : Bool := false)
  /-- SERIAL_IDLE (R271): No start bit arrives for IDLE and IDLE is set. -/
  | serialIdle (n : Nat)
  /-- SERIAL_SEALED_ENTER (R273): A sealed receive word enters the FIFO once a word is free. -/
  | serialSealedEnter (n : Nat)
  /-- SERIAL_FLUSH (R272): A write of 1 to SER.CMD.FLUSH flushes the open receive word. -/
  | serialFlush (who : Agent) (n : Nat)
  /-- SERIAL_TX_BREAK (R271): A write of 1 to SER.CMD.TX_BREAK sends a break after the character in progress. -/
  | serialTxBreak (who : Agent) (n : Nat)
  /-- SERIAL_RX_CLEAR (R273): A write of 1 to SER.CMD.RX_CLEAR discards every receive word. -/
  | serialRxClear (who : Agent) (n : Nat)
  /-- SERIAL_TX_CLEAR (R275): A write of 1 to SER.CMD.TX_CLEAR discards every transmit word not yet begun. -/
  | serialTxClear (who : Agent) (n : Nat)
  /-- SERIAL_TX_START (R269): A transmission becomes ready, DE is asserted and after LEAD the first start bit is sent. -/
  | serialTxStart (n : Nat) (leadOver : Bool)
  /-- SERIAL_CHAR_TX_END (R275): A character's last stop bit ends; the next is sent or TX_EMPTY is set and LAG starts. -/
  | serialCharTxEnd (n : Nat)
  /-- SERIAL_DE_RELEASE (R269): LAG ends after a transmission and DE is released. -/
  | serialDeRelease (n : Nat)
  /-- SERIAL_CTS_CHANGE (R270): The CTS pin changes and the transmitter stops or resumes starting characters. -/
  | serialCtsChange (n : Nat) (level : Bool)
  /-- PUSH_HOLD_EXPIRE (R278): The oldest untaken closed word has waited PUSH_TIME.HOLD and a push is formed. -/
  | pushHoldExpire (ep : Nat)
  /-- PUSH_FORM (R278): A port or bench forms a push of its receive words and offers it when a tag and depth allow. -/
  | pushForm (ep : Nat)
  /-- BENCH_TICK (R285): A bench tick samples inputs, reads a table entry and applies its actions, or stalls. -/
  | benchTick (n : Nat) (upset : Option Nat)
  /-- BENCH_STALL_TIMEOUT (R289): A stall lasts STALL.TO and the bench stops at the stall point. -/
  | benchStallTimeout (n : Nat)
  /-- BENCH_RUN (R290): A write of 1 to BEN.CMD.RUN starts a STOPPED bench. -/
  | benchRun (who : Agent) (n : Nat)
  /-- BENCH_STOP (R290): A write of 1 to BEN.CMD.STOP stops the bench at its step boundary or stall point. -/
  | benchStop (who : Agent) (n : Nat)
  /-- BENCH_FLUSH (R295): A write of 1 to BEN.CMD.FLUSH closes the open receive word. -/
  | benchFlush (who : Agent) (n : Nat)
  /-- BENCH_RX_CLEAR (R295): A write of 1 to BEN.CMD.RX_CLEAR discards the bench's receive words. -/
  | benchRxClear (who : Agent) (n : Nat)
  /-- BENCH_TX_CLEAR (R295): A write of 1 to BEN.CMD.TX_CLEAR discards the bench's transmit words. -/
  | benchTxClear (who : Agent) (n : Nat)
  /-- BENCH_TXD (R296): A write to BEN.TXD pushes one unit as a word of its own into the transmit FIFO. -/
  | benchTxd (who : Agent) (n : Nat) (value : Word)
  /-- BENCH_PROGRAM_WRITE (R293): A write to a bench table or program register is accepted only while the bench is STOPPED. -/
  | benchProgramWrite (who : Agent) (n : Nat) (table : Bool) (off : Nat) (bytes : List Byte) (meet : Bool)
  /-- BENCH_RUN_MASK (R300): A write to BTB.RUN_MASK starts the selected STOPPED benches on one edge. -/
  | benchRunMask (who : Agent) (value : Word)
  /-- BENCH_STOP_MASK (R300): A write to BTB.STOP_MASK stops the selected benches. -/
  | benchStopMask (who : Agent) (value : Word)
  /-- TABLE_CRC_GO (R301): A write of GO to BTB.CRC_CMD starts a CRC-32C over a bench table. -/
  | tableCrcGo (who : Agent) (value : Word)
  /-- TABLE_CRC_DONE (R301): The table CRC is ready in CRC_RESULT and BUSY returns to 0. -/
  | tableCrcDone
  /-- CAN_INTEGRATED (R303): After ENABLE rises the controller sees 11 recessive bits and takes part in bus traffic. -/
  | canIntegrated (n : Nat)
  /-- CAN_FRAME_RX (R306): A frame completes without error on the bus and is stamped and staged as a receive entry. -/
  | canFrameRx (n idWord dlc : Nat) (fdf brs esi : Bool) (data : List Byte)
  /-- CAN_RX_RD_WRITE (R309): A write to CAN.RX_RD releases entries, refused if it passes RX_WR. -/
  | canRxRdWrite (who : Agent) (n : Nat) (value : Word)
  /-- CAN_TX_REQ (R312): A write of 1 to a CAN.TX_REQ bit makes a buffer pending after its format checks. -/
  | canTxReq (who : Agent) (n : Nat) (value : Word)
  /-- CAN_TX_CANCEL (R315): A write of 1 to a CAN.TX_CANCEL bit cancels a buffer according to its transmission state. -/
  | canTxCancel (who : Agent) (n : Nat) (value : Word)
  /-- CAN_SOF (R313): At each SOF the port offers the reference message, a time-triggered buffer or the winning pending buffer. -/
  | canSof (n : Nat)
  /-- CAN_ARBITRATION_LOST (R313): A buffer loses arbitration and is offered again or completes. -/
  | canArbitrationLost (n : Nat)
  /-- CAN_TX_END (R314): A frame is acknowledged and its buffer records its outcome. -/
  | canTxEnd (n tdcv : Nat)
  /-- CAN_BUS_ERROR (R317): An error is detected, counters update and the port may become PASSIVE. -/
  | canBusError (n lec weight : Nat) (tx : Bool)
  /-- CAN_RECOVER (R319): A write of 1 to CAN.CMD.RECOVER starts bus-off recovery. -/
  | canRecover (who : Agent) (n : Nat)
  /-- CAN_RECOVERED (R319): 128 sequences of 11 recessive bits have been counted and the port is ACTIVE again. -/
  | canRecovered (n : Nat)
  /-- CAN_REF_LATE (R320): A reference message has not started within REF_LATE and is abandoned. -/
  | canRefLate (n : Nat)
  /-- CAN_TT_WINDOW_OPEN (R321): A schedule window opens and its time-triggered buffer may start. -/
  | canTtWindowOpen (n j : Nat)
  /-- CAN_TT_WINDOW_CLOSE (R321): A window closes with its buffer not started and records FAILED_WINDOW. -/
  | canTtWindowClose (n j : Nat)
  /-- USB_PORT_DISABLE (R326): A change to USB.CTL.PORT_DIS powers an external port off and disconnects its device. -/
  | usbPortDisable (who : Agent) (value : Word)
  /-- USB_OVERCURRENT (R326): A debounced over-current turns a port's power off and disables it. -/
  | usbOvercurrent (k : Nat)
  /-- USB_BABBLE (R327): A device still transmits at EOF2 and its port is disabled. -/
  | usbBabble (k : Nat)
  /-- USB_DEVICE_CONNECT (R325): A device connects to or disconnects from a downstream port. -/
  | usbDeviceConnect (k : Nat) (connect : Bool) (speed : Nat)
  /-- USF_ENABLE_CHANGE (R329): The service function becomes enabled or ceases to be enabled and port 4 reports connect or disconnect. -/
  | usfEnableChange (pin : Bool)
  /-- USF_OUT_PACKET (R330): A bulk OUT packet is acknowledged if it fits, discarded as a toggle repeat, or NAKed. -/
  | usfOutPacket (data1 : Bool) (data : List Byte)
  /-- USF_IN_TOKEN (R334): A bulk IN token receives a response packet, NAK or NOT_READY. -/
  | usfInToken
  /-- USF_IN_ACK (R336): The host's ACK advances the IN toggle and frees a delivered block's tag. -/
  | usfInAck (report : Bool)
  /-- USF_STATE_POLL (R335): An interrupt poll receives a state report after a change, or NAK. -/
  | usfStatePoll
  /-- USF_ABORT (R338): The vendor request ABORT aborts the named host tag's transaction. -/
  | usfAbort
  /-- USF_GET_STATE (R338): The vendor request GET_STATE returns the busy-tag bitmap, WAITING and OPEN. -/
  | usfGetState
  /-- USB_SETUP (R340): A SETUP packet starts a control transfer and abandons any unfinished one. -/
  | usbSetup (hub : Bool) (bytes : List Byte)
  /-- SET_CONFIGURATION (R336): SET_CONFIGURATION returns the function's endpoint toggles to DATA0. -/
  | setConfiguration (hub : Bool) (value : Nat)
  /-- SET_INTERFACE (R336): SET_INTERFACE returns the interface's endpoint toggles to DATA0. -/
  | setInterface
  /-- CLEAR_FEATURE_ENDPOINT_HALT (R336): CLEAR_FEATURE(ENDPOINT_HALT) clears an endpoint's halt and resets its toggle. -/
  | clearFeatureEndpointHalt (ep : Nat)
  /-- USB_BUS_RESET (R340): A bus reset puts the port or function in the Default state with all toggles at DATA0. -/
  | usbBusReset (upstream high : Bool)
  /-- USB_SUSPEND (R339): The hub or a downstream port enters suspend. -/
  | usbSuspend (k : Nat)
  /-- USB_RESUME (R340): Resume signalling ends suspend of the hub or a port. -/
  | usbResume (k : Nat) (meet : UsbMeet)
  /-- USF_REMOTE_WAKEUP (R339): A suspended function with a ready block or report drives resume signalling. -/
  | usfRemoteWakeup
  /-- USB_PORT_RESET (R327): The host resets a downstream port and it is enabled. -/
  | usbPortReset (k : Nat)
  /-- PIN_CFG_WRITE (R344): A write to PIN.CFG assigns a pin, refused if the signal is taken or its block is in use. -/
  | pinCfgWrite (who : Agent) (p : Nat) (value : Word)
  /-- DI_RAW_EDGE (R347): A raw edge on a discrete input is stamped and restarts the glitch and debounce waits. -/
  | diRawEdge (p : Nat) (level : Bool)
  /-- DI_GLITCH_PASS (R346): A raw level has held for GLITCH and passes the glitch filter. -/
  | diGlitchPass (p : Nat)
  /-- DI_DEBOUNCE_ACCEPT (R346): The filtered level has held for DEBOUNCE and the accepted level changes with a CHANGE record. -/
  | diDebounceAccept (p : Nat)
  /-- DI_STAMP_DISCARD (R347): The raw level has returned to the accepted level for GLITCH + DEBOUNCE and the held stamp is discarded. -/
  | diStampDiscard (p : Nat)
  /-- CHATTER_RELEASE (R349): The raw level makes no transition for REL and the lock ends with a CHATTER_OFF record. -/
  | chatterRelease (p : Nat)
  /-- CHATTER_WINDOW_LEAVE (R349): The oldest counted change leaves the chatter window T. -/
  | chatterWindowLeave (p : Nat)
  /-- DO_WRITE (R350): A write of DIS.OUT changes discrete output drive, with an OUT_CMD record where enabled. -/
  | doWrite (who : Agent) (k : Nat) (value : Word)
  /-- RB_MISMATCH (R350): An output's read-back differs from its drive for 10 µs and a mismatch is recorded. -/
  | rbMismatch (p : Nat)
  /-- SOE_RD_WRITE (R353): A write to SOE.RD releases records, refused if it passes WR. -/
  | soeRdWrite (who : Agent) (value : Word)
  /-- LEASE_RENEW (R363): Every L/3 the holder sends RENEW to the witness and a consent request to the standby. -/
  | leaseRenew
  /-- LEASE_LAPSE (R363): Both rights of the holder have ended and it becomes LAPSED. -/
  | leaseLapse
  /-- LEASE_REQUEST (R364): A member sends REQUEST to the witness after DEFER or every L/3 while its conditions hold. -/
  | leaseRequest
  /-- CONSENT_PROMISE_END (R360): A standby's consent promise of length L ends. -/
  | consentPromiseEnd
  /-- GRANT_RX (R375): A member receives a GRANT and becomes ACTIVE. -/
  | grantRx (bad : List (Bool × Nat × Nat) := [])
  /-- RENEWED_RX (R360): The holder receives RENEWED and its right from the witness restarts. -/
  | renewedRx
  /-- DENY_RX (R365): A member receives DENY with its reason. -/
  | denyRx
  /-- WITNESS_REQUEST_RX (R366): The witness receives REQUEST and grants, denies or keeps it pending. -/
  | witnessRequestRx
  /-- WITNESS_RENEW_RX (R366): The witness receives RENEW and restarts the lease, treats it as a REQUEST or denies it. -/
  | witnessRenewRx
  /-- WITNESS_RELEASE_RX (R366): The witness receives RELEASE and ends the lease, granting a successor or pending requester. -/
  | witnessReleaseRx
  /-- WITNESS_LEASE_EXPIRE (R366): A witness slot's lease expires and any pending requester is granted. -/
  | witnessLeaseExpire (slot : Nat)
  /-- WITNESS_SLOT_FREE (R366): A slot with neither holder nor request for 3600 s is freed. -/
  | witnessSlotFree (slot : Nat)
  /-- WITNESS_START_HOLD_END (R366): The 1100 ms start hold ends and the witness stops denying STARTING. -/
  | witnessStartHoldEnd
  /-- MIRROR_SEND (R368): Each member sends a MIRROR frame at least every 1 ms. -/
  | mirrorSend
  /-- MIRROR_FRAME_RX (R369): A MIRROR frame updates partner role and health, consent and ACK_MSN, and its records are logged and applied. -/
  | mirrorFrameRx (frame : Frame) (ecc : Bool)
  /-- MIRROR_LOST_TIMEOUT (R368): No MIRROR frame arrives for 5 ms and MIR becomes LOST. -/
  | mirrorLostTimeout
  /-- MIRROR_COPY_DONE (R371): The copy to the standby ends and MIR becomes IN_SYNC. -/
  | mirrorCopyDone
  /-- MIRROR_FIELD_TIMER (R369): Every FIELD_MS the holder sends FIELD records of changed serial and bench state. -/
  | mirrorFieldTimer
  /-- MIRROR_TOKEN_TIMER (R369): Every TOKEN_MS the holder sends a TOKENS record. -/
  | mirrorTokenTimer
  /-- PAIR_HANDOVER (R379): A write of 1 to PAR.CMD.HANDOVER starts a clean handover to the standby. -/
  | pairHandover (who : Agent)
  /-- HANDOVER_RELEASE (R379): The holder's records are acknowledged; it ends its permit, sends RELEASE naming the standby and becomes STANDBY. -/
  | handoverRelease
  /-- REVERT_HOLDOFF (R380): A preferred standby has been IN_SYNC and healthy for HOLDOFF and sends HANDOVER_REQ. -/
  | revertHoldoff
  /-- PAIR_PROVE (R383): A write of 1 to PAR.CMD.PROVE, or the PROVE_MIN timer, starts standby proving. -/
  | pairProve (who : Option Agent)
  /-- PROVE_DONE (R383): Proving ends and its result goes to PAR.PROVE_STAT. -/
  | proveDone (memFail analogFail digestFail : Bool)
  /-- VIN_DOMAIN_START (R387): VIN rises above UVLO and the VIN domain starts with its boot values. -/
  | vinDomainStart
  /-- VIN_UVLO (R387): VIN falls below UVLO, the gate turns off and the VIN domain stops. -/
  | vinUvlo
  /-- GATE_RAMP_START (R388): 1 ms after VIN is within VIN_ON and OV with no hold, the gate ramp starts. -/
  | gateRampStart
  /-- CURRENT_LIMIT_ENTER (R389): Sense voltage reaches ILIM, the gate is regulated and the fault timer runs. -/
  | currentLimitEnter
  /-- CURRENT_LIMIT_EXIT (R389): Current leaves the limit and the fault timer count decays. -/
  | currentLimitExit
  /-- FAULT_TIMER_TRIP (R389): The fault timer reaches TIMER, the gate turns off and PG deasserts. -/
  | faultTimerTrip
  /-- FAST_TRIP (R390): Sense voltage reaches the fast-trip level and the gate is pulled down within 1 µs. -/
  | fastTrip
  /-- RETRY_OFF_END (R391): The off-time after a trip ends and the ramp restarts using one retry. -/
  | retryOffEnd
  /-- RETRIES_RESTORE (R391): PG has been asserted for 10 s without a trip and RETRIES_LEFT is restored. -/
  | retriesRestore
  /-- OVER_VOLTAGE (R392): VIN rises above OV and the gate is held off. -/
  | overVoltage
  /-- OVER_VOLTAGE_END (R392): VIN falls 2 % below OV and the ramp restarts without a retry. -/
  | overVoltageEnd
  /-- THERMAL_GATE_OFF (R392): 3.0 ms after thermal shutdown the gate turns off. -/
  | thermalGateOff
  /-- THERMAL_RECOVER (R392): Both dies read below 130 °C and the ramp restarts without a retry. -/
  | thermalRecover
  /-- GATE_FAULT (R393): The gate has been driven for 5 ms without reaching gate on while current stays low, and a trip follows. -/
  | gateFault
  /-- GATE_WEAK (R393): The gate has not reached gate enhanced 20 ms after current left the limit. -/
  | gateWeak
  /-- DS_SHORT (R394): VOUT_S stays near VIN with the gate off for DS_TIME and DS_SHORT is reported. -/
  | dsShort
  /-- PG_ASSERT (R395): The PG conditions have held for PG_DLY and PG asserts. -/
  | pgAssert
  /-- PFW_ASSERT (R397): VIN stays below THRESH for FILT and PFW asserts. -/
  | pfwAssert
  /-- CHECKPOINT_DONE (R127): The power-fail checkpoint is complete in the chest. -/
  | checkpointDone
  /-- PFW_RELEASE (R398): All causes of PFW have been absent for RECOVER and PFW deasserts. -/
  | pfwRelease
  /-- PWR_BURN (R387): A write of 1 to PWR.CMD.BURN copies the power settings into OTP once. -/
  | pwrBurn (who : Agent) (value : Word)
  /-- MONITOR_SCAN (R403): A monitor scan ends and channels leave or return to their windows. -/
  | monitorScan (values : List Nat)
  /-- PIN_RESET (R405): RESET_N goes low and journal memory enters self-refresh. -/
  | pinReset
  /-- RESET_RELEASE (R409): RESET_N rises, PROF[1:0] is sampled and start-up begins. -/
  | resetRelease (prof : Nat)
  /-- STARTUP_STEP_DONE (R409): A start-up step completes and the next starts, or the sequence stops. -/
  | startupStepDone (ok : Bool) (errs : List ChestErr) (corrected : Nat) (badRecs : List Nat := [])
  /-- SERVICE_START (R410): PFW is deasserted, any checkpoint is voided and acceptance and execution start. -/
  | serviceStart
  /-- WARM_RESET (R407): A write of 0xA5C3 to GEN.RESET.KEY starts a warm reset. -/
  | warmReset (who : Agent) (value : Word)
  /-- DRAWER_SWITCH (R417): A write of SWITCH to DRW.CMD starts loading a drawer for a hitless switch. -/
  | drawerSwitch (who : Agent) (value : Word)
  /-- DRAWER_LOAD_DONE (R417): The switch's drawer has been checked and quiescing starts, or the switch is refused. -/
  | drawerLoadDone (ecc : Option Nat)
  /-- DRAWER_COMMIT (R417): All quiesced items are idle and every changed value applies at one point. -/
  | drawerCommit
  /-- QUIESCE_TIMEOUT (R418): QUIESCING outlasts QUIESCE_MS and the switch is abandoned. -/
  | quiesceTimeout
  /-- DRAWER_SAVE (R421): A write of SAVE to DRW.CMD writes the running Drawer fields into a drawer. -/
  | drawerSave (who : Agent) (value : Word)
  /-- DRAWER_SAVE_DONE (R421): A SAVE completes and PHASE returns to IDLE. -/
  | drawerSaveDone
  /-- FWU_STAGE (R430): A write of STAGE to FWU.CMD starts staging a manifest into the inactive slot. -/
  | fwuStage (who : Agent) (value : Word)
  /-- FWU_PUSH (R430): A write to FWU.PUSH_LO or PUSH_HI appends manifest bytes. -/
  | fwuPush (who : Agent) (off : Nat) (bytes : List Byte)
  /-- FWU_PUSH_END (R430): A write of END to FWU.PUSH_END closes the pushed manifest. -/
  | fwuPushEnd (who : Agent) (value : Word)
  /-- FWU_STAGING_DONE (R430): Staging and verification end and STATE becomes STAGED, or the staging is refused. -/
  | fwuStagingDone (flash : Bool) (readBack : Option Nat)
  /-- FWU_ACTIVATE (R434): A write of ACTIVATE to FWU.CMD writes the drawer set and commits the new slot by restart or hitless switch. -/
  | fwuActivate (who : Agent) (value : Word)
  /-- FWU_ABORT (R431): A write of ABORT to FWU.CMD ends a staging or an activation before its commit. -/
  | fwuAbort (who : Agent) (value : Word)
  /-- FWU_APPROVE (R436): A host write of APPROVE records approval for the current trial. -/
  | fwuApprove (who : Agent) (value : Word)
  /-- FWU_CONFIRM (R436): The management core writes 0xC0F1 to FWU.CONFIRM and the trial image is confirmed. -/
  | fwuConfirm (who : Agent) (value : Word)
  /-- CONFIRM_TIMEOUT (R437): The confirm window expires and the hub falls back to the previous image. -/
  | confirmTimeout
  /-- FALLBACK_RETRY (R437): An abandoned fallback switch is retried every 10 s. -/
  | fallbackRetry
  /-- UNLOCK_PAGE (R439): The owner command UNLOCK_PAGE, after its signature check, clears LOCK.LOCKED of a page. -/
  | unlockPage (who : Agent) (arg : Nat) (sig : List Byte)
  /-- SET_OWNER_LOCK (R439): The owner command SET_OWNER_LOCK writes a commit record with OWNER_LOCK 1. -/
  | setOwnerLock (who : Agent) (sig : List Byte)
  /-- CLEAR_OWNER_LOCK (R439): The owner command CLEAR_OWNER_LOCK writes a commit record with OWNER_LOCK 0. -/
  | clearOwnerLock (who : Agent) (sig : List Byte)
  /-- ENROLL (R439): The owner command ENROLL stores OKEY as the owner key. -/
  | enroll (who : Agent) (sig key : List Byte)
  /-- SELFTEST_RUN (R443): A write of 1 to BST.CMD.RUN or the PERIOD_MIN timer starts an online self-test pass. -/
  | selftestRun (who : Option Agent)
  /-- SELFTEST_PASS_DONE (R443): An online pass completes and records results, failures and fault-log records. -/
  | selftestPassDone (outs : List TestOut) (cells : List Nat)
  /-- OFFLINE_TEST (R447): A write of 0x5E1F to BST.OFFLINE.KEY stops service and runs logic and memory self-test. -/
  | offlineTest (who : Agent) (value : Word)
  /-- OFFLINE_TEST_DONE (R447): The offline test ends and the hub restarts as a pin reset. -/
  | offlineTestDone (ringFail fieldFail : Bool) (ringSig fieldSig : Word)
  /-- FAULT_LOG_POP (R450): A read of BST.FLOG_POP0 removes the oldest fault record and latches its other words. -/
  | faultLogPop (who : Agent)
  /-- TEST_UNLOCK_SET (R451): A write of 0x7E57 to PRT.UNLOCK.KEY while ALLOW is 1 sets test unlock. -/
  | testUnlockSet (who : Agent)
  /-- TEST_UNLOCK_CLEAR (R451): A write of 0x0000 to PRT.UNLOCK.KEY ends test unlock and clears every PERTURB. -/
  | testUnlockClear (who : Agent)
  /-- TEST_UNLOCK_EXPIRE (R451): UNLOCK_MIN minutes pass and test unlock ends. -/
  | testUnlockExpire
  /-- PERTURB_WRITE (R452): A write to a page's PERTURB sets injection of delay, back-pressure, credit loss or check errors. -/
  | perturbWrite (who : Agent) (page : Nat) (value : Word)
  /-- TEST_PIN_CHANGE (R455): The debounced TEST level changes and the challenge is replaced. -/
  | testPinChange (level : Bool)
  /-- SCAN_GO (R456): A write of GO to PRT.SCAN_GO checks the signed challenge and enters ZEROISING or is refused. -/
  | scanGo (who : Agent) (value : Word)
  /-- ZEROISE_DONE (R457): Zeroisation ends and the state becomes SCAN, or HALTED if TEST fell. -/
  | zeroiseDone
  /-- REACH_EXPIRE (R92): The loss bound passes with no ANNOUNCE copy from a node on one ring port, so REACH_E or REACH_W of its entry falls to 0 while the other path still holds and the entry stays PRESENT. -/
  | reachExpire (sub : Bool) (node : Nat) (port : Port)
  /-- TRIGGER_PULSE_END (R237): A trigger pulse reaches WIDTH × 10 ns and its pin and internal level return to the inactive level. -/
  | triggerPulseEnd (t : Nat)
  /-- USB_VBUS_CHANGE (R474): Upstream VBUS at USB_VBUS_DET crosses its present or absent threshold and the hub attaches or detaches upstream. -/
  | usbVbusChange (present : Bool)
  /-- PAIR_ANNOUNCE_SEND (R356): Every PAR.CTL.ANN_PERIOD the ACTIVE member sends an ANNOUNCE for PAIR_NODE with source PAIR_MAC and the pair epoch. -/
  | pairAnnounceSend
  /-- HOST_CREDIT_UPDATE (R211): The host returns PCIe flow-control credits and a waiting inbound TLP is issued, which is the instant of execution of its transaction. -/
  | hostCreditUpdate (posted postedData nonPosted : Nat)
  deriving DecidableEq, Repr

end Sys2Proof
end

