-- ==== Sys2Proof/Decode.lean ====
section
/-! DEFINITION. The command that a word spells by the bits of the table of operations: the table gives no row any bits. -/

namespace Sys2Proof

/-- The rows of the table that give bits, each with its number of bits, its fixed bits and its command: there are none. -/
def tableWords : List (Nat × Nat × Instr) := []

/-- The command that a word of `nbits` bits spells. -/
def decodeTableWord (nbits w : Nat) : Option Instr := (tableWords.find? fun r => r.1 == nbits && r.2.1 == w).map fun r => r.2.2

end Sys2Proof
end

