-- ==== Sys2Proof/Machine/RegType.lean ====
section
/-! DEFINITION. What a row of a register table says of one field (R9, R10, R35, R56). -/

namespace Sys2Proof.Machine

/-- The access codes of R9. -/
inductive Acc where
  | ro | rw | w1c | w1s | rc | wo | rwl
  deriving DecidableEq, Repr

/-- Where a field's value after a cold or pin reset comes from (R10). -/
inductive RstSrc where
  | value | drawer | live | pin | device
  deriving DecidableEq, Repr

/-- One field of a page type: `cnt` instances `stride` bytes apart from `off`, bits `lo` to `lo + w - 1`. -/
structure FieldD where
  off : Nat
  cnt : Nat
  stride : Nat
  lo : Nat
  w : Nat
  acc : Acc
  rst : Nat
  src : RstSrc
  warmClears : Bool
  least : Nat
  greatest : Nat
  frozen : Bool
  rsts : List Nat
  deriving DecidableEq, Repr

end Sys2Proof.Machine
end

