-- ==== Sys2Proof/Machine/RegMapField.lean ====
section
/-! DEFINITION. The register map of the field die: every field that a register table of spec/ gives a name, with its offset, bits,
access code, reset value, warm behaviour and range. Each row is: offset, count, stride, lowest bit, width, access, reset
value, reset source, cleared by a warm reset, least and greatest value a write may give it, frozen by FREEZE, and the
reset values one by one where they differ between the instances. -/

namespace Sys2Proof.Machine.F

/-! The registers of page type PWR, from spec/16_power_entry_and_hot_insertion.md. -/

def PWR_CFG_ILIM : FieldD := ⟨0x40, 1, 0, 0, 7, .rwl, 25, .drawer, false, 10, 100, false, []⟩
def PWR_CFG_FAST_MULT : FieldD := ⟨0x40, 1, 0, 7, 2, .rwl, 1, .drawer, false, 0, 2, false, []⟩
def PWR_CFG_TIMER : FieldD := ⟨0x40, 1, 0, 9, 10, .rwl, 200, .drawer, false, 1, 500, false, []⟩
def PWR_CFG_RETRY_COUNT : FieldD := ⟨0x40, 1, 0, 19, 8, .rwl, 255, .drawer, false, 0, 255, false, []⟩
def PWR_CFG_DS_RUN : FieldD := ⟨0x40, 1, 0, 27, 1, .rwl, 1, .drawer, false, 0, 1, false, []⟩
def PWR_VIN_VIN_ON : FieldD := ⟨0x44, 1, 0, 0, 10, .rwl, 90, .drawer, false, 90, 640, false, []⟩
def PWR_VIN_OV : FieldD := ⟨0x44, 1, 0, 16, 10, .rwl, 680, .drawer, false, 120, 760, false, []⟩
def PWR_PFW_THRESH : FieldD := ⟨0x48, 1, 0, 0, 10, .rwl, 96, .drawer, false, 90, 640, false, []⟩
def PWR_PFW_HYST : FieldD := ⟨0x48, 1, 0, 10, 6, .rwl, 10, .drawer, false, 1, 63, false, []⟩
def PWR_PFW_FILT : FieldD := ⟨0x48, 1, 0, 16, 7, .rwl, 10, .drawer, false, 0, 100, false, []⟩
def PWR_PFW_RECOVER : FieldD := ⟨0x48, 1, 0, 24, 8, .rwl, 50, .drawer, false, 1, 255, false, []⟩
def PWR_TIMING_PG_DLY : FieldD := ⟨0x4c, 1, 0, 0, 7, .rwl, 10, .drawer, false, 0, 100, false, []⟩
def PWR_TIMING_DS_TIME : FieldD := ⟨0x4c, 1, 0, 16, 10, .rwl, 100, .drawer, false, 10, 1000, false, []⟩
def PWR_HOLDUP_MIN_V : FieldD := ⟨0x50, 1, 0, 0, 10, .rw, 96, .drawer, false, 90, 640, false, []⟩
def PWR_STAT_STATE : FieldD := ⟨0x54, 1, 0, 0, 3, .ro, 0, .live, false, 0, 7, false, []⟩
def PWR_STAT_PG : FieldD := ⟨0x54, 1, 0, 3, 1, .ro, 0, .live, false, 0, 1, false, []⟩
def PWR_STAT_PFW : FieldD := ⟨0x54, 1, 0, 4, 1, .ro, 0, .live, false, 0, 1, false, []⟩
def PWR_STAT_HOLDUP_OK : FieldD := ⟨0x54, 1, 0, 5, 1, .ro, 0, .live, false, 0, 1, false, []⟩
def PWR_STAT_ENHANCED : FieldD := ⟨0x54, 1, 0, 6, 1, .ro, 0, .live, false, 0, 1, false, []⟩
def PWR_STAT_BOOT : FieldD := ⟨0x54, 1, 0, 7, 1, .ro, 0, .live, false, 0, 1, false, []⟩
def PWR_STAT_COUNT : FieldD := ⟨0x54, 1, 0, 8, 10, .ro, 0, .live, false, 0, 1023, false, []⟩
def PWR_STAT_RETRIES_LEFT : FieldD := ⟨0x54, 1, 0, 18, 8, .ro, 0, .live, false, 0, 255, false, []⟩
def PWR_STAT_GATE_CYCLED : FieldD := ⟨0x54, 1, 0, 26, 1, .ro, 0, .live, false, 0, 1, false, []⟩
def PWR_FAULT_TRIP : FieldD := ⟨0x58, 1, 0, 0, 1, .w1c, 0, .value, false, 0, 1, false, []⟩
def PWR_FAULT_FAST_TRIP : FieldD := ⟨0x58, 1, 0, 1, 1, .w1c, 0, .value, false, 0, 1, false, []⟩
def PWR_FAULT_GATE_FAULT : FieldD := ⟨0x58, 1, 0, 2, 1, .w1c, 0, .value, false, 0, 1, false, []⟩
def PWR_FAULT_GATE_WEAK : FieldD := ⟨0x58, 1, 0, 3, 1, .w1c, 0, .value, false, 0, 1, false, []⟩
def PWR_FAULT_DS_SHORT : FieldD := ⟨0x58, 1, 0, 4, 1, .w1c, 0, .value, false, 0, 1, false, []⟩
def PWR_FAULT_OV : FieldD := ⟨0x58, 1, 0, 5, 1, .w1c, 0, .value, false, 0, 1, false, []⟩
def PWR_FAULT_TSD : FieldD := ⟨0x58, 1, 0, 6, 1, .w1c, 0, .value, false, 0, 1, false, []⟩
def PWR_CMD_BURN : FieldD := ⟨0x5c, 1, 0, 0, 1, .wo, 0, .value, true, 0, 1, false, []⟩
def PWR_BOOT_BURNT : FieldD := ⟨0x60, 1, 0, 0, 1, .ro, 0, .live, false, 0, 1, false, []⟩
def PWR_TRIPS : FieldD := ⟨0x80, 1, 0, 0, 32, .ro, 0, .value, false, 0, 4294967295, true, []⟩
def PWR_FAST_TRIPS : FieldD := ⟨0x84, 1, 0, 0, 32, .ro, 0, .value, false, 0, 4294967295, true, []⟩
def PWR_FET_FAULTS : FieldD := ⟨0x88, 1, 0, 0, 32, .ro, 0, .value, false, 0, 4294967295, true, []⟩
def PWR_OV_EVENTS : FieldD := ⟨0x8c, 1, 0, 0, 32, .ro, 0, .value, false, 0, 4294967295, true, []⟩
def PWR_PFW_ASSERTS : FieldD := ⟨0x90, 1, 0, 0, 32, .ro, 0, .value, false, 0, 4294967295, true, []⟩
def PWR_PFW_RELEASES : FieldD := ⟨0x94, 1, 0, 0, 32, .ro, 0, .value, false, 0, 4294967295, true, []⟩

/-! The registers of page type MON, from spec/16_power_entry_and_hot_insertion.md. -/

def MON_CTL_FILT : FieldD := ⟨0x40, 1, 0, 0, 4, .rw, 2, .drawer, false, 1, 15, false, []⟩
def MON_OUT_OUT : FieldD := ⟨0x44, 1, 0, 0, 12, .ro, 0, .live, false, 0, 4095, false, []⟩
def MON_OUT_SEEN_SEEN : FieldD := ⟨0x48, 1, 0, 0, 12, .w1c, 0, .value, false, 0, 4095, false, []⟩
def MON_VAL_VAL : FieldD := ⟨0x80, 12, 4, 0, 12, .ro, 0, .live, false, 0, 4095, false, []⟩
def MON_WIN_LO : FieldD := ⟨0xc0, 12, 4, 0, 12, .rw, 0, .drawer, false, 0, 4095, false, []⟩
def MON_WIN_HI : FieldD := ⟨0xc0, 12, 4, 16, 12, .rw, 0, .drawer, false, 0, 4095, false, []⟩
def MON_WIN_ACT : FieldD := ⟨0xc0, 12, 4, 28, 1, .rw, 0, .drawer, false, 0, 1, false, []⟩
def MON_EXCURSIONS : FieldD := ⟨0x60, 1, 0, 0, 32, .ro, 0, .value, false, 0, 4294967295, true, []⟩

/-! The registers of page type SER, from spec/10_serial_ports_and_word_fifos.md. -/

def SER_CFG_DATA_BITS : FieldD := ⟨0x40, 1, 0, 0, 2, .rw, 0, .drawer, false, 0, 2, false, []⟩
def SER_CFG_PARITY : FieldD := ⟨0x40, 1, 0, 2, 2, .rw, 0, .drawer, false, 0, 3, false, []⟩
def SER_CFG_PAR_FIXED : FieldD := ⟨0x40, 1, 0, 4, 1, .rw, 0, .drawer, false, 0, 1, false, []⟩
def SER_CFG_STOP2 : FieldD := ⟨0x40, 1, 0, 5, 1, .rw, 0, .drawer, false, 0, 1, false, []⟩
def SER_CFG_MSB_FIRST : FieldD := ⟨0x40, 1, 0, 6, 1, .rw, 0, .drawer, false, 0, 1, false, []⟩
def SER_CFG_ERR_ACT : FieldD := ⟨0x40, 1, 0, 7, 1, .rw, 0, .drawer, false, 0, 1, false, []⟩
def SER_CFG_MODE : FieldD := ⟨0x40, 1, 0, 8, 2, .rw, 0, .drawer, false, 0, 2, false, []⟩
def SER_CFG_ECHO_SUPPRESS : FieldD := ⟨0x40, 1, 0, 10, 1, .rw, 0, .drawer, false, 0, 1, false, []⟩
def SER_CFG_DE_ON_LAST : FieldD := ⟨0x40, 1, 0, 11, 1, .rw, 0, .drawer, false, 0, 1, false, []⟩
def SER_CFG_DE_POL : FieldD := ⟨0x40, 1, 0, 12, 1, .rw, 0, .drawer, false, 0, 1, false, []⟩
def SER_CFG_FC_EN : FieldD := ⟨0x40, 1, 0, 13, 1, .rw, 0, .drawer, false, 0, 1, false, []⟩
def SER_CFG_FC_POL : FieldD := ⟨0x40, 1, 0, 14, 1, .rw, 0, .drawer, false, 0, 1, false, []⟩
def SER_CFG_CTS_EN : FieldD := ⟨0x40, 1, 0, 15, 1, .rw, 0, .drawer, false, 0, 1, false, []⟩
def SER_CFG_CTS_POL : FieldD := ⟨0x40, 1, 0, 16, 1, .rw, 0, .drawer, false, 0, 1, false, []⟩
def SER_CFG_INV_RX : FieldD := ⟨0x40, 1, 0, 17, 1, .rw, 0, .drawer, false, 0, 1, false, []⟩
def SER_CFG_INV_TX : FieldD := ⟨0x40, 1, 0, 18, 1, .rw, 0, .drawer, false, 0, 1, false, []⟩
def SER_BAUD_DIV : FieldD := ⟨0x44, 1, 0, 0, 28, .rw, 444444, .drawer, false, 2560, 170666667, false, []⟩
def SER_TIMING_CHAR_TO : FieldD := ⟨0x48, 1, 0, 0, 16, .rw, 40, .drawer, false, 10, 65535, false, []⟩
def SER_TIMING_IDLE : FieldD := ⟨0x48, 1, 0, 16, 16, .rw, 39, .drawer, false, 1, 65535, false, []⟩
def SER_DE_TIME_LEAD : FieldD := ⟨0x4c, 1, 0, 0, 16, .rw, 8, .drawer, false, 0, 65535, false, []⟩
def SER_DE_TIME_LAG : FieldD := ⟨0x4c, 1, 0, 16, 16, .rw, 8, .drawer, false, 0, 65535, false, []⟩
def SER_WMARK_HIGH : FieldD := ⟨0x50, 1, 0, 0, 11, .rw, 768, .drawer, false, 1, 1024, false, []⟩
def SER_WMARK_LOW : FieldD := ⟨0x50, 1, 0, 16, 11, .rw, 256, .drawer, false, 0, 2047, false, []⟩
def SER_BREAK_TX_LEN : FieldD := ⟨0x54, 1, 0, 0, 16, .rw, 24, .drawer, false, 0, 65535, false, []⟩
def SER_CMD_FLUSH : FieldD := ⟨0x58, 1, 0, 0, 1, .wo, 0, .value, true, 0, 1, false, []⟩
def SER_CMD_TX_BREAK : FieldD := ⟨0x58, 1, 0, 1, 1, .wo, 0, .value, true, 0, 1, false, []⟩
def SER_CMD_RX_CLEAR : FieldD := ⟨0x58, 1, 0, 2, 1, .wo, 0, .value, true, 0, 1, false, []⟩
def SER_CMD_TX_CLEAR : FieldD := ⟨0x58, 1, 0, 3, 1, .wo, 0, .value, true, 0, 1, false, []⟩
def SER_STAT_RX_FILL : FieldD := ⟨0x5c, 1, 0, 0, 11, .ro, 0, .live, true, 0, 2047, false, []⟩
def SER_STAT_TX_WORDS : FieldD := ⟨0x5c, 1, 0, 16, 7, .ro, 0, .live, true, 0, 127, false, []⟩
def SER_STAT_FC : FieldD := ⟨0x5c, 1, 0, 23, 1, .ro, 0, .live, true, 0, 1, false, []⟩
def SER_STAT_CTS : FieldD := ⟨0x5c, 1, 0, 24, 1, .ro, 0, .live, false, 0, 1, false, []⟩
def SER_STAT_DE : FieldD := ⟨0x5c, 1, 0, 25, 1, .ro, 0, .live, false, 0, 1, false, []⟩
def SER_STAT_LINE : FieldD := ⟨0x5c, 1, 0, 26, 1, .ro, 0, .live, false, 0, 1, false, []⟩
def SER_STAT_TX_BUSY : FieldD := ⟨0x5c, 1, 0, 27, 1, .ro, 0, .live, false, 0, 1, false, []⟩
def SER_MSG_START_STAMP : FieldD := ⟨0x60, 1, 0, 0, 32, .ro, 0, .value, false, 0, 4294967295, false, []⟩
def SER_MSG_END_STAMP : FieldD := ⟨0x64, 1, 0, 0, 32, .ro, 0, .value, false, 0, 4294967295, false, []⟩
def SER_MSG_FLAGS_UNSYNC : FieldD := ⟨0x68, 1, 0, 0, 1, .ro, 0, .value, false, 0, 1, false, []⟩
def SER_PUSH_CFG_EN : FieldD := ⟨0x70, 1, 0, 0, 1, .rw, 0, .drawer, false, 0, 1, false, []⟩
def SER_PUSH_CFG_VIEW : FieldD := ⟨0x70, 1, 0, 1, 1, .rw, 0, .drawer, false, 0, 1, false, []⟩
def SER_PUSH_CFG_OP : FieldD := ⟨0x70, 1, 0, 2, 1, .rw, 0, .drawer, false, 0, 1, false, []⟩
def SER_PUSH_CFG_MAX_WORDS : FieldD := ⟨0x70, 1, 0, 3, 5, .rw, 1, .drawer, false, 1, 32, false, []⟩
def SER_PUSH_CFG_DEPTH : FieldD := ⟨0x70, 1, 0, 8, 4, .rw, 1, .drawer, false, 1, 15, false, []⟩
def SER_PUSH_CFG_FLOW : FieldD := ⟨0x70, 1, 0, 12, 12, .rw, 0, .drawer, false, 0, 4095, false, []⟩
def SER_PUSH_CFG_WRAP : FieldD := ⟨0x70, 1, 0, 24, 4, .rw, 0, .drawer, false, 0, 12, false, []⟩
def SER_PUSH_ADDR_LO_ADDR_LO : FieldD := ⟨0x74, 1, 0, 0, 32, .rw, 0, .drawer, false, 0, 4294967295, false, []⟩
def SER_PUSH_ADDR_HI_ADDR_HI : FieldD := ⟨0x78, 1, 0, 0, 32, .rw, 0, .drawer, false, 0, 4294967295, false, []⟩
def SER_PUSH_TIME_HOLD : FieldD := ⟨0x7c, 1, 0, 0, 16, .rw, 1000, .drawer, false, 10, 65535, false, []⟩
def SER_PUSH_STAT_POS : FieldD := ⟨0xc0, 1, 0, 0, 20, .ro, 0, .live, true, 0, 1048575, false, []⟩
def SER_PUSH_STAT_OPEN : FieldD := ⟨0xc0, 1, 0, 20, 4, .ro, 0, .live, true, 0, 15, false, []⟩
def SER_RX_CHARS : FieldD := ⟨0x80, 1, 0, 0, 32, .ro, 0, .value, false, 0, 4294967295, true, []⟩
def SER_TX_CHARS : FieldD := ⟨0x84, 1, 0, 0, 32, .ro, 0, .value, false, 0, 4294967295, true, []⟩
def SER_RX_LOST : FieldD := ⟨0x88, 1, 0, 0, 32, .ro, 0, .value, false, 0, 4294967295, true, []⟩
def SER_PARITY_ERR : FieldD := ⟨0x8c, 1, 0, 0, 32, .ro, 0, .value, false, 0, 4294967295, true, []⟩
def SER_FRAMING_ERR : FieldD := ⟨0x90, 1, 0, 0, 32, .ro, 0, .value, false, 0, 4294967295, true, []⟩
def SER_BREAKS : FieldD := ⟨0x94, 1, 0, 0, 32, .ro, 0, .value, false, 0, 4294967295, true, []⟩
def SER_ECHO_DROP : FieldD := ⟨0x98, 1, 0, 0, 32, .ro, 0, .value, false, 0, 4294967295, true, []⟩
def SER_TX_DISCARD : FieldD := ⟨0x9c, 1, 0, 0, 32, .ro, 0, .value, false, 0, 4294967295, true, []⟩
def SER_TX_GAP : FieldD := ⟨0xa0, 1, 0, 0, 32, .ro, 0, .value, false, 0, 4294967295, true, []⟩
def SER_PUSH_TXN : FieldD := ⟨0xa4, 1, 0, 0, 32, .ro, 0, .value, false, 0, 4294967295, true, []⟩
def SER_PUSH_FAILED : FieldD := ⟨0xa8, 1, 0, 0, 32, .ro, 0, .value, false, 0, 4294967295, true, []⟩

/-! The registers of page type BEN, from spec/11_benches.md. -/

def BEN_CTL_RESTART_CLEAR : FieldD := ⟨0x40, 1, 0, 0, 1, .rw, 0, .drawer, false, 0, 1, false, []⟩
def BEN_CTL_AUTO_RUN : FieldD := ⟨0x40, 1, 0, 1, 1, .rw, 0, .drawer, false, 0, 1, false, []⟩
def BEN_CTL_FULL_ACT : FieldD := ⟨0x40, 1, 0, 2, 1, .rw, 0, .drawer, false, 0, 1, false, []⟩
def BEN_CMD_RUN : FieldD := ⟨0x44, 1, 0, 0, 1, .wo, 0, .value, true, 0, 1, false, []⟩
def BEN_CMD_STOP : FieldD := ⟨0x44, 1, 0, 1, 1, .wo, 0, .value, true, 0, 1, false, []⟩
def BEN_CMD_FLUSH : FieldD := ⟨0x44, 1, 0, 2, 1, .wo, 0, .value, true, 0, 1, false, []⟩
def BEN_CMD_RX_CLEAR : FieldD := ⟨0x44, 1, 0, 3, 1, .wo, 0, .value, true, 0, 1, false, []⟩
def BEN_CMD_TX_CLEAR : FieldD := ⟨0x44, 1, 0, 4, 1, .wo, 0, .value, true, 0, 1, false, []⟩
def BEN_STAT_RUN_STATE : FieldD := ⟨0x48, 1, 0, 0, 2, .ro, 0, .live, false, 0, 3, false, []⟩
def BEN_STAT_STALL_ON : FieldD := ⟨0x48, 1, 0, 2, 2, .ro, 0, .live, false, 0, 3, false, []⟩
def BEN_STAT_STOP_WHY : FieldD := ⟨0x48, 1, 0, 4, 3, .ro, 0, .value, false, 0, 7, false, []⟩
def BEN_STAT_INDEX : FieldD := ⟨0x48, 1, 0, 8, 10, .ro, 0, .live, false, 0, 1023, false, []⟩
def BEN_STATE_STATE : FieldD := ⟨0x4c, 1, 0, 0, 6, .rw, 0, .drawer, true, 0, 63, false, []⟩
def BEN_IN_SEL_IN0 : FieldD := ⟨0x50, 1, 0, 0, 8, .rw, 0, .drawer, false, 0, 255, false, []⟩
def BEN_IN_SEL_IN1 : FieldD := ⟨0x50, 1, 0, 8, 8, .rw, 0, .drawer, false, 0, 255, false, []⟩
def BEN_IN_SEL_IN2 : FieldD := ⟨0x50, 1, 0, 16, 8, .rw, 0, .drawer, false, 0, 255, false, []⟩
def BEN_IN_SEL_IN3 : FieldD := ⟨0x50, 1, 0, 24, 8, .rw, 0, .drawer, false, 0, 255, false, []⟩
def BEN_DIV_A_DIV : FieldD := ⟨0x54, 1, 0, 0, 24, .rw, 2, .drawer, false, 2, 16777215, false, []⟩
def BEN_DIV_B_DIV : FieldD := ⟨0x58, 1, 0, 0, 24, .rw, 2, .drawer, false, 2, 16777215, false, []⟩
def BEN_SHIFT_CFG_WIDTH : FieldD := ⟨0x5c, 1, 0, 0, 5, .rw, 1, .drawer, false, 1, 16, false, []⟩
def BEN_SHIFT_CFG_LSB_FIRST : FieldD := ⟨0x5c, 1, 0, 5, 1, .rw, 0, .drawer, false, 0, 1, false, []⟩
def BEN_SHIFT_CFG_SOUT_EN : FieldD := ⟨0x5c, 1, 0, 6, 1, .rw, 0, .drawer, false, 0, 1, false, []⟩
def BEN_SHIFT_CFG_SOUT_SLOT : FieldD := ⟨0x5c, 1, 0, 7, 3, .rw, 0, .drawer, false, 0, 7, false, []⟩
def BEN_SHIFT_CFG_SIN_SEL : FieldD := ⟨0x5c, 1, 0, 16, 8, .rw, 0, .drawer, false, 0, 191, false, []⟩
def BEN_OUT_CFG_INIT : FieldD := ⟨0x60, 1, 0, 0, 8, .rw, 0, .drawer, false, 0, 255, false, []⟩
def BEN_OUT_CFG_FC_SLOT : FieldD := ⟨0x60, 1, 0, 8, 3, .rw, 0, .drawer, false, 0, 7, false, []⟩
def BEN_OUT_CFG_FC_EN : FieldD := ⟨0x60, 1, 0, 11, 1, .rw, 0, .drawer, false, 0, 1, false, []⟩
def BEN_OUT_CFG_FC_POL : FieldD := ⟨0x60, 1, 0, 12, 1, .rw, 0, .drawer, false, 0, 1, false, []⟩
def BEN_OUT_CFG_START_STATE : FieldD := ⟨0x60, 1, 0, 16, 6, .rw, 0, .drawer, false, 0, 63, false, []⟩
def BEN_SR_SR : FieldD := ⟨0x64, 1, 0, 0, 32, .rw, 0, .value, true, 0, 4294967295, false, []⟩
def BEN_COUNT_COUNT : FieldD := ⟨0x68, 1, 0, 0, 5, .rw, 0, .value, true, 0, 31, false, []⟩
def BEN_OUT_SLOTS : FieldD := ⟨0x6c, 1, 0, 0, 8, .ro, 0, .live, false, 0, 255, false, []⟩
def BEN_WMARK_HIGH : FieldD := ⟨0x70, 1, 0, 0, 12, .rw, 1536, .drawer, false, 1, 2048, false, []⟩
def BEN_WMARK_LOW : FieldD := ⟨0x70, 1, 0, 16, 12, .rw, 512, .drawer, false, 0, 4095, false, []⟩
def BEN_FIFO_STAT_RX_FILL : FieldD := ⟨0x74, 1, 0, 0, 12, .ro, 0, .live, true, 0, 4095, false, []⟩
def BEN_FIFO_STAT_TX_WORDS : FieldD := ⟨0x74, 1, 0, 16, 9, .ro, 0, .live, true, 0, 511, false, []⟩
def BEN_FIFO_STAT_FC : FieldD := ⟨0x74, 1, 0, 25, 1, .ro, 0, .live, true, 0, 1, false, []⟩
def BEN_STALL_TO : FieldD := ⟨0x78, 1, 0, 0, 16, .rw, 1000, .drawer, false, 1, 65535, false, []⟩
def BEN_TXD_DATA : FieldD := ⟨0x7c, 1, 0, 0, 16, .wo, 0, .value, true, 0, 65535, false, []⟩
def BEN_ERR_WRITE_WHILE_RUN : FieldD := ⟨0x80, 1, 0, 0, 1, .w1c, 0, .value, false, 0, 1, false, []⟩
def BEN_ERR_STALL_TIMEOUT : FieldD := ⟨0x80, 1, 0, 1, 1, .w1c, 0, .value, false, 0, 1, false, []⟩
def BEN_ERR_TABLE_PARITY : FieldD := ⟨0x80, 1, 0, 2, 1, .w1c, 0, .value, false, 0, 1, false, []⟩
def BEN_ERR_WHERE : FieldD := ⟨0x80, 1, 0, 16, 10, .ro, 0, .value, false, 0, 1023, false, []⟩
def BEN_ERR_IN_TABLE : FieldD := ⟨0x80, 1, 0, 26, 1, .ro, 0, .value, false, 0, 1, false, []⟩
def BEN_EVT_STAMP_STAMP : FieldD := ⟨0x84, 1, 0, 0, 32, .ro, 0, .value, false, 0, 4294967295, false, []⟩
def BEN_EVT_INFO_STATE : FieldD := ⟨0x88, 1, 0, 0, 6, .ro, 0, .value, false, 0, 63, false, []⟩
def BEN_EVT_INFO_INDEX : FieldD := ⟨0x88, 1, 0, 8, 10, .ro, 0, .value, false, 0, 1023, false, []⟩
def BEN_EVT_INFO_UNSYNC : FieldD := ⟨0x88, 1, 0, 30, 1, .ro, 0, .value, false, 0, 1, false, []⟩
def BEN_PUSH_CFG_EN : FieldD := ⟨0x90, 1, 0, 0, 1, .rw, 0, .drawer, false, 0, 1, false, []⟩
def BEN_PUSH_CFG_VIEW : FieldD := ⟨0x90, 1, 0, 1, 1, .rw, 0, .drawer, false, 0, 1, false, []⟩
def BEN_PUSH_CFG_OP : FieldD := ⟨0x90, 1, 0, 2, 1, .rw, 0, .drawer, false, 0, 1, false, []⟩
def BEN_PUSH_CFG_MAX_WORDS : FieldD := ⟨0x90, 1, 0, 3, 5, .rw, 1, .drawer, false, 1, 32, false, []⟩
def BEN_PUSH_CFG_DEPTH : FieldD := ⟨0x90, 1, 0, 8, 4, .rw, 1, .drawer, false, 1, 15, false, []⟩
def BEN_PUSH_CFG_FLOW : FieldD := ⟨0x90, 1, 0, 12, 12, .rw, 0, .drawer, false, 0, 4095, false, []⟩
def BEN_PUSH_CFG_WRAP : FieldD := ⟨0x90, 1, 0, 24, 4, .rw, 0, .drawer, false, 0, 12, false, []⟩
def BEN_PUSH_ADDR_LO_ADDR_LO : FieldD := ⟨0x94, 1, 0, 0, 32, .rw, 0, .drawer, false, 0, 4294967295, false, []⟩
def BEN_PUSH_ADDR_HI_ADDR_HI : FieldD := ⟨0x98, 1, 0, 0, 32, .rw, 0, .drawer, false, 0, 4294967295, false, []⟩
def BEN_PUSH_TIME_HOLD : FieldD := ⟨0x9c, 1, 0, 0, 16, .rw, 1000, .drawer, false, 10, 65535, false, []⟩
def BEN_PUSH_STAT_POS : FieldD := ⟨0xc0, 1, 0, 0, 20, .ro, 0, .live, true, 0, 1048575, false, []⟩
def BEN_PUSH_STAT_OPEN : FieldD := ⟨0xc0, 1, 0, 20, 4, .ro, 0, .live, true, 0, 15, false, []⟩
def BEN_STEPS : FieldD := ⟨0xa0, 1, 0, 0, 32, .ro, 0, .value, false, 0, 4294967295, true, []⟩
def BEN_EVENTS : FieldD := ⟨0xa4, 1, 0, 0, 32, .ro, 0, .value, false, 0, 4294967295, true, []⟩
def BEN_STALLS : FieldD := ⟨0xa8, 1, 0, 0, 32, .ro, 0, .value, false, 0, 4294967295, true, []⟩
def BEN_RX_LOST : FieldD := ⟨0xac, 1, 0, 0, 32, .ro, 0, .value, false, 0, 4294967295, true, []⟩
def BEN_TX_GAP : FieldD := ⟨0xb0, 1, 0, 0, 32, .ro, 0, .value, false, 0, 4294967295, true, []⟩
def BEN_TX_DISCARD : FieldD := ⟨0xb4, 1, 0, 0, 32, .ro, 0, .value, false, 0, 4294967295, true, []⟩
def BEN_PUSH_TXN : FieldD := ⟨0xb8, 1, 0, 0, 32, .ro, 0, .value, false, 0, 4294967295, true, []⟩
def BEN_PUSH_FAILED : FieldD := ⟨0xbc, 1, 0, 0, 32, .ro, 0, .value, false, 0, 4294967295, true, []⟩

/-! The registers of page type BTB, from spec/11_benches.md. -/

def BTB_RUN_MASK_MASK : FieldD := ⟨0x40, 1, 0, 0, 16, .wo, 0, .value, true, 0, 65535, false, []⟩
def BTB_STOP_MASK_MASK : FieldD := ⟨0x44, 1, 0, 0, 16, .wo, 0, .value, true, 0, 65535, false, []⟩
def BTB_STATE_RUNNING : FieldD := ⟨0x48, 1, 0, 0, 16, .ro, 0, .live, false, 0, 65535, false, []⟩
def BTB_STATE_STALLED : FieldD := ⟨0x48, 1, 0, 16, 16, .ro, 0, .live, false, 0, 65535, false, []⟩
def BTB_CRC_CMD_BENCH : FieldD := ⟨0x4c, 1, 0, 0, 4, .wo, 0, .value, true, 0, 15, false, []⟩
def BTB_CRC_CMD_GO : FieldD := ⟨0x4c, 1, 0, 4, 1, .wo, 0, .value, true, 0, 1, false, []⟩
def BTB_CRC_RESULT_CRC : FieldD := ⟨0x50, 1, 0, 0, 32, .ro, 0, .value, false, 0, 4294967295, false, []⟩
def BTB_CRC_STAT_BUSY : FieldD := ⟨0x54, 1, 0, 0, 1, .ro, 0, .live, false, 0, 1, false, []⟩
def BTB_CRC_STAT_DIRTY : FieldD := ⟨0x54, 1, 0, 1, 1, .ro, 0, .value, false, 0, 1, false, []⟩

/-! The registers of page type PIN, from spec/14_discrete_lines.md. -/

def PIN_LEVEL_LEVEL : FieldD := ⟨0x40, 6, 4, 0, 32, .ro, 0, .live, false, 0, 4294967295, false, []⟩
def PIN_CFG_FUNC : FieldD := ⟨0x100, 192, 4, 0, 4, .rw, 0, .drawer, false, 0, 7, false, []⟩
def PIN_CFG_INST : FieldD := ⟨0x100, 192, 4, 4, 5, .rw, 0, .drawer, false, 0, 31, false, []⟩
def PIN_CFG_SIG : FieldD := ⟨0x100, 192, 4, 9, 3, .rw, 0, .drawer, false, 0, 7, false, []⟩
def PIN_CFG_LOST : FieldD := ⟨0x100, 192, 4, 12, 2, .rw, 0, .drawer, false, 0, 3, false, []⟩
def PIN_CFG_OD : FieldD := ⟨0x100, 192, 4, 14, 1, .rw, 0, .drawer, false, 0, 1, false, []⟩
def PIN_CFG_PULL : FieldD := ⟨0x100, 192, 4, 15, 2, .rw, 0, .drawer, false, 0, 2, false, []⟩
def PIN_CFG_INV : FieldD := ⟨0x100, 192, 4, 17, 1, .rw, 0, .drawer, false, 0, 1, false, []⟩

/-! The registers of page type DIS, from spec/14_discrete_lines.md. -/

def DIS_CHAT_N : FieldD := ⟨0x40, 4, 4, 0, 8, .rw, 2, .drawer, false, 2, 255, false, []⟩
def DIS_CHAT_T : FieldD := ⟨0x40, 4, 4, 8, 16, .rw, 1, .drawer, false, 1, 65535, false, []⟩
def DIS_CHAT_REL : FieldD := ⟨0x40, 4, 4, 24, 8, .rw, 1, .drawer, false, 1, 255, false, []⟩
def DIS_LEVEL_LEVEL : FieldD := ⟨0x60, 6, 4, 0, 32, .ro, 0, .live, false, 0, 4294967295, false, []⟩
def DIS_LOCKED_LOCKED : FieldD := ⟨0x80, 6, 4, 0, 32, .ro, 0, .live, false, 0, 4294967295, false, []⟩
def DIS_OUT_OUT : FieldD := ⟨0xa0, 6, 4, 0, 32, .rw, 0, .drawer, false, 0, 4294967295, false, []⟩
def DIS_RB_RB : FieldD := ⟨0xc0, 6, 4, 0, 32, .ro, 0, .live, false, 0, 4294967295, false, []⟩
def DIS_RB_ERR_ERR : FieldD := ⟨0xe0, 6, 4, 0, 32, .w1c, 0, .value, false, 0, 4294967295, false, []⟩
def DIS_CFG_GLITCH : FieldD := ⟨0x100, 192, 4, 0, 10, .rw, 0, .drawer, false, 0, 1000, false, []⟩
def DIS_CFG_DEBOUNCE : FieldD := ⟨0x100, 192, 4, 10, 16, .rw, 0, .drawer, false, 0, 65535, false, []⟩
def DIS_CFG_CHAT : FieldD := ⟨0x100, 192, 4, 26, 3, .rw, 0, .drawer, false, 0, 4, false, []⟩
def DIS_CFG_RB_EN : FieldD := ⟨0x100, 192, 4, 29, 1, .rw, 0, .drawer, false, 0, 1, false, []⟩
def DIS_CFG_EDGES : FieldD := ⟨0x100, 192, 4, 30, 2, .rw, 0, .drawer, false, 0, 3, false, []⟩
def DIS_CHANGES : FieldD := ⟨0x400, 1, 0, 0, 32, .ro, 0, .value, false, 0, 4294967295, true, []⟩
def DIS_SUPPRESSED : FieldD := ⟨0x404, 1, 0, 0, 32, .ro, 0, .value, false, 0, 4294967295, true, []⟩
def DIS_RB_MISMATCH : FieldD := ⟨0x408, 1, 0, 0, 32, .ro, 0, .value, false, 0, 4294967295, true, []⟩

/-! The registers of page type SOE, from spec/14_discrete_lines.md. -/

def SOE_WR_WR : FieldD := ⟨0x40, 1, 0, 0, 21, .ro, 0, .live, false, 0, 2097151, false, []⟩
def SOE_RD_RD : FieldD := ⟨0x44, 1, 0, 0, 21, .rw, 0, .value, false, 0, 2097151, false, []⟩
def SOE_WMARK_HIGH : FieldD := ⟨0x48, 1, 0, 0, 21, .rw, 1572864, .drawer, false, 1, 2097151, false, []⟩
def SOE_SEQ_SEQ : FieldD := ⟨0x4c, 1, 0, 0, 32, .ro, 0, .live, false, 0, 4294967295, false, []⟩
def SOE_RECORDS : FieldD := ⟨0x60, 1, 0, 0, 32, .ro, 0, .value, false, 0, 4294967295, true, []⟩
def SOE_LOST : FieldD := ⟨0x64, 1, 0, 0, 32, .ro, 0, .value, false, 0, 4294967295, true, []⟩

/-! The registers of page type CAN, from spec/12_can_ports.md. -/

def CAN_CFG_MODE : FieldD := ⟨0x40, 1, 0, 0, 2, .rw, 0, .drawer, false, 0, 2, false, []⟩
def CAN_CFG_FD_EN : FieldD := ⟨0x40, 1, 0, 2, 1, .rw, 0, .drawer, false, 0, 1, false, []⟩
def CAN_CFG_AUTO_RECOVER : FieldD := ⟨0x40, 1, 0, 3, 1, .rw, 0, .drawer, false, 0, 1, false, []⟩
def CAN_CFG_ECHO_EN : FieldD := ⟨0x40, 1, 0, 4, 1, .rw, 0, .drawer, false, 0, 1, false, []⟩
def CAN_CFG_TT_MASTER : FieldD := ⟨0x40, 1, 0, 5, 1, .rw, 0, .drawer, false, 0, 1, false, []⟩
def CAN_CFG_TDC_EN : FieldD := ⟨0x40, 1, 0, 6, 1, .rw, 0, .drawer, false, 0, 1, false, []⟩
def CAN_NBT_BRP : FieldD := ⟨0x44, 1, 0, 0, 6, .rw, 1, .drawer, false, 1, 32, false, []⟩
def CAN_NBT_TSEG1 : FieldD := ⟨0x44, 1, 0, 6, 9, .rw, 2, .drawer, false, 2, 256, false, []⟩
def CAN_NBT_TSEG2 : FieldD := ⟨0x44, 1, 0, 15, 7, .rw, 1, .drawer, false, 1, 127, false, []⟩
def CAN_NBT_SJW : FieldD := ⟨0x44, 1, 0, 22, 7, .rw, 0, .drawer, false, 0, 127, false, []⟩
def CAN_DBT_BRP : FieldD := ⟨0x48, 1, 0, 0, 6, .rw, 1, .drawer, false, 1, 32, false, []⟩
def CAN_DBT_TSEG1 : FieldD := ⟨0x48, 1, 0, 6, 6, .rw, 2, .drawer, false, 2, 32, false, []⟩
def CAN_DBT_TSEG2 : FieldD := ⟨0x48, 1, 0, 12, 5, .rw, 1, .drawer, false, 1, 16, false, []⟩
def CAN_DBT_SJW : FieldD := ⟨0x48, 1, 0, 17, 5, .rw, 1, .drawer, false, 1, 16, false, []⟩
def CAN_DBT_TDC_OFFSET : FieldD := ⟨0x48, 1, 0, 22, 7, .rw, 0, .drawer, false, 0, 127, false, []⟩
def CAN_STAT_STATE : FieldD := ⟨0x4c, 1, 0, 0, 2, .ro, 0, .live, true, 0, 3, false, []⟩
def CAN_STAT_IDLE : FieldD := ⟨0x4c, 1, 0, 2, 1, .ro, 0, .live, false, 0, 1, false, []⟩
def CAN_STAT_SYNC : FieldD := ⟨0x4c, 1, 0, 3, 1, .ro, 0, .live, true, 0, 1, false, []⟩
def CAN_STAT_LEC : FieldD := ⟨0x4c, 1, 0, 4, 3, .ro, 0, .value, true, 0, 7, false, []⟩
def CAN_STAT_TDCV : FieldD := ⟨0x4c, 1, 0, 8, 7, .ro, 0, .live, false, 0, 127, false, []⟩
def CAN_STAT_IN_HAND : FieldD := ⟨0x4c, 1, 0, 16, 5, .ro, 0, .live, false, 0, 31, false, []⟩
def CAN_STAT_IN_HAND_VALID : FieldD := ⟨0x4c, 1, 0, 21, 1, .ro, 0, .live, false, 0, 1, false, []⟩
def CAN_ERRCNT_TEC : FieldD := ⟨0x50, 1, 0, 0, 9, .ro, 0, .live, true, 0, 511, false, []⟩
def CAN_ERRCNT_REC : FieldD := ⟨0x50, 1, 0, 16, 9, .ro, 0, .live, true, 0, 511, false, []⟩
def CAN_CMD_RECOVER : FieldD := ⟨0x54, 1, 0, 0, 1, .wo, 0, .value, true, 0, 1, false, []⟩
def CAN_TX_REQ_REQ : FieldD := ⟨0x58, 1, 0, 0, 32, .w1s, 0, .value, true, 0, 4294967295, false, []⟩
def CAN_TX_CANCEL_CANCEL : FieldD := ⟨0x5c, 1, 0, 0, 32, .w1s, 0, .value, true, 0, 4294967295, false, []⟩
def CAN_TX_DONE_DONE : FieldD := ⟨0x60, 1, 0, 0, 32, .w1c, 0, .value, true, 0, 4294967295, false, []⟩
def CAN_RX_WR_WR : FieldD := ⟨0x64, 1, 0, 0, 16, .ro, 0, .live, false, 0, 65535, false, []⟩
def CAN_RX_RD_RD : FieldD := ⟨0x68, 1, 0, 0, 16, .rw, 0, .value, false, 0, 65535, false, []⟩
def CAN_RX_WMARK_HIGH : FieldD := ⟨0x6c, 1, 0, 0, 16, .rw, 49152, .drawer, false, 1, 65535, false, []⟩
def CAN_RX_SEQ_SEQ : FieldD := ⟨0x70, 1, 0, 0, 32, .ro, 0, .live, false, 0, 4294967295, false, []⟩
def CAN_TT_REF_ID : FieldD := ⟨0x74, 1, 0, 0, 29, .rw, 0, .drawer, false, 0, 536870911, false, []⟩
def CAN_TT_REF_XTD : FieldD := ⟨0x74, 1, 0, 29, 1, .rw, 0, .drawer, false, 0, 1, false, []⟩
def CAN_TT_CTL_CYCLE_MAX : FieldD := ⟨0x78, 1, 0, 0, 6, .rw, 0, .drawer, false, 0, 63, false, []⟩
def CAN_TT_CTL_REF_LATE : FieldD := ⟨0x78, 1, 0, 8, 16, .rw, 500, .drawer, false, 10, 65535, false, []⟩
def CAN_TT_CTL_WIN : FieldD := ⟨0x78, 1, 0, 24, 8, .rw, 1, .drawer, false, 1, 255, false, []⟩
def CAN_TT_STAT_CYCLE : FieldD := ⟨0x7c, 1, 0, 0, 6, .ro, 0, .live, true, 0, 63, false, []⟩
def CAN_TT_STAT_REF_PENDING : FieldD := ⟨0x7c, 1, 0, 6, 1, .ro, 0, .live, true, 0, 1, false, []⟩
def CAN_TT_SCHED_BASE : FieldD := ⟨0x100, 32, 4, 0, 6, .rw, 0, .drawer, false, 0, 63, false, []⟩
def CAN_TT_SCHED_REPEAT_LOG2 : FieldD := ⟨0x100, 32, 4, 6, 3, .rw, 0, .drawer, false, 0, 6, false, []⟩
def CAN_TT_SCHED_BUFFER : FieldD := ⟨0x100, 32, 4, 9, 5, .rw, 0, .drawer, false, 0, 31, false, []⟩
def CAN_TT_SCHED_EN : FieldD := ⟨0x100, 32, 4, 14, 1, .rw, 0, .drawer, false, 0, 1, false, []⟩
def CAN_TT_SCHED_OFFSET : FieldD := ⟨0x100, 32, 4, 16, 16, .rw, 0, .drawer, false, 0, 65535, false, []⟩
def CAN_BUF_ID_ID : FieldD := ⟨0x200, 32, 96, 0, 29, .rw, 0, .value, false, 0, 536870911, false, []⟩
def CAN_BUF_ID_XTD : FieldD := ⟨0x200, 32, 96, 29, 1, .rw, 0, .value, false, 0, 1, false, []⟩
def CAN_BUF_ID_RTR : FieldD := ⟨0x200, 32, 96, 30, 1, .rw, 0, .value, false, 0, 1, false, []⟩
def CAN_BUF_FMT_DLC : FieldD := ⟨0x204, 32, 96, 0, 4, .rw, 0, .value, false, 0, 15, false, []⟩
def CAN_BUF_FMT_FDF : FieldD := ⟨0x204, 32, 96, 4, 1, .rw, 0, .value, false, 0, 1, false, []⟩
def CAN_BUF_FMT_BRS : FieldD := ⟨0x204, 32, 96, 5, 1, .rw, 0, .value, false, 0, 1, false, []⟩
def CAN_BUF_FMT_ONE_SHOT : FieldD := ⟨0x204, 32, 96, 6, 1, .rw, 0, .value, false, 0, 1, false, []⟩
def CAN_BUF_FMT_TT : FieldD := ⟨0x204, 32, 96, 7, 1, .rw, 0, .value, false, 0, 1, false, []⟩
def CAN_BUF_DATA_DATA : FieldD := ⟨0x208, 32, 96, 0, 32, .rw, 0, .value, false, 0, 4294967295, false, []⟩
def CAN_BUF_STAT_OUTCOME : FieldD := ⟨0x248, 32, 96, 0, 4, .ro, 0, .value, false, 0, 15, false, []⟩
def CAN_BUF_SENT_NS_NS : FieldD := ⟨0x24c, 32, 96, 0, 32, .ro, 0, .value, false, 0, 4294967295, false, []⟩
def CAN_BUF_SENT_SEC_SEC_LO : FieldD := ⟨0x250, 32, 96, 0, 32, .ro, 0, .value, false, 0, 4294967295, false, []⟩
def CAN_BUF_DATA_DATA1 : FieldD := ⟨0x20c, 32, 96, 0, 32, .rw, 0, .value, false, 0, 4294967295, false, []⟩
def CAN_BUF_DATA_DATA2 : FieldD := ⟨0x210, 32, 96, 0, 32, .rw, 0, .value, false, 0, 4294967295, false, []⟩
def CAN_BUF_DATA_DATA3 : FieldD := ⟨0x214, 32, 96, 0, 32, .rw, 0, .value, false, 0, 4294967295, false, []⟩
def CAN_BUF_DATA_DATA4 : FieldD := ⟨0x218, 32, 96, 0, 32, .rw, 0, .value, false, 0, 4294967295, false, []⟩
def CAN_BUF_DATA_DATA5 : FieldD := ⟨0x21c, 32, 96, 0, 32, .rw, 0, .value, false, 0, 4294967295, false, []⟩
def CAN_BUF_DATA_DATA6 : FieldD := ⟨0x220, 32, 96, 0, 32, .rw, 0, .value, false, 0, 4294967295, false, []⟩
def CAN_BUF_DATA_DATA7 : FieldD := ⟨0x224, 32, 96, 0, 32, .rw, 0, .value, false, 0, 4294967295, false, []⟩
def CAN_BUF_DATA_DATA8 : FieldD := ⟨0x228, 32, 96, 0, 32, .rw, 0, .value, false, 0, 4294967295, false, []⟩
def CAN_BUF_DATA_DATA9 : FieldD := ⟨0x22c, 32, 96, 0, 32, .rw, 0, .value, false, 0, 4294967295, false, []⟩
def CAN_BUF_DATA_DATA10 : FieldD := ⟨0x230, 32, 96, 0, 32, .rw, 0, .value, false, 0, 4294967295, false, []⟩
def CAN_BUF_DATA_DATA11 : FieldD := ⟨0x234, 32, 96, 0, 32, .rw, 0, .value, false, 0, 4294967295, false, []⟩
def CAN_BUF_DATA_DATA12 : FieldD := ⟨0x238, 32, 96, 0, 32, .rw, 0, .value, false, 0, 4294967295, false, []⟩
def CAN_BUF_DATA_DATA13 : FieldD := ⟨0x23c, 32, 96, 0, 32, .rw, 0, .value, false, 0, 4294967295, false, []⟩
def CAN_BUF_DATA_DATA14 : FieldD := ⟨0x240, 32, 96, 0, 32, .rw, 0, .value, false, 0, 4294967295, false, []⟩
def CAN_BUF_DATA_DATA15 : FieldD := ⟨0x244, 32, 96, 0, 32, .rw, 0, .value, false, 0, 4294967295, false, []⟩
def CAN_RX_FRAMES : FieldD := ⟨0xa0, 1, 0, 0, 32, .ro, 0, .value, false, 0, 4294967295, true, []⟩
def CAN_RX_LOST : FieldD := ⟨0xa4, 1, 0, 0, 32, .ro, 0, .value, false, 0, 4294967295, true, []⟩
def CAN_TX_FRAMES : FieldD := ⟨0xa8, 1, 0, 0, 32, .ro, 0, .value, false, 0, 4294967295, true, []⟩
def CAN_ARB_LOST : FieldD := ⟨0xac, 1, 0, 0, 32, .ro, 0, .value, false, 0, 4294967295, true, []⟩
def CAN_BUS_ERRORS : FieldD := ⟨0xb0, 1, 0, 0, 32, .ro, 0, .value, false, 0, 4294967295, true, []⟩
def CAN_BUS_OFFS : FieldD := ⟨0xb4, 1, 0, 0, 32, .ro, 0, .value, false, 0, 4294967295, true, []⟩
def CAN_REF_SENT : FieldD := ⟨0xb8, 1, 0, 0, 32, .ro, 0, .value, false, 0, 4294967295, true, []⟩
def CAN_REF_MISSED : FieldD := ⟨0xbc, 1, 0, 0, 32, .ro, 0, .value, false, 0, 4294967295, true, []⟩

/-! The registers of page type USB, from spec/13_usb_service_port.md. -/

def USB_CTL_PORT_DIS : FieldD := ⟨0x40, 1, 0, 0, 3, .rw, 0, .drawer, false, 0, 7, false, []⟩
def USB_CTL_PWR_POL : FieldD := ⟨0x40, 1, 0, 3, 1, .rw, 0, .drawer, false, 0, 1, false, []⟩
def USB_STAT_UP_STATE : FieldD := ⟨0x44, 1, 0, 0, 2, .ro, 0, .live, false, 0, 3, false, []⟩
def USB_STAT_VBUS : FieldD := ⟨0x44, 1, 0, 2, 1, .ro, 0, .live, false, 0, 1, false, []⟩
def USB_STAT_HIGH_SPEED : FieldD := ⟨0x44, 1, 0, 3, 1, .ro, 0, .live, false, 0, 1, false, []⟩
def USB_STAT_ADDR : FieldD := ⟨0x44, 1, 0, 4, 7, .ro, 0, .live, false, 0, 127, false, []⟩
def USB_PORT_CONNECT : FieldD := ⟨0x50, 4, 4, 0, 1, .ro, 0, .live, false, 0, 1, false, []⟩
def USB_PORT_ENABLE : FieldD := ⟨0x50, 4, 4, 1, 1, .ro, 0, .live, false, 0, 1, false, []⟩
def USB_PORT_SUSPEND : FieldD := ⟨0x50, 4, 4, 2, 1, .ro, 0, .live, false, 0, 1, false, []⟩
def USB_PORT_OVER_CURRENT : FieldD := ⟨0x50, 4, 4, 3, 1, .ro, 0, .live, false, 0, 1, false, []⟩
def USB_PORT_RESET : FieldD := ⟨0x50, 4, 4, 4, 1, .ro, 0, .live, false, 0, 1, false, []⟩
def USB_PORT_POWER : FieldD := ⟨0x50, 4, 4, 5, 1, .ro, 0, .live, false, 0, 1, false, []⟩
def USB_PORT_SPEED : FieldD := ⟨0x50, 4, 4, 6, 2, .ro, 0, .live, false, 0, 3, false, []⟩
def USB_PORT_CHANGE : FieldD := ⟨0x50, 4, 4, 8, 5, .ro, 0, .live, false, 0, 31, false, []⟩
def USB_BABBLE : FieldD := ⟨0x80, 1, 0, 0, 32, .ro, 0, .value, false, 0, 4294967295, true, []⟩
def USB_OC_EVENTS : FieldD := ⟨0x84, 1, 0, 0, 32, .ro, 0, .value, false, 0, 4294967295, true, []⟩
def USB_PORT_RESETS : FieldD := ⟨0x88, 1, 0, 0, 32, .ro, 0, .value, false, 0, 4294967295, true, []⟩
def USB_RESUMES : FieldD := ⟨0x8c, 1, 0, 0, 32, .ro, 0, .value, false, 0, 4294967295, true, []⟩
def USB_TT_ERR : FieldD := ⟨0x90, 1, 0, 0, 32, .ro, 0, .value, false, 0, 4294967295, true, []⟩

/-! The registers of page type USF, from spec/13_usb_service_port.md. -/

def USF_CTL_OWNER_EN : FieldD := ⟨0x40, 1, 0, 0, 1, .rwl, 0, .drawer, false, 0, 1, false, []⟩
def USF_CTL_POLL_MODE : FieldD := ⟨0x40, 1, 0, 1, 1, .rw, 0, .drawer, false, 0, 1, false, []⟩
def USF_CTL_WAKE_ON_RESP : FieldD := ⟨0x40, 1, 0, 2, 1, .rw, 0, .drawer, false, 0, 1, false, []⟩
def USF_STAT_ENABLED : FieldD := ⟨0x44, 1, 0, 0, 1, .ro, 0, .live, false, 0, 1, false, []⟩
def USF_STAT_PIN : FieldD := ⟨0x44, 1, 0, 1, 1, .ro, 0, .live, false, 0, 1, false, []⟩
def USF_STAT_CONFIGURED : FieldD := ⟨0x44, 1, 0, 2, 1, .ro, 0, .live, false, 0, 1, false, []⟩
def USF_STAT_SUSPENDED : FieldD := ⟨0x44, 1, 0, 3, 1, .ro, 0, .live, false, 0, 1, false, []⟩
def USF_STAT_REMOTE_WAKE_EN : FieldD := ⟨0x44, 1, 0, 4, 1, .ro, 0, .live, false, 0, 1, false, []⟩
def USF_STAT_EP1_OUT_HALT : FieldD := ⟨0x44, 1, 0, 5, 1, .ro, 0, .live, false, 0, 1, false, []⟩
def USF_STAT_EP1_IN_HALT : FieldD := ⟨0x44, 1, 0, 6, 1, .ro, 0, .live, false, 0, 1, false, []⟩
def USF_STAT_EP2_HALT : FieldD := ⟨0x44, 1, 0, 7, 1, .ro, 0, .live, false, 0, 1, false, []⟩
def USF_STAT_OPEN : FieldD := ⟨0x44, 1, 0, 8, 7, .ro, 0, .live, false, 0, 127, false, []⟩
def USF_STAT_WAITING : FieldD := ⟨0x44, 1, 0, 16, 7, .ro, 0, .live, true, 0, 127, false, []⟩
def USF_BUSY_LO_TAGS : FieldD := ⟨0x48, 1, 0, 0, 32, .ro, 0, .live, true, 0, 4294967295, false, []⟩
def USF_BUSY_HI_TAGS : FieldD := ⟨0x4c, 1, 0, 0, 32, .ro, 0, .live, true, 0, 4294967295, false, []⟩
def USF_REQ_BLOCKS : FieldD := ⟨0x80, 1, 0, 0, 32, .ro, 0, .value, false, 0, 4294967295, true, []⟩
def USF_RESP_BLOCKS : FieldD := ⟨0x84, 1, 0, 0, 32, .ro, 0, .value, false, 0, 4294967295, true, []⟩
def USF_NAK_IN : FieldD := ⟨0x88, 1, 0, 0, 32, .ro, 0, .value, false, 0, 4294967295, true, []⟩
def USF_NOT_READY : FieldD := ⟨0x8c, 1, 0, 0, 32, .ro, 0, .value, false, 0, 4294967295, true, []⟩
def USF_STALLS : FieldD := ⟨0x90, 1, 0, 0, 32, .ro, 0, .value, false, 0, 4294967295, true, []⟩
def USF_RESP_DISCARD : FieldD := ⟨0x94, 1, 0, 0, 32, .ro, 0, .value, false, 0, 4294967295, true, []⟩
def USF_TOGGLE_DISCARD : FieldD := ⟨0x98, 1, 0, 0, 32, .ro, 0, .value, false, 0, 4294967295, true, []⟩
def USF_RESENT : FieldD := ⟨0x9c, 1, 0, 0, 32, .ro, 0, .value, false, 0, 4294967295, true, []⟩
def USF_CTRL_ABANDON : FieldD := ⟨0xa0, 1, 0, 0, 32, .ro, 0, .value, false, 0, 4294967295, true, []⟩

end Sys2Proof.Machine.F

namespace Sys2Proof.Machine

/-- The fields of page type PWR. -/
def fieldsPWR : List FieldD :=
  [F.PWR_CFG_ILIM, F.PWR_CFG_FAST_MULT, F.PWR_CFG_TIMER, F.PWR_CFG_RETRY_COUNT, F.PWR_CFG_DS_RUN, F.PWR_VIN_VIN_ON,
   F.PWR_VIN_OV, F.PWR_PFW_THRESH, F.PWR_PFW_HYST, F.PWR_PFW_FILT, F.PWR_PFW_RECOVER, F.PWR_TIMING_PG_DLY,
   F.PWR_TIMING_DS_TIME, F.PWR_HOLDUP_MIN_V, F.PWR_STAT_STATE, F.PWR_STAT_PG, F.PWR_STAT_PFW, F.PWR_STAT_HOLDUP_OK,
   F.PWR_STAT_ENHANCED, F.PWR_STAT_BOOT, F.PWR_STAT_COUNT, F.PWR_STAT_RETRIES_LEFT, F.PWR_STAT_GATE_CYCLED,
   F.PWR_FAULT_TRIP, F.PWR_FAULT_FAST_TRIP, F.PWR_FAULT_GATE_FAULT, F.PWR_FAULT_GATE_WEAK, F.PWR_FAULT_DS_SHORT,
   F.PWR_FAULT_OV, F.PWR_FAULT_TSD, F.PWR_CMD_BURN, F.PWR_BOOT_BURNT, F.PWR_TRIPS, F.PWR_FAST_TRIPS, F.PWR_FET_FAULTS,
   F.PWR_OV_EVENTS, F.PWR_PFW_ASSERTS, F.PWR_PFW_RELEASES]

/-- The fields of page type MON. -/
def fieldsMON : List FieldD :=
  [F.MON_CTL_FILT, F.MON_OUT_OUT, F.MON_OUT_SEEN_SEEN, F.MON_VAL_VAL, F.MON_WIN_LO, F.MON_WIN_HI, F.MON_WIN_ACT,
   F.MON_EXCURSIONS]

/-- The fields of page type SER. -/
def fieldsSER : List FieldD :=
  [F.SER_CFG_DATA_BITS, F.SER_CFG_PARITY, F.SER_CFG_PAR_FIXED, F.SER_CFG_STOP2, F.SER_CFG_MSB_FIRST,
   F.SER_CFG_ERR_ACT, F.SER_CFG_MODE, F.SER_CFG_ECHO_SUPPRESS, F.SER_CFG_DE_ON_LAST, F.SER_CFG_DE_POL,
   F.SER_CFG_FC_EN, F.SER_CFG_FC_POL, F.SER_CFG_CTS_EN, F.SER_CFG_CTS_POL, F.SER_CFG_INV_RX, F.SER_CFG_INV_TX,
   F.SER_BAUD_DIV, F.SER_TIMING_CHAR_TO, F.SER_TIMING_IDLE, F.SER_DE_TIME_LEAD, F.SER_DE_TIME_LAG, F.SER_WMARK_HIGH,
   F.SER_WMARK_LOW, F.SER_BREAK_TX_LEN, F.SER_CMD_FLUSH, F.SER_CMD_TX_BREAK, F.SER_CMD_RX_CLEAR, F.SER_CMD_TX_CLEAR,
   F.SER_STAT_RX_FILL, F.SER_STAT_TX_WORDS, F.SER_STAT_FC, F.SER_STAT_CTS, F.SER_STAT_DE, F.SER_STAT_LINE,
   F.SER_STAT_TX_BUSY, F.SER_MSG_START_STAMP, F.SER_MSG_END_STAMP, F.SER_MSG_FLAGS_UNSYNC, F.SER_PUSH_CFG_EN,
   F.SER_PUSH_CFG_VIEW] ++
  [F.SER_PUSH_CFG_OP, F.SER_PUSH_CFG_MAX_WORDS, F.SER_PUSH_CFG_DEPTH, F.SER_PUSH_CFG_FLOW, F.SER_PUSH_CFG_WRAP,
   F.SER_PUSH_ADDR_LO_ADDR_LO, F.SER_PUSH_ADDR_HI_ADDR_HI, F.SER_PUSH_TIME_HOLD, F.SER_PUSH_STAT_POS,
   F.SER_PUSH_STAT_OPEN, F.SER_RX_CHARS, F.SER_TX_CHARS, F.SER_RX_LOST, F.SER_PARITY_ERR, F.SER_FRAMING_ERR,
   F.SER_BREAKS, F.SER_ECHO_DROP, F.SER_TX_DISCARD, F.SER_TX_GAP, F.SER_PUSH_TXN, F.SER_PUSH_FAILED]

/-- The fields of page type BEN. -/
def fieldsBEN : List FieldD :=
  [F.BEN_CTL_RESTART_CLEAR, F.BEN_CTL_AUTO_RUN, F.BEN_CTL_FULL_ACT, F.BEN_CMD_RUN, F.BEN_CMD_STOP, F.BEN_CMD_FLUSH,
   F.BEN_CMD_RX_CLEAR, F.BEN_CMD_TX_CLEAR, F.BEN_STAT_RUN_STATE, F.BEN_STAT_STALL_ON, F.BEN_STAT_STOP_WHY,
   F.BEN_STAT_INDEX, F.BEN_STATE_STATE, F.BEN_IN_SEL_IN0, F.BEN_IN_SEL_IN1, F.BEN_IN_SEL_IN2, F.BEN_IN_SEL_IN3,
   F.BEN_DIV_A_DIV, F.BEN_DIV_B_DIV, F.BEN_SHIFT_CFG_WIDTH, F.BEN_SHIFT_CFG_LSB_FIRST, F.BEN_SHIFT_CFG_SOUT_EN,
   F.BEN_SHIFT_CFG_SOUT_SLOT, F.BEN_SHIFT_CFG_SIN_SEL, F.BEN_OUT_CFG_INIT, F.BEN_OUT_CFG_FC_SLOT, F.BEN_OUT_CFG_FC_EN,
   F.BEN_OUT_CFG_FC_POL, F.BEN_OUT_CFG_START_STATE, F.BEN_SR_SR, F.BEN_COUNT_COUNT, F.BEN_OUT_SLOTS, F.BEN_WMARK_HIGH,
   F.BEN_WMARK_LOW, F.BEN_FIFO_STAT_RX_FILL, F.BEN_FIFO_STAT_TX_WORDS, F.BEN_FIFO_STAT_FC, F.BEN_STALL_TO,
   F.BEN_TXD_DATA, F.BEN_ERR_WRITE_WHILE_RUN] ++
  [F.BEN_ERR_STALL_TIMEOUT, F.BEN_ERR_TABLE_PARITY, F.BEN_ERR_WHERE, F.BEN_ERR_IN_TABLE, F.BEN_EVT_STAMP_STAMP,
   F.BEN_EVT_INFO_STATE, F.BEN_EVT_INFO_INDEX, F.BEN_EVT_INFO_UNSYNC, F.BEN_PUSH_CFG_EN, F.BEN_PUSH_CFG_VIEW,
   F.BEN_PUSH_CFG_OP, F.BEN_PUSH_CFG_MAX_WORDS, F.BEN_PUSH_CFG_DEPTH, F.BEN_PUSH_CFG_FLOW, F.BEN_PUSH_CFG_WRAP,
   F.BEN_PUSH_ADDR_LO_ADDR_LO, F.BEN_PUSH_ADDR_HI_ADDR_HI, F.BEN_PUSH_TIME_HOLD, F.BEN_PUSH_STAT_POS,
   F.BEN_PUSH_STAT_OPEN, F.BEN_STEPS, F.BEN_EVENTS, F.BEN_STALLS, F.BEN_RX_LOST, F.BEN_TX_GAP, F.BEN_TX_DISCARD,
   F.BEN_PUSH_TXN, F.BEN_PUSH_FAILED]

/-- The fields of page type BTB. -/
def fieldsBTB : List FieldD :=
  [F.BTB_RUN_MASK_MASK, F.BTB_STOP_MASK_MASK, F.BTB_STATE_RUNNING, F.BTB_STATE_STALLED, F.BTB_CRC_CMD_BENCH,
   F.BTB_CRC_CMD_GO, F.BTB_CRC_RESULT_CRC, F.BTB_CRC_STAT_BUSY, F.BTB_CRC_STAT_DIRTY]

/-- The fields of page type PIN. -/
def fieldsPIN : List FieldD :=
  [F.PIN_LEVEL_LEVEL, F.PIN_CFG_FUNC, F.PIN_CFG_INST, F.PIN_CFG_SIG, F.PIN_CFG_LOST, F.PIN_CFG_OD, F.PIN_CFG_PULL,
   F.PIN_CFG_INV]

/-- The fields of page type DIS. -/
def fieldsDIS : List FieldD :=
  [F.DIS_CHAT_N, F.DIS_CHAT_T, F.DIS_CHAT_REL, F.DIS_LEVEL_LEVEL, F.DIS_LOCKED_LOCKED, F.DIS_OUT_OUT, F.DIS_RB_RB,
   F.DIS_RB_ERR_ERR, F.DIS_CFG_GLITCH, F.DIS_CFG_DEBOUNCE, F.DIS_CFG_CHAT, F.DIS_CFG_RB_EN, F.DIS_CFG_EDGES,
   F.DIS_CHANGES, F.DIS_SUPPRESSED, F.DIS_RB_MISMATCH]

/-- The fields of page type SOE. -/
def fieldsSOE : List FieldD :=
  [F.SOE_WR_WR, F.SOE_RD_RD, F.SOE_WMARK_HIGH, F.SOE_SEQ_SEQ, F.SOE_RECORDS, F.SOE_LOST]

/-- The fields of page type CAN. -/
def fieldsCAN : List FieldD :=
  [F.CAN_CFG_MODE, F.CAN_CFG_FD_EN, F.CAN_CFG_AUTO_RECOVER, F.CAN_CFG_ECHO_EN, F.CAN_CFG_TT_MASTER, F.CAN_CFG_TDC_EN,
   F.CAN_NBT_BRP, F.CAN_NBT_TSEG1, F.CAN_NBT_TSEG2, F.CAN_NBT_SJW, F.CAN_DBT_BRP, F.CAN_DBT_TSEG1, F.CAN_DBT_TSEG2,
   F.CAN_DBT_SJW, F.CAN_DBT_TDC_OFFSET, F.CAN_STAT_STATE, F.CAN_STAT_IDLE, F.CAN_STAT_SYNC, F.CAN_STAT_LEC,
   F.CAN_STAT_TDCV, F.CAN_STAT_IN_HAND, F.CAN_STAT_IN_HAND_VALID, F.CAN_ERRCNT_TEC, F.CAN_ERRCNT_REC,
   F.CAN_CMD_RECOVER, F.CAN_TX_REQ_REQ, F.CAN_TX_CANCEL_CANCEL, F.CAN_TX_DONE_DONE, F.CAN_RX_WR_WR, F.CAN_RX_RD_RD,
   F.CAN_RX_WMARK_HIGH, F.CAN_RX_SEQ_SEQ, F.CAN_TT_REF_ID, F.CAN_TT_REF_XTD, F.CAN_TT_CTL_CYCLE_MAX,
   F.CAN_TT_CTL_REF_LATE, F.CAN_TT_CTL_WIN, F.CAN_TT_STAT_CYCLE, F.CAN_TT_STAT_REF_PENDING, F.CAN_TT_SCHED_BASE] ++
  [F.CAN_TT_SCHED_REPEAT_LOG2, F.CAN_TT_SCHED_BUFFER, F.CAN_TT_SCHED_EN, F.CAN_TT_SCHED_OFFSET, F.CAN_BUF_ID_ID,
   F.CAN_BUF_ID_XTD, F.CAN_BUF_ID_RTR, F.CAN_BUF_FMT_DLC, F.CAN_BUF_FMT_FDF, F.CAN_BUF_FMT_BRS,
   F.CAN_BUF_FMT_ONE_SHOT, F.CAN_BUF_FMT_TT, F.CAN_BUF_DATA_DATA, F.CAN_BUF_STAT_OUTCOME, F.CAN_BUF_SENT_NS_NS,
   F.CAN_BUF_SENT_SEC_SEC_LO, F.CAN_BUF_DATA_DATA1, F.CAN_BUF_DATA_DATA2, F.CAN_BUF_DATA_DATA3, F.CAN_BUF_DATA_DATA4,
   F.CAN_BUF_DATA_DATA5, F.CAN_BUF_DATA_DATA6, F.CAN_BUF_DATA_DATA7, F.CAN_BUF_DATA_DATA8, F.CAN_BUF_DATA_DATA9,
   F.CAN_BUF_DATA_DATA10, F.CAN_BUF_DATA_DATA11, F.CAN_BUF_DATA_DATA12, F.CAN_BUF_DATA_DATA13, F.CAN_BUF_DATA_DATA14,
   F.CAN_BUF_DATA_DATA15, F.CAN_RX_FRAMES, F.CAN_RX_LOST, F.CAN_TX_FRAMES, F.CAN_ARB_LOST, F.CAN_BUS_ERRORS,
   F.CAN_BUS_OFFS, F.CAN_REF_SENT, F.CAN_REF_MISSED]

/-- The fields of page type USB. -/
def fieldsUSB : List FieldD :=
  [F.USB_CTL_PORT_DIS, F.USB_CTL_PWR_POL, F.USB_STAT_UP_STATE, F.USB_STAT_VBUS, F.USB_STAT_HIGH_SPEED,
   F.USB_STAT_ADDR, F.USB_PORT_CONNECT, F.USB_PORT_ENABLE, F.USB_PORT_SUSPEND, F.USB_PORT_OVER_CURRENT,
   F.USB_PORT_RESET, F.USB_PORT_POWER, F.USB_PORT_SPEED, F.USB_PORT_CHANGE, F.USB_BABBLE, F.USB_OC_EVENTS,
   F.USB_PORT_RESETS, F.USB_RESUMES, F.USB_TT_ERR]

/-- The fields of page type USF. -/
def fieldsUSF : List FieldD :=
  [F.USF_CTL_OWNER_EN, F.USF_CTL_POLL_MODE, F.USF_CTL_WAKE_ON_RESP, F.USF_STAT_ENABLED, F.USF_STAT_PIN,
   F.USF_STAT_CONFIGURED, F.USF_STAT_SUSPENDED, F.USF_STAT_REMOTE_WAKE_EN, F.USF_STAT_EP1_OUT_HALT,
   F.USF_STAT_EP1_IN_HALT, F.USF_STAT_EP2_HALT, F.USF_STAT_OPEN, F.USF_STAT_WAITING, F.USF_BUSY_LO_TAGS,
   F.USF_BUSY_HI_TAGS, F.USF_REQ_BLOCKS, F.USF_RESP_BLOCKS, F.USF_NAK_IN, F.USF_NOT_READY, F.USF_STALLS,
   F.USF_RESP_DISCARD, F.USF_TOGGLE_DISCARD, F.USF_RESENT, F.USF_CTRL_ABANDON]

end Sys2Proof.Machine
end

