-- ==== Sys2Proof/Machine/RegMapRing.lean ====
section
/-! DEFINITION. The register map of the ring die, first half: every field that a register table of spec/ gives a name, with its offset, bits,
access code, reset value, warm behaviour and range. Each row is: offset, count, stride, lowest bit, width, access, reset
value, reset source, cleared by a warm reset, least and greatest value a write may give it, frozen by FREEZE, and the
reset values one by one where they differ between the instances. -/

namespace Sys2Proof.Machine.F

/-! The registers of page type HDR, from spec/02_address_space_and_pages.md. -/

def PAGE_ID_VERSION : FieldD := ⟨0x0, 1, 0, 0, 8, .ro, 0, .device, false, 0, 255, false, []⟩
def PAGE_ID_INSTANCE : FieldD := ⟨0x0, 1, 0, 8, 8, .ro, 0, .device, false, 0, 255, false, []⟩
def PAGE_ID_TYPE : FieldD := ⟨0x0, 1, 0, 16, 16, .ro, 0, .device, false, 0, 65535, false, []⟩
def PAGE_CAP_IRQ_COUNT : FieldD := ⟨0x4, 1, 0, 0, 6, .ro, 0, .device, false, 0, 63, false, []⟩
def PAGE_CAP_PERTURB_IMPL : FieldD := ⟨0x4, 1, 0, 6, 1, .ro, 0, .device, false, 0, 1, false, []⟩
def PAGE_CAP_PAGE_SPECIFIC : FieldD := ⟨0x4, 1, 0, 16, 16, .ro, 0, .device, false, 0, 65535, false, []⟩
def PAGE_CTL_ENABLE : FieldD := ⟨0x8, 1, 0, 0, 1, .rw, 1, .drawer, false, 0, 1, false, []⟩
def PAGE_CTL_BLOCK_RESET : FieldD := ⟨0x8, 1, 0, 1, 1, .wo, 0, .value, true, 0, 1, false, []⟩
def PAGE_CTL_FREEZE : FieldD := ⟨0x8, 1, 0, 2, 1, .rw, 0, .value, true, 0, 1, false, []⟩
def PAGE_STAT_STATE : FieldD := ⟨0xc, 1, 0, 0, 3, .ro, 0, .live, false, 0, 7, false, []⟩
def PAGE_STAT_BUSY : FieldD := ⟨0xc, 1, 0, 3, 1, .ro, 0, .live, false, 0, 1, false, []⟩
def PAGE_STAT_HANG : FieldD := ⟨0xc, 1, 0, 4, 1, .w1c, 0, .value, false, 0, 1, false, []⟩
def IRQ_RAW_HANG : FieldD := ⟨0x10, 1, 0, 0, 1, .w1c, 0, .value, false, 0, 1, false, []⟩
def IRQ_RAW_ERR : FieldD := ⟨0x10, 1, 0, 1, 1, .w1c, 0, .value, false, 0, 1, false, []⟩
def IRQ_RAW_SRC : FieldD := ⟨0x10, 1, 0, 2, 30, .w1c, 0, .value, false, 0, 1073741823, false, []⟩
def IRQ_EN_EN : FieldD := ⟨0x14, 1, 0, 0, 32, .rw, 0, .drawer, false, 0, 4294967295, false, []⟩
def IRQ_PEND_PEND : FieldD := ⟨0x18, 1, 0, 0, 32, .w1c, 0, .value, false, 0, 4294967295, false, []⟩
def ERR_FIRST_STATUS : FieldD := ⟨0x1c, 1, 0, 0, 8, .ro, 0, .value, false, 0, 255, false, []⟩
def ERR_FIRST_CAUSE : FieldD := ⟨0x1c, 1, 0, 8, 8, .ro, 0, .value, false, 0, 255, false, []⟩
def ERR_FIRST_REG : FieldD := ⟨0x1c, 1, 0, 16, 10, .ro, 0, .value, false, 0, 1023, false, []⟩
def ERR_FIRST_VALID : FieldD := ⟨0x1c, 1, 0, 31, 1, .w1c, 0, .value, false, 0, 1, false, []⟩
def ERR_COUNT_COUNT : FieldD := ⟨0x20, 1, 0, 0, 32, .rc, 0, .value, false, 0, 4294967295, false, []⟩
def LOCK_LOCKED : FieldD := ⟨0x28, 1, 0, 0, 1, .w1s, 0, .drawer, false, 0, 1, false, []⟩
def LOCK_TEST_UNLOCK : FieldD := ⟨0x28, 1, 0, 1, 1, .ro, 0, .value, false, 0, 1, false, []⟩
def SIDE_OFFSET : FieldD := ⟨0x2c, 1, 0, 0, 12, .ro, 0, .device, false, 0, 4095, false, []⟩

/-! The registers of page type GEN, from spec/01_architecture.md. -/

def GEN_WATCH_RING_DEV : FieldD := ⟨0xc0, 1, 0, 0, 16, .ro, 0, .value, false, 0, 65535, false, []⟩
def GEN_WATCH_FIELD_DEV : FieldD := ⟨0xc0, 1, 0, 16, 16, .ro, 0, .value, false, 0, 65535, false, []⟩
def GEN_WATCH_STAT_RING_OOT : FieldD := ⟨0xc4, 1, 0, 0, 1, .w1c, 0, .value, false, 0, 1, false, []⟩
def GEN_WATCH_STAT_FIELD_OOT : FieldD := ⟨0xc4, 1, 0, 1, 1, .w1c, 0, .value, false, 0, 1, false, []⟩
def GEN_WATCH_STAT_UNCHECKED : FieldD := ⟨0xc4, 1, 0, 2, 1, .ro, 0, .value, false, 0, 1, false, []⟩
def GEN_HANG_BOUND0_DATAPATH : FieldD := ⟨0xc8, 1, 0, 0, 16, .rwl, 64, .value, false, 16, 65535, false, []⟩
def GEN_HANG_BOUND0_MEMORY : FieldD := ⟨0xc8, 1, 0, 16, 16, .rwl, 640, .value, false, 16, 65535, false, []⟩
def GEN_HANG_BOUND1_ISLAND : FieldD := ⟨0xcc, 1, 0, 0, 16, .rwl, 1600, .value, false, 16, 65535, false, []⟩
def GEN_HANG_BOUND1_FIELD : FieldD := ⟨0xcc, 1, 0, 16, 16, .rwl, 1600, .value, false, 16, 65535, false, []⟩
def GEN_WATCH_CTL_AUTO_RESET : FieldD := ⟨0xd0, 1, 0, 0, 1, .rwl, 1, .value, false, 0, 1, false, []⟩
def GEN_DEVICE_GRADE : FieldD := ⟨0x40, 1, 0, 0, 2, .ro, 0, .device, false, 0, 3, false, []⟩
def GEN_DEVICE_RING_REV : FieldD := ⟨0x40, 1, 0, 4, 4, .ro, 0, .device, false, 0, 15, false, []⟩
def GEN_DEVICE_FIELD_REV : FieldD := ⟨0x40, 1, 0, 8, 4, .ro, 0, .device, false, 0, 15, false, []⟩
def GEN_RESET_KEY : FieldD := ⟨0xe0, 1, 0, 0, 16, .wo, 0, .value, true, 0, 65535, false, []⟩

/-! The registers of page type INT, from spec/02_address_space_and_pages.md. -/

def INT_STAT_FIELD_STALE : FieldD := ⟨0x40, 1, 0, 0, 1, .ro, 0, .live, false, 0, 1, false, []⟩
def INT_EOI_VECTOR : FieldD := ⟨0x44, 1, 0, 0, 6, .wo, 0, .value, true, 0, 63, false, []⟩
def INT_EVT_CTL_FLOW : FieldD := ⟨0x48, 1, 0, 0, 12, .rw, 0, .drawer, false, 0, 4095, false, []⟩
def INT_EVT_ADDR_LO_ADDR_LO : FieldD := ⟨0x50, 1, 0, 0, 32, .rw, 0, .drawer, false, 0, 4294967295, false, []⟩
def INT_EVT_ADDR_HI_ADDR_HI : FieldD := ⟨0x54, 1, 0, 0, 32, .rw, 0, .drawer, false, 0, 4294967295, false, []⟩
def INT_PEND_SRC : FieldD := ⟨0x100, 16, 4, 0, 32, .ro, 0, .live, false, 0, 4294967295, false, []⟩
def INT_ROUTE_VECTOR : FieldD := ⟨0x800, 512, 4, 0, 6, .rw, 0, .drawer, false, 0, 63, false, []⟩
def INT_ROUTE_MSIX_EN : FieldD := ⟨0x800, 512, 4, 6, 1, .rw, 0, .drawer, false, 0, 1, false, []⟩
def INT_ROUTE_INTN0_EN : FieldD := ⟨0x800, 512, 4, 7, 1, .rw, 0, .drawer, false, 0, 1, false, []⟩
def INT_ROUTE_INTN1_EN : FieldD := ⟨0x800, 512, 4, 8, 1, .rw, 0, .drawer, false, 0, 1, false, []⟩
def INT_ROUTE_CORE_EN : FieldD := ⟨0x800, 512, 4, 9, 1, .rw, 0, .drawer, false, 0, 1, false, []⟩
def INT_ROUTE_FABRIC_EN : FieldD := ⟨0x800, 512, 4, 10, 1, .rw, 0, .drawer, false, 0, 1, false, []⟩

/-! The registers of page type RST, from spec/17_startup_reset_and_drawers.md. -/

def RST_STAT_STEP : FieldD := ⟨0x40, 1, 0, 0, 4, .ro, 0, .live, false, 0, 15, false, []⟩
def RST_STAT_FAIL_STEP : FieldD := ⟨0x40, 1, 0, 4, 4, .ro, 0, .value, false, 0, 15, false, []⟩
def RST_STAT_KIND : FieldD := ⟨0x40, 1, 0, 8, 2, .ro, 0, .live, false, 0, 3, false, []⟩
def RST_STAT_SAFE : FieldD := ⟨0x40, 1, 0, 10, 1, .ro, 0, .live, false, 0, 1, false, []⟩
def RST_STAT_STOPPED : FieldD := ⟨0x40, 1, 0, 11, 1, .ro, 0, .live, false, 0, 1, false, []⟩
def RST_STAT_PROF : FieldD := ⟨0x40, 1, 0, 12, 2, .ro, 0, .pin, false, 0, 3, false, []⟩
def RST_STAT_PFW_HOLD : FieldD := ⟨0x40, 1, 0, 14, 1, .ro, 0, .live, false, 0, 1, false, []⟩
def RST_CAUSE_POWER_UP : FieldD := ⟨0x44, 1, 0, 0, 1, .w1c, 0, .live, false, 0, 1, false, []⟩
def RST_CAUSE_PIN : FieldD := ⟨0x44, 1, 0, 1, 1, .w1c, 0, .live, false, 0, 1, false, []⟩
def RST_CAUSE_WARM : FieldD := ⟨0x44, 1, 0, 2, 1, .w1c, 0, .value, false, 0, 1, false, []⟩
def RST_SERVICE_US_US : FieldD := ⟨0x48, 1, 0, 0, 32, .ro, 0, .live, false, 0, 4294967295, false, []⟩
def RST_WAIT_REF_WAIT : FieldD := ⟨0x4c, 1, 0, 0, 10, .rw, 100, .drawer, false, 1, 1000, false, []⟩

/-! The registers of page type DRW, from spec/17_startup_reset_and_drawers.md. -/

def DRW_CTL_QUIESCE_MS : FieldD := ⟨0x40, 1, 0, 0, 14, .rw, 1000, .drawer, false, 1, 10000, false, []⟩
def DRW_CMD_DRAWER : FieldD := ⟨0x44, 1, 0, 0, 2, .wo, 0, .value, true, 0, 3, false, []⟩
def DRW_CMD_SWITCH : FieldD := ⟨0x44, 1, 0, 2, 1, .wo, 0, .value, true, 0, 1, false, []⟩
def DRW_CMD_SAVE : FieldD := ⟨0x44, 1, 0, 3, 1, .wo, 0, .value, true, 0, 1, false, []⟩
def DRW_STAT_CURRENT : FieldD := ⟨0x48, 1, 0, 0, 2, .ro, 0, .live, false, 0, 3, false, []⟩
def DRW_STAT_SAFE : FieldD := ⟨0x48, 1, 0, 2, 1, .ro, 0, .live, false, 0, 1, false, []⟩
def DRW_STAT_PHASE : FieldD := ⟨0x48, 1, 0, 3, 3, .ro, 0, .live, false, 0, 7, false, []⟩
def DRW_STAT_LAST_RESULT : FieldD := ⟨0x48, 1, 0, 6, 2, .ro, 0, .value, false, 0, 3, false, []⟩
def DRW_STAT_SET : FieldD := ⟨0x48, 1, 0, 8, 1, .ro, 0, .live, false, 0, 1, false, []⟩
def DRW_REFUSE_WHY : FieldD := ⟨0x4c, 1, 0, 0, 4, .ro, 0, .value, false, 0, 15, false, []⟩
def DRW_REFUSE_PAGE : FieldD := ⟨0x4c, 1, 0, 4, 12, .ro, 0, .value, false, 0, 4095, false, []⟩
def DRW_REFUSE_WORD : FieldD := ⟨0x4c, 1, 0, 16, 10, .ro, 0, .value, false, 0, 1023, false, []⟩
def DRW_INFO_PRESENT : FieldD := ⟨0x50, 4, 4, 0, 1, .ro, 0, .live, false, 0, 1, false, []⟩
def DRW_INFO_VALID : FieldD := ⟨0x50, 4, 4, 1, 1, .ro, 0, .live, false, 0, 1, false, []⟩
def DRW_INFO_GEN : FieldD := ⟨0x50, 4, 4, 16, 16, .ro, 0, .live, false, 0, 65535, false, []⟩
def DRW_SWITCHES : FieldD := ⟨0x80, 1, 0, 0, 32, .ro, 0, .value, false, 0, 4294967295, true, []⟩
def DRW_REFUSALS : FieldD := ⟨0x84, 1, 0, 0, 32, .ro, 0, .value, false, 0, 4294967295, true, []⟩

/-! The registers of page type CHS, from spec/17_startup_reset_and_drawers.md. -/

def CHS_STAT_STATE : FieldD := ⟨0x40, 1, 0, 0, 2, .ro, 0, .live, false, 0, 3, false, []⟩
def CHS_STAT_CKPT : FieldD := ⟨0x40, 1, 0, 2, 2, .ro, 0, .live, false, 0, 3, false, []⟩
def CHS_WEAR_WORST : FieldD := ⟨0x44, 1, 0, 0, 14, .ro, 0, .live, false, 0, 16383, false, []⟩
def CHS_WEAR_AREA : FieldD := ⟨0x44, 1, 0, 14, 2, .ro, 0, .live, false, 0, 3, false, []⟩
def CHS_ECC_ADDR_ADDR : FieldD := ⟨0x48, 1, 0, 0, 22, .ro, 0, .value, false, 0, 4194303, false, []⟩
def CHS_ECC_ADDR_VALID : FieldD := ⟨0x48, 1, 0, 31, 1, .w1c, 0, .value, false, 0, 1, false, []⟩
def CHS_LIFE_COLD_STARTS : FieldD := ⟨0x4c, 1, 0, 0, 32, .ro, 0, .live, false, 0, 4294967295, false, []⟩
def CHS_ECC_CORR : FieldD := ⟨0x80, 1, 0, 0, 32, .ro, 0, .value, false, 0, 4294967295, true, []⟩
def CHS_ECC_UNCORR : FieldD := ⟨0x84, 1, 0, 0, 32, .ro, 0, .value, false, 0, 4294967295, true, []⟩
def CHS_CKPTS : FieldD := ⟨0x88, 1, 0, 0, 32, .ro, 0, .value, false, 0, 4294967295, true, []⟩
def CHS_SLOTS_LOST : FieldD := ⟨0x8c, 1, 0, 0, 32, .ro, 0, .value, false, 0, 4294967295, true, []⟩

/-! The registers of page type FWU, from spec/18_firmware_update.md. -/

def FWU_CTL_CONFIRM_S : FieldD := ⟨0x40, 1, 0, 0, 12, .rwl, 300, .drawer, false, 10, 3600, false, []⟩
def FWU_CTL_HOST_GATE : FieldD := ⟨0x40, 1, 0, 12, 1, .rwl, 0, .drawer, false, 0, 1, false, []⟩
def FWU_CTL_SOAK_S : FieldD := ⟨0x40, 1, 0, 16, 10, .rw, 30, .drawer, false, 1, 600, false, []⟩
def FWU_CMD_STAGE : FieldD := ⟨0x44, 1, 0, 0, 1, .wo, 0, .value, true, 0, 1, false, []⟩
def FWU_CMD_ACTIVATE : FieldD := ⟨0x44, 1, 0, 1, 1, .wo, 0, .value, true, 0, 1, false, []⟩
def FWU_CMD_ABORT : FieldD := ⟨0x44, 1, 0, 2, 1, .wo, 0, .value, true, 0, 1, false, []⟩
def FWU_CMD_SOURCE : FieldD := ⟨0x44, 1, 0, 3, 1, .wo, 0, .value, true, 0, 1, false, []⟩
def FWU_SRC_LO_SRC_LO : FieldD := ⟨0x48, 1, 0, 12, 20, .rw, 0, .value, false, 0, 1048575, false, []⟩
def FWU_SRC_HI_SRC_HI : FieldD := ⟨0x4c, 1, 0, 0, 8, .rw, 0, .value, false, 0, 255, false, []⟩
def FWU_SRC_LEN_BLOCKS : FieldD := ⟨0x50, 1, 0, 0, 13, .rw, 0, .value, false, 2, 4096, false, []⟩
def FWU_STAT_STATE : FieldD := ⟨0x54, 1, 0, 0, 3, .ro, 0, .live, false, 0, 7, false, []⟩
def FWU_STAT_CODE_SAME : FieldD := ⟨0x54, 1, 0, 3, 1, .ro, 0, .live, false, 0, 1, false, []⟩
def FWU_STAT_ACTIVE_SLOT : FieldD := ⟨0x54, 1, 0, 4, 1, .ro, 0, .live, false, 0, 1, false, []⟩
def FWU_STAT_OWNER_LOCK : FieldD := ⟨0x54, 1, 0, 5, 1, .ro, 0, .live, false, 0, 1, false, []⟩
def FWU_STAT_OWNER_KEY : FieldD := ⟨0x54, 1, 0, 6, 1, .ro, 0, .live, false, 0, 1, false, []⟩
def FWU_STAT_PROGRESS : FieldD := ⟨0x54, 1, 0, 8, 7, .ro, 0, .live, false, 0, 127, false, []⟩
def FWU_STAT_LAST : FieldD := ⟨0x54, 1, 0, 16, 4, .ro, 0, .live, false, 0, 15, false, []⟩
def FWU_REFUSE_CAUSE : FieldD := ⟨0x58, 1, 0, 0, 8, .ro, 0, .value, false, 0, 255, false, []⟩
def FWU_REFUSE_BLOCK : FieldD := ⟨0x58, 1, 0, 8, 13, .ro, 0, .value, false, 0, 8191, false, []⟩
def FWU_SECCNT_COUNT : FieldD := ⟨0x5c, 1, 0, 0, 32, .ro, 0, .live, false, 0, 4294967295, false, []⟩
def FWU_RUN_VER_VER : FieldD := ⟨0x60, 1, 0, 0, 32, .ro, 0, .live, false, 0, 4294967295, false, []⟩
def FWU_RUN_SEC_SEC : FieldD := ⟨0x64, 1, 0, 0, 32, .ro, 0, .live, false, 0, 4294967295, false, []⟩
def FWU_STAGED_VER_VER : FieldD := ⟨0x68, 1, 0, 0, 32, .ro, 0, .live, false, 0, 4294967295, false, []⟩
def FWU_STAGED_SEC_SEC : FieldD := ⟨0x6c, 1, 0, 0, 32, .ro, 0, .live, false, 0, 4294967295, false, []⟩
def FWU_CONFIRM_KEY : FieldD := ⟨0x70, 1, 0, 0, 16, .wo, 0, .value, true, 0, 65535, false, []⟩
def FWU_APPROVE_APPROVE : FieldD := ⟨0x74, 1, 0, 0, 1, .wo, 0, .value, true, 0, 1, false, []⟩
def FWU_CONFIRM_LEFT_S : FieldD := ⟨0x78, 1, 0, 0, 12, .ro, 0, .live, false, 0, 4095, false, []⟩
def FWU_PUSH_LO_DATA : FieldD := ⟨0x80, 1, 0, 0, 32, .wo, 0, .value, true, 0, 4294967295, false, []⟩
def FWU_PUSH_HI_DATA : FieldD := ⟨0x84, 1, 0, 0, 32, .wo, 0, .value, true, 0, 4294967295, false, []⟩
def FWU_PUSH_END_END : FieldD := ⟨0x88, 1, 0, 0, 1, .wo, 0, .value, true, 0, 1, false, []⟩
def FWU_NONCE_LO_NONCE : FieldD := ⟨0xc0, 1, 0, 0, 32, .ro, 0, .live, false, 0, 4294967295, false, []⟩
def FWU_NONCE_HI_NONCE : FieldD := ⟨0xc4, 1, 0, 0, 32, .ro, 0, .live, false, 0, 4294967295, false, []⟩
def FWU_OCMD_CODE : FieldD := ⟨0xc8, 1, 0, 0, 8, .rw, 0, .value, true, 0, 255, false, []⟩
def FWU_OCMD_ARG : FieldD := ⟨0xc8, 1, 0, 16, 16, .rw, 0, .value, true, 0, 65535, false, []⟩
def FWU_OGO_GO : FieldD := ⟨0xcc, 1, 0, 0, 1, .wo, 0, .value, true, 0, 1, false, []⟩
def FWU_OSTAT_RESULT : FieldD := ⟨0xd0, 1, 0, 0, 2, .ro, 0, .value, false, 0, 3, false, []⟩
def FWU_OSIG_SIG : FieldD := ⟨0x100, 16, 4, 0, 32, .wo, 0, .value, true, 0, 4294967295, false, []⟩
def FWU_OKEY_KEY : FieldD := ⟨0x140, 8, 4, 0, 32, .wo, 0, .value, true, 0, 4294967295, false, []⟩
def FWU_STAGES : FieldD := ⟨0xa0, 1, 0, 0, 32, .ro, 0, .value, false, 0, 4294967295, true, []⟩
def FWU_ACTIVATIONS : FieldD := ⟨0xa4, 1, 0, 0, 32, .ro, 0, .value, false, 0, 4294967295, true, []⟩
def FWU_FALLBACKS : FieldD := ⟨0xa8, 1, 0, 0, 32, .ro, 0, .value, false, 0, 4294967295, true, []⟩
def FWU_OCMD_REFUSED : FieldD := ⟨0xac, 1, 0, 0, 32, .ro, 0, .value, false, 0, 4294967295, true, []⟩

/-! The registers of page type BST, from spec/19_self_test_and_test_access.md. -/

def BST_CTL_EN : FieldD := ⟨0x40, 1, 0, 0, 8, .rw, 255, .drawer, false, 0, 255, false, []⟩
def BST_CTL_PERIOD_MIN : FieldD := ⟨0x40, 1, 0, 16, 11, .rw, 60, .drawer, false, 0, 1440, false, []⟩
def BST_CMD_RUN : FieldD := ⟨0x44, 1, 0, 0, 1, .wo, 0, .value, true, 0, 1, false, []⟩
def BST_OFFLINE_KEY : FieldD := ⟨0x48, 1, 0, 0, 16, .wo, 0, .value, true, 0, 65535, false, []⟩
def BST_STAT_BUSY : FieldD := ⟨0x4c, 1, 0, 0, 1, .ro, 0, .live, false, 0, 1, false, []⟩
def BST_STAT_LAST : FieldD := ⟨0x4c, 1, 0, 1, 2, .ro, 0, .value, false, 0, 3, false, []⟩
def BST_RESULT_TEST : FieldD := ⟨0x50, 1, 0, 0, 16, .ro, 0, .value, false, 0, 65535, false, []⟩
def BST_DURATION_MS : FieldD := ⟨0x54, 1, 0, 0, 11, .ro, 0, .value, false, 0, 2047, false, []⟩
def BST_OFF_RESULT_RING : FieldD := ⟨0x58, 1, 0, 0, 2, .ro, 0, .value, false, 0, 3, false, []⟩
def BST_OFF_RESULT_FIELD : FieldD := ⟨0x58, 1, 0, 2, 2, .ro, 0, .value, false, 0, 3, false, []⟩
def BST_OFF_SIG_RING_SIG : FieldD := ⟨0x5c, 1, 0, 0, 32, .ro, 0, .value, false, 0, 4294967295, false, []⟩
def BST_OFF_SIG_FIELD_SIG : FieldD := ⟨0x60, 1, 0, 0, 32, .ro, 0, .value, false, 0, 4294967295, false, []⟩
def BST_RETIRED_CELLS : FieldD := ⟨0x64, 1, 0, 0, 9, .ro, 0, .value, false, 0, 511, false, []⟩
def BST_FLOG_POP0_KIND : FieldD := ⟨0x70, 1, 0, 0, 8, .rc, 0, .value, false, 0, 255, false, []⟩
def BST_FLOG_POP0_INJECTED : FieldD := ⟨0x70, 1, 0, 8, 1, .rc, 0, .value, false, 0, 1, false, []⟩
def BST_FLOG_POP0_CLASS : FieldD := ⟨0x70, 1, 0, 9, 3, .rc, 0, .value, false, 0, 7, false, []⟩
def BST_FLOG_POP0_PAGE : FieldD := ⟨0x70, 1, 0, 16, 9, .rc, 0, .value, false, 0, 511, false, []⟩
def BST_FLOG_POP0_VALID : FieldD := ⟨0x70, 1, 0, 31, 1, .rc, 0, .value, false, 0, 1, false, []⟩
def BST_FLOG_POP1_STAMP : FieldD := ⟨0x74, 1, 0, 0, 32, .ro, 0, .value, false, 0, 4294967295, false, []⟩
def BST_FLOG_POP2_SEC_LO : FieldD := ⟨0x78, 1, 0, 0, 32, .ro, 0, .value, false, 0, 4294967295, false, []⟩
def BST_FLOG_POP3_DETAIL : FieldD := ⟨0x7c, 1, 0, 0, 32, .ro, 0, .value, false, 0, 4294967295, false, []⟩
def BST_FLOG_OVF_COUNT : FieldD := ⟨0x80, 1, 0, 0, 32, .rc, 0, .value, false, 0, 4294967295, false, []⟩
def BST_PASSES : FieldD := ⟨0xa0, 1, 0, 0, 32, .ro, 0, .value, false, 0, 4294967295, true, []⟩
def BST_FAILS : FieldD := ⟨0xa4, 1, 0, 0, 32, .ro, 0, .value, false, 0, 4294967295, true, []⟩
def BST_SKIPS : FieldD := ⟨0xa8, 1, 0, 0, 32, .ro, 0, .value, false, 0, 4294967295, true, []⟩
def BST_OFFLINE_RUNS : FieldD := ⟨0xac, 1, 0, 0, 32, .ro, 0, .value, false, 0, 4294967295, true, []⟩

/-! The registers of page type PRT, from spec/19_self_test_and_test_access.md. -/

def PRT_CTL_ALLOW : FieldD := ⟨0x40, 1, 0, 0, 1, .rwl, 0, .drawer, false, 0, 1, false, []⟩
def PRT_CTL_UNLOCK_MIN : FieldD := ⟨0x40, 1, 0, 16, 11, .rw, 60, .drawer, false, 1, 1440, false, []⟩
def PRT_UNLOCK_KEY : FieldD := ⟨0x44, 1, 0, 0, 16, .wo, 0, .value, true, 0, 65535, false, []⟩
def PRT_STAT_TEST_UNLOCK : FieldD := ⟨0x48, 1, 0, 0, 1, .ro, 0, .value, true, 0, 1, false, []⟩
def PRT_STAT_TEST_PIN : FieldD := ⟨0x48, 1, 0, 1, 1, .ro, 0, .live, false, 0, 1, false, []⟩
def PRT_STAT_SCAN_STATE : FieldD := ⟨0x48, 1, 0, 2, 2, .ro, 0, .live, false, 0, 3, false, []⟩
def PRT_STAT_OTP_BLOCKED : FieldD := ⟨0x48, 1, 0, 4, 1, .ro, 0, .live, false, 0, 1, false, []⟩
def PRT_STAT_UNLOCK_LEFT : FieldD := ⟨0x48, 1, 0, 16, 11, .ro, 0, .live, true, 0, 2047, false, []⟩
def PRT_CHAL_CHAL : FieldD := ⟨0x60, 4, 4, 0, 32, .ro, 0, .live, false, 0, 4294967295, false, []⟩
def PRT_RESP_SIG : FieldD := ⟨0x80, 16, 4, 0, 32, .wo, 0, .value, true, 0, 4294967295, false, []⟩
def PRT_SCAN_GO_GO : FieldD := ⟨0xc0, 1, 0, 0, 1, .wo, 0, .value, true, 0, 1, false, []⟩
def PRT_PERT_MAP_MAP : FieldD := ⟨0x100, 16, 4, 0, 32, .ro, 0, .live, true, 0, 4294967295, false, []⟩
def PRT_INJECTED : FieldD := ⟨0xa0, 1, 0, 0, 32, .ro, 0, .value, false, 0, 4294967295, true, []⟩
def PRT_SCAN_REFUSED : FieldD := ⟨0xa4, 1, 0, 0, 32, .ro, 0, .value, false, 0, 4294967295, true, []⟩

/-! The registers of page type PORT, from spec/03_ring_and_topology.md. -/

def PORT_CFG_MODE : FieldD := ⟨0x40, 1, 0, 0, 4, .rwl, 0, .drawer, false, 0, 5, false, []⟩
def PORT_CFG_FEC : FieldD := ⟨0x40, 1, 0, 4, 2, .rwl, 0, .drawer, false, 0, 2, false, []⟩
def PORT_CFG_ROLE : FieldD := ⟨0x40, 1, 0, 8, 2, .rwl, 0, .drawer, false, 0, 3, false, []⟩
def PORT_STAT_LINK : FieldD := ⟨0x44, 1, 0, 0, 2, .ro, 0, .live, false, 0, 3, false, []⟩
def PORT_STAT_PCS_LOCK : FieldD := ⟨0x44, 1, 0, 2, 1, .ro, 0, .live, false, 0, 1, false, []⟩
def PORT_STAT_FEC_LOCK : FieldD := ⟨0x44, 1, 0, 3, 1, .ro, 0, .live, false, 0, 1, false, []⟩
def PORT_STAT_HELLO : FieldD := ⟨0x44, 1, 0, 4, 2, .ro, 0, .live, false, 0, 3, false, []⟩
def PORT_STAT_LINK_VER : FieldD := ⟨0x44, 1, 0, 6, 2, .ro, 0, .live, false, 0, 3, false, []⟩
def PORT_STAT_SGMII_SPEED : FieldD := ⟨0x44, 1, 0, 8, 2, .ro, 0, .live, false, 0, 3, false, []⟩
def PORT_STAT_WAIT_PAIR : FieldD := ⟨0x44, 1, 0, 10, 1, .ro, 0, .live, false, 0, 1, false, []⟩
def PORT_TIMING_UP_HOLD : FieldD := ⟨0x48, 1, 0, 0, 8, .rw, 10, .drawer, false, 0, 100, false, []⟩
def PORT_TIMING_DOWN_HOLD : FieldD := ⟨0x48, 1, 0, 16, 10, .rw, 0, .drawer, false, 0, 1000, false, []⟩
def PORT_PROXY_USED_USED : FieldD := ⟨0x4c, 1, 0, 0, 10, .ro, 0, .live, false, 0, 1023, false, []⟩
def PORT_RX_FRAMES : FieldD := ⟨0x60, 1, 0, 0, 32, .ro, 0, .value, false, 0, 4294967295, true, []⟩
def PORT_RX_DISCARD : FieldD := ⟨0x64, 1, 0, 0, 32, .ro, 0, .value, false, 0, 4294967295, true, []⟩
def PORT_TX_FRAMES : FieldD := ⟨0x68, 1, 0, 0, 32, .ro, 0, .value, false, 0, 4294967295, true, []⟩
def PORT_HSR_DUP : FieldD := ⟨0x6c, 1, 0, 0, 32, .ro, 0, .value, false, 0, 4294967295, true, []⟩
def PORT_HSR_OWN : FieldD := ⟨0x70, 1, 0, 0, 32, .ro, 0, .value, false, 0, 4294967295, true, []⟩
def PORT_STOMP_RX : FieldD := ⟨0x74, 1, 0, 0, 32, .ro, 0, .value, false, 0, 4294967295, true, []⟩
def PORT_FEC_CORR : FieldD := ⟨0x78, 1, 0, 0, 32, .ro, 0, .value, false, 0, 4294967295, true, []⟩
def PORT_FEC_UNCORR : FieldD := ⟨0x7c, 1, 0, 0, 32, .ro, 0, .value, false, 0, 4294967295, true, []⟩

/-! The registers of page type KVL, from spec/03_ring_and_topology.md. -/

def KVL_ETYPE_ETYPE : FieldD := ⟨0x40, 1, 0, 0, 16, .rwl, 34997, .drawer, false, 0, 65535, false, []⟩
def KVL_VER_EN : FieldD := ⟨0x44, 1, 0, 0, 3, .rwl, 7, .drawer, false, 1, 7, false, []⟩
def KVL_VER_IMPL : FieldD := ⟨0x44, 1, 0, 8, 3, .ro, 7, .value, false, 0, 7, false, []⟩
def KVL_SUPV_PERIOD : FieldD := ⟨0x48, 1, 0, 0, 7, .rw, 10, .drawer, false, 1, 100, false, []⟩
def KVL_HSR_CTL_SUPV_INTERVAL : FieldD := ⟨0x4c, 1, 0, 0, 16, .rw, 2000, .drawer, false, 100, 10000, false, []⟩
def KVL_HSR_CTL_NET_ID : FieldD := ⟨0x4c, 1, 0, 16, 3, .rw, 0, .drawer, false, 0, 7, false, []⟩
def KVL_HSR_CTL_SUPV_ADDR : FieldD := ⟨0x4c, 1, 0, 24, 8, .rw, 0, .drawer, false, 0, 255, false, []⟩
def KVL_HSR_FORGET_DD_FORGET : FieldD := ⟨0x50, 1, 0, 0, 10, .rw, 400, .drawer, false, 1, 1000, false, []⟩
def KVL_HSR_FORGET_PROXY_FORGET : FieldD := ⟨0x50, 1, 0, 16, 10, .rw, 60, .drawer, false, 1, 600, false, []⟩
def KVL_RX_KVL : FieldD := ⟨0x60, 1, 0, 0, 32, .ro, 0, .value, false, 0, 4294967295, true, []⟩
def KVL_BAD_HDR : FieldD := ⟨0x64, 1, 0, 0, 32, .ro, 0, .value, false, 0, 4294967295, true, []⟩
def KVL_NOT_MINE : FieldD := ⟨0x68, 1, 0, 0, 32, .ro, 0, .value, false, 0, 4294967295, true, []⟩
def KVL_DD_EVICT : FieldD := ⟨0x6c, 1, 0, 0, 32, .ro, 0, .value, false, 0, 4294967295, true, []⟩
def KVL_REWRITE_LIMIT : FieldD := ⟨0x70, 1, 0, 0, 32, .ro, 0, .value, false, 0, 4294967295, true, []⟩
def KVL_PREPEND_LIMIT : FieldD := ⟨0x74, 1, 0, 0, 32, .ro, 0, .value, false, 0, 4294967295, true, []⟩
def KVL_SPEC_FALL : FieldD := ⟨0x78, 1, 0, 0, 32, .ro, 0, .value, false, 0, 4294967295, true, []⟩

/-! The registers of page type NOD, from spec/03_ring_and_topology.md. -/

def NOD_SELF_NODE : FieldD := ⟨0x40, 1, 0, 0, 6, .rwl, 1, .drawer, false, 1, 62, false, []⟩
def NOD_SELF_SUB_NODE : FieldD := ⟨0x40, 1, 0, 8, 6, .rwl, 1, .drawer, false, 1, 62, false, []⟩
def NOD_SELF_COUPLER : FieldD := ⟨0x40, 1, 0, 16, 1, .ro, 0, .live, false, 0, 1, false, []⟩
def NOD_SELF_STAT_CONFLICT : FieldD := ⟨0x44, 1, 0, 0, 1, .ro, 0, .live, false, 0, 1, false, []⟩
def NOD_SELF_STAT_UPLINK_CONFLICT : FieldD := ⟨0x44, 1, 0, 1, 1, .ro, 0, .live, false, 0, 1, false, []⟩
def NOD_SELF_MAC_LO_MAC_LO : FieldD := ⟨0x48, 1, 0, 0, 32, .ro, 0, .device, false, 0, 4294967295, false, []⟩
def NOD_SELF_MAC_HI_MAC_HI : FieldD := ⟨0x4c, 1, 0, 0, 16, .ro, 0, .device, false, 0, 65535, false, []⟩
def NOD_EPOCH_EPOCH : FieldD := ⟨0x50, 1, 0, 0, 32, .ro, 0, .live, false, 0, 4294967295, false, []⟩
def NOD_GROUP_SET : FieldD := ⟨0x54, 1, 0, 0, 3, .ro, 0, .live, false, 0, 7, false, []⟩
def NOD_GROUP_GEN : FieldD := ⟨0x54, 1, 0, 16, 16, .ro, 0, .value, false, 0, 65535, false, []⟩
def NOD_GEN_GEN : FieldD := ⟨0x60, 1, 0, 0, 32, .ro, 0, .value, false, 0, 4294967295, false, []⟩
def NOD_CHG_POP_NODE : FieldD := ⟨0x64, 1, 0, 0, 6, .rc, 0, .value, false, 0, 63, false, []⟩
def NOD_CHG_POP_SUB : FieldD := ⟨0x64, 1, 0, 6, 1, .rc, 0, .value, false, 0, 1, false, []⟩
def NOD_CHG_POP_VALID : FieldD := ⟨0x64, 1, 0, 7, 1, .rc, 0, .value, false, 0, 1, false, []⟩
def NOD_CHG_POP_STATE : FieldD := ⟨0x64, 1, 0, 8, 3, .rc, 0, .value, false, 0, 7, false, []⟩
def NOD_CHG_POP_REASON : FieldD := ⟨0x64, 1, 0, 11, 4, .rc, 0, .value, false, 0, 15, false, []⟩
def NOD_CHG_POP_GEN : FieldD := ⟨0x64, 1, 0, 16, 16, .rc, 0, .value, false, 0, 65535, false, []⟩
def NOD_CHG_OVF_COUNT : FieldD := ⟨0x68, 1, 0, 0, 32, .rc, 0, .value, false, 0, 4294967295, false, []⟩
def NOD_RB_PATH_PATH : FieldD := ⟨0x100, 16, 8, 0, 24, .rw, 0, .drawer, false, 0, 16777215, false, []⟩
def NOD_RB_CTL_VALID : FieldD := ⟨0x104, 16, 8, 0, 1, .rw, 0, .drawer, false, 0, 1, false, []⟩
def NOD_RB_CTL_ROOT : FieldD := ⟨0x104, 16, 8, 1, 1, .rw, 0, .drawer, false, 0, 1, false, []⟩
def NOD_RB_CTL_CHAIN : FieldD := ⟨0x104, 16, 8, 2, 1, .rw, 0, .drawer, false, 0, 1, false, []⟩
def NOD_RB_CTL_CHAIN_IDX : FieldD := ⟨0x104, 16, 8, 3, 4, .rw, 0, .drawer, false, 0, 15, false, []⟩

/-! The registers of page type SEQ, from spec/04_transactions_and_sequencing.md. -/

def SEQ_CTL_FLOOR_DELAY : FieldD := ⟨0x40, 1, 0, 0, 10, .rw, 100, .drawer, false, 1, 1000, false, []⟩
def SEQ_CTL_RX_IDLE : FieldD := ⟨0x40, 1, 0, 16, 12, .rw, 60, .drawer, false, 30, 3600, false, []⟩
def SEQ_CTL2_STREAM_WAIT : FieldD := ⟨0x44, 1, 0, 0, 10, .rw, 100, .drawer, false, 1, 1000, false, []⟩
def SEQ_ABORT_SEQ_SEQ : FieldD := ⟨0x48, 1, 0, 0, 32, .wo, 0, .value, true, 0, 4294967295, false, []⟩
def SEQ_ABORT_GO_FLOW : FieldD := ⟨0x4c, 1, 0, 0, 12, .wo, 0, .value, true, 0, 4095, false, []⟩
def SEQ_LIVE_LIVE : FieldD := ⟨0x50, 1, 0, 0, 15, .ro, 0, .live, false, 0, 32767, false, []⟩
def SEQ_LIVE_DATA_LIVE : FieldD := ⟨0x50, 1, 0, 16, 11, .ro, 0, .live, false, 0, 2047, false, []⟩
def SEQ_START_KIND : FieldD := ⟨0x54, 1, 0, 0, 2, .ro, 0, .live, false, 0, 3, false, []⟩
def SEQ_START_CKPT_KIB : FieldD := ⟨0x54, 1, 0, 16, 16, .ro, 0, .live, false, 0, 65535, false, []⟩
def SEQ_LOG_POP0_STATUS : FieldD := ⟨0x60, 1, 0, 0, 8, .rc, 0, .value, false, 0, 255, false, []⟩
def SEQ_LOG_POP0_CAUSE : FieldD := ⟨0x60, 1, 0, 8, 8, .rc, 0, .value, false, 0, 255, false, []⟩
def SEQ_LOG_POP0_FLOW : FieldD := ⟨0x60, 1, 0, 16, 12, .rc, 0, .value, false, 0, 4095, false, []⟩
def SEQ_LOG_POP0_VALID : FieldD := ⟨0x60, 1, 0, 31, 1, .rc, 0, .value, false, 0, 1, false, []⟩
def SEQ_LOG_POP1_SEQ : FieldD := ⟨0x64, 1, 0, 0, 32, .ro, 0, .value, false, 0, 4294967295, false, []⟩
def SEQ_LOG_POP2_OFFSET_LO : FieldD := ⟨0x68, 1, 0, 0, 32, .ro, 0, .value, false, 0, 4294967295, false, []⟩
def SEQ_LOG_POP3_OFFSET_HI : FieldD := ⟨0x6c, 1, 0, 0, 8, .ro, 0, .value, false, 0, 255, false, []⟩
def SEQ_LOG_POP3_TAG : FieldD := ⟨0x6c, 1, 0, 8, 10, .ro, 0, .value, false, 0, 1023, false, []⟩
def SEQ_LOG_POP3_OP : FieldD := ⟨0x6c, 1, 0, 18, 4, .ro, 0, .value, false, 0, 15, false, []⟩
def SEQ_LOG_POP3_ORPHAN : FieldD := ⟨0x6c, 1, 0, 22, 1, .ro, 0, .value, false, 0, 1, false, []⟩
def SEQ_LOG_OVF_COUNT : FieldD := ⟨0x70, 1, 0, 0, 32, .rc, 0, .value, false, 0, 4294967295, false, []⟩
def SEQ_RETRANSMIT : FieldD := ⟨0x80, 1, 0, 0, 32, .ro, 0, .value, false, 0, 4294967295, true, []⟩
def SEQ_DUP_ANSWERED : FieldD := ⟨0x84, 1, 0, 0, 32, .ro, 0, .value, false, 0, 4294967295, true, []⟩
def SEQ_STALE : FieldD := ⟨0x88, 1, 0, 0, 32, .ro, 0, .value, false, 0, 4294967295, true, []⟩
def SEQ_NO_CONTEXT : FieldD := ⟨0x8c, 1, 0, 0, 32, .ro, 0, .value, false, 0, 4294967295, true, []⟩
def SEQ_LATE_CPL : FieldD := ⟨0x90, 1, 0, 0, 32, .ro, 0, .value, false, 0, 4294967295, true, []⟩
def SEQ_RESYNC_DROP : FieldD := ⟨0x94, 1, 0, 0, 32, .ro, 0, .value, false, 0, 4294967295, true, []⟩
def SEQ_EPOCH_CLOSED : FieldD := ⟨0x98, 1, 0, 0, 32, .ro, 0, .value, false, 0, 4294967295, true, []⟩
def SEQ_UNREACH_CLOSED : FieldD := ⟨0x9c, 1, 0, 0, 32, .ro, 0, .value, false, 0, 4294967295, true, []⟩
def SEQ_DEFERRED : FieldD := ⟨0xa0, 1, 0, 0, 32, .ro, 0, .value, false, 0, 4294967295, true, []⟩
def SEQ_BCAST_GAP : FieldD := ⟨0xa4, 1, 0, 0, 32, .ro, 0, .value, false, 0, 4294967295, true, []⟩
def SEQ_NOP_SENT : FieldD := ⟨0xa8, 1, 0, 0, 32, .ro, 0, .value, false, 0, 4294967295, true, []⟩

/-! The registers of page type SWC, from spec/05_switch_core_and_buffer.md. -/

def SWC_CTL_CT_EN : FieldD := ⟨0x40, 1, 0, 0, 1, .rw, 1, .drawer, false, 0, 1, false, []⟩
def SWC_HASH_SALT : FieldD := ⟨0x44, 1, 0, 0, 16, .rwl, 65535, .drawer, false, 0, 65535, false, []⟩
def SWC_PCP_MAP_MAP : FieldD := ⟨0x48, 1, 0, 0, 24, .rw, 16434824, .drawer, false, 0, 16777215, false, []⟩
def SWC_PCP_MAP_UNTAGGED : FieldD := ⟨0x48, 1, 0, 24, 3, .rw, 1, .drawer, false, 0, 7, false, []⟩
def SWC_ETC_ETYPE : FieldD := ⟨0x50, 4, 4, 0, 16, .rw, 0, .drawer, false, 0, 65535, false, [35000, 35002, 35063, 0]⟩
def SWC_ETC_CLASS : FieldD := ⟨0x50, 4, 4, 16, 3, .rw, 0, .drawer, false, 0, 7, false, [7, 5, 6, 0]⟩
def SWC_ETC_EN : FieldD := ⟨0x50, 4, 4, 19, 1, .rw, 0, .drawer, false, 0, 1, false, [1, 1, 1, 0]⟩
def SWC_AGE_LIMIT : FieldD := ⟨0x60, 8, 4, 0, 16, .rw, 0, .drawer, false, 1, 60000, false, [39063, 3906, 3906, 50000, 0, 500, 1000, 2000]⟩
def SWC_AGE_UNIT : FieldD := ⟨0x60, 8, 4, 16, 1, .ro, 0, .value, false, 0, 1, false, [1, 1, 1, 0, 0, 0, 0, 0]⟩
def SWC_PATHMAP_PATH : FieldD := ⟨0x200, 128, 4, 0, 32, .ro, 0, .live, false, 0, 4294967295, false, []⟩
def SWC_CT_FRAMES : FieldD := ⟨0xa0, 1, 0, 0, 32, .ro, 0, .value, false, 0, 4294967295, true, []⟩
def SWC_STOMP_TX : FieldD := ⟨0xa4, 1, 0, 0, 32, .ro, 0, .value, false, 0, 4294967295, true, []⟩
def SWC_FENCES : FieldD := ⟨0xa8, 1, 0, 0, 32, .ro, 0, .value, false, 0, 4294967295, true, []⟩
def SWC_AGED_CPL : FieldD := ⟨0xac, 1, 0, 0, 32, .ro, 0, .value, false, 0, 4294967295, true, []⟩
def SWC_AGED_FRAMES : FieldD := ⟨0xc0, 8, 4, 0, 32, .ro, 0, .value, false, 0, 4294967295, true, []⟩
def SWC_DOWN_DROP : FieldD := ⟨0xe0, 7, 4, 0, 32, .ro, 0, .value, false, 0, 4294967295, true, []⟩

/-! The registers of page type FLW, from spec/04_transactions_and_sequencing.md. -/

def FLW_CFG_VALID : FieldD := ⟨0x100, 64, 32, 0, 1, .rwl, 0, .drawer, false, 0, 1, false, []⟩
def FLW_CFG_CLASS : FieldD := ⟨0x100, 64, 32, 2, 3, .rwl, 0, .drawer, false, 0, 7, false, []⟩
def FLW_CFG_DUP : FieldD := ⟨0x100, 64, 32, 5, 1, .rwl, 0, .drawer, false, 0, 1, false, []⟩
def FLW_CFG_DURABLE : FieldD := ⟨0x100, 64, 32, 6, 1, .rwl, 0, .drawer, false, 0, 1, false, []⟩
def FLW_CFG_INITIATOR : FieldD := ⟨0x100, 64, 32, 16, 16, .rwl, 0, .drawer, false, 0, 65535, false, []⟩
def FLW_DST_PATH : FieldD := ⟨0x104, 64, 32, 0, 24, .rwl, 0, .drawer, false, 0, 16777215, false, []⟩
def FLW_TIMER_RTO : FieldD := ⟨0x108, 64, 32, 0, 16, .rw, 500, .drawer, false, 10, 65535, false, []⟩
def FLW_TIMER_RETRIES : FieldD := ⟨0x108, 64, 32, 16, 4, .rw, 7, .drawer, false, 0, 15, false, []⟩
def FLW_OPEN_MAP_LO_MAP : FieldD := ⟨0x40, 1, 0, 0, 32, .ro, 0, .live, false, 0, 4294967295, false, []⟩
def FLW_OPEN_MAP_HI_MAP : FieldD := ⟨0x44, 1, 0, 0, 32, .ro, 0, .live, false, 0, 4294967295, false, []⟩

/-! The registers of page type BUF, from spec/05_switch_core_and_buffer.md. -/

def BUF_POOL0_TRANSIT_MIN : FieldD := ⟨0x40, 1, 0, 0, 16, .rwl, 8192, .drawer, false, 4096, 32768, false, []⟩
def BUF_POOL0_RESPONSE_MIN : FieldD := ⟨0x40, 1, 0, 16, 16, .rwl, 8192, .drawer, false, 4096, 32768, false, []⟩
def BUF_POOL1_PROTECT_MIN : FieldD := ⟨0x44, 1, 0, 0, 16, .rwl, 2048, .drawer, false, 1024, 16384, false, []⟩
def BUF_PORT_CAP_CAP : FieldD := ⟨0x48, 7, 4, 0, 16, .rw, 16384, .drawer, false, 0, 49024, false, []⟩
def BUF_SCRUB_PERIOD : FieldD := ⟨0x68, 1, 0, 0, 12, .rw, 60, .drawer, false, 1, 3600, false, []⟩
def BUF_SCRUB_STAT_LATE : FieldD := ⟨0x6c, 1, 0, 0, 1, .w1c, 0, .value, false, 0, 1, false, []⟩
def BUF_ECC_STAT_VALID : FieldD := ⟨0x70, 1, 0, 0, 1, .w1c, 0, .value, false, 0, 1, false, []⟩
def BUF_ECC_STAT_WHERE : FieldD := ⟨0x70, 1, 0, 1, 2, .ro, 0, .value, false, 0, 3, false, []⟩
def BUF_ECC_ADDR_INDEX : FieldD := ⟨0x74, 1, 0, 0, 16, .ro, 0, .value, false, 0, 65535, false, []⟩
def BUF_ECC_ADDR_WORD : FieldD := ⟨0x74, 1, 0, 16, 2, .ro, 0, .value, false, 0, 3, false, []⟩
def BUF_WALK_SWEEP : FieldD := ⟨0x78, 1, 0, 0, 1, .wo, 0, .value, true, 0, 1, false, []⟩
def BUF_WALK_BUSY : FieldD := ⟨0x78, 1, 0, 1, 1, .ro, 0, .live, false, 0, 1, false, []⟩
def BUF_WALK_PORT : FieldD := ⟨0x78, 1, 0, 2, 3, .ro, 0, .live, false, 0, 7, false, []⟩
def BUF_USE0_TRANSIT : FieldD := ⟨0x80, 1, 0, 0, 16, .ro, 0, .live, false, 0, 65535, false, []⟩
def BUF_USE0_RESPONSE : FieldD := ⟨0x80, 1, 0, 16, 16, .ro, 0, .live, false, 0, 65535, false, []⟩
def BUF_USE1_PROTECT : FieldD := ⟨0x84, 1, 0, 0, 16, .ro, 0, .live, false, 0, 65535, false, []⟩
def BUF_USE1_SHARED : FieldD := ⟨0x84, 1, 0, 16, 16, .ro, 0, .live, false, 0, 65535, false, []⟩
def BUF_FREE_FREE : FieldD := ⟨0x88, 1, 0, 0, 16, .ro, 0, .live, false, 0, 65535, false, []⟩
def BUF_ECC_CORR : FieldD := ⟨0xa0, 1, 0, 0, 32, .ro, 0, .value, false, 0, 4294967295, true, []⟩
def BUF_ECC_UNCORR : FieldD := ⟨0xa4, 1, 0, 0, 32, .ro, 0, .value, false, 0, 4294967295, true, []⟩
def BUF_DROP_TRANSIT : FieldD := ⟨0xa8, 1, 0, 0, 32, .ro, 0, .value, false, 0, 4294967295, true, []⟩
def BUF_DROP_RESPONSE : FieldD := ⟨0xac, 1, 0, 0, 32, .ro, 0, .value, false, 0, 4294967295, true, []⟩
def BUF_DROP_PROTECT : FieldD := ⟨0xb0, 1, 0, 0, 32, .ro, 0, .value, false, 0, 4294967295, true, []⟩
def BUF_DROP_SHARED : FieldD := ⟨0xb4, 1, 0, 0, 32, .ro, 0, .value, false, 0, 4294967295, true, []⟩
def BUF_RECLAIMED : FieldD := ⟨0xb8, 1, 0, 0, 32, .ro, 0, .value, false, 0, 4294967295, true, []⟩
def BUF_LEAKED : FieldD := ⟨0xbc, 1, 0, 0, 32, .ro, 0, .value, false, 0, 4294967295, true, []⟩
def BUF_SCRUB_PASSES : FieldD := ⟨0xc0, 1, 0, 0, 32, .ro, 0, .value, false, 0, 4294967295, true, []⟩

/-! The registers of page type JRN, from spec/05_switch_core_and_buffer.md. -/

def JRN_CFG_DENSITY : FieldD := ⟨0x40, 1, 0, 0, 2, .rwl, 0, .drawer, false, 0, 3, false, []⟩
def JRN_CFG_RANKS : FieldD := ⟨0x40, 1, 0, 2, 1, .rwl, 0, .drawer, false, 0, 1, false, []⟩
def JRN_CFG_EXT_TEMP : FieldD := ⟨0x40, 1, 0, 3, 1, .rwl, 0, .drawer, false, 0, 1, false, []⟩
def JRN_CFG_SPEED : FieldD := ⟨0x40, 1, 0, 8, 2, .rwl, 0, .drawer, false, 0, 3, false, []⟩
def JRN_STAT_STATE : FieldD := ⟨0x44, 1, 0, 0, 3, .ro, 0, .live, false, 0, 7, false, []⟩
def JRN_STAT_SIZE_GIB : FieldD := ⟨0x44, 1, 0, 8, 5, .ro, 0, .live, false, 0, 31, false, []⟩
def JRN_SCRUB_HOURS : FieldD := ⟨0x48, 1, 0, 0, 8, .rw, 24, .drawer, false, 1, 168, false, []⟩
def JRN_ECC_STAT_VALID : FieldD := ⟨0x4c, 1, 0, 0, 1, .w1c, 0, .value, false, 0, 1, false, []⟩
def JRN_ECC_STAT_USER : FieldD := ⟨0x4c, 1, 0, 1, 1, .ro, 0, .value, false, 0, 1, false, []⟩
def JRN_ECC_ADDR_LO_ADDR_LO : FieldD := ⟨0x50, 1, 0, 0, 32, .ro, 0, .value, false, 0, 4294967295, false, []⟩
def JRN_ECC_ADDR_HI_ADDR_HI : FieldD := ⟨0x54, 1, 0, 0, 2, .ro, 0, .value, false, 0, 3, false, []⟩
def JRN_USER_BASE_BASE : FieldD := ⟨0x58, 1, 0, 0, 32, .ro, 1073741824, .value, false, 0, 4294967295, false, []⟩
def JRN_ECC_CORR : FieldD := ⟨0x60, 1, 0, 0, 32, .ro, 0, .value, false, 0, 4294967295, true, []⟩
def JRN_ECC_UNCORR : FieldD := ⟨0x64, 1, 0, 0, 32, .ro, 0, .value, false, 0, 4294967295, true, []⟩
def JRN_SCRUB_PASSES : FieldD := ⟨0x68, 1, 0, 0, 32, .ro, 0, .value, false, 0, 4294967295, true, []⟩
def JRN_SR_ENTRIES : FieldD := ⟨0x6c, 1, 0, 0, 32, .ro, 0, .value, false, 0, 4294967295, true, []⟩

/-! The registers of page type HDG, from spec/06_sluices_and_headgates.md. -/

def HDG_RATE_RATE : FieldD := ⟨0x100, 64, 16, 0, 32, .rw, 0, .drawer, false, 0, 25000000, false, []⟩
def HDG_CTL_BURST : FieldD := ⟨0x104, 64, 16, 0, 24, .rw, 0, .drawer, false, 0, 16777215, false, []⟩
def HDG_CTL_ACTION : FieldD := ⟨0x104, 64, 16, 24, 1, .rw, 0, .drawer, false, 0, 1, false, []⟩
def HDG_CTL_MARK_CLASS : FieldD := ⟨0x104, 64, 16, 25, 3, .rw, 0, .drawer, false, 0, 3, false, []⟩
def HDG_CTL_CHG_FILL : FieldD := ⟨0x104, 64, 16, 28, 2, .rw, 0, .drawer, false, 0, 2, false, []⟩
def HDG_CTL_EN : FieldD := ⟨0x104, 64, 16, 31, 1, .rw, 0, .drawer, false, 0, 1, false, []⟩
def HDG_TOKENS_TOKENS : FieldD := ⟨0x108, 64, 16, 0, 24, .ro, 0, .live, true, 0, 16777215, false, []⟩
def HDG_EXCESS_COUNT : FieldD := ⟨0x10c, 64, 16, 0, 32, .ro, 0, .value, false, 0, 4294967295, true, []⟩
def HDG_FMAP_HG_EVEN : FieldD := ⟨0x600, 128, 4, 0, 10, .rw, 0, .drawer, false, 0, 1023, false, []⟩
def HDG_FMAP_EN_EVEN : FieldD := ⟨0x600, 128, 4, 15, 1, .rw, 0, .drawer, false, 0, 1, false, []⟩
def HDG_FMAP_HG_ODD : FieldD := ⟨0x600, 128, 4, 16, 10, .rw, 0, .drawer, false, 0, 1023, false, []⟩
def HDG_FMAP_EN_ODD : FieldD := ⟨0x600, 128, 4, 31, 1, .rw, 0, .drawer, false, 0, 1, false, []⟩
def HDG_MARKED : FieldD := ⟨0x60, 1, 0, 0, 32, .ro, 0, .value, false, 0, 4294967295, true, []⟩
def HDG_DROP_FRAMES : FieldD := ⟨0x64, 1, 0, 0, 32, .ro, 0, .value, false, 0, 4294967295, true, []⟩
def HDG_DROP_TXN : FieldD := ⟨0x68, 1, 0, 0, 32, .ro, 0, .value, false, 0, 4294967295, true, []⟩

/-! The registers of page type HDG0, from spec/06_sluices_and_headgates.md. -/

def HDG00_PSEL_HG : FieldD := ⟨0x800, 24, 4, 0, 10, .rw, 0, .drawer, false, 0, 1023, false, []⟩
def HDG00_PSEL_EN : FieldD := ⟨0x800, 24, 4, 15, 1, .rw, 0, .drawer, false, 0, 1, false, []⟩

/-! The registers of page type SLU, from spec/06_sluices_and_headgates.md. -/

def SLU_RATE_RATE : FieldD := ⟨0x100, 64, 32, 0, 25, .rw, 0, .drawer, false, 0, 25000000, false, []⟩
def SLU_BURST_BURST : FieldD := ⟨0x104, 64, 32, 0, 25, .rw, 16384, .drawer, false, 0, 16777216, false, []⟩
def SLU_CTL_EN : FieldD := ⟨0x108, 64, 32, 0, 1, .rw, 0, .drawer, false, 0, 1, false, []⟩
def SLU_CTL_CHG_FILL : FieldD := ⟨0x108, 64, 32, 1, 2, .rw, 2, .drawer, false, 0, 2, false, []⟩
def SLU_CTL_OVERHEAD : FieldD := ⟨0x108, 64, 32, 3, 6, .rw, 0, .drawer, false, 0, 63, false, []⟩
def SLU_TOKENS_TOKENS : FieldD := ⟨0x10c, 64, 32, 0, 32, .ro, 16384, .live, true, 0, 4294967295, false, []⟩
def SLU_ACT_RATE_RATE : FieldD := ⟨0x110, 64, 32, 0, 25, .ro, 0, .live, false, 0, 33554431, false, []⟩
def SLU_ACT_BURST_BURST : FieldD := ⟨0x114, 64, 32, 0, 25, .ro, 16384, .live, false, 0, 33554431, false, []⟩
def SLU_RELEASED_COUNT : FieldD := ⟨0x118, 64, 32, 0, 32, .ro, 0, .value, false, 0, 4294967295, true, []⟩
def SLU_DEBT_WAITS_COUNT : FieldD := ⟨0x11c, 64, 32, 0, 32, .ro, 0, .value, false, 0, 4294967295, true, []⟩

/-! The registers of page type SLU40, from spec/06_sluices_and_headgates.md. -/

def SLU40_RATE_RATE : FieldD := ⟨0x100, 64, 32, 0, 25, .rw, 0, .drawer, false, 0, 25000000, false, [0, 0, 0, 0, 0, 0, 0, 0, 0, 0, 0, 0, 0, 0, 0, 0, 0, 0, 0, 0, 0, 0, 0, 0, 0, 0, 0, 0, 0, 0, 0, 0, 0, 0, 0, 0, 0, 0, 0, 0, 0, 0, 0, 0, 0, 0, 0, 0, 0, 0, 0, 0, 0, 0, 0, 0, 25000000, 25000000, 2500000, 2500000, 16000000, 10000000, 4000000, 0]⟩
def SLU40_BURST_BURST : FieldD := ⟨0x104, 64, 32, 0, 25, .rw, 16384, .drawer, false, 0, 16777216, false, [16384, 16384, 16384, 16384, 16384, 16384, 16384, 16384, 16384, 16384, 16384, 16384, 16384, 16384, 16384, 16384, 16384, 16384, 16384, 16384, 16384, 16384, 16384, 16384, 16384, 16384, 16384, 16384, 16384, 16384, 16384, 16384, 16384, 16384, 16384, 16384, 16384, 16384, 16384, 16384, 16384, 16384, 16384, 16384, 16384, 16384, 16384, 16384, 16384, 16384, 16384, 16384, 16384, 16384, 16384, 16384, 16384, 16384, 16384, 16384, 16384, 16384, 16384, 0]⟩
def SLU40_CTL_EN : FieldD := ⟨0x108, 64, 32, 0, 1, .rw, 0, .drawer, false, 0, 1, false, [0, 0, 0, 0, 0, 0, 0, 0, 0, 0, 0, 0, 0, 0, 0, 0, 0, 0, 0, 0, 0, 0, 0, 0, 0, 0, 0, 0, 0, 0, 0, 0, 0, 0, 0, 0, 0, 0, 0, 0, 0, 0, 0, 0, 0, 0, 0, 0, 0, 0, 0, 0, 0, 0, 0, 0, 1, 1, 1, 1, 1, 1, 1, 0]⟩
def SLU40_CTL_CHG_FILL : FieldD := ⟨0x108, 64, 32, 1, 2, .rw, 2, .drawer, false, 0, 2, false, [2, 2, 2, 2, 2, 2, 2, 2, 2, 2, 2, 2, 2, 2, 2, 2, 2, 2, 2, 2, 2, 2, 2, 2, 2, 2, 2, 2, 2, 2, 2, 2, 2, 2, 2, 2, 2, 2, 2, 2, 2, 2, 2, 2, 2, 2, 2, 2, 2, 2, 2, 2, 2, 2, 2, 2, 2, 2, 2, 2, 2, 2, 2, 0]⟩
def SLU40_CTL_OVERHEAD : FieldD := ⟨0x108, 64, 32, 3, 6, .rw, 0, .drawer, false, 0, 63, false, [20, 20, 20, 20, 20, 20, 20, 20, 20, 20, 20, 20, 20, 20, 20, 20, 20, 20, 20, 20, 20, 20, 20, 20, 20, 20, 20, 20, 20, 20, 20, 20, 0, 0, 0, 0, 0, 0, 0, 0, 0, 0, 0, 0, 0, 0, 0, 0, 0, 0, 0, 0, 0, 0, 0, 0, 20, 20, 20, 20, 0, 0, 0, 0]⟩
def SLU40_TOKENS_TOKENS : FieldD := ⟨0x10c, 64, 32, 0, 32, .ro, 16384, .live, true, 0, 4294967295, false, [16384, 16384, 16384, 16384, 16384, 16384, 16384, 16384, 16384, 16384, 16384, 16384, 16384, 16384, 16384, 16384, 16384, 16384, 16384, 16384, 16384, 16384, 16384, 16384, 16384, 16384, 16384, 16384, 16384, 16384, 16384, 16384, 16384, 16384, 16384, 16384, 16384, 16384, 16384, 16384, 16384, 16384, 16384, 16384, 16384, 16384, 16384, 16384, 16384, 16384, 16384, 16384, 16384, 16384, 16384, 16384, 16384, 16384, 16384, 16384, 16384, 16384, 16384, 0]⟩
def SLU40_ACT_RATE_RATE : FieldD := ⟨0x110, 64, 32, 0, 25, .ro, 0, .live, false, 0, 33554431, false, [0, 0, 0, 0, 0, 0, 0, 0, 0, 0, 0, 0, 0, 0, 0, 0, 0, 0, 0, 0, 0, 0, 0, 0, 0, 0, 0, 0, 0, 0, 0, 0, 0, 0, 0, 0, 0, 0, 0, 0, 0, 0, 0, 0, 0, 0, 0, 0, 0, 0, 0, 0, 0, 0, 0, 0, 25000000, 25000000, 2500000, 2500000, 16000000, 10000000, 4000000, 0]⟩
def SLU40_ACT_BURST_BURST : FieldD := ⟨0x114, 64, 32, 0, 25, .ro, 16384, .live, false, 0, 33554431, false, [16384, 16384, 16384, 16384, 16384, 16384, 16384, 16384, 16384, 16384, 16384, 16384, 16384, 16384, 16384, 16384, 16384, 16384, 16384, 16384, 16384, 16384, 16384, 16384, 16384, 16384, 16384, 16384, 16384, 16384, 16384, 16384, 16384, 16384, 16384, 16384, 16384, 16384, 16384, 16384, 16384, 16384, 16384, 16384, 16384, 16384, 16384, 16384, 16384, 16384, 16384, 16384, 16384, 16384, 16384, 16384, 16384, 16384, 16384, 16384, 16384, 16384, 16384, 0]⟩
def SLU40_RELEASED_COUNT : FieldD := ⟨0x118, 64, 32, 0, 32, .ro, 0, .value, false, 0, 4294967295, true, []⟩
def SLU40_DEBT_WAITS_COUNT : FieldD := ⟨0x11c, 64, 32, 0, 32, .ro, 0, .value, false, 0, 4294967295, true, []⟩
def SLU40_QUANTUM_LO_Q0 : FieldD := ⟨0x900, 7, 8, 0, 16, .rw, 512, .drawer, false, 64, 65535, false, []⟩
def SLU40_QUANTUM_LO_Q1 : FieldD := ⟨0x900, 7, 8, 16, 16, .rw, 1024, .drawer, false, 64, 65535, false, []⟩
def SLU40_QUANTUM_HI_Q2 : FieldD := ⟨0x904, 7, 8, 0, 16, .rw, 2048, .drawer, false, 64, 65535, false, []⟩
def SLU40_QUANTUM_HI_Q3 : FieldD := ⟨0x904, 7, 8, 16, 16, .rw, 4096, .drawer, false, 64, 65535, false, []⟩

end Sys2Proof.Machine.F

namespace Sys2Proof.Machine

/-- The fields of page type HDR. -/
def fieldsHDR : List FieldD :=
  [F.PAGE_ID_VERSION, F.PAGE_ID_INSTANCE, F.PAGE_ID_TYPE, F.PAGE_CAP_IRQ_COUNT, F.PAGE_CAP_PERTURB_IMPL,
   F.PAGE_CAP_PAGE_SPECIFIC, F.PAGE_CTL_ENABLE, F.PAGE_CTL_BLOCK_RESET, F.PAGE_CTL_FREEZE, F.PAGE_STAT_STATE,
   F.PAGE_STAT_BUSY, F.PAGE_STAT_HANG, F.IRQ_RAW_HANG, F.IRQ_RAW_ERR, F.IRQ_RAW_SRC, F.IRQ_EN_EN, F.IRQ_PEND_PEND,
   F.ERR_FIRST_STATUS, F.ERR_FIRST_CAUSE, F.ERR_FIRST_REG, F.ERR_FIRST_VALID, F.ERR_COUNT_COUNT, F.LOCK_LOCKED,
   F.LOCK_TEST_UNLOCK, F.SIDE_OFFSET]

/-- The fields of page type GEN. -/
def fieldsGEN : List FieldD :=
  [F.GEN_WATCH_RING_DEV, F.GEN_WATCH_FIELD_DEV, F.GEN_WATCH_STAT_RING_OOT, F.GEN_WATCH_STAT_FIELD_OOT,
   F.GEN_WATCH_STAT_UNCHECKED, F.GEN_HANG_BOUND0_DATAPATH, F.GEN_HANG_BOUND0_MEMORY, F.GEN_HANG_BOUND1_ISLAND,
   F.GEN_HANG_BOUND1_FIELD, F.GEN_WATCH_CTL_AUTO_RESET, F.GEN_DEVICE_GRADE, F.GEN_DEVICE_RING_REV,
   F.GEN_DEVICE_FIELD_REV, F.GEN_RESET_KEY]

/-- The fields of page type INT. -/
def fieldsINT : List FieldD :=
  [F.INT_STAT_FIELD_STALE, F.INT_EOI_VECTOR, F.INT_EVT_CTL_FLOW, F.INT_EVT_ADDR_LO_ADDR_LO, F.INT_EVT_ADDR_HI_ADDR_HI,
   F.INT_PEND_SRC, F.INT_ROUTE_VECTOR, F.INT_ROUTE_MSIX_EN, F.INT_ROUTE_INTN0_EN, F.INT_ROUTE_INTN1_EN,
   F.INT_ROUTE_CORE_EN, F.INT_ROUTE_FABRIC_EN]

/-- The fields of page type RST. -/
def fieldsRST : List FieldD :=
  [F.RST_STAT_STEP, F.RST_STAT_FAIL_STEP, F.RST_STAT_KIND, F.RST_STAT_SAFE, F.RST_STAT_STOPPED, F.RST_STAT_PROF,
   F.RST_STAT_PFW_HOLD, F.RST_CAUSE_POWER_UP, F.RST_CAUSE_PIN, F.RST_CAUSE_WARM, F.RST_SERVICE_US_US,
   F.RST_WAIT_REF_WAIT]

/-- The fields of page type DRW. -/
def fieldsDRW : List FieldD :=
  [F.DRW_CTL_QUIESCE_MS, F.DRW_CMD_DRAWER, F.DRW_CMD_SWITCH, F.DRW_CMD_SAVE, F.DRW_STAT_CURRENT, F.DRW_STAT_SAFE,
   F.DRW_STAT_PHASE, F.DRW_STAT_LAST_RESULT, F.DRW_STAT_SET, F.DRW_REFUSE_WHY, F.DRW_REFUSE_PAGE, F.DRW_REFUSE_WORD,
   F.DRW_INFO_PRESENT, F.DRW_INFO_VALID, F.DRW_INFO_GEN, F.DRW_SWITCHES, F.DRW_REFUSALS]

/-- The fields of page type CHS. -/
def fieldsCHS : List FieldD :=
  [F.CHS_STAT_STATE, F.CHS_STAT_CKPT, F.CHS_WEAR_WORST, F.CHS_WEAR_AREA, F.CHS_ECC_ADDR_ADDR, F.CHS_ECC_ADDR_VALID,
   F.CHS_LIFE_COLD_STARTS, F.CHS_ECC_CORR, F.CHS_ECC_UNCORR, F.CHS_CKPTS, F.CHS_SLOTS_LOST]

/-- The fields of page type FWU. -/
def fieldsFWU : List FieldD :=
  [F.FWU_CTL_CONFIRM_S, F.FWU_CTL_HOST_GATE, F.FWU_CTL_SOAK_S, F.FWU_CMD_STAGE, F.FWU_CMD_ACTIVATE, F.FWU_CMD_ABORT,
   F.FWU_CMD_SOURCE, F.FWU_SRC_LO_SRC_LO, F.FWU_SRC_HI_SRC_HI, F.FWU_SRC_LEN_BLOCKS, F.FWU_STAT_STATE,
   F.FWU_STAT_CODE_SAME, F.FWU_STAT_ACTIVE_SLOT, F.FWU_STAT_OWNER_LOCK, F.FWU_STAT_OWNER_KEY, F.FWU_STAT_PROGRESS,
   F.FWU_STAT_LAST, F.FWU_REFUSE_CAUSE, F.FWU_REFUSE_BLOCK, F.FWU_SECCNT_COUNT, F.FWU_RUN_VER_VER, F.FWU_RUN_SEC_SEC,
   F.FWU_STAGED_VER_VER, F.FWU_STAGED_SEC_SEC, F.FWU_CONFIRM_KEY, F.FWU_APPROVE_APPROVE, F.FWU_CONFIRM_LEFT_S,
   F.FWU_PUSH_LO_DATA, F.FWU_PUSH_HI_DATA, F.FWU_PUSH_END_END, F.FWU_NONCE_LO_NONCE, F.FWU_NONCE_HI_NONCE,
   F.FWU_OCMD_CODE, F.FWU_OCMD_ARG, F.FWU_OGO_GO, F.FWU_OSTAT_RESULT, F.FWU_OSIG_SIG, F.FWU_OKEY_KEY, F.FWU_STAGES,
   F.FWU_ACTIVATIONS] ++
  [F.FWU_FALLBACKS, F.FWU_OCMD_REFUSED]

/-- The fields of page type BST. -/
def fieldsBST : List FieldD :=
  [F.BST_CTL_EN, F.BST_CTL_PERIOD_MIN, F.BST_CMD_RUN, F.BST_OFFLINE_KEY, F.BST_STAT_BUSY, F.BST_STAT_LAST,
   F.BST_RESULT_TEST, F.BST_DURATION_MS, F.BST_OFF_RESULT_RING, F.BST_OFF_RESULT_FIELD, F.BST_OFF_SIG_RING_SIG,
   F.BST_OFF_SIG_FIELD_SIG, F.BST_RETIRED_CELLS, F.BST_FLOG_POP0_KIND, F.BST_FLOG_POP0_INJECTED,
   F.BST_FLOG_POP0_CLASS, F.BST_FLOG_POP0_PAGE, F.BST_FLOG_POP0_VALID, F.BST_FLOG_POP1_STAMP, F.BST_FLOG_POP2_SEC_LO,
   F.BST_FLOG_POP3_DETAIL, F.BST_FLOG_OVF_COUNT, F.BST_PASSES, F.BST_FAILS, F.BST_SKIPS, F.BST_OFFLINE_RUNS]

/-- The fields of page type PRT. -/
def fieldsPRT : List FieldD :=
  [F.PRT_CTL_ALLOW, F.PRT_CTL_UNLOCK_MIN, F.PRT_UNLOCK_KEY, F.PRT_STAT_TEST_UNLOCK, F.PRT_STAT_TEST_PIN,
   F.PRT_STAT_SCAN_STATE, F.PRT_STAT_OTP_BLOCKED, F.PRT_STAT_UNLOCK_LEFT, F.PRT_CHAL_CHAL, F.PRT_RESP_SIG,
   F.PRT_SCAN_GO_GO, F.PRT_PERT_MAP_MAP, F.PRT_INJECTED, F.PRT_SCAN_REFUSED]

/-- The fields of page type PORT. -/
def fieldsPORT : List FieldD :=
  [F.PORT_CFG_MODE, F.PORT_CFG_FEC, F.PORT_CFG_ROLE, F.PORT_STAT_LINK, F.PORT_STAT_PCS_LOCK, F.PORT_STAT_FEC_LOCK,
   F.PORT_STAT_HELLO, F.PORT_STAT_LINK_VER, F.PORT_STAT_SGMII_SPEED, F.PORT_STAT_WAIT_PAIR, F.PORT_TIMING_UP_HOLD,
   F.PORT_TIMING_DOWN_HOLD, F.PORT_PROXY_USED_USED, F.PORT_RX_FRAMES, F.PORT_RX_DISCARD, F.PORT_TX_FRAMES,
   F.PORT_HSR_DUP, F.PORT_HSR_OWN, F.PORT_STOMP_RX, F.PORT_FEC_CORR, F.PORT_FEC_UNCORR]

/-- The fields of page type KVL. -/
def fieldsKVL : List FieldD :=
  [F.KVL_ETYPE_ETYPE, F.KVL_VER_EN, F.KVL_VER_IMPL, F.KVL_SUPV_PERIOD, F.KVL_HSR_CTL_SUPV_INTERVAL,
   F.KVL_HSR_CTL_NET_ID, F.KVL_HSR_CTL_SUPV_ADDR, F.KVL_HSR_FORGET_DD_FORGET, F.KVL_HSR_FORGET_PROXY_FORGET,
   F.KVL_RX_KVL, F.KVL_BAD_HDR, F.KVL_NOT_MINE, F.KVL_DD_EVICT, F.KVL_REWRITE_LIMIT, F.KVL_PREPEND_LIMIT,
   F.KVL_SPEC_FALL]

/-- The fields of page type NOD. -/
def fieldsNOD : List FieldD :=
  [F.NOD_SELF_NODE, F.NOD_SELF_SUB_NODE, F.NOD_SELF_COUPLER, F.NOD_SELF_STAT_CONFLICT,
   F.NOD_SELF_STAT_UPLINK_CONFLICT, F.NOD_SELF_MAC_LO_MAC_LO, F.NOD_SELF_MAC_HI_MAC_HI, F.NOD_EPOCH_EPOCH,
   F.NOD_GROUP_SET, F.NOD_GROUP_GEN, F.NOD_GEN_GEN, F.NOD_CHG_POP_NODE, F.NOD_CHG_POP_SUB, F.NOD_CHG_POP_VALID,
   F.NOD_CHG_POP_STATE, F.NOD_CHG_POP_REASON, F.NOD_CHG_POP_GEN, F.NOD_CHG_OVF_COUNT, F.NOD_RB_PATH_PATH,
   F.NOD_RB_CTL_VALID, F.NOD_RB_CTL_ROOT, F.NOD_RB_CTL_CHAIN, F.NOD_RB_CTL_CHAIN_IDX]

/-- The fields of page type SEQ. -/
def fieldsSEQ : List FieldD :=
  [F.SEQ_CTL_FLOOR_DELAY, F.SEQ_CTL_RX_IDLE, F.SEQ_CTL2_STREAM_WAIT, F.SEQ_ABORT_SEQ_SEQ, F.SEQ_ABORT_GO_FLOW,
   F.SEQ_LIVE_LIVE, F.SEQ_LIVE_DATA_LIVE, F.SEQ_START_KIND, F.SEQ_START_CKPT_KIB, F.SEQ_LOG_POP0_STATUS,
   F.SEQ_LOG_POP0_CAUSE, F.SEQ_LOG_POP0_FLOW, F.SEQ_LOG_POP0_VALID, F.SEQ_LOG_POP1_SEQ, F.SEQ_LOG_POP2_OFFSET_LO,
   F.SEQ_LOG_POP3_OFFSET_HI, F.SEQ_LOG_POP3_TAG, F.SEQ_LOG_POP3_OP, F.SEQ_LOG_POP3_ORPHAN, F.SEQ_LOG_OVF_COUNT,
   F.SEQ_RETRANSMIT, F.SEQ_DUP_ANSWERED, F.SEQ_STALE, F.SEQ_NO_CONTEXT, F.SEQ_LATE_CPL, F.SEQ_RESYNC_DROP,
   F.SEQ_EPOCH_CLOSED, F.SEQ_UNREACH_CLOSED, F.SEQ_DEFERRED, F.SEQ_BCAST_GAP, F.SEQ_NOP_SENT]

/-- The fields of page type SWC. -/
def fieldsSWC : List FieldD :=
  [F.SWC_CTL_CT_EN, F.SWC_HASH_SALT, F.SWC_PCP_MAP_MAP, F.SWC_PCP_MAP_UNTAGGED, F.SWC_ETC_ETYPE, F.SWC_ETC_CLASS,
   F.SWC_ETC_EN, F.SWC_AGE_LIMIT, F.SWC_AGE_UNIT, F.SWC_PATHMAP_PATH, F.SWC_CT_FRAMES, F.SWC_STOMP_TX, F.SWC_FENCES,
   F.SWC_AGED_CPL, F.SWC_AGED_FRAMES, F.SWC_DOWN_DROP]

/-- The fields of page type FLW. -/
def fieldsFLW : List FieldD :=
  [F.FLW_CFG_VALID, F.FLW_CFG_CLASS, F.FLW_CFG_DUP, F.FLW_CFG_DURABLE, F.FLW_CFG_INITIATOR, F.FLW_DST_PATH,
   F.FLW_TIMER_RTO, F.FLW_TIMER_RETRIES, F.FLW_OPEN_MAP_LO_MAP, F.FLW_OPEN_MAP_HI_MAP]

/-- The fields of page type BUF. -/
def fieldsBUF : List FieldD :=
  [F.BUF_POOL0_TRANSIT_MIN, F.BUF_POOL0_RESPONSE_MIN, F.BUF_POOL1_PROTECT_MIN, F.BUF_PORT_CAP_CAP, F.BUF_SCRUB_PERIOD,
   F.BUF_SCRUB_STAT_LATE, F.BUF_ECC_STAT_VALID, F.BUF_ECC_STAT_WHERE, F.BUF_ECC_ADDR_INDEX, F.BUF_ECC_ADDR_WORD,
   F.BUF_WALK_SWEEP, F.BUF_WALK_BUSY, F.BUF_WALK_PORT, F.BUF_USE0_TRANSIT, F.BUF_USE0_RESPONSE, F.BUF_USE1_PROTECT,
   F.BUF_USE1_SHARED, F.BUF_FREE_FREE, F.BUF_ECC_CORR, F.BUF_ECC_UNCORR, F.BUF_DROP_TRANSIT, F.BUF_DROP_RESPONSE,
   F.BUF_DROP_PROTECT, F.BUF_DROP_SHARED, F.BUF_RECLAIMED, F.BUF_LEAKED, F.BUF_SCRUB_PASSES]

/-- The fields of page type JRN. -/
def fieldsJRN : List FieldD :=
  [F.JRN_CFG_DENSITY, F.JRN_CFG_RANKS, F.JRN_CFG_EXT_TEMP, F.JRN_CFG_SPEED, F.JRN_STAT_STATE, F.JRN_STAT_SIZE_GIB,
   F.JRN_SCRUB_HOURS, F.JRN_ECC_STAT_VALID, F.JRN_ECC_STAT_USER, F.JRN_ECC_ADDR_LO_ADDR_LO, F.JRN_ECC_ADDR_HI_ADDR_HI,
   F.JRN_USER_BASE_BASE, F.JRN_ECC_CORR, F.JRN_ECC_UNCORR, F.JRN_SCRUB_PASSES, F.JRN_SR_ENTRIES]

/-- The fields of page type HDG. -/
def fieldsHDG : List FieldD :=
  [F.HDG_RATE_RATE, F.HDG_CTL_BURST, F.HDG_CTL_ACTION, F.HDG_CTL_MARK_CLASS, F.HDG_CTL_CHG_FILL, F.HDG_CTL_EN,
   F.HDG_TOKENS_TOKENS, F.HDG_EXCESS_COUNT, F.HDG_FMAP_HG_EVEN, F.HDG_FMAP_EN_EVEN, F.HDG_FMAP_HG_ODD,
   F.HDG_FMAP_EN_ODD, F.HDG_MARKED, F.HDG_DROP_FRAMES, F.HDG_DROP_TXN]

/-- The fields of page type HDG0. -/
def fieldsHDG0 : List FieldD :=
  [F.HDG00_PSEL_HG, F.HDG00_PSEL_EN]

/-- The fields of page type SLU. -/
def fieldsSLU : List FieldD :=
  [F.SLU_RATE_RATE, F.SLU_BURST_BURST, F.SLU_CTL_EN, F.SLU_CTL_CHG_FILL, F.SLU_CTL_OVERHEAD, F.SLU_TOKENS_TOKENS,
   F.SLU_ACT_RATE_RATE, F.SLU_ACT_BURST_BURST, F.SLU_RELEASED_COUNT, F.SLU_DEBT_WAITS_COUNT]

/-- The fields of page type SLU40. -/
def fieldsSLU40 : List FieldD :=
  [F.SLU40_RATE_RATE, F.SLU40_BURST_BURST, F.SLU40_CTL_EN, F.SLU40_CTL_CHG_FILL, F.SLU40_CTL_OVERHEAD,
   F.SLU40_TOKENS_TOKENS, F.SLU40_ACT_RATE_RATE, F.SLU40_ACT_BURST_BURST, F.SLU40_RELEASED_COUNT,
   F.SLU40_DEBT_WAITS_COUNT, F.SLU40_QUANTUM_LO_Q0, F.SLU40_QUANTUM_LO_Q1, F.SLU40_QUANTUM_HI_Q2,
   F.SLU40_QUANTUM_HI_Q3]

end Sys2Proof.Machine
end

