-- ==== Sys2Proof/Machine/RegMapRing2.lean ====
section
/-! DEFINITION. The register map of the ring die, second half: every field that a register table of spec/ gives a name, with its offset, bits,
access code, reset value, warm behaviour and range. Each row is: offset, count, stride, lowest bit, width, access, reset
value, reset source, cleared by a warm reset, least and greatest value a write may give it, frozen by FREEZE, and the
reset values one by one where they differ between the instances. -/

namespace Sys2Proof.Machine.F

/-! The registers of page type BRG, from spec/07_host_bridge.md. -/

def BRG_ID_VENDOR : FieldD := ⟨0x40, 1, 0, 0, 16, .ro, 0, .device, false, 0, 65535, false, []⟩
def BRG_ID_DEVICE : FieldD := ⟨0x40, 1, 0, 16, 16, .ro, 0, .device, false, 0, 65535, false, []⟩
def BRG_SUBSYS_SVID : FieldD := ⟨0x44, 1, 0, 0, 16, .rwl, 0, .drawer, false, 0, 65535, false, []⟩
def BRG_SUBSYS_SSID : FieldD := ⟨0x44, 1, 0, 16, 16, .rwl, 0, .drawer, false, 0, 65535, false, []⟩
def BRG_LINK_CFG_MAX_SPEED : FieldD := ⟨0x48, 1, 0, 0, 2, .rwl, 3, .drawer, false, 1, 3, false, []⟩
def BRG_LINK_CFG_X1 : FieldD := ⟨0x48, 1, 0, 2, 1, .rwl, 0, .drawer, false, 0, 1, false, []⟩
def BRG_LINK_CFG_BAR2_LOG2 : FieldD := ⟨0x48, 1, 0, 8, 6, .rwl, 30, .drawer, false, 25, 36, false, []⟩
def BRG_LINK_CFG_BAR2_PREF : FieldD := ⟨0x48, 1, 0, 14, 1, .rwl, 0, .drawer, false, 0, 1, false, []⟩
def BRG_LINK_STAT_UP : FieldD := ⟨0x4c, 1, 0, 0, 1, .ro, 0, .live, false, 0, 1, false, []⟩
def BRG_LINK_STAT_SPEED : FieldD := ⟨0x4c, 1, 0, 1, 2, .ro, 0, .live, false, 0, 3, false, []⟩
def BRG_LINK_STAT_WIDTH : FieldD := ⟨0x4c, 1, 0, 3, 2, .ro, 0, .live, false, 0, 3, false, []⟩
def BRG_LINK_STAT_BME : FieldD := ⟨0x4c, 1, 0, 5, 1, .ro, 0, .live, false, 0, 1, false, []⟩
def BRG_LINK_STAT_MSE : FieldD := ⟨0x4c, 1, 0, 6, 1, .ro, 0, .live, false, 0, 1, false, []⟩
def BRG_LINK_STAT_MSIX_EN : FieldD := ⟨0x4c, 1, 0, 7, 1, .ro, 0, .live, false, 0, 1, false, []⟩
def BRG_LINK_STAT_FMASK : FieldD := ⟨0x4c, 1, 0, 8, 1, .ro, 0, .live, false, 0, 1, false, []⟩
def BRG_LINK_STAT_D3 : FieldD := ⟨0x4c, 1, 0, 9, 1, .ro, 0, .live, false, 0, 1, false, []⟩
def BRG_LINK_STAT_MPS : FieldD := ⟨0x4c, 1, 0, 10, 3, .ro, 0, .live, false, 0, 7, false, []⟩
def BRG_LINK_STAT_MRRS : FieldD := ⟨0x4c, 1, 0, 13, 3, .ro, 0, .live, false, 0, 7, false, []⟩
def BRG_TGT_SPEC_PERMISSIVE : FieldD := ⟨0x50, 1, 0, 0, 1, .rwl, 0, .drawer, false, 0, 1, false, []⟩
def BRG_IB_CTL_CPL_TO : FieldD := ⟨0x54, 1, 0, 0, 16, .rw, 10000, .drawer, false, 50, 50000, false, []⟩
def BRG_IB_CTL_CREDIT_WAIT : FieldD := ⟨0x54, 1, 0, 16, 16, .rw, 10000, .drawer, false, 100, 50000, false, []⟩
def BRG_PF_CTL_RESERVE : FieldD := ⟨0x58, 1, 0, 0, 9, .rw, 64, .drawer, false, 0, 256, false, []⟩
def BRG_TAGS_WR_FREE : FieldD := ⟨0x5c, 1, 0, 0, 8, .ro, 0, .live, false, 0, 255, false, []⟩
def BRG_TAGS_RD_FREE : FieldD := ⟨0x5c, 1, 0, 16, 9, .ro, 0, .live, false, 0, 511, false, []⟩
def BRG_ERRLOG0_STATUS : FieldD := ⟨0x60, 1, 0, 0, 8, .rc, 0, .value, false, 0, 255, false, []⟩
def BRG_ERRLOG0_CAUSE : FieldD := ⟨0x60, 1, 0, 8, 8, .rc, 0, .value, false, 0, 255, false, []⟩
def BRG_ERRLOG0_KIND : FieldD := ⟨0x60, 1, 0, 16, 3, .rc, 0, .value, false, 0, 7, false, []⟩
def BRG_ERRLOG0_DISCARDED : FieldD := ⟨0x60, 1, 0, 19, 1, .rc, 0, .value, false, 0, 1, false, []⟩
def BRG_ERRLOG0_WINDOW : FieldD := ⟨0x60, 1, 0, 20, 4, .rc, 0, .value, false, 0, 15, false, []⟩
def BRG_ERRLOG0_VALID : FieldD := ⟨0x60, 1, 0, 31, 1, .rc, 0, .value, false, 0, 1, false, []⟩
def BRG_ERRLOG1_ADDR_LO : FieldD := ⟨0x64, 1, 0, 0, 32, .ro, 0, .value, false, 0, 4294967295, false, []⟩
def BRG_ERRLOG2_ADDR_HI : FieldD := ⟨0x68, 1, 0, 0, 32, .ro, 0, .value, false, 0, 4294967295, false, []⟩
def BRG_ERRLOG3_LEN : FieldD := ⟨0x6c, 1, 0, 0, 9, .ro, 0, .value, false, 0, 511, false, []⟩
def BRG_ERRLOG3_TAG : FieldD := ⟨0x6c, 1, 0, 16, 10, .ro, 0, .value, false, 0, 1023, false, []⟩
def BRG_ERRLOG_OVF_COUNT : FieldD := ⟨0x70, 1, 0, 0, 32, .rc, 0, .value, false, 0, 4294967295, false, []⟩
def BRG_SPECLOSS0_WINDOW : FieldD := ⟨0x74, 1, 0, 0, 4, .rc, 0, .value, false, 0, 15, false, []⟩
def BRG_SPECLOSS0_UNKNOWN : FieldD := ⟨0x74, 1, 0, 4, 1, .rc, 0, .value, false, 0, 1, false, []⟩
def BRG_SPECLOSS0_FIRST_UNUSED : FieldD := ⟨0x74, 1, 0, 8, 8, .rc, 0, .value, false, 0, 255, false, []⟩
def BRG_SPECLOSS0_TAG : FieldD := ⟨0x74, 1, 0, 16, 10, .rc, 0, .value, false, 0, 1023, false, []⟩
def BRG_SPECLOSS0_VALID : FieldD := ⟨0x74, 1, 0, 31, 1, .rc, 0, .value, false, 0, 1, false, []⟩
def BRG_SPECLOSS1_ADDR_LO : FieldD := ⟨0x78, 1, 0, 0, 32, .ro, 0, .value, false, 0, 4294967295, false, []⟩
def BRG_SPECLOSS2_ADDR_HI : FieldD := ⟨0x7c, 1, 0, 0, 32, .ro, 0, .value, false, 0, 4294967295, false, []⟩
def BRG_SPECLOSS_OVF_COUNT : FieldD := ⟨0x80, 1, 0, 0, 32, .rc, 0, .value, false, 0, 4294967295, false, []⟩
def BRG_HOST_RD : FieldD := ⟨0xa0, 1, 0, 0, 32, .ro, 0, .value, false, 0, 4294967295, true, []⟩
def BRG_HOST_WR : FieldD := ⟨0xa4, 1, 0, 0, 32, .ro, 0, .value, false, 0, 4294967295, true, []⟩
def BRG_UR_SENT : FieldD := ⟨0xa8, 1, 0, 0, 32, .ro, 0, .value, false, 0, 4294967295, true, []⟩
def BRG_CA_SENT : FieldD := ⟨0xac, 1, 0, 0, 32, .ro, 0, .value, false, 0, 4294967295, true, []⟩
def BRG_LATE : FieldD := ⟨0xb0, 1, 0, 0, 32, .ro, 0, .value, false, 0, 4294967295, true, []⟩
def BRG_PF_ISSUED : FieldD := ⟨0xb4, 1, 0, 0, 32, .ro, 0, .value, false, 0, 4294967295, true, []⟩
def BRG_PF_REFUSED : FieldD := ⟨0xb8, 1, 0, 0, 32, .ro, 0, .value, false, 0, 4294967295, true, []⟩
def BRG_PF_DISCARD : FieldD := ⟨0xbc, 1, 0, 0, 32, .ro, 0, .value, false, 0, 4294967295, true, []⟩
def BRG_SPEC_TGT_REFUSED : FieldD := ⟨0xc0, 1, 0, 0, 32, .ro, 0, .value, false, 0, 4294967295, true, []⟩
def BRG_IB_TXN : FieldD := ⟨0xc4, 1, 0, 0, 32, .ro, 0, .value, false, 0, 4294967295, true, []⟩
def BRG_IB_ERR : FieldD := ⟨0xc8, 1, 0, 0, 32, .ro, 0, .value, false, 0, 4294967295, true, []⟩

/-! The registers of page type WIN, from spec/07_host_bridge.md. -/

def WIN_OB_HOST_LO_HOST_LO : FieldD := ⟨0x100, 16, 64, 12, 20, .rw, 0, .drawer, false, 0, 1048575, false, []⟩
def WIN_OB_HOST_HI_HOST_HI : FieldD := ⟨0x104, 16, 64, 0, 4, .rw, 0, .drawer, false, 0, 15, false, []⟩
def WIN_OB_FAB_LO_FAB_LO : FieldD := ⟨0x108, 16, 64, 12, 20, .rw, 0, .drawer, false, 0, 1048575, false, []⟩
def WIN_OB_FAB_HI_FAB_HI : FieldD := ⟨0x10c, 16, 64, 0, 32, .rw, 0, .drawer, false, 0, 4294967295, false, []⟩
def WIN_OB_CTL_EN : FieldD := ⟨0x110, 16, 64, 0, 1, .rw, 0, .drawer, false, 0, 1, false, []⟩
def WIN_OB_CTL_LANE : FieldD := ⟨0x110, 16, 64, 1, 2, .rw, 0, .drawer, false, 0, 2, false, []⟩
def WIN_OB_CTL_UNIT : FieldD := ⟨0x110, 16, 64, 3, 2, .rw, 0, .drawer, false, 0, 2, false, []⟩
def WIN_OB_CTL_PREFETCH : FieldD := ⟨0x110, 16, 64, 5, 3, .rw, 0, .drawer, false, 0, 4, false, []⟩
def WIN_OB_CTL_SPLIT : FieldD := ⟨0x110, 16, 64, 8, 1, .rw, 0, .drawer, false, 0, 1, false, []⟩
def WIN_OB_CTL_ORDER : FieldD := ⟨0x110, 16, 64, 9, 1, .rw, 0, .drawer, false, 0, 1, false, []⟩
def WIN_OB_CTL_SIZE_LOG2 : FieldD := ⟨0x110, 16, 64, 10, 6, .rw, 12, .drawer, false, 12, 36, false, []⟩
def WIN_OB_CTL_FLOW : FieldD := ⟨0x110, 16, 64, 16, 12, .rw, 0, .drawer, false, 0, 4095, false, []⟩
def WIN_OB_TIME_TIMEOUT : FieldD := ⟨0x114, 16, 64, 0, 16, .rw, 5000, .drawer, false, 10, 65535, false, []⟩
def WIN_OB_TIME_PF_LIFE : FieldD := ⟨0x114, 16, 64, 16, 10, .rw, 100, .drawer, false, 1, 1000, false, []⟩
def WIN_OB_OPEN_WR_OPEN : FieldD := ⟨0x118, 16, 64, 0, 8, .ro, 0, .live, false, 0, 255, false, []⟩
def WIN_OB_OPEN_RD_OPEN : FieldD := ⟨0x118, 16, 64, 16, 9, .ro, 0, .live, false, 0, 511, false, []⟩
def WIN_IB_FAB_LO_FAB_LO : FieldD := ⟨0x600, 8, 32, 12, 20, .rw, 0, .drawer, false, 0, 1048575, false, []⟩
def WIN_IB_FAB_HI_FAB_HI : FieldD := ⟨0x604, 8, 32, 0, 8, .rw, 0, .drawer, false, 0, 255, false, []⟩
def WIN_IB_HOST_LO_HOST_LO : FieldD := ⟨0x608, 8, 32, 12, 20, .rw, 0, .drawer, false, 0, 1048575, false, []⟩
def WIN_IB_HOST_HI_HOST_HI : FieldD := ⟨0x60c, 8, 32, 0, 32, .rw, 0, .drawer, false, 0, 4294967295, false, []⟩
def WIN_IB_CTL_EN : FieldD := ⟨0x610, 8, 32, 0, 1, .rw, 0, .drawer, false, 0, 1, false, []⟩
def WIN_IB_CTL_WR_EN : FieldD := ⟨0x610, 8, 32, 1, 1, .rw, 0, .drawer, false, 0, 1, false, []⟩
def WIN_IB_CTL_RD_EN : FieldD := ⟨0x610, 8, 32, 2, 1, .rw, 0, .drawer, false, 0, 1, false, []⟩
def WIN_IB_CTL_NS : FieldD := ⟨0x610, 8, 32, 3, 1, .rw, 0, .drawer, false, 0, 1, false, []⟩
def WIN_IB_CTL_RO : FieldD := ⟨0x610, 8, 32, 4, 1, .rw, 0, .drawer, false, 0, 1, false, []⟩
def WIN_IB_CTL_SIZE_LOG2 : FieldD := ⟨0x610, 8, 32, 8, 6, .rw, 12, .drawer, false, 12, 33, false, []⟩
def WIN_WR_RECV : FieldD := ⟨0x120, 16, 64, 0, 32, .ro, 0, .value, false, 0, 4294967295, true, []⟩
def WIN_WR_DONE : FieldD := ⟨0x124, 16, 64, 0, 32, .ro, 0, .value, false, 0, 4294967295, true, []⟩
def WIN_WR_FAIL : FieldD := ⟨0x128, 16, 64, 0, 32, .ro, 0, .value, false, 0, 4294967295, true, []⟩
def WIN_RD_FAIL : FieldD := ⟨0x12c, 16, 64, 0, 32, .ro, 0, .value, false, 0, 4294967295, true, []⟩
def WIN_PF_HIT : FieldD := ⟨0x130, 16, 64, 0, 32, .ro, 0, .value, false, 0, 4294967295, true, []⟩

/-! The registers of page type TMK, from spec/08_time.md. -/

def TMK_CTL_TC_EN : FieldD := ⟨0x40, 1, 0, 0, 1, .rw, 0, .drawer, false, 0, 1, false, []⟩
def TMK_CTL_PDELAY_HW : FieldD := ⟨0x40, 1, 0, 1, 1, .rw, 0, .drawer, false, 0, 1, false, []⟩
def TMK_CTL_ONE_STEP_EN : FieldD := ⟨0x40, 1, 0, 2, 1, .rw, 0, .drawer, false, 0, 1, false, []⟩
def TMK_STAT_REF_OK : FieldD := ⟨0x44, 1, 0, 0, 1, .ro, 0, .live, false, 0, 1, false, []⟩
def TMK_STAT_FIELD_SYNC : FieldD := ⟨0x44, 1, 0, 1, 1, .ro, 0, .live, false, 0, 1, false, []⟩
def TMK_STAT_SERVO_STATE : FieldD := ⟨0x44, 1, 0, 2, 2, .ro, 0, .live, false, 0, 3, false, []⟩
def TMK_NOW_NS_NS : FieldD := ⟨0x48, 1, 0, 0, 30, .ro, 0, .live, false, 0, 1073741823, false, []⟩
def TMK_NOW_SEC_LO_SEC_LO : FieldD := ⟨0x4c, 1, 0, 0, 32, .ro, 0, .live, false, 0, 4294967295, false, []⟩
def TMK_NOW_SEC_HI_SEC_HI : FieldD := ⟨0x50, 1, 0, 0, 16, .ro, 0, .live, false, 0, 65535, false, []⟩
def TMK_NOW_STAMP_STAMP : FieldD := ⟨0x54, 1, 0, 0, 32, .ro, 0, .live, false, 0, 4294967295, false, []⟩
def TMK_SET_NS_NS : FieldD := ⟨0x58, 1, 0, 0, 30, .rw, 0, .value, false, 0, 999999999, false, []⟩
def TMK_SET_SEC_LO_SEC_LO : FieldD := ⟨0x5c, 1, 0, 0, 32, .rw, 0, .value, false, 0, 4294967295, false, []⟩
def TMK_SET_SEC_HI_SEC_HI : FieldD := ⟨0x60, 1, 0, 0, 16, .rw, 0, .value, false, 0, 65535, false, []⟩
def TMK_TIME_CMD_SET : FieldD := ⟨0x64, 1, 0, 0, 1, .wo, 0, .value, true, 0, 1, false, []⟩
def TMK_ADJUST_NS : FieldD := ⟨0x68, 1, 0, 0, 32, .wo, 0, .value, true, 0, 4294967295, false, []⟩
def TMK_SERVO_IN_E : FieldD := ⟨0x70, 1, 0, 0, 32, .wo, 0, .value, true, 0, 4294967295, false, []⟩
def TMK_SERVO_CTL_EN : FieldD := ⟨0x74, 1, 0, 0, 1, .rw, 0, .drawer, false, 0, 1, false, []⟩
def TMK_SERVO_CTL_PPS_FEED : FieldD := ⟨0x74, 1, 0, 1, 1, .rw, 0, .drawer, false, 0, 1, false, []⟩
def TMK_SERVO_KP_KP : FieldD := ⟨0x78, 1, 0, 0, 32, .rw, 45875, .drawer, false, 0, 4294967295, false, []⟩
def TMK_SERVO_KI_KI : FieldD := ⟨0x7c, 1, 0, 0, 32, .rw, 5033165, .drawer, false, 0, 4294967295, false, []⟩
def TMK_SERVO_STEP_THRESH : FieldD := ⟨0x80, 1, 0, 0, 27, .rw, 20000, .drawer, false, 100, 100000000, false, []⟩
def TMK_SERVO_LOCK_LOCK_NS : FieldD := ⟨0x84, 1, 0, 0, 16, .rw, 100, .drawer, false, 1, 65535, false, []⟩
def TMK_SERVO_LOCK_HOLD : FieldD := ⟨0x84, 1, 0, 16, 16, .rw, 30, .drawer, false, 1, 36000, false, []⟩
def TMK_SERVO_LIMIT_LIMIT : FieldD := ⟨0x88, 1, 0, 0, 20, .rw, 100000, .drawer, false, 1, 500000, false, []⟩
def TMK_FREQ_FREQ : FieldD := ⟨0x8c, 1, 0, 0, 32, .rw, 0, .drawer, false, 0, 4294967295, false, []⟩
def TMK_INTEG_INTEG : FieldD := ⟨0x90, 1, 0, 0, 32, .rw, 0, .drawer, false, 0, 4294967295, false, []⟩
def TMK_LAST_E_E : FieldD := ⟨0x94, 1, 0, 0, 32, .ro, 0, .value, false, 0, 4294967295, false, []⟩
def TMK_CORR_TX_LAT : FieldD := ⟨0xa0, 4, 4, 0, 16, .ro, 0, .live, false, 0, 65535, false, []⟩
def TMK_CORR_RX_LAT : FieldD := ⟨0xa0, 4, 4, 16, 16, .ro, 0, .live, false, 0, 65535, false, []⟩
def TMK_ADJ_TX_ADJ : FieldD := ⟨0xb0, 4, 4, 0, 16, .rw, 0, .drawer, false, 0, 65535, false, []⟩
def TMK_ADJ_RX_ADJ : FieldD := ⟨0xb0, 4, 4, 16, 16, .rw, 0, .drawer, false, 0, 65535, false, []⟩
def TMK_LINK_DELAY_DELAY : FieldD := ⟨0xc0, 2, 4, 0, 28, .rw, 0, .value, false, 0, 268435455, false, []⟩
def TMK_ASYM_ASYM : FieldD := ⟨0xc8, 2, 4, 0, 32, .rw, 0, .drawer, false, 0, 4294967295, false, []⟩
def TMK_PPS_WIDTH : FieldD := ⟨0xd0, 1, 0, 0, 19, .rw, 100000, .drawer, false, 1, 500000, false, []⟩
def TMK_PPS_IN_EDGE : FieldD := ⟨0xd0, 1, 0, 29, 1, .rw, 0, .drawer, false, 0, 1, false, []⟩
def TMK_PPS_IN_EN : FieldD := ⟨0xd0, 1, 0, 30, 1, .rw, 0, .drawer, false, 0, 1, false, []⟩
def TMK_PPS_OUT_EN : FieldD := ⟨0xd0, 1, 0, 31, 1, .rw, 0, .drawer, false, 0, 1, false, []⟩
def TMK_PPS_IN_NS_NS : FieldD := ⟨0xd4, 1, 0, 0, 30, .ro, 0, .value, false, 0, 1073741823, false, []⟩
def TMK_PPS_IN_SEC_LO_SEC_LO : FieldD := ⟨0xd8, 1, 0, 0, 32, .ro, 0, .value, false, 0, 4294967295, false, []⟩
def TMK_PPS_IN_FRAC_FRAC : FieldD := ⟨0xdc, 1, 0, 0, 4, .ro, 0, .value, false, 0, 15, false, []⟩
def TMK_TC_CORRECTED : FieldD := ⟨0x100, 1, 0, 0, 32, .ro, 0, .value, false, 0, 4294967295, true, []⟩
def TMK_TC_NOMATCH : FieldD := ⟨0x104, 1, 0, 0, 32, .ro, 0, .value, false, 0, 4294967295, true, []⟩
def TMK_PDELAY_RESP : FieldD := ⟨0x108, 1, 0, 0, 32, .ro, 0, .value, false, 0, 4294967295, true, []⟩
def TMK_STEPS : FieldD := ⟨0x10c, 1, 0, 0, 32, .ro, 0, .value, false, 0, 4294967295, true, []⟩
def TMK_SERVO_SAMPLES : FieldD := ⟨0x110, 1, 0, 0, 32, .ro, 0, .value, false, 0, 4294967295, true, []⟩
def TMK_SERVO_DISCARD : FieldD := ⟨0x114, 1, 0, 0, 32, .ro, 0, .value, false, 0, 4294967295, true, []⟩
def TMK_PPS_IN_REJECT : FieldD := ⟨0x118, 1, 0, 0, 32, .ro, 0, .value, false, 0, 4294967295, true, []⟩

/-! The registers of page type TSQ, from spec/08_time.md. -/

def TSQ_POP_ID_ID : FieldD := ⟨0x40, 4, 16, 0, 16, .rc, 0, .value, true, 0, 65535, false, []⟩
def TSQ_POP_ID_NOT_SENT : FieldD := ⟨0x40, 4, 16, 16, 1, .rc, 0, .value, true, 0, 1, false, []⟩
def TSQ_POP_ID_VALID : FieldD := ⟨0x40, 4, 16, 31, 1, .rc, 0, .value, true, 0, 1, false, []⟩
def TSQ_POP_NS_STAMP : FieldD := ⟨0x44, 4, 16, 0, 32, .ro, 0, .value, true, 0, 4294967295, false, []⟩
def TSQ_LEVEL_LEVEL : FieldD := ⟨0x48, 4, 16, 0, 6, .ro, 0, .live, true, 0, 63, false, []⟩
def TSQ_OVF_COUNT : FieldD := ⟨0x4c, 4, 16, 0, 32, .rc, 0, .value, false, 0, 4294967295, false, []⟩

/-! The registers of page type TRG, from spec/08_time.md. -/

def TRG_START_NS_NS : FieldD := ⟨0x100, 8, 32, 0, 30, .rw, 0, .drawer, false, 0, 1073741823, false, []⟩
def TRG_START_SEC_LO_SEC_LO : FieldD := ⟨0x104, 8, 32, 0, 32, .rw, 0, .drawer, false, 0, 4294967295, false, []⟩
def TRG_PERIOD_NS_PERIOD : FieldD := ⟨0x108, 8, 32, 0, 30, .rw, 0, .drawer, false, 0, 1073741823, false, []⟩
def TRG_PERIOD_FRAC_FRAC : FieldD := ⟨0x10c, 8, 32, 0, 32, .rw, 0, .drawer, false, 0, 4294967295, false, []⟩
def TRG_COUNT_COUNT : FieldD := ⟨0x110, 8, 32, 0, 32, .rw, 0, .drawer, false, 0, 4294967295, false, []⟩
def TRG_CTL_MODE : FieldD := ⟨0x114, 8, 32, 0, 2, .rw, 0, .value, false, 0, 3, false, []⟩
def TRG_CTL_POL : FieldD := ⟨0x114, 8, 32, 2, 1, .rw, 0, .drawer, false, 0, 1, false, []⟩
def TRG_CTL_LATE_SKIP : FieldD := ⟨0x114, 8, 32, 3, 1, .rw, 0, .drawer, false, 0, 1, false, []⟩
def TRG_CTL_CAN_EN : FieldD := ⟨0x114, 8, 32, 4, 1, .rw, 0, .drawer, false, 0, 1, false, []⟩
def TRG_CTL_CAN_PORT : FieldD := ⟨0x114, 8, 32, 5, 3, .rw, 0, .drawer, false, 0, 7, false, []⟩
def TRG_CTL_WIDTH : FieldD := ⟨0x114, 8, 32, 8, 16, .rw, 1, .drawer, false, 1, 65535, false, []⟩
def TRG_STAT_ARMED : FieldD := ⟨0x118, 8, 32, 0, 1, .ro, 0, .live, false, 0, 1, false, []⟩
def TRG_STAT_DONE : FieldD := ⟨0x118, 8, 32, 1, 1, .ro, 0, .live, false, 0, 1, false, []⟩
def TRG_STAT_MISSED : FieldD := ⟨0x118, 8, 32, 16, 16, .ro, 0, .value, false, 0, 65535, false, []⟩
def TRG_FIRED_COUNT : FieldD := ⟨0x11c, 8, 32, 0, 32, .ro, 0, .value, false, 0, 4294967295, true, []⟩
def TRG_CAP_CTL_EDGE : FieldD := ⟨0x400, 8, 16, 0, 2, .rw, 0, .drawer, false, 0, 3, false, []⟩
def TRG_CAP_POP0_RISING : FieldD := ⟨0x404, 8, 16, 0, 1, .rc, 0, .value, true, 0, 1, false, []⟩
def TRG_CAP_POP0_UNSYNC : FieldD := ⟨0x404, 8, 16, 1, 1, .rc, 0, .value, true, 0, 1, false, []⟩
def TRG_CAP_POP0_VALID : FieldD := ⟨0x404, 8, 16, 31, 1, .rc, 0, .value, true, 0, 1, false, []⟩
def TRG_CAP_POP1_STAMP : FieldD := ⟨0x408, 8, 16, 0, 32, .ro, 0, .value, true, 0, 4294967295, false, []⟩
def TRG_CAP_MISSED_COUNT : FieldD := ⟨0x40c, 8, 16, 0, 32, .rc, 0, .value, false, 0, 4294967295, false, []⟩

/-! The registers of page type PAR, from spec/15_redundant_pair.md. -/

def PAR_CTL_EN : FieldD := ⟨0x40, 1, 0, 0, 1, .rwl, 0, .drawer, false, 0, 1, false, []⟩
def PAR_CTL_PREFERRED : FieldD := ⟨0x40, 1, 0, 1, 1, .rwl, 0, .drawer, false, 0, 1, false, []⟩
def PAR_CTL_REVERT : FieldD := ⟨0x40, 1, 0, 2, 1, .rw, 1, .drawer, false, 0, 1, false, []⟩
def PAR_CTL_WITNESS_EN : FieldD := ⟨0x40, 1, 0, 3, 1, .rwl, 0, .drawer, false, 0, 1, false, []⟩
def PAR_CTL_ANN_PERIOD : FieldD := ⟨0x40, 1, 0, 8, 7, .rw, 30, .drawer, false, 1, 100, false, []⟩
def PAR_CTL_PAIR_NODE : FieldD := ⟨0x40, 1, 0, 16, 6, .rwl, 1, .drawer, false, 1, 62, false, []⟩
def PAR_WITNESS_PATH : FieldD := ⟨0x44, 1, 0, 0, 24, .rwl, 0, .drawer, false, 0, 16777215, false, []⟩
def PAR_PAIR_MAC_LO_MAC_LO : FieldD := ⟨0x48, 1, 0, 0, 32, .rwl, 0, .drawer, false, 0, 4294967295, false, []⟩
def PAR_PAIR_MAC_HI_MAC_HI : FieldD := ⟨0x4c, 1, 0, 0, 16, .rwl, 0, .drawer, false, 0, 65535, false, []⟩
def PAR_LEASE_MS : FieldD := ⟨0x50, 1, 0, 0, 10, .rwl, 50, .drawer, false, 10, 1000, false, []⟩
def PAR_LEASE_HOLDOFF : FieldD := ⟨0x50, 1, 0, 16, 12, .rw, 60, .drawer, false, 1, 3600, false, []⟩
def PAR_TIMING_DEFER : FieldD := ⟨0x54, 1, 0, 0, 16, .rw, 2000, .drawer, false, 0, 60000, false, []⟩
def PAR_TIMING_PROVE_MIN : FieldD := ⟨0x54, 1, 0, 16, 11, .rw, 10, .drawer, false, 1, 1440, false, []⟩
def PAR_FLOWS_UNIT_BASE : FieldD := ⟨0x58, 1, 0, 0, 13, .rwl, 4032, .drawer, false, 0, 4096, false, []⟩
def PAR_BENCH_START_START : FieldD := ⟨0x5c, 1, 0, 0, 32, .rw, 1431655765, .drawer, false, 0, 4294967295, false, []⟩
def PAR_CMD_HANDOVER : FieldD := ⟨0x60, 1, 0, 0, 1, .wo, 0, .value, true, 0, 1, false, []⟩
def PAR_CMD_PROVE : FieldD := ⟨0x60, 1, 0, 1, 1, .wo, 0, .value, true, 0, 1, false, []⟩
def PAR_STAT_ROLE : FieldD := ⟨0x64, 1, 0, 0, 3, .ro, 0, .live, false, 0, 7, false, []⟩
def PAR_STAT_HEALTHY : FieldD := ⟨0x64, 1, 0, 3, 1, .ro, 0, .live, false, 0, 1, false, []⟩
def PAR_STAT_PARTNER_HEALTHY : FieldD := ⟨0x64, 1, 0, 4, 1, .ro, 0, .live, false, 0, 1, false, []⟩
def PAR_STAT_ALONE : FieldD := ⟨0x64, 1, 0, 5, 1, .ro, 0, .live, false, 0, 1, false, []⟩
def PAR_HEALTH_OWN : FieldD := ⟨0x68, 1, 0, 0, 8, .ro, 0, .live, false, 0, 255, false, []⟩
def PAR_HEALTH_PARTNER : FieldD := ⟨0x68, 1, 0, 16, 8, .ro, 0, .live, false, 0, 255, false, []⟩
def PAR_LEASE_STAT_REMAIN : FieldD := ⟨0x6c, 1, 0, 0, 16, .ro, 0, .live, false, 0, 65535, false, []⟩
def PAR_LEASE_STAT_WITNESS_OK : FieldD := ⟨0x6c, 1, 0, 16, 1, .ro, 0, .live, false, 0, 1, false, []⟩
def PAR_LEASE_STAT_CONSENT_OK : FieldD := ⟨0x6c, 1, 0, 17, 1, .ro, 0, .live, false, 0, 1, false, []⟩
def PAR_LEASE_STAT_PROMISE : FieldD := ⟨0x6c, 1, 0, 18, 1, .ro, 0, .live, false, 0, 1, false, []⟩
def PAR_PAIR_EPOCH_EPOCH : FieldD := ⟨0x70, 1, 0, 0, 32, .ro, 0, .live, false, 0, 4294967295, false, []⟩
def PAR_ROLE_GEN_GEN : FieldD := ⟨0x74, 1, 0, 0, 32, .ro, 0, .live, false, 0, 4294967295, false, []⟩
def PAR_PROVE_STAT_RESULT : FieldD := ⟨0x78, 1, 0, 0, 2, .ro, 0, .value, false, 0, 3, false, []⟩
def PAR_PROVE_STAT_MEM_FAIL : FieldD := ⟨0x78, 1, 0, 2, 1, .ro, 0, .value, false, 0, 1, false, []⟩
def PAR_PROVE_STAT_ANALOG_FAIL : FieldD := ⟨0x78, 1, 0, 3, 1, .ro, 0, .value, false, 0, 1, false, []⟩
def PAR_PROVE_STAT_DIGEST_FAIL : FieldD := ⟨0x78, 1, 0, 4, 1, .ro, 0, .value, false, 0, 1, false, []⟩
def PAR_PROVE_STAT_AGE : FieldD := ⟨0x78, 1, 0, 16, 16, .ro, 0, .live, false, 0, 65535, false, []⟩
def PAR_WIT_STAT_STATE : FieldD := ⟨0x200, 16, 32, 0, 2, .ro, 0, .live, false, 0, 3, false, []⟩
def PAR_WIT_STAT_SYNC : FieldD := ⟨0x200, 16, 32, 2, 1, .ro, 0, .live, false, 0, 1, false, []⟩
def PAR_WIT_STAT_REMAIN : FieldD := ⟨0x200, 16, 32, 16, 16, .ro, 0, .live, false, 0, 65535, false, []⟩
def PAR_WIT_PAIR_LO_MAC_LO : FieldD := ⟨0x204, 16, 32, 0, 32, .ro, 0, .live, false, 0, 4294967295, false, []⟩
def PAR_WIT_PAIR_HI_MAC_HI : FieldD := ⟨0x208, 16, 32, 0, 16, .ro, 0, .live, false, 0, 65535, false, []⟩
def PAR_WIT_HOLDER_LO_MAC_LO : FieldD := ⟨0x20c, 16, 32, 0, 32, .ro, 0, .live, false, 0, 4294967295, false, []⟩
def PAR_WIT_HOLDER_HI_MAC_HI : FieldD := ⟨0x210, 16, 32, 0, 16, .ro, 0, .live, false, 0, 65535, false, []⟩
def PAR_WIT_EPOCH_EPOCH : FieldD := ⟨0x214, 16, 32, 0, 32, .ro, 0, .live, false, 0, 4294967295, false, []⟩
def PAR_TAKEOVERS : FieldD := ⟨0xa0, 1, 0, 0, 32, .ro, 0, .value, false, 0, 4294967295, true, []⟩
def PAR_HANDOVERS : FieldD := ⟨0xa4, 1, 0, 0, 32, .ro, 0, .value, false, 0, 4294967295, true, []⟩
def PAR_LAPSES : FieldD := ⟨0xa8, 1, 0, 0, 32, .ro, 0, .value, false, 0, 4294967295, true, []⟩
def PAR_PROVES : FieldD := ⟨0xac, 1, 0, 0, 32, .ro, 0, .value, false, 0, 4294967295, true, []⟩
def PAR_PROVE_FAILS : FieldD := ⟨0xb0, 1, 0, 0, 32, .ro, 0, .value, false, 0, 4294967295, true, []⟩
def PAR_WIT_GRANTS : FieldD := ⟨0xb4, 1, 0, 0, 32, .ro, 0, .value, false, 0, 4294967295, true, []⟩
def PAR_WIT_DENIES : FieldD := ⟨0xb8, 1, 0, 0, 32, .ro, 0, .value, false, 0, 4294967295, true, []⟩
def PAR_STALE_ANSWERS : FieldD := ⟨0xbc, 1, 0, 0, 32, .ro, 0, .value, false, 0, 4294967295, true, []⟩

/-! The registers of page type MIR, from spec/15_redundant_pair.md. -/

def MIR_CTL_FIELD_MS : FieldD := ⟨0x40, 1, 0, 0, 7, .rw, 5, .drawer, false, 1, 100, false, []⟩
def MIR_CTL_TOKEN_MS : FieldD := ⟨0x40, 1, 0, 8, 7, .rw, 10, .drawer, false, 1, 100, false, []⟩
def MIR_STAT_STATE : FieldD := ⟨0x44, 1, 0, 0, 3, .ro, 0, .live, false, 0, 7, false, []⟩
def MIR_STAT_MISMATCH : FieldD := ⟨0x44, 1, 0, 3, 1, .ro, 0, .live, false, 0, 1, false, []⟩
def MIR_STAT_COPY_PCT : FieldD := ⟨0x44, 1, 0, 8, 7, .ro, 0, .live, false, 0, 127, false, []⟩
def MIR_MSN_SENT_MSN : FieldD := ⟨0x48, 1, 0, 0, 32, .ro, 0, .live, false, 0, 4294967295, false, []⟩
def MIR_MSN_ACKED_MSN : FieldD := ⟨0x4c, 1, 0, 0, 32, .ro, 0, .live, false, 0, 4294967295, false, []⟩
def MIR_LOG_USED_KIB : FieldD := ⟨0x50, 1, 0, 0, 19, .ro, 0, .live, false, 0, 524287, false, []⟩
def MIR_LAT_LAST_NS : FieldD := ⟨0x54, 1, 0, 0, 32, .ro, 0, .live, false, 0, 4294967295, false, []⟩
def MIR_LAT_MAX_MAX_NS : FieldD := ⟨0x58, 1, 0, 0, 32, .rc, 0, .value, false, 0, 4294967295, false, []⟩
def MIR_DIGEST_CRC : FieldD := ⟨0x5c, 1, 0, 0, 32, .ro, 0, .value, false, 0, 4294967295, false, []⟩
def MIR_RECORDS_TX : FieldD := ⟨0xa0, 1, 0, 0, 32, .ro, 0, .value, false, 0, 4294967295, true, []⟩
def MIR_RECORDS_LOGGED : FieldD := ⟨0xa4, 1, 0, 0, 32, .ro, 0, .value, false, 0, 4294967295, true, []⟩
def MIR_LOG_WAITS : FieldD := ⟨0xa8, 1, 0, 0, 32, .ro, 0, .value, false, 0, 4294967295, true, []⟩
def MIR_LOG_ERR : FieldD := ⟨0xac, 1, 0, 0, 32, .ro, 0, .value, false, 0, 4294967295, true, []⟩
def MIR_MIRROR_LOST : FieldD := ⟨0xb0, 1, 0, 0, 32, .ro, 0, .value, false, 0, 4294967295, true, []⟩
def MIR_RESYNCS : FieldD := ⟨0xb4, 1, 0, 0, 32, .ro, 0, .value, false, 0, 4294967295, true, []⟩
def MIR_HB_MISSED : FieldD := ⟨0xb8, 1, 0, 0, 32, .ro, 0, .value, false, 0, 4294967295, true, []⟩

/-! The registers of page type CUL, from spec/09_culvert.md. -/

def CUL_CTL_RETRIES : FieldD := ⟨0x40, 1, 0, 0, 4, .rw, 8, .drawer, false, 1, 15, false, []⟩
def CUL_VER_EN : FieldD := ⟨0x44, 1, 0, 0, 2, .rwl, 3, .drawer, false, 1, 3, false, []⟩
def CUL_VER_IMPL : FieldD := ⟨0x44, 1, 0, 8, 2, .ro, 3, .value, false, 0, 3, false, []⟩
def CUL_VER_NEG : FieldD := ⟨0x44, 1, 0, 12, 2, .ro, 0, .live, false, 0, 3, false, []⟩
def CUL_STAT_STATE : FieldD := ⟨0x48, 1, 0, 0, 3, .ro, 0, .live, false, 0, 7, false, []⟩
def CUL_STAT_WHY : FieldD := ⟨0x48, 1, 0, 3, 3, .ro, 0, .value, false, 0, 7, false, []⟩
def CUL_STAT_FIELD_REV : FieldD := ⟨0x48, 1, 0, 8, 4, .ro, 0, .live, false, 0, 15, false, []⟩
def CUL_BOUND0_SYMBOL : FieldD := ⟨0x4c, 1, 0, 0, 16, .rwl, 64, .value, false, 16, 65535, false, []⟩
def CUL_BOUND0_RSP : FieldD := ⟨0x4c, 1, 0, 16, 16, .rwl, 4000, .value, false, 16, 65535, false, []⟩
def CUL_BOUND1_CREDIT : FieldD := ⟨0x50, 1, 0, 0, 14, .rwl, 1200, .value, false, 10, 10000, false, []⟩
def CUL_TIME_CTL_INTERVAL : FieldD := ⟨0x54, 1, 0, 0, 7, .rw, 25, .drawer, false, 5, 100, false, []⟩
def CUL_TIME_ERR_OFFSET : FieldD := ⟨0x58, 1, 0, 0, 32, .ro, 0, .live, false, 0, 4294967295, false, []⟩
def CUL_PERMIT_MS : FieldD := ⟨0x5c, 1, 0, 0, 10, .rw, 20, .drawer, false, 1, 1000, false, []⟩
def CUL_RETRAIN_GO : FieldD := ⟨0x60, 1, 0, 0, 1, .wo, 0, .value, true, 0, 1, false, []⟩
def CUL_CREDITS_REQ : FieldD := ⟨0x64, 1, 0, 0, 7, .ro, 0, .live, true, 0, 127, false, []⟩
def CUL_CREDITS_RSP : FieldD := ⟨0x64, 1, 0, 8, 7, .ro, 0, .live, true, 0, 127, false, []⟩
def CUL_CREDITS_EVT : FieldD := ⟨0x64, 1, 0, 16, 7, .ro, 0, .live, true, 0, 127, false, []⟩
def CUL_CREDITS_TIME : FieldD := ⟨0x64, 1, 0, 24, 7, .ro, 0, .live, true, 0, 127, false, []⟩
def CUL_ITEMS_TX : FieldD := ⟨0x80, 1, 0, 0, 32, .ro, 0, .value, false, 0, 4294967295, true, []⟩
def CUL_ITEMS_RX : FieldD := ⟨0x84, 1, 0, 0, 32, .ro, 0, .value, false, 0, 4294967295, true, []⟩
def CUL_STALLS : FieldD := ⟨0x88, 1, 0, 0, 32, .ro, 0, .value, false, 0, 4294967295, true, []⟩
def CUL_RETRAINS : FieldD := ⟨0x8c, 1, 0, 0, 32, .ro, 0, .value, false, 0, 4294967295, true, []⟩
def CUL_HANG_ITEMS : FieldD := ⟨0x90, 1, 0, 0, 32, .ro, 0, .value, false, 0, 4294967295, true, []⟩
def CUL_LATE_RSP : FieldD := ⟨0x94, 1, 0, 0, 32, .ro, 0, .value, false, 0, 4294967295, true, []⟩
def CUL_EVT_DUP : FieldD := ⟨0x98, 1, 0, 0, 32, .ro, 0, .value, false, 0, 4294967295, true, []⟩
def CUL_CHECK_FAIL : FieldD := ⟨0x9c, 1, 0, 0, 32, .ro, 0, .value, false, 0, 4294967295, true, []⟩

end Sys2Proof.Machine.F

namespace Sys2Proof.Machine

/-- The fields of page type BRG. -/
def fieldsBRG : List FieldD :=
  [F.BRG_ID_VENDOR, F.BRG_ID_DEVICE, F.BRG_SUBSYS_SVID, F.BRG_SUBSYS_SSID, F.BRG_LINK_CFG_MAX_SPEED,
   F.BRG_LINK_CFG_X1, F.BRG_LINK_CFG_BAR2_LOG2, F.BRG_LINK_CFG_BAR2_PREF, F.BRG_LINK_STAT_UP, F.BRG_LINK_STAT_SPEED,
   F.BRG_LINK_STAT_WIDTH, F.BRG_LINK_STAT_BME, F.BRG_LINK_STAT_MSE, F.BRG_LINK_STAT_MSIX_EN, F.BRG_LINK_STAT_FMASK,
   F.BRG_LINK_STAT_D3, F.BRG_LINK_STAT_MPS, F.BRG_LINK_STAT_MRRS, F.BRG_TGT_SPEC_PERMISSIVE, F.BRG_IB_CTL_CPL_TO,
   F.BRG_IB_CTL_CREDIT_WAIT, F.BRG_PF_CTL_RESERVE, F.BRG_TAGS_WR_FREE, F.BRG_TAGS_RD_FREE, F.BRG_ERRLOG0_STATUS,
   F.BRG_ERRLOG0_CAUSE, F.BRG_ERRLOG0_KIND, F.BRG_ERRLOG0_DISCARDED, F.BRG_ERRLOG0_WINDOW, F.BRG_ERRLOG0_VALID,
   F.BRG_ERRLOG1_ADDR_LO, F.BRG_ERRLOG2_ADDR_HI, F.BRG_ERRLOG3_LEN, F.BRG_ERRLOG3_TAG, F.BRG_ERRLOG_OVF_COUNT,
   F.BRG_SPECLOSS0_WINDOW, F.BRG_SPECLOSS0_UNKNOWN, F.BRG_SPECLOSS0_FIRST_UNUSED, F.BRG_SPECLOSS0_TAG,
   F.BRG_SPECLOSS0_VALID] ++
  [F.BRG_SPECLOSS1_ADDR_LO, F.BRG_SPECLOSS2_ADDR_HI, F.BRG_SPECLOSS_OVF_COUNT, F.BRG_HOST_RD, F.BRG_HOST_WR,
   F.BRG_UR_SENT, F.BRG_CA_SENT, F.BRG_LATE, F.BRG_PF_ISSUED, F.BRG_PF_REFUSED, F.BRG_PF_DISCARD,
   F.BRG_SPEC_TGT_REFUSED, F.BRG_IB_TXN, F.BRG_IB_ERR]

/-- The fields of page type WIN. -/
def fieldsWIN : List FieldD :=
  [F.WIN_OB_HOST_LO_HOST_LO, F.WIN_OB_HOST_HI_HOST_HI, F.WIN_OB_FAB_LO_FAB_LO, F.WIN_OB_FAB_HI_FAB_HI,
   F.WIN_OB_CTL_EN, F.WIN_OB_CTL_LANE, F.WIN_OB_CTL_UNIT, F.WIN_OB_CTL_PREFETCH, F.WIN_OB_CTL_SPLIT,
   F.WIN_OB_CTL_ORDER, F.WIN_OB_CTL_SIZE_LOG2, F.WIN_OB_CTL_FLOW, F.WIN_OB_TIME_TIMEOUT, F.WIN_OB_TIME_PF_LIFE,
   F.WIN_OB_OPEN_WR_OPEN, F.WIN_OB_OPEN_RD_OPEN, F.WIN_IB_FAB_LO_FAB_LO, F.WIN_IB_FAB_HI_FAB_HI,
   F.WIN_IB_HOST_LO_HOST_LO, F.WIN_IB_HOST_HI_HOST_HI, F.WIN_IB_CTL_EN, F.WIN_IB_CTL_WR_EN, F.WIN_IB_CTL_RD_EN,
   F.WIN_IB_CTL_NS, F.WIN_IB_CTL_RO, F.WIN_IB_CTL_SIZE_LOG2, F.WIN_WR_RECV, F.WIN_WR_DONE, F.WIN_WR_FAIL,
   F.WIN_RD_FAIL, F.WIN_PF_HIT]

/-- The fields of page type TMK. -/
def fieldsTMK : List FieldD :=
  [F.TMK_CTL_TC_EN, F.TMK_CTL_PDELAY_HW, F.TMK_CTL_ONE_STEP_EN, F.TMK_STAT_REF_OK, F.TMK_STAT_FIELD_SYNC,
   F.TMK_STAT_SERVO_STATE, F.TMK_NOW_NS_NS, F.TMK_NOW_SEC_LO_SEC_LO, F.TMK_NOW_SEC_HI_SEC_HI, F.TMK_NOW_STAMP_STAMP,
   F.TMK_SET_NS_NS, F.TMK_SET_SEC_LO_SEC_LO, F.TMK_SET_SEC_HI_SEC_HI, F.TMK_TIME_CMD_SET, F.TMK_ADJUST_NS,
   F.TMK_SERVO_IN_E, F.TMK_SERVO_CTL_EN, F.TMK_SERVO_CTL_PPS_FEED, F.TMK_SERVO_KP_KP, F.TMK_SERVO_KI_KI,
   F.TMK_SERVO_STEP_THRESH, F.TMK_SERVO_LOCK_LOCK_NS, F.TMK_SERVO_LOCK_HOLD, F.TMK_SERVO_LIMIT_LIMIT, F.TMK_FREQ_FREQ,
   F.TMK_INTEG_INTEG, F.TMK_LAST_E_E, F.TMK_CORR_TX_LAT, F.TMK_CORR_RX_LAT, F.TMK_ADJ_TX_ADJ, F.TMK_ADJ_RX_ADJ,
   F.TMK_LINK_DELAY_DELAY, F.TMK_ASYM_ASYM, F.TMK_PPS_WIDTH, F.TMK_PPS_IN_EDGE, F.TMK_PPS_IN_EN, F.TMK_PPS_OUT_EN,
   F.TMK_PPS_IN_NS_NS, F.TMK_PPS_IN_SEC_LO_SEC_LO, F.TMK_PPS_IN_FRAC_FRAC] ++
  [F.TMK_TC_CORRECTED, F.TMK_TC_NOMATCH, F.TMK_PDELAY_RESP, F.TMK_STEPS, F.TMK_SERVO_SAMPLES, F.TMK_SERVO_DISCARD,
   F.TMK_PPS_IN_REJECT]

/-- The fields of page type TSQ. -/
def fieldsTSQ : List FieldD :=
  [F.TSQ_POP_ID_ID, F.TSQ_POP_ID_NOT_SENT, F.TSQ_POP_ID_VALID, F.TSQ_POP_NS_STAMP, F.TSQ_LEVEL_LEVEL, F.TSQ_OVF_COUNT]

/-- The fields of page type TRG. -/
def fieldsTRG : List FieldD :=
  [F.TRG_START_NS_NS, F.TRG_START_SEC_LO_SEC_LO, F.TRG_PERIOD_NS_PERIOD, F.TRG_PERIOD_FRAC_FRAC, F.TRG_COUNT_COUNT,
   F.TRG_CTL_MODE, F.TRG_CTL_POL, F.TRG_CTL_LATE_SKIP, F.TRG_CTL_CAN_EN, F.TRG_CTL_CAN_PORT, F.TRG_CTL_WIDTH,
   F.TRG_STAT_ARMED, F.TRG_STAT_DONE, F.TRG_STAT_MISSED, F.TRG_FIRED_COUNT, F.TRG_CAP_CTL_EDGE, F.TRG_CAP_POP0_RISING,
   F.TRG_CAP_POP0_UNSYNC, F.TRG_CAP_POP0_VALID, F.TRG_CAP_POP1_STAMP, F.TRG_CAP_MISSED_COUNT]

/-- The fields of page type PAR. -/
def fieldsPAR : List FieldD :=
  [F.PAR_CTL_EN, F.PAR_CTL_PREFERRED, F.PAR_CTL_REVERT, F.PAR_CTL_WITNESS_EN, F.PAR_CTL_ANN_PERIOD,
   F.PAR_CTL_PAIR_NODE, F.PAR_WITNESS_PATH, F.PAR_PAIR_MAC_LO_MAC_LO, F.PAR_PAIR_MAC_HI_MAC_HI, F.PAR_LEASE_MS,
   F.PAR_LEASE_HOLDOFF, F.PAR_TIMING_DEFER, F.PAR_TIMING_PROVE_MIN, F.PAR_FLOWS_UNIT_BASE, F.PAR_BENCH_START_START,
   F.PAR_CMD_HANDOVER, F.PAR_CMD_PROVE, F.PAR_STAT_ROLE, F.PAR_STAT_HEALTHY, F.PAR_STAT_PARTNER_HEALTHY,
   F.PAR_STAT_ALONE, F.PAR_HEALTH_OWN, F.PAR_HEALTH_PARTNER, F.PAR_LEASE_STAT_REMAIN, F.PAR_LEASE_STAT_WITNESS_OK,
   F.PAR_LEASE_STAT_CONSENT_OK, F.PAR_LEASE_STAT_PROMISE, F.PAR_PAIR_EPOCH_EPOCH, F.PAR_ROLE_GEN_GEN,
   F.PAR_PROVE_STAT_RESULT, F.PAR_PROVE_STAT_MEM_FAIL, F.PAR_PROVE_STAT_ANALOG_FAIL, F.PAR_PROVE_STAT_DIGEST_FAIL,
   F.PAR_PROVE_STAT_AGE, F.PAR_WIT_STAT_STATE, F.PAR_WIT_STAT_SYNC, F.PAR_WIT_STAT_REMAIN, F.PAR_WIT_PAIR_LO_MAC_LO,
   F.PAR_WIT_PAIR_HI_MAC_HI, F.PAR_WIT_HOLDER_LO_MAC_LO] ++
  [F.PAR_WIT_HOLDER_HI_MAC_HI, F.PAR_WIT_EPOCH_EPOCH, F.PAR_TAKEOVERS, F.PAR_HANDOVERS, F.PAR_LAPSES, F.PAR_PROVES,
   F.PAR_PROVE_FAILS, F.PAR_WIT_GRANTS, F.PAR_WIT_DENIES, F.PAR_STALE_ANSWERS]

/-- The fields of page type MIR. -/
def fieldsMIR : List FieldD :=
  [F.MIR_CTL_FIELD_MS, F.MIR_CTL_TOKEN_MS, F.MIR_STAT_STATE, F.MIR_STAT_MISMATCH, F.MIR_STAT_COPY_PCT,
   F.MIR_MSN_SENT_MSN, F.MIR_MSN_ACKED_MSN, F.MIR_LOG_USED_KIB, F.MIR_LAT_LAST_NS, F.MIR_LAT_MAX_MAX_NS,
   F.MIR_DIGEST_CRC, F.MIR_RECORDS_TX, F.MIR_RECORDS_LOGGED, F.MIR_LOG_WAITS, F.MIR_LOG_ERR, F.MIR_MIRROR_LOST,
   F.MIR_RESYNCS, F.MIR_HB_MISSED]

/-- The fields of page type CUL. -/
def fieldsCUL : List FieldD :=
  [F.CUL_CTL_RETRIES, F.CUL_VER_EN, F.CUL_VER_IMPL, F.CUL_VER_NEG, F.CUL_STAT_STATE, F.CUL_STAT_WHY,
   F.CUL_STAT_FIELD_REV, F.CUL_BOUND0_SYMBOL, F.CUL_BOUND0_RSP, F.CUL_BOUND1_CREDIT, F.CUL_TIME_CTL_INTERVAL,
   F.CUL_TIME_ERR_OFFSET, F.CUL_PERMIT_MS, F.CUL_RETRAIN_GO, F.CUL_CREDITS_REQ, F.CUL_CREDITS_RSP, F.CUL_CREDITS_EVT,
   F.CUL_CREDITS_TIME, F.CUL_ITEMS_TX, F.CUL_ITEMS_RX, F.CUL_STALLS, F.CUL_RETRAINS, F.CUL_HANG_ITEMS, F.CUL_LATE_RSP,
   F.CUL_EVT_DUP, F.CUL_CHECK_FAIL]

end Sys2Proof.Machine
end

