-- ==== Sys2Proof/Machine/Pages.lean ====
section
/-! DEFINITION. The page directory (R60) and what each page's own header words say (R52, R57, R60). -/

namespace Sys2Proof.Machine

/-! Page numbers (R60). -/
namespace Pg
def gen : Nat := 0x000
def int : Nat := 0x001
def pwr : Nat := 0x002
def mon : Nat := 0x003
def rst : Nat := 0x004
def drw : Nat := 0x005
def chs : Nat := 0x006
def fwu : Nat := 0x007
def bst : Nat := 0x008
def prt : Nat := 0x009
def kvl : Nat := 0x014
def nod : Nat := 0x015
def seq : Nat := 0x016
def swc : Nat := 0x017
def buf : Nat := 0x018
def jrn : Nat := 0x019
def brg : Nat := 0x020
def win : Nat := 0x021
def tmk : Nat := 0x022
def tsq : Nat := 0x023
def trg : Nat := 0x024
def par : Nat := 0x028
def mir : Nat := 0x029
def cul : Nat := 0x02A
/-- The page of ring or coupling port 0 E, 1 W, 2 C1, 3 C2. -/
def port (i : Nat) : Nat := 0x010 + i
def flw (flow : Nat) : Nat := 0x040 + flow / 64
def hdg (i : Nat) : Nat := 0x080 + i / 64
def slu (i : Nat) : Nat := 0x090 + i
def slu40 : Nat := 0x0D0
def ser (n : Nat) : Nat := 0x100 + n
def ben (n : Nat) : Nat := 0x120 + n
def btb : Nat := 0x130
def pin : Nat := 0x131
def dis : Nat := 0x132
def soe : Nat := 0x133
def can (n : Nat) : Nat := 0x138 + n
def usb : Nat := 0x140
def usf : Nat := 0x141
end Pg

/-- A page is on the field die (R60). -/
def isFieldPage (p : Nat) : Bool := p == 0x002 || p == 0x003 || (0x100 ≤ p && p ≤ 0x141)

/-- The page-specific fields of page `p` by the page directory; none where no page is assigned (R53, R60). -/
def pageFields (p : Nat) : Option (List FieldD) :=
  if p = 0x000 then some fieldsGEN
  else if p = 0x001 then some fieldsINT
  else if p = 0x002 then some fieldsPWR
  else if p = 0x003 then some fieldsMON
  else if p = 0x004 then some fieldsRST
  else if p = 0x005 then some fieldsDRW
  else if p = 0x006 then some fieldsCHS
  else if p = 0x007 then some fieldsFWU
  else if p = 0x008 then some fieldsBST
  else if p = 0x009 then some fieldsPRT
  else if 0x010 ≤ p ∧ p ≤ 0x013 then some fieldsPORT
  else if p = 0x014 then some fieldsKVL
  else if p = 0x015 then some fieldsNOD
  else if p = 0x016 then some fieldsSEQ
  else if p = 0x017 then some fieldsSWC
  else if p = 0x018 then some fieldsBUF
  else if p = 0x019 then some fieldsJRN
  else if p = 0x020 then some fieldsBRG
  else if p = 0x021 then some fieldsWIN
  else if p = 0x022 then some fieldsTMK
  else if p = 0x023 then some fieldsTSQ
  else if p = 0x024 then some fieldsTRG
  else if p = 0x028 then some fieldsPAR
  else if p = 0x029 then some fieldsMIR
  else if p = 0x02A then some fieldsCUL
  else if 0x040 ≤ p ∧ p ≤ 0x07F then some fieldsFLW
  else if p = 0x080 then some (fieldsHDG ++ fieldsHDG0)
  else if 0x081 ≤ p ∧ p ≤ 0x08F then some fieldsHDG
  else if 0x090 ≤ p ∧ p ≤ 0x0CF then some fieldsSLU
  else if p = 0x0D0 then some fieldsSLU40
  else if 0x100 ≤ p ∧ p ≤ 0x11F then some fieldsSER
  else if 0x120 ≤ p ∧ p ≤ 0x12F then some fieldsBEN
  else if p = 0x130 then some fieldsBTB
  else if p = 0x131 then some fieldsPIN
  else if p = 0x132 then some fieldsDIS
  else if p = 0x133 then some fieldsSOE
  else if 0x138 ≤ p ∧ p ≤ 0x13F then some fieldsCAN
  else if p = 0x140 then some fieldsUSB
  else if p = 0x141 then some fieldsUSF
  else none

/-- Page `p` is assigned in the page directory (R53). -/
def pageAssigned (p : Nat) : Bool := (pageFields p).isSome

/-- TYPE, INSTANCE and VERSION of page `p` (R60). -/
def pageIdent (p : Nat) : Nat × Nat × Nat :=
  if p = 0x000 then (0x0001, 0, 2)
  else if p ≤ 0x009 then (p + 1, 0, 1)
  else if p ≤ 0x013 then (0x0010, p - 0x010, 1)
  else if p = 0x014 then (0x0011, 0, 3)
  else if p ≤ 0x019 then (p - 0x003, 0, 1)
  else if p = 0x02A then (0x002A, 0, 2)
  else if p ≤ 0x029 then (p, 0, 1)
  else if p ≤ 0x07F then (0x0040, p - 0x040, 1)
  else if p ≤ 0x08F then (0x0041, p - 0x080, 1)
  else if p ≤ 0x0D0 then (0x0042, p - 0x090, 1)
  else if p ≤ 0x11F then (0x0100, p - 0x100, 1)
  else if p ≤ 0x12F then (0x0101, p - 0x120, 1)
  else if p = 0x130 then (0x0102, 0, 1)
  else if p ≤ 0x133 then (p - 0x131 + 0x0103, 0, 1)
  else if p ≤ 0x13F then (0x0106, p - 0x138, 1)
  else (p - 0x140 + 0x0107, 0, 1)

/-- PAGE_CAP.IRQ_COUNT of page `p`: HANG, ERR and the sources its chapter lists (R57). -/
def irqCount (p : Nat) : Nat :=
  if p = 0x000 then 3 else if p = 0x001 then 3
  else if p = 0x002 then 7 else if p = 0x003 then 3
  else if p = 0x004 then 4 else if p = 0x005 then 4 else if p = 0x006 then 5
  else if p = 0x007 then 7 else if p = 0x008 then 6 else if p = 0x009 then 4
  else if 0x010 ≤ p ∧ p ≤ 0x013 then 6
  else if p = 0x014 then 4 else if p = 0x015 then 7 else if p = 0x016 then 7
  else if p = 0x017 then 5 else if p = 0x018 then 6 else if p = 0x019 then 4
  else if p = 0x020 then 7 else if p = 0x021 then 2
  else if p = 0x022 then 7 else if p = 0x023 then 7 else if p = 0x024 then 6
  else if p = 0x028 then 8 else if p = 0x029 then 5 else if p = 0x02A then 5
  else if 0x040 ≤ p ∧ p ≤ 0x07F then 4
  else if 0x080 ≤ p ∧ p ≤ 0x08F then 3
  else if 0x090 ≤ p ∧ p ≤ 0x0D0 then 2
  else if 0x100 ≤ p ∧ p ≤ 0x11F then 10
  else if 0x120 ≤ p ∧ p ≤ 0x12F then 9
  else if p = 0x130 then 3 else if p = 0x131 then 2 else if p = 0x132 then 4 else if p = 0x133 then 5
  else if 0x138 ≤ p ∧ p ≤ 0x13F then 11
  else if p = 0x140 then 6 else if p = 0x141 then 5
  else 0

/-- PAGE_CAP.PAGE_SPECIFIC of page `p`: bit 16 reads 1 on RPE and RPW (spec/03). -/
def pageSpecific (p : Nat) : Nat := if p = 0x010 ∨ p = 0x011 then 1 else 0

/-- The page offset of the SIDE bitmap of page `p` (R52): 0x080 in INT, 0xF80 in every other page. -/
def sideOffset (p : Nat) : Nat := if p = 0x001 then 0x080 else 0xF80

/-- The instance of field `f` at page offset `off`, if the field lies there. -/
def fieldAt (f : FieldD) (off : Nat) : Option Nat :=
  if f.cnt = 1 then (if off = f.off then some 0 else none)
  else if off < f.off then none
  else if (off - f.off) % f.stride = 0 ∧ (off - f.off) / f.stride < f.cnt then some ((off - f.off) / f.stride)
  else none

/-- Every field of page `p` that lies in the register at `off`, with its instance. -/
def fieldsAt (p off : Nat) : List (FieldD × Nat) :=
  match pageFields p with
  | none => []
  | some fs =>
    (if off < 0x40 then fieldsHDR else fs).filterMap fun f => (fieldAt f off).map fun i => (f, i)

/-- The reset value of instance `i` of field `f` (R10). -/
def fieldReset (f : FieldD) (i : Nat) : Nat := f.rsts.getD i f.rst

/-- The reset value of the register at `off` of page `p`, put together from its fields. -/
def resetWord (p off : Nat) : Word :=
  (fieldsAt p off).foldl (fun a fi => a ||| (BitVec.ofNat 32 (fieldReset fi.1 fi.2) <<< fi.1.lo)) 0#32

/-- A read of the register at `off` of page `p` is destructive (R51, R52): it holds an RC field, or it is TMK.NOW_NS. -/
def isSide (p off : Nat) : Bool :=
  (fieldsAt p off).any (fun fi => fi.1.acc == .rc) || (p == 0x022 && off == 0x048)

end Sys2Proof.Machine
end

