-- ==== Sys2Proof/Config.lean ====
section
/-! DEFINITION. What an implementation fixes and the values the spec leaves open. A constant without a body is a free value:
no proof can see what it is. -/

namespace Sys2Proof.Config

/-- The free values of log entry 8: the n-th value the spec leaves open in a run. -/
opaque freeValue : Nat → BitVec 64

/-- The byte at a chest address whose area has no format in spec/17, while the area holds what the numbers describe (log entry 8). -/
opaque chestFree : Nat → List Nat → BitVec 8

/-- Byte `i` of a USB descriptor of the image's set (R325): of the hub (true) or of the service function, by descriptor type and index. -/
opaque usbDescByte (hub : Bool) (type index i : Nat) : BitVec 8

/-- The length of a descriptor of the image's set whose length spec/13 does not fix. -/
opaque usbDescLen (hub : Bool) (type index : Nat) : Nat

/-- The Trelzar public keys 0 and 1 in ring-die OTP (R429), and, as key 2, the Trelzar test key (R456). -/
opaque trelzarKey : Nat → List Byte

end Sys2Proof.Config
end

