-- ==== Sys2Proof/Machine/State.lean ====
section
/-! DEFINITION. The state of the hub as plain data: everything the spec gives the machine, the commands that wait, and the
model's own fields (outputs, free-value counter). INVENTORY.md lists each with its rule and reset value. -/

namespace Sys2Proof.Machine

/-- A sparse table: pairs of a key and a value, keys strictly rising (see `tabWf`). -/
abbrev Tab (α : Type) := List (Nat × α)

/-- What identifies the device itself and never changes at run time (R1, R3, spec/17 identity area). -/
structure Device where
  grade : Nat       -- GEN.DEVICE.GRADE (R1)
  ringRev : Nat     -- R3
  fieldRev : Nat    -- R3: the revision the field die reports
  mac : Nat         -- the hub's own 48-bit MAC address
  vendor : Nat      -- BRG.ID.VENDOR
  serial : Nat      -- the device serial number, 16 bytes (R439, R456)
  deriving DecidableEq, Repr

/-- What the hub gives to the outside during one command. The list is the model's own: each command starts it empty. -/
inductive Out where
  | frame (p : Port) (f : Frame) (stomped : Bool)          -- a frame leaves on a port
  | local (f : Frame) (port : Option Port) (stamp : Nat)     -- a plain frame reaches the management core: arrival port, ingress stamp in 1/16 ns (R227)
  | accept (tag flow seq : Nat)                              -- acceptance returned to the initiator (R13)
  | closed (init tag status cause : Nat) (data : List Byte)   -- a transaction is completed to its initiator
  | read (who : Agent) (page off : Nat) (data : List Byte)   -- a register read returns
  | access (who : Agent) (status cause : Nat)                -- how a register access completes
  | intN (n : Nat) (level : Bool)                            -- INT_N[n] changes; level false is asserted
  | msix (v : Nat)                                           -- MSI-X message v is sent
  | coreIrq (level : Bool)                                   -- the management core's interrupt changes
  | tlp (kind : Nat) (addr len : Nat) (data : List Byte) (tag attr : Nat)   -- a TLP towards the host: 0 write, 1 read; attr bit 0 No Snoop, bit 1 Relaxed Ordering
  | cpl (tag status : Nat) (data : List Byte)                -- a PCIe completion to the host: 0 SC, 1 UR, 4 CA
  | item (toField : Bool) (vc kind : Nat) (symbols : List Nat)  -- an item leaves on the culvert
  | pin (n : Nat) (level : Option Bool) (pull : Nat)         -- a field ball is driven, or (none) at high impedance with this PULL
  | ball (name : String) (level : Bool)                      -- a named ball of the hub changes
  | char (port : Nat) (data : Nat) (line : List Bool)        -- a serial character is sent, and the bits it takes on the line
  | can (port idWord dlc : Nat) (fdf brs : Bool) (data : List Byte)   -- a CAN port starts a frame: ID, XTD and RTR as in bytes 8 to 11 of an entry
  | usb (kind : Nat) (data : List Byte)                      -- a USB handshake or data packet
  | event (what : Nat) (arg : Nat)                           -- anything else a chapter says the hub reports
  deriving DecidableEq, Repr

/-- A KVL header (R80). -/
structure Kvl where
  ver : Nat
  type : Nat
  cls : Nat
  dup : Bool
  rewrites : Nat
  dst : DWord
  src : DWord
  initiator : Nat
  srcFlow : Nat
  baseSeq : Nat
  count : Nat
  bodyLen : Nat
  srcEpoch : Nat
  dstEpoch : Nat
  deriving DecidableEq, Repr

/-- One record of a REQ body (R105). -/
structure ReqRec where
  op : Nat
  spec : Bool
  first : Bool
  len : Nat
  tag : Nat
  off : Nat
  reason : Nat
  data : List Byte
  deriving DecidableEq, Repr

/-- One record of a CPL body (R106). -/
structure CplRec where
  status : Nat
  late : Bool
  effectful : Bool
  filled : Bool
  tag : Nat
  cause : Nat
  data : List Byte
  deriving DecidableEq, Repr

/-- A transaction that an initiator has offered and that holds a tag (R103). -/
structure Txn where
  tag : Nat
  init : Nat
  flow : Nat
  op : Nat
  addr : Nat
  len : Nat
  data : List Byte
  spec : Bool
  orphan : Bool
  deriving DecidableEq, Repr

/-- What an assigned record still waits for before its acceptance (R110). -/
inductive AccWait where
  | none
  | chest                -- the write of a chest acceptance slot
  | mirror (msn : Nat)   -- the partner's ACK_MSN
  | alone                -- the holder's RENEWED after RENEW with ALONE (R371)
  deriving DecidableEq, Repr

/-- An open record of an initiator flow. `fill` is the REASON of the FILL that stands for it (R113). -/
structure OpenRec where
  seq : Nat
  txn : Txn
  first : Bool
  sent : Bool
  fill : Option Nat
  wait : AccWait
  nop : Bool
  deriving DecidableEq, Repr

/-- The states of an initiator flow beside its fences (R115, R116); FREE is a context that is not VALID. -/
inductive FlowSt where
  | opened | resync
  deriving DecidableEq, Repr

/-- A burst standing in a flow's furrow: the sequence numbers it holds and the stamp taken when it joined (R107, R152). -/
structure Burst where
  seqs : List Nat
  stamp : Nat
  deriving DecidableEq, Repr

/-- The initiator role of a flow context (ROLE 0), beside its CFG, DST and TIMER words, which are registers of its FLW page. -/
structure IFlow where
  nextSeq : Nat
  seqLimit : Nat
  first : Bool            -- the next record carries FIRST (R115)
  peerEpoch : Nat
  tryCnt : Nat
  st : FlowSt
  pathFence : Bool        -- a path fence is in force (R148)
  verFence : Bool         -- the version fence of R85 is in force
  opens : List OpenRec    -- oldest first
  waiting : List Txn      -- past steps 1 to 5 of R109, oldest first
  floorAdv : Nat          -- the floor last advertised (R121)
  closedNN : List Nat     -- closed numbers of records other than NOPs at or above that floor (R121)
  sentOnce : Bool         -- the flow has sent since its context was set VALID
  pathW : Bool            -- the current path: false E (C1), true W (C2) (R146)
  furrow : List Burst     -- oldest first
  timer : Bool            -- the retransmission timer runs
  retries : Nat           -- TIMER.RETRIES as it stood when the timer last started (R116)
  deriving DecidableEq, Repr

/-- How far a held record has come. -/
inductive HeldSt where
  | held                  -- waits for its turn
  | intent (msn : Nat)    -- waits for the mirroring of its INTENT (R369)
  | waitField             -- accepted for the culvert, waits for a credit or for the culvert (R250, R261)
  | inField               -- sent to the field die as an EXEC, no DONE yet
  | waitHost              -- in the bridge: waits for credit or completions (R210)
  | stream                -- waits for FIFO room (R101)
  deriving DecidableEq, Repr

/-- A repeat of a record, or a FILL for it, that met the record in execution (R119). -/
structure Repeat where
  fill : Bool
  tag : Nat
  hdr : Kvl
  smac : Nat
  port : Option Port
  deriving DecidableEq, Repr

/-- A record held by a target context (R117), with the header fields its answer needs. -/
structure Held where
  seq : Nat
  req : ReqRec
  st : HeldSt
  port : Option Port      -- the port its REQ arrived on (R484); none for a local initiator
  hdr : Kvl
  smac : Nat              -- the source MAC its REQ came from
  repeats : List Repeat   -- repeats to answer from the cache once its entry is written, oldest first
  deriving DecidableEq, Repr

/-- A completion cache entry (R118). -/
structure CacheEnt where
  seq : Nat
  status : Nat
  cause : Nat
  effectful : Bool
  filled : Bool
  nop : Bool
  bearing : Bool          -- data-bearing by its operation (R121)
  tag : Nat
  data : List Byte
  empty : Bool            -- marked empty by a power-fail recovery (R127)
  bad : Bool              -- its journal words cannot be read (R160)
  deriving DecidableEq, Repr

/-- The target role of a flow context (ROLE 1), keyed by SRC route word, SRC_FLOW and CLASS (R102). -/
structure TCtx where
  srcRoute : DWord
  srcFlow : Nat
  cls : Nat
  pairCtx : Bool          -- created by a REQ addressed to PAIR_NODE (R357)
  ne : Nat
  ackFloor : Nat
  srcEpoch : Nat
  lastAt : Nat            -- watch count when the last record arrived (R120, R131)
  held : List Held
  cache : List CacheEnt
  deferred : Bool         -- the record at NEXT_EXPECTED has been counted in SEQ.DEFERRED
  deriving DecidableEq, Repr

/-- A record of the sequencing log (R130). -/
structure SeqLog where
  status : Nat
  cause : Nat
  flow : Nat
  seq : Nat
  offLo : Nat
  offHi : Nat
  tag : Nat
  op : Nat
  orphan : Bool
  deriving DecidableEq, Repr

/-- The last broadcast EVENT executed on one flow (R122). -/
structure BcastLast where
  srcRoute : DWord
  srcFlow : Nat
  cls : Nat
  last : Nat
  deriving DecidableEq, Repr

/-- A completion that waits in the completion cache for cells or for its service sluice (R142, R170). -/
structure CplOut where
  hdr : Kvl
  dmac : Nat
  keep : Option Nat       -- an AGED CPL keeps the cells of the frame it was: their head cell (R154)
  recs : List CplRec
  nextExp : Nat
  ports : List Port
  deriving DecidableEq, Repr

/-- A closure on its way to its initiator (R112): handled by the initiator's block in the same step. -/
structure Closing where
  init : Nat
  tag : Nat
  status : Nat
  cause : Nat
  effectful : Bool
  data : List Byte
  orphan : Bool
  deriving DecidableEq, Repr

/-- An answer of a target to one sequence number, not yet in a CPL burst (R106). -/
structure Answer where
  hdr : Kvl               -- of the REQ it answers
  smac : Nat
  port : Option Port
  seq : Nat
  nextExp : Nat
  ans : CplRec
  deriving DecidableEq, Repr

/-- The sequencing engine (spec/04). -/
structure SeqSt where
  flows : Tab IFlow           -- contexts of ROLE 0 that hold anything beside their registers
  ctxs : Tab TCtx             -- contexts of ROLE 1
  tags : List Nat             -- tags in use
  tagWait : List TxnReq       -- transactions that wait for a tag or for room in their flow (R104)
  log : List SeqLog           -- oldest first
  closings : List Closing     -- closures of this step, not yet handled by their initiators
  accepted : List (Nat × Nat) -- acceptances of this step (initiator, tag), not yet handled by their initiators
  bcast : List BcastLast
  cplOut : List CplOut        -- completions formed, not yet in a class queue
  answers : List Answer       -- answers of this step, oldest first
  runQ : List Nat             -- target contexts whose next record may now execute
  running : Bool              -- records may execute and transactions be accepted (R127, R410)
  deriving DecidableEq, Repr

/-- A reference of a frame to an egress port with its outcome (R151): 0 PENDING, 1 SENT, 2 AGED, 3 PORT_DOWN, 4 ECC, 5 HANG. -/
structure Ref where
  port : Port
  outcome : Nat
  deriving DecidableEq, Repr

/-- The entry of a frame in the descriptor RAM (R136). The frame's own bytes stand for what its cells hold. -/
structure Desc where
  frame : Frame
  len : Nat                   -- LENGTH (R6)
  cls : Nat
  pool : Nat                  -- 0 TRANSIT, 1 RESPONSE, 2 PROTECT, 3 SHARED (R139)
  stamp : Nat                 -- 16 bits: the arrival stamp, taken when it joined its first queue or furrow (R152)
  rxTime : Nat                -- ingress stamp in 1/16 ns of local time (R222)
  ingress : Option Port
  refs : List Ref
  loc : Option Nat            -- outcome of the LOCAL reference, by the codes of Ref; none: no such reference
  reserve : Nat               -- cells taken from the pool's reserve
  shared : Nat                -- shared cells taken, charged to each referenced port
  kvl : Bool
  dup : Bool                  -- DUP of its KVL header
  cut : Bool
  stomped : Bool
  tsId : Option Nat           -- TS_REQ identifier of a management frame (R227)
  oneStep : Bool              -- ONE_STEP insertion asked for (R227)
  bcastTags : List Nat        -- tags of the broadcast EVENTs this frame carries that have not completed (R122)
  deriving DecidableEq, Repr

/-- A frame that this hub is to form and for which no cells are free: its content waits at its source (R142). -/
structure OwnFrame where
  desc : Desc
  ports : List Port
  tagged : Bool               -- it takes an HSR sequence number when it is formed (R70)
  deriving DecidableEq, Repr

/-- The switch core and shared buffer (spec/05). A frame is named by its head cell. -/
structure SwitchSt where
  frames : Tab Desc           -- the descriptor RAM: the frames held, by their head cells (R132, R136)
  link : Tab Nat              -- the link RAM: the next cell after each cell; an unlisted entry holds 0 (R132)
  queues : Tab (List Nat)     -- key 8 * port + class: the frames of a class queue, oldest first (R138)
  onWire : Tab (Nat × Nat)    -- key port: the frame being sent and its egress stamp in 1/16 ns
  localQ : List Nat           -- frames whose LOCAL reference is open, oldest first
  ownWait : List OwnFrame     -- own frames that wait for cells, oldest first (R142)
  tcWire : List Nat           -- ports whose frame on the wire carries a correction of the transparent clock (R225)
  walk : List Nat             -- ports being reclaimed; 7 is a leak sweep
  lost : List Nat             -- cells on no list (R134)
  cur : Tab Nat               -- weighted class in service, by port
  fresh : Tab Bool
  deficit : Tab Nat           -- key 8 * port + class
  retired : List Nat          -- cells retired by the self-test (R445)
  deriving DecidableEq, Repr

/-- What the token buckets hold beside their registers: the remainder of each, in 1/8000 byte, and the active rate of each
headgate, both by 1024 * page + entry (R165, R175); and the waits that DEBT_WAITS has counted: who waits (a flow, 4096 + a
port for its queues, 8192 + a port for its completions), which head, and at which sluice (R184). -/
structure MeterSt where
  rem : Tab Nat
  hdgRate : Tab Nat
  waits : List (Nat × Nat × Nat)
  deriving DecidableEq, Repr

/-- A node-table entry (spec/03, R89). `state`: 0 ABSENT, 1 PRESENT, 2 LOST, 3 CONFLICT, 4 INCOMPATIBLE. -/
structure NodeEnt where
  state : Nat
  coupler : Bool
  uplink : Bool
  reachE : Bool
  reachW : Bool
  verSet : Nat
  negVer : Nat
  period : Nat
  mac : Nat
  groupGen : Nat
  epoch : Nat
  deriving DecidableEq, Repr

/-- A node-table change record (R91). -/
structure ChgRec where
  node : Nat
  sub : Bool
  state : Nat
  reason : Nat
  gen : Nat
  deriving DecidableEq, Repr

/-- A duplicate-discard entry (R72). -/
structure DdEnt where
  smac : Nat
  seq : Nat
  sub : Bool                  -- of the subring's table
  delivered : Bool
  fwd : List Port
  deriving DecidableEq, Repr

/-- Ring, discovery and coupling state (spec/03). -/
structure RingSt where
  signal : List Port          -- receivers that detect a signal
  hsrSeq : Nat                -- the hub's HSR sequence counter (R70)
  dd : List DdEnt             -- oldest first
  proxies : List (Nat × Port) -- proxied MAC addresses (R74)
  arrivals : List (Nat × Port)   -- arrival ports recorded against source MAC addresses (R71)
  nt : Tab NodeEnt
  st : Tab NodeEnt
  chg : List ChgRec           -- oldest first
  rb : Tab (Word × Word)      -- active re-basing entries: PATH and CTL (R99)
  verOld : Option Nat         -- the version set in force until the next ANNOUNCE, while KVL.VER.EN has been written (R86)
  helloOld : Option Nat       -- the same until the next HELLO
  deriving DecidableEq, Repr

/-- Interrupt aggregation (spec/02). -/
structure IntrSt where
  fieldPend : List Nat        -- field pages whose last reported state is pending (R61)
  vec : DWord                 -- level of each MSI-X vector
  pba : DWord                 -- pending bits of held vectors (R213)
  intN : List Bool            -- INT_N[1:0] asserted
  core : Bool
  fabric : Bool
  deriving DecidableEq, Repr

/-- A mirror record (R368): MSN, KIND, WAIT, KEY, SEQ, body. -/
structure MirRec where
  msn : Nat
  kind : Nat
  wait : Bool
  key : Nat
  seq : Nat
  body : List Byte
  deriving DecidableEq, Repr

/-- A record that the standby holds as open for a pair flow (R369, KIND 1). -/
structure MirOpen where
  flow : Nat
  seq : Nat
  req : ReqRec
  deriving DecidableEq, Repr

/-- A record of a pair context that is in execution at the holder (R369, KIND 3). -/
structure MirIntent where
  ctx : Nat
  seq : Nat
  op : Nat
  off : Nat
  deriving DecidableEq, Repr

/-- A register write that waits for its REG record (R369, KIND 6). -/
structure RegWait where
  msn : Nat
  who : Agent
  page : Nat
  off : Nat
  bytes : List Byte
  meet : RegMeet              -- the hardware event that meets the write when it takes effect (R9)
  deriving DecidableEq, Repr

/-- A request for the lease as the witness keeps it (R365, R366). -/
structure WitReq where
  mac : Nat
  route : DWord
  synced : Bool
  warm : Bool
  reqId : Nat
  leaseMs : Nat
  since : Nat                 -- watch count when it was received
  deriving DecidableEq, Repr

/-- A witness slot (R366). -/
structure WitSlot where
  pairMac : Nat
  pairNode : Nat
  holder : Nat                -- MAC of the holder or last holder
  epoch : Nat
  sync : Bool
  held : Bool                 -- the lease runs
  ends : Nat                  -- watch count at which it ends
  pend : Option WitReq
  deriving DecidableEq, Repr

/-- The redundant pair beside its registers (spec/15). -/
structure PairSt where
  nextMsn : Nat               -- the next mirror sequence number of this holder (R368)
  mirOut : List MirRec        -- records that no MIRROR frame has carried yet, oldest first
  waitAt : List (Nat × Nat)   -- WAIT records without an ACK_MSN: MSN and watch count when they joined (R370)
  hsr : Nat                   -- the pair-MAC HSR counter (R356)
  aloneWait : Bool            -- acceptances and executions wait for RENEW with ALONE (R371)
  reqId : Nat                 -- REQ_ID of the latest request (R365)
  reqAt : Nat                 -- watch count when it was sent
  reqAlone : Bool             -- it was a RENEW with ALONE
  rightW : Nat                -- watch count at which the right from the witness ends (R360)
  rightC : Nat                -- watch count at which the right from consent ends
  consentId : Nat             -- the latest consent request, and when it was sent (R361)
  consentAt : Nat
  promise : Option Nat        -- watch count at which this standby's promise ends
  consentOwe : Option Nat     -- a CONSENT for the next MIRROR frame
  handReq : Bool              -- HANDOVER_REQ for the next MIRROR frame (R380)
  pfw : Bool                  -- PFW for the next MIRROR frame (R381)
  partnerRole : Nat           -- the partner's ROLE as last reported; 7 while it is absent
  partnerMac : Nat            -- as its HELLO and MIRROR frames show it; 0 before the first
  partnerNode : Nat
  holder : Nat                -- who holds the pair node: 0 nobody yet, 1 this unit, 2 the partner (R359)
  lastRx : Nat                -- watch count at the last MIRROR frame
  wasSync : Bool              -- IN_SYNC when the mirror link was lost (R358)
  cold : Bool                 -- the last start was a cold start (R358)
  logNext : Nat               -- the next MSN the standby logs (R368)
  copyEnd : Nat               -- the last MSN of the copy in progress (R371)
  mOpen : List MirOpen        -- the standby's mirrored state (R369)
  mNext : Tab Nat             -- the number after the last ACCEPT, by flow
  mCtx : Tab TCtx
  mIntent : List MirIntent
  mTokens : Tab Nat           -- by entry: headgates from 0 on, sluices from 1024 on
  mBegun : List Nat           -- endpoints of which a word has been marked begun since the last copy (R374)
  mHsr : Nat                  -- the holder's pair-MAC HSR counter as last mirrored
  mSent : Tab (List Byte)     -- the field state last sent, by endpoint (R369, KIND 7)
  regWait : List RegWait
  logWaits : List Nat         -- pair contexts whose INTENT waits for log room (R372)
  proving : Bool              -- proving runs (R383)
  proveAt : Nat               -- watch count at the last proving
  proveBad : Bool             -- the last proving failed
  slots : Tab WitSlot         -- the witness's slots (R366)
  startHold : Bool            -- the witness's start hold runs
  deriving DecidableEq, Repr

/-- An entry of a TX stamp queue (R229). -/
structure TsqEnt where
  id : Nat
  notSent : Bool
  stamp : Nat
  deriving DecidableEq, Repr

/-- An entry of the residence table (R225): what identifies the Sync, and the stored correction in 1/16 ns. -/
structure ResEnt where
  portId : Nat                -- sourcePortIdentity, 80 bits
  seqId : Nat
  domain : Nat
  egress : Port
  corr : Int
  deriving DecidableEq, Repr

/-- A committed trigger program (R237). -/
structure TrigProg where
  mode : Nat
  t0 : Nat                    -- START as total nanoseconds of local time
  phase : Nat                 -- START_NS
  period : Nat                -- PERIOD_NS; N in RATE mode
  frac : Nat
  count : Nat
  pol : Bool
  lateSkip : Bool
  canEn : Bool
  canPort : Nat
  width : Nat
  deriving DecidableEq, Repr

/-- A trigger as the field die runs it. -/
structure Trig where
  prog : TrigProg
  k : Nat                     -- the next edge
  used : Nat                  -- edges fired or missed
  armed : Bool
  pulse : Bool                -- a pulse is in progress
  deriving DecidableEq, Repr

/-- A capture entry (R242). -/
structure CapEnt where
  rising : Bool
  unsync : Bool
  stamp : Nat
  deriving DecidableEq, Repr

/-- Time (spec/08): counts in units of 2^-8 × 10^-9 ns, which are exact under R216. -/
structure TimeSt where
  acc : Nat                   -- local time
  mono : Nat                  -- the monotonic count (R217)
  facc : Nat                  -- the field die's copy (R236)
  ffreq : Int                 -- FREQ as the field die last received it
  fslew : Int                 -- correction still to be slewed into the copy, in units of acc
  fslewNs : Nat               -- nanoseconds over which it is slewed
  good : Nat                  -- consecutive samples within LOCK_NS (R232)
  tsq : Tab (List TsqEnt)     -- by port 0 to 3, oldest first
  resid : List ResEnt         -- oldest first
  ppsLast : Option Nat        -- mono at the last accepted PPS_IN edge
  ppsEnd : Option Nat         -- PPS_OUT is high, until mono reaches this (R235)
  syncWas : Bool              -- FIELD_SYNC as the last step left it
  syncLog : List (Nat × Bool) -- its changes of the last 10 µs, oldest first: watch count, and the value before (R236)
  trig : Tab Trig             -- by trigger, on the field die
  cap : Tab (List CapEnt)     -- capture FIFOs, oldest first
  capLast : Tab Nat           -- facc at the last stamped edge of a capture, on the field die
  deriving DecidableEq, Repr

/-- Who asked for an access that the field die executes (R250). -/
inductive ExecOrg where
  | ofCtx (ctx seq : Nat)     -- a record of a target context
  | acc (who : Agent) (id : Nat)   -- a register access that is no fabric transaction
  | pendRead                  -- a read of IRQ_PEND after training (R62)
  deriving DecidableEq, Repr

/-- A request record to execute at a field-die target (R249). -/
structure Exec where
  id : Nat
  org : ExecOrg
  op : Nat
  spec : Bool
  off : Nat
  len : Nat
  data : List Byte
  meet : RegMeet              -- the hardware event that meets the write where it is executed (R9)
  full : Bool                 -- a broadcast EVENT that waits for FIFO room at the field die (R101)
  deriving DecidableEq, Repr

/-- A record of the field die for the ring die (R249, R254). -/
inductive FieldRec where
  | soe (rec : List Byte)                 -- bytes 0 to 27 of a sequence-of-events record
  | can (port : Nat) (entry : List Byte)  -- bytes 0 to 87 of a CAN receive entry
  | cap (c : Nat) (e : CapEnt)
  | loss (kind : Nat)                     -- the LOSS flag of one record type (version 1)
  deriving DecidableEq, Repr

/-- What a CFG item copies to the field die (R249). -/
inductive CfgCopy where
  | bounds (field symbol : Nat)           -- the FIELD bound of R28 and the SYMBOL bound of R262
  | trig (t : Nat) (p : TrigProg)         -- a trigger commit (R238)
  | tags (held : List Nat)                -- field-stream tags still open (R280)
  | reg (page off : Nat) (value : Nat)    -- a field-die setting that a drawer or the ring die gives
  deriving DecidableEq, Repr

/-- An item of the culvert (R249). -/
inductive Item where
  | exec (e : Exec)
  | cfg (id : Nat) (c : CfgCopy)
  | offer (tag gen : Nat) (t : TxnReq)
  | done (id status cause : Nat) (data : List Byte)
  | accept (tag gen : Nat)
  | cpl (tag gen status cause : Nat)
  | pend (seq page : Nat) (pending : Bool)
  | record (seq : Nat) (r : FieldRec)
  | permit (ticks : Nat)
  | mark (x t1 : Nat)
  | markReply (x t1 t2 t3 : Nat)
  | freq (f : Int)
  | step (ns : Int)
  | keep
  deriving DecidableEq, Repr

/-- A field-stream push that is accepted, or refused and unanswered, on the ring die (R279). -/
structure OfferEnt where
  tag : Nat
  gen : Nat
  init : Nat
  taken : Bool                -- accepted (R109 step 9)
  deriving DecidableEq, Repr

/-- The culvert (spec/09). `ring` queues lead to the field die, `field` queues to the ring die. -/
structure CulSt where
  ringW : List Item           -- items that wait for a credit or for the culvert, oldest first
  ringS : List Item           -- items sent, standing in the field die's slots
  fieldW : List Item
  fieldS : List Item
  fieldCred : List Nat        -- the field die's send credits, by VC
  ringFreed : List Nat        -- ring-die slots emptied and not yet returned, by VC
  fieldFreed : List Nat       -- field-die slots emptied and not yet returned, by VC
  execId : Nat                -- the next ITEM_ID of an EXEC
  execs : List Exec           -- EXECs sent, without a DONE
  evtSeq : Nat                -- the next EVT sequence number of the field die
  evtUncred : List Item       -- EVT items sent by the field die without a credit back
  evtSeen : Nat               -- the next EVT sequence number the ring die expects
  markX : Nat                 -- the next exchange number
  markGood : Nat              -- consecutive exchanges within ±4 ns (R260)
  stepWait : Nat              -- STEP items the field die has not yet applied
  attempt : Nat               -- training attempts of this training
  rspWait : Bool              -- CUL waits for DONEs before a reset (R263)
  permit : Nat                -- watch ticks the running permit was sent with; 0 none runs
  permitLive : Bool           -- field outputs are driven as configured (R258)
  ringLost : Bool             -- the field die holds the ring die lost (R262)
  fieldBound : Nat            -- the FIELD bound the field die last received (R28)
  symBound : Nat              -- the SYMBOL bound the field die last received (R262)
  offers : List OfferEnt      -- pushes known to the ring die
  refusedEp : List (Nat × Nat × Nat)   -- initiators whose pushes the ring die refuses until EN is set again, with status and cause (R279)
  accId : Nat                 -- the next identifier of a register access on its way
  downAt : Nat                -- watch count when the culvert last left UP (R382)
  fpend : List Nat            -- field pages whose pending state was last reported 1
  deriving DecidableEq, Repr

/-- An outbound window as committed (R190, R191). -/
structure ObWin where
  en : Bool
  lane : Nat
  unit : Nat                  -- bytes of a lane unit
  prefetch : Nat
  split : Bool
  order : Bool
  sizeLog2 : Nat
  flow : Nat
  host : Nat
  fab : Nat
  timeout : Nat
  pfLife : Nat
  deriving DecidableEq, Repr

/-- An inbound window as committed (R209). -/
structure IbWin where
  en : Bool
  wrEn : Bool
  rdEn : Bool
  ns : Bool
  ro : Bool
  sizeLog2 : Nat
  fab : Nat
  host : Nat
  deriving DecidableEq, Repr

/-- A piece of a host request (R195): a fabric range, and the host byte each fabric byte belongs to. -/
structure Piece where
  addr : Nat
  len : Nat
  data : List Byte
  host : List Nat
  deriving DecidableEq, Repr

/-- What a bridge transaction is for. -/
inductive BrgUse where
  | write (wid : Nat)         -- a piece of posted write wid
  | read (rid idx : Nat)      -- piece idx of host read rid
  | spec (start : Nat)        -- the SPEC READ of the held part that starts there
  | wait (rid : Nat)          -- the place of host read rid, which waits for an open line (R197, R206)
  deriving DecidableEq, Repr

/-- A transaction the bridge has not yet been able to offer (R197, R200). -/
structure BrgOffer where
  use : BrgUse
  win : Nat
  addr : Nat
  len : Nat
  data : List Byte
  deriving DecidableEq, Repr

/-- A transaction of the bridge that holds a tag. -/
structure BrgOpen where
  tag : Nat
  use : BrgUse
  win : Nat
  addr : Nat
  len : Nat
  accepted : Bool
  deriving DecidableEq, Repr

/-- A posted write in the bridge (R196): its data credits, pieces not yet accepted, pieces not yet closed. -/
structure HostWr where
  wid : Nat
  win : Nat
  units : Nat                 -- posted data credits that its TLP took, 16 bytes each (R185)
  unaccepted : Nat
  unclosed : Nat
  deriving DecidableEq, Repr

/-- How a piece of a host read has closed. -/
structure RdDone where
  status : Nat
  cause : Nat
  data : List Byte
  tag : Nat
  deriving DecidableEq, Repr

/-- A host read (R201, R202). -/
structure HostRd where
  rid : Nat
  ptag : Nat                  -- the tag of the host's request
  win : Nat
  off : Nat                   -- BAR2 offset of its first byte
  len : Nat
  pieces : List Piece
  done : Tab RdDone
  sent : Bool                 -- its pieces have been offered; otherwise it waits for an open line (R206)
  lines : List Nat            -- starts of the open parts that it waits for
  needWr : List Nat           -- writes that must complete first (R197, R198)
  flush : Bool
  abandoned : Bool
  deriving DecidableEq, Repr

/-- A part of a line that the bridge has read ahead (R205 to R207). -/
structure PfPart where
  win : Nat
  start : Nat                 -- global address
  len : Nat
  tag : Nat
  isOpen : Bool
  dropped : Bool              -- discarded while its SPEC READ was open
  status : Nat
  effectful : Bool
  unknown : Bool
  data : List Byte
  given : List Nat            -- offsets already delivered
  deriving DecidableEq, Repr

/-- A record of BRG.ERRLOG (R215). -/
structure ErrRec where
  status : Nat
  cause : Nat
  kind : Nat
  discarded : Bool
  win : Nat
  addr : Nat
  len : Nat
  tag : Nat
  deriving DecidableEq, Repr

/-- A record of BRG.SPECLOSS (R215). -/
structure LossRec where
  win : Nat
  unknown : Bool
  firstUnused : Nat
  tag : Nat
  addr : Nat
  deriving DecidableEq, Repr

/-- A memory TLP towards the host. -/
structure IbTlp where
  addr : Nat
  len : Nat
  data : List Byte
  deriving DecidableEq, Repr

/-- A memory read TLP that waits for its completions. -/
structure IbRd where
  tag : Nat
  place : Nat                 -- where its data belongs in the transaction's
  len : Nat
  got : List Byte
  deriving DecidableEq, Repr

/-- A fabric transaction in an inbound window (R210). -/
structure IbTxn where
  ctx : Nat
  op : Nat
  win : Nat
  todo : List IbTlp           -- TLPs not yet issued
  begun : Bool
  reads : List IbRd
  data : Tab Byte             -- read data by place
  total : Nat
  attr : Nat                  -- attributes of its TLPs: bit 0 No Snoop, bit 1 Relaxed Ordering
  deriving DecidableEq, Repr

/-- A host access to BAR0 that waits for those before it (R189). -/
structure BarAcc where
  id : Nat
  isWrite : Bool
  off : Nat
  len : Nat
  data : List Byte
  meet : RegMeet
  deriving DecidableEq, Repr

/-- The host bridge beside its registers (spec/07). -/
structure BridgeSt where
  ob : Tab ObWin
  ib : Tab IbWin
  nextId : Nat
  offers : List BrgOffer      -- oldest first
  opens : List BrgOpen
  writes : List HostWr
  reads : List HostRd
  parts : List PfPart
  errlog : List ErrRec
  loss : List LossRec
  ibTxns : List IbTxn
  phCred : Nat                -- posted header credits of the host
  pdCred : Nat                -- posted data credits, 16 bytes each
  nhCred : Nat                -- non-posted header credits
  msix : Tab Word             -- the MSI-X table by 4 × entry + word; an unlisted vector control is masked
  linkCfg : Word              -- BRG.LINK_CFG as the link last took it (R188)
  perst : Bool                -- the level of PCIE_PERST_N is low (R471)
  accs : Tab Nat              -- BAR0 reads on their way to the field die: identifier to host tag
  barQ : List BarAcc          -- BAR0 accesses that wait, in the order of their TLPs (R189)
  bars : Tab Word             -- base address registers as the host last wrote them, by number 0 to 5 (R187)
  deriving DecidableEq, Repr

/-- A closed receive word, or a transmit word (R272, R275): its VALID bytes, LAST and GAP. -/
structure FWord where
  data : List Byte
  last : Bool
  gap : Bool
  deriving DecidableEq, Repr

/-- The packing FIFOs of an endpoint (R272 to R279): endpoint n is SERn, endpoint 32 + n is BENn (R47). -/
structure FifoSt where
  rx : List FWord             -- closed words, oldest first
  opened : List Byte          -- bytes of the open word
  openGap : Bool              -- the open word carries GAP
  sealed : Option FWord       -- a sealed word that waits to enter
  gapNext : Bool              -- the next word opened carries GAP
  fc : Bool                   -- the flow-control signal is asserted
  tx : List FWord             -- transmit words, oldest first
  txTaken : Nat               -- bytes of the oldest transmit word already taken
  txGapNext : Bool            -- the next word pushed carries GAP
  posForm : Nat               -- where the next WRITE push is formed
  pushGap : Bool              -- the first word of the next push carries GAP
  holdOver : Bool             -- the oldest word not yet taken has waited HOLD
  txMsn : Option Nat          -- the TX_BEGIN record of the oldest transmit word not yet begun (R374)
  deriving DecidableEq, Repr

/-- A push of a FIFO endpoint that holds a field-stream tag (R278 to R280). -/
structure Push where
  ep : Nat
  tag : Nat
  gen : Nat
  words : Nat                 -- closed words at the head of the FIFO that it has taken and not yet removed
  pos : Nat                   -- where it is written in its region
  req : TxnReq
  accepted : Bool
  orphan : Bool               -- its words are gone by a reset; the tag stays busy until its CPL item (R280)
  deriving DecidableEq, Repr

/-- Where a serial transmission stands (R269). -/
inductive TxPhase where
  | idle
  | lead                      -- DE is asserted, LEAD runs
  | active
  | lag                       -- the transmission has ended, LAG runs
  deriving DecidableEq, Repr

/-- A serial port beside its registers and FIFOs (R269 to R277). -/
structure SerSt where
  phase : TxPhase
  inChar : Option Bool        -- a character is being sent; true: it ends a word with LAST
  breakReq : Bool             -- a break waits for the character in progress
  breaking : Bool             -- a break is being sent
  breakLast : Bool            -- that break follows the last character of a transmission, which ends with it
  idleArmed : Bool            -- IDLE fires at the next expiry (R271)
  msgStart : Option (Nat × Bool)   -- start edge of the first character stored since the last LAST, and UNSYNC (R277)
  charEnd : Nat × Bool        -- end of the last stop bit received, and UNSYNC
  markFrom : Option Nat       -- since when the receiver of a port just enabled waits for a frame length of mark, in ns (R268)
  deriving DecidableEq, Repr

/-- A bench beside its registers and FIFOs (R283 to R301). -/
structure BenSt where
  heldEntry : Word            -- the entry of the stall (R289)
  heldSin : Bool
  divisor : Nat               -- the divisor last loaded (R283)
  slots : Nat                 -- output slots as the table set them
  table : Tab Word            -- table entries; an unlisted entry holds 0
  badParity : List Nat        -- entries whose parity is bad (R294)
  afterFifo : List Nat        -- STATE, SR, COUNT, slots and divisor after the last FIFO action (R369)
  deriving DecidableEq, Repr

/-- A discrete input beside its registers (R346 to R349). -/
structure DiSt where
  filt : Bool                 -- output of the glitch filter
  deb : Bool                  -- output of the debounce stage; the accepted level while the pin is not locked
  stamp : Option (Nat × Nat × Bool)   -- long stamp, whole nanoseconds and UNSYNC of the edge that left the accepted level
  bounces : Nat
  inWindow : Nat              -- accepted changes within the chatter window
  started : Bool              -- the first debounce since the reset has ended
  initial : Bool              -- the INITIAL record has been given, or is not owed
  deriving DecidableEq, Repr

/-- What a CAN port sends (R313, R320). -/
inductive CanTx where
  | buffer (b : Nat)
  | ref
  deriving DecidableEq, Repr

/-- A CAN controller beside its registers (spec/12). -/
structure CanSt where
  sof : Nat × Bool            -- long stamp of the last SOF, and UNSYNC
  cur : Option CanTx          -- the frame of this port on the bus
  refCycle : Nat              -- the cycle count in the reference message on the bus
  ending : Bool               -- the port was reset with its frame on the bus, which ends first (R323)
  entered : Bool              -- a trigger edge has come since the reset: later edges advance the cycle count
  refStarted : Bool           -- a reference message has started in this cycle (R321)
  sched : List Word           -- the schedule as taken at the last cycle start (R322)
  windows : List Nat          -- open windows whose buffer has not started, by entry
  lost : Nat                  -- frames lost on the field die since its last entry
  ringLost : Nat              -- frames lost at the ring since its last entry
  deriving DecidableEq, Repr

/-- The field blocks (spec/10 to spec/14). -/
structure FieldSt where
  fifo : Tab FifoSt
  ser : Tab SerSt
  ben : Tab BenSt
  pushes : List Push          -- oldest first
  tagGen : Tab Nat            -- the generation each field-stream tag was last used with
  crcBench : Nat              -- the bench whose table is checked (R301)
  can : Tab CanSt
  di : Tab DiSt
  drive : Tab (Option Bool)   -- what each output ball is driven with
  soeLost : Nat               -- SOE records lost on the field die since its last record
  soeRingLost : Nat           -- SOE records lost at the ring since its last record
  permitSeen : Bool           -- a permit has come since the last culvert training after a reset (R354)
  deriving DecidableEq, Repr


/-- A response block of the service function (R333). -/
structure UsbResp where
  tag : Nat
  status : Nat
  cause : Nat
  orphan : Bool
  seq : Nat
  data : List Byte
  deriving DecidableEq, Repr

/-- A transaction of the service function that the fabric has accepted. -/
structure UsbOpen where
  tag : Nat
  seq : Nat
  orphan : Bool
  discard : Bool              -- its response block is discarded (R329)
  deriving DecidableEq, Repr

/-- An OUT transfer in the buffer: the bytes not yet taken, and whether it has ended (R331). -/
structure UsbXfer where
  bytes : List Byte
  ended : Bool
  deriving DecidableEq, Repr

/-- The USB hub and the service function beside their registers (spec/13). -/
structure UsbSt where
  ready : Bool                -- start-up has completed: the hub may attach (R342)
  hubCfg : Bool               -- the hub is configured by the host
  xfers : List UsbXfer        -- oldest first
  inHand : Option Nat         -- the host tag of a block taken and not yet accepted
  opens : List UsbOpen
  resp : List UsbResp         -- blocks that wait, in order of closure
  inFlight : Option (List Byte × Bool)   -- the last packet of 0x81 without an ACK; true: a response block
  report : List Nat           -- the fields of the last state report (R335)
  repFlight : Option (List Byte)
  repSeq : Nat
  togOut : Bool               -- the toggles of 0x01, 0x81 and 0x82: true is DATA1
  togIn : Bool
  togRep : Bool
  ctrl : Option (List Byte)   -- the SETUP of an unfinished control transfer of the function
  woken : Bool                -- a remote wakeup has been signalled in this suspend
  suspAt : Nat                -- when the function was last suspended, in ns (R339)
  ackDue : Bool               -- the last packet of 0x81 may still be acknowledged
  repDue : Bool               -- the same of 0x82
  hubWake : Bool              -- the host has enabled the hub's remote wakeup (R325)
  deriving DecidableEq, Repr


/-- The VIN domain beside its registers (spec/16). -/
structure PwrSt where
  run : Bool                  -- the VIN domain runs (R387)
  gate : Bool                 -- the gate is driven
  lim : Bool                  -- the current is in limit
  cnt : Nat                   -- the fault timer count in ns as it stood at cntAt (R389)
  cntAt : Nat
  ov : Bool                   -- VIN is above OV
  tsd : Bool                  -- thermal shutdown is in force
  off : Bool                  -- a retry off-time runs
  offNs : Nat                 -- its length (R391)
  retryDue : Bool             -- the next ramp start uses one retry
  latched : Bool
  low : Bool                  -- VIN is below THRESH: a cause of PFW
  timer : Bool                -- a fault timer run that started at 0 is in hand: a cause of PFW
  dsOff : Bool                -- DS_SHORT with DS_RUN 0 keeps the gate off (R394)
  otp : Option (Word × Word × Word × Word)   -- burnt CFG, VIN, PFW, TIMING (R387)
  scans : List Nat            -- consecutive scans of each channel on the other side of its window (R403)
  hotRing : Bool              -- the last scan found the ring die at 150 °C or above
  hotField : Bool             -- the same of the field die
  vinScans : Nat              -- consecutive scans with VIN at or above HOLDUP.MIN_V (R401)
  warn : Bool                 -- the internal power-fail warning as the ring die last saw it (R19)
  deriving DecidableEq, Repr

/-- A record of the fault log (R450). -/
structure FaultRec where
  kind : Nat
  injected : Bool
  cls : Nat
  page : Nat
  stamp : Nat
  sec : Nat
  detail : Nat
  deriving DecidableEq, Repr

/-- Self-test and test access beside their registers (spec/19). -/
structure TestSt where
  flog : List FaultRec        -- oldest first, in retention memory (R449)
  pass : Option Bool          -- an online pass runs; true: proving started it (R443)
  offline : Bool              -- an offline test runs
  offFail : List Nat          -- dies whose OFFLINE_FAIL record is written after the restart (R448)
  goAt : Option Nat           -- watch count of the last refused GO (R456)
  passAt : Nat                -- watch count at which the pass in hand, or the last one, started
  unlockAt : Nat              -- watch count at which test unlock was set (R451)
  chal : Nat                  -- the first of the two free values that PRT.CHAL shows, by its number (R456)
  pert : Tab Nat              -- units emitted since the last spoiled one, by page (R452)
  devKey : Nat                -- the secrets of the chest's secret area (R459): device key generation, 0 when zeroised
  ownerKey : Option (List Byte)
  ownerBad : Bool             -- both copies of the owner key fail: enrolled but unusable (R459)
  pairKeys : Bool
  scanCut : Bool              -- TEST has fallen during this ZEROISING (R458)
  badCells : List (Nat × Bool)   -- buffer cells whose ECC was spoiled as they were written; true: uncorrectably (R452)
  badWords : List (Nat × Bool)   -- 64-bit words of journal memory, by journal byte / 8, likewise
  deriving DecidableEq, Repr

/-- Flow state as journal memory or the checkpoint keeps it through a reset (R126, R127). -/
structure FlowImg where
  flows : Tab IFlow
  ctxs : Tab TCtx
  log : List SeqLog
  regs : Tab Word             -- CFG and DST of contexts (R416), and the pointers that a pin reset recalls
  deriving DecidableEq, Repr

/-- A firmware commit record (R433). -/
structure Commit where
  seq : Nat
  slot : Nat
  trial : Bool
  started : Bool
  ownerLock : Bool
  prev : Nat
  secCnt : Nat
  slotSec : Nat
  slotVer : Nat
  deriving DecidableEq, Repr

/-- What a drawer asks of a switch in hand (R417). -/
structure SwitchJob where
  drawer : Nat
  set : Nat
  fwu : Nat                   -- 0 none, 1 an activation (R434), 2 a fallback (R437)
  flows : List Nat            -- flows held until their OPEN_COUNT is 0
  benches : List Nat          -- benches stopped for it
  sent : Option (Nat × List (Nat × Nat × Word)) := none   -- the REG records sent before the commit: the last MSN and their values (R420)
  deriving DecidableEq, Repr

/-- Start-up, reset, drawers and the chest beside their registers (spec/17). -/
structure StartSt where
  inReset : Bool              -- RESET_N is low, or the board is without power
  service : Bool              -- start-up or the warm reset has reached service (R409, R410)
  job : Option SwitchJob      -- the switch in hand
  saveTo : Nat                -- the drawer a SAVE writes
  drawers : List Host.Cell    -- chest bytes of drawer sets A and B, from chest byte 0x20_0000 on
  epoch : Nat                 -- the newest valid epoch record
  colds : Nat                 -- cold starts over the device's life
  limits : Tab Nat            -- the SEQ_LIMIT log: SEQ_LIMIT by flow (R128)
  slots : Tab (Nat × OpenRec)    -- acceptance slots in use, by slot: flow and DURABLE record (R110)
  slotUse : List Nat          -- acceptance slots ever written, least recently used first (R110, R424)
  pairEpochs : Nat            -- the pair epoch held in the chest (R358)
  ckpt : Option FlowImg       -- the checkpoint; CHS.STAT.CKPT says whether it is complete
  journal : Option FlowImg    -- what journal memory keeps while RESET_N is low
  commits : List Commit       -- valid firmware commit records, oldest first
  usAt : Nat                  -- watch count at step 3 of this start
  keepFlw : Tab Word          -- FLW registers that keep recalled values while their flow has open records, with the drawer's (R416)
  deriving DecidableEq, Repr

/-- A verified manifest slot (R425, R430). -/
structure Slot where
  bytes : List Byte           -- the payload
  valid : Bool                -- staging ended: block 0 is written
  staged : Bool               -- it has not been activated since
  deriving DecidableEq, Repr

/-- Firmware update beside its registers (spec/18). -/
structure FwuSt where
  slots : List Slot           -- slots 0 and 1
  push : List Byte            -- bytes pushed so far
  approved : Bool             -- the host has approved this trial
  hitless : Bool              -- the trial began with a hitless activation
  soakBad : Bool              -- a fallback switch was abandoned and waits for its retry (R437)
  revoked : Bool              -- OTP: key 0 is revoked
  job : Nat                   -- 0 none, 1 staging from the journal, 2 from push, 3 activation
  trialAt : Nat               -- watch count at the start of the confirm window (R436)
  nonce : Nat                 -- the free value that FWU.NONCE shows, by its number (R439)
  deriving DecidableEq, Repr


/-- The state of the hub. -/
structure State where
  pending : List Instr          -- commands that wait, first in, first out
  out : List Out                -- outputs of the last command (the model's own)
  fresh : Nat                   -- how many free values have been drawn (the model's own)
  regs : Tab Word               -- registers that differ, or have differed, from their reset value
  frozen : Tab Word             -- the snapshots of R56
  dev : Device
  intr : IntrSt
  ring : RingSt
  seq : SeqSt
  sw : SwitchSt
  meter : MeterSt
  pair : PairSt
  time : TimeSt
  cul : CulSt
  brg : BridgeSt
  fld : FieldSt
  usb : UsbSt
  pwr : PwrSt
  start : StartSt
  fwu : FwuSt
  test : TestSt
  jmem : List Host.Cell         -- journal memory, by journal byte
  watchNs : Nat                 -- watch oscillator count, in nanoseconds of nominal time (R12, R152)
  deriving DecidableEq, Repr

/-- The hub right after a cold reset: RESET_N has risen at power-up, start-up is at step 4 (R409), the VIN domain has asserted PG, and
the chest is as manufacture leaves it. Registers stand at their reset values; the entries listed are Live fields (log entries 2, 3). -/
def State.reset : State :=
  { pending := [], out := [], fresh := 3
    -- INT.STAT.FIELD_STALE 1; PWR.STAT: ON, PG, ENHANCED, BOOT, RETRIES_LEFT 255, GATE_CYCLED; RST.STAT.STEP 4; RST.CAUSE.PIN 1; TMK.STAT.REF_OK 1
    regs := [(1040, 1#32), (2069, 133955786#32), (4112, 4#32), (4113, 2#32), (34833, 1#32)]
    frozen := []
    dev := { grade := 0, ringRev := 3, fieldRev := 2, mac := 0x020000000001, vendor := 0, serial := 1 }
    intr := { fieldPend := [], vec := 0#64, pba := 0#64, intN := [false, false], core := false, fabric := false }
    ring := { signal := [], hsrSeq := 0, dd := [], proxies := [], arrivals := [], nt := [], st := [], chg := [], rb := [], verOld := none, helloOld := none }
    seq := {
      flows := [], ctxs := [], tags := [], tagWait := [], log := [], closings := [], accepted := [], bcast := [], cplOut := []
      answers := [], runQ := [], running := false }
    sw := {
      frames := [], link := [], queues := [], onWire := [], localQ := [], ownWait := [], tcWire := [], walk := [], lost := [], cur := [], fresh := []
      deficit := [], retired := [] }
    meter := { rem := [], hdgRate := [], waits := [] }
    pair := {
      nextMsn := 1, mirOut := [], waitAt := [], hsr := 0, aloneWait := false, reqId := 0, reqAt := 0, reqAlone := false
      rightW := 0, rightC := 0, consentId := 0, consentAt := 0, promise := none, consentOwe := none, handReq := false
      pfw := false, partnerRole := 7, partnerMac := 0, partnerNode := 0, holder := 0, lastRx := 0, wasSync := false
      cold := true, logNext := 0, copyEnd := 0, mOpen := [], mNext := [], mCtx := [], mIntent := [], mTokens := []
      mBegun := [], mHsr := 0, mSent := [], regWait := [], logWaits := [], proving := false, proveAt := 0, proveBad := false, slots := []
      startHold := true }
    time := {
      acc := 0, mono := 0, facc := 0, ffreq := 0, fslew := 0, fslewNs := 0, good := 0, tsq := [], resid := []
      ppsLast := none, ppsEnd := none, syncWas := false, syncLog := [], trig := [], cap := [], capLast := [] }
    cul := {
      ringW := [], ringS := [], fieldW := [], fieldS := [], fieldCred := [0, 0, 0, 0], ringFreed := [0, 0, 0, 0]
      fieldFreed := [0, 0, 0, 0], execId := 0, execs := [], evtSeq := 0, evtUncred := [], evtSeen := 0, markX := 0
      markGood := 0, stepWait := 0, attempt := 0, rspWait := false, permit := 0, permitLive := false, ringLost := false
      fieldBound := 1600, symBound := 64, offers := [], refusedEp := [], accId := 0, downAt := 0, fpend := [] }
    brg := {
      ob := [], ib := [], nextId := 0, offers := [], opens := [], writes := [], reads := [], parts := [], errlog := []
      loss := [], ibTxns := [], phCred := 0, pdCred := 0, nhCred := 0, msix := [], linkCfg := 0x1E03#32, perst := false, accs := [], barQ := [], bars := [] }
    fld := {
      fifo := [], ser := [], ben := [], pushes := [], tagGen := [], crcBench := 0, can := [], di := [], drive := []
      soeLost := 0, soeRingLost := 0, permitSeen := false }
    usb := {
      ready := false, hubCfg := false, xfers := [], inHand := none, opens := [], resp := [], inFlight := none, report := []
      repFlight := none, repSeq := 0, togOut := false, togIn := false, togRep := false, ctrl := none, woken := false, suspAt := 0, ackDue := false, repDue := false, hubWake := false }
    pwr := {
      run := true, gate := true, lim := false, cnt := 0, cntAt := 0, ov := false, tsd := false, off := false, offNs := 0
      retryDue := false, latched := false, low := false, timer := false, dsOff := false, otp := none, scans := []
      hotRing := false, hotField := false, vinScans := 0, warn := false }
    start := {
      inReset := false, service := false, job := none, saveTo := 0, drawers := [], epoch := 0, colds := 0, limits := []
      slots := [], slotUse := [], pairEpochs := 0, ckpt := none, journal := none, commits := [], usAt := 0, keepFlw := [] }
    fwu := {
      slots := [⟨[], false, false⟩, ⟨[], false, false⟩], push := [], approved := false, hitless := false, soakBad := false
      revoked := false, job := 0, trialAt := 0, nonce := 0 }
    test := {
      flog := [], pass := none, offline := false, offFail := [], goAt := none, passAt := 0, unlockAt := 0, chal := 1
      pert := [], devKey := 1, ownerKey := none, ownerBad := false, pairKeys := false, scanCut := false, badCells := [], badWords := [] }
    jmem := [], watchNs := 0 }

/-- Why the block stops on a command. -/
inductive Fault where
  /-- No meaning of this model raises it: every stop the spec describes is a state of the hub. Safe. -/
  | none
  deriving DecidableEq, Repr

/-- Why a command has no meaning. -/
inductive Refusal where
  /-- A command not modelled yet, by its mnemonic; raised by the dispatch only. Safe. -/
  | notModelled (mnemonic : String)
  deriving DecidableEq, Repr

end Sys2Proof.Machine
end

