-- ==== Sys2Proof/Machine/Tab.lean ====
section
/-! DEFINITION. Sparse tables and memories: the one place where keys are looked up, put in order and removed. -/

namespace Sys2Proof.Machine

/-- The value at key `k`, if the table lists one. -/
def tabGet {α : Type} : Tab α → Nat → Option α
  | [], _ => none
  | (k', v) :: t, k => if k = k' then some v else tabGet t k

/-- The table with `v` at key `k`; keys stay strictly rising. -/
def tabSet {α : Type} : Tab α → Nat → α → Tab α
  | [], k, v => [(k, v)]
  | (k', v') :: t, k, v =>
    if k < k' then (k, v) :: (k', v') :: t
    else if k = k' then (k, v) :: t
    else (k', v') :: tabSet t k v

/-- The table without key `k`. -/
def tabDel {α : Type} : Tab α → Nat → Tab α
  | [], _ => []
  | (k', v') :: t, k => if k = k' then tabDel t k else (k', v') :: tabDel t k

/-- Keys are strictly rising from `lo` on. -/
def tabWfFrom {α : Type} : Nat → Tab α → Bool
  | _, [] => true
  | lo, (k, _) :: t => decide (lo ≤ k) && tabWfFrom (k + 1) t

/-- The canonical form of a table: keys strictly rising. -/
def tabWf {α : Type} (t : Tab α) : Bool := tabWfFrom 0 t

/-- What an unlisted byte of any memory reads as. -/
def memDefault : Byte := 0#8

/-- The byte at address `a`. -/
def memGet (m : List Host.Cell) (a : Nat) : Byte := (tabGet m a).getD memDefault

/-- The memory with byte `v` at address `a`; the byte an unlisted address reads as is not listed. -/
def memSet (m : List Host.Cell) (a : Nat) (v : Byte) : List Host.Cell :=
  if v = memDefault then tabDel m a else tabSet m a v

/-- The canonical form of a memory: addresses strictly rising, no entry equal to what an unlisted address reads as. -/
def memWf (m : List Host.Cell) : Bool := tabWf m && m.all (fun c => c.2 != memDefault)

/-- `n` bytes from address `a` on, lowest first. -/
def memRead (m : List Host.Cell) : Nat → Nat → List Byte
  | _, 0 => []
  | a, n + 1 => memGet m a :: memRead m (a + 1) n

/-- The memory with the bytes `bs` from address `a` on. -/
def memWrite (m : List Host.Cell) : Nat → List Byte → List Host.Cell
  | _, [] => m
  | a, b :: bs => memWrite (memSet m a b) (a + 1) bs

/-- The first element that `p` accepts, and the list without it. -/
def takeFirst {α : Type} (p : α → Bool) : List α → Option (α × List α)
  | [] => none
  | x :: xs => if p x then some (x, xs) else (takeFirst p xs).map fun r => (r.1, x :: r.2)

/-- The list with `f` applied to the elements that `p` accepts. -/
def mapIf {α : Type} (p : α → Bool) (f : α → α) (l : List α) : List α := l.map fun x => if p x then f x else x

/-- The list with the first element that `p` accepts replaced through `f`. -/
def updFirst {α : Type} (p : α → Bool) (f : α → α) : List α → List α
  | [] => []
  | x :: xs => if p x then f x :: xs else x :: updFirst p f xs

end Sys2Proof.Machine
end

