-- ==== Sys2Proof/Machine/Ops.lean ====
section
/-! DEFINITION. The named operations over registers (R7, R8, R10) and their counters, over ports and page states, and the
outputs and free values of a command. -/

namespace Sys2Proof.Machine

/-- The key of the register at byte offset `off` of page `p`. -/
def regKey (p off : Nat) : Nat := 1024 * p + off / 4

/-- Bits `lo` to `lo + w - 1` of a register value, as a number. -/
def wordBits (v : Word) (lo w : Nat) : Nat := (v.toNat / 2 ^ lo) % 2 ^ w

/-- The register value with bits `lo` to `lo + w - 1` set to `x` modulo `2 ^ w`. -/
def wordPut (v : Word) (lo w x : Nat) : Word :=
  let m : Word := BitVec.ofNat 32 ((2 ^ w - 1) * 2 ^ lo)
  (v &&& ~~~m) ||| (BitVec.ofNat 32 (x * 2 ^ lo) &&& m)

/-- The stored value of the register at `off` of page `p`: what was last put there, or its reset value. -/
def getW (s : State) (p off : Nat) : Word := (tabGet s.regs (regKey p off)).getD (resetWord p off)

/-- The state with `v` stored in the register at `off` of page `p`. -/
def setW (s : State) (p off : Nat) (v : Word) : State := { s with regs := tabSet s.regs (regKey p off) v }

/-- Instance `i` of field `f` in page `p`. -/
def getF (s : State) (p : Nat) (f : FieldD) (i : Nat := 0) : Nat :=
  wordBits (getW s p (f.off + f.stride * i)) f.lo f.w

/-- The state with instance `i` of field `f` in page `p` holding `v`. -/
def setF (s : State) (p : Nat) (f : FieldD) (v : Nat) (i : Nat := 0) : State :=
  setW s p (f.off + f.stride * i) (wordPut (getW s p (f.off + f.stride * i)) f.lo f.w v)

/-- A one-bit field read as a truth value. -/
def getB (s : State) (p : Nat) (f : FieldD) (i : Nat := 0) : Bool := getF s p f i != 0

/-- A one-bit field set from a truth value. -/
def setB (s : State) (p : Nat) (f : FieldD) (v : Bool) (i : Nat := 0) : State := setF s p f (if v then 1 else 0) i

/-- A counter gains `n` and wraps at 2^32. -/
def bump (s : State) (p : Nat) (f : FieldD) (n : Nat := 1) (i : Nat := 0) : State :=
  setF s p f (getF s p f i + n) i

/-- A counter gains `n` and saturates at 0xFFFF_FFFF. -/
def bumpSat (s : State) (p : Nat) (f : FieldD) (n : Nat := 1) (i : Nat := 0) : State :=
  setF s p f (min (getF s p f i + n) 0xFFFFFFFF) i

/-- A 64-bit number as two registers give it: low word, then high word. -/
def getW2 (s : State) (p lo hi : Nat) : Nat := (getW s p lo).toNat + (getW s p hi).toNat * 2 ^ 32

/-- The state with one more output. -/
def emit (s : State) (o : Out) : State := { s with out := s.out ++ [o] }

/-- A fresh free value of `w` bits, and the state past it. -/
def freshVal (s : State) (w : Nat) : Nat × State :=
  ((Config.freeValue s.fresh).toNat % 2 ^ w, { s with fresh := s.fresh + 1 })

/-- The switch core's index of a port (spec/05): 0 E, 1 W, 2 C1, 3 C2, 4 H, 5 F, 6 M. -/
def portIdx : Port → Nat
  | .e => 0 | .w => 1 | .c1 => 2 | .c2 => 3 | .h => 4 | .f => 5 | .m => 6

/-- The port with this index; indexes above 6 name M. -/
def portOf (i : Nat) : Port :=
  if i = 0 then .e else if i = 1 then .w else if i = 2 then .c1 else if i = 3 then .c2
  else if i = 4 then .h else if i = 5 then .f else .m

/-- The port is one of the four Ethernet ports. -/
def isEthPort : Port → Bool
  | .e => true | .w => true | .c1 => true | .c2 => true | .h => false | .f => false | .m => false

/-- The page of an Ethernet port. -/
def portPage (p : Port) : Nat := Pg.port (portIdx p)

/-- The block of page `p` takes new items (R54). -/
def pageEnabled (s : State) (p : Nat) : Bool := getB s p F.PAGE_CTL_ENABLE

/-- PAGE_STAT.STATE of page `p` as stored: 2 RESETTING, 3 HANG; otherwise the state follows ENABLE (R55). -/
def pageBusyState (s : State) (p : Nat) : Nat := getF s p F.PAGE_STAT_STATE

/-- PAGE_STAT.STATE of page `p` as read: 0 OFF, 1 RUN, 2 RESETTING, 3 HANG. -/
def pageState (s : State) (p : Nat) : Nat :=
  if pageBusyState s p = 2 then 2 else if pageBusyState s p = 3 then 3
  else if pageEnabled s p then 1 else 0

end Sys2Proof.Machine
end

