-- ==== Sys2Proof/Machine/Flags.lean ====
section
/-! DEFINITION. The flags: completion statuses (R14), cause codes (R58 and the page chapters), interrupt sources (R57) and the
error registers of a page (R58). -/

namespace Sys2Proof.Machine

/-! Completion statuses (R14). -/
namespace St
def ok : Nat := 0x00
def okLateAbort : Nat := 0x01
def addrErr : Nat := 0x10
def accessDenied : Nat := 0x11
def targetErr : Nat := 0x12
def specRefused : Nat := 0x13
def aged : Nat := 0x20
def unreachable : Nat := 0x21
def aborted : Nat := 0x22
def epochLost : Nat := 0x23
def hang : Nat := 0x24
def mirrorLost : Nat := 0x25
def notReady : Nat := 0x30
end St

/-! Cause codes that every page shares (spec/02). -/
namespace Cause
def range : Nat := 0x01
def locked : Nat := 0x02
def hang : Nat := 0x03
def disabled : Nat := 0x04
def resetting : Nat := 0x05
def address : Nat := 0x06
end Cause

/-- An event of interrupt source `bit` of page `p` (R57): IRQ_RAW is set, and IRQ_PEND with it where IRQ_EN is 1. -/
def irqEvent (s : State) (p bit : Nat) : State :=
  let m : Word := BitVec.ofNat 32 (2 ^ bit)
  let s1 := setW s p 0x10 (getW s p 0x10 ||| m)
  if getW s p 0x14 &&& m = 0#32 then s1 else setW s1 p 0x18 (getW s1 p 0x18 ||| m)

/-- A page records an error (R58): ERR_COUNT, IRQ_RAW.ERR, and ERR_FIRST while VALID is 0. -/
def recordErr (s : State) (p : Nat) (e : ErrNote) : State :=
  let s1 := irqEvent (bumpSat s p F.ERR_COUNT_COUNT) p 1
  if getB s p F.ERR_FIRST_VALID then s1
  else setW s1 p 0x1C (BitVec.ofNat 32 (e.status % 256 + 256 * (e.cause % 256) + 65536 * (e.reg % 1024) + 2 ^ 31))

/-- A page records an error with this status, cause and register (R58). -/
def noteErr (s : State) (p status cause reg : Nat) : State := recordErr s p ⟨status, cause, reg⟩

/-- An interrupt source that is a condition counts as an event while the condition holds (R57). -/
def irqWhile (s : State) (cond : Bool) (p bit : Nat) : State := if cond then irqEvent s p bit else s

end Sys2Proof.Machine
end

