-- ==== Sys2Proof/Machine/Operands.lean ====
section
/-! DEFINITION. The operand forms: bytes and words in both byte orders (R5), the global address (R39 to R41), route words (R81),
the node address map (R45 to R50), KVL headers (R80, R82), the record layouts of REQ and CPL bodies (R105, R106), and the CRCs. -/

namespace Sys2Proof.Machine

/-! ## Byte order (R5) -/

/-- `n` bytes of a number, most significant first. -/
def beBytes : Nat → Nat → List Byte
  | 0, _ => []
  | n + 1, v => BitVec.ofNat 8 (v / 2 ^ (8 * n)) :: beBytes n v

/-- The number that bytes spell, most significant first. -/
def beNat (bs : List Byte) : Nat := bs.foldl (fun a b => a * 256 + b.toNat) 0

/-- `n` bytes of a number, least significant first. -/
def leBytes : Nat → Nat → List Byte
  | 0, _ => []
  | n + 1, v => BitVec.ofNat 8 v :: leBytes n (v / 256)

/-- The number that bytes spell, least significant first. -/
def leNat : List Byte → Nat
  | [] => 0
  | b :: bs => b.toNat + 256 * leNat bs

/-- `n` bytes from offset `o` of a byte string, read most significant first; bytes past the end read 0. -/
def beAt (bs : List Byte) (o n : Nat) : Nat := beNat ((bs.drop o).take n)

/-- `n` bytes from offset `o`, read least significant first. -/
def leAt (bs : List Byte) (o n : Nat) : Nat := leNat ((bs.drop o).take n)

/-- `n` rounded up to a multiple of 4. -/
def up4 (n : Nat) : Nat := (n + 3) / 4 * 4

/-- A byte string padded with 0x00 to a multiple of 4. -/
def pad4 (bs : List Byte) : List Byte := bs ++ List.replicate (up4 bs.length - bs.length) 0#8

/-- A signed reading of `w` bits. -/
def toSigned (w v : Nat) : Int := if v % 2 ^ w < 2 ^ (w - 1) then (v % 2 ^ w : Nat) else (v % 2 ^ w : Nat) - (2 ^ w : Nat)

/-- The `w`-bit two's complement of an integer. -/
def ofSigned (w : Nat) (i : Int) : Nat := (i % (2 ^ w : Nat)).toNat

/-! ## CRCs -/

/-- One byte of CRC-32C (reflected, polynomial 0x1EDC_6F41). -/
def crc32cByte (c : BitVec 32) (b : Byte) : BitVec 32 :=
  (List.range 8).foldl (fun x _ => if x.getLsbD 0 then (x >>> 1) ^^^ 0x82F63B78#32 else x >>> 1) (c ^^^ b.setWidth 32)

/-- CRC-32C of a byte string. -/
def crc32c (bs : List Byte) : Nat := (~~~(bs.foldl crc32cByte 0xFFFFFFFF#32)).toNat

/-- One byte of the CRC-16 of R146: polynomial 0x1021, not reflected. -/
def crc16Byte (c : BitVec 16) (b : Byte) : BitVec 16 :=
  (List.range 8).foldl (fun x _ => if x.getLsbD 15 then (x <<< 1) ^^^ 0x1021#16 else x <<< 1) (c ^^^ (b.setWidth 16 <<< 8))

/-- The CRC-16 of R146 from an initial value, with no final XOR. -/
def crc16 (init : Nat) (bs : List Byte) : BitVec 16 := bs.foldl crc16Byte (BitVec.ofNat 16 init)

/-! ## Sequence arithmetic -/

/-- `a - b` modulo 2^32. -/
def seqSub (a b : Nat) : Nat := (a + 2 ^ 32 - b % 2 ^ 32) % 2 ^ 32

/-- `a + n` modulo 2^32. -/
def seqAdd (a n : Nat) : Nat := (a + n) % 2 ^ 32

/-- NEXT_SEQ is below SEQ_LIMIT (R128). -/
def seqBelow (next limit : Nat) : Bool := let d := seqSub limit next; 1 ≤ d && d ≤ 2 ^ 31 - 1

/-! ## The global address (R39 to R41) -/

/-- The four path levels of a global address, PATH1 first. -/
def addrPath (a : Nat) : List Nat := [a / 2 ^ 58 % 64, a / 2 ^ 52 % 64, a / 2 ^ 46 % 64, a / 2 ^ 40 % 64]

/-- PATH1 to PATH4 as FLW.DST holds them. -/
def addrPathWord (a : Nat) : Nat := a / 2 ^ 40 % 2 ^ 24

/-- OFFSET of a global address. -/
def addrOffset (a : Nat) : Nat := a % 2 ^ 40

/-- The four levels of a 24-bit PATH field. -/
def pathLevels (w : Nat) : List Nat := [w / 2 ^ 18 % 64, w / 2 ^ 12 % 64, w / 2 ^ 6 % 64, w % 64]

/-- No non-zero level follows a zero level (R39). -/
def levelsDense : List Nat → Bool
  | [] => true
  | l :: ls => if l = 0 then ls.all (· == 0) else levelsDense ls

/-- The levels before the first zero. -/
def levelsUsed : List Nat → List Nat
  | [] => []
  | l :: ls => if l = 0 then [] else l :: levelsUsed ls

/-- The value 63 appears anywhere other than the last non-zero level (R40). -/
def level63Early (ls : List Nat) : Bool := (levelsUsed ls).dropLast.any (· == 63)

/-- The path ends in 63: it names every node on the ring at that level (R41). -/
def pathBroadcast (ls : List Nat) : Bool := (levelsUsed ls).getLast? == some 63

/-! ## Route words (R81) -/

/-- UP of a route word. -/
def routeUp (r : DWord) : Nat := r.toNat / 2 ^ 58 % 64

/-- The eight levels L1 to L8 of a route word. -/
def routeLevels (r : DWord) : List Nat := (List.range 8).map fun i => r.toNat / 2 ^ (52 - 6 * i) % 64

/-- A route word from UP and its levels; missing levels are 0. -/
def mkRoute (up : Nat) (ls : List Nat) : DWord :=
  BitVec.ofNat 64 (up % 64 * 2 ^ 58 +
    ((List.range 8).map fun i => ls.getD i 0 % 64 * 2 ^ (52 - 6 * i)).foldl (· + ·) 0)

/-- L1 of a route word. -/
def routeL1 (r : DWord) : Nat := (routeLevels r).getD 0 0

/-- L2 of a route word. -/
def routeL2 (r : DWord) : Nat := (routeLevels r).getD 1 0

/-! ## The node address map (R45) -/

/-- The regions of a node's OFFSET space. -/
inductive Region where
  | page (p : Nat)
  | fifo (n : Nat) (tx : Bool)
  | bench (n : Nat)
  | chest
  | journal
  | rebase (k : Nat)
  | absent
  deriving DecidableEq, Repr

/-- The region that holds byte `off` (R45, R47, R48, R50). -/
def regionOf (off : Nat) : Region :=
  if off < 0x1000000 then .page (off / 0x1000)
  else if off < 0x2000000 then
    let n := (off - 0x1000000) / 0x10000
    if n < 48 then .fifo n (0x8000 ≤ off % 0x10000) else .absent
  else if off < 0x2100000 then
    if off % 0x10000 < 0x1000 then .bench ((off - 0x2000000) / 0x10000) else .absent
  else if off < 0x10000000 then .absent
  else if off < 0x10400000 then .chest
  else if off < 0x100000000 then .absent
  else if off < 0x500000000 then .journal
  else if off < 0x8000000000 then .absent
  else .rebase ((off - 0x8000000000) / 0x800000000)

/-- The region that holds all of `len` bytes from `off`, `absent` where they cross a boundary (R46, R47). -/
def regionSpan (off len : Nat) : Region :=
  if off + len ≤ 2 ^ 40 then
    match regionOf off with
    | .absent => .absent
    | r => if regionOf (off + len - 1) = r then r else .absent
  else .absent

/-- An access size and alignment that register pages take (R7). -/
def regAccessOk (off len : Nat) : Bool := (len == 1 || len == 2 || len == 4 || len == 8) && off % len == 0

/-- A journal byte that the hub keeps for itself (R50, R159): everything below the user region. -/
def journalOwn (b : Nat) : Bool := b < 0x40000000

/-! ## KVL frames (R79, R80) -/

/-- The destination of ANNOUNCE, HELLO and ring broadcasts (R77, R79). -/
def macHello : Nat := 0x034B564C0001
def macAnnounce : Nat := 0x034B564C0002
def macBroadcast : Nat := 0x034B564C0003

/-- KVL frame types (R80). -/
def tyReq : Nat := 0
def tyCpl : Nat := 1
def tyAnnounce : Nat := 2
def tyHello : Nat := 3
def tyMirror : Nat := 4
def tyLease : Nat := 5

/-- Header bytes of a version. -/
def kvlHdrLen (ver : Nat) : Nat := if ver = 3 then 40 else 32

/-- The bytes of a KVL header (R80), most significant first. -/
def kvlBytes (k : Kvl) : List Byte :=
  beBytes 1 (k.ver * 16 + k.type) ++ beBytes 1 (k.cls * 32 + (if k.dup then 16 else 0)) ++ beBytes 1 (kvlHdrLen k.ver / 4) ++
  beBytes 1 (k.rewrites % 64) ++ beBytes 8 k.dst.toNat ++ beBytes 8 k.src.toNat ++ beBytes 2 k.initiator ++
  beBytes 2 (k.srcFlow % 4096) ++ beBytes 4 k.baseSeq ++ beBytes 1 k.count ++ beBytes 1 0 ++ beBytes 2 k.bodyLen ++
  (if k.ver = 3 then beBytes 4 k.srcEpoch ++ beBytes 4 k.dstEpoch else [])

/-- The KVL header that payload bytes hold (R80); none if HLEN does not match VER, the payload is too short, or a reserved
bit is not 0 (R82). -/
def kvlParse (bs : List Byte) : Option Kvl :=
  let ver := beAt bs 0 1 / 16
  let b1 := beAt bs 1 1
  let k : Kvl :=
    { ver := ver, type := beAt bs 0 1 % 16, cls := b1 / 32, dup := b1 / 16 % 2 == 1, rewrites := beAt bs 3 1 % 64,
      dst := BitVec.ofNat 64 (beAt bs 4 8), src := BitVec.ofNat 64 (beAt bs 12 8), initiator := beAt bs 20 2,
      srcFlow := beAt bs 22 2 % 4096, baseSeq := beAt bs 24 4, count := beAt bs 28 1, bodyLen := beAt bs 30 2,
      srcEpoch := if ver = 3 then beAt bs 32 4 else 0, dstEpoch := if ver = 3 then beAt bs 36 4 else 0 }
  if 1 ≤ ver ∧ ver ≤ 3 ∧ beAt bs 2 1 * 4 = kvlHdrLen ver ∧ kvlHdrLen ver ≤ bs.length ∧ b1 % 16 = 0 ∧
     beAt bs 3 1 < 64 ∧ beAt bs 22 2 < 4096 ∧ beAt bs 29 1 = 0 ∧ k.dst.toNat % 1024 = 0 ∧ k.src.toNat % 1024 = 0
  then some k else none

/-- The body of a KVL frame: BODY_LEN bytes after the header. -/
def kvlBody (bs : List Byte) (k : Kvl) : List Byte := (bs.drop (kvlHdrLen k.ver)).take k.bodyLen

/-- One record of a REQ body (R105), padded. -/
def reqRecBytes (r : ReqRec) : List Byte :=
  beBytes 1 (r.op + (if r.spec then 16 else 0) + (if r.first then 32 else 0)) ++ beBytes 1 (r.len - 1) ++ beBytes 2 (r.tag % 1024) ++
  beBytes 5 r.off ++ beBytes 1 r.reason ++ beBytes 2 r.data.length ++ beBytes 4 0 ++ pad4 r.data

/-- A REQ body: the prologue with ACK_FLOOR, then the records (R105). -/
def reqBody (floor : Nat) (rs : List ReqRec) : List Byte :=
  beBytes 4 floor ++ beBytes 4 0 ++ (rs.map reqRecBytes).flatten

/-- The request data bytes an operation carries (R100). -/
def reqDataLen (op len : Nat) : Nat :=
  if op = 2 ∨ op = 5 then len else if op = 3 then 16 else if op = 4 then 8 else if op = 6 then 8 else 0

/-- The completion data bytes an operation returns (R100). -/
def cplDataLen (op len : Nat) : Nat := if op = 1 then len else if op = 3 ∨ op = 4 then 8 else 0

/-- `n` records of a REQ body from `bs` on; none unless they end exactly with the body (R82, R105). -/
def reqRecsParse : Nat → List Byte → Option (List ReqRec)
  | 0, bs => if bs.isEmpty then some [] else none
  | n + 1, bs =>
    let b0 := beAt bs 0 1
    let dlen := beAt bs 10 2
    let op := b0 % 16
    let noData := op = 7 ∨ op = 8
    let r : ReqRec :=
      { op := op, spec := b0 / 16 % 2 == 1, first := b0 / 32 % 2 == 1,
        len := if noData then 0 else beAt bs 1 1 + 1, tag := beAt bs 2 2 % 1024, off := beAt bs 4 5,
        reason := beAt bs 9 1, data := (bs.drop 16).take dlen }
    if 16 + up4 dlen ≤ bs.length ∧ b0 < 64 ∧ beAt bs 2 2 < 1024 ∧ beAt bs 12 4 = 0 ∧ 1 ≤ op ∧ op ≤ 8 ∧
       (¬ r.spec ∨ op = 1) ∧ dlen = reqDataLen op r.len ∧ (op = 8 ∨ r.reason = 0) ∧
       ((bs.drop (16 + dlen)).take (up4 dlen - dlen)).all (· == 0#8)
    then (reqRecsParse n (bs.drop (16 + up4 dlen))).map (r :: ·)
    else none

/-- A REQ body: ACK_FLOOR and exactly `count` records (R105). -/
def reqBodyParse (count : Nat) (bs : List Byte) : Option (Nat × List ReqRec) :=
  if 8 ≤ bs.length ∧ beAt bs 4 4 = 0 then (reqRecsParse count (bs.drop 8)).map fun rs => (beAt bs 0 4, rs) else none

/-- One record of a CPL body (R106), padded. -/
def cplRecBytes (r : CplRec) : List Byte :=
  beBytes 1 r.status ++ beBytes 1 ((if r.late then 1 else 0) + (if r.effectful then 2 else 0) + (if r.filled then 4 else 0)) ++
  beBytes 2 (r.tag % 1024) ++ beBytes 2 r.data.length ++ beBytes 1 r.cause ++ beBytes 1 0 ++ pad4 r.data

/-- A CPL body: the prologue with NEXT_EXPECTED, then the records (R106). -/
def cplBody (nextExp : Nat) (rs : List CplRec) : List Byte :=
  beBytes 4 nextExp ++ beBytes 4 0 ++ (rs.map cplRecBytes).flatten

/-- `n` records of a CPL body from `bs` on; none unless they end exactly with the body (R82, R106). -/
def cplRecsParse : Nat → List Byte → Option (List CplRec)
  | 0, bs => if bs.isEmpty then some [] else none
  | n + 1, bs =>
    let fl := beAt bs 1 1
    let dlen := beAt bs 4 2
    let r : CplRec :=
      { status := beAt bs 0 1, late := fl % 2 == 1, effectful := fl / 2 % 2 == 1, filled := fl / 4 % 2 == 1,
        tag := beAt bs 2 2 % 1024, cause := beAt bs 6 1, data := (bs.drop 8).take dlen }
    if 8 + up4 dlen ≤ bs.length ∧ fl < 8 ∧ beAt bs 2 2 < 1024 ∧ beAt bs 7 1 = 0 ∧
       ((bs.drop (8 + dlen)).take (up4 dlen - dlen)).all (· == 0#8)
    then (cplRecsParse n (bs.drop (8 + up4 dlen))).map (r :: ·)
    else none

/-- A CPL body: NEXT_EXPECTED and exactly `count` records (R106). -/
def cplBodyParse (count : Nat) (bs : List Byte) : Option (Nat × List CplRec) :=
  if 8 ≤ bs.length ∧ beAt bs 4 4 = 0 then (cplRecsParse count (bs.drop 8)).map fun rs => (beAt bs 0 4, rs) else none

/-- The greatest COUNT of a version (R80, R84). -/
def maxCount (ver : Nat) : Nat := if ver = 3 then 64 else 16

/-- Length of a frame, from the first byte of the destination address to the last of the FCS (R6): a shorter one is padded to 64. -/
def frameLen (f : Frame) : Nat :=
  max 64 (14 + (if f.hsr.isSome then 6 else 0) + (if f.vlan.isSome then 4 else 0) + f.payload.length + 4)

/-- The cells a frame of `len` bytes occupies (R136). -/
def frameCells (len : Nat) : Nat := (len + 255) / 256

/-- The bytes written over a register: the bytes from offset `o` of the register replaced by `bs` (R7). -/
def mergeBytes (old : Word) (o : Nat) (bs : List Byte) : Word :=
  let ob := leBytes 4 old.toNat
  BitVec.ofNat 32 (leNat (ob.take o ++ bs ++ ob.drop (o + bs.length)))

/-- The bits of a register that a write of `n` bytes from byte `o` carries (R7, R486). -/
def carriedMask (o n : Nat) : Word := mergeBytes 0#32 o (List.replicate n 0xFF#8)

end Sys2Proof.Machine
end

