-- ==== Sys2Proof/Machine/Switch.lean ====
section
/-! DEFINITION. The switch core and the shared buffer as operations: tokens (spec/06), cells and pools, queues, references and
their ends (spec/05). The commands over them are in SwitchCmds. -/

namespace Sys2Proof.Machine

/-! ## Who the hub is on its rings -/

/-- The hub's own MAC address. -/
def ownMac (s : State) : Nat := s.dev.mac

/-- NOD.SELF.NODE. -/
def ownNode (s : State) : Nat := getF s Pg.nod F.NOD_SELF_NODE

/-- NOD.SELF.SUB_NODE. -/
def ownSub (s : State) : Nat := getF s Pg.nod F.NOD_SELF_SUB_NODE

/-- The hub's own epoch, as read from the chest at start-up. -/
def ownEpoch (s : State) : Nat := getF s Pg.nod F.NOD_EPOCH_EPOCH

/-- A QuadBox is active (R75): both coupling ports have ROLE 2 and the same MODE. -/
def isCoupler (s : State) : Bool :=
  getF s (Pg.port 2) F.PORT_CFG_ROLE == 2 && getF s (Pg.port 3) F.PORT_CFG_ROLE == 2 &&
  getF s (Pg.port 2) F.PORT_CFG_MODE == getF s (Pg.port 3) F.PORT_CFG_MODE

/-- An Ethernet port is UP (R68); H, F and M are always there. -/
def portUp (s : State) (p : Port) : Bool := !isEthPort p || getF s (portPage p) F.PORT_STAT_LINK == 2

/-- The block of page `p` takes no new item (R29, R54, R55): its status and cause. -/
def blockRefuses (s : State) (p : Nat) : Option (Nat × Nat) :=
  if pageBusyState s p = 3 then some (St.hang, Cause.hang)
  else if pageBusyState s p = 2 then some (St.targetErr, Cause.resetting)
  else if pageEnabled s p then none else some (St.targetErr, Cause.disabled)

/-- The block of page `p` takes new items (R29, R54, R55). -/
def blockTakes (s : State) (p : Nat) : Bool := (blockRefuses s p).isNone

/-- The version set that this hub negotiates by (R86): a write of KVL.VER.EN counts from the next ANNOUNCE on. -/
def verEn (s : State) : Nat := s.ring.verOld.getD (getF s Pg.kvl F.KVL_VER_EN)

/-- The version set of this hub's last HELLO (R77, R86). -/
def linkEn (s : State) : Nat := s.ring.helloOld.getD (getF s Pg.kvl F.KVL_VER_EN)

/-- The port takes new frames: it is UP, its page takes new items, and the reclaim walker has finished with its queues (R54, R156). -/
def portTakes (s : State) (p : Port) : Bool :=
  portUp s p && (!isEthPort p || (blockTakes s (portPage p) && !s.sw.walk.contains (portIdx p)))

/-- The port runs HSR: E and W always, C1 and C2 while the QuadBox is active. -/
def isHsrPort (s : State) (p : Port) : Bool :=
  match p with
  | .e => true | .w => true
  | .c1 => isCoupler s | .c2 => isCoupler s
  | _ => false

/-- The other port of the same ring. -/
def otherPort : Port → Port
  | .e => .w | .w => .e | .c1 => .c2 | .c2 => .c1 | p => p

/-- The port lies on the subring. -/
def isSubPort : Port → Bool
  | .c1 => true | .c2 => true | _ => false

/-- The HSR path identifier of a copy on this port (R70, R75). -/
def hsrPathOf (s : State) (p : Port) : Nat :=
  match p with
  | .e => 0 | .w => 1
  | .c1 => 2 * getF s Pg.kvl F.KVL_HSR_CTL_NET_ID
  | .c2 => 2 * getF s Pg.kvl F.KVL_HSR_CTL_NET_ID + 1
  | _ => 0

/-! ## Tokens (R165 to R172) -/

/-- The service sluice of class `c` on port `p`, as an entry of SLU40 (R184). -/
def svcSluice (p : Port) (c : Nat) : Nat := 8 * portIdx p + c

/-- The port sluice of port `p`, as an entry of SLU40. -/
def portSluice (p : Port) : Nat := 56 + portIdx p

/-- The sluice entry `i` of page `pg` meters (R171): port sluices always do. -/
def sluEn (s : State) (pg i : Nat) : Bool := getB s pg F.SLU_CTL_EN i || (pg == Pg.slu40 && 56 ≤ i)

/-- The tokens of a sluice, signed. -/
def sluTokens (s : State) (pg i : Nat) : Int := toSigned 32 (getF s pg F.SLU_TOKENS_TOKENS i)

/-- The sluice holds zero or more tokens (R170, R171). -/
def sluOpen (s : State) (pg i : Nat) : Bool := !sluEn s pg i || decide (0 ≤ sluTokens s pg i)

/-- The head frame `head` of `who` finds the sluice below zero, which counts once for each head (R184). -/
def sluDebt (s : State) (who head pg i : Nat) : State :=
  let e := (who, head, 1024 * pg + i)
  if sluOpen s pg i || s.meter.waits.contains e then s
  else
    bump { s with meter := { s.meter with waits := e :: s.meter.waits.filter fun x => x.1 != who || x.2.1 == head } }
      pg F.SLU_DEBT_WAITS_COUNT 1 i

/-- The head of `who` waits no more. -/
def waitEnd (s : State) (who : Nat) : State :=
  { s with meter := { s.meter with waits := s.meter.waits.filter fun x => x.1 != who } }

/-- The sluice is charged for a frame of `len` bytes (R166, R172). -/
def sluCharge (s : State) (pg i len : Nat) : State :=
  if sluEn s pg i then
    let charge := len + getF s pg F.SLU_CTL_OVERHEAD i
    bump (setF s pg F.SLU_TOKENS_TOKENS (ofSigned 32 (sluTokens s pg i - charge)) i) pg F.SLU_RELEASED_COUNT 1 i
  else s

/-- The verdict of a headgate on a unit (R168, R169). -/
inductive Verdict where
  | pass | mark | drop
  deriving DecidableEq, Repr

/-- Headgate `hg` (0 to 1023) checks a unit of this charge. -/
def headgate (s : State) (hg charge : Nat) : Verdict × State :=
  let pg := Pg.hdg hg
  let i := hg % 64
  if !getB s pg F.HDG_CTL_EN i then (.pass, s)
  else
    let t := getF s pg F.HDG_TOKENS_TOKENS i
    if charge ≤ t then (.pass, setF s pg F.HDG_TOKENS_TOKENS (t - charge) i)
    else
      let s1 := bump s pg F.HDG_EXCESS_COUNT 1 i
      if getF s pg F.HDG_CTL_ACTION i = 0 then (.mark, bump s1 pg F.HDG_MARKED) else (.drop, s1)

/-- The charge of a fabric transaction at its headgate (R166). -/
def txnCharge (op len : Nat) : Nat := 16 + max (up4 (reqDataLen op len)) (up4 (cplDataLen op len))

/-- The headgate that the flow map names for a flow, if it is policed (R167, R183). -/
def flowHeadgate (s : State) (flow : Nat) : Option Nat :=
  let pg := 0x080 + flow / 256
  let j := flow % 256 / 2
  if flow % 2 = 0 then
    (if getB s pg F.HDG_FMAP_EN_EVEN j then some (getF s pg F.HDG_FMAP_HG_EVEN j) else none)
  else (if getB s pg F.HDG_FMAP_EN_ODD j then some (getF s pg F.HDG_FMAP_HG_ODD j) else none)

/-- The headgate for a plain Ethernet frame entering at point `q` (0 C1, 1 C2, 2 M) in class `c` (R167). -/
def pointHeadgate (s : State) (q c : Nat) : Option Nat :=
  if getB s 0x080 F.HDG00_PSEL_EN (8 * q + c) then some (getF s 0x080 F.HDG00_PSEL_HG (8 * q + c)) else none

/-! ## Cells and pools (R132, R136 to R142) -/

/-- Cells of the reserve that frames of a pool hold. -/
def poolUse (s : State) (pool : Nat) : Nat :=
  (s.sw.frames.map fun d => if d.2.pool = pool then d.2.reserve else 0).foldl (· + ·) 0

/-- The minimum of a pool (R141). -/
def poolMin (s : State) (pool : Nat) : Nat :=
  if pool = 0 then getF s Pg.buf F.BUF_POOL0_TRANSIT_MIN
  else if pool = 1 then getF s Pg.buf F.BUF_POOL0_RESPONSE_MIN
  else if pool = 2 then getF s Pg.buf F.BUF_POOL1_PROTECT_MIN
  else 0

/-- Shared cells in use. -/
def sharedUse (s : State) : Nat := (s.sw.frames.map fun d => d.2.shared).foldl (· + ·) 0

/-- Shared cells there are: 49 024 less the three minimums (R141), less retired cells and cells on no list. -/
def sharedTotal (s : State) : Nat :=
  49024 - poolMin s 0 - poolMin s 1 - poolMin s 2 - s.sw.retired.length - s.sw.lost.length

/-- Cells of the buffer that are free to frames (R136, R141). -/
def freeCells (s : State) : Nat :=
  49024 - s.sw.retired.length - s.sw.lost.length - poolUse s 0 - poolUse s 1 - poolUse s 2 - sharedUse s

/-- Shared cells charged to a port. -/
def portShared (s : State) (p : Port) : Nat :=
  (s.sw.frames.map fun d => if d.2.refs.any (·.port == p) then d.2.shared else 0).foldl (· + ·) 0

/-- The cells a frame of `n` cells would take: from its pool's reserve and from the shared cells (R140); none if the two
cannot give them all. -/
def takeCells (s : State) (pool n : Nat) (ports : List Port) : Option (Nat × Nat) :=
  let r := if pool = 3 then 0 else min n (poolMin s pool - poolUse s pool)
  let sh := n - r
  if freeCells s < n then none
  else if sh = 0 then some (r, 0)
  else if sh + sharedUse s ≤ sharedTotal s ∧
      ports.all (fun p => decide (portShared s p + sh ≤ getF s Pg.buf F.BUF_PORT_CAP_CAP (portIdx p))) then some (r, sh)
  else none

/-- `n` cells of a chain in the link RAM from cell `c` on (R132). -/
def linkChain (s : State) : Nat → Nat → List Nat
  | 0, _ => []
  | n + 1, c => c :: linkChain s n ((tabGet s.sw.link c).getD 0)

/-- The cells of a frame, by its head cell and its descriptor. -/
def cellsOf (s : State) (head : Nat) (d : Desc) : List Nat := linkChain s (d.reserve + d.shared) head

/-- The cells that are not on the free list: held by a frame, on no list, or retired. -/
def cellsHeld (s : State) : List Nat := s.sw.frames.flatMap (fun e => cellsOf s e.1 e.2) ++ s.sw.lost ++ s.sw.retired

/-! ## Spoiled units (R452 to R454) -/

/-- Whether the block of page `p` spoils the check of the unit it now emits (R452, R454): one in every CRC_EVERY; with ONCE, the first spoiled
one is the last. -/
def spoilUnit (s : State) (p : Nat) : Bool × State :=
  let every := wordBits (getW s p 0x24) 16 8
  if every = 0 then (false, s)
  else
    let n := (tabGet s.test.pert p).getD 0 + 1
    if n < every then (false, { s with test := { s.test with pert := tabSet s.test.pert p n } })
    else
      let s1 := bump { s with test := { s.test with pert := tabDel s.test.pert p } } Pg.prt F.PRT_INJECTED
      (true, if (getW s p 0x24).getLsbD 24 then setW s1 p 0x24 (wordPut (getW s p 0x24) 16 8 0) else s1)

/-- The CREDIT field of a page's PERTURB: credits that its block withholds from each pool it returns (R452). -/
def creditHeld (s : State) (p : Nat) : Nat := wordBits (getW s p 0x24) 12 4

/-- The block of page `p` is in the part of the 16 µs in which BP of its PERTURB refuses new items (R452); the 16 µs run with the watch count
(DESIGN CHOICE, log entry 99). -/
def bpHeld (s : State) (p : Nat) : Bool := decide (s.watchNs % 16000 < 1000 * wordBits (getW s p 0x24) 8 4)

/-- A return of credits by a block that withholds some counts as one injection (R454). -/
def creditNote (s : State) (p : Nat) : State := if creditHeld s p = 0 then s else bump s Pg.prt F.PRT_INJECTED

/-- Words with a spoiled ECC after these have been written: a word written is good again unless its own write is spoiled. -/
def spoilMarks (s : State) (p : Nat) (words : List Nat) (bad : List (Nat × Bool)) : List (Nat × Bool) × State :=
  words.foldl (fun a w =>
    let r := spoilUnit a.2 p
    (a.1.filter (·.1 != w) ++ (if r.1 then [(w, (getW s p 0x24).getLsbD 25)] else []), r.2)) (bad, s)

/-- These cells of the buffer have been written. -/
def cellsWritten (s : State) (cells : List Nat) : State :=
  let r := spoilMarks s Pg.buf cells s.test.badCells
  { r.2 with test := { r.2.test with badCells := r.1 } }

/-- `n` bytes of journal memory from byte `b` on are written. -/
def jWrite (s : State) (b : Nat) (bs : List Byte) : State :=
  let words := if bs.isEmpty then [] else (List.range ((b + bs.length - 1) / 8 - b / 8 + 1)).map (· + b / 8)
  let r := spoilMarks s Pg.jrn words s.test.badWords
  { r.2 with jmem := memWrite s.jmem b bs, test := { r.2.test with badWords := r.1 } }

/-- The lowest free cell of a bank: cell c lies in bank c mod 16 (R132). `n` bounds the search. -/
def bankCell (held : List Nat) : Nat → Nat → Option Nat
  | 0, _ => none
  | n + 1, c => if held.contains c then bankCell held n (c + 16) else some c

/-- `n` free cells from bank `b` on, from consecutive banks wherever free cells allow (R132). Which free cell of a bank is taken, and the bank
a frame starts in, are the model's choice (log entry 137). -/
def pickCells (held : List Nat) : Nat → Nat → List Nat
  | 0, _ => []
  | n + 1, b =>
    match (List.range 16).findSome? fun i => bankCell held 3072 ((b + i) % 16) with
    | none => []
    | some c => c :: pickCells (c :: held) n (c + 1)

/-- The link RAM with these cells chained in order. -/
def linkCells : List Nat → Tab Nat → Tab Nat
  | c :: c' :: cs, t => linkCells (c' :: cs) (tabSet t c c')
  | _, t => t

/-- The frame that holds a cell. -/
def cellOwner (s : State) (c : Nat) : Option Nat := (s.sw.frames.find? fun e => (cellsOf s e.1 e.2).contains c).map (·.1)

/-- The pool of a frame (R139). -/
def poolOf (transit : Bool) (cls : Nat) : Nat := if transit then 0 else if cls = 4 then 1 else if cls = 7 then 2 else 3

/-- The discard of a frame for lack of cells, counted by its pool (R140). -/
def poolDrop (s : State) (pool : Nat) : State :=
  irqEvent (bump s Pg.buf (if pool = 0 then F.BUF_DROP_TRANSIT else if pool = 1 then F.BUF_DROP_RESPONSE
    else if pool = 2 then F.BUF_DROP_PROTECT else F.BUF_DROP_SHARED)) Pg.buf 3

/-! ## Queues and references (R138, R151, R155) -/

/-- The class queue of a port. -/
def queueOf (s : State) (p : Port) (c : Nat) : List Nat := (tabGet s.sw.queues (8 * portIdx p + c)).getD []

/-- The state with this class queue; a class whose queue is empty has no deficit (R174). -/
def setQueue (s : State) (p : Port) (c : Nat) (q : List Nat) : State :=
  { s with sw := { s.sw with
      queues := if q.isEmpty then tabDel s.sw.queues (8 * portIdx p + c) else tabSet s.sw.queues (8 * portIdx p + c) q
      deficit := if q.isEmpty then tabDel s.sw.deficit (8 * portIdx p + c) else s.sw.deficit } }

/-- The watch oscillator's count in the unit of a class (R152): 256 µs for classes 2, 1 and 0, 1 µs for the others. -/
def stampUnit (c : Nat) : Nat := if c ≤ 2 then 256000 else 1000

/-- The arrival stamp of now, in 16 bits (R152). -/
def stampNow (s : State) (c : Nat) : Nat := s.watchNs / stampUnit c % 65536

/-- Every reference of the frame has ended. -/
def refsEnded (d : Desc) : Bool := d.refs.all (·.outcome != 0) && d.loc != some 0

/-- The descriptor of a frame after an end of one of its references: the cells return when the last reference has ended (R155). -/
def putDesc (s : State) (fid : Nat) (d : Desc) : State :=
  { s with sw := { s.sw with frames := if refsEnded d then tabDel s.sw.frames fid else tabSet s.sw.frames fid d } }

/-- A reference ends with an outcome. Ends other than SENT and AGED count in SWC.DOWN_DROP (R151). -/
def endRef (s : State) (fid : Nat) (p : Port) (outcome : Nat) : State :=
  match tabGet s.sw.frames fid with
  | none => s
  | some d =>
    let refs := d.refs.map fun r => if r.port = p ∧ r.outcome = 0 then { r with outcome := outcome } else r
    let s1 := putDesc s fid { d with refs := refs }
    if outcome = 1 ∨ outcome = 2 then s1 else bump s1 Pg.swc F.SWC_DOWN_DROP 1 (portIdx p)

/-- The LOCAL reference of a frame ends with an outcome. -/
def endLocal (s : State) (fid outcome : Nat) : State :=
  let s1 := { s with sw := { s.sw with localQ := s.sw.localQ.filter (· != fid) } }
  match tabGet s.sw.frames fid with
  | none => s1
  | some d => if d.loc = some 0 then putDesc s1 fid { d with loc := some outcome } else s1

/-- The switch core and its buffer take frames (R29, R54, R55). -/
def coreTakes (s : State) : Bool := blockTakes s Pg.swc && blockTakes s Pg.buf

/-- A frame takes its cells, its descriptor and a reference to each port that is UP; a DOWN port is counted (R151). The answer names it by its
head cell, 0 where it has no reference at all. `none`: its cells are not there (R140). `d` is the descriptor without references and cells. -/
def formFrame (s : State) (d : Desc) (ports : List Port) : Option (Nat × State) :=
  let up := ports.filter (portTakes s)
  let s1 := (ports.filter fun p => !portTakes s p).foldl (fun a p => bump a Pg.swc F.SWC_DOWN_DROP 1 (portIdx p)) s
  if up.isEmpty && d.loc.isNone then some (0, s1)
  else
    match (if coreTakes s then takeCells s d.pool (frameCells d.len) up else none) with
    | none => none
    | some (r, sh) =>
      match pickCells (cellsHeld s) (r + sh) 0 with
      | [] => none
      | id :: cs =>
        let d1 := { d with refs := up.map (fun p => { port := p, outcome := 0 }), reserve := r, shared := sh }
        some (id, cellsWritten { s1 with sw := { s1.sw with
          frames := tabSet s1.sw.frames id d1, link := linkCells (id :: cs) s1.sw.link
          localQ := if d.loc.isSome then s1.sw.localQ ++ [id] else s1.sw.localQ } } (id :: cs))

/-- A frame joins its class queue at each port it references. -/
def joinQueues (s : State) (fid cls : Nat) (ports : List Port) : State :=
  ports.foldl (fun a p => setQueue a p cls (queueOf a p cls ++ [fid])) s

/-- A frame is stored with a reference to each port that is UP, and joins its class queue there. `none`: its cells are not there. A
port that is UP again while the walker still works on its queues takes none either: the reference counts in SWC.DOWN_DROP (log entry 158). -/
def storeFrame (s : State) (d : Desc) (ports : List Port) : Option State :=
  (formFrame s d ports).map fun r => joinQueues r.2 r.1 d.cls (ports.filter (portTakes s))

/-- The frame carries the fabric EtherType (R79, R87). -/
def isKvlType (s : State) (f : Frame) : Bool := f.etype == getF s Pg.kvl F.KVL_ETYPE_ETYPE

/-- A descriptor of a frame that this hub forms. -/
def ownDesc (s : State) (f : Frame) (cls : Nat) : Desc :=
  { frame := f, len := frameLen f, cls := cls, pool := poolOf false cls, stamp := stampNow s cls, rxTime := 0, ingress := none, refs := [],
    loc := none, reserve := 0, shared := 0, kvl := isKvlType s f, dup := isKvlType s f && beAt f.payload 1 1 / 16 % 2 == 1, cut := false,
    stomped := false, tsId := none, oneStep := false, bcastTags := [] }

/-- The pair's MAC address and the role of this member (R356, R359). -/
def pairMac (s : State) : Nat := getF s Pg.par F.PAR_PAIR_MAC_LO_MAC_LO + 2 ^ 32 * getF s Pg.par F.PAR_PAIR_MAC_HI_MAC_HI
def pairRole (s : State) : Nat := getF s Pg.par F.PAR_STAT_ROLE

/-- The next HSR sequence number for a frame with this source MAC: the unit counter of R70, or the pair-MAC counter of R356. -/
def nextHsr (s : State) (smac : Nat) : Nat × State :=
  if pairRole s ≠ 0 ∧ smac = pairMac s ∧ smac ≠ ownMac s then
    (s.pair.hsr, { s with pair := { s.pair with hsr := (s.pair.hsr + 1) % 65536 } })
  else (s.ring.hsrSeq, { s with ring := { s.ring with hsrSeq := (s.ring.hsrSeq + 1) % 65536 } })

/-- The descriptor of a frame with this HSR tag. -/
def descTag (d : Desc) (h : HsrTag) : Desc :=
  let f : Frame := { d.frame with hsr := some h }
  { d with frame := f, len := frameLen f }

/-- A frame that this hub originates leaves HSR-tagged on these ports, as a pair where they are two (R70); `none` if its cells
are not there (R142). -/
def sendHsr (s : State) (d : Desc) (ports : List Port) : Option State :=
  let n := nextHsr s d.frame.smac
  storeFrame n.2 (descTag d { path := 0, seq := n.1 }) ports

/-- A frame that this hub originates is formed, if its cells are there. -/
def formOwn (s : State) (o : OwnFrame) : Option State :=
  let d := { o.desc with stamp := stampNow s o.desc.cls }
  if o.tagged then sendHsr s d o.ports else storeFrame s d o.ports

/-- A frame that this hub is to form waits at its source while its cells are not there (R142), behind what waits already in its pool. -/
def sendOwnFrame (s : State) (o : OwnFrame) : State :=
  let wait := { s with sw := { s.sw with ownWait := s.sw.ownWait ++ [o] } }
  if s.sw.ownWait.any (·.desc.pool == o.desc.pool) then wait
  else match formOwn s o with
    | some x => x
    | none => wait

/-- The own frames that wait for cells, oldest first. -/
def drainOwn (s : State) : State := s.sw.ownWait.foldl sendOwnFrame { s with sw := { s.sw with ownWait := [] } }

/-- A KVL frame with this header and body. -/
def kvlFrame (s : State) (dmac smac : Nat) (k : Kvl) (body : List Byte) : Frame :=
  { dmac := dmac, smac := smac, hsr := some { path := 0, seq := 0 }, vlan := none,
    etype := getF s Pg.kvl F.KVL_ETYPE_ETYPE,
    payload := kvlBytes { k with bodyLen := body.length } ++ body, fcs := .good }

/-- The KVL header of a frame that carries the fabric EtherType, if it parses (R79, R82). -/
def frameKvl (s : State) (f : Frame) : Option Kvl :=
  if f.etype = getF s Pg.kvl F.KVL_ETYPE_ETYPE ∧ f.vlan = none then kvlParse f.payload else none

/-- The service class of a frame at ingress (R137). -/
def frameClass (s : State) (f : Frame) : Nat :=
  if isKvlType s f then beAt f.payload 1 1 / 32
  else
    match (List.range 4).find? (fun k => getB s Pg.swc F.SWC_ETC_EN k && getF s Pg.swc F.SWC_ETC_ETYPE k == f.etype) with
    | some k => getF s Pg.swc F.SWC_ETC_CLASS k
    | none =>
      match f.vlan with
      | some tci => getF s Pg.swc F.SWC_PCP_MAP_MAP / 2 ^ (3 * (tci / 8192 % 8)) % 8
      | none => getF s Pg.swc F.SWC_PCP_MAP_UNTAGGED

end Sys2Proof.Machine
end

