-- ==== Sys2Proof/Machine/Send.lean ====
section
/-! DEFINITION. The sending side (spec/04, R100 to R116, R121 to R124, R128 to R130) and the path of a flow (R146 to R149) as
operations. The commands over them are in FlowCmd. -/

namespace Sys2Proof.Machine

/-! ## Flow contexts -/

/-- What a context that has not sent since manufacture holds (R128). -/
def iflowNew : IFlow :=
  { nextSeq := 0, seqLimit := 65536, first := true, peerEpoch := 0, tryCnt := 0, st := .opened, pathFence := false, verFence := false,
    opens := [], waiting := [], floorAdv := 0, closedNN := [], sentOnce := false, pathW := false, furrow := [], timer := false, retries := 0 }

/-- The initiator role of context `flow`. -/
def flowOf (s : State) (flow : Nat) : IFlow := (tabGet s.seq.flows flow).getD iflowNew

/-- The state with this initiator role for context `flow`. -/
def setFlow (s : State) (flow : Nat) (f : IFlow) : State := { s with seq := { s.seq with flows := tabSet s.seq.flows flow f } }

/-- The FLW page of a context and its place there (R131). -/
def flwPg (flow : Nat) : Nat := Pg.flw flow
def flwIx (flow : Nat) : Nat := flow % 64

/-- The context has the target role (R102). -/
def isTarget (s : State) (flow : Nat) : Bool := (tabGet s.seq.ctxs flow).isSome

/-- The context is a valid initiator flow. -/
def flowValid (s : State) (flow : Nat) : Bool :=
  getB s (flwPg flow) F.FLW_CFG_VALID (flwIx flow) && !isTarget s flow

def flowCls (s : State) (flow : Nat) : Nat := getF s (flwPg flow) F.FLW_CFG_CLASS (flwIx flow)
def flowDup (s : State) (flow : Nat) : Bool := getB s (flwPg flow) F.FLW_CFG_DUP (flwIx flow)
def flowDurable (s : State) (flow : Nat) : Bool := getB s (flwPg flow) F.FLW_CFG_DURABLE (flwIx flow)
def flowInit (s : State) (flow : Nat) : Nat := getF s (flwPg flow) F.FLW_CFG_INITIATOR (flwIx flow)
def flowPath (s : State) (flow : Nat) : Nat := getF s (flwPg flow) F.FLW_DST_PATH (flwIx flow)
def flowRetries (s : State) (flow : Nat) : Nat := getF s (flwPg flow) F.FLW_TIMER_RETRIES (flwIx flow)

/-- PATH1 and PATH2 of a flow. -/
def flowP1 (s : State) (flow : Nat) : Nat := (pathLevels (flowPath s flow)).getD 0 0
def flowP2 (s : State) (flow : Nat) : Nat := (pathLevels (flowPath s flow)).getD 1 0

/-- OLDEST_OPEN, which is also the sender's floor (R105, R121). -/
def oldestOpen (f : IFlow) : Nat := match f.opens with | [] => f.nextSeq | o :: _ => o.seq

/-- The flow is a pair flow (R357). -/
def isPairFlow (s : State) (flow : Nat) : Bool := pairRole s != 0 && decide (flow < getF s Pg.par F.PAR_FLOWS_UNIT_BASE)

def pairNode (s : State) : Nat := getF s Pg.par F.PAR_CTL_PAIR_NODE
def pairEpoch (s : State) : Nat := getF s Pg.par F.PAR_PAIR_EPOCH_EPOCH
def mirState (s : State) : Nat := getF s Pg.mir F.MIR_STAT_STATE

/-- The mirror is COPYING or IN_SYNC (R110, R371): codes 2 and 3. -/
def mirrorOn (s : State) : Bool := mirState s == 2 || mirState s == 3

/-- A record joins the mirror stream of the holder (R368, R369). -/
def mirrorPush (s : State) (kind : Nat) (wait : Bool) (key seq : Nat) (body : List Byte) : Nat × State :=
  let n := s.pair.nextMsn
  let s1 := { s with pair := { s.pair with
      nextMsn := (n + 1) % 2 ^ 32, waitAt := s.pair.waitAt ++ (if wait then [(n, s.watchNs)] else []), mirOut := s.pair.mirOut ++ [{ msn := n, kind := kind, wait := wait, key := key, seq := seq, body := body }] } }
  (n, bump (setF s1 Pg.mir F.MIR_MSN_SENT_MSN n) Pg.mir F.MIR_RECORDS_TX)

/-- ACK_MSN covers a record (R370). -/
def mirAcked (s : State) (n : Nat) : Bool := decide ((getF s Pg.mir F.MIR_MSN_ACKED_MSN + 2 ^ 32 - n % 2 ^ 32) % 2 ^ 32 < 2 ^ 31)

/-- This hub is not the member of its pair that drives and runs the field (R351, R359). -/
def pairSilent (s : State) : Bool := pairRole s != 0 && pairRole s != 2

/-- This hub holds the pair node, or is handing it over, and mirrors (R369, R379). -/
def mirroring (s : State) : Bool := (pairRole s == 2 || pairRole s == 5) && mirrorOn s

/-- A record that nothing waits for joins the mirror stream while the holder mirrors. -/
def mirrorNote (s : State) (kind key seq : Nat) (body : List Byte) : State :=
  if mirroring s then (mirrorPush s kind false key seq body).2 else s

/-- The body of a REG record for one word (R369). -/
def regBody (p off : Nat) (v : Word) : List Byte := beBytes 2 p ++ beBytes 2 off ++ beBytes 1 4 ++ List.replicate 3 0#8 ++ leBytes 4 v.toNat

/-! ## The node table as the sender sees it -/

/-- The node-table entry of a ring, or of a coupler's subring. -/
def nodeEnt (s : State) (sub : Bool) (n : Nat) : Option NodeEnt := tabGet (if sub then s.ring.st else s.ring.nt) n

/-- The highest version of a version set; 0 if it is empty. -/
def topVer (set : Nat) : Nat := if set / 4 % 2 = 1 then 3 else if set / 2 % 2 = 1 then 2 else if set % 2 = 1 then 1 else 0

/-- The flow leads to a coupler's own subring: PATH1 is this coupler's own number (DEDUCED, log entry 11). -/
def flowSub (s : State) (flow : Nat) : Bool := isCoupler s && flowP1 s flow == ownNode s && flowP2 s flow != 0

/-- The node the flow's frames go to first: PATH1, or PATH2 on the own subring. -/
def flowHop (s : State) (flow : Nat) : Nat := if flowSub s flow then flowP2 s flow else flowP1 s flow

/-- The flow's target is the node its frames go to first. -/
def flowDirect (s : State) (flow : Nat) : Bool :=
  if flowSub s flow then (pathLevels (flowPath s flow)).getD 2 0 == 0 else flowP2 s flow == 0

/-- The lowest NEG_VER among the PRESENT entries of a ring; the highest enabled version where there is none (R122). -/
def bcastVer (s : State) (sub : Bool) : Nat :=
  ((if sub then s.ring.st else s.ring.nt).filter fun e => e.2.state == 1).foldl (fun a e => min a e.2.negVer)
    (topVer (verEn s))

/-- The version a flow's bursts are formed under (R84, R122). -/
def flowVer (s : State) (flow : Nat) : Nat :=
  if flowP1 s flow = 0 then topVer (verEn s)
  else if flowHop s flow = 63 then bcastVer s (flowSub s flow)
  else
    match nodeEnt s (flowSub s flow) (flowHop s flow) with
    | some e => if e.negVer = 0 then topVer (verEn s) else e.negVer
    | none => topVer (verEn s)

/-! ## Closures (R112, R115, R129, R130) -/

/-- A record joins the SEQ log, or is counted in LOG_OVF while the log is full (R130). -/
def seqLog (s : State) (r : SeqLog) : State :=
  if s.seq.log.length < 4096 then { s with seq := { s.seq with log := s.seq.log ++ [r] } }
  else irqEvent (bumpSat s Pg.seq F.SEQ_LOG_OVF_COUNT) Pg.seq 3

/-- The tag returns to its pool (R104). -/
def freeTag (s : State) (tag : Nat) : State := { s with seq := { s.seq with tags := s.seq.tags.filter (· != tag) } }

/-- A closure goes to its initiator. -/
def closeTo (s : State) (c : Closing) : State := { s with seq := { s.seq with closings := s.seq.closings ++ [c] } }

/-- A transaction is refused before it holds a sequence number (R109): it is logged, its tag is freed, and its completion goes
to the initiator. -/
def refuse (s : State) (t : Txn) (status cause page : Nat) : State :=
  let s1 := noteErr s page status cause 0
  let s2 := seqLog s1 {
      status := status, cause := cause, flow := t.flow, seq := 0, offLo := addrOffset t.addr % 2 ^ 32,
      offHi := addrOffset t.addr / 2 ^ 32, tag := t.tag, op := t.op, orphan := t.orphan }
  closeTo (freeTag s2 t.tag) {
      init := t.init, tag := t.tag, status := status, cause := cause, effectful := false, data := [],
      orphan := t.orphan }

/-- The status makes its flow enter RESYNC (R108); HANG does only where the initiator's hub gives it. -/
def resyncStatus (status : Nat) (own : Bool) : Bool :=
  status == St.unreachable || status == St.epochLost || status == St.mirrorLost || (status == St.hang && own)

/-- SEQ_LIMIT advances by 65 536 when NEXT_SEQ reaches SEQ_LIMIT − 32 768 (R128). -/
def limitAdvance (f : IFlow) : IFlow :=
  if seqSub f.seqLimit f.nextSeq ≤ 32768 then { f with seqLimit := seqAdd f.seqLimit 65536 } else f

/-- A flow in RESYNC whose last record has closed starts again (R115). -/
def resyncEnd (f : IFlow) : IFlow :=
  if f.st = .resync ∧ f.opens = [] then
    limitAdvance { f with nextSeq := seqAdd f.nextSeq 512, first := true, st := .opened, timer := false }
  else f

/-- The flow enters RESYNC (R115), which ends once no record of it is open. -/
def enterResync (s : State) (flow : Nat) : State :=
  let f := flowOf s flow
  let s1 := if f.st = .resync then s else irqEvent s (flwPg flow) 3
  setFlow s1 flow { f with st := .resync }

/-- The flow's path may carry frames (R146): its port is UP and the next node's REACH bit for that port is 1. -/
def pathUsable (s : State) (flow : Nat) (w : Bool) : Bool :=
  let sub := flowSub s flow
  let p : Port := if sub then (if w then .c2 else .c1) else (if w then .w else .e)
  portUp s p &&
  match nodeEnt s sub (flowHop s flow) with
  | some e => if w then e.reachW else e.reachE
  | none => false

/-- The route word of a flow's target and its source route word (R81). -/
def flowDst (s : State) (flow : Nat) : DWord :=
  if flowSub s flow then mkRoute 0 ((pathLevels (flowPath s flow)).drop 1) else mkRoute 0 (pathLevels (flowPath s flow))
def flowSrc (s : State) (flow : Nat) : DWord :=
  mkRoute 0 [if flowSub s flow then ownSub s else if isPairFlow s flow then pairNode s else ownNode s]

/-- The hashed path of a pinned flow (R146): true selects W (C2). -/
def hashedPath (s : State) (flow : Nat) : Bool :=
  (crc16 (getF s Pg.swc F.SWC_HASH_SALT) (beBytes 8 (flowDst s flow).toNat ++ beBytes 2 flow)).getLsbD 0

/-- The flow travels on one ring port only (R146). -/
def isPinned (s : State) (flow : Nat) : Bool := !flowDup s flow && flowP1 s flow != 0 && flowHop s flow != 63

/-- The path a flow takes when it may choose: the hashed one while it is usable, else the other while that one is, else the
current one (R146, R147). -/
def choosePath (s : State) (flow : Nat) (cur : Bool) : Bool :=
  let h := hashedPath s flow
  if pathUsable s flow h then h else if pathUsable s flow (!h) then !h else cur

/-! ## Furrows (R107) -/

/-- Bytes of a record in a REQ body. -/
def recSize (o : OpenRec) : Nat :=
  16 + (if o.fill.isSome ∨ o.nop then 0 else up4 (reqDataLen o.txn.op o.txn.len))

/-- The open record of this number. -/
def openAt (f : IFlow) (q : Nat) : Option OpenRec := f.opens.find? (·.seq == q)

/-- Bytes of the records of a burst in a REQ body. -/
def burstSize (f : IFlow) (qs : List Nat) : Nat :=
  8 + (qs.map fun q => match openAt f q with | some o => recSize o | none => 16).foldl (· + ·) 0

/-- The greatest body of a REQ frame under a version (R6, R107). -/
def maxBody (ver : Nat) : Nat := 9216 - 24 - kvlHdrLen ver

/-- A record joins the burst at the tail of its furrow, or opens a new burst (R107). `floor` is how many bursts of the furrow it
may not join: retransmissions form new bursts. -/
def joinFurrow (s : State) (flow : Nat) (q : Nat) (newBurst : Bool) : State :=
  let f := flowOf s flow
  let ver := flowVer s flow
  let fresh : Burst := { seqs := [q], stamp := stampNow s (flowCls s flow) }
  let add : List Burst :=
    match f.furrow.getLast? with
    | none => [fresh]
    | some b =>
      if !newBurst && b.seqs.getLast? == some (seqSub q 1) && decide (b.seqs.length < maxCount ver) &&
         decide (burstSize f (b.seqs ++ [q]) ≤ maxBody ver)
      then f.furrow.dropLast ++ [{ b with seqs := b.seqs ++ [q] }]
      else f.furrow ++ [fresh]
  setFlow s flow { f with furrow := add }

/-- Records group into bursts of consecutive numbers within the limits of a version (R107). -/
def groupBursts (f : IFlow) (ver stamp : Nat) : List Nat → List Burst → List Burst
  | [], acc => acc
  | q :: qs, acc =>
    match acc.getLast? with
    | some b =>
      if b.seqs.getLast? = some (seqSub q 1) ∧ b.seqs.length < maxCount ver ∧ burstSize f (b.seqs ++ [q]) ≤ maxBody ver
      then groupBursts f ver stamp qs (acc.dropLast ++ [{ b with seqs := b.seqs ++ [q] }])
      else groupBursts f ver stamp qs (acc ++ [{ seqs := [q], stamp := stamp }])
    | none => groupBursts f ver stamp qs [{ seqs := [q], stamp := stamp }]

/-- The transaction is a broadcast EVENT (R41, R122). -/
def isBcast (t : Txn) : Bool := pathBroadcast (addrPath t.addr)

/-- Every open record that has been sent and does not stand in the furrow forms new bursts ahead of the furrow (R107, R111). -/
def requeueSent (s : State) (flow : Nat) : State :=
  let f := flowOf s flow
  let inF := (f.furrow.map (·.seqs)).flatten
  let again := (f.opens.filter fun o => o.sent && !inF.contains o.seq && !isBcast o.txn).map (·.seq)
  let bs := groupBursts f (flowVer s flow) (stampNow s (flowCls s flow)) again []
  bump (setFlow s flow { f with furrow := bs ++ f.furrow }) Pg.seq F.SEQ_RETRANSMIT again.length

/-- A fence lifts: the path is chosen again and every open record is retransmitted on it (R148). -/
def fenceLift (s : State) (flow : Nat) : State :=
  let f := flowOf s flow
  if f.pathFence then
    requeueSent (setFlow s flow { f with pathFence := false, pathW := choosePath s flow f.pathW }) flow
  else s

/-- A path fence starts (R148). Where no open record has been sent, none is left on the old path, and it lifts at once. -/
def fenceStart (s : State) (flow : Nat) : State :=
  let f := flowOf s flow
  let s1 := irqEvent (bump (setFlow s flow { f with pathFence := true }) Pg.swc F.SWC_FENCES) (flwPg flow) 2
  if f.opens.any (·.sent) then s1 else fenceLift s1 flow

/-- What follows once records of a flow have closed: the end of RESYNC (R115), of a fence (R148), of a version fence (R85), and
the move back to the hashed path (R147). -/
def afterClose (s : State) (flow : Nat) : State :=
  let f := flowOf s flow
  let s1 := if f.pathFence && !(f.opens.any (·.sent)) then fenceLift s flow else s
  let f1 := flowOf s1 flow
  if f1.opens = [] then
    let f2 := resyncEnd { f1 with verFence := false, timer := false, tryCnt := 0 }
    let w := if isPinned s1 flow && f2.sentOnce then choosePath s1 flow f2.pathW else f2.pathW
    setFlow s1 flow { f2 with pathW := w }
  else s1

/-- The closure of a DURABLE record frees its acceptance slot (R424). -/
def slotFree (s : State) (flow q : Nat) : State :=
  { s with start := { s.start with slots := s.start.slots.filter fun e => !(e.2.1 == flow && e.2.2.seq == q) } }

/-- A record of a flow closes (R112): it leaves the open records, frees its tag, is logged where R130 asks for it, and its
completion goes to the initiator. -/
def closeRec (s : State) (flow q status cause : Nat) (effectful own : Bool) (data : List Byte) : State :=
  let f := flowOf s flow
  match openAt f q with
  | none => s
  | some o =>
    let oldest := (f.opens.head?.map (·.seq)) == some q
    let f1 := { f with
        opens := f.opens.filter (·.seq != q),
        closedNN := if o.nop then f.closedNN else f.closedNN ++ [q],
        furrow := (f.furrow.map fun b => { b with seqs := b.seqs.filter (· != q) }).filter (!·.seqs.isEmpty),
        tryCnt := if oldest then 0 else f.tryCnt,
        retries := if oldest then flowRetries s flow else f.retries }
    let s1 := slotFree (setFlow s flow f1) flow q
    if o.nop then s1
    else
      let s2 := if (status ≠ St.ok ∧ status ≠ St.okLateAbort) ∨ o.txn.orphan then
          seqLog s1 {
            status := status, cause := if o.txn.orphan ∧ cause = 0 then 0x46 else cause, flow := flow, seq := q,
            offLo := addrOffset o.txn.addr % 2 ^ 32, offHi := addrOffset o.txn.addr / 2 ^ 32, tag := o.txn.tag, op := o.txn.op,
            orphan := o.txn.orphan }
        else s1
      let s3 := if isPairFlow s2 flow then mirrorNote s2 2 flow q [BitVec.ofNat 8 status] else s2
      let s4 := closeTo (freeTag s3 o.txn.tag) {
          init := o.txn.init, tag := o.txn.tag, status := status, cause := cause,
          effectful := effectful, data := data, orphan := o.txn.orphan }
      if resyncStatus status own then enterResync s4 flow else s4

/-- Every open record of a flow closes with one status (R111, R124). -/
def closeAll (s : State) (flow status cause : Nat) : State :=
  ((flowOf s flow).opens.map (·.seq)).foldl (fun a q => closeRec a flow q status cause false true []) s

/-! ## Acceptance (R13, R110) -/

/-- The hub returns acceptance for an assigned record, and the record joins its furrow (R13, R107, R109 step 9). -/
def accept (s : State) (flow q : Nat) : State :=
  let f := flowOf s flow
  match openAt f q with
  | none => s
  | some o =>
    let s1 := setFlow s flow { f with opens := mapIf (·.seq == q) (fun x => { x with wait := .none }) f.opens }
    let s2 := { s1 with seq := { s1.seq with accepted := s1.seq.accepted ++ [(o.txn.init, o.txn.tag)] } }
    joinFurrow (emit s2 (.accept o.txn.tag flow q)) flow q false

/-- The record's first bytes as the retransmit store and an ACCEPT mirror record hold them (R105, R109, R369). -/
def openRecBytes (o : OpenRec) : List Byte :=
  match o.fill with
  | some r => reqRecBytes { op := 8, spec := false, first := o.first, len := 1, tag := o.txn.tag, off := addrOffset o.txn.addr, reason := r, data := [] }
  | none =>
    if o.nop then reqRecBytes { op := 7, spec := false, first := o.first, len := 1, tag := 0, off := 0, reason := 0, data := [] }
    else reqRecBytes { op := o.txn.op, spec := o.txn.spec, first := o.first, len := o.txn.len, tag := o.txn.tag,
                       off := addrOffset o.txn.addr, reason := 0, data := o.txn.data }

/-- The bytes of the mirror log that records in use take: header, body and CRC of each ACCEPT without a CLOSE and each INTENT without a DONE.
The holder counts its own, the standby those it has logged (DEDUCED, log entry 169). -/
def logUse (s : State) : Nat :=
  let size (n : Nat) : Nat := 20 + up4 (16 + n)
  if pairRole s = 3 then (s.pair.mOpen.map fun o => size o.req.data.length).sum + 32 * s.pair.mIntent.length
  else if mirroring s then
    ((s.seq.flows.filter fun e => isPairFlow s e.1).map fun e => (e.2.opens.map fun o => size o.txn.data.length).sum).sum +
      32 * ((s.seq.ctxs.filter (·.2.pairCtx)).map fun e => (e.2.held.filter (·.st != .held)).length).sum
  else 0

/-- The mirror log of 256 MiB has room for one more record with `n` data bytes (R159, R372). -/
def logRoom (s : State) (n : Nat) : Bool := decide (logUse s + 20 + up4 (16 + n) ≤ 2 ^ 28)

/-- A record waits for log room (R372). -/
def logWaitNote (s : State) : State := irqEvent (bump s Pg.mir F.MIR_LOG_WAITS) Pg.mir 3

/-- Steps 7 to 9 of R109: the transaction is assigned NEXT_SEQ and passes its durability step (R110). -/
def assign (s : State) (flow : Nat) (t : Txn) : State :=
  let f := flowOf s flow
  let q := f.nextSeq
  let o : OpenRec := { seq := q, txn := t, first := f.first, sent := false, fill := none, wait := .none, nop := false }
  let room := logRoom s o.txn.data.length
  let mirrored := isPairFlow s flow && mirroring s && room
  let full := isPairFlow s flow && mirroring s && !room
  let alone := isPairFlow s flow && pairRole s == 2 && !mirrorOn s && s.pair.aloneWait
  let mp := if mirrored then mirrorPush s 1 true flow q (openRecBytes o) else (0, if full then logWaitNote s else s)
  let w : AccWait := if mirrored then .mirror mp.1 else if alone || full then .alone else if flowDurable s flow then .chest else .none
  let f1 := limitAdvance { f with nextSeq := seqAdd q 1, first := false, opens := f.opens ++ [{ o with wait := w }] }
  let s1 := setFlow mp.2 flow f1
  if w = .none then accept s1 flow q else s1

/-- Nothing of this flow leaves: it is a pair flow, and this member does not hold the pair node (R363). -/
def pairMute (s : State) (flow : Nat) : Bool := isPairFlow s flow && pairRole s != 2 && pairRole s != 5

/-- The pair's gate on a new transaction of a flow (R357): 0 it may go on, 1 it waits, 2 it is refused. -/
def pairGate (s : State) (flow : Nat) : Nat :=
  if isPairFlow s flow then
    (if pairRole s = 2 then 0 else if pairRole s = 3 then 2 else 1)
  else 0

/-! ## Issue (R103, R104, R109 steps 1 to 5) -/

/-- The tags a block takes (R103): the host bridge's writes and reads have pools of their own (R200). -/
def tagRange (init op : Nat) : Nat × Nat :=
  if init / 4096 = 1 then (if op = 1 then (192, 512) else (0, 192))
  else if init / 4096 = 2 ∨ init / 4096 = 5 then (512, 640)
  else if init / 4096 = 3 then (640, 704)
  else (704, 1024)

/-- The lowest free tag of a range (R104). -/
def lowestFree (used : List Nat) (lo hi : Nat) : Option Nat :=
  ((List.range (hi - lo)).map (· + lo)).find? fun t => !used.contains t

/-- A block that a transaction passes takes nothing new (R29, R54, R55): the sequencing engine, the page of its flow, or that of its headgate. -/
def issueBlocked (s : State) (t : Txn) : Option (Nat × Nat × Nat) :=
  ([Pg.seq, flwPg t.flow] ++ (flowHeadgate s t.flow).toList.map Pg.hdg).findSome? fun p => (blockRefuses s p).map fun r => (r.1, r.2, p)

/-- A path goes on behind a node that its ring's table shows to be no coupler (R40): node `n`, and the next level. -/
def pastLeaf (s : State) (sub : Bool) (n next : Nat) : Bool :=
  n != 0 && n != 63 && next != 0 && match nodeEnt s sub n with | some e => e.state != 0 && !e.coupler | none => false

/-- Steps 2 to 4 of R109: what refuses the transaction, as (status, cause, page). -/
def issueRefusal (s : State) (t : Txn) : Option (Nat × Nat × Nat) :=
  let ls := addrPath t.addr
  let p1 := ls.getD 0 0
  let leaf := if p1 = ownNode s ∧ isCoupler s = true then pastLeaf s true (ls.getD 1 0) (ls.getD 2 0) else pastLeaf s false p1 (ls.getD 1 0)
  if (issueBlocked s t).isSome then issueBlocked s t
  else if !(flowValid s t.flow && flowInit s t.flow == t.init && flowPath s t.flow == addrPathWord t.addr) then
    some (St.accessDenied, 0x40, Pg.seq)
  else if pairGate s t.flow = 2 then some (St.accessDenied, 0x40, Pg.par)
  else if !levelsDense ls || level63Early ls || (pathBroadcast ls && t.op != 6) || leaf then some (St.addrErr, 0, Pg.seq)
  else if t.len = 0 ∨ 256 < t.len ∨ regionSpan (addrOffset t.addr) t.len = .absent then some (St.addrErr, Cause.address, Pg.seq)
  else if p1 = 0 then none
  else if getB s Pg.nod F.NOD_SELF_STAT_CONFLICT then some (St.unreachable, 0x4A, Pg.seq)
  else if pathBroadcast ls ∧ flowHop s t.flow = 63 then
    (if portUp s (if flowSub s t.flow then .c1 else .e) || portUp s (if flowSub s t.flow then .c2 else .w) then none
     else some (St.unreachable, 0x43, Pg.seq))
  else
    match nodeEnt s (flowSub s t.flow) (flowHop s t.flow) with
    | some e => if e.state = 1 then none else if e.state = 4 then some (St.unreachable, 0x49, Pg.seq) else some (St.unreachable, 0x43, Pg.seq)
    | none => some (St.unreachable, 0x43, Pg.seq)

/-- A transaction that holds its tag goes through steps 2 to 5 of R109, and then waits for its turn in its flow. -/
def issueTagged (s : State) (t : Txn) : State :=
  match issueRefusal s t with
  | some (st, c, pg) => refuse s t st c pg
  | none =>
    match flowHeadgate s t.flow with
    | none => setFlow s t.flow { flowOf s t.flow with waiting := (flowOf s t.flow).waiting ++ [t] }
    | some hg =>
      let v := headgate s hg (txnCharge t.op t.len)
      if v.1 = .drop then irqEvent (bump (refuse v.2 t St.accessDenied 0x50 (Pg.hdg hg)) (Pg.hdg hg) F.HDG_DROP_TXN) (Pg.hdg hg) 2
      else setFlow v.2 t.flow { flowOf v.2 t.flow with waiting := (flowOf v.2 t.flow).waiting ++ [t] }

/-- The transaction with a tag. -/
def txnOf (t : TxnReq) (tag : Nat) : Txn :=
  { tag := tag, init := t.init, flow := t.flow, op := t.op, addr := t.addr.toNat, len := t.len, data := t.data, spec := t.spec,
    orphan := false }

/-- The tag comes into use. -/
def takeTag (s : State) (tag : Nat) : State := { s with seq := { s.seq with tags := tag :: s.seq.tags } }

/-- The operation is one that an initiator may issue (R100): NOP and FILL are the hub's own. -/
def opIssued (op : Nat) : Bool := decide (1 ≤ op) && decide (op ≤ 6)

/-- An offer takes the lowest free tag of its pool, or waits for one (R104, R109 step 1). While the hub accepts nothing it waits too (R127, R410). -/
def tagOffer (s : State) (t : TxnReq) : Option Txn × State :=
  let r := tagRange t.init t.op
  match s.seq.running, lowestFree s.seq.tags r.1 r.2 with
  | true, some tag => (some (txnOf t tag), takeTag s tag)
  | _, _ => (none, { s with seq := { s.seq with tagWait := s.seq.tagWait ++ [t] } })

/-- An initiator offers a transaction, which goes on once it has a tag. -/
def issueTxn (s : State) (t : TxnReq) : State :=
  if opIssued t.op then
    match tagOffer s t with
    | (some x, s1) => issueTagged s1 x
    | (none, s1) => s1
  else s

/-- A transaction takes its place before the first of a higher flow. -/
def insertByFlow (t : Txn) : List Txn → List Txn
  | [] => [t]
  | x :: xs => if t.flow < x.flow then t :: x :: xs else x :: insertByFlow t xs

/-- The transactions that waited for a tag take their tags, oldest first (R104); those that have one then reach their headgates, lower flow IDs
first (R168). -/
def drainTagWait (s : State) : State :=
  if s.seq.running then
    let r := s.seq.tagWait.foldl (fun (a : List Txn × State) t =>
      match tagOffer a.2 t with
      | (some x, s1) => (insertByFlow x a.1, s1)
      | (none, s1) => (a.1, s1)) ([], { s with seq := { s.seq with tagWait := [] } })
    r.1.foldl issueTagged r.2
  else s

/-! ## FILLs and epochs (R113, R123, R124) -/

/-- A FILL with this reason stands for an open number, and is sent at once (R113). -/
def startFill (s : State) (flow q reason : Nat) : State :=
  let f := flowOf s flow
  let s1 := setFlow s flow { f with
      opens := mapIf (·.seq == q) (fun x => { x with fill := some reason, wait := .none }) f.opens }
  if (f.furrow.map (·.seqs)).flatten.contains q then s1 else joinFurrow s1 flow q true

/-- Every initiator flow changed by `g`. -/
def mapFlows (s : State) (g : IFlow → IFlow) : State :=
  { s with seq := { s.seq with flows := s.seq.flows.map fun e => (e.1, g e.2) } }

/-- The open records of the transactions that `sel` accepts and whose acceptance has not been returned, by flow and number. -/
def unaccepted (s : State) (sel : Txn → Bool) : List (Nat × Nat) :=
  s.seq.flows.flatMap fun e => (e.2.opens.filter fun o => sel o.txn && o.wait != .none && o.fill.isNone).map fun o => (e.1, o.seq)

/-- What the hub has not accepted of the transactions that `sel` accepts completes with this status (R29, R55, R126, R214): one without a number
is refused; an open one is aborted (R113), or closes HANG at this hub. -/
def endUnaccepted (s : State) (sel : Txn → Bool) (status cause page : Nat) : State :=
  let gone := s.seq.flows.flatMap fun e => e.2.waiting.filter sel
  let s1 := gone.foldl (fun a t => refuse a t status cause page) (mapFlows s fun f => { f with waiting := f.waiting.filter fun t => !sel t })
  (unaccepted s sel).foldl (fun a x =>
    if status = St.hang then afterClose (closeRec (noteErr a page status cause 0) x.1 x.2 status cause false true []) x.1
    else startFill a x.1 x.2 St.aborted) s1

/-- Transactions that wait for a tag complete with this status; they hold no tag to name. -/
def endTagWait (s : State) (status cause page : Nat) : State :=
  s.seq.tagWait.foldl (fun a t => closeTo (noteErr a page status cause 0)
    { init := t.init, tag := 1024, status := status, cause := cause, effectful := false, data := [], orphan := false })
    { s with seq := { s.seq with tagWait := [] } }

/-- The flow's target has a new epoch: every open record closes EPOCH_LOST and the flow enters RESYNC (R124). -/
def epochFlow (s : State) (flow epoch : Nat) : State :=
  let f := flowOf s flow
  let n := (f.opens.filter (!·.nop)).length
  let s1 := closeAll s flow St.epochLost 0
  let s2 := irqEvent (bump s1 Pg.seq F.SEQ_EPOCH_CLOSED n) Pg.seq 4
  let s3 := setFlow s2 flow { flowOf s2 flow with peerEpoch := epoch, opens := [], furrow := [] }
  afterClose (enterResync s3 flow) flow

/-- The initiator flows that hold state. -/
def allFlows (s : State) : List Nat := (s.seq.flows.map (·.1)).filter (flowValid s)

/-- The epoch of every flow to a node of a ring is new (R123, first and third event; R124). A flow to a nested target below version 3 holds no
epoch of it, and counts as having learned one once it has sent (DEDUCED, log entry 138). -/
def epochNode (s : State) (sub : Bool) (node epoch : Nat) (nested : Bool) : State :=
  (allFlows s).foldl (fun a fl =>
    if flowP1 a fl ≠ 0 ∧ flowSub a fl = sub ∧ flowHop a fl = node ∧ flowDirect a fl = !nested ∧
       (if nested then (flowOf a fl).sentOnce = true else (flowOf a fl).peerEpoch ≠ 0)
    then epochFlow a fl (if nested then (flowOf a fl).peerEpoch else epoch) else a) s

/-- The epoch of every flow with the same target as this one is new (R124). -/
def epochPath (s : State) (flow epoch : Nat) : State :=
  let p := flowPath s flow
  (allFlows s).foldl (fun a fl => if flowPath a fl = p then epochFlow a fl epoch else a) s

/-! ## Paths and versions of flows -/

/-- The path rules of R147 for one flow after a change of ports or of REACH. -/
def pathRecheck (s : State) (flow : Nat) : State :=
  let f := flowOf s flow
  if isPinned s flow && f.sentOnce && !f.pathFence then
    let h := hashedPath s flow
    if pathUsable s flow f.pathW then
      (if f.pathW ≠ h ∧ pathUsable s flow h = true ∧ f.opens = [] then setFlow s flow { f with pathW := h } else s)
    else if pathUsable s flow (!f.pathW) then
      (if f.opens = [] then setFlow s flow { f with pathW := !f.pathW } else fenceStart s flow)
    else s
  else s

/-- The path rules of R147 for every flow. -/
def pathRecheckAll (s : State) : State := (allFlows s).foldl pathRecheck s

/-- The negotiated version of a node changes while its epoch stays: its flows are fenced and their open records go under the new
version; below version 2 open speculative READs complete SPEC_REFUSED (R85). -/
def versionFence (s : State) (sub : Bool) (node newVer : Nat) : State :=
  (allFlows s).foldl (fun a fl =>
    if flowP1 a fl ≠ 0 ∧ flowSub a fl = sub ∧ flowHop a fl = node then
      let specs := if newVer < 2 then ((flowOf a fl).opens.filter fun o => o.txn.spec && !o.nop).map (·.seq) else []
      let a1 := specs.foldl (fun b q =>
          bump (noteErr (closeRec b fl q St.specRefused 0x41 false true []) Pg.kvl St.specRefused 0x41 0) Pg.kvl F.KVL_SPEC_FALL) a
      let late := if newVer < 2 then (flowOf a1 fl).waiting.filter (·.spec) else []
      let a2 := late.foldl (fun b t => bump (refuse b t St.specRefused 0x41 Pg.kvl) Pg.kvl F.KVL_SPEC_FALL)
        (setFlow a1 fl { flowOf a1 fl with waiting := (flowOf a1 fl).waiting.filter fun t => !late.contains t })
      let a3 := if (flowOf a2 fl).opens.isEmpty then a2
        else irqEvent (setFlow a2 fl { flowOf a2 fl with verFence := true }) (flwPg fl) 2
      afterClose (requeueSent a3 fl) fl
    else a) s

end Sys2Proof.Machine
end

