-- ==== Sys2Proof/Machine/Time.lean ====
section
/-! DEFINITION. Local time, stamps, the transparent clock, the TX stamp queues, the servo and PPS as operations (spec/08), and the
queues of culvert items that time changes join (spec/09). PTP message layouts are those of IEEE 1588-2019 (PRESUMED, log entry 12). -/

namespace Sys2Proof.Machine

/-! ## Local time (R216, R217, R220) -/

/-- One nanosecond in the units of `TimeSt.acc`. -/
def unitNs : Nat := 256000000000

/-- The 48-bit count of seconds wraps here. -/
def timeWrap : Nat := 2 ^ 48 * 1000000000 * unitNs

def totalNs (s : State) : Nat := s.time.acc / unitNs
def nowSec (s : State) : Nat := totalNs s / 1000000000
def nowNs (s : State) : Nat := totalNs s % 1000000000

/-- Local time in 1/16 ns. -/
def now16 (s : State) : Nat := s.time.acc / 16000000000

/-- The 32-bit stamp of an instant given in whole nanoseconds (R220). -/
def stamp32 (ns : Nat) : Nat := ns % 2 ^ 32

/-- The monotonic microsecond count (R217). -/
def monoUs (s : State) : Nat := s.time.mono / (1000 * unitNs)

/-- The field die's copy in whole nanoseconds (R236). -/
def fieldNs (s : State) : Nat := s.time.facc / unitNs

/-- The long stamp of the field die's copy (R220). -/
def fieldLong (s : State) : Nat := (fieldNs s / 1000000000 % 2 ^ 32) * 2 ^ 32 + fieldNs s % 1000000000

/-- TMK.FREQ, signed (R216). -/
def tmkFreq (s : State) : Int := toSigned 32 (getF s Pg.tmk F.TMK_FREQ_FREQ)

/-- FIELD_SYNC as it reads: a STEP that the field die has not applied makes it 0 (R236, R260). -/
def fieldSync (s : State) : Bool := getB s Pg.tmk F.TMK_STAT_FIELD_SYNC && s.cul.stepWait == 0

/-- FIELD_SYNC as it stood this many nanoseconds ago, at most 10 µs (R236). -/
def syncBefore (s : State) (ns : Nat) : Bool :=
  match s.time.syncLog.find? fun e => decide (s.watchNs < e.1 + ns) with
  | some e => e.2
  | none => fieldSync s

/-- A change of FIELD_SYNC in this step is noted, and those of more than 10 µs ago are forgotten. -/
def syncNote (s : State) : State :=
  let now := fieldSync s
  let log := s.time.syncLog.filter fun e => decide (s.watchNs ≤ e.1 + 10000)
  { s with time := { s.time with syncWas := now, syncLog := if now = s.time.syncWas then log else log ++ [(s.watchNs, s.time.syncWas)] } }

/-- A count moved by a signed amount, within the wrap of SEC. -/
def timeMove (a : Nat) (d : Int) : Nat := (((a : Int) + d) % (timeWrap : Int)).toNat

/-- One nanosecond of the 25 MHz reference, or of the corrected watch oscillator while it is absent (R216, R219, R236). -/
def timeTick (s : State) : State :=
  let t := s.time
  let slew : Int := if t.fslewNs = 0 then 0 else t.fslew / (t.fslewNs : Int)
  { s with
    watchNs := s.watchNs + 1
    time := { t with
      acc := timeMove t.acc (unitNs + tmkFreq s)
      mono := (t.mono + unitNs + tmkFreq s).toNat
      facc := timeMove t.facc (unitNs + t.ffreq + slew)
      fslew := t.fslew - slew
      fslewNs := t.fslewNs - 1 } }

/-! ## Items on their way (R248, R249) -/

/-- An item joins the ring die's queue of its VC. -/
def ringItem (s : State) (i : Item) : State := { s with cul := { s.cul with ringW := s.cul.ringW ++ [i] } }

/-- A configuration copy joins the ring die's queue, with the next ITEM_ID of its REQ VC (R249). -/
def ringCfg (s : State) (c : CfgCopy) : State :=
  ringItem { s with cul := { s.cul with execId := (s.cul.execId + 1) % 65536 } } (.cfg s.cul.execId c)

/-- An item joins the field die's queue of its VC. -/
def fieldItem (s : State) (i : Item) : State := { s with cul := { s.cul with fieldW := s.cul.fieldW ++ [i] } }

/-- The culvert is UP. -/
def culUp (s : State) : Bool := getF s Pg.cul F.CUL_STAT_STATE == 2

/-- An EVT record of the field die, with its EVT sequence number (R249, R254). -/
def fieldRecord (s : State) (r : FieldRec) : State :=
  fieldItem { s with cul := { s.cul with evtSeq := (s.cul.evtSeq + 1) % 65536 } } (.record s.cul.evtSeq r)

/-- The pending state of a field page, as the field die reports it, with its EVT sequence number (R61, R249). -/
def fieldPend (s : State) (p : Nat) (v : Bool) : State :=
  fieldItem { s with cul := { s.cul with evtSeq := (s.cul.evtSeq + 1) % 65536 } } (.pend s.cul.evtSeq p v)

/-! ## The fault log (R450) -/

/-- An event is written to the fault log, or counted while the log is full. -/
def faultLog (s : State) (kind cls page detail : Nat) : State :=
  if s.test.flog.length < 128 then
    let r : FaultRec := {
      kind := kind, injected := getW s page 0x24 != 0#32, cls := cls, page := page, stamp := stamp32 (totalNs s), sec := nowSec s % 2 ^ 32
      detail := detail }
    { s with test := { s.test with flog := s.test.flog ++ [r] } }
  else irqEvent (bumpSat s Pg.bst F.BST_FLOG_OVF_COUNT) Pg.bst 5

/-! ## Steps and frequency (R230, R260) -/

/-- Local time steps by `d` units; the step goes to the field die, and a marker exchange in hand is discarded (R230, R260). -/
def timeStep (s : State) (d : Int) : State :=
  let s1 := { s with time := { s.time with acc := timeMove s.time.acc d }, cul := { s.cul with markX := s.cul.markX + 1 } }
  let s2 := irqEvent (bump s1 Pg.tmk F.TMK_STEPS) Pg.tmk 2
  ringItem { s2 with cul := { s2.cul with stepWait := s2.cul.stepWait + 1 } } (.step d)

/-- TMK.FREQ changes; the change goes to the field die (R260). -/
def setFreq (s : State) (f : Int) : State :=
  if tmkFreq s = f then s else ringItem (setF s Pg.tmk F.TMK_FREQ_FREQ (ofSigned 32 f)) (.freq f)

/-! ## The servo (R231 to R233) -/

/-- SERVO_STATE changes (R233). -/
def servoState (s : State) (st : Nat) : State :=
  if getF s Pg.tmk F.TMK_STAT_SERVO_STATE = st then s else irqEvent (setF s Pg.tmk F.TMK_STAT_SERVO_STATE st) Pg.tmk 3

/-- A number held between -l and l. -/
def clampTo (l x : Int) : Int := max (-l) (min l x)

/-- `a / b` rounded to nearest, ties upward (DESIGN CHOICE on ties, log entry 13). -/
def roundDiv (a b : Int) : Int := (2 * a + b) / (2 * b)

/-- The servo takes a sample of `e` in 1/16 ns (R232). -/
def servoSample (s : State) (e : Int) : State :=
  if !getB s Pg.tmk F.TMK_SERVO_CTL_EN then s
  else
    let s1 := bump (setF s Pg.tmk F.TMK_LAST_E_E (ofSigned 32 e)) Pg.tmk F.TMK_SERVO_SAMPLES
    if (getF s Pg.tmk F.TMK_SERVO_STEP_THRESH : Int) * 16 ≤ e.natAbs then
      let s2 := timeStep s1 (-e * 16000000000)
      servoState { s2 with time := { s2.time with good := 0 } } 1
    else
      let lim : Int := 256 * getF s Pg.tmk F.TMK_SERVO_LIMIT_LIMIT
      let integ0 := toSigned 32 (getF s Pg.tmk F.TMK_INTEG_INTEG)
      let integ := clampTo lim (roundDiv (integ0 * 2 ^ 20 + getF s Pg.tmk F.TMK_SERVO_KI_KI * e) (2 ^ 20))
      let freq := clampTo lim (-(roundDiv (getF s Pg.tmk F.TMK_SERVO_KP_KP * e + integ * 2 ^ 12) (2 ^ 12)))
      let good := if (e.natAbs : Int) < 16 * getF s Pg.tmk F.TMK_SERVO_LOCK_LOCK_NS then min (s.time.good + 1) 8 else 0
      let s2 := setFreq (setF s1 Pg.tmk F.TMK_INTEG_INTEG (ofSigned 32 integ)) freq
      servoState { s2 with time := { s2.time with good := good } } (if good = 8 then 2 else 1)

/-- No sample for HOLD, or the reference is lost (R219, R232). -/
def servoHold (s : State) : State :=
  if !getB s Pg.tmk F.TMK_SERVO_CTL_EN then s
  else
    let lim : Int := 256 * getF s Pg.tmk F.TMK_SERVO_LIMIT_LIMIT
    servoState (setFreq s (clampTo lim (-(toSigned 32 (getF s Pg.tmk F.TMK_INTEG_INTEG))))) 3

/-! ## Frame stamps (R222) -/

/-- The reported ingress stamp of a frame whose delimiter arrives now, in 1/16 ns. -/
def ingressStamp (s : State) (p : Port) : Nat :=
  ((now16 s : Int) - getF s Pg.tmk F.TMK_CORR_RX_LAT (portIdx p) - toSigned 16 (getF s Pg.tmk F.TMK_ADJ_RX_ADJ (portIdx p))).toNat

/-- The reported egress stamp of a frame whose delimiter leaves now, in 1/16 ns. -/
def egressStamp (s : State) (p : Port) : Nat :=
  if isEthPort p then
    ((now16 s : Int) + getF s Pg.tmk F.TMK_CORR_TX_LAT (portIdx p) + toSigned 16 (getF s Pg.tmk F.TMK_ADJ_TX_ADJ (portIdx p))).toNat
  else now16 s

/-! ## TX stamp queues (R229) -/

def tsqOf (s : State) (p : Nat) : List TsqEnt := (tabGet s.time.tsq p).getD []

def setTsq (s : State) (p : Nat) (q : List TsqEnt) : State :=
  setF { s with time := { s.time with tsq := if q.isEmpty then tabDel s.time.tsq p else tabSet s.time.tsq p q } }
    Pg.tsq F.TSQ_LEVEL_LEVEL q.length p

/-- A TS_REQ reference to an Ethernet port ends: its entry joins the queue, or is dropped while the queue is full. -/
def tsqPush (s : State) (p : Port) (e : TsqEnt) : State :=
  if !isEthPort p then s
  else if (tsqOf s (portIdx p)).length < 32 then setTsq s (portIdx p) (tsqOf s (portIdx p) ++ [e])
  else irqEvent (bumpSat s Pg.tsq F.TSQ_OVF_COUNT 1 (portIdx p)) Pg.tsq 6

/-! ## PTP frames (R224 to R227) -/

/-- The bytes with `new` written over them from offset `o`. -/
def putBytes (bs : List Byte) (o : Nat) (new : List Byte) : List Byte := bs.take o ++ new ++ bs.drop (o + new.length)

/-- The frame is a PTP version 2 message in the Ethernet mapping (R224). -/
def isPtp (f : Frame) : Bool := f.etype == 0x88F7 && 34 ≤ f.payload.length && beAt f.payload 1 1 % 16 == 2

/-- messageType: 0 Sync, 2 Pdelay_Req, 3 Pdelay_Resp, 8 Follow_Up, 10 Pdelay_Resp_Follow_Up. -/
def ptpType (f : Frame) : Nat := beAt f.payload 0 1 % 16

/-- twoStepFlag. -/
def ptpTwoStep (f : Frame) : Bool := beAt f.payload 6 1 / 2 % 2 == 1

/-- correctionField grows by a number of 1/16 ns. -/
def ptpCorrect (f : Frame) (d : Int) : Frame :=
  { f with payload := putBytes f.payload 8 (beBytes 8 (ofSigned 64 (toSigned 64 (beAt f.payload 8 8) + d * 4096))) }

/-- A residence-table entry of this frame's Sync at an egress port. -/
def resMatch (f : Frame) (p : Port) (e : ResEnt) : Bool :=
  e.portId == beAt f.payload 20 10 && e.seqId == beAt f.payload 30 2 && e.domain == beAt f.payload 4 1 && e.egress == p

/-- What the transparent clock makes of a frame that leaves port `p` (R225); `rx` is its ingress stamp on port `i`. The answer says whether the
frame is corrected. -/
def tcEgress (s : State) (i p : Port) (rx : Nat) (f : Frame) : Frame × Bool × State :=
  let ring := (i == .e || i == .w) && (p == .e || p == .w || p == .m)
  if !(getB s Pg.tmk F.TMK_CTL_TC_EN && ring && isPtp f) then (f, false, s)
  else
    let corr : Int := (egressStamp s p : Int) - rx + getF s Pg.tmk F.TMK_LINK_DELAY_DELAY (portIdx i) +
      toSigned 32 (getF s Pg.tmk F.TMK_ASYM_ASYM (portIdx i))
    if ptpType f = 0 ∧ ptpTwoStep f = false then (ptpCorrect f corr, true, s)
    else if ptpType f = 0 then
      let e : ResEnt := { portId := beAt f.payload 20 10, seqId := beAt f.payload 30 2, domain := beAt f.payload 4 1, egress := p, corr := corr }
      let r0 := if s.time.resid.length < 64 then s.time.resid else s.time.resid.drop 1
      (f, false, { s with time := { s.time with resid := r0 ++ [e] } })
    else if ptpType f = 8 then
      match takeFirst (resMatch f p) s.time.resid with
      | some (e, r) => (ptpCorrect f e.corr, true, { s with time := { s.time with resid := r } })
      | none => (f, false, bump s Pg.tmk F.TMK_TC_NOMATCH)
    else (f, false, s)

/-- The egress of a frame at port `p` ends (R225): a correction counts once the frame is SENT; an egress that is discarded frees the entry it
stored. -/
def tcEnd (s : State) (p : Port) (f : Frame) (sent : Bool) : State :=
  let s1 := if sent && s.sw.tcWire.contains (portIdx p) then bump s Pg.tmk F.TMK_TC_CORRECTED else s
  let s2 := { s1 with sw := { s1.sw with tcWire := s1.sw.tcWire.filter (· != portIdx p) } }
  if sent || ptpType f != 0 then s2 else { s2 with time := { s2.time with resid := s2.time.resid.filter fun e => !resMatch f p e } }

/-- ONE_STEP insertion (R227): the egress time goes into originTimestamp, its fraction into correctionField. -/
def oneStepInsert (s : State) (p : Port) (f : Frame) : Frame :=
  if getB s Pg.tmk F.TMK_CTL_ONE_STEP_EN && isPtp f && ptpType f == 0 then
    let t := egressStamp s p
    let org := beBytes 6 (t / 16 / 1000000000) ++ beBytes 4 (t / 16 % 1000000000)
    ptpCorrect { f with payload := putBytes f.payload 34 org } ((t % 16 : Nat) : Int)
  else f

end Sys2Proof.Machine
end

