-- ==== Sys2Proof/Machine/Flow.lean ====
section
/-! DEFINITION. Frames at their ends, egress selection, ageing, completions on their way out, and the sending side's answers to
time-outs, completions, aborts and FILLs, as operations (spec/04, spec/05, spec/06). -/

namespace Sys2Proof.Machine

/-! ## Journal errors (R160) -/

/-- What a journal byte holds (R118, R159). Where a context, a store or a slot stands within its region is the model's choice (log entry 139). -/
inductive JPlace where
  | ctx (c : Nat)
  | retx (tag : Nat)
  | log (i : Nat)
  | cache (c slot : Nat)
  | hold (c slot : Nat)
  | user
  | other
  deriving DecidableEq, Repr

def jrnPlace (b : Nat) : JPlace :=
  if b < 0x100000 then .ctx (b / 256)
  else if b < 0x100000 + 1024 * 288 then .retx ((b - 0x100000) / 288)
  else if 0x200000 ≤ b ∧ b < 0x200000 + 4096 * 16 then .log ((b - 0x200000) / 16)
  else if 0x1000000 ≤ b ∧ b < 0x23000000 then
    let c := (b - 0x1000000) / 0x22000
    let slot := (b - 0x1000000) % 0x22000 / 272
    if slot < 256 then .cache c slot else .hold c (slot - 256)
  else if 0x40000000 ≤ b then .user
  else .other

/-- An uncorrectable journal error is counted and its address captured once. -/
def jrnUncorr (s : State) (e : JEcc) : State :=
  let s1 := faultLog (irqEvent (bump s Pg.jrn F.JRN_ECC_UNCORR) Pg.jrn 2) 3 1 Pg.jrn e.addr
  if getB s1 Pg.jrn F.JRN_ECC_STAT_VALID then s1
  else
    setF (setF (setB (setB s1 Pg.jrn F.JRN_ECC_STAT_VALID true) Pg.jrn F.JRN_ECC_STAT_USER (decide (0x40000000 ≤ e.addr)))
      Pg.jrn F.JRN_ECC_ADDR_LO_ADDR_LO (e.addr % 2 ^ 32)) Pg.jrn F.JRN_ECC_ADDR_HI_ADDR_HI (e.addr / 2 ^ 32)

/-- An uncorrectable buffer error is reported, and captured if it is the first (R133, R134). -/
def eccCapture (s : State) (e : EccFault) : State :=
  let s1 := faultLog (irqEvent s Pg.buf 2) 3 0 Pg.buf e.index
  if getB s1 Pg.buf F.BUF_ECC_STAT_VALID then s1
  else
    setF (setF (setF (setB s1 Pg.buf F.BUF_ECC_STAT_VALID true) Pg.buf F.BUF_ECC_STAT_WHERE e.place)
      Pg.buf F.BUF_ECC_ADDR_INDEX e.index) Pg.buf F.BUF_ECC_ADDR_WORD e.word

/-! ## Completions on their way out (R142, R170, R484) -/

/-- The CPL frame of a completion. -/
def cplFrame (s : State) (c : CplOut) : Frame :=
  kvlFrame s c.dmac (if c.hdr.src = mkRoute 0 [pairNode s] ∧ pairRole s ≠ 0 then pairMac s else ownMac s) c.hdr (cplBody c.nextExp c.recs)

/-- A completion frame in cells that it keeps (R154): its references take the place of those of the frame it was. -/
def storeKept (s : State) (fid : Nat) (d : Desc) (ports : List Port) : State :=
  match tabGet s.sw.frames fid with
  | none => s
  | some k =>
    let up := ports.filter (portTakes s)
    let s1 := (ports.filter fun p => !portTakes s p).foldl (fun a p => bump a Pg.swc F.SWC_DOWN_DROP 1 (portIdx p)) s
    let d1 := { d with refs := up.map (fun p => { port := p, outcome := 0 }), reserve := k.reserve, shared := k.shared }
    let s2 := putDesc s1 fid d1
    let s3 := if d.loc.isSome then { s2 with sw := { s2.sw with localQ := s2.sw.localQ ++ [fid] } } else s2
    joinQueues s3 fid d.cls up

/-- One completion leaves once its cells are there and the class 4 service sluice of each port it takes a reference on holds zero or more
tokens; a completion of a local transaction goes to the local sequencing engine. `none`: it waits. -/
def cplLeave (s : State) (c : CplOut) : Option State :=
  let f := cplFrame s c
  let up := c.ports.filter (portTakes s)
  if up.all (fun p => sluOpen s Pg.slu40 (svcSluice p 4)) then
    let s1 := up.foldl (fun a p => sluCharge (waitEnd a (8192 + portIdx p)) Pg.slu40 (svcSluice p 4) (frameLen f)) s
    let d := { ownDesc s1 f 4 with loc := if c.ports.isEmpty then some 0 else none }
    match c.keep with
    | some fid =>
      let n := nextHsr s1 f.smac
      some (storeKept n.2 fid (descTag d { path := 0, seq := n.1 }) c.ports)
    | none => if c.ports.isEmpty then storeFrame s1 d [] else sendHsr s1 d c.ports
  else none

/-- The completions that wait, oldest first; one that waits holds back the later ones of its ports. -/
def drainCpl : List CplOut → List Port → State → State
  | [], _, s => s
  | c :: cs, held, s =>
    if c.ports.any held.contains then drainCpl cs held { s with seq := { s.seq with cplOut := s.seq.cplOut ++ [c] } }
    else
      match cplLeave s c with
      | some s1 => drainCpl cs held s1
      | none =>
        let s1 := (c.ports.filter (portTakes s)).foldl (fun a p =>
          sluDebt a (8192 + portIdx p) (2 ^ 32 * c.hdr.srcFlow + c.hdr.baseSeq) Pg.slu40 (svcSluice p 4)) s
        drainCpl cs (held ++ c.ports) { s1 with seq := { s1.seq with cplOut := s1.seq.cplOut ++ [c] } }

/-- The egress of the completion of a REQ (R484): `port` is where the REQ arrived. -/
def cplPorts (dup : Bool) (port : Option Port) : List Port :=
  match port with
  | none => []
  | some p => if p = .m then [] else if dup then (if isSubPort p then [.c1, .c2] else [.e, .w]) else [p]

/-- The MAC address of the PRESENT entry of a ring that announces UPLINK (R94). -/
def uplinkEnt (s : State) (sub : Bool) : Option NodeEnt :=
  ((if sub then s.ring.st else s.ring.nt).find? fun e => e.2.state == 1 && e.2.uplink).map (·.2)

/-- The ring a frame arrived on is the subring. -/
def onSub (port : Option Port) : Bool := match port with | some p => isSubPort p | none => false

/-- The version a completion is formed under: the one negotiated with the node it goes to, else that of the request (R84). -/
def cplVer (s : State) (k : Kvl) (port : Option Port) : Nat :=
  match if routeUp k.src = 0 then nodeEnt s (onSub port) (routeL1 k.src) else uplinkEnt s (onSub port) with
  | some e => if e.state = 1 ∧ 0 < e.negVer then e.negVer else k.ver
  | none => k.ver

/-- A completion of a REQ with this header joins those that wait to leave. One for a node above the ring goes to the ring's uplink; without one
it is not sent, and reported UNREACHABLE (R94). -/
def sendCpl (s : State) (k : Kvl) (smac : Nat) (port : Option Port) (base nextExp : Nat) (recs : List CplRec) (keep : Option Nat)
    (aged : Bool) : State :=
  match if routeUp k.src = 0 then some smac else (uplinkEnt s (onSub port)).map (·.mac) with
  | none =>
    let s1 := match keep with | some fid => { s with sw := { s.sw with frames := tabDel s.sw.frames fid } } | none => s
    recs.foldl (fun a _ => noteErr a Pg.seq St.unreachable 0x43 0) s1
  | some mac =>
    let pairT := pairRole s != 0 && routeL1 k.dst == pairNode s && routeUp k.dst == 0
    let epoch := if pairT then pairEpoch s else ownEpoch s
    let hdr : Kvl := { k with ver := cplVer s k port, type := tyCpl, cls := 4, rewrites := 0, dst := k.src, src := k.dst, baseSeq := base,
                              count := recs.length, bodyLen := 0, srcEpoch := if aged then ownEpoch s else epoch,
                              dstEpoch := if aged then k.dstEpoch else epoch }
    { s with seq := { s.seq with cplOut := s.seq.cplOut ++
        [{ hdr := hdr, dmac := mac, keep := keep, recs := recs, nextExp := nextExp, ports := cplPorts k.dup port }] } }

/-! ## AGED records at the sending side (R112, R113, R154) -/

/-- An AGED record for an open number: a NOP ignores it, a standing FILL ignores it, any other starts a FILL. -/
def agedRec (s : State) (flow q : Nat) : State :=
  match openAt (flowOf s flow) q with
  | none => s
  | some o => if o.nop ∨ o.fill.isSome ∨ isBcast o.txn then s else startFill s flow q 0x20

/-! ## Ends of references (R122, R151, R154, R155, R227, R229) -/

/-- The flow and number that hold a tag. -/
def tagHolder (s : State) (tag : Nat) : Option (Nat × Nat) :=
  match s.seq.flows.find? (fun e => e.2.opens.any fun o => o.txn.tag == tag && !o.nop) with
  | none => none
  | some e => (e.2.opens.find? fun o => o.txn.tag == tag && !o.nop).map fun o => (e.1, o.seq)

/-- A broadcast EVENT has left, or cannot leave (R122, R155). Nobody answers the FILL of one, which closes it by its REASON once it has left. -/
def bcastEnd (s : State) (tag : Nat) (sent : Bool) : State :=
  match tagHolder s tag with
  | none => s
  | some (fl, q) =>
    let reason := ((openAt (flowOf s fl) q).bind (·.fill)).getD St.ok
    if sent then afterClose (closeRec s fl q reason 0 (reason == St.ok) true []) fl
    else afterClose (closeRec (irqEvent (noteErr s Pg.swc St.unreachable 0x40 0) Pg.swc 4) fl q St.unreachable 0x40 false true []) fl

/-- The records of a REQ that is discarded by age come back AGED (R154): to the local engine where this hub formed the frame, else by a CPL
in the frame's own head cells. `d` is its descriptor, which its table no longer holds. -/
def agedReq (s : State) (fid : Nat) (d : Desc) : State :=
  match frameKvl s d.frame with
  | none => s
  | some k =>
    let own := d.ingress.isNone
    match if k.type = tyReq ∧ (own && pathBroadcast (routeLevels k.dst)) = false then reqBodyParse k.count (kvlBody d.frame.payload k) else none with
    | none => s
    | some (_, rs) =>
      let s0 := irqEvent (bump s Pg.swc F.SWC_AGED_CPL) Pg.swc 3
      if own then
        (List.range rs.length).foldl (fun a i => agedRec a k.srcFlow (seqAdd k.baseSeq i)) s0
      else
        let recs := rs.map fun r => ({ status := St.aged, late := false, effectful := false, filled := false, tag := r.tag, cause := 0,
                                       data := [] } : CplRec)
        let n := frameCells (18 + 6 + kvlHdrLen k.ver + (cplBody 0 recs).length)
        let r := min n (poolMin s 1 - poolUse s 1)
        let keep := { d with pool := 1, cls := 4, refs := [], loc := none, reserve := r, shared := n - r }
        sendCpl { s0 with sw := { s0.sw with frames := tabSet s0.sw.frames fid keep } } k d.frame.smac d.ingress k.baseSeq 0 recs (some fid) true

/-- What follows once every reference of a frame has ended: a REQ with an aged reference and none SENT is returned AGED (R154). -/
def frameEnded (s : State) (fid : Nat) (d : Desc) : State :=
  let ends := d.refs.map (·.outcome) ++ d.loc.toList
  if refsEnded d && ends.contains 2 && !ends.contains 1 then agedReq s fid d else s

/-- A reference ends with an outcome, with everything that follows from it. `t` is the egress stamp of a frame that was SENT. -/
def finishRef (s : State) (fid : Nat) (p : Port) (outcome t : Nat) : State :=
  match tabGet s.sw.frames fid with
  | none => s
  | some d =>
    let d1 := { d with
      refs := d.refs.map fun r => if r.port = p ∧ r.outcome = 0 then { r with outcome := outcome } else r
      bcastTags := if outcome = 1 then [] else d.bcastTags }
    let s1 := putDesc s fid d1
    let s2 := if outcome = 1 ∨ outcome = 2 then s1 else bump s1 Pg.swc F.SWC_DOWN_DROP 1 (portIdx p)
    let s3 := match d.tsId with
      | none => s2
      | some i => tsqPush s2 p (if outcome = 1 then { id := i, notSent := false, stamp := stamp32 (t / 16) }
                                else { id := i, notSent := true, stamp := 0 })
    let s4 := if outcome = 1 ∨ refsEnded d1 = true then d.bcastTags.foldl (fun a tag => bcastEnd a tag (outcome == 1)) s3 else s3
    frameEnded s4 fid d1

/-- The LOCAL reference of a frame ends with an outcome other than SENT. -/
def finishLocal (s : State) (fid outcome : Nat) : State :=
  let s1 := endLocal s fid outcome
  match tabGet s.sw.frames fid with
  | none => s1
  | some d => if d.loc = some 0 then frameEnded s1 fid { d with loc := some outcome } else s1

/-- A frame of class `c` with this stamp is past its age limit (R152, R153). -/
def isAged (s : State) (c stamp : Nat) : Bool :=
  c != 4 && decide (getF s Pg.swc F.SWC_AGE_LIMIT c < (stampNow s c + 65536 - stamp % 65536) % 65536)

/-- The head of a class queue is discarded by age (R153). -/
def dropAged (s : State) (p : Port) (c fid : Nat) : State :=
  let s1 := bump (setQueue s p c ((queueOf s p c).drop 1)) Pg.swc F.SWC_AGED_FRAMES 1 c
  finishRef s1 fid p 2 0

/-- The heads of a class queue that are past their limit are discarded. `n` bounds how many. -/
def sweepQueue : Nat → State → Port → Nat → State
  | 0, s, _, _ => s
  | n + 1, s, p, c =>
    match queueOf s p c with
    | [] => s
    | fid :: _ =>
      match tabGet s.sw.frames fid with
      | none => sweepQueue n (setQueue s p c ((queueOf s p c).drop 1)) p c
      | some d => if isAged s c d.stamp then sweepQueue n (dropAged s p c fid) p c else s

/-- The burst at the head of a furrow is discarded by age: its records come back AGED (R153, R154). -/
def furrowAged (s : State) (flow : Nat) : State :=
  match (flowOf s flow).furrow with
  | [] => s
  | b :: bs =>
    let c := flowCls s flow
    let s1 := bump (setFlow s flow { flowOf s flow with furrow := bs }) Pg.swc F.SWC_AGED_FRAMES 1 c
    let s2 := if b.seqs.any fun q => match openAt (flowOf s1 flow) q with | some o => !isBcast o.txn | none => false then
        irqEvent (bump s1 Pg.swc F.SWC_AGED_CPL) Pg.swc 3
      else s1
    b.seqs.foldl (fun a q =>
      match openAt (flowOf a flow) q with
      | some o => if isBcast o.txn then bcastEnd a o.txn.tag false else agedRec a flow q
      | none => a) s2

/-- The heads of a furrow that are past their limit are discarded; FILLs that this starts join at the tail with stamps of now. -/
def sweepFurrow : Nat → State → Nat → State
  | 0, s, _ => s
  | n + 1, s, flow =>
    match (flowOf s flow).furrow with
    | [] => s
    | b :: _ => if isAged s (flowCls s flow) b.stamp then sweepFurrow n (furrowAged s flow) flow else s

/-- Every class queue of every port. -/
def allQueues : List (Port × Nat) := (List.range 56).map fun i => (portOf (i / 8), i % 8)

/-- The age sweeper (R153). -/
def ageSweep (s : State) : State :=
  let s1 := allQueues.foldl (fun a pc => sweepQueue (queueOf a pc.1 pc.2).length a pc.1 pc.2) s
  (allFlows s1).foldl (fun a fl => sweepFurrow (flowOf a fl).furrow.length a fl) s1

/-! ## Release of a furrow (R107, R142, R170) -/

/-- The ports a flow's bursts reference. -/
def flowPorts (s : State) (flow : Nat) : List Port :=
  if flowP1 s flow = 0 then []
  else
    let sub := flowSub s flow
    if !isPinned s flow then (if sub then [.c1, .c2] else [.e, .w])
    else [if sub then (if (flowOf s flow).pathW then .c2 else .c1) else (if (flowOf s flow).pathW then .w else .e)]

/-- The longest run of consecutive open numbers at the start of a burst. -/
def burstRun (f : IFlow) : List Nat → List Nat
  | [] => []
  | q :: qs =>
    if (openAt f q).isSome then
      match qs with
      | [] => [q]
      | q' :: _ => if q' = seqAdd q 1 then q :: burstRun f qs else [q]
    else []

/-- The REQ of a run of records (R80, R105, R125). -/
def reqHdr (s : State) (flow : Nat) (run : List Nat) : Kvl :=
  { ver := flowVer s flow, type := tyReq, cls := flowCls s flow, dup := flowDup s flow, rewrites := 0, dst := flowDst s flow,
    src := flowSrc s flow, initiator := flowInit s flow, srcFlow := flow, baseSeq := run.headD 0, count := run.length, bodyLen := 0,
    srcEpoch := if isPairFlow s flow then pairEpoch s else ownEpoch s,
    dstEpoch := if flowHop s flow = 63 then 0 else (flowOf s flow).peerEpoch }

/-- The destination MAC of a flow's frames (R79). -/
def flowDmac (s : State) (flow : Nat) : Nat :=
  if flowP1 s flow = 0 then ownMac s
  else if flowHop s flow = 63 then macBroadcast
  else match nodeEnt s (flowSub s flow) (flowHop s flow) with | some e => e.mac | none => 0

/-- What a first send settles for its flow: the path (R147) and the peer's epoch where the target is the next node (R123). -/
def firstSend (s : State) (flow : Nat) : State :=
  let f := flowOf s flow
  let f1 := if f.sentOnce then f else { f with sentOnce := true, pathW := choosePath s flow (hashedPath s flow) }
  let f2 := if f1.peerEpoch = 0 ∧ flowP1 s flow ≠ 0 ∧ flowHop s flow ≠ 63 ∧ flowDirect s flow = true then
      (match nodeEnt s (flowSub s flow) (flowHop s flow) with | some e => { f1 with peerEpoch := e.epoch } | none => f1)
    else f1
  setFlow s flow f2

/-- The REQ frame of a run of records of a flow. -/
def reqFrame (s : State) (flow : Nat) (run : List Nat) : Frame :=
  let f := flowOf s flow
  kvlFrame s (flowDmac s flow) (if isPairFlow s flow then pairMac s else ownMac s) (reqHdr s flow run)
    (beBytes 4 (oldestOpen f) ++ beBytes 4 0 ++ ((run.filterMap (openAt f)).map openRecBytes).flatten)

/-- A run of records has left its furrow. -/
def runSent (s : State) (flow : Nat) (run : List Nat) (rest : List Burst) (bc : Bool) : State :=
  let f := flowOf s flow
  let floor := oldestOpen f
  setFlow s flow { f with
      furrow := rest
      opens := mapIf (fun o => run.contains o.seq) (fun o => { o with sent := true }) f.opens
      timer := f.timer || (!bc && run.contains floor)
      retries := if !f.timer && !bc && run.contains floor then flowRetries s flow else f.retries
      floorAdv := floor
      closedNN := f.closedNN.filter fun q => decide (seqSub q floor < 2 ^ 31) }

/-- A furrow releases its head burst when every meter that applies holds zero or more tokens and its cells are there (R142, R170). What a
first send settles (R147) it settles only then. -/
def furrowRelease (s0 : State) (flow : Nat) : State :=
  match (flowOf s0 flow).furrow with
  | [] => s0
  | b :: bs =>
    let f0 := flowOf s0 flow
    if f0.pathFence || pairMute s0 flow then s0
    else if isAged s0 (flowCls s0 flow) b.stamp then furrowAged s0 flow
    else if (burstRun f0 b.seqs).isEmpty then
      setFlow s0 flow { f0 with furrow := (if b.seqs.length ≤ 1 then bs else { b with seqs := b.seqs.drop 1 } :: bs) }
    else
      let s := firstSend s0 flow
      let run := (burstRun f0 b.seqs).take (maxCount (flowVer s flow))
      let tags := ((run.filterMap (openAt f0)).filter fun o => isBcast o.txn).map (·.txn.tag)
      let cls := flowCls s flow
      let ports := if tags.isEmpty then flowPorts s flow else if flowSub s flow then [.c1, .c2] else [.e, .w]
      let up := ports.filter (portTakes s)
      let pg := Pg.slu (flow / 64)
      let svc := up.map fun p => svcSluice p cls
      if !(sluOpen s pg (flow % 64) && svc.all (sluOpen s Pg.slu40)) then
        svc.foldl (fun a i => sluDebt a flow (b.seqs.headD 0) Pg.slu40 i) (sluDebt s0 flow (b.seqs.headD 0) pg (flow % 64))
      else
        let frame := reqFrame s flow run
        let d := { ownDesc s frame cls with stamp := b.stamp, bcastTags := tags, loc := if ports.isEmpty then some 0 else none }
        match if ports.isEmpty then storeFrame s d [] else sendHsr s d ports with
        | none => s0
        | some s1 =>
          let s2 := svc.foldl (fun a i => sluCharge a Pg.slu40 i (frameLen frame))
            (sluCharge (waitEnd s1 flow) pg (flow % 64) (frameLen frame))
          let rest := b.seqs.drop run.length
          let s3 := runSent s2 flow run (if rest.isEmpty then bs else { b with seqs := rest } :: bs) (!tags.isEmpty)
          if up.isEmpty then
            (if ports.any (portUp s) then tags.foldl (fun a t => bcastEnd a t false) s3
             else (run.filter fun q => (openAt (flowOf s3 flow) q).any fun o => isBcast o.txn).foldl (fun a q =>
               afterClose (closeRec (noteErr a Pg.seq St.unreachable 0x43 0) flow q St.unreachable 0x43 false true []) flow) s3)
          else s3

/-! ## Egress selection (R25, R143, R151, R173, R174) -/

/-- The quantum of a weighted class on a port (R174). -/
def quantum (s : State) (p : Port) (c : Nat) : Nat :=
  if c = 0 then getF s Pg.slu40 F.SLU40_QUANTUM_LO_Q0 (portIdx p)
  else if c = 1 then getF s Pg.slu40 F.SLU40_QUANTUM_LO_Q1 (portIdx p)
  else if c = 2 then getF s Pg.slu40 F.SLU40_QUANTUM_HI_Q2 (portIdx p)
  else getF s Pg.slu40 F.SLU40_QUANTUM_HI_Q3 (portIdx p)

def deficit (s : State) (p : Port) (c : Nat) : Nat := (tabGet s.sw.deficit (8 * portIdx p + c)).getD 0
def setDeficit (s : State) (p : Port) (c n : Nat) : State :=
  { s with sw := { s.sw with deficit := if n = 0 then tabDel s.sw.deficit (8 * portIdx p + c) else tabSet s.sw.deficit (8 * portIdx p + c) n } }
def curClass (s : State) (p : Port) : Nat := (tabGet s.sw.cur (portIdx p)).getD 3
def freshClass (s : State) (p : Port) : Bool := (tabGet s.sw.fresh (portIdx p)).getD true
def setCur (s : State) (p : Port) (c : Nat) (fr : Bool) : State :=
  { s with sw := { s.sw with cur := tabSet s.sw.cur (portIdx p) c, fresh := tabSet s.sw.fresh (portIdx p) fr } }

/-- next(3) is 2, next(2) is 1, next(1) is 0, next(0) is 3 (R173). -/
def nextClass (c : Nat) : Nat := if c = 0 then 3 else c - 1

/-- The longest frame the hub sends (R6). -/
def maxFrame : Nat := 9216

/-- A port on which frames keep their HSR tag: the ring ports, and a MIRROR port (R79). -/
def keepsTag (s : State) (p : Port) : Bool := isHsrPort s p || (isSubPort p && getF s (portPage p) F.PORT_CFG_ROLE == 3)

/-- Bytes of a frame as it leaves a port: without its HSR tag where the port sends none (R74), and no more than the longest frame (R144). -/
def egressLen (s : State) (p : Port) (f : Frame) : Nat :=
  min maxFrame (frameLen (if keepsTag s p then f else { f with hsr := none }))

/-- The charge of the head of a class queue at the port sluice (R166, R173). -/
def headCharge (s : State) (p : Port) (c : Nat) : Nat :=
  match queueOf s p c with
  | [] => 0
  | fid :: _ => match tabGet s.sw.frames fid with
    | none => 0
    | some d => egressLen s p d.frame + getF s Pg.slu40 F.SLU_CTL_OVERHEAD (portSluice p)

/-- The weighted service of classes 3 to 0 (R173). Each round of four classes adds a quantum to a non-empty one, so 700 rounds pass
the greatest charge at the least quantum. -/
def selectWeighted : Nat → State → Port → Option Nat × State
  | 0, s, _ => (none, s)
  | n + 1, s, p =>
    let c := curClass s p
    if (queueOf s p c).isEmpty then selectWeighted n (setCur (setDeficit s p c 0) p (nextClass c) true) p
    else if freshClass s p then selectWeighted n (setCur (setDeficit s p c (deficit s p c + quantum s p c)) p c false) p
    else if headCharge s p c ≤ deficit s p c then (some c, setDeficit s p c (deficit s p c - headCharge s p c))
    else selectWeighted n (setCur s p (nextClass c) true) p

/-- The class an idle port serves next (R173). -/
def selectClass (s : State) (p : Port) : Option Nat × State :=
  if !sluOpen s Pg.slu40 (portSluice p) then
    (none, if (List.range 8).all (fun c => (queueOf s p c).isEmpty) then s
      else sluDebt s (4096 + portIdx p) 0 Pg.slu40 (portSluice p))
  else
    match [7, 6, 5, 4].find? (fun c => !(queueOf s p c).isEmpty) with
    | some c => (some c, s)
    | none =>
      if [3, 2, 1, 0].all (fun c => (queueOf s p c).isEmpty) then (none, s) else selectWeighted 3000 s p

/-- The frame as it leaves port `p`: HSR path identifier, transparent clock, one-step time (R70, R225, R227). A stomped frame takes no
correction. -/
def egressFrame (s : State) (p : Port) (d : Desc) : Frame × State :=
  let f0 := match d.frame.hsr with
    | some h => { d.frame with hsr := if keepsTag s p then some (if !isHsrPort s p || d.ingress.isSome && isHsrPort s (d.ingress.getD .m) &&
                    isSubPort (d.ingress.getD .m) == isSubPort p then h else { h with path := hsrPathOf s p }) else none }
    | none => d.frame
  let r := match (if d.stomped then none else d.ingress) with
    | some i => tcEgress s i p d.rxTime f0
    | none => (f0, false, s)
  let s1 := if r.2.1 then { r.2.2 with sw := { r.2.2.sw with tcWire := r.2.2.sw.tcWire ++ [portIdx p] } } else r.2.2
  if d.oneStep then (oneStepInsert s1 p r.1, s1) else (r.1, s1)

/-- A frame starts to leave a port: the port sluice is charged, and the frame stands on the wire (R172, R173). -/
def startFrame (s : State) (p : Port) (fid : Nat) : State :=
  match tabGet s.sw.frames fid with
  | none => s
  | some d =>
    let e := egressFrame s p d
    let s1 := sluCharge (waitEnd e.2 (4096 + portIdx p)) Pg.slu40 (portSluice p) (egressLen s p d.frame)
    let s2 := { s1 with sw := { s1.sw with onWire := tabSet s1.sw.onWire (portIdx p) (fid, egressStamp s p) } }
    if p = .m then emit s2 (.local e.1 d.ingress d.rxTime)
    else
      let s3 := emit s2 (.frame p e.1 d.stomped)
      if isEthPort p then bump s3 (portPage p) F.PORT_TX_FRAMES else s3

/-- The frame on a port's wire is on it no more; `sent` says whether all of it has left. -/
def wireOff (s : State) (p : Port) (sent : Bool) : State :=
  match tabGet s.sw.onWire (portIdx p) with
  | none => s
  | some (fid, _) =>
    let s1 := match tabGet s.sw.frames fid with | some d => tcEnd s p d.frame sent | none => s
    { s1 with sw := { s1.sw with onWire := tabDel s1.sw.onWire (portIdx p) } }

/-- The frame on a port's wire has ended (R151). -/
def wireEnd (s : State) (p : Port) (outcome : Nat) : State :=
  match tabGet s.sw.onWire (portIdx p) with
  | none => s
  | some (fid, t) => finishRef (wireOff s p (outcome == 1)) fid p outcome t

/-- Every open reference of a frame ends with an outcome, in every queue it stands in, and on the wire. -/
def dropFrame (s : State) (fid outcome : Nat) : State :=
  match tabGet s.sw.frames fid with
  | none => s
  | some d =>
    let s1 := (s.sw.onWire.filter fun w => w.2.1 == fid).foldl (fun a w => wireOff a (portOf w.1) false) s
    finishLocal ((d.refs.filter (·.outcome == 0)).foldl
      (fun a r => finishRef (setQueue a r.port d.cls ((queueOf a r.port d.cls).filter (· != fid))) fid r.port outcome 0) s1) fid outcome

/-- A leak sweep starts (R156): the walker is busy, and its port reads 7. -/
def sweepStart (s : State) : State :=
  if s.sw.walk.contains 7 then s else { s with sw := { s.sw with walk := s.sw.walk ++ [7] } }

/-- A class queue loses its references from a frame onward, which a broken link or descriptor entry has cut off (R134). -/
def cutQueue (s : State) (p : Port) (c fid : Nat) : State :=
  ((queueOf s p c).dropWhile (· != fid)).foldl (fun a i => finishRef a i p 4 0) (setQueue s p c ((queueOf s p c).takeWhile (· != fid)))

/-- A broken entry of a frame cuts every queue that runs through it (R134): each frame lost is counted, the cells of those that no list holds
any more stay lost until the leak sweep that starts. -/
def entryBroken (s : State) (fid : Nat) (e : EccFault) : State :=
  let qs := allQueues.filter fun x => (queueOf s x.1 x.2).contains fid
  let gone := (qs.flatMap fun x => (queueOf s x.1 x.2).dropWhile (· != fid)).eraseDups
  let s1 := bump s Pg.buf F.BUF_ECC_UNCORR (max 1 gone.length)
  let s2 := finishLocal (qs.foldl (fun a x => cutQueue a x.1 x.2 fid) s1) fid 4
  let lost := (gone.filter fun i => (tabGet s2.sw.frames i).isNone).flatMap fun i =>
    match tabGet s.sw.frames i with | some d => cellsOf s i d | none => []
  sweepStart (eccCapture { s2 with sw := { s2.sw with lost := s2.sw.lost ++ lost } } e)

/-- An error that a read of the buffer meets (R133, R134): a single-bit one is corrected and counted; a bad cell ends every reference of the
frame that holds it; a bad entry breaks the queues that run through it. Of a cell or an entry that is free, nothing is lost. -/
def eccHit (s : State) (e : EccFault) : State :=
  if e.single then bump s Pg.buf F.BUF_ECC_CORR
  else
    match cellOwner s e.index with
    | none => eccCapture (bump s Pg.buf F.BUF_ECC_UNCORR) e
    | some fid => if e.place = 0 then dropFrame (eccCapture (bump s Pg.buf F.BUF_ECC_UNCORR) e) fid 4 else entryBroken s fid e

/-- A read of a frame meets the cells whose ECC was spoiled as they were written (R452). -/
def spoilMeet (s : State) (fid : Nat) : State :=
  s.test.badCells.foldl (fun a x =>
    if cellOwner a x.1 = some fid then
      eccHit { a with test := { a.test with badCells := a.test.badCells.filter (· != x) } } { place := 0, index := x.1, word := 0, single := !x.2 }
    else a) s

/-- An idle port selects: an aged head is discarded and the selection repeats (R153, R173). `n` bounds the repeats. -/
def portSelect : Nat → State → Port → State
  | 0, s, _ => s
  | n + 1, s, p =>
    let r := selectClass s p
    match r.1 with
    | none => r.2
    | some c =>
      match queueOf r.2 p c with
      | [] => r.2
      | fid :: rest =>
        match tabGet r.2.sw.frames fid with
        | none => portSelect n (setQueue r.2 p c rest) p
        | some d =>
          if isAged r.2 c d.stamp then portSelect n (dropAged r.2 p c fid) p
          else
            let s1 := spoilMeet r.2 fid
            if (tabGet s1.sw.frames fid).isNone then portSelect n s1 p else startFrame (setQueue s1 p c rest) p fid

/-- Frames that stand in the buffer, which bounds every repeat over them. -/
def frameCount (s : State) : Nat := s.sw.frames.length + 1

/-! ## Refill (R165) -/

/-- A bucket gains one microsecond of its rate: tokens, and the remainder, which goes on while the bucket is full (log entry 150). -/
def refill (tokens : Int) (rem rate burst : Nat) : Int × Nat :=
  (max tokens (min (burst : Int) (tokens + ((rem + rate) / 8000 : Nat))), (rem + rate) % 8000)

def meterRem (s : State) (key : Nat) : Nat := (tabGet s.meter.rem key).getD 0
def setMeterRem (s : State) (key n : Nat) : State :=
  { s with meter := { s.meter with rem := if n = 0 then tabDel s.meter.rem key else tabSet s.meter.rem key n } }

/-- The active rate of a headgate (R175). -/
def hdgRate (s : State) (pg i : Nat) : Nat := (tabGet s.meter.hdgRate (1024 * pg + i)).getD (getF s pg F.HDG_RATE_RATE i)

/-- A headgate gains one microsecond of its rate. -/
def refillHdg (s : State) (hg : Nat) : State :=
  let pg := Pg.hdg hg
  let i := hg % 64
  let r := refill (getF s pg F.HDG_TOKENS_TOKENS i : Nat) (meterRem s (1024 * pg + i)) (hdgRate s pg i) (getF s pg F.HDG_CTL_BURST i)
  setMeterRem (setF s pg F.HDG_TOKENS_TOKENS r.1.toNat i) (1024 * pg + i) r.2

/-- A sluice gains one microsecond of its rate. -/
def refillSlu (s : State) (pg i : Nat) : State :=
  let r := refill (sluTokens s pg i) (meterRem s (1024 * pg + i)) (getF s pg F.SLU_ACT_RATE_RATE i) (getF s pg F.SLU_ACT_BURST_BURST i)
  setMeterRem (setF s pg F.SLU_TOKENS_TOKENS (ofSigned 32 r.1) i) (1024 * pg + i) r.2

/-- Every headgate and sluice gains one microsecond of its rate (R165). -/
def refillAll (s : State) : State :=
  let s1 := (List.range 1024).foldl refillHdg s
  (List.range 4159).foldl (fun a j => refillSlu a (Pg.slu (j / 64)) (j % 64)) s1

/-! ## The sending side's time-outs and answers (R111 to R115, R121) -/

/-- A CPL record meets the open number it answers (R112, R113, R114). -/
def cplRec (s : State) (flow q : Nat) (r : CplRec) : State :=
  match openAt (flowOf s flow) q with
  | none => bump s Pg.seq F.SEQ_LATE_CPL
  | some o =>
    if r.status = St.aged then agedRec s flow q
    else
      let st : Nat := match o.fill with
        | none => r.status
        | some reason =>
          if r.filled then reason
          else if r.status = St.ok then (if reason = St.aborted then St.okLateAbort else St.ok)
          else r.status
      closeRec s flow q st r.cause r.effectful false r.data

/-- A CPL burst at the initiator's hub (R112, R115, R123). -/
def cplBurst (s : State) (k : Kvl) (rs : List CplRec) : State :=
  let fl := k.srcFlow
  if !(flowValid s fl) then bump s Pg.seq F.SEQ_LATE_CPL rs.length
  else
    let agedOnly := rs.all (·.status == St.aged)
    let s1 := (List.range rs.length).foldl (fun a i =>
      match rs[i]? with | some r => cplRec a fl (seqAdd k.baseSeq i) r | none => a) s
    let f := flowOf s1 fl
    let s2 :=
      if agedOnly then s1
      else if rs.any (·.status == St.epochLost) then epochPath s1 fl (if k.ver = 3 then k.dstEpoch else 0)
      else if k.ver = 3 ∧ k.dstEpoch ≠ 0 then
        (if f.peerEpoch = 0 then setFlow s1 fl { f with peerEpoch := k.dstEpoch }
         else if f.peerEpoch ≠ k.dstEpoch then epochPath s1 fl k.dstEpoch else s1)
      else s1
    afterClose s2 fl

/-- The outcome of an uncorrectable word in one of the hub's own structures (R160). -/
def jrnBroken (s : State) (b : Nat) : State :=
  match jrnPlace b with
  | .ctx c => if flowValid s c then afterClose (enterResync s c) c else s
  | .retx tag =>
    match tagHolder s tag with
    | some (fl, q) => afterClose (closeRec (noteErr s Pg.jrn St.hang 0x40 0) fl q St.hang 0x40 false true []) fl
    | none => s
  | .cache c slot =>
    match tabGet s.seq.ctxs c with
    | some t => { s with seq := { s.seq with ctxs := tabSet s.seq.ctxs c { t with
        cache := mapIf (fun e => e.seq % 256 == slot) (fun e => { e with bad := true }) t.cache } } }
    | none => s
  | .hold c slot =>
    match tabGet s.seq.ctxs c with
    | some t => { s with seq := { s.seq with ctxs := tabSet s.seq.ctxs c { t with
        held := t.held.filter fun h => !(h.seq % 256 == slot && h.st == .held) } } }
    | none => s
  | .log _ => s
  | .user => s
  | .other => s

/-- An error that a read of the journal meets (R160): a single-bit one is corrected and counted. -/
def jrnHit (s : State) (e : JEcc) : State :=
  if e.single then bump s Pg.jrn F.JRN_ECC_CORR else jrnBroken (jrnUncorr s e) e.addr

/-- A read of journal words meets those whose ECC was spoiled as they were written (R452): whether one was uncorrectable. -/
def spoiltRead (s : State) (b n : Nat) : Bool × State :=
  let bad := s.test.badWords.filter fun x => decide (x.1 ≤ (b + n - 1) / 8) && decide (b / 8 ≤ x.1)
  (bad.any (·.2), bad.foldl (fun a x =>
    jrnHit { a with test := { a.test with badWords := if x.2 then a.test.badWords else a.test.badWords.filter (· != x) } } { addr := 8 * x.1, single := !x.2 }) s)

/-- The retransmission timer of a flow expires (R111, R148, R160). -/
def retransmitTimeout (s0 : State) (flow : Nat) (ecc : Option JEcc) : State :=
  let s := match ecc with | none => s0 | some e => jrnHit s0 e
  let f := flowOf s flow
  if !f.timer || f.opens.isEmpty || pairMute s flow then s
  else if f.retries < f.tryCnt + 1 then
    let n := (f.opens.filter (!·.nop)).length
    let s1 := (f.opens.filter (!·.nop)).foldl (fun a _ => noteErr a Pg.seq St.unreachable 0x45 0) s
    let s2 := bump (closeAll s1 flow St.unreachable 0x45) Pg.seq F.SEQ_UNREACH_CLOSED n
    let s3 := setFlow s2 flow { flowOf s2 flow with furrow := [], timer := false, tryCnt := 0, pathFence := false, verFence := false }
    afterClose (enterResync s3 flow) flow
  else
    let s1 := setFlow s flow { f with tryCnt := f.tryCnt + 1, retries := flowRetries s flow }
    if f.pathFence then fenceLift s1 flow else requeueSent s1 flow

/-- An abort of an open number, or its record as NOT_OPEN (R113). -/
def abortSeq (s : State) (flow q : Nat) : State :=
  match (if flowValid s flow then openAt (flowOf s flow) q else none) with
  | some o => if o.fill.isSome then noteErr s Pg.seq 0 0x41 0x13 else startFill s flow q St.aborted
  | none => noteErr s Pg.seq 0 0x41 0x13

/-- An idle flow sends a NOP when its advertised floor lies below its floor and a record other than a NOP lies between (R121). A broadcast flow
sends none: no receiver holds a context of it (R122; DEDUCED, log entry 140). -/
def nopSend (s : State) (flow : Nat) : State :=
  let f := flowOf s flow
  let floor := oldestOpen f
  if flowValid s flow && f.opens.isEmpty && f.furrow.isEmpty && f.waiting.isEmpty && f.st == .opened && flowHop s flow != 63 &&
     !f.pathFence && !f.verFence && !pairMute s flow &&
     f.floorAdv != floor && f.closedNN.any (fun q => decide (seqSub q f.floorAdv < seqSub floor f.floorAdv)) &&
     seqBelow f.nextSeq f.seqLimit then
    let t : Txn := { tag := 0, init := flowInit s flow, flow := flow, op := 7, addr := 0, len := 0, data := [], spec := false, orphan := false }
    let o : OpenRec := { seq := f.nextSeq, txn := t, first := f.first, sent := false, fill := none, wait := .none, nop := true }
    let s1 := setFlow s flow (limitAdvance { f with nextSeq := seqAdd f.nextSeq 1, first := false, opens := [o] })
    bump (joinFurrow s1 flow o.seq true) Pg.seq F.SEQ_NOP_SENT
  else s

/-- The flow's state lets its oldest waiting transaction take NEXT_SEQ (R109 step 6, R104, R128, R357). -/
def mayAssign (s : State) (flow : Nat) : Bool :=
  let f := flowOf s flow
  s.seq.running && flowValid s flow && f.st == .opened && !f.pathFence && !f.verFence && decide (f.opens.length < 256) &&
  seqBelow f.nextSeq f.seqLimit && pairGate s flow != 1

/-- The oldest waiting transaction of a flow takes its sequence number (R109 steps 6 to 9). -/
def sequenceAssign (s : State) (flow : Nat) : State :=
  match (flowOf s flow).waiting with
  | [] => s
  | t :: ts =>
    if mayAssign s flow then
      let s1 := setFlow s flow { flowOf s flow with waiting := ts }
      if pairGate s flow = 2 then refuse s1 t St.accessDenied 0x40 Pg.par else assign s1 flow t
    else s

/-- A write of the chest wears it (R424): the spec states no projection, so the most worn area and its wear are free values (log entry 8). The
WEAR source is set when WORST reaches 8000. -/
def wearNote (s : State) : State :=
  let r := freshVal s 16
  let old := getF r.2 Pg.chs F.CHS_WEAR_WORST
  let s1 := setF (setF r.2 Pg.chs F.CHS_WEAR_WORST (r.1 % 2 ^ 14)) Pg.chs F.CHS_WEAR_AREA (r.1 / 2 ^ 14)
  if old < 8000 ∧ 8000 ≤ r.1 % 2 ^ 14 then irqEvent s1 Pg.chs 3 else s1

/-- The acceptance slot that the next DURABLE record takes (R110, R424): one never written, else the least recently used that is free. -/
def slotPick (s : State) : Nat :=
  match (List.range 2048).find? fun k => !s.start.slotUse.contains k with
  | some k => k
  | none => (s.start.slotUse.find? fun k => (tabGet s.start.slots k).isNone).getD 0

/-- A slot has been used. -/
def slotTouch (s : State) (k : Nat) : State :=
  { s with start := { s.start with slotUse := s.start.slotUse.filter (· != k) ++ [k] } }

/-- The record that waits for its slot's write. -/
def slotWaits (s : State) (tag : Nat) : Option (Nat × OpenRec) :=
  match tagHolder s tag with
  | none => none
  | some (fl, q) =>
    match openAt (flowOf s fl) q with
    | some o => if o.wait = .chest ∧ s.seq.running = true then some (fl, o) else none
    | none => none

/-- The chest slot write of a DURABLE record completes, and the record is accepted (R110). -/
def durabilityDone (s : State) (tag : Nat) : State :=
  match slotWaits s tag with
  | none => s
  | some (fl, o) =>
    let k := slotPick s
    let s1 := slotTouch s k
    accept (wearNote { s1 with start := { s1.start with slots := tabSet s1.start.slots k (fl, { o with wait := .none }) } }) fl o.seq

end Sys2Proof.Machine
end

