-- ==== Sys2Proof/Machine/Target.lean ====
section
/-! DEFINITION. The receiving side without execution (R117 to R121, R125): contexts, completion caches, answers and their bursts. -/

namespace Sys2Proof.Machine

/-! ## Contexts (R102, R117, R118, R120, R131) -/

def ctxOf (s : State) (c : Nat) : Option TCtx := tabGet s.seq.ctxs c
def setCtx (s : State) (c : Nat) (t : TCtx) : State := { s with seq := { s.seq with ctxs := tabSet s.seq.ctxs c t } }

/-- The context of a flow key (R102). -/
def ctxLookup (s : State) (route : DWord) (fl cls : Nat) : Option Nat :=
  (s.seq.ctxs.find? fun e => e.2.srcRoute == route && e.2.srcFlow == fl && e.2.cls == cls).map (·.1)

/-- The highest-numbered FREE context (R131). -/
def freeCtx (s : State) : Option Nat :=
  ((List.range 4096).map (4095 - ·)).find? fun c => !isTarget s c && !getB s (flwPg c) F.FLW_CFG_VALID (flwIx c)

/-- A target context addressed as the pair node: mirrored while this member holds it (R357). -/
def ctxMirrored (s : State) (t : TCtx) : Bool := t.pairCtx && mirroring s

/-- The body of a FLOOR record: NEXT_EXPECTED, ACK_FLOOR, SRC_EPOCH, the flow key, and whether the context is released. -/
def floorBody (t : TCtx) (released : Bool) : List Byte :=
  beBytes 4 t.ne ++ beBytes 4 t.ackFloor ++ beBytes 4 t.srcEpoch ++ beBytes 8 t.srcRoute.toNat ++ beBytes 2 t.srcFlow ++ beBytes 1 t.cls ++
  beBytes 1 (if released then 1 else 0)

/-- A FLOOR record for a pair context (R369). -/
def mirrorFloor (s : State) (c : Nat) (t : TCtx) : State :=
  if t.pairCtx then mirrorNote s 5 c 0 (floorBody t false) else s

/-- Live entries of a context (R121); none while ACK_FLOOR lies above NEXT_EXPECTED. -/
def liveHere (t : TCtx) : List CacheEnt :=
  if 2 ^ 31 ≤ seqSub t.ne t.ackFloor then []
  else t.cache.filter fun e => !e.nop && !e.empty && decide (seqSub e.seq t.ackFloor < seqSub t.ne t.ackFloor)

/-- Live entries of the hub, and those that are data-bearing (R121). -/
def liveCount (s : State) : Nat := (s.seq.ctxs.map fun e => (liveHere e.2).length).foldl (· + ·) 0
def dataLiveCount (s : State) : Nat := (s.seq.ctxs.map fun e => ((liveHere e.2).filter (·.bearing)).length).foldl (· + ·) 0

/-- The operation bears data in its completion (R121). -/
def opBearing (op : Nat) : Bool := op == 1 || op == 3 || op == 4

/-! ## Answers (R106, R118, R125) -/

/-- An answer joins the answers of this step. -/
def answer (s : State) (k : Kvl) (smac : Nat) (port : Option Port) (q nextExp : Nat) (r : CplRec) : State :=
  { s with seq := { s.seq with answers := s.seq.answers ++ [{ hdr := k, smac := smac, port := port, seq := q, nextExp := nextExp, ans := r }] } }

/-- This step has answered the number for this flow key already (R118). -/
def answered (s : State) (k : Kvl) (q : Nat) : Bool :=
  s.seq.answers.any fun a => a.seq == q && a.hdr.src == k.src && a.hdr.srcFlow == k.srcFlow && a.hdr.cls == k.cls

/-- A plain answer record. -/
def ansRec (status cause tag : Nat) : CplRec :=
  { status := status, late := false, effectful := false, filled := false, tag := tag, cause := cause, data := [] }

/-- Bytes of an answer in a CPL body. -/
def ansSize (r : CplRec) : Nat := 8 + up4 r.data.length

/-- The answers of a step gather into bursts of consecutive numbers of one flow (R106, R107). -/
def gatherAnswers (s : State) : List Answer → List (List Answer) → List (List Answer)
  | [], acc => acc
  | a :: as, acc =>
    match acc.getLast? with
    | some g =>
      match g.getLast? with
      | some b =>
        let ver := cplVer s a.hdr a.port
        if b.hdr.src = a.hdr.src ∧ b.hdr.srcFlow = a.hdr.srcFlow ∧ b.hdr.cls = a.hdr.cls ∧ b.port = a.port ∧ b.smac = a.smac ∧
           a.seq = seqAdd b.seq 1 ∧ g.length < maxCount ver ∧
           (g.map fun x => ansSize x.ans).foldl (· + ·) 8 + ansSize a.ans ≤ maxBody ver
        then gatherAnswers s as (acc.dropLast ++ [g ++ [a]])
        else gatherAnswers s as (acc ++ [[a]])
      | none => gatherAnswers s as (acc ++ [[a]])
    | none => gatherAnswers s as [[a]]

/-- The answers of this step leave as CPL bursts. -/
def flushAnswers (s : State) : State :=
  (gatherAnswers s s.seq.answers []).foldl (fun a g =>
    match g, g.getLast? with
    | x :: _, some y => sendCpl a x.hdr x.smac x.port x.seq y.nextExp (g.map (·.ans)) none false
    | _, _ => a) { s with seq := { s.seq with answers := [] } }

/-! ## Completing a record (R117, R118) -/

/-- The context is to run again at the end of this step. -/
def runLater (s : State) (c : Nat) : State :=
  if s.seq.runQ.contains c then s else { s with seq := { s.seq with runQ := s.seq.runQ ++ [c] } }

/-- The cache entry of an executed record. -/
def cacheEntry (h : Held) (r : CplRec) : CacheEnt :=
  { seq := h.seq, status := r.status, cause := r.cause, effectful := r.effectful, filled := r.filled, nop := h.req.op == 7,
    bearing := opBearing h.req.op, tag := h.req.tag, data := r.data, empty := false, bad := false }

/-- The cache with a new entry: the entry of the same number modulo 256 gives way (R118). -/
def cachePut (cache : List CacheEnt) (e : CacheEnt) : List CacheEnt := cache.filter (fun x => x.seq % 256 != e.seq % 256) ++ [e]

/-- The record at NEXT_EXPECTED of a context completes: its cache entry is written, NEXT_EXPECTED passes it, and its answer is sent
(R117, R369). Repeats that met its execution are answered from the entry (R119). -/
def completeRec (s : State) (c : Nat) (r : CplRec) : State :=
  match ctxOf s c with
  | none => s
  | some t =>
    match t.held.find? (·.seq == t.ne) with
    | none => s
    | some h =>
      let t1 := { t with held := t.held.filter (·.seq != h.seq), cache := cachePut t.cache (cacheEntry h r), ne := seqAdd t.ne 1,
                         deferred := false }
      let s1 := setCtx s c t1
      let fl := (if r.late then 1 else 0) + (if r.effectful then 2 else 0) + (if r.filled then 4 else 0)
      let s2 := if t.pairCtx then mirrorNote s1 4 c h.seq (beBytes 1 r.status ++ beBytes 1 fl ++ beBytes 1 r.cause ++ (if h.req.op = 2 ∨ h.req.op = 5 ∨ h.req.op = 6 then h.req.data else r.data)) else s1
      let s3 := answer s2 h.hdr h.smac h.port h.seq t1.ne { r with tag := h.req.tag }
      runLater (h.repeats.foldl (fun a x =>
        bump (answer a x.hdr x.smac x.port h.seq t1.ne { r with tag := x.tag, late := x.fill }) Pg.seq F.SEQ_DUP_ANSWERED) s3) c

/-- The held record at NEXT_EXPECTED of a context. -/
def headHeld (s : State) (c : Nat) : Option Held :=
  match ctxOf s c with
  | none => none
  | some t => t.held.find? (·.seq == t.ne)

/-- The held record at NEXT_EXPECTED takes a new standing. -/
def setHeldSt (s : State) (c : Nat) (st : HeldSt) : State :=
  match ctxOf s c with
  | none => s
  | some t => setCtx s c { t with held := mapIf (·.seq == t.ne) (fun h => { h with st := st }) t.held }

/-! ## A record arrives (R117, R119) -/

/-- A context starts again at this number (R117). -/
def ctxRestart (s : State) (c q srcep : Nat) : State :=
  match ctxOf s c with
  | none => s
  | some t =>
    let inExec := t.held.filter fun h => h.st != .held
    let s1 := bump s Pg.seq F.SEQ_RESYNC_DROP (t.held.length - inExec.length)
    let t1 := { t with held := [], ne := q, srcEpoch := srcep, ackFloor := q, deferred := false }
    mirrorFloor (setCtx s1 c t1) c t1

/-- A record is held in its context. -/
def ctxHold (s : State) (c : Nat) (h : Held) : State :=
  match ctxOf s c with
  | none => s
  | some t => runLater (setCtx s c { t with held := t.held ++ [h], lastAt := s.watchNs }) c

/-- A repeat is answered from the cache (R117, R118, R127, R160). Of a number that has no entry at all the spec gives no answer: the model discards the
record and counts it in SEQ.STALE, as R127 does for an entry marked empty (DESIGN CHOICE, log entry 141). -/
def answerCache (s : State) (c : Nat) (h : Held) : State :=
  match ctxOf s c with
  | none => s
  | some t =>
    if answered s h.hdr h.seq then s
    else
      match t.cache.find? (·.seq == h.seq) with
      | none => bump s Pg.seq F.SEQ_STALE
      | some e =>
        if e.bad then answer s h.hdr h.smac h.port h.seq t.ne (ansRec St.epochLost 0 h.req.tag)
        else if e.empty then
          (if h.req.op = 7 then answer s h.hdr h.smac h.port h.seq t.ne (ansRec St.ok 0 h.req.tag) else bump s Pg.seq F.SEQ_STALE)
        else
          bump (answer s h.hdr h.smac h.port h.seq t.ne
            { status := e.status, late := h.req.op == 8, effectful := e.effectful, filled := e.filled, tag := h.req.tag, cause := e.cause,
              data := e.data }) Pg.seq F.SEQ_DUP_ANSWERED

/-- The source epoch of a REQ (R117): SRC_EPOCH at version 3; below, the EPOCH of the node-table entry of a source on this ring, and
the GROUP_GEN of the coupler's entry for a source behind it (DEDUCED, log entry 14). -/
def srcEpochOf (s : State) (k : Kvl) (port : Option Port) : Nat :=
  if k.ver = 3 then k.srcEpoch
  else
    match nodeEnt s (match port with | some p => isSubPort p | none => false) (routeL1 k.src) with
    | some e => if routeUp k.src ≠ 0 then 0 else if routeL2 k.src = 0 then e.epoch else e.groupGen
    | none => 0

/-- A record finds no context and none is free (R117). -/
def noContext (s : State) (k : Kvl) (smac : Nat) (port : Option Port) (r : ReqRec) (q nextNone : Nat) : State :=
  answer (noteErr (bump s Pg.seq F.SEQ_NO_CONTEXT) Pg.seq St.targetErr 0x42 0) k smac port q nextNone (ansRec St.targetErr 0x42 r.tag)

/-- One record of a REQ reaches its context (R117). `nextNone` is BASE_SEQ + COUNT; `refused`: a record of the burst has been refused NO_CONTEXT. -/
def recArrive (s : State) (k : Kvl) (smac : Nat) (port : Option Port) (r : ReqRec) (q nextNone : Nat) (refused : Bool) : State :=
  let srcep := srcEpochOf s k port
  let h : Held := { seq := q, req := r, st := .held, port := port, hdr := k, smac := smac, repeats := [] }
  let toPair := pairRole s != 0 && routeUp k.dst == 0 && routeL1 k.dst == pairNode s
  match ctxLookup s k.src k.srcFlow k.cls with
  | none =>
    if !r.first && refused then noContext s k smac port r q nextNone
    else if !r.first then answer (bump s Pg.seq F.SEQ_NO_CONTEXT) k smac port q nextNone (ansRec St.epochLost 0 r.tag)
    else
      match freeCtx s with
      | none => noContext s k smac port r q nextNone
      | some c =>
        let t : TCtx := { srcRoute := k.src, srcFlow := k.srcFlow, cls := k.cls, pairCtx := toPair, ne := q, ackFloor := q,
                          srcEpoch := srcep, lastAt := s.watchNs, held := [], cache := [], deferred := false }
        ctxHold (mirrorFloor (setCtx s c t) c t) c h
  | some c =>
    let s1 := match ctxOf s c with
      | some t => if r.first && t.srcEpoch != srcep then ctxRestart s c q srcep else setCtx s c { t with lastAt := s.watchNs }
      | none => s
    match ctxOf s1 c with
    | none => s1
    | some t =>
      let d := seqSub q t.ne
      let held := t.held.any (·.seq == q)
      if d < 256 then
        if held && r.op == 8 && t.held.any (fun x => x.seq == q && x.st == .held) then
          runLater (setCtx s1 c { t with held := mapIf (·.seq == q) (fun x => { x with req := r, hdr := k, smac := smac, port := port }) t.held }) c
        else if t.held.any (fun x => x.seq == q && x.st != .held) then
          setCtx s1 c { t with held := mapIf (·.seq == q) (fun x => { x with
            repeats := x.repeats ++ [{ fill := r.op == 8, tag := r.tag, hdr := k, smac := smac, port := port }] }) t.held }
        else if held then runLater s1 c
        else ctxHold s1 c h
      else if 2 ^ 32 - 256 ≤ d then answerCache s1 c h
      else if r.first && decide (d < 2 ^ 31) then ctxHold (ctxRestart s1 c q srcep) c h
      else bump s1 Pg.seq F.SEQ_STALE

/-- The floor of a REQ prologue moves a context's floor forward (R121). -/
def applyFloor (s : State) (k : Kvl) (floor : Nat) : State :=
  match ctxLookup s k.src k.srcFlow k.cls with
  | none => s
  | some c =>
    match ctxOf s c with
    | none => s
    | some t =>
      if floor ≠ t.ackFloor ∧ seqSub floor t.ackFloor < 2 ^ 31 then
        let t1 := { t with ackFloor := floor }
        (s.seq.ctxs.filter (·.2.deferred)).foldl (fun a e => runLater a e.1) (mirrorFloor (setCtx s c t1) c t1)
      else s

/-- The records of a burst reach their contexts in order. -/
def recsArrive (k : Kvl) (smac : Nat) (port : Option Port) (nextNone : Nat) : List ReqRec → Nat → Bool → State → State
  | [], _, _, s => s
  | r :: rs, q, refused, s =>
    let bad := refused || ((ctxLookup s k.src k.srcFlow k.cls).isNone && r.first && (freeCtx s).isNone)
    recsArrive k smac port nextNone rs (seqAdd q 1) bad (recArrive s k smac port r q nextNone refused)

/-- A REQ burst for this hub (R117, R121, R125): at version 3 a wrong DST_EPOCH answers every record EPOCH_LOST; else its floor is applied, then each record reaches its context in order. The floor is
applied once more after a context is created or starts again, under the same forward-only rule. -/
def reqBurst (s : State) (k : Kvl) (smac : Nat) (port : Option Port) (floor : Nat) (rs : List ReqRec) : State :=
  let toPair := pairRole s != 0 && routeUp k.dst == 0 && routeL1 k.dst == pairNode s
  let epoch := if toPair then pairEpoch s else ownEpoch s
  let nextNone := seqAdd k.baseSeq rs.length
  if k.ver = 3 ∧ k.dstEpoch ≠ 0 ∧ k.dstEpoch ≠ epoch then
    let ne := (((ctxLookup s k.src k.srcFlow k.cls).bind (ctxOf s)).map (·.ne)).getD nextNone
    (List.range rs.length).foldl (fun a i => match rs[i]? with
      | some r => answer a k smac port (seqAdd k.baseSeq i) ne (ansRec St.epochLost 0 r.tag)
      | none => a) s
  else
    applyFloor (recsArrive k smac port nextNone rs k.baseSeq false (applyFloor s k floor)) k floor

/-- A context on which no record has arrived for RX_IDLE is released, with the records it holds (R120); one whose record is in execution stays,
for its completion is still to come (DEDUCED, log entry 142). -/
def contextRelease (s : State) (c : Nat) : State :=
  match ctxOf s c with
  | none => s
  | some t =>
    if t.held.all (·.st == .held) then
      let s1 := if t.pairCtx then mirrorNote s 5 c 0 (floorBody t true) else s
      { s1 with seq := { s1.seq with ctxs := tabDel s1.seq.ctxs c } }
    else s

end Sys2Proof.Machine
end

