-- ==== Sys2Proof/Machine/Bridge.lean ====
section
/-! DEFINITION. The PCIe host bridge as operations (spec/07): windows, byte lanes, pieces, host writes and reads, run-ahead, inbound
transactions and the MSI-X table. -/

namespace Sys2Proof.Machine

/-! ## The link (R185, R188, R213) -/

def brgUp (s : State) : Bool := getB s Pg.brg F.BRG_LINK_STAT_UP
def setBrg (s : State) (b : BridgeSt) : State := { s with brg := b }

/-- The host can be reached by a TLP of this hub (R211). -/
def hostThere (s : State) : Bool :=
  brgUp s && getB s Pg.brg F.BRG_LINK_STAT_BME && !getB s Pg.brg F.BRG_LINK_STAT_D3

/-- The host can reach the BARs: the link is up and memory space is enabled, in D0. Otherwise a BAR request reaches no block, and no
completion comes of it (log entry 154). -/
def barsOpen (s : State) : Bool := brgUp s && getB s Pg.brg F.BRG_LINK_STAT_MSE && !getB s Pg.brg F.BRG_LINK_STAT_D3

/-- BAR2_LOG2 as the link last took it (R188). -/
def bar2Log2 (s : State) : Nat := wordBits s.brg.linkCfg 8 6

/-! ## Logs (R202, R207, R215) -/

/-- A record joins BRG.ERRLOG, or is counted while the log is full. -/
def errLog (s : State) (r : ErrRec) : State :=
  if s.brg.errlog.length < 256 then { s with brg := { s.brg with errlog := s.brg.errlog ++ [r] } }
  else irqEvent (bumpSat s Pg.brg F.BRG_ERRLOG_OVF_COUNT) Pg.brg 3

/-- A record joins BRG.SPECLOSS, or is counted while the log is full. -/
def specLoss (s : State) (r : LossRec) : State :=
  irqEvent (if s.brg.loss.length < 64 then { s with brg := { s.brg with loss := s.brg.loss ++ [r] } }
    else bumpSat s Pg.brg F.BRG_SPECLOSS_OVF_COUNT) Pg.brg 4

/-! ## Outbound windows (R190, R191) -/

/-- The window that the registers and a CTL value describe (R191). -/
def obStaged (s : State) (w : Nat) (v : Word) : ObWin :=
  let u := wordBits v 3 2
  { en := wordBits v 0 1 == 1, lane := wordBits v 1 2, unit := if u = 0 then 2 else if u = 1 then 4 else if u = 2 then 8 else 0,
    prefetch := wordBits v 5 3, split := wordBits v 8 1 == 1, order := wordBits v 9 1 == 1, sizeLog2 := wordBits v 10 6,
    flow := wordBits v 16 12,
    host := getF s Pg.win F.WIN_OB_HOST_LO_HOST_LO w * 4096 + getF s Pg.win F.WIN_OB_HOST_HI_HOST_HI w * 2 ^ 32,
    fab := getF s Pg.win F.WIN_OB_FAB_LO_FAB_LO w * 4096 + getF s Pg.win F.WIN_OB_FAB_HI_FAB_HI w * 2 ^ 32,
    timeout := getF s Pg.win F.WIN_OB_TIME_TIMEOUT w, pfLife := getF s Pg.win F.WIN_OB_TIME_PF_LIFE w }

/-- The window has open transactions. -/
def obBusy (s : State) (w : Nat) : Bool := s.brg.opens.any (·.win == w) || s.brg.offers.any (·.win == w)

/-- What refuses the commit of an outbound window, as a cause (R191). -/
def obRefusal (s : State) (w : Nat) (n : ObWin) : Option Nat :=
  if !n.en then none
  else if n.sizeLog2 < 12 ∨ 36 < n.sizeLog2 ∨ n.host % 2 ^ n.sizeLog2 ≠ 0 ∨ 2 ^ bar2Log2 s < n.host + 2 ^ n.sizeLog2 then some Cause.range
  else if s.brg.ob.any (fun e => e.1 != w && e.2.en && decide (e.2.host < n.host + 2 ^ n.sizeLog2) &&
      decide (n.host < e.2.host + 2 ^ e.2.sizeLog2)) then some 0x41
  else if n.fab % 4096 ≠ 0 ∨ n.fab / 2 ^ 40 ≠ (n.fab + 2 ^ n.sizeLog2 - 1) / 2 ^ 40 then some Cause.range
  else if n.lane = 3 ∨ n.unit = 0 ∨ 4 < n.prefetch ∨ (0 < n.prefetch ∧ n.split = true) then some Cause.range
  else
    match tabGet s.brg.ob w with
    | some o =>
      if o.en && obBusy s w && decide ({ o with prefetch := n.prefetch, timeout := n.timeout, pfLife := n.pfLife } ≠ n) then some 0x40
      else none
    | none => none

/-- The enabled window that holds a BAR2 range whole (R190). -/
def obFind (s : State) (off len : Nat) : Option (Nat × ObWin) :=
  s.brg.ob.find? fun e => e.2.en && decide (e.2.host ≤ off) && decide (off + len ≤ e.2.host + 2 ^ e.2.sizeLog2)

/-! ## Byte lanes and pieces (R193 to R195) -/

/-- The fabric offset of the host byte at window offset `o` (R193). -/
def laneOff (w : ObWin) (o : Nat) : Nat := if w.lane = 2 then o ^^^ (w.unit - 1) else o

/-- Pairs of an offset and a host byte number, gathered into runs of consecutive offsets. -/
def gatherRuns : List (Nat × Nat) → List (List (Nat × Nat)) → List (List (Nat × Nat))
  | [], acc => acc
  | x :: xs, acc =>
    match acc.getLast? with
    | some r => if r.getLast?.map (·.1 + 1) = some x.1 then gatherRuns xs (acc.dropLast ++ [r ++ [x]]) else gatherRuns xs (acc ++ [[x]])
    | none => gatherRuns xs [[x]]

/-- A run gathered by lane unit. -/
def gatherUnits (u : Nat) : List (Nat × Nat) → List (List (Nat × Nat)) → List (List (Nat × Nat))
  | [], acc => acc
  | x :: xs, acc =>
    match acc.getLast? with
    | some g => if g.getLast?.map (·.1 / u) = some (x.1 / u) then gatherUnits u xs (acc.dropLast ++ [g ++ [x]])
                else gatherUnits u xs (acc ++ [[x]])
    | none => gatherUnits u xs [[x]]

/-- Whole units join the run before them if that ends with a whole unit; a partly covered unit is a run of its own (R194). -/
def joinUnits (u : Nat) : List (List (Nat × Nat)) → Bool → List (List (Nat × Nat)) → List (List (Nat × Nat))
  | [], _, acc => acc
  | g :: gs, whole, acc =>
    let full := g.length == u
    if full && whole then joinUnits u gs true (acc.dropLast ++ [(acc.getLast?.getD []) ++ g])
    else joinUnits u gs full (acc ++ [g])

/-- The fabric runs of a run of enabled host bytes: fabric offsets rising, each with its host byte (R193, R194). -/
def fabricRuns (w : ObWin) (run : List (Nat × Nat)) : List (List (Nat × Nat)) :=
  if w.lane = 2 then
    joinUnits w.unit ((gatherUnits w.unit run []).map fun g => (g.map fun x => (laneOff w x.1, x.2)).reverse) false []
  else [run]

/-- The length of the next piece of a run at fabric address `a` (R195). -/
def pieceLen (split : Bool) (a left : Nat) : Nat :=
  if split then
    (if a % 8 = 0 ∧ 8 ≤ left then 8 else if a % 4 = 0 ∧ 4 ≤ left then 4 else if a % 2 = 0 ∧ 2 ≤ left then 2 else 1)
  else min left (256 - a % 256)

/-- A fabric run divided into pieces (R195). `n` bounds their number. -/
def splitRun (w : ObWin) (bytes : List Byte) : Nat → List (Nat × Nat) → List Piece
  | 0, _ => []
  | n + 1, run =>
    match run with
    | [] => []
    | (o, _) :: _ =>
      let k := pieceLen w.split (w.fab + o) run.length
      let part := run.take k
      { addr := w.fab + o, len := k, data := part.map (fun x => bytes.getD x.2 0#8), host := part.map (·.2) } ::
        splitRun w bytes n (run.drop k)

/-- The runs of enabled bytes of a request at window offset `o`. -/
def enabledRuns (o : Nat) (en : List Bool) : List (List (Nat × Nat)) :=
  gatherRuns (((List.range en.length).filter fun i => en.getD i false).map fun i => (o + i, i)) []

/-- LANE NONE allows only runs that start and end on unit boundaries (R193). -/
def laneAllows (w : ObWin) (runs : List (List (Nat × Nat))) : Bool :=
  w.lane != 0 || runs.all fun r => ((r.head?.map (·.1)).getD 0) % w.unit == 0 && r.length % w.unit == 0

/-- The pieces of a request (R195). -/
def formPieces (w : ObWin) (o : Nat) (en : List Bool) (bytes : List Byte) : List Piece :=
  (((enabledRuns o en).map (fabricRuns w)).flatten.map fun r => splitRun w bytes (r.length + 1) r).flatten

/-! ## Answers to the host (R201, R202) -/

/-- A host read is answered UR or CA. -/
def readFail (s : State) (ptag win : Nat) (ur : Bool) : State :=
  emit (bump (bump s Pg.brg (if ur then F.BRG_UR_SENT else F.BRG_CA_SENT)) Pg.win F.WIN_RD_FAIL 1 win) (.cpl ptag (if ur then 1 else 4) [])

/-- The data of a host read put together in address order; a byte that was not enabled reads 0. -/
def assemble (r : HostRd) : List Byte :=
  let cells := ((List.range r.pieces.length).map fun i =>
    match r.pieces[i]?, tabGet r.done i with
    | some p, some d => (List.range p.host.length).map fun j => (p.host.getD j 0, d.data.getD j 0#8)
    | _, _ => []).flatten
  (List.range r.len).map fun h => ((cells.find? (·.1 == h)).map (·.2)).getD 0#8

/-- The lowest-addressed piece of a read that did not close OK. -/
def worstPiece (r : HostRd) : Option RdDone :=
  let bad := (List.range r.pieces.length).filterMap fun i =>
    match r.pieces[i]?, tabGet r.done i with
    | some p, some d => if d.status = St.ok then none else some (p.addr, d)
    | _, _ => none
  (bad.foldl (fun a x => match a with | none => some x | some y => if x.1 < y.1 then some x else some y) none).map (·.2)

/-- Max Payload Size in bytes (R185). -/
def maxPayload (s : State) : Nat := 128 * 2 ^ getF s Pg.brg F.BRG_LINK_STAT_MPS

/-- The bytes of each completion TLP of `left` bytes from host offset `a` on (R201): each ends at a 64-byte boundary, the last that the Max
Payload Size reaches. `n` bounds their number. -/
def cplSizes (mps : Nat) : Nat → Nat → Nat → List Nat
  | 0, _, _ => []
  | n + 1, a, left => if left = 0 then [] else min left (mps - a % 64) :: cplSizes mps n (a + (mps - a % 64)) (left - (mps - a % 64))

/-- The data of a host read leaves in completion TLPs of these sizes. -/
def emitCpls (s : State) (ptag : Nat) : List Nat → List Byte → State
  | [], _ => s
  | k :: ks, data => emitCpls (emit s (.cpl ptag 0 (data.take k))) ptag ks (data.drop k)

/-- Every piece of a read has closed: the host has its answer (R201). -/
def readRespond (s : State) (r : HostRd) : State :=
  let s1 := setBrg s { s.brg with reads := s.brg.reads.filter (·.rid != r.rid) }
  match worstPiece r with
  | none => emitCpls s1 r.ptag (cplSizes (maxPayload s) (r.len + 1) r.off r.len) (assemble r)
  | some d => readFail s1 r.ptag r.win (d.status == St.addrErr || d.status == St.accessDenied)

/-! ## Run-ahead (R205 to R208) -/

/-- The status leaves the outcome unknown (R108). -/
def outcomeUnknown (status cause : Nat) : Bool :=
  (status == St.unreachable && cause != 0x43) || status == St.epochLost || status == St.hang || status == St.mirrorLost

/-- The offset in its line of the first byte of a part that was not delivered. -/
def firstUnused (p : PfPart) : Nat :=
  p.start % 256 + (((List.range p.len).find? fun i => !p.given.contains i).getD 0)

/-- The loss record of a discarded part, where R207 asks for one. -/
def partLoss (s : State) (p : PfPart) : State :=
  if (p.effectful && decide (p.given.length < p.len)) || p.unknown then
    specLoss s { win := p.win, unknown := p.unknown, firstUnused := firstUnused p, tag := p.tag, addr := p.start / 256 * 256 }
  else s

/-- A part is discarded (R207): one whose SPEC READ is open is marked, and its completion dropped when it arrives. -/
def partDiscard (s : State) (p : PfPart) : State :=
  if p.isOpen then
    setBrg s { s.brg with
      parts := mapIf (fun q => q.win == p.win && q.start == p.start && !q.dropped) (fun q => { q with dropped := true }) s.brg.parts }
  else
    partLoss (setBrg s { s.brg with parts := s.brg.parts.filter fun q => !(q.win == p.win && q.start == p.start && !q.dropped) }) p

/-- Every part that `f` names is discarded; each line among them counts once. -/
def discardParts (s : State) (f : PfPart → Bool) : State :=
  let ps := s.brg.parts.filter fun p => f p && !p.dropped
  if ps.isEmpty then s
  else ps.foldl partDiscard (bump s Pg.brg F.BRG_PF_DISCARD (ps.map fun p => (p.win, p.start / 256)).eraseDups.length)

/-- The byte at a global address, where a held part of the window can give it (R206). -/
def heldByte (s : State) (win a : Nat) : Option Byte :=
  match s.brg.parts.find? (fun p => p.win == win && !p.isOpen && !p.dropped && p.status == St.ok &&
      decide (p.start ≤ a) && decide (a < p.start + p.len) && !(p.effectful && p.given.contains (a - p.start))) with
  | some p => p.data[a - p.start]?
  | none => none

/-- A failed part holds the byte. -/
def failedByte (s : State) (win a : Nat) : Bool :=
  s.brg.parts.any fun p => p.win == win && !p.isOpen && !p.dropped && p.status != St.ok && decide (p.start ≤ a) && decide (a < p.start + p.len)

/-- The fabric addresses a read needs. -/
def neededBytes (r : HostRd) : List Nat := (r.pieces.map fun p => (List.range p.len).map (p.addr + ·)).flatten

/-- Delivered bytes are noted in the parts they came from. -/
def markGiven (s : State) (win : Nat) (as : List Nat) : State :=
  setBrg s { s.brg with parts := s.brg.parts.map fun p =>
    if p.win = win ∧ p.dropped = false ∧ p.isOpen = false then
      let offs := (as.filter fun a => decide (p.start ≤ a) && decide (a < p.start + p.len)).map (· - p.start)
      { p with given := p.given ++ offs.filter fun i => !p.given.contains i }
    else p }

/-- Free tags of a pool (R200). -/
def freeTags (s : State) (lo hi : Nat) : Nat := ((List.range (hi - lo)).filter fun i => !s.seq.tags.contains (lo + i)).length

/-- The negotiated version of the node a window leads to allows SPEC READs (R84, R205). -/
def specAllowed (s : State) (w : ObWin) : Bool := 2 ≤ flowVer s w.flow

/-- The bytes of a line of the span that no part of the window covers, as runs. -/
def uncovered (s : State) (win lo hi : Nat) : List (List (Nat × Nat)) :=
  let as := ((List.range (hi + 1 - lo)).map (lo + ·)).filter fun a =>
    !(s.brg.parts.any fun p => p.win == win && !p.dropped && decide (p.start ≤ a) && decide (a < p.start + p.len))
  gatherRuns (as.map fun a => (a, 0)) []

/-- The SPEC READs that keep requested the bytes after a demand whose last byte lies at global address `last` (R205). -/
def aheadReads (s : State) (win : Nat) (w : ObWin) (last : Nat) : State :=
  if w.prefetch = 0 ∨ specAllowed s w = false then s
  else
    let l := last / 256 * 256
    let stop := w.fab + 2 ^ w.sizeLog2 - 1
    (List.range (w.prefetch + 1)).foldl (fun a i =>
      let lo := max (last + 1) (l + 256 * i)
      let hi := min stop (l + 256 * i + 255)
      (uncovered a win lo hi).foldl (fun b r =>
        match r.head? with
        | none => b
        | some x =>
          if getF b Pg.brg F.BRG_PF_CTL_RESERVE < freeTags b 192 512 then
            setBrg b { b.brg with
              parts := b.brg.parts ++ [{ win := win, start := x.1, len := r.length, tag := 0, isOpen := true, dropped := false, status := 0,
                                         effectful := false, unknown := false, data := [], given := [] }]
              offers := b.brg.offers ++ [{ use := .spec x.1, win := win, addr := x.1, len := r.length, data := [] }] }
          else b) a) s

/-- The bridge reads ahead of a demand (R205): lines outside the span are discarded, and the span is kept requested. -/
def runAhead (s : State) (win : Nat) (w : ObWin) (last : Nat) : State :=
  if w.prefetch = 0 ∨ specAllowed s w = false then s
  else
    let l := last / 256 * 256
    aheadReads (discardParts s fun p => p.win == win && (decide (p.start / 256 * 256 < l) || decide (l + 256 * w.prefetch < p.start / 256 * 256)))
      win w last

/-! ## Offering pieces (R192, R197, R200) -/

/-- A bridge transaction takes this tag and goes through R109. -/
def brgIssue (s : State) (o : BrgOffer) (w : ObWin) (tag : Nat) : State :=
  let isW := match o.use with | .write _ => true | _ => false
  let isS := match o.use with | .spec _ => true | _ => false
  let s1 := setBrg (takeTag s tag) { s.brg with
      opens := s.brg.opens ++ [{ tag := tag, use := o.use, win := o.win, addr := o.addr, len := o.len, accepted := false }]
      parts := match o.use with
        | .spec st => mapIf (fun p => p.win == o.win && p.start == st && p.isOpen && !p.dropped) (fun p => { p with tag := tag }) s.brg.parts
        | _ => s.brg.parts }
  let s2 := if isS then bump s1 Pg.brg F.BRG_PF_ISSUED else s1
  issueTagged s2 { tag := tag, init := 0x1000 + o.win, flow := w.flow, op := if isW then 2 else 1, addr := o.addr, len := o.len,
                   data := o.data, spec := isS, orphan := false }

/-- A SPEC READ that is not made leaves its part. -/
def specGone (s : State) (win st : Nat) : State :=
  setBrg s { s.brg with parts := s.brg.parts.filter fun p => !(p.win == win && p.start == st && p.isOpen && !p.dropped) }

/-- The offers in order (R197, R200). Writes of a window go in order. A read waits behind every earlier offer of its window and behind the
writes that ORDER names; a write passes an earlier read that waits for a read tag, and no other. A SPEC READ goes after the writes of its
window, and is not made where R200 withholds a tag or the version forbids it (R84). `ww`, `rw` and `sw` are the windows where later writes,
reads and SPEC READs wait. -/
def pumpOffers : List BrgOffer → List Nat → List Nat → List Nat → State → State
  | [], _, _, _, s => s
  | o :: os, ww, rw, sw, s =>
    match tabGet s.brg.ob o.win with
    | none => pumpOffers os ww rw sw s
    | some w =>
      let kept := setBrg s { s.brg with offers := s.brg.offers ++ [o] }
      match o.use with
      | .write _ =>
        match (if s.seq.running && !ww.contains o.win then lowestFree s.seq.tags 0 192 else none) with
        | some t => pumpOffers os ww rw sw (brgIssue s o w t)
        | none => pumpOffers os (o.win :: ww) (o.win :: rw) (o.win :: sw) kept
      | .read rid _ =>
        let need := match s.brg.reads.find? (·.rid == rid) with | some r => r.needWr | none => []
        if !s.seq.running || need.any (fun i => s.brg.writes.any (·.wid == i)) then
          pumpOffers os (o.win :: ww) (o.win :: rw) (o.win :: sw) kept
        else
          match (if rw.contains o.win then none else lowestFree s.seq.tags 192 512) with
          | some t => pumpOffers os ww rw sw (brgIssue s o w t)
          | none => pumpOffers os ww (o.win :: rw) (o.win :: sw) kept
      | .wait _ => pumpOffers os (o.win :: ww) (o.win :: rw) sw kept
      | .spec st =>
        if !specAllowed s w then pumpOffers os ww rw sw (specGone s o.win st)
        else if s.seq.running && !sw.contains o.win then
          match (if getF s Pg.brg F.BRG_PF_CTL_RESERVE < freeTags s 192 512 then lowestFree s.seq.tags 192 512 else none) with
          | some t => pumpOffers os ww rw sw (brgIssue s o w t)
          | none => pumpOffers os ww rw sw (specGone s o.win st)
        else pumpOffers os ww rw (o.win :: sw) kept

/-! ## Reads and held lines (R205, R206) -/

/-- The offer keeps the place of host read `rid`. -/
def isPlace (rid : Nat) (o : BrgOffer) : Bool := match o.use with | .wait i => i == rid | _ => false

/-- A demand is sent (R205): its pieces take the place it kept, or the end. -/
def demandRead (s : State) (r : HostRd) (w : ObWin) : State :=
  let mine : List BrgOffer := (List.range r.pieces.length).filterMap fun i =>
    (r.pieces[i]?).map fun p => { use := .read r.rid i, win := r.win, addr := p.addr, len := p.len, data := [] }
  let s1 := setBrg s { s.brg with
    reads := mapIf (·.rid == r.rid) (fun x => { x with sent := true }) s.brg.reads
    offers := if s.brg.offers.any (isPlace r.rid) then s.brg.offers.flatMap fun o => if isPlace r.rid o then mine else [o] else s.brg.offers ++ mine }
  runAhead s1 r.win w ((neededBytes r).foldl max 0)

/-- A demand is a hit: held lines answer it (R206). -/
def hitRead (s : State) (r : HostRd) (w : ObWin) : State :=
  let need := neededBytes r
  let r1 := { r with done := (List.range r.pieces.length).filterMap fun i => (r.pieces[i]?).map fun p =>
      (i, ({ status := 0, cause := 0, data := (List.range p.len).map fun j => (heldByte s r.win (p.addr + j)).getD 0#8, tag := 0 } : RdDone)) }
  let s1 := readRespond (bump (markGiven s r.win need) Pg.win F.WIN_PF_HIT 1 r.win) r1
  runAhead (setBrg s1 { s1.brg with offers := s1.brg.offers.filter (!isPlace r.rid ·) }) r.win w (need.foldl max 0)

/-- A read that has been received is served from held lines, waits for an open one, which it does once, or is sent on demand (R205, R206).
While it waits it keeps its place among the offers of its window, and the lines after it are requested. -/
def serveRead (s : State) (r : HostRd) (w : ObWin) : State :=
  let need := neededBytes r
  let opened := (s.brg.parts.filter fun p => p.win == r.win && p.isOpen && !p.dropped && need.any fun a => decide (p.start ≤ a) && decide (a < p.start + p.len)).map (·.start)
  if (need.all fun a => (heldByte s r.win a).isSome) then hitRead s r w
  else if r.lines.isEmpty && !opened.isEmpty then
    aheadReads (setBrg s { s.brg with
      reads := mapIf (·.rid == r.rid) (fun x => { x with lines := opened }) s.brg.reads
      offers := s.brg.offers ++ [{ use := .wait r.rid, win := r.win, addr := 0, len := 0, data := [] }] }) r.win w (need.foldl max 0)
  else demandRead (if need.any (failedByte s r.win) then bump s Pg.brg F.BRG_PF_REFUSED else s) r w

/-- A host read that waits for open lines. -/
def readWaits (r : HostRd) : Bool := !r.sent && !r.abandoned && !r.flush

/-- A line that the read waits for is still open. -/
def lineOpen (s : State) (r : HostRd) : Bool := s.brg.parts.any fun p => p.win == r.win && p.isOpen && !p.dropped && r.lines.contains p.start

/-- Reads whose lines have come, or are gone, look again. -/
def linesCame (s : State) : State :=
  (s.brg.reads.filter fun r => readWaits r && !lineOpen s r).foldl (fun a r =>
    match tabGet a.brg.ob r.win with | some w => serveRead a r w | none => a) s

/-- Flush reads whose writes have all completed are answered with one DW of 0 (R198). -/
def pumpFlush (s : State) : State :=
  (s.brg.reads.filter fun r => r.flush && !(r.needWr.any fun i => s.brg.writes.any (·.wid == i))).foldl (fun a r =>
    emit (setBrg a { a.brg with reads := a.brg.reads.filter (·.rid != r.rid) }) (.cpl r.ptag 0 [0#8, 0#8, 0#8, 0#8])) s

/-- One turn of the bridge's offers. -/
def brgTurn (s : State) : State :=
  let s1 := linesCame s
  pumpFlush (pumpOffers s1.brg.offers [] [] [] (setBrg s1 { s1.brg with offers := [] }))

/-- The bridge offers what it can; a SPEC READ that is not made lets a read that waits for it look again. -/
def brgPump (s : State) : State := (List.range ((s.brg.reads.filter readWaits).length + 1)).foldl (fun a _ => brgTurn a) s

/-! ## Host requests (R185, R190, R196 to R199) -/

/-- Posted credits in use (R185, R196): headers and data units of the writes that still have unaccepted pieces, and of BAR0 writes that wait. -/
def postedHeld (s : State) : Nat × Nat :=
  let ws := (s.brg.writes.filter fun x => 0 < x.unaccepted).map (·.units)
  let bs := (s.brg.barQ.filter (·.isWrite)).length
  (ws.length + bs, ws.foldl (· + ·) 0 + bs)

/-- A posted TLP of `n` bytes finds credits: 64 headers and 2048 data units are advertised; PERTURB
withholds some headers (R453). Without them the host sends none (log entry 152). -/
def postedRoom (s : State) (n : Nat) : Bool := decide ((postedHeld s).1 + creditHeld s Pg.brg < 64) && decide ((postedHeld s).2 + (n + 15) / 16 ≤ 2048)

/-- A read request finds one of the 32 non-posted header credits: reads that are not yet on their way, and BAR0 reads that wait, hold one. -/
def readRoom (s : State) : Bool :=
  let offered (r : HostRd) : Bool := s.brg.offers.any fun o => match o.use with | .read i _ => i == r.rid | _ => false
  decide ((s.brg.reads.filter fun r => !r.abandoned && (r.flush || !r.sent || offered r)).length + (s.brg.barQ.filter (!·.isWrite)).length < 32)

/-- A host write that no piece comes of: it is logged and has no effect; it holds no credits (log entry 153). -/
def writeRefused (s : State) (status cause kind win addr len : Nat) : State :=
  noteErr (errLog s { status := status, cause := cause, kind := kind, discarded := false, win := win, addr := addr, len := min len 256, tag := 0 })
    Pg.brg status cause 0

/-- A host memory write to BAR2 (R196). A NO_WINDOW and a LANE record carry STATUS ADDR_ERR, and WINDOW 0 where no window holds the request
(log entry 161). -/
def hostWrite (s0 : State) (off : Nat) (bytes : List (Option Byte)) : State :=
  if !barsOpen s0 || !postedRoom s0 bytes.length then s0
  else
    let s := bump s0 Pg.brg F.BRG_HOST_WR
    match obFind s off bytes.length with
    | none => writeRefused s St.addrErr 0x46 3 0 off bytes.length
    | some (wi, w) =>
      let en := bytes.map Option.isSome
      let o := off - w.host
      match blockRefuses s Pg.brg with
      | some e => writeRefused s e.1 e.2 0 wi (w.fab + o) bytes.length
      | none =>
        if !laneAllows w (enabledRuns o en) then writeRefused s St.addrErr 0x47 4 wi off bytes.length
        else
          let ps := formPieces w o en (bytes.map (·.getD 0#8))
          let id := s.brg.nextId
          let s1 := discardParts (bump s Pg.win F.WIN_WR_RECV ps.length wi) fun p =>
            p.win == wi && ps.any fun q => decide (q.addr / 256 ≤ p.start / 256) && decide (p.start / 256 ≤ (q.addr + q.len - 1) / 256)
          if ps.isEmpty then s1
          else
            brgPump (setBrg s1 { s1.brg with
              nextId := id + 1
              writes := s1.brg.writes ++ [{ wid := id, win := wi, units := (bytes.length + 15) / 16, unaccepted := ps.length, unclosed := ps.length }]
              offers := s1.brg.offers ++ ps.map fun p => { use := .write id, win := wi, addr := p.addr, len := p.len, data := p.data } })

/-- A zero-length read (R198). -/
def hostFlush (s0 : State) (ptag off : Nat) : State :=
  if !barsOpen s0 || !readRoom s0 then s0
  else
    let s := bump s0 Pg.brg F.BRG_HOST_RD
    match obFind s off 4 with
    | none => emit (bump (noteErr s Pg.brg St.addrErr 0x46 0) Pg.brg F.BRG_UR_SENT) (.cpl ptag 1 [])
    | some (wi, _) =>
      match blockRefuses s Pg.brg with
      | some e => readFail (noteErr s Pg.brg e.1 e.2 0) ptag wi false
      | none =>
        let r : HostRd := { rid := s.brg.nextId, ptag := ptag, win := wi, off := off, len := 4, pieces := [], done := [], sent := true, lines := [],
                            needWr := (s.brg.writes.filter (·.win == wi)).map (·.wid), flush := true, abandoned := false }
        pumpFlush (setBrg s { s.brg with nextId := s.brg.nextId + 1, reads := s.brg.reads ++ [r] })

/-- A host memory read in BAR2 (R185, R195, R197, R206): above 4096 bytes it is not accepted. -/
def hostRead (s0 : State) (ptag off : Nat) (en : List Bool) : State :=
  if !en.contains true then hostFlush s0 ptag off
  else if !barsOpen s0 || !readRoom s0 then s0
  else
    let s := bump s0 Pg.brg F.BRG_HOST_RD
    match (if en.length ≤ 4096 then obFind s off en.length else none) with
    | none => emit (bump (noteErr s Pg.brg St.addrErr 0x46 0) Pg.brg F.BRG_UR_SENT) (.cpl ptag 1 [])
    | some (wi, w) =>
      let o := off - w.host
      match blockRefuses s Pg.brg with
      | some e => readFail (noteErr s Pg.brg e.1 e.2 0) ptag wi false
      | none =>
        if !laneAllows w (enabledRuns o en) then readFail (noteErr s Pg.brg St.addrErr 0x47 0) ptag wi true
        else
          let r : HostRd := { rid := s.brg.nextId, ptag := ptag, win := wi, off := off, len := en.length, pieces := formPieces w o en [], done := [],
                              sent := false, lines := [], needWr := if w.order then s.brg.writes.map (·.wid) else [], flush := false, abandoned := false }
          brgPump (serveRead (setBrg s { s.brg with nextId := s.brg.nextId + 1, reads := s.brg.reads ++ [r] }) r w)

/-! ## Closures and acceptances (R196, R201, R202, R206, R207) -/

/-- One piece fewer of a posted write is unaccepted: its credits go back with the last one (R196). -/
def pieceTaken (s : State) (wid : Nat) : State :=
  let s1 := setBrg s { s.brg with writes := mapIf (·.wid == wid) (fun x => { x with unaccepted := x.unaccepted - 1 }) s.brg.writes }
  if s1.brg.writes.any (fun x => x.wid == wid && x.unaccepted == 0) then emit (creditNote s1 Pg.brg) (.event 1 wid) else s1

/-- An acceptance of a bridge transaction. A tag that a refusal has freed may be in use again: it is the newest use that is accepted. -/
def brgAccepted (s : State) (tag : Nat) : State :=
  match s.brg.opens.reverse.find? (·.tag == tag) with
  | none => s
  | some o =>
    if o.accepted then s
    else
      let s1 := setBrg s { s.brg with opens := (updFirst (·.tag == tag) (fun x => { x with accepted := true }) s.brg.opens.reverse).reverse }
      match o.use with
      | .write wid => pieceTaken s1 wid
      | _ => s1

/-- A write piece has closed (R196). -/
def writeClosed (s : State) (o : BrgOpen) (wid status cause : Nat) : State :=
  let s1 := bump s Pg.win F.WIN_WR_DONE 1 o.win
  let s2 := if status = St.ok then s1
    else errLog (bump s1 Pg.win F.WIN_WR_FAIL 1 o.win) {
      status := status, cause := cause, kind := 0, discarded := false, win := o.win, addr := o.addr, len := o.len, tag := o.tag }
  let s3 := if o.accepted then s2 else pieceTaken s2 wid
  setBrg s3 { s3.brg with writes := (mapIf (·.wid == wid) (fun x => { x with unclosed := x.unclosed - 1 }) s3.brg.writes).filter (·.unclosed != 0) }

/-- The log record of a piece of an abandoned read (R202). -/
def abandonLog (s : State) (win addr len : Nat) (d : RdDone) : State :=
  errLog s { status := d.status, cause := d.cause, kind := 1, discarded := !d.data.isEmpty || d.status == St.okLateAbort, win := win,
             addr := addr, len := len, tag := d.tag }

/-- A read piece has closed (R201, R202). -/
def readClosed (s : State) (o : BrgOpen) (rid idx : Nat) (d : RdDone) : State :=
  match s.brg.reads.find? (·.rid == rid) with
  | none => s
  | some r =>
    let r1 := { r with done := tabSet r.done idx d }
    let s1 := setBrg s { s.brg with reads := mapIf (·.rid == rid) (fun _ => r1) s.brg.reads }
    let all := (List.range r1.pieces.length).all fun i => (tabGet r1.done i).isSome
    if r.abandoned then
      let s2 := abandonLog s1 o.win o.addr o.len d
      if all then setBrg s2 { s2.brg with reads := s2.brg.reads.filter (·.rid != rid) } else s2
    else if all then readRespond s1 r1 else s1

/-- A SPEC READ has closed (R206, R207). -/
def specClosed (s : State) (o : BrgOpen) (status cause : Nat) (effectful : Bool) (data : List Byte) : State :=
  match s.brg.parts.find? (fun p => p.tag == o.tag && p.isOpen) with
  | none => s
  | some p =>
    let p1 := { p with isOpen := false, status := status, effectful := effectful && status == St.ok, unknown := outcomeUnknown status cause, data := data }
    if p.dropped then
      partLoss (setBrg s { s.brg with parts := s.brg.parts.filter fun q => !(q.tag == o.tag && q.isOpen) }) p1
    else
      setBrg s { s.brg with parts := mapIf (fun q => q.tag == o.tag && q.isOpen) (fun _ => p1) s.brg.parts }

/-- A list without its first element that `p` accepts. -/
def dropFirst (p : α → Bool) (l : List α) : List α := l.takeWhile (fun x => !p x) ++ (l.dropWhile fun x => !p x).drop 1

/-- The bridge as initiator takes a closure. A tag that a refusal has freed may be in use again: closures come in the order of their tags' uses. -/
def brgClosed (s : State) (c : Closing) : State :=
  match s.brg.opens.find? (·.tag == c.tag) with
  | none => s
  | some o =>
    let s1 := setBrg s { s.brg with opens := dropFirst (·.tag == c.tag) s.brg.opens }
    let s2 := match o.use with
      | .write wid => writeClosed s1 o wid c.status c.cause
      | .read rid idx => readClosed s1 o rid idx { status := c.status, cause := c.cause, data := c.data, tag := c.tag }
      | .spec _ => specClosed s1 o c.status c.cause c.effectful c.data
      | .wait _ => s1
    brgPump s2

/-- A transaction of the bridge that has its tag but no sequence number leaves its flow's waiting list. -/
def unwait (s : State) (flow tag : Nat) : State :=
  freeTag (setFlow s flow { flowOf s flow with waiting := (flowOf s flow).waiting.filter (·.tag != tag) }) tag

/-- The transaction with this tag still waits for a sequence number. -/
def isWaiting (s : State) (flow tag : Nat) : Bool := (flowOf s flow).waiting.any (·.tag == tag)

/-- The flow of a window. -/
def winFlow (s : State) (win : Nat) : Nat := match tabGet s.brg.ob win with | some w => w.flow | none => 0

/-- One open piece of an abandoned read is aborted (R113, R202). -/
def abortPiece (s : State) (o : BrgOpen) : State :=
  let fl := winFlow s o.win
  if isWaiting s fl o.tag then
    brgClosed (unwait s fl o.tag) { init := 0x1000 + o.win, tag := o.tag, status := St.aborted, cause := 0, effectful := false, data := [], orphan := false }
  else
    match tagHolder s o.tag with
    | some (f, q) =>
      (match openAt (flowOf s f) q with | some x => if x.fill.isSome then s else startFill s f q St.aborted | none => s)
    | none => s

/-- A host read is abandoned (R202): each piece gets exactly one log record, and what is open is aborted. What has not been sent ends with this
status. -/
def abandonRead (s : State) (r : HostRd) (status cause : Nat) : State :=
  if r.flush then setBrg s { s.brg with reads := s.brg.reads.filter (·.rid != r.rid) }
  else
    let unsent := if r.sent then s.brg.offers.filterMap (fun o => match o.use with | .read i k => if i = r.rid then some k else none | _ => none)
      else List.range r.pieces.length
    let s1 := setBrg s { s.brg with
      offers := s.brg.offers.filter fun o => match o.use with | .read i _ => i != r.rid | .wait i => i != r.rid | _ => true
      reads := mapIf (·.rid == r.rid) (fun x => { x with abandoned := true }) s.brg.reads }
    let s2 := (List.range r.pieces.length).foldl (fun a i =>
      match r.pieces[i]?, tabGet r.done i with
      | some p, some d => abandonLog a r.win p.addr p.len d
      | some p, none =>
        if unsent.contains i then
          let d : RdDone := { status := status, cause := cause, data := [], tag := 0 }
          setBrg (abandonLog a r.win p.addr p.len d) { (abandonLog a r.win p.addr p.len d).brg with
            reads := mapIf (·.rid == r.rid) (fun x => { x with done := tabSet x.done i d }) a.brg.reads }
        else a
      | none, _ => a) s1
    let s3 := setBrg s2 { s2.brg with reads := s2.brg.reads.filter fun x =>
        !(x.rid == r.rid && (List.range x.pieces.length).all fun i => (tabGet x.done i).isSome) }
    (s3.brg.opens.filter fun o => match o.use with | .read i _ => i == r.rid | _ => false).foldl abortPiece s3

/-- The time-out of a host read (R202). -/
def hostReadTimeout (s : State) (ptag : Nat) : State :=
  match s.brg.reads.find? (fun r => r.ptag == ptag && !r.abandoned && !r.flush) with
  | none => s
  | some r => abandonRead (bump (readFail s ptag r.win false) Pg.brg F.BRG_LATE) r St.aborted 0

/-- A held line reaches PF_LIFE (R207). -/
def lineExpire (s : State) (win start : Nat) : State := discardParts s fun p => p.win == win && p.start == start && !p.isOpen

/-- The transaction is one of the bridge that an end of the bridge with this status takes with it: a write piece, or at a HANG any. -/
def brgEnds (status : Nat) (t : Txn) : Bool := t.init / 4096 == 1 && (t.op == 2 || status == St.hang)

/-- Writes received and not yet accepted complete with this status and are logged; host reads are abandoned; lines are discarded (R29, R55,
R214). -/
def brgReset (s : State) (canAnswer : Bool) (status cause : Nat) : State :=
  let wOffers := s.brg.offers.filter fun o => match o.use with | .write _ => true | _ => false
  let s1 := setBrg s { s.brg with offers := s.brg.offers.filter fun o => match o.use with | .read _ _ => true | .wait _ => true | _ => false }
  let s2 := wOffers.foldl (fun a o => match o.use with
    | .write wid => writeClosed (noteErr a Pg.brg status cause 0)
        { tag := 0, use := o.use, win := o.win, addr := o.addr, len := o.len, accepted := false } wid status cause
    | _ => a) s1
  let s3 := endUnaccepted s2 (brgEnds status) status cause Pg.brg
  let s4 := (s3.brg.reads.filter fun r => !r.abandoned).foldl (fun a r =>
    abandonRead (if canAnswer then bump (readFail a r.ptag r.win false) Pg.brg F.BRG_LATE else a) r status cause) s3
  discardParts s4 fun _ => true

/-! ## Inbound windows (R209 to R211) -/

/-- The inbound window that the registers and a CTL value describe. -/
def ibStaged (s : State) (k : Nat) (v : Word) : IbWin :=
  { en := wordBits v 0 1 == 1, wrEn := wordBits v 1 1 == 1, rdEn := wordBits v 2 1 == 1, ns := wordBits v 3 1 == 1,
    ro := wordBits v 4 1 == 1, sizeLog2 := wordBits v 8 6,
    fab := getF s Pg.win F.WIN_IB_FAB_LO_FAB_LO k * 4096 + getF s Pg.win F.WIN_IB_FAB_HI_FAB_HI k * 2 ^ 32,
    host := getF s Pg.win F.WIN_IB_HOST_LO_HOST_LO k * 4096 + getF s Pg.win F.WIN_IB_HOST_HI_HOST_HI k * 2 ^ 32 }

/-- What refuses the commit of an inbound window (R209). -/
def ibRefusal (s : State) (k : Nat) (n : IbWin) : Option Nat :=
  if !n.en then none
  else if n.sizeLog2 < 12 ∨ 33 < n.sizeLog2 ∨ n.fab % 2 ^ n.sizeLog2 ≠ 0 ∨ n.host % 2 ^ n.sizeLog2 ≠ 0 ∨ n.fab < 0x140000000 ∨
      0x500000000 < n.fab + 2 ^ n.sizeLog2 then some Cause.range
  else if s.brg.ib.any (fun e => e.1 != k && e.2.en && decide (e.2.fab < n.fab + 2 ^ n.sizeLog2) &&
      decide (n.fab < e.2.fab + 2 ^ e.2.sizeLog2)) then some 0x41
  else none

/-- The enabled inbound window that holds an OFFSET. -/
def ibFind (s : State) (off : Nat) : Option (Nat × IbWin) :=
  s.brg.ib.find? fun e => e.2.en && decide (e.2.fab ≤ off) && decide (off < e.2.fab + 2 ^ e.2.sizeLog2)

/-- A host range split at 4 KiB boundaries and at `unit` bytes (R210). `n` bounds the number of TLPs. -/
def splitTlps (unit : Nat) (data : List Byte) : Nat → Nat → Nat → List IbTlp
  | 0, _, _ => []
  | n + 1, a, left =>
    if left = 0 then []
    else
      let k := min (min left unit) (4096 - a % 4096)
      { addr := a, len := k, data := data.take k } :: splitTlps unit (data.drop k) n (a + k) (left - k)

/-- A transaction of an inbound window is taken up (R210): its TLPs are formed. -/
def ibStart (s : State) (c wi : Nat) (w : IbWin) (op off len : Nat) (data : List Byte) : State :=
  let unit := if op = 1 then 128 * 2 ^ getF s Pg.brg F.BRG_LINK_STAT_MRRS else maxPayload s
  let t : IbTxn := { ctx := c, op := op, win := wi, todo := splitTlps unit data (len + 1) (w.host + (off - w.fab)) len, begun := false,
                     reads := [], data := [], total := len, attr := (if w.ns then 1 else 0) + (if w.ro then 2 else 0) }
  setHeldSt (setBrg s { s.brg with ibTxns := s.brg.ibTxns ++ [t] }) c .waitHost

/-- An inbound transaction ends with a record. -/
def ibEnd (s : State) (c : Nat) (r : CplRec) : State :=
  completeRec (setBrg s { s.brg with ibTxns := s.brg.ibTxns.filter (·.ctx != c) }) c r

/-- An inbound transaction fails at the host (R211). -/
def ibFail (s : State) (c cause : Nat) : State :=
  ibEnd (irqEvent (bump (noteErr s Pg.brg St.targetErr cause 0) Pg.brg F.BRG_IB_ERR) Pg.brg 6) c (ansRec St.targetErr cause 0)

/-- The lowest free tag for a read towards the host. -/
def ibTag (s : State) : Option Nat := lowestFree ((s.brg.ibTxns.map fun t => t.reads.map (·.tag)).flatten) 0 64

/-- One inbound transaction issues the TLPs that its credits allow; a write ends with its last one (R210). -/
def ibIssue : Nat → State → Nat → State
  | 0, s, _ => s
  | n + 1, s, c =>
    match s.brg.ibTxns.find? (·.ctx == c) with
    | none => s
    | some t =>
      match t.todo with
      | [] => s
      | tlp :: rest =>
        if !t.begun && !hostThere s then ibFail s c 0x45
        else if t.op = 1 then
          match (if hostThere s && decide (1 ≤ s.brg.nhCred) then ibTag s else none) with
          | none => s
          | some tag =>
            let place := t.total - (t.todo.map (·.len)).foldl (· + ·) 0
            let t1 := { t with todo := rest, begun := true, reads := t.reads ++ [{ tag := tag, place := place, len := tlp.len, got := [] }] }
            ibIssue n (emit (setBrg s { s.brg with ibTxns := mapIf (·.ctx == c) (fun _ => t1) s.brg.ibTxns, nhCred := s.brg.nhCred - 1 })
              (.tlp 1 tlp.addr tlp.len [] tag t.attr)) c
        else if hostThere s && decide (1 ≤ s.brg.phCred) && decide ((tlp.len + 15) / 16 ≤ s.brg.pdCred) then
          let s1 := emit (setBrg s { s.brg with
            ibTxns := mapIf (·.ctx == c) (fun _ => { t with todo := rest, begun := true }) s.brg.ibTxns
            phCred := s.brg.phCred - 1, pdCred := s.brg.pdCred - (tlp.len + 15) / 16 }) (.tlp 0 tlp.addr tlp.len tlp.data 0 t.attr)
          if rest.isEmpty then ibEnd (bump s1 Pg.brg F.BRG_IB_TXN) c (ansRec St.ok 0 0) else ibIssue n s1 c
        else s

/-- Every inbound transaction issues what it can, oldest first. -/
def ibPump (s : State) : State := (s.brg.ibTxns.map (·.ctx)).foldl (fun a c => ibIssue 300 a c) s

/-- A host completion to an inbound read (R210, R211): 0 SC, 1 UR, 2 CRS, 4 CA. -/
def hostCompletion (s : State) (tag status : Nat) (data : List Byte) (poisoned : Bool) : State :=
  match s.brg.ibTxns.find? (fun t => t.reads.any (·.tag == tag)) with
  | none => s
  | some t =>
    match t.reads.find? (·.tag == tag) with
    | none => s
    | some r =>
      if status = 1 then ibFail s t.ctx 0x40
      else if status ≠ 0 then ibFail s t.ctx 0x41
      else if poisoned then ibFail s t.ctx 0x42
      else
        let got := (r.got ++ data).take r.len
        let whole := got.length == r.len
        let t1 := { t with
          reads := if whole then t.reads.filter (·.tag != tag) else mapIf (·.tag == tag) (fun x => { x with got := got }) t.reads
          data := if whole then (List.range r.len).foldl (fun a i => tabSet a (r.place + i) (got.getD i 0#8)) t.data else t.data }
        let s1 := setBrg s { s.brg with ibTxns := mapIf (·.ctx == t.ctx) (fun _ => t1) s.brg.ibTxns }
        if t1.todo.isEmpty && t1.reads.isEmpty then
          ibEnd (bump s1 Pg.brg F.BRG_IB_TXN) t.ctx { ansRec St.ok 0 0 with data := (List.range t.total).map fun i => (tabGet t1.data i).getD 0#8 }
        else ibIssue 300 s1 t.ctx

/-! ## MSI-X (R64, R213) -/

/-- Word `w` of MSI-X table entry `v`; an entry nobody has written is masked. -/
def msixWord (s : State) (v w : Nat) : Word := (tabGet s.brg.msix (4 * v + w)).getD (if w = 3 then 1#32 else 0#32)

/-- Nothing holds vector `v` back (R213). -/
def msixFree (s : State) (v : Nat) : Bool :=
  wordBits (msixWord s v 3) 0 1 == 0 && !getB s Pg.brg F.BRG_LINK_STAT_FMASK && getB s Pg.brg F.BRG_LINK_STAT_MSIX_EN &&
  getB s Pg.brg F.BRG_LINK_STAT_BME && brgUp s

/-- Bit `v` of a 64-bit word set or cleared. -/
def bit64 (w : DWord) (v : Nat) (b : Bool) : DWord := if b then w ||| BitVec.ofNat 64 (2 ^ v) else w &&& ~~~(BitVec.ofNat 64 (2 ^ v))

/-- Vector `v` fires: its message is sent, or its pending bit is set while something holds it back. -/
def msixFire (s : State) (v : Nat) : State :=
  if msixFree s v then emit { s with intr := { s.intr with pba := bit64 s.intr.pba v false } } (.msix v)
  else { s with intr := { s.intr with pba := bit64 s.intr.pba v true } }

/-- A held vector is sent once nothing holds it back and its level is still 1; a level that has gone leaves nothing to send. -/
def msixHeld (s : State) (v : Nat) : State :=
  if s.intr.pba.getLsbD v && msixFree s v then
    (if s.intr.vec.getLsbD v then msixFire s v else { s with intr := { s.intr with pba := bit64 s.intr.pba v false } })
  else s

end Sys2Proof.Machine
end

