-- ==== Sys2Proof/Machine/Fifo.lean ====
section
/-! DEFINITION. The packing FIFOs of serial ports and benches (R272 to R280, R295) and their pushes to the fabric, as operations.
Endpoint n below 32 is serial port n; endpoint 32 + n is bench n (R47). -/

namespace Sys2Proof.Machine

/-- The page of an endpoint. -/
def epPage (ep : Nat) : Nat := if ep < 32 then Pg.ser ep else Pg.ben (ep - 32)
def epIsSer (ep : Nat) : Bool := decide (ep < 32)

/-- A field of an endpoint's page: the first for a serial port, the second for a bench. -/
def epFld (ep : Nat) (fs fb : FieldD) : FieldD := if ep < 32 then fs else fb

/-- What the FIFOs of an endpoint hold after a pin or cold reset (R282, R298). -/
def fifoNew : FifoSt :=
  { rx := [], opened := [], openGap := false, sealed := none, gapNext := false, fc := false, tx := [], txTaken := 0, txGapNext := false,
    posForm := 0, pushGap := false, holdOver := false, txMsn := none }

def fifoOf (s : State) (ep : Nat) : FifoSt := (tabGet s.fld.fifo ep).getD fifoNew
def setFifo (s : State) (ep : Nat) (f : FifoSt) : State := { s with fld := { s.fld with fifo := tabSet s.fld.fifo ep f } }

/-- Words of a receive FIFO and of a transmit FIFO (R272, R275, R295). -/
def rxDepth (ep : Nat) : Nat := if ep < 32 then 128 else 256
def txDepth (ep : Nat) : Nat := if ep < 32 then 64 else 256

/-- Interrupt sources of an endpoint's page. -/
def irqRxHigh (ep : Nat) : Nat := if ep < 32 then 3 else 5
def irqTxEmpty (ep : Nat) : Nat := if ep < 32 then 4 else 7
def irqLoss (ep : Nat) : Nat := if ep < 32 then 7 else 6
def irqPushFail (ep : Nat) : Nat := if ep < 32 then 9 else 8

/-- The unit of a bench's FIFO actions in bytes (R285). -/
def benUnit (s : State) (n : Nat) : Nat := if getF s (Pg.ben n) F.BEN_SHIFT_CFG_WIDTH ≤ 8 then 1 else 2

/-! ## Fill and flow control (R276) -/

/-- Bytes in closed words. -/
def closedBytes (ws : List FWord) : Nat := (ws.map fun w => w.data.length).foldl (· + ·) 0

/-- The receive fill. -/
def rxFill (f : FifoSt) : Nat := closedBytes f.rx + f.opened.length + (match f.sealed with | some w => w.data.length | none => 0)

/-- The flow-control signal follows the fill. -/
def fcUpdate (s : State) (ep : Nat) : State :=
  let f := fifoOf s ep
  let hi := getF s (epPage ep) (epFld ep F.SER_WMARK_HIGH F.BEN_WMARK_HIGH)
  let lo := getF s (epPage ep) (epFld ep F.SER_WMARK_LOW F.BEN_WMARK_LOW)
  if !f.fc && decide (hi ≤ rxFill f) then irqEvent (setFifo s ep { f with fc := true }) (epPage ep) (irqRxHigh ep)
  else if f.fc && decide (rxFill f ≤ lo) then setFifo s ep { f with fc := false }
  else s

/-! ## Receive side (R272, R273, R277) -/

def serNew : SerSt := { phase := .idle, inChar := none, breakReq := false, breaking := false, breakLast := false, idleArmed := false, msgStart := none, charEnd := (0, false), markFrom := none }
def serOf (s : State) (n : Nat) : SerSt := (tabGet s.fld.ser n).getD serNew
def setSer (s : State) (n : Nat) (p : SerSt) : State := { s with fld := { s.fld with ser := tabSet s.fld.ser n p } }

/-- A word of a serial port closes with LAST: the message stamps are latched (R277). -/
def msgLatch (s : State) (ep : Nat) : State :=
  if ep < 32 then
    let p := serOf s ep
    let st := p.msgStart.getD (0, false)
    let s1 := setF (setF s (Pg.ser ep) F.SER_MSG_START_STAMP st.1) (Pg.ser ep) F.SER_MSG_END_STAMP p.charEnd.1
    irqEvent (setSer (setB s1 (Pg.ser ep) F.SER_MSG_FLAGS_UNSYNC (st.2 || p.charEnd.2)) ep { p with msgStart := none }) (Pg.ser ep) 2
  else s

/-- A closed receive word is mirrored (R369, KIND 7): its tag, then its bytes. -/
def wordMirror (s : State) (ep : Nat) (w : FWord) : State :=
  mirrorNote s 7 ep 0 (beBytes 1 1 ++ beBytes 1 (w.data.length + (if w.last then 16 else 0) + (if w.gap then 32 else 0)) ++ w.data)

/-- A sealed word enters the FIFO once a word is free (R273). -/
def sealedEnter (s : State) (ep : Nat) : State :=
  let f := fifoOf s ep
  match f.sealed with
  | some w => if f.rx.length < rxDepth ep then wordMirror (setFifo s ep { f with rx := f.rx ++ [w], sealed := none }) ep w else s
  | none => s

/-- The open word is closed with LAST, and enters the FIFO or waits as a sealed word (R272, R273). -/
def sealOpen (s : State) (ep : Nat) : State :=
  let f := fifoOf s ep
  if f.opened.isEmpty then s
  else
    let w : FWord := { data := f.opened, last := true, gap := f.openGap }
    msgLatch (sealedEnter (setFifo s ep { f with opened := [], openGap := false, sealed := some w }) ep) ep

/-- A flush of the open word (R272). -/
def rxFlush (s : State) (ep : Nat) : State := sealOpen s ep

/-- `n` bytes are lost (R273). -/
def rxLoss (s : State) (ep n : Nat) : State :=
  let s1 := irqEvent (bump s (epPage ep) (epFld ep F.SER_RX_LOST F.BEN_RX_LOST) n) (epPage ep) (irqLoss ep)
  let s2 := sealOpen s1 ep
  setFifo s2 ep { fifoOf s2 ep with gapNext := true }

/-- A push of `n` bytes would complete now (R272, R287). -/
def rxRoom (s : State) (ep n : Nat) : Bool :=
  let f := fifoOf s ep
  f.sealed.isNone && (f.opened.isEmpty || decide (f.opened.length + n ≤ 8) || decide (f.rx.length < rxDepth ep))

/-- A byte of a serial port, or a unit of a bench, arrives (R272, R295). -/
def rxUnit (s : State) (ep : Nat) (bs : List Byte) : State :=
  let f := fifoOf s ep
  let s1 :=
    if !rxRoom s ep bs.length then rxLoss s ep bs.length
    else if f.opened.isEmpty then setFifo s ep { f with opened := bs, openGap := f.gapNext, gapNext := false }
    else if f.opened.length + bs.length ≤ 8 then setFifo s ep { f with opened := f.opened ++ bs }
    else
      let w : FWord := { data := f.opened, last := false, gap := f.openGap }
      wordMirror (setFifo s ep { f with rx := f.rx ++ [w], opened := bs, openGap := f.gapNext, gapNext := false }) ep w
  fcUpdate s1 ep

/-- Every receive word is discarded; pushes not yet accepted lose theirs (R273). -/
def rxDiscard (s : State) (ep : Nat) (gap : Bool) : State :=
  let f := fifoOf s ep
  let s1 := setFifo s ep { f with rx := [], opened := [], openGap := false, sealed := none, gapNext := gap, holdOver := false }
  fcUpdate { s1 with fld := { s1.fld with
      pushes := mapIf (fun p => p.ep == ep && !p.accepted) (fun p => { p with words := 0 }) s1.fld.pushes } } ep

/-! ## The receive half of the window (R274) -/

/-- The idle word. -/
def idleWord : Nat := 0x1D1E1D1E1D1E1D1E

/-- The tag of a word (R272). -/
def wordTag (w : FWord) : Nat := w.data.length + (if w.last then 16 else 0) + (if w.gap then 32 else 0)

/-- The eight bytes of a word, unused bytes 0x00. -/
def wordBytes (w : FWord) : List Byte := w.data ++ List.replicate (8 - w.data.length) 0#8

/-- `n` words popped from a list, as a view gives them: in the tagged view each is followed by its tag word with REMAIN. -/
def popWords : Nat → Bool → List FWord → List Byte × List FWord
  | 0, _, ws => ([], ws)
  | n + 1, tagged, [] =>
    let r := popWords n tagged []
    (leBytes 8 idleWord ++ (if tagged then leBytes 8 0 else []) ++ r.1, r.2)
  | n + 1, tagged, w :: ws =>
    let r := popWords n tagged ws
    (wordBytes w ++ (if tagged then leBytes 8 (wordTag w + 65536 * closedBytes ws) else []) ++ r.1, r.2)

/-- The words of one READ are popped together; a sealed word enters after them, and the flow-control signal follows. -/
def fifoPop (s : State) (ep words : Nat) (tagged : Bool) : List Byte × State :=
  let f := fifoOf s ep
  let r := popWords words tagged f.rx
  (r.1, fcUpdate (sealedEnter (setFifo s ep { f with rx := r.2, holdOver := f.holdOver && decide (words < 1) }) ep) ep)

/-- The port or bench pushes its receive words: EN is 1, its block takes items, and it is no standby (R54, R55, R278, R280). -/
def pushOn (s : State) (ep : Nat) : Bool :=
  getB s (epPage ep) (epFld ep F.SER_PUSH_CFG_EN F.BEN_PUSH_CFG_EN) && blockTakes s (epPage ep) && !(pairRole s == 1 || pairRole s == 3 || pairRole s == 4)

/-- The half-window range is one that R274 allows: (tagged, words). -/
def rxViewOf (off len : Nat) : Option (Bool × Nat) :=
  if off + len ≤ 0x4000 then
    (if 8 ≤ len ∧ len ≤ 256 ∧ len % 8 = 0 ∧ off % 8 = 0 then some (false, len / 8) else none)
  else if 0x4000 ≤ off then
    (if 16 ≤ len ∧ len ≤ 256 ∧ len % 16 = 0 ∧ off % 16 = 0 then some (true, len / 16) else none)
  else none

/-! ## The transmit side (R275, R295) -/

/-- A push of `n` bytes finds room. -/
def txRoom (s : State) (ep n : Nat) : Bool := decide ((fifoOf s ep).tx.length + (n + 7) / 8 ≤ txDepth ep)

/-- The bytes of one transaction as words, the last with LAST, the first with GAP where one is owed. -/
def packWords : Nat → List Byte → Bool → List FWord
  | 0, _, _ => []
  | k + 1, bs, gap =>
    if bs.length ≤ 8 then (if bs.isEmpty then [] else [{ data := bs, last := true, gap := gap }])
    else { data := bs.take 8, last := false, gap := gap } :: packWords k (bs.drop 8) false

/-- A transaction's bytes join the transmit FIFO. -/
def txPush (s : State) (ep : Nat) (bs : List Byte) : State :=
  let f := fifoOf s ep
  if bs.isEmpty then s else setFifo s ep { f with tx := f.tx ++ packWords 33 bs f.txGapNext, txGapNext := false }

/-- The oldest transmit word may go on, or begin: its TX_BEGIN record is mirrored (R374). A handover lets none begin (R379). -/
def txGate (s : State) (ep : Nat) : Bool :=
  let f := fifoOf s ep
  f.txTaken != 0 || pairRole s != 5 && (!mirroring s || (match f.txMsn with | some m => mirAcked s m | none => false))

/-- `u` bytes taken from the oldest transmit word: the bytes, and whether they are the last of a word with LAST. The last byte
frees the word; a word that carries GAP counts when it is begun (R275, R295). -/
def txTake (s : State) (ep u : Nat) : Option (List Byte × Bool × State) :=
  let f := fifoOf s ep
  match f.tx with
  | [] => none
  | w :: ws =>
    let bs := (w.data.drop f.txTaken).take u
    let done := decide (w.data.length ≤ f.txTaken + u)
    let s1 := if w.gap && f.txTaken == 0 then bump s (epPage ep) (epFld ep F.SER_TX_GAP F.BEN_TX_GAP) else s
    some (bs, done && w.last, setFifo s1 ep { f with txMsn := if f.txTaken = 0 then none else f.txMsn, tx := if done then ws else w :: ws, txTaken := if done then 0 else f.txTaken + u })

/-- Every transmit word not yet begun is discarded and its bytes are counted (R275). -/
def txClear (s : State) (ep : Nat) (gap : Bool) : State :=
  let f := fifoOf s ep
  let keep := if f.txTaken = 0 then [] else f.tx.take 1
  let gone := if f.txTaken = 0 then f.tx else f.tx.drop 1
  bump (setFifo s ep { f with tx := keep, txGapNext := f.txGapNext || gap }) (epPage ep)
    (epFld ep F.SER_TX_DISCARD F.BEN_TX_DISCARD) (closedBytes gone)

/-- The FIFOs of an endpoint across a block reset of its page or a warm reset: words each way discarded, the next each way with
GAP, and the pushes not yet accepted orphaned (R280, R282, R298). -/
def fifoReset (s : State) (ep : Nat) : State :=
  let f := fifoOf s ep
  let n := closedBytes f.tx - f.txTaken
  let s1 := bump s (epPage ep) (epFld ep F.SER_TX_DISCARD F.BEN_TX_DISCARD) n
  let s2 := setFifo s1 ep { fifoNew with gapNext := true, txGapNext := true }
  { s2 with fld := { s2.fld with pushes := mapIf (fun p => p.ep == ep) (fun p => { p with words := 0, orphan := true }) s2.fld.pushes } }

/-! ## Pushing receive words to the fabric (R278, R279) -/

/-- Pushes of an endpoint that count as its own. -/
def openPushes (s : State) (ep : Nat) : List Push := s.fld.pushes.filter fun p => p.ep == ep && !p.orphan

/-- Closed words at the head of the FIFO that open pushes have taken. -/
def takenWords (s : State) (ep : Nat) : Nat := ((openPushes s ep).map (·.words)).foldl (· + ·) 0

/-- The closed words that no push has taken. -/
def freeWords (s : State) (ep : Nat) : List FWord := (fifoOf s ep).rx.drop (takenWords s ep)

def epMax (s : State) (ep : Nat) : Nat := getF s (epPage ep) (epFld ep F.SER_PUSH_CFG_MAX_WORDS F.BEN_PUSH_CFG_MAX_WORDS)
def epAddr (s : State) (ep : Nat) : Nat :=
  getF s (epPage ep) (epFld ep F.SER_PUSH_ADDR_LO_ADDR_LO F.BEN_PUSH_ADDR_LO_ADDR_LO) +
  2 ^ 32 * getF s (epPage ep) (epFld ep F.SER_PUSH_ADDR_HI_ADDR_HI F.BEN_PUSH_ADDR_HI_ADDR_HI)
def epRegion (s : State) (ep : Nat) : Nat := 2 ^ (8 + getF s (epPage ep) (epFld ep F.SER_PUSH_CFG_WRAP F.BEN_PUSH_CFG_WRAP))
def epOp (s : State) (ep : Nat) : Bool := getB s (epPage ep) (epFld ep F.SER_PUSH_CFG_OP F.BEN_PUSH_CFG_OP)
def epView (s : State) (ep : Nat) : Bool := getB s (epPage ep) (epFld ep F.SER_PUSH_CFG_VIEW F.BEN_PUSH_CFG_VIEW)

/-- A reason to form a push exists (R278). -/
def pushDue (s : State) (ep : Nat) : Bool :=
  let ws := freeWords s ep
  !ws.isEmpty && (decide (epMax s ep ≤ ws.length) || ws.any (·.last) || (fifoOf s ep).holdOver)

/-- The bytes that a push of these words carries; `rest` are the closed words after them (R278). -/
def pushBytes : Bool → List FWord → List FWord → List Byte
  | _, [], _ => []
  | tagged, w :: ws, rest =>
    (if tagged then wordBytes w ++ leBytes 8 (wordTag w + 65536 * closedBytes (ws ++ rest)) else w.data) ++ pushBytes tagged ws rest

/-- The words a push takes: the oldest ones, at most MAX_WORDS. -/
def pushTake (s : State) (ep : Nat) : List FWord := (freeWords s ep).take (epMax s ep)

/-- A push of an endpoint is formed and takes a field-stream tag, when its reasons, its depth and the tags allow (R278, R279).
A standby acts as if EN were 0. -/
def pushForm (s : State) (ep : Nat) : State :=
  let used := s.fld.pushes.map (·.tag)
  if !(pushOn s ep && pushDue s ep &&
      decide ((openPushes s ep).length < getF s (epPage ep) (epFld ep F.SER_PUSH_CFG_DEPTH F.BEN_PUSH_CFG_DEPTH))) then s
  else
    match lowestFree used 704 1024 with
    | none => s
    | some tag =>
      let f := fifoOf s ep
      let ws := match pushTake s ep with
        | [] => []
        | w :: r => { w with gap := w.gap || f.pushGap } :: r
      let tk := takenWords s ep
      let data := pushBytes (epView s ep) ws ((freeWords s ep).drop (epMax s ep))
      let pos := if epOp s ep then (if epRegion s ep < f.posForm + data.length then 0 else f.posForm) else 0
      let gen := ((tabGet s.fld.tagGen tag).getD 63 + 1) % 64
      let req : TxnReq := {
        init := 0x4000 + ep, flow := getF s (epPage ep) (epFld ep F.SER_PUSH_CFG_FLOW F.BEN_PUSH_CFG_FLOW),
        op := if epOp s ep then 2 else 5, addr := BitVec.ofNat 64 (epAddr s ep + pos), len := data.length, data := data, spec := false }
      let p : Push := {
          ep := ep, tag := tag, gen := gen, words := ws.length, pos := pos, req := req,
          accepted := false, orphan := false }
      let s1 := setFifo s ep { f with
        rx := f.rx.take tk ++ ws ++ f.rx.drop (tk + ws.length), pushGap := false, holdOver := false,
        posForm := if epOp s ep then pos + data.length else f.posForm }
      fieldItem { s1 with fld := { s1.fld with pushes := s1.fld.pushes ++ [p], tagGen := tabSet s1.fld.tagGen tag gen } }
        (.offer tag gen req)

/-- The push with this tag and generation. -/
def pushAt (s : State) (tag gen : Nat) : Option Push := s.fld.pushes.find? fun p => p.tag == tag && p.gen == gen

/-- An ACCEPT item: the words of the push leave the FIFO (R279). -/
def pushAccept (s : State) (tag gen : Nat) : State :=
  match pushAt s tag gen with
  | none => s
  | some p =>
    let s1 := { s with fld := { s.fld with
        pushes := mapIf (fun x => x.tag == tag && x.gen == gen) (fun x => { x with accepted := true, words := 0 }) s.fld.pushes } }
    if p.orphan || p.accepted then s1
    else
      let f := fifoOf s1 p.ep
      let s2 := setFifo s1 p.ep { f with rx := f.rx.drop p.words }
      let s3 := bump s2 (epPage p.ep) (epFld p.ep F.SER_PUSH_TXN F.BEN_PUSH_TXN)
      let s4 := if epOp s p.ep then
          setF s3 (epPage p.ep) (epFld p.ep F.SER_PUSH_STAT_POS F.BEN_PUSH_STAT_POS) (p.pos + p.req.len) else s3
      fcUpdate (sealedEnter s4 p.ep) p.ep

/-- A CPL item: the push ends, or was refused before acceptance (R279, R280). -/
def pushCpl (s : State) (tag gen status cause : Nat) : State :=
  match pushAt s tag gen with
  | none => s
  | some p =>
    let s1 := { s with fld := { s.fld with pushes := s.fld.pushes.filter fun x => !(x.tag == tag && x.gen == gen) } }
    let pg := epPage p.ep
    let fail (a : State) : State :=
      irqEvent (bump a pg (epFld p.ep F.SER_PUSH_FAILED F.BEN_PUSH_FAILED)) pg (irqPushFail p.ep)
    if p.orphan then s1
    else if p.accepted then
      (if status = St.ok ∨ status = St.okLateAbort then s1
       else
        let s2 := fail s1
        setFifo s2 p.ep { fifoOf s2 p.ep with pushGap := true })
    else
      let s2 := noteErr (setB (fail s1) pg (epFld p.ep F.SER_PUSH_CFG_EN F.BEN_PUSH_CFG_EN) false) pg status cause 0
      setFifo s2 p.ep { fifoOf s2 p.ep with posForm := getF s2 pg (epFld p.ep F.SER_PUSH_STAT_POS F.BEN_PUSH_STAT_POS) }

/-- HOLD has passed since the oldest word not yet taken closed (R278). -/
def pushHold (s : State) (ep : Nat) : State :=
  if !(freeWords s ep).isEmpty then pushForm (setFifo s ep { fifoOf s ep with holdOver := true }) ep else s

/-- What refuses a write that would leave PUSH_CFG with this value, EN going to 1 (R278). -/
def pushCfgBad (v : Word) (addr : Nat) : Bool :=
  let max := wordBits v 3 5
  (wordBits v 1 1 == 1 && decide (16 < max)) || wordBits v 8 4 == 0 || (wordBits v 2 1 == 1 && addr % 2 ^ (8 + wordBits v 24 4) != 0)

end Sys2Proof.Machine
end

