-- ==== Sys2Proof/Machine/Bench.lean ====
section
/-! DEFINITION. The benches (spec/11): the step, stalls, starts and stops, program writes, the table and page BTB. -/

namespace Sys2Proof.Machine

def benNew : BenSt := { heldEntry := 0#32, heldSin := false, divisor := 2, slots := 0, table := [], badParity := [], afterFifo := [] }
def benOf (s : State) (n : Nat) : BenSt := (tabGet s.fld.ben n).getD benNew
def setBen (s : State) (n : Nat) (b : BenSt) : State := { s with fld := { s.fld with ben := tabSet s.fld.ben n b } }

/-- BEN.STAT.RUN_STATE: 0 STOPPED, 1 RUNNING, 2 STALLED. -/
def benRun (s : State) (n : Nat) : Nat := getF s (Pg.ben n) F.BEN_STAT_RUN_STATE

/-- The level of a field pin as PIN.LEVEL shows it (R345). -/
def pinLevel (s : State) (p : Nat) : Bool := (getF s Pg.pin F.PIN_LEVEL_LEVEL (p / 32)).testBit (p % 32)

/-- Table entry `i` of bench `n`. -/
def benEntry (s : State) (n i : Nat) : Word := (tabGet (benOf s n).table i).getD 0#32

/-- The level that a selector code names (R287). -/
def benSelect (s : State) (n code : Nat) : Bool :=
  let f := fifoOf s (32 + n)
  let u := benUnit s n
  if code ≤ 0xBF then pinLevel s code
  else if code = 0xC0 then !f.tx.isEmpty
  else if code = 0xC1 then
    (match f.tx with | [] => false | w :: _ => w.last && decide (w.data.length ≤ f.txTaken + u))
  else if code = 0xC2 then rxRoom s (32 + n) u
  else if code = 0xC3 then getF s (Pg.ben n) F.BEN_COUNT_COUNT == getF s (Pg.ben n) F.BEN_SHIFT_CFG_WIDTH
  else if code = 0xC4 then f.fc
  else if 0xD0 ≤ code ∧ code ≤ 0xD7 then (match tabGet s.time.trig (code - 0xD0) with | some t => t.pulse | none => false)
  else code == 0xFF

/-- A bench stops, with its cause (R290, R291). -/
def benStop (s : State) (n why : Nat) : State :=
  let pg := Pg.ben n
  if benRun s n = 0 then s
  else irqEvent (setF (setF (setF s pg F.BEN_STAT_RUN_STATE 0) pg F.BEN_STAT_STALL_ON 0) pg F.BEN_STAT_STOP_WHY why) pg 3

/-- What a start with RESTART_CLEAR sets first (R292). -/
def benClear (s : State) (n : Nat) : State :=
  let pg := Pg.ben n
  let s1 := setF s pg F.BEN_STATE_STATE (getF s pg F.BEN_OUT_CFG_START_STATE)
  let s2 := setF (setF s1 pg F.BEN_SR_SR 0) pg F.BEN_COUNT_COUNT 0
  setBen s2 n { benOf s2 n with slots := getF s pg F.BEN_OUT_CFG_INIT, divisor := getF s pg F.BEN_DIV_A_DIV }

/-- A STOPPED bench starts (R290, R292). -/
def benStart (s : State) (n : Nat) : State :=
  if benRun s n ≠ 0 ∨ pairSilent s = true then s
  else setF (if getB s (Pg.ben n) F.BEN_CTL_RESTART_CLEAR then benClear s n else s) (Pg.ben n) F.BEN_STAT_RUN_STATE 1

/-- The slots as they drive: FC_SLOT follows the flow-control signal where FC_EN is 1 (R288). -/
def benSlots (s : State) (n : Nat) : Nat :=
  let pg := Pg.ben n
  let v := (benOf s n).slots
  if getB s pg F.BEN_OUT_CFG_FC_EN then
    let k := getF s pg F.BEN_OUT_CFG_FC_SLOT
    let level := (fifoOf s (32 + n)).fc == getB s pg F.BEN_OUT_CFG_FC_POL
    v % 2 ^ k + (if level then 2 ^ k else 0) + v / 2 ^ (k + 1) * 2 ^ (k + 1)
  else v

/-- The shift register after a shift by one bit (R285): `w` bits, `lsb` the order, `b` the bit that enters. -/
def benShift (sr w : Nat) (lsb b : Bool) : Nat :=
  if lsb then
    let x := sr / 2
    x / 2 ^ w * 2 ^ w + x % 2 ^ (w - 1) + (if b then 2 ^ (w - 1) else 0)
  else (2 * sr + (if b then 1 else 0)) % 2 ^ 32

/-- An entry's actions, once its FIFO action can complete (R285, R286, R297). -/
def benApply (s : State) (n : Nat) (e : Word) (sin : Bool) : State :=
  let pg := Pg.ben n
  let idx := getF s pg F.BEN_STAT_INDEX
  let w := getF s pg F.BEN_SHIFT_CFG_WIDTH
  let u := benUnit s n
  let lsb := getB s pg F.BEN_SHIFT_CFG_LSB_FIRST
  let shift := wordBits e 22 2
  let fifo := wordBits e 24 2
  let sr0 := getF s pg F.BEN_SR_SR
  let shiftOut := shift == 2 || shift == 3
  let sout := if lsb then sr0.testBit 0 else sr0.testBit (w - 1)
  let sr1 := if shift = 0 then sr0 else benShift sr0 w lsb (sin && shift != 2)
  let cnt1 := if shift = 0 then getF s pg F.BEN_COUNT_COUNT else min (getF s pg F.BEN_COUNT_COUNT + 1) w
  let s1 := if fifo = 1 ∨ fifo = 3 then rxUnit s (32 + n) (leBytes u (sr1 % 2 ^ w)) else s
  let pop := if fifo = 2 ∨ fifo = 3 then txTake s1 (32 + n) u else none
  let s2 := match pop with | some r => r.2.2 | none => s1
  let sr2 := match pop with | some r => leNat r.1 % 2 ^ w | none => sr1
  let cnt2 := if fifo = 0 then cnt1 else 0
  let s3 := if pop.isSome && (fifoOf s2 (32 + n)).tx.isEmpty then irqEvent s2 pg 7 else s2
  let s4 := if e.getLsbD 29 then rxFlush s3 (32 + n) else s3
  let v0 := (benOf s4 n).slots
  let we := wordBits e 8 8
  let v1 := ((List.range 8).map fun k => if (if we.testBit k then (wordBits e 0 8).testBit k else v0.testBit k) then 2 ^ k else 0).foldl (· + ·) 0
  let k := getF s pg F.BEN_SHIFT_CFG_SOUT_SLOT
  let v2 := if getB s pg F.BEN_SHIFT_CFG_SOUT_EN && shiftOut then v1 % 2 ^ k + (if sout then 2 ^ k else 0) + v1 / 2 ^ (k + 1) * 2 ^ (k + 1) else v1
  let dv := if wordBits e 26 2 = 1 then getF s pg F.BEN_DIV_A_DIV else if wordBits e 26 2 = 2 then getF s pg F.BEN_DIV_B_DIV
    else (benOf s4 n).divisor
  let s5 := setBen s4 n { benOf s4 n with
      slots := v2, divisor := dv
      afterFifo := if fifo = 0 then (benOf s4 n).afterFifo else [wordBits e 16 6, sr2, cnt2, v2, dv] }
  let s6 := setF (setF (setF s5 pg F.BEN_SR_SR sr2) pg F.BEN_COUNT_COUNT cnt2) pg F.BEN_STATE_STATE (wordBits e 16 6)
  let s7 := bump (setF (setF s6 pg F.BEN_STAT_RUN_STATE 1) pg F.BEN_STAT_STALL_ON 0) pg F.BEN_STEPS
  let s8 :=
    if e.getLsbD 28 then
      let a := setF (setF (setF s7 pg F.BEN_EVT_STAMP_STAMP (stamp32 (fieldNs s7))) pg F.BEN_EVT_INFO_STATE (idx / 16)) pg F.BEN_EVT_INFO_INDEX idx
      irqEvent (bump (setB a pg F.BEN_EVT_INFO_UNSYNC (!fieldSync a)) pg F.BEN_EVENTS) pg 2
    else s7
  if wordBits e 26 2 = 3 then benStop s8 n 2 else s8

/-- What an entry's FIFO action waits for: 0 nothing, 1 receive room, 2 a transmit unit (R289). -/
def benBlocked (s : State) (n : Nat) (e : Word) : Nat :=
  let fifo := wordBits e 24 2
  if (fifo == 1 || fifo == 3) && !getB s (Pg.ben n) F.BEN_CTL_FULL_ACT && !rxRoom s (32 + n) (benUnit s n) then 1
  else if (fifo == 2 || fifo == 3) && ((fifoOf s (32 + n)).tx.isEmpty || !txGate s (32 + n)) then 2
  else 0

/-- An entry is taken up: it applies, or the bench stalls at it (R285, R289). -/
def benTake (s : State) (n : Nat) (e : Word) (sin : Bool) : State :=
  let pg := Pg.ben n
  let b := benBlocked s n e
  if b = 0 then benApply s n e sin
  else if benRun s n = 2 then setF s pg F.BEN_STAT_STALL_ON b
  else
    let s1 := setBen s n { benOf s n with heldEntry := e, heldSin := sin }
    irqEvent (bump (setF (setF s1 pg F.BEN_STAT_RUN_STATE 2) pg F.BEN_STAT_STALL_ON b) pg F.BEN_STALLS) pg 4

/-- A tick of the bench's divider (R285, R294). `upset` is a table entry whose parity has gone bad since the last tick. -/
def benTick (s0 : State) (n : Nat) (upset : Option Nat) : State :=
  let s := match upset with
    | some i => setBen s0 n { benOf s0 n with badParity := i % 1024 :: (benOf s0 n).badParity }
    | none => s0
  let pg := Pg.ben n
  if benRun s n = 0 then s
  else if benRun s n = 2 then benTake s n (benOf s n).heldEntry (benOf s n).heldSin
  else
    let sel (f : FieldD) : Nat := if benSelect s n (getF s pg f) then 1 else 0
    let inp := sel F.BEN_IN_SEL_IN0 + 2 * sel F.BEN_IN_SEL_IN1 + 4 * sel F.BEN_IN_SEL_IN2 + 8 * sel F.BEN_IN_SEL_IN3
    let idx := getF s pg F.BEN_STATE_STATE * 16 + inp
    let s1 := setF s pg F.BEN_STAT_INDEX idx
    if (benOf s n).badParity.contains idx then
      faultLog (noteErr (benStop (setB s1 pg F.BEN_ERR_TABLE_PARITY true) n 4) pg 0 0x43 0) 7 n pg idx
    else benTake s1 n (benEntry s n idx) (benSelect s n (getF s pg F.BEN_SHIFT_CFG_SIN_SEL))

/-- A stall has lasted STALL.TO (R289, R291). Where the FIFO action has become possible it wins: the bench stops not, and its next tick applies
the entry (DEDUCED, log entry 164). -/
def benStallTimeout (s : State) (n : Nat) : State :=
  if benRun s n = 2 ∧ benBlocked s n (benOf s n).heldEntry ≠ 0 then noteErr (setB (benStop s n 3) (Pg.ben n) F.BEN_ERR_STALL_TIMEOUT true) (Pg.ben n) 0 0x42 0 else s

/-- A write of the program or of a working register while the bench is not STOPPED is refused and noted (R293). -/
def benRefused (s : State) (n wher : Nat) (inTable : Bool) : State :=
  let pg := Pg.ben n
  let s1 := setB (setF (setB s pg F.BEN_ERR_WRITE_WHILE_RUN true) pg F.BEN_ERR_WHERE wher) pg F.BEN_ERR_IN_TABLE inTable
  noteErr s1 pg St.targetErr 0x40 (if inTable then 0 else wher)

/-- The registers of R293: the program and the working registers. -/
def benProgReg (off : Nat) : Bool := (0x4C ≤ off && off ≤ 0x63) || off == 0x64 || off == 0x68

/-- Bytes written into the table from byte `o` on; a written entry has good parity, and a check of the table in hand is DIRTY
(R293, R294, R301). -/
def benTableWrite (s : State) (n o : Nat) (bs : List Byte) : State :=
  let b := benOf s n
  let first := o / 4
  let cnt := (o % 4 + bs.length + 3) / 4
  let step (t : Tab Word) (k : Nat) : Tab Word :=
    let i := first + k
    let lo := if k = 0 then o % 4 else 0
    let from_ := if k = 0 then 0 else 4 * k - o % 4
    let piece := (bs.drop from_).take (4 - lo)
    let v := mergeBytes ((tabGet t i).getD 0#32) lo piece
    if v = 0#32 then tabDel t i else tabSet t i v
  let s1 := setBen s n { b with
    table := (List.range cnt).foldl step b.table,
    badParity := b.badParity.filter fun i => !(decide (first ≤ i) && decide (i < first + cnt)) }
  if getB s1 Pg.btb F.BTB_CRC_STAT_BUSY && s1.fld.crcBench == n then setB s1 Pg.btb F.BTB_CRC_STAT_DIRTY true else s1

/-- A write into a bench's table window: refused whole while the bench is not STOPPED. -/
def benTableStore (s : State) (n o : Nat) (bs : List Byte) (meet : Bool) : (Nat × Nat) × State :=
  if benRun s n ≠ 0 ∨ meet = true then ((St.targetErr, 0x40), benRefused s n (o / 4) true)
  else ((St.ok, 0), benTableWrite s n o bs)

/-- Bytes of the table (R301). -/
def benTableBytes (s : State) (n : Nat) : List Byte := ((List.range 1024).map fun i => leBytes 4 (benEntry s n i).toNat).flatten

/-- A read of the table window; an entry with bad parity refuses it (R294). -/
def benTableLoad (s : State) (n o len : Nat) : (Nat × Nat) × List Byte × State :=
  let bad := (benOf s n).badParity.find? fun i => decide (o / 4 ≤ i) && decide (i ≤ (o + len - 1) / 4)
  match bad with
  | some _ => ((St.targetErr, 0x43), [], noteErr s (Pg.ben n) St.targetErr 0x43 0)
  | none =>
    let bytes := ((List.range ((o % 4 + len + 3) / 4)).map fun k => leBytes 4 (benEntry s n (o / 4 + k)).toNat).flatten
    ((St.ok, 0), (bytes.drop (o % 4)).take len, s)

/-- A write of BEN.TXD pushes one unit as a word of its own (R296). The cause is 0 where it does. -/
def benTxd (s : State) (n v : Nat) : Nat × State :=
  if (fifoOf s (32 + n)).tx.length < txDepth (32 + n) then (0, txPush s (32 + n) (leBytes (benUnit s n) v))
  else (0x44, noteErr s (Pg.ben n) St.targetErr 0x44 0x1F)

/-- BEN.CMD.TX_CLEAR (R295). -/
def benTxClear (s : State) (n : Nat) : State :=
  let had := !(fifoOf s (32 + n)).tx.isEmpty
  let s1 := txClear s (32 + n) true
  if had && (fifoOf s1 (32 + n)).tx.isEmpty then irqEvent s1 (Pg.ben n) 7 else s1

/-- A write of BEN.CMD (R290, R295). RUN has no effect on a bench that is not STOPPED when the write comes. -/
def benCmd (s : State) (n : Nat) (v : Word) : State :=
  let s1 := if v.getLsbD 1 then benStop s n 1 else s
  let s2 := if v.getLsbD 0 && benRun s n == 0 then benStart s1 n else s1
  let s3 := if v.getLsbD 2 then rxFlush s2 (32 + n) else s2
  let s4 := if v.getLsbD 3 then rxDiscard s3 (32 + n) true else s3
  if v.getLsbD 4 then benTxClear s4 n else s4

/-- A write of BTB.RUN_MASK or STOP_MASK (R300): a disabled bench does not start (R54, R290). -/
def benRunMask (s : State) (mask : Nat) : State :=
  (List.range 16).foldl (fun a n => if mask.testBit n && pageEnabled a (Pg.ben n) then benStart a n else a) s
def benStopMask (s : State) (mask : Nat) : State := (List.range 16).foldl (fun a n => if mask.testBit n then benStop a n 1 else a) s

/-- GO of BTB.CRC_CMD (R301). -/
def tableCrcGo (s : State) (n : Nat) : State :=
  if getB s Pg.btb F.BTB_CRC_STAT_BUSY then s
  else
    let s1 := setB (setB s Pg.btb F.BTB_CRC_STAT_BUSY true) Pg.btb F.BTB_CRC_STAT_DIRTY false
    { s1 with fld := { s1.fld with crcBench := n % 16 } }

/-- The CRC is ready; after a table write meanwhile its value is open (R301). -/
def tableCrcDone (s : State) : State :=
  if !getB s Pg.btb F.BTB_CRC_STAT_BUSY then s
  else
    let r : Nat × State :=
      if getB s Pg.btb F.BTB_CRC_STAT_DIRTY then freshVal s 32 else (crc32c (benTableBytes s s.fld.crcBench), s)
    irqEvent (setB (setF r.2 Pg.btb F.BTB_CRC_RESULT_CRC r.1) Pg.btb F.BTB_CRC_STAT_BUSY false) Pg.btb 2

/-- The bench across a block reset of its page or a warm reset (R298): set as by a clearing start, and started where AUTO_RUN
is 1 and `go` allows it. -/
def benReset (s : State) (n : Nat) (go : Bool) : State :=
  let pg := Pg.ben n
  let s1 := setF (benStop (fifoReset s (32 + n)) n 0) pg F.BEN_STAT_STOP_WHY 0
  let s2 := benClear s1 n
  if go && getB s2 pg F.BEN_CTL_AUTO_RUN then setF s2 pg F.BEN_STAT_RUN_STATE 1 else s2

end Sys2Proof.Machine
end

