-- ==== Sys2Proof/Machine/Serial.lean ====
section
/-! DEFINITION. The serial ports (spec/10): reception, line events, transmission with driver control, and what their registers do.
A character is one event on each side; the bits a sent one takes on the line go with it (R264). -/

namespace Sys2Proof.Machine

/-- Port `n` runs: it is enabled, and not held idle in a redundant pair (R373). -/
def serOn (s : State) (n : Nat) : Bool := pageEnabled s (Pg.ser n) && (!pairSilent s || pairRole s == 5)

def serMode (s : State) (n : Nat) : Nat := getF s (Pg.ser n) F.SER_CFG_MODE

/-- Bytes of a character (R266). -/
def serUnit (s : State) (n : Nat) : Nat := if getF s (Pg.ser n) F.SER_CFG_DATA_BITS = 2 then 2 else 1

/-- The frame length in bits: start, data, parity and stop bits (R265). -/
def serFrameBits (cfg : Word) : Nat :=
  1 + (7 + wordBits cfg 0 2) + (if wordBits cfg 2 2 = 0 then 0 else 1) + (if wordBits cfg 5 1 = 1 then 2 else 1)

/-- The FIFO bytes of a character's data bits (R266). -/
def charBytes (s : State) (n data : Nat) : List Byte :=
  let b := getF s (Pg.ser n) F.SER_CFG_DATA_BITS
  if b = 0 then [BitVec.ofNat 8 (data % 128)] else if b = 1 then [BitVec.ofNat 8 data]
  else [BitVec.ofNat 8 data, BitVec.ofNat 8 (data / 256 % 2)]

/-- The receiver takes what RX brings: the port is enabled, and a HALF port with ECHO_SUPPRESS does not drive (R268, R269). -/
def serDeaf (s : State) (n : Nat) : Bool :=
  serMode s n == 1 && getB s (Pg.ser n) F.SER_CFG_ECHO_SUPPRESS && (serOf s n).phase != .idle

/-- The bits of a character on the line, start bit first (R264, R266). -/
def charLine (cfg : Word) (data : Nat) : List Bool :=
  let bits := (List.range (7 + wordBits cfg 0 2)).map data.testBit
  let odd := bits.foldl (· != ·) false
  let parity := match wordBits cfg 2 2 with
    | 0 => []
    | 1 => [odd]
    | 2 => [!odd]
    | _ => [cfg.getLsbD 4]
  (false :: (if cfg.getLsbD 6 then bits.reverse else bits) ++ parity ++ (if cfg.getLsbD 5 then [true, true] else [true])).map (· != cfg.getLsbD 18)

/-- The mark before this start bit is as long as a port just enabled waits for (R268). -/
def markSeen (s : State) (n start : Nat) : Bool :=
  match (serOf s n).markFrom with
  | some t => decide (256 * t + 5 * getF s (Pg.ser n) F.SER_BAUD_DIV * serFrameBits (getW s (Pg.ser n) 0x40) ≤ 256 * start)
  | none => true

/-- The line has left mark while the receiver waits for it: the wait starts anew (R268). -/
def markBroken (s : State) (n : Nat) : State :=
  if (serOf s n).markFrom.isSome then setSer s n { serOf s n with markFrom := some (fieldNs s) } else s

/-- A character has been received (R266, R267, R269, R272, R277). `start` is the stamp of its start-bit edge. -/
def serCharRx (s : State) (n data : Nat) (parityErr framingErr : Bool) (start : Nat) (startUnsync : Bool) : State :=
  let pg := Pg.ser n
  if !serOn s n then s
  else if !markSeen s n start then markBroken s n
  else if serDeaf s n then bump s pg F.SER_ECHO_DROP
  else
    let p := serOf s n
    let s1 := setSer s n { p with markFrom := none, idleArmed := true, charEnd := (stamp32 (fieldNs s), !fieldSync s) }
    let s2 := if parityErr then bump s1 pg F.SER_PARITY_ERR else s1
    let s3 := if framingErr then bump s2 pg F.SER_FRAMING_ERR else s2
    let s4 := if parityErr || framingErr then irqEvent s3 pg 8 else s3
    let bs := charBytes s n data
    if (parityErr || framingErr) && getB s pg F.SER_CFG_ERR_ACT then fcUpdate (rxLoss s4 n bs.length) n
    else if rxRoom s4 n bs.length then
      let q := serOf s4 n
      let s5 := setSer s4 n { q with msgStart := some (q.msgStart.getD (stamp32 start, startUnsync)) }
      bump (bs.foldl (fun a b => rxUnit a n [b]) s5) pg F.SER_RX_CHARS
    else bs.foldl (fun a b => rxUnit a n [b]) s4

/-- RX has stayed at space for the frame length + 1 bit (R271). -/
def serBreak (s : State) (n : Nat) (inChar : Bool) : State :=
  let pg := Pg.ser n
  if !serOn s n || serDeaf s n then s
  else
    let s1 := if inChar then irqEvent (bump s pg F.SER_FRAMING_ERR) pg 8 else s
    rxFlush (irqEvent (bump (markBroken s1 n) pg F.SER_BREAKS) pg 5) n

/-- CHAR_TO has passed with bytes in the open word; a start bit that meets it wins (R271). -/
def serTimeout (s : State) (n : Nat) (startBit : Bool) : State := if serOn s n && !startBit then rxFlush s n else s

/-- IDLE has passed since the last stop bit; it fires once (R271). -/
def serIdle (s : State) (n : Nat) : State :=
  let p := serOf s n
  if serOn s n && p.idleArmed then irqEvent (setSer s n { p with idleArmed := false }) (Pg.ser n) 6 else s

/-! ## Transmission (R268 to R271, R275) -/

/-- TX_EMPTY is set when the transmit FIFO and the shifter have become empty (R275). -/
def serEmpty (s : State) (n : Nat) : State :=
  if (fifoOf s n).tx.isEmpty && (serOf s n).inChar.isNone then irqEvent s (Pg.ser n) 4 else s

/-- STAT.TX_BUSY and STAT.DE follow the transmitter. -/
def serStat (s : State) (n : Nat) : State :=
  let p := serOf s n
  setB (setB s (Pg.ser n) F.SER_STAT_TX_BUSY (p.inChar.isSome || p.breaking)) (Pg.ser n) F.SER_STAT_DE
    (serMode s n != 0 && p.phase != .idle)

/-- The transmitter may start a character: the port is enabled and CTS does not stop it (R268, R270). -/
def serMayStart (s : State) (n : Nat) : Bool :=
  serOn s n && !(getB s (Pg.ser n) F.SER_CFG_CTS_EN && getB s (Pg.ser n) F.SER_STAT_CTS)

/-- The next character starts. -/
def serStartChar (s : State) (n : Nat) : State :=
  match txTake s n (serUnit s n) with
  | none => s
  | some (bs, last, s1) =>
    let d := getF s (Pg.ser n) F.SER_CFG_DATA_BITS
    let r : Nat × State :=
      if d = 2 ∧ bs.length < 2 then (let f := freshVal s1 1; (leNat bs + 256 * f.1, f.2))
      else ((if d = 0 then leNat bs % 128 else leNat bs % 512), s1)
    emit (setSer r.2 n { serOf r.2 n with phase := .active, inChar := some last }) (.char n r.1 (charLine (getW s (Pg.ser n) 0x40) r.1))

/-- A transmission becomes ready and DE is asserted; once LEAD is over its first character starts. A PLAIN port starts at once
(R269). -/
def serTxStart (s : State) (n : Nat) (leadOver : Bool) : State :=
  let p := serOf s n
  let ready := !(fifoOf s n).tx.isEmpty && txGate s n && p.inChar.isNone && !p.breaking && !p.breakReq
  if !(ready && serMayStart s n) then s
  else if p.phase = .active ∨ (serMode s n = 0 ∧ p.phase = .idle) then serStat (serStartChar s n) n
  else if p.phase = .idle then serStat (setSer s n { p with phase := .lead }) n
  else if p.phase = .lead ∧ leadOver = true then serStat (serStartChar s n) n
  else s

/-- A transmission has ended: LAG starts, or a PLAIN port is idle (R269). -/
def serTxEnd (s : State) (n : Nat) : State :=
  setSer s n { serOf s n with phase := if serMode s n = 0 then .idle else .lag }

/-- The last stop bit of a character, or a break and its bit of mark, has ended (R268, R269, R271, R275). -/
def serCharTxEnd (s : State) (n : Nat) : State :=
  let p := serOf s n
  match p.inChar, p.breaking with
  | none, false => s
  | none, true =>
    let s1 := setSer s n { p with breaking := false, breakLast := false }
    serStat (if p.phase = .active ∧ (p.breakLast = true ∨ (fifoOf s n).tx = [] ∨ serOn s n = false) then serTxEnd s1 n else s1) n
  | some last, _ =>
    let s1 := bump (setSer s n { p with inChar := none }) (Pg.ser n) F.SER_TX_CHARS
    let s2 := serEmpty s1 n
    let ends := last && getB s2 (Pg.ser n) F.SER_CFG_DE_ON_LAST && serMode s2 n != 0
    let s3 :=
      if p.breakReq && serOn s2 n then setSer s2 n { serOf s2 n with breakReq := false, breaking := true, breakLast := ends }
      else if !serOn s2 n || (fifoOf s2 n).tx.isEmpty || ends then serTxEnd s2 n
      else if serMayStart s2 n && txGate s2 n then serStartChar s2 n
      else s2
    serStat s3 n

/-- LAG has passed: DE is released (R269). -/
def serDeRelease (s : State) (n : Nat) : State :=
  let p := serOf s n
  if p.phase = .lag then serStat (setSer s n { p with phase := .idle }) n else s

/-- The CTS pin takes a level (R270). -/
def serCts (s : State) (n : Nat) (level : Bool) : State :=
  let stop := level == getB s (Pg.ser n) F.SER_CFG_CTS_POL
  let s1 := setB s (Pg.ser n) F.SER_STAT_CTS stop
  let p := serOf s1 n
  if !stop && p.phase == .active && p.inChar.isNone && !p.breaking && serMayStart s1 n && txGate s1 n then serStat (serStartChar s1 n) n else s1

/-- CMD.TX_BREAK: a break follows the character in progress, or starts at once (R271); a disabled port holds TX at mark (R268). A break drives
no DE of its own (DESIGN CHOICE, log entry 163). -/
def serTxBreak (s : State) (n : Nat) : State :=
  let p := serOf s n
  if p.breaking || !serOn s n then s
  else if p.inChar.isSome then setSer s n { p with breakReq := true }
  else serStat (setSer s n { p with breaking := true }) n

/-- CMD.RX_CLEAR: every receive word is discarded, and the next one opened carries GAP (R273). -/
def serRxClear (s : State) (n : Nat) : State :=
  let s1 := rxDiscard s n true
  setSer s1 n { serOf s1 n with msgStart := none }

/-- CMD.TX_CLEAR: every word not yet begun is discarded (R275). -/
def serTxClear (s : State) (n : Nat) : State :=
  let had := !(fifoOf s n).tx.isEmpty
  let s1 := txClear s n true
  if had then serEmpty s1 n else s1

/-- A write of SER.CMD. -/
def serCmd (s : State) (n : Nat) (v : Word) : State :=
  let s1 := if v.getLsbD 0 then rxFlush s n else s
  let s2 := if v.getLsbD 1 then serTxBreak s1 n else s1
  let s3 := if v.getLsbD 2 then serRxClear s2 n else s2
  if v.getLsbD 3 then serTxClear s3 n else s3

/-- PAGE_CTL.ENABLE has changed (R268): a port going off holds TX at mark and releases DE after LAG, one going on waits for mark. -/
def serEnableNote (s : State) (n : Nat) (on : Bool) : State :=
  let p := serOf s n
  if on then setSer s n { p with markFrom := some (fieldNs s) }
  else
    let s1 := setSer s n { p with breakReq := false }
    if p.inChar.isNone && !p.breaking && (p.phase == .lead || p.phase == .active) then serStat (serTxEnd s1 n) n else s1

/-- The port's state across a block reset of its page or a warm reset (R282): settings and a character on the line stay. -/
def serReset (s : State) (n : Nat) : State :=
  let p := serOf s n
  serStat (fifoReset (setSer s n { p with breakReq := false, msgStart := none, idleArmed := false }) n) n

end Sys2Proof.Machine
end

