-- ==== Sys2Proof/Machine/Pins.lean ====
section
/-! DEFINITION. Field pins, discrete inputs and outputs, and the sequence-of-events records of the field die (spec/14). -/

namespace Sys2Proof.Machine

/-! ## Assignments (R343, R344) -/

def pinFunc (s : State) (p : Nat) : Nat := getF s Pg.pin F.PIN_CFG_FUNC p
def pinInst (s : State) (p : Nat) : Nat := getF s Pg.pin F.PIN_CFG_INST p
def pinSig (s : State) (p : Nat) : Nat := getF s Pg.pin F.PIN_CFG_SIG p
def pinInv (s : State) (p : Nat) : Bool := getB s Pg.pin F.PIN_CFG_INV p

/-- A combination in the table of R343. -/
def pinAssignOk (func inst sig : Nat) : Bool :=
  if func ≤ 2 then inst == 0 && sig == 0
  else if func = 3 then decide (inst ≤ 31) && decide (sig ≤ 4)
  else if func = 4 then decide (inst ≤ 15) && decide (sig ≤ 7)
  else if func = 5 then decide (inst ≤ 7) && decide (sig ≤ 1)
  else if func = 6 ∨ func = 7 then decide (inst ≤ 7) && sig == 0
  else false

/-- The assignment makes the pin an output. -/
def pinIsOut (func sig : Nat) : Bool :=
  func == 2 || (func == 3 && 1 ≤ sig && sig ≤ 3) || func == 4 || (func == 5 && sig == 1) || func == 6

/-- The pins that PIN.CFG assigns: those whose register is listed with a FUNC other than 0. -/
def assignedPins (s : State) : List Nat :=
  s.regs.filterMap fun e =>
    if 1024 * Pg.pin + 64 ≤ e.1 ∧ e.1 < 1024 * Pg.pin + 256 ∧ wordBits e.2 0 4 ≠ 0 then some (e.1 - (1024 * Pg.pin + 64)) else none

/-- The pin that carries a signal. -/
def pinOf (s : State) (func inst sig : Nat) : Option Nat :=
  (assignedPins s).find? fun p => pinFunc s p == func && pinInst s p == inst && pinSig s p == sig

/-- The block an assignment names is in use (R344). -/
def blockInUse (s : State) (func inst : Nat) : Bool :=
  if func = 3 then pageEnabled s (Pg.ser inst)
  else if func = 5 then pageEnabled s (Pg.can inst)
  else if func = 4 then benRun s inst != 0
  else if func = 6 then (match tabGet s.time.trig inst with | some t => t.armed | none => false)
  else if func = 7 then getF s Pg.trg F.TRG_CAP_CTL_EDGE inst != 0
  else false

/-- What refuses a write that gives PIN.CFG[n] this value, as a cause (R35, R344). -/
def pinCfgRefusal (s : State) (p : Nat) (v : Word) : Option Nat :=
  let func := wordBits v 0 4
  let inst := wordBits v 4 5
  let sig := wordBits v 9 3
  let old := getW s Pg.pin (0x100 + 4 * p)
  if !pinAssignOk func inst sig then some Cause.range
  else if wordBits v 0 12 ≠ wordBits old 0 12 then
    (if 3 ≤ func ∧ (match pinOf s func inst sig with | some q => q != p | none => false) = true then some 0x40
     else if blockInUse s func inst || blockInUse s (wordBits old 0 4) (wordBits old 4 5) then some 0x41
     else none)
  else none

/-! ## Sequence-of-events records (R352 to R354) -/

/-- SOE record kinds. -/
def kChange : Nat := 0
def kChatterOn : Nat := 1
def kChatterOff : Nat := 2
def kOutCmd : Nat := 3
def kRbMismatch : Nat := 4
def kMark : Nat := 5
def kInitial : Nat := 6

/-- Bytes 0 to 27 of an SOE record (R352). -/
def soeBytes (stamp seq pin kind : Nat) (level unsync loss : Bool) (bounces delay lost : Nat) : List Byte :=
  leBytes 8 stamp ++ leBytes 4 seq ++ [BitVec.ofNat 8 pin] ++
  [BitVec.ofNat 8 (kind + (if level then 16 else 0) + (if unsync then 32 else 0) + (if loss then 64 else 0))] ++
  leBytes 2 (min bounces 65535) ++ leBytes 4 delay ++ leBytes 4 lost ++ leBytes 4 0

/-- SOE records that wait on the field die for the EVT channel. -/
def soeWaiting (s : State) : Nat :=
  (s.cul.fieldW.filter fun i => match i with | .record _ (.soe _) => true | _ => false).length

/-- A record of the field die takes the next SEQ and waits for the culvert; with 256 waiting it is lost and counted (R353). -/
def soeRecord (s : State) (stamp pin kind : Nat) (level unsync : Bool) (bounces delay : Nat) : State :=
  let q := getF s Pg.soe F.SOE_SEQ_SEQ
  let s1 := bump s Pg.soe F.SOE_SEQ_SEQ
  if 256 ≤ soeWaiting s then
    irqEvent (bump { s1 with fld := { s1.fld with soeLost := s1.fld.soeLost + 1 } } Pg.soe F.SOE_LOST) Pg.soe 4
  else
    let lost := s1.fld.soeLost
    fieldRecord { s1 with fld := { s1.fld with soeLost := 0 } }
      (.soe (soeBytes stamp q pin kind level unsync (lost != 0) bounces delay lost))

/-- A DIS record: none while DIS is disabled (R354). -/
def disRecord (s : State) (stamp pin kind : Nat) (level unsync : Bool) (bounces delay : Nat) : State :=
  if pageEnabled s Pg.dis then soeRecord s stamp pin kind level unsync bounces delay else s

/-- A DIS record of this instant. -/
def disNow (s : State) (pin kind : Nat) (level : Bool) : State := disRecord s (fieldLong s) pin kind level (!fieldSync s) 0 0

/-- EDGES covers a change to this level: 1 rising, 2 falling, 3 both (R346, R350). -/
def edgeCovers (s : State) (p : Nat) (level : Bool) : Bool :=
  (getF s Pg.dis F.DIS_CFG_EDGES p).testBit (if level then 0 else 1)

/-! ## Discrete inputs (R346 to R349) -/

def diNew : DiSt := { filt := false, deb := false, stamp := none, bounces := 0, inWindow := 0, started := false, initial := false }
def diOf (s : State) (p : Nat) : DiSt := (tabGet s.fld.di p).getD diNew
def setDi (s : State) (p : Nat) (d : DiSt) : State := { s with fld := { s.fld with di := tabSet s.fld.di p d } }

/-- Bit `p` of a bank of 32-bit words. -/
def bankBit (s : State) (pg : Nat) (f : FieldD) (p : Nat) : Bool := (getF s pg f (p / 32)).testBit (p % 32)
def setBank (s : State) (pg : Nat) (f : FieldD) (p : Nat) (v : Bool) : State :=
  let w := getF s pg f (p / 32)
  setF s pg f (if w.testBit (p % 32) = v then w else if v then w + 2 ^ (p % 32) else w - 2 ^ (p % 32)) (p / 32)

/-- The level of a pin changes at the ball; `raw` is the ball level. A discrete input holds the stamp of the first edge that left
the accepted level and counts the ones after it (R345 to R347). -/
def ballLevel (s : State) (p : Nat) (raw : Bool) : State :=
  let level := raw != pinInv s p
  if pinLevel s p = level then s
  else
    let s1 := setBank s Pg.pin F.PIN_LEVEL_LEVEL p level
    if pinFunc s1 p = 1 then
      let d := diOf s1 p
      if d.stamp.isSome then setDi s1 p { d with bounces := min (d.bounces + 1) 65535 }
      else if level ≠ d.deb then setDi s1 p { d with stamp := some (fieldLong s1, fieldNs s1, !fieldSync s1), bounces := 0 }
      else s1
    else s1

/-- The raw level has held for GLITCH (R346). -/
def diGlitch (s : State) (p : Nat) : State :=
  if pinFunc s p = 1 then setDi s p { diOf s p with filt := pinLevel s p } else s

/-- The INITIAL record of a pin, once a permit has come and its first debounce has ended (R354). -/
def diInitial (s : State) (p : Nat) : State :=
  let d := diOf s p
  if s.fld.permitSeen && d.started && !d.initial then
    let s1 := setDi s p { d with initial := true }
    if getF s1 Pg.dis F.DIS_CFG_EDGES p ≠ 0 then disNow s1 p kInitial (bankBit s1 Pg.dis F.DIS_LEVEL_LEVEL p) else s1
  else s

/-- A chatter profile is selected for the pin (R349). -/
def diChat (s : State) (p : Nat) : Bool := let c := getF s Pg.dis F.DIS_CFG_CHAT p; decide (1 ≤ c ∧ c ≤ 4)

/-- The pin locks when its Nth change falls within the window (R349). -/
def diLockCheck (s : State) (p : Nat) (level : Bool) : State :=
  let c := getF s Pg.dis F.DIS_CFG_CHAT p
  if diChat s p = true ∧ getF s Pg.dis F.DIS_CHAT_N (c - 1) ≤ (diOf s p).inWindow then
    irqEvent (disNow (setBank s Pg.dis F.DIS_LOCKED_LOCKED p true) p kChatterOn level) Pg.dis 2
  else s

/-- The filtered level has held for DEBOUNCE (R346, R347, R349). -/
def diDebounce (s : State) (p : Nat) : State :=
  let d := diOf s p
  if pinFunc s p ≠ 1 then s
  else if !d.started then
    diInitial (setDi (setBank s Pg.dis F.DIS_LEVEL_LEVEL p d.filt) p { d with deb := d.filt, started := true, stamp := none, bounces := 0 }) p
  else if d.filt = d.deb then s
  else if bankBit s Pg.dis F.DIS_LOCKED_LOCKED p then
    bump (setDi s p { d with deb := d.filt, stamp := none, bounces := 0 }) Pg.dis F.DIS_SUPPRESSED
  else
    let st := d.stamp.getD (fieldLong s, fieldNs s, !fieldSync s)
    let s1 := bump (setBank s Pg.dis F.DIS_LEVEL_LEVEL p d.filt) Pg.dis F.DIS_CHANGES
    let s2 := setDi s1 p { d with deb := d.filt, stamp := none, bounces := 0, inWindow := if diChat s p then d.inWindow + 1 else 0 }
    let s3 := if edgeCovers s2 p d.filt then
        disRecord s2 st.1 p kChange d.filt st.2.2 d.bounces ((fieldNs s2 - st.2.1) % 2 ^ 32) else s2
    diLockCheck s3 p d.filt

/-- The raw level has returned to the accepted level for GLITCH + DEBOUNCE: the held stamp is discarded (R347). -/
def diDiscard (s : State) (p : Nat) : State :=
  let d := diOf s p
  if pinFunc s p = 1 ∧ pinLevel s p = d.deb then setDi s p { d with stamp := none, bounces := 0 } else s

/-- No transition of the raw level for REL: the lock ends (R349). -/
def diRelease (s : State) (p : Nat) : State :=
  if bankBit s Pg.dis F.DIS_LOCKED_LOCKED p then
    let d := diOf s p
    let changed := bankBit s Pg.dis F.DIS_LEVEL_LEVEL p != d.filt
    let s1 := setBank (setBank s Pg.dis F.DIS_LOCKED_LOCKED p false) Pg.dis F.DIS_LEVEL_LEVEL p d.filt
    let s2 := if changed then bump s1 Pg.dis F.DIS_CHANGES else s1
    disNow (setDi s2 p { d with deb := d.filt, stamp := none, bounces := 0, inWindow := 0 }) p kChatterOff d.filt
  else s

/-- The oldest counted change leaves the chatter window (R349). -/
def diWindowLeave (s : State) (p : Nat) : State :=
  let d := diOf s p
  if bankBit s Pg.dis F.DIS_LOCKED_LOCKED p then s else setDi s p { d with inWindow := d.inWindow - 1 }

/-! ## Outputs (R350, R351) -/

/-- The level of the signal that an output pin carries, before INV. A character, a CAN frame's bits and a serial waveform are one
level: mark and recessive. `none`: the block does not drive it. -/
def sigLevel (s : State) (p : Nat) : Option Bool :=
  let i := pinInst s p
  let g := pinSig s p
  match pinFunc s p with
  | 2 => some (bankBit s Pg.dis F.DIS_OUT_OUT p)
  | 3 =>
    if g = 1 then some ((!(serOf s i).breaking) != getB s (Pg.ser i) F.SER_CFG_INV_TX)
    else if g = 2 then some (getB s (Pg.ser i) F.SER_STAT_DE == getB s (Pg.ser i) F.SER_CFG_DE_POL)
    else if g = 3 then
      (if getB s (Pg.ser i) F.SER_CFG_FC_EN then some ((fifoOf s i).fc == getB s (Pg.ser i) F.SER_CFG_FC_POL) else none)
    else none
  | 4 => some ((benSlots s i).testBit g)
  | 5 => if g = 1 then some true else none
  | 6 => (match tabGet s.time.trig i with | some t => some (t.pulse != t.prog.pol) | none => some false)
  | _ => none

/-- What the hub drives an output ball with (R350, R351, R354). -/
def pinDrive (s : State) (p : Nat) : Option Bool :=
  let od := getB s Pg.pin F.PIN_CFG_OD p
  if !pinIsOut (pinFunc s p) (pinSig s p) then none
  else if (pairSilent s && pairRole s != 5) || !s.fld.permitSeen then none
  else if !s.cul.permitLive then
    match getF s Pg.pin F.PIN_CFG_LOST p with
    | 1 => some false
    | 2 => if od then none else some true
    | 3 => (tabGet s.fld.drive p).getD none
    | _ => none
  else
    match sigLevel s p with
    | some l => let b := l != pinInv s p; if od && b then none else some b
    | none => none

/-- The pull at a ball: none while it is driven (R345). -/
def pinPull (s : State) (p : Nat) (d : Option Bool) : Nat := if d.isSome then 0 else getF s Pg.pin F.PIN_CFG_PULL p

/-- PIN.CFG[p] has taken a value (R345, R346): INV acts on the level as it stands, and a new PULL on an undriven ball. -/
def pinCfgNote (s : State) (p : Nat) (old new : Word) : State :=
  let inv := F.PIN_CFG_INV.lo
  let s1 := if old.getLsbD inv == new.getLsbD inv then s else ballLevel s p (pinLevel s p != old.getLsbD inv)
  let d := (tabGet s1.fld.drive p).getD none
  if wordBits old F.PIN_CFG_PULL.lo F.PIN_CFG_PULL.w = wordBits new F.PIN_CFG_PULL.lo F.PIN_CFG_PULL.w ∨ d.isSome = true then s1
  else emit s1 (.pin p none (pinPull s1 p none))

/-- Every output ball takes the level it is driven with now; a changed drive is an output of the command. -/
def pinRefresh (s : State) (p : Nat) : State :=
  let d := pinDrive s p
  if (tabGet s.fld.drive p).getD none = d then s
  else
    let s1 := { s with fld := { s.fld with drive := match d with | some _ => tabSet s.fld.drive p d | none => tabDel s.fld.drive p } }
    let s2 := emit s1 (.pin p d (pinPull s p d))
    match d with | some l => ballLevel s2 p l | none => s2

/-- The refresh of every ball that is assigned or driven. -/
def pinsRefresh (s : State) : State :=
  ((assignedPins s ++ (s.fld.drive.map (·.1)).filter fun p => pinFunc s p == 0)).foldl pinRefresh s

/-- A write of DIS.OUT word `k` (R350): each changed DO pin that EDGES covers gives an OUT_CMD record. -/
def doWriteOut (s : State) (k : Nat) (v : Word) : State :=
  let old := getW s Pg.dis (0xA0 + 4 * k)
  let s1 := setW s Pg.dis (0xA0 + 4 * k) v
  ((List.range 32).filter fun b => old.getLsbD b != v.getLsbD b && pinFunc s (32 * k + b) == 2 &&
      edgeCovers s (32 * k + b) (v.getLsbD b)).foldl (fun a b => disNow a (32 * k + b) kOutCmd (v.getLsbD b)) s1

/-- An output's read-back has differed from its drive for 10 µs (R350): the record is stamped at the start of the mismatch. -/
def rbMismatchEvent (s : State) (p : Nat) : State :=
  match (tabGet s.fld.drive p).getD none with
  | some l =>
    if getB s Pg.dis F.DIS_CFG_RB_EN p && (pinLevel s p != pinInv s p) != l then
      let s1 := irqEvent (bump (setBank s Pg.dis F.DIS_RB_ERR_ERR p true) Pg.dis F.DIS_RB_MISMATCH) Pg.dis 3
      let ns := fieldNs s1 - 10000
      let st := (ns / 1000000000 % 2 ^ 32) * 2 ^ 32 + ns % 1000000000
      disRecord s1 st p kRbMismatch l (!syncBefore s1 10000) 0 0
    else s
  | none => s

/-! ## The journal of records on the ring die (R353) -/

/-- The ring of records holds this many. -/
def soeSlots : Nat := 2097152

/-- A record that has reached the ring die is written to its slot with its CRC, and only then WR advances (R309, R353). -/
def soeStore (s : State) (rec_ : List Byte) : State :=
  let wr := getF s Pg.soe F.SOE_WR_WR
  let unread := (wr + soeSlots - getF s Pg.soe F.SOE_RD_RD) % soeSlots
  if unread = soeSlots - 1 then
    irqEvent (bump { s with fld := { s.fld with soeRingLost := s.fld.soeRingLost + 1 } } Pg.soe F.SOE_LOST) Pg.soe 4
  else
    let n := s.fld.soeRingLost
    let lost := leAt rec_ 20 4
    let rec1 := if n = 0 then rec_ else
      putBytes (putBytes rec_ 13 [BitVec.ofNat 8 (beAt rec_ 13 1) ||| 0x40#8]) 20
        (leBytes 4 (if lost = 0xFFFFFFFF then lost else min (lost + n) 0xFFFFFFFF))
    let s1 := jWrite { s with fld := { s.fld with soeRingLost := 0 } } (0x27000000 + 32 * wr) (rec1 ++ leBytes 4 (crc32c rec1))
    let s2 := irqEvent (bump (setF s1 Pg.soe F.SOE_WR_WR (wr + 1)) Pg.soe F.SOE_RECORDS) Pg.soe 2
    if unread + 1 = getF s2 Pg.soe F.SOE_WMARK_HIGH then irqEvent s2 Pg.soe 3 else s2

/-- What refuses a write of SOE.RD: moving it past WR (R309, R353). -/
def soeRdBad (s : State) (rd : Nat) : Bool :=
  let old := getF s Pg.soe F.SOE_RD_RD
  decide ((getF s Pg.soe F.SOE_WR_WR + soeSlots - old) % soeSlots < (rd + soeSlots - old) % soeSlots)

/-- The MARK record of losses under culvert version 1 (R310, R353). -/
def soeMark (s : State) (first : Nat) : State :=
  fieldRecord s (.soe (soeBytes (fieldLong s) first 0xFF kMark false (!fieldSync s) true 0 0 0xFFFFFFFF))

/-- Records still on the field die at a block reset of PIN, DIS or SOE, or at a warm reset, are lost and marked (R353, R354). -/
def soeReset (s : State) : State :=
  let gone := s.cul.fieldW.filterMap fun i => match i with | .record _ (.soe r) => some r | _ => none
  match gone with
  | [] => s
  | r :: _ =>
    let s1 := { s with cul := { s.cul with fieldW := s.cul.fieldW.filter fun i => match i with | .record _ (.soe _) => false | _ => true } }
    soeMark (bump { s1 with fld := { s1.fld with soeLost := 0 } } Pg.soe F.SOE_LOST gone.length) (leAt r 8 4)

/-- Discrete state across a pin or cold reset: filters restart (R354). -/
def diRestart (s : State) : State := { s with fld := { s.fld with di := [], drive := [], permitSeen := false } }

end Sys2Proof.Machine
end

