-- ==== Sys2Proof/Machine/Can.lean ====
section
/-! DEFINITION. The CAN FD ports (spec/12): transmit buffers, arbitration as events on the bus, errors and bus-off, reception and
the ring of entries, and the time master. What bits appear on the bus is the environment's; a frame is one event. -/

namespace Sys2Proof.Machine

def canNew : CanSt :=
  { sof := (0, false), cur := none, refCycle := 0, ending := false, entered := false, refStarted := false, sched := [], windows := [], lost := 0, ringLost := 0 }
def canOf (s : State) (n : Nat) : CanSt := (tabGet s.fld.can n).getD canNew
def setCan (s : State) (n : Nat) (c : CanSt) : State := { s with fld := { s.fld with can := tabSet s.fld.can n c } }

/-- CAN.STAT.STATE: 0 ACTIVE, 1 PASSIVE, 2 BUS_OFF, 3 RECOVERING. -/
def canState (s : State) (n : Nat) : Nat := getF s (Pg.can n) F.CAN_STAT_STATE

/-- CFG.MODE as it acts: a standby runs in MONITOR (R324). -/
def canMode (s : State) (n : Nat) : Nat := if pairSilent s then 1 else getF s (Pg.can n) F.CAN_CFG_MODE

/-- The controller takes part in bus traffic: it is integrated and not bus-off (R303, R318). A frame in progress ends after ENABLE falls. -/
def canLive (s : State) (n : Nat) : Bool :=
  getB s (Pg.can n) F.CAN_STAT_SYNC && decide (canState s n ≤ 1)

/-! ## Bit timing (R304) -/

/-- The values of NBT and DBT break a rule of R304 over several fields. -/
def canTimingBad (nbt dbt : Word) : Bool :=
  let nb := wordBits nbt 0 6
  let ns1 := wordBits nbt 6 9
  let ns2 := wordBits nbt 15 7 + 1
  let nsj := wordBits nbt 22 7 + 1
  let db := wordBits dbt 0 6
  let ds1 := wordBits dbt 6 6
  let ds2 := wordBits dbt 12 5
  let dsj := wordBits dbt 17 5
  let nq := nb * (1 + ns1 + ns2)
  let dq := db * (1 + ds1 + ds2)
  decide (ns2 < nsj) || decide (ds2 < dsj) || decide (nq < 80) || decide (8000 < nq) || decide (dq < 10) || decide (nq < dq)

/-- Data bytes of a frame (R302). -/
def canLen (fdf : Bool) (dlc : Nat) : Nat :=
  if dlc ≤ 8 then dlc else if !fdf then 8
  else if dlc = 9 then 12 else if dlc = 10 then 16 else if dlc = 11 then 20 else if dlc = 12 then 24
  else if dlc = 13 then 32 else if dlc = 14 then 48 else 64

/-! ## Transmit buffers (R312 to R316) -/

def canReq (s : State) (n b : Nat) : Bool := (getF s (Pg.can n) F.CAN_TX_REQ_REQ).testBit b
def canCancel (s : State) (n b : Nat) : Bool := (getF s (Pg.can n) F.CAN_TX_CANCEL_CANCEL).testBit b

/-- Bit `b` of a mask field set or cleared. -/
def setMask (s : State) (pg : Nat) (f : FieldD) (b : Nat) (v : Bool) : State :=
  let w := getF s pg f
  setF s pg f (if w.testBit b = v then w else if v then w + 2 ^ b else w - 2 ^ b)

/-- The outcome of a buffer's request (R314). `keep`: TX_REQ stays 1. -/
def canOutcome (s : State) (n b outcome : Nat) (keep : Bool) : State :=
  let pg := Pg.can n
  let s1 := setF s pg F.CAN_BUF_STAT_OUTCOME outcome b
  let s2 := if outcome = 6 then s1 else irqEvent (setMask s1 pg F.CAN_TX_DONE_DONE b true) pg 5
  let s3 := if 3 ≤ outcome then irqEvent s2 pg 6 else s2
  if outcome = 6 ∨ keep = true then s3
  else setMask (setMask s3 pg F.CAN_TX_REQ_REQ b false) pg F.CAN_TX_CANCEL_CANCEL b false

/-- What a buffer may not be requested with (R312). -/
def canFormatBad (s : State) (n b : Nat) : Bool :=
  let pg := Pg.can n
  let fdf := getB s pg F.CAN_BUF_FMT_FDF b
  (fdf && !getB s pg F.CAN_CFG_FD_EN) || (fdf && getB s pg F.CAN_BUF_ID_RTR b) || (getB s pg F.CAN_BUF_FMT_BRS b && !fdf) ||
  (!getB s pg F.CAN_BUF_ID_XTD b && getF s pg F.CAN_BUF_ID_ID b % 2 ^ 18 != 0)

/-- The request of one buffer (R312, R314, R318, R324). -/
def canReqOne (s : State) (n b : Nat) : State :=
  let pg := Pg.can n
  if canReq s n b then s
  else if canFormatBad s n b then noteErr s pg St.targetErr 0x43 0x16
  else if pairSilent s then canOutcome s n b 9 false
  else
    let s1 := setMask s pg F.CAN_TX_REQ_REQ b true
    if 2 ≤ canState s n then canOutcome s1 n b 6 true else s1

/-- A write to TX_REQ: whether a request was refused, and the state. -/
def canTxReq (s : State) (n mask : Nat) : Bool × State :=
  let bs := (List.range 32).filter fun b => mask.testBit b
  (bs.any (fun b => !canReq s n b && canFormatBad s n b), bs.foldl (fun a b => canReqOne a n b) s)

/-- The cancel of one buffer (R315): at once unless its frame is on the bus. -/
def canCancelOne (s : State) (n b : Nat) : State :=
  if !canReq s n b then s
  else if (canOf s n).cur = some (.buffer b) then setMask s (Pg.can n) F.CAN_TX_CANCEL_CANCEL b true
  else canOutcome s n b 3 false

def canTxCancel (s : State) (n mask : Nat) : State :=
  ((List.range 32).filter fun b => mask.testBit b).foldl (fun a b => canCancelOne a n b) s

/-- Bus order: a smaller key wins arbitration (R313). -/
def canKey (s : State) (n b : Nat) : Nat :=
  let pg := Pg.can n
  let id := getF s pg F.CAN_BUF_ID_ID b
  let x := if getB s pg F.CAN_BUF_ID_XTD b then 1 else 0
  let r := if getB s pg F.CAN_BUF_ID_RTR b then 1 else 0
  if x = 0 then id / 2 ^ 18 * 2 ^ 21 + r * 2 ^ 20 else id / 2 ^ 18 * 2 ^ 21 + 2 ^ 20 + 2 ^ 19 + id % 2 ^ 18 * 2 + r

/-- The pending buffer that would win arbitration; ties go to the lower number (R313). -/
def canBest (s : State) (n : Nat) : Option Nat :=
  ((List.range 32).filter fun b => canReq s n b && !getB s (Pg.can n) F.CAN_BUF_FMT_TT b).foldl
    (fun best b => match best with
      | none => some b
      | some a => if canKey s n b < canKey s n a then some b else some a) none

/-- The buffer of schedule entry `j` as taken at the cycle start. -/
def canSchedBuf (s : State) (n j : Nat) : Nat := wordBits ((canOf s n).sched.getD j 0#32) 9 5

/-- A buffer waits for its windows (R321). -/
def canTimed (s : State) (n b : Nat) : Bool := canReq s n b && getB s (Pg.can n) F.CAN_BUF_FMT_TT b

/-- The lowest open window whose buffer waits (R321, R322). -/
def canWindow (s : State) (n : Nat) : Option Nat :=
  (List.range 32).find? fun j => (canOf s n).windows.contains j && canTimed s n (canSchedBuf s n j)

/-- IN_HAND follows the frame of the port on the bus. -/
def canHand (s : State) (n : Nat) : State :=
  let pg := Pg.can n
  match (canOf s n).cur with
  | some (.buffer b) => setB (setF (setB s pg F.CAN_STAT_IDLE false) pg F.CAN_STAT_IN_HAND b) pg F.CAN_STAT_IN_HAND_VALID true
  | some .ref => setB (setB s pg F.CAN_STAT_IDLE false) pg F.CAN_STAT_IN_HAND_VALID false
  | none => setB s pg F.CAN_STAT_IN_HAND_VALID false

/-- The data bytes that buffer `b` sends (R302, R312). -/
def canBufData (s : State) (n b : Nat) : List Byte :=
  let pg := Pg.can n
  let bytes := ((List.range 16).map fun k => leBytes 4 (getW s pg (0x208 + 0x60 * b + 4 * k)).toNat).flatten
  bytes.take (if getB s pg F.CAN_BUF_ID_RTR b then 0 else canLen (getB s pg F.CAN_BUF_FMT_FDF b) (getF s pg F.CAN_BUF_FMT_DLC b))

/-- The identifier word of reference messages. -/
def canRefWord (s : State) (n : Nat) : Nat := (getW s (Pg.can n) 0x74).toNat % 2 ^ 30

/-- The port starts the frame of buffer `b` (R312). -/
def canSendBuf (s : State) (n b : Nat) : State :=
  let pg := Pg.can n
  canHand (emit (setCan s n { canOf s n with cur := some (.buffer b) })
    (.can n ((getW s pg (0x200 + 0x60 * b)).toNat % 2 ^ 31) (getF s pg F.CAN_BUF_FMT_DLC b) (getB s pg F.CAN_BUF_FMT_FDF b) (getB s pg F.CAN_BUF_FMT_BRS b)
      (canBufData s n b))) n

/-- The port starts its reference message: a classical data frame of one byte, the cycle count (R320). -/
def canSendRef (s : State) (n : Nat) : State :=
  let pg := Pg.can n
  let cyc := getF s pg F.CAN_TT_STAT_CYCLE
  let s1 := setCan s n { canOf s n with
    cur := some .ref, refCycle := cyc, refStarted := true, sched := (List.range 32).map fun j => getW s pg (0x100 + 4 * j) }
  canHand (emit (setB s1 pg F.CAN_TT_STAT_REF_PENDING false) (.can n (canRefWord s n) 1 false false [BitVec.ofNat 8 cyc])) n

/-- A start of frame on the bus is stamped; the port offers the reference message, a time-triggered buffer or the buffer that would
win arbitration (R306, R313, R320 to R322). -/
def canSof (s : State) (n : Nat) : State :=
  let pg := Pg.can n
  if !canLive s n then s
  else
    let c := { canOf s n with sof := (fieldLong s, !fieldSync s) }
    let s1 := setB (setCan s n c) pg F.CAN_STAT_IDLE false
    if canMode s n = 1 ∨ pageEnabled s pg = false then s1
    else if getB s pg F.CAN_TT_STAT_REF_PENDING then canSendRef s1 n
    else
      match canWindow s1 n with
      | some j => canSendBuf (setCan s1 n { c with windows := c.windows.filter (· != j) }) n (canSchedBuf s n j)
      | none =>
        match canBest s1 n with
        | some b => canSendBuf s1 n b
        | none => s1

/-! ## Entries (R306, R307, R309, R310) -/

/-- Bytes 0 to 87 of a receive entry. `flags` is bits 15 to 4 of word 12 without LOSS. -/
def canEntry (stamp idWord dlc flags buffer seq lost : Nat) (data : List Byte) : List Byte :=
  let loss := if lost = 0 then 0 else 0x200
  leBytes 8 stamp ++ leBytes 4 idWord ++ leBytes 4 (dlc + flags + loss + 65536 * data.length + 2 ^ 24 * buffer) ++ leBytes 4 seq ++
  leBytes 4 lost ++ data ++ List.replicate (64 - data.length) 0#8

/-- Entries of a port that wait on the field die for the EVT channel. -/
def canWaiting (s : State) (n : Nat) : Nat :=
  (s.cul.fieldW.filter fun i => match i with | .record _ (.can p _) => p == n | _ => false).length

/-- A frame taken by the controller takes the next ENTRY_SEQ, and its entry waits for the culvert or is lost (R306, R310). -/
def canStage (s : State) (n : Nat) (idWord dlc flags buffer : Nat) (data : List Byte) : State :=
  let pg := Pg.can n
  let c := canOf s n
  let q := getF s pg F.CAN_RX_SEQ_SEQ
  let s1 := bump s pg F.CAN_RX_SEQ_SEQ
  if 64 ≤ canWaiting s n then irqEvent (bump (setCan s1 n { c with lost := c.lost + 1 }) pg F.CAN_RX_LOST) pg 4
  else
    fieldRecord (setCan s1 n { c with lost := 0 })
      (.can n (canEntry c.sof.1 idWord dlc (flags + (if c.sof.2 then 0x100 else 0)) buffer q c.lost data))

/-- The entry of a frame that this port has sent: buffer `b`. `esi`: it was sent error passive. -/
def canBufEntry (s : State) (n b : Nat) (esi echo : Bool) : State :=
  let pg := Pg.can n
  let fdf := getB s pg F.CAN_BUF_FMT_FDF b
  canStage s n ((getW s pg (0x200 + 0x60 * b)).toNat % 2 ^ 31) (getF s pg F.CAN_BUF_FMT_DLC b)
    ((if fdf then 0x10 else 0) + (if getB s pg F.CAN_BUF_FMT_BRS b then 0x20 else 0) + (if fdf && esi then 0x40 else 0) + (if echo then 0x80 else 0))
    (if echo then b else 0) (canBufData s n b)

/-- The entry of a reference message that this port has sent. -/
def canRefEntry (s : State) (n : Nat) (echo : Bool) : State :=
  canStage s n (canRefWord s n) 1 (if echo then 0x880 else 0x800) 0 [BitVec.ofNat 8 (canOf s n).refCycle]

/-- An entry that has reached the ring die is written whole, with its CRC, and only then RX_WR advances (R308, R309). -/
def canStore (s : State) (n : Nat) (entry : List Byte) : State :=
  let pg := Pg.can n
  let wr := getF s pg F.CAN_RX_WR_WR
  let unread := (wr + 65536 - getF s pg F.CAN_RX_RD_RD) % 65536
  let c := canOf s n
  if unread = 65535 then irqEvent (bump (setCan s n { c with ringLost := c.ringLost + 1 }) pg F.CAN_RX_LOST) pg 4
  else
    let lost := leAt entry 20 4
    let e1 := if c.ringLost = 0 then entry else
      putBytes (putBytes entry 13 [BitVec.ofNat 8 (beAt entry 13 1) ||| 0x02#8]) 20
        (leBytes 4 (if lost = 0xFFFFFFFF then lost else min (lost + c.ringLost) 0xFFFFFFFF))
    let s1 := jWrite (setCan s n { c with ringLost := 0 }) (0x23000000 + 0x800000 * n + 96 * wr) (e1 ++ leBytes 4 (crc32c e1) ++ leBytes 4 0)
    let s2 := irqEvent (bump (setF s1 pg F.CAN_RX_WR_WR (wr + 1)) pg F.CAN_RX_FRAMES) pg 2
    if unread + 1 = getF s2 pg F.CAN_RX_WMARK_HIGH then irqEvent s2 pg 3 else s2

/-- What refuses a write of RX_RD: moving it past RX_WR (R309). -/
def canRdBad (s : State) (n rd : Nat) : Bool :=
  let old := getF s (Pg.can n) F.CAN_RX_RD_RD
  decide ((getF s (Pg.can n) F.CAN_RX_WR_WR + 65536 - old) % 65536 < (rd + 65536 - old) % 65536)

/-- The MARK entry of losses under culvert version 1 (R310). -/
def canMark (s : State) (n first : Nat) : State :=
  fieldRecord s (.can n (canEntry (fieldLong s) 0 0 (0x600 + (if fieldSync s then 0 else 0x100)) 0 first 0xFFFFFFFF []))

/-! ## How a frame of this port ends (R313 to R322) -/

/-- The frame of the port leaves the bus. -/
def canFree (s : State) (n : Nat) : State :=
  canHand (setB (setCan s n { canOf s n with cur := none }) (Pg.can n) F.CAN_STAT_IDLE true) n

/-- What a reset left of the port's frame is over. -/
def canEnded (s : State) (n : Nat) : State := setCan s n { canOf s n with ending := false }

/-- A reference message is abandoned (R320). `again`: another waits in its place. -/
def canRefMiss (s : State) (n : Nat) (again : Bool) : State :=
  irqEvent (bump (setB s (Pg.can n) F.CAN_TT_STAT_REF_PENDING again) (Pg.can n) F.CAN_REF_MISSED) (Pg.can n) 10

/-- A frame of this port was not sent: lost arbitration (outcome 4) or an error (outcome 5). A reference message waits again, unless the edge
after it has come (R320); a buffer of a port reset meanwhile is withdrawn (R323). -/
def canNotSent (s : State) (n : Nat) (t : CanTx) (why : Nat) : State :=
  let pg := Pg.can n
  match t with
  | .ref => if (canOf s n).ending then s else if getB s pg F.CAN_TT_STAT_REF_PENDING then canRefMiss s n true else setB s pg F.CAN_TT_STAT_REF_PENDING true
  | .buffer b =>
    if (canOf s n).ending then canOutcome s n b 7 false
    else if canCancel s n b then canOutcome s n b 3 false
    else if getB s (Pg.can n) F.CAN_BUF_FMT_TT b then canOutcome s n b 8 true
    else if getB s (Pg.can n) F.CAN_BUF_FMT_ONE_SHOT b then canOutcome s n b why false
    else s

/-- The frame in hand loses arbitration (R313 to R316). -/
def canArbLost (s : State) (n : Nat) : State :=
  match (canOf s n).cur with
  | none => s
  | some t => canEnded (canHand (canNotSent (bump (setCan s n { canOf s n with cur := none }) (Pg.can n) F.CAN_ARB_LOST) n t 4) n) n

/-- The state follows the error counters (R317). -/
def canStateUpd (s : State) (n : Nat) : State :=
  let pg := Pg.can n
  let passive := 128 ≤ getF s pg F.CAN_ERRCNT_TEC ∨ 128 ≤ getF s pg F.CAN_ERRCNT_REC
  if 2 ≤ canState s n then s
  else if passive then (if canState s n = 1 then s else irqEvent (setF s pg F.CAN_STAT_STATE 1) pg 7)
  else setF s pg F.CAN_STAT_STATE 0

/-- The port enters BUS_OFF (R318, R319). `t` is the frame that caused it. -/
def canBusOff (s : State) (n : Nat) : State :=
  let pg := Pg.can n
  let s1 := irqEvent (bump (setF s pg F.CAN_STAT_STATE 2) pg F.CAN_BUS_OFFS) pg 8
  let s2 := ((List.range 32).filter (canReq s1 n)).foldl (fun a b => canOutcome a n b 6 true) s1
  if getB s2 pg F.CAN_CFG_AUTO_RECOVER then setF s2 pg F.CAN_STAT_STATE 3 else s2

/-- An error is detected (R313, R316 to R318). The counters grow by what ISO 11898-1 gives the error: `tx` names the transmitter's. -/
def canBusError (s : State) (n lec weight : Nat) (tx : Bool) : State :=
  let pg := Pg.can n
  if !canLive s n && (canOf s n).cur.isNone then s
  else if (canOf s n).ending then
    match (canOf s n).cur with
    | some t => canEnded (canNotSent (canFree s n) n t 5) n
    | none => canEnded s n
  else
    let s1 := bump (setF s pg F.CAN_STAT_LEC (lec % 7)) pg F.CAN_BUS_ERRORS
    let s2 := if tx then setF s1 pg F.CAN_ERRCNT_TEC (min (getF s1 pg F.CAN_ERRCNT_TEC + weight) 511)
      else setF s1 pg F.CAN_ERRCNT_REC (min (getF s1 pg F.CAN_ERRCNT_REC + weight) 511)
    let s3 := match (canOf s2 n).cur with
      | some t => canNotSent (canFree s2 n) n t 5
      | none => setB s2 pg F.CAN_STAT_IDLE true
    if 255 < getF s3 pg F.CAN_ERRCNT_TEC then canBusOff s3 n else canStateUpd s3 n

/-- A frame completes on the bus without error, sent by another node (R302, R303, R306, R317, R320). `idWord` is ID, XTD and RTR
as in bytes 8 to 11 of an entry. An FD frame while FD_EN is 0 is a form error at its res bit. -/
def canFrameRx (s : State) (n idWord dlc : Nat) (fdf brs esi : Bool) (data : List Byte) : State :=
  let pg := Pg.can n
  if !(canLive s n && pageEnabled s pg) || canMode s n == 2 then s
  else if fdf && !getB s pg F.CAN_CFG_FD_EN then canBusError s n 2 1 false
  else
    let s1 := setB s pg F.CAN_STAT_IDLE true
    let rec_ := getF s pg F.CAN_ERRCNT_REC
    let r : Nat × State :=
      if rec_ = 0 then (0, s1) else if rec_ ≤ 127 then (rec_ - 1, s1)
      else let f := freshVal s1 4; (119 + f.1 % 9, f.2)
    let s2 := setF r.2 pg F.CAN_ERRCNT_REC r.1
    let s3 := if canState s2 n = 1 ∧ getF s2 pg F.CAN_ERRCNT_TEC < 128 ∧ r.1 < 128 then setF s2 pg F.CAN_STAT_STATE 0 else s2
    let isRef := getB s pg F.CAN_CFG_TT_MASTER && idWord == canRefWord s n
    let len := min data.length (if idWord.testBit 30 then 0 else canLen fdf dlc)
    canStage s3 n (idWord % 2 ^ 31) (dlc % 16)
      ((if fdf then 0x10 else 0) + (if brs then 0x20 else 0) + (if esi then 0x40 else 0) + (if isRef then 0x800 else 0)) 0 (data.take len)

/-- A frame of this port has been acknowledged (R303, R305, R306, R313 to R315, R320). `tdcv` is the loop delay measured on it; one beyond 127 is
a bit error. -/
def canTxEnd (s : State) (n : Nat) (tdcv : Nat) : State :=
  let pg := Pg.can n
  let echo := getB s pg F.CAN_CFG_ECHO_EN
  let loop := canMode s n == 2
  let esi := canState s n == 1
  match (canOf s n).cur with
  | none => s
  | some t =>
    let measured := match t with | .buffer b => getB s pg F.CAN_CFG_TDC_EN && getB s pg F.CAN_BUF_FMT_BRS b | .ref => false
    if measured && decide (127 < tdcv) then
      let f := freshVal s 1
      canBusError f.2 n (4 + f.1) 8 true
    else
      let s1 := bump (setF s pg F.CAN_ERRCNT_TEC (getF s pg F.CAN_ERRCNT_TEC - 1)) pg F.CAN_TX_FRAMES
      let s2 := canStateUpd (canFree s1 n) n
      let sent := match t with
        | .ref =>
          let s3 := bump s2 pg F.CAN_REF_SENT
          let s4 := if loop then canRefEntry s3 n false else s3
          if echo then canRefEntry s4 n true else s4
        | .buffer b =>
          let s3 := if measured then setF s2 pg F.CAN_STAT_TDCV tdcv else s2
          let sof := (canOf s n).sof.1
          let s4 := setF (setF s3 pg F.CAN_BUF_SENT_NS_NS (sof % 2 ^ 32) b) pg F.CAN_BUF_SENT_SEC_SEC_LO (sof / 2 ^ 32) b
          let s5 := if canCancel s4 n b then canOutcome s4 n b 2 false else canOutcome s4 n b 1 (getB s pg F.CAN_BUF_FMT_TT b && !(canOf s n).ending)
          let s6 := if loop then canBufEntry s5 n b esi false else s5
          if echo then canBufEntry s6 n b esi true else s6
      canEnded sent n

/-- CMD.RECOVER (R319). -/
def canRecover (s : State) (n : Nat) : State := if canState s n = 2 then setF s (Pg.can n) F.CAN_STAT_STATE 3 else s

/-- 128 sequences of 11 recessive bits have been counted (R319). -/
def canRecovered (s : State) (n : Nat) : State :=
  let pg := Pg.can n
  if canState s n = 3 then
    irqEvent (setF (setF (setF s pg F.CAN_ERRCNT_TEC 0) pg F.CAN_ERRCNT_REC 0) pg F.CAN_STAT_STATE 0) pg 9
  else s

/-- 11 recessive bits have been seen after ENABLE rose (R303). -/
def canIntegrated (s : State) (n : Nat) : State :=
  let pg := Pg.can n
  if pageEnabled s pg ∧ getB s pg F.CAN_STAT_SYNC = false then setB (setB s pg F.CAN_STAT_SYNC true) pg F.CAN_STAT_IDLE true else s

/-! ## Time master (R320 to R322) -/

/-- A window ends with its buffer not started (R321, R322). -/
def canWindowEnd (s : State) (n j : Nat) : State :=
  let c := canOf s n
  if c.windows.contains j then
    let s1 := setCan s n { c with windows := c.windows.filter (· != j) }
    if canTimed s n (canSchedBuf s n j) then canOutcome s1 n (canSchedBuf s n j) 8 true else s1
  else s

/-- An edge of the trigger that paces this port (R240, R320, R322). -/
def canRefEdge (s : State) (n : Nat) : State :=
  let pg := Pg.can n
  if !(getB s pg F.CAN_CFG_TT_MASTER && pageEnabled s pg) then s
  else
    let s1 := (canOf s n).windows.foldl (fun a j => canWindowEnd a n j) s
    let s2 := if getB s1 pg F.CAN_TT_STAT_REF_PENDING then canRefMiss s1 n false else s1
    let c := canOf s2 n
    let old := getF s2 pg F.CAN_TT_STAT_CYCLE
    let cyc := if !c.entered then old else if old = getF s2 pg F.CAN_TT_CTL_CYCLE_MAX then 0 else old + 1
    setB (setF (setCan s2 n { c with entered := true, refStarted := false }) pg F.CAN_TT_STAT_CYCLE cyc)
      pg F.CAN_TT_STAT_REF_PENDING true

/-- REF_LATE has passed since the edge and the message has not started (R320). -/
def canRefLate (s : State) (n : Nat) : State :=
  if getB s (Pg.can n) F.CAN_TT_STAT_REF_PENDING ∧ (canOf s n).refStarted = false then canRefMiss s n false else s

/-- A window of entry `j` opens (R321); its buffer is sent in it if it is pending then. -/
def canWindowOpen (s : State) (n j : Nat) : State :=
  let pg := Pg.can n
  let c := canOf s n
  let e := c.sched.getD j 0#32
  if getB s pg F.CAN_CFG_TT_MASTER ∧ c.refStarted = true ∧ e.getLsbD 14 = true ∧ c.windows.contains j = false ∧
     getF s pg F.CAN_TT_STAT_CYCLE % 2 ^ wordBits e 6 3 = wordBits e 0 6
  then setCan s n { c with windows := c.windows ++ [j] } else s

/-- A block reset of the port's page or a warm reset begins (R323): every pending buffer is withdrawn, but for one whose frame is on the bus. -/
def canAbort (s : State) (n : Nat) : State :=
  ((List.range 32).filter fun b => canReq s n b && (canOf s n).cur != some (.buffer b)).foldl (fun a b => canOutcome a n b 7 false) s

/-- The number of the entry in a record. -/
def canEntrySeq (i : Item) : Nat := match i with | .record _ (.can _ e) => leAt e 16 4 | _ => 0

/-- The controller across such a reset (R310, R323): entries still on the field die are lost and marked, and a frame on the bus ends as it
ends. -/
def canReset (s : State) (n : Nat) : State :=
  let pg := Pg.can n
  let c := canOf s n
  let mine : Item → Bool := fun i => match i with | .record _ (.can p _) => p == n | _ => false
  let gone := s.cul.fieldW.filter mine
  let s1 := { s with cul := { s.cul with fieldW := s.cul.fieldW.filter fun i => !mine i } }
  let s2 := match gone with
    | [] => s1
    | i :: _ => canMark (bump s1 pg F.CAN_RX_LOST gone.length) n (canEntrySeq i)
  let s3 := setCan s2 n { canNew with
    ringLost := c.ringLost, lost := if gone.isEmpty then c.lost else 0, sof := c.sof, cur := c.cur, refCycle := c.refCycle, ending := c.cur.isSome }
  setB (canHand s3 n) pg F.CAN_STAT_SYNC false

end Sys2Proof.Machine
end

