-- ==== Sys2Proof/Machine/TimeOps.lean ====
section
/-! DEFINITION. Latches, commands, the servo's inputs, PPS, peer delay, triggers and captures as operations (spec/08). -/

namespace Sys2Proof.Machine

/-! ## Reading and setting the time (R218, R230, R231, R234) -/

/-- A read of NOW_NS latches the other words of the same instant (R218). -/
def nowLatchRegs (s : State) : State :=
  let s1 := setF (setF s Pg.tmk F.TMK_NOW_NS_NS (nowNs s)) Pg.tmk F.TMK_NOW_SEC_LO_SEC_LO (nowSec s % 2 ^ 32)
  setF (setF s1 Pg.tmk F.TMK_NOW_SEC_HI_SEC_HI (nowSec s / 2 ^ 32)) Pg.tmk F.TMK_NOW_STAMP_STAMP (stamp32 (totalNs s))

/-- TIME_CMD.SET: local time becomes the staged time (R230). -/
def timeSetNow (s : State) : State :=
  let sec := getF s Pg.tmk F.TMK_SET_SEC_LO_SEC_LO + 2 ^ 32 * getF s Pg.tmk F.TMK_SET_SEC_HI_SEC_HI
  let target := (sec * 1000000000 + getF s Pg.tmk F.TMK_SET_NS_NS) * unitNs
  timeStep s ((target : Int) - s.time.acc)

/-- A write of ADJUST (R230). -/
def timeAdjustNow (s : State) (v : Word) : State := timeStep s (v.toInt * unitNs)

/-- A write of SERVO_IN; while PPS_FEED is 1, or when it meets a step, the sample is discarded (R231, R234). -/
def servoIn (s : State) (v : Word) (meet : Bool) : State :=
  if getB s Pg.tmk F.TMK_SERVO_CTL_PPS_FEED || meet then bump s Pg.tmk F.TMK_SERVO_DISCARD else servoSample s v.toInt

/-- SERVO_CTL has been written: SERVO_STATE reads FREE while EN is 0 (R233). -/
def servoCtlNote (s : State) : State :=
  if getB s Pg.tmk F.TMK_SERVO_CTL_EN then
    (if getF s Pg.tmk F.TMK_STAT_SERVO_STATE = 0 then servoState s 1 else s)
  else servoState { s with time := { s.time with good := 0 } } 0

/-! ## PPS (R231, R235) -/

/-- An edge of PPS_IN. A sample that it feeds and that meets a SET or ADJUST is discarded (R234). -/
def ppsEdge (s : State) (falling meet : Bool) : State :=
  if !(getB s Pg.tmk F.TMK_PPS_IN_EN && getB s Pg.tmk F.TMK_PPS_IN_EDGE == falling) then s
  else
    let early := match s.time.ppsLast with
      | some t => decide (s.time.mono < t + 100000000 * unitNs)
      | none => false
    if early then bump s Pg.tmk F.TMK_PPS_IN_REJECT
    else
      let s1 := { s with time := { s.time with ppsLast := some s.time.mono } }
      let q := now16 s % 16
      let s2 := setF (setF (setF s1 Pg.tmk F.TMK_PPS_IN_NS_NS (nowNs s)) Pg.tmk F.TMK_PPS_IN_SEC_LO_SEC_LO (nowSec s))
        Pg.tmk F.TMK_PPS_IN_FRAC_FRAC q
      let s3 := irqEvent s2 Pg.tmk 6
      if getB s Pg.tmk F.TMK_SERVO_CTL_PPS_FEED && meet then bump s3 Pg.tmk F.TMK_SERVO_DISCARD
      else if getB s Pg.tmk F.TMK_SERVO_CTL_PPS_FEED then
        let e : Int := 16 * nowNs s + q
        servoSample s3 (if nowNs s < 500000000 then e else e - 16000000000)
      else s3

/-- Local time has reached a whole second with the last tick. -/
def secondReached (s : State) : Bool := totalNs s / 1000000000 != (s.time.acc - (unitNs + tmkFreq s).toNat) / unitNs / 1000000000 || nowNs s == 0

/-- PPS_OUT goes high at a whole second, and falls when WIDTH has passed, whatever steps come between (R235). -/
def ppsPulse (s : State) : State :=
  match s.time.ppsEnd with
  | some e => if e ≤ s.time.mono then emit { s with time := { s.time with ppsEnd := none } } (.ball "PPS_OUT" false) else s
  | none =>
    if getB s Pg.tmk F.TMK_PPS_OUT_EN && secondReached s then
      emit { s with time := { s.time with ppsEnd := some (s.time.mono + getF s Pg.tmk F.TMK_PPS_WIDTH * 1000 * unitNs) } } (.ball "PPS_OUT" true)
    else s

/-! ## TX stamp queues (R229) -/

/-- A pop of a TX stamp queue: POP_ID as read, and the state with POP_NS latched; 0 of an empty queue (log entry 159). -/
def tsqPopNow (s : State) (p : Nat) : Word × State :=
  match tsqOf s p with
  | [] => (0#32, setF s Pg.tsq F.TSQ_POP_NS_STAMP 0 p)
  | e :: q =>
    (BitVec.ofNat 32 (e.id % 65536 + (if e.notSent then 65536 else 0) + 2 ^ 31),
     setF (setTsq s p q) Pg.tsq F.TSQ_POP_NS_STAMP e.stamp p)

/-! ## The residence table (R225) -/

/-- The oldest residence entry has lived for 1 s. -/
def residExpire (s : State) : State := { s with time := { s.time with resid := s.time.resid.drop 1 } }

/-! ## Triggers (R237 to R241) -/

/-- The time of edge `k` of a program, in nanoseconds of local time (R237). -/
def edgeTime (g : TrigProg) (k : Nat) : Nat :=
  if g.mode = 2 then g.t0 + (2 * k * (g.period * 2 ^ 32 + g.frac) + 2 ^ 32) / 2 ^ 33
  else if g.mode = 3 then
    let n := max g.period 1
    g.t0 / 1000000000 * 1000000000 + k / n * 1000000000 + g.phase + (2 * (k % n) * 1000000000 + n) / (2 * n)
  else g.t0

/-- The number of edges whose time lies before `x`. -/
def edgesBefore (g : TrigProg) (x : Nat) : Nat :=
  let guess :=
    if g.mode = 2 then (x - g.t0) * 2 ^ 32 / max (g.period * 2 ^ 32 + g.frac) 1
    else if g.mode = 3 then
      let base := g.t0 / 1000000000 * 1000000000 + g.phase
      (x - base) / 1000000000 * max g.period 1 + (x - base) % 1000000000 * max g.period 1 / 1000000000
    else 0
  ((List.range 5).map fun i => guess - 2 + i).find? (fun k => decide (x ≤ edgeTime g k)) |>.getD (guess + 3)

/-- The number of edges a program has; none if it has no limit. -/
def edgeLimit (g : TrigProg) : Option Nat :=
  if g.mode = 1 then some 1 else if g.count = 0 then none else some g.count

/-- The shortest distance of two edges in nanoseconds. -/
def trigPeriod (g : TrigProg) : Nat := if g.mode = 3 then 1000000000 / max g.period 1 else g.period

/-- What refuses a commit (R237). `ns` is START_NS as staged. -/
def trigBad (mode ns period width : Nat) : Bool :=
  decide (1000000000 ≤ ns) ||
  (mode == 3 && (decide (period < 1) || decide (1000000 < period) || decide (1000000000 ≤ ns * period))) ||
  (mode == 2 && (decide (period < 10 * width + 20) || decide (period < 100))) ||
  (mode == 3 && (decide (1000000000 < (10 * width + 20) * period) || decide (1000000000 < 100 * period)))

def trigOf (s : State) (t : Nat) : Option Trig := tabGet s.time.trig t
def setTrig (s : State) (t : Nat) (g : Trig) : State :=
  setB { s with time := { s.time with trig := tabSet s.time.trig t g } } Pg.trg F.TRG_STAT_ARMED g.armed t

/-- The program that a write of CTL commits (R237). -/
def trigStaged (s : State) (t : Nat) (v : Word) : TrigProg :=
  let sec := nowSec s / 2 ^ 32 * 2 ^ 32 + getF s Pg.trg F.TRG_START_SEC_LO_SEC_LO t
  let ns := getF s Pg.trg F.TRG_START_NS_NS t
  { mode := wordBits v 0 2, t0 := sec * 1000000000 + ns, phase := ns, period := getF s Pg.trg F.TRG_PERIOD_NS_PERIOD t,
    frac := getF s Pg.trg F.TRG_PERIOD_FRAC_FRAC t, count := getF s Pg.trg F.TRG_COUNT_COUNT t, pol := v.getLsbD 2,
    lateSkip := v.getLsbD 3, canEn := v.getLsbD 4, canPort := wordBits v 5 3, width := wordBits v 8 16 }

/-- The commit leaves for the field die (R238, R249). -/
def trigCommit (s : State) (t : Nat) (v : Word) : State :=
  let g := trigStaged s t v
  let s1 := setF (setB (setB s Pg.trg F.TRG_STAT_DONE false t) Pg.trg F.TRG_STAT_ARMED (g.mode != 0) t) Pg.trg F.TRG_STAT_MISSED 0 t
  ringCfg s1 (.trig t g)

/-- Edges have been fired or missed: the train ends when COUNT of them have (R238). -/
def trigCount (s : State) (t : Nat) (g : Trig) (n missed : Nat) : State :=
  let used := g.used + n
  let g1 := { g with k := g.k + n, used := used }
  let fin := match edgeLimit g.prog with | some l => decide (l ≤ used) | none => false
  let m := min (getF s Pg.trg F.TRG_STAT_MISSED t + missed) 65535
  let s1 := setF (setTrig s t { g1 with armed := g1.armed && !fin }) Pg.trg F.TRG_STAT_MISSED m t
  if fin then irqEvent (setB s1 Pg.trg F.TRG_STAT_DONE true t) Pg.trg 3 else s1

/-- An edge fires: the pulse begins, and the reference message of a CAN port is due (R238, R240). -/
def trigFire (s : State) (t : Nat) (g : Trig) (n missed : Nat) : State :=
  let s1 := bump (trigCount s t { g with pulse := true } n missed) Pg.trg F.TRG_FIRED_COUNT 1 t
  if g.prog.canEn then canRefEdge s1 g.prog.canPort else s1

/-- Late edges are judged (R238): those whose time lies less than 10 µs ahead. -/
def trigLate (s : State) (t : Nat) : State :=
  match trigOf s t with
  | none => s
  | some g =>
    let all := edgesBefore g.prog (fieldNs s + 10000)
    let lim := match edgeLimit g.prog with | some l => g.k + (l - g.used) | none => all
    let m := min all lim - g.k
    if !g.armed || m == 0 then s
    else
      let s1 := irqEvent s Pg.trg 2
      if g.prog.lateSkip then trigCount s1 t g m m else trigFire s1 t g m (m - 1)

/-- The time of the next edge of a trigger has come (R237, R238). -/
def trigEdge (s : State) (t : Nat) : State :=
  match trigOf s t with
  | none => s
  | some g => if g.armed && decide (edgeTime g.prog g.k ≤ fieldNs s) then trigFire s t g 1 0 else s

/-- A commit reaches the field die (R237 to R239): an edge that meets it fires under the old program. -/
def trigArrive (s0 : State) (t : Nat) (p : TrigProg) : State :=
  let s := trigEdge s0 t
  let pulse := match trigOf s t with | some g => g.pulse | none => false
  trigLate (setTrig (setB s Pg.trg F.TRG_STAT_DONE false t) t { prog := p, k := 0, used := 0, armed := p.mode != 0, pulse := pulse }) t

/-- WIDTH has passed: the pulse ends (R237). -/
def trigPulseEnd (s : State) (t : Nat) : State :=
  match trigOf s t with
  | none => s
  | some g => { s with time := { s.time with trig := tabSet s.time.trig t { g with pulse := false } } }

/-- A step reaches the field die's copy (R238, R260): a forward step judges late edges. -/
def fieldStep (s : State) (d : Int) : State :=
  let s1 := { s with time := { s.time with facc := timeMove s.time.facc d }, cul := { s.cul with stepWait := s.cul.stepWait - 1 } }
  if 0 < d then (s1.time.trig.map (·.1)).foldl trigLate s1 else s1

/-! ## Captures (R242) -/

def capOf (s : State) (c : Nat) : List CapEnt := (tabGet s.time.cap c).getD []

/-- Entries of a capture on their way to the ring die. -/
def capWaiting (s : State) (c : Nat) : Nat :=
  ((s.cul.fieldW ++ s.cul.fieldS).filter fun i => match i with | .record _ (.cap x _) => x == c | _ => false).length

/-- An edge at a capture's pin: the pin's level after the edge is `rising`. -/
def capEdge (s : State) (c : Nat) (rising : Bool) : State :=
  let e := getF s Pg.trg F.TRG_CAP_CTL_EDGE c
  let takes := if rising then e == 1 || e == 3 else e == 2 || e == 3
  let dead := match tabGet s.time.capLast c with
    | some t => decide (s.time.facc < t + 25 * unitNs)
    | none => false
  if !takes then s
  else if dead || decide (16 ≤ (capOf s c).length + capWaiting s c) then
    irqEvent (bumpSat s Pg.trg F.TRG_CAP_MISSED_COUNT 1 c) Pg.trg 5
  else
    fieldRecord { s with time := { s.time with capLast := tabSet s.time.capLast c s.time.facc } }
      (.cap c { rising := rising, unsync := !fieldSync s, stamp := stamp32 (fieldNs s) })

/-- A capture entry reaches its FIFO. -/
def capStore (s : State) (c : Nat) (e : CapEnt) : State :=
  if (capOf s c).length < 16 then { s with time := { s.time with cap := tabSet s.time.cap c (capOf s c ++ [e]) } }
  else irqEvent (bumpSat s Pg.trg F.TRG_CAP_MISSED_COUNT 1 c) Pg.trg 5

/-- A pop of a capture FIFO: CAP_POP0 as read, and the state with CAP_POP1 latched; 0 of an empty FIFO (log entry 160). -/
def capPopNow (s : State) (c : Nat) : Word × State :=
  match capOf s c with
  | [] => (0#32, setF s Pg.trg F.TRG_CAP_POP1_STAMP 0 c)
  | e :: q =>
    (BitVec.ofNat 32 ((if e.rising then 1 else 0) + (if e.unsync then 2 else 0) + 2 ^ 31),
     setF { s with time := { s.time with cap := if q.isEmpty then tabDel s.time.cap c else tabSet s.time.cap c q } }
       Pg.trg F.TRG_CAP_POP1_STAMP e.stamp c)

end Sys2Proof.Machine
end

