-- ==== Sys2Proof/Machine/Intr.lean ====
section
/-! DEFINITION. Interrupt aggregation (R57, R61 to R65): conditions that count as events, pending pages, and the destinations that
follow them. -/

namespace Sys2Proof.Machine

/-! ## Pending pages (R57, R61) -/

/-- The pages whose IRQ_PEND is not zero, lowest first. -/
def pendingNow (s : State) : List Nat :=
  s.regs.filterMap fun e => if e.1 % 1024 = 6 ∧ getW s (e.1 / 1024) 0x18 ≠ 0#32 then some (e.1 / 1024) else none

/-- The pending sources as page INT sees them: ring-die pages as they are, field-die pages as last reported (R61). -/
def sources (s : State) : List Nat :=
  (pendingNow s).filter (fun p => !isFieldPage p) ++ s.intr.fieldPend.filter isFieldPage

/-- INT.PENDnn. -/
def pendWord (s : State) (nn : Nat) : Nat :=
  ((sources s).filter fun p => p / 32 == nn).foldl (fun a p => if a.testBit (p % 32) then a else a + 2 ^ (p % 32)) 0

/-- INT_SUMMARY of R335: bit nn is 1 while INT.PENDnn is not 0. -/
def pendSummary (s : State) : Nat :=
  (List.range 16).foldl (fun a nn => if pendWord s nn = 0 then a else a + 2 ^ nn) 0

/-! ## Sources that are conditions (R57) -/

/-- The conditions that hold count as events of this step. -/
def irqConditions (s : State) : State :=
  let s1 := irqWhile s (!s.seq.log.isEmpty) Pg.seq 2
  let s2 := irqWhile s1 (!s.brg.errlog.isEmpty) Pg.brg 2
  let s3 := irqWhile s2 (!s.test.flog.isEmpty) Pg.bst 4
  let s4 := (List.range 4).foldl (fun a p => irqWhile a (!(tsqOf s p).isEmpty) Pg.tsq (2 + p)) s3
  irqWhile s4 (s.time.cap.any fun e => !e.2.isEmpty) Pg.trg 4

/-! ## Destinations (R63 to R65) -/

/-- INT.ROUTE of a page. -/
def routeBit (s : State) (f : FieldD) (p : Nat) : Bool := getB s Pg.int f p

/-- The level of an MSI-X vector. -/
def vecLevel (s : State) (v : Nat) : Bool :=
  (sources s).any fun p => routeBit s F.INT_ROUTE_MSIX_EN p && getF s Pg.int F.INT_ROUTE_VECTOR p == v

/-- The level of another destination. -/
def destLevel (s : State) (f : FieldD) : Bool := (sources s).any (routeBit s f)

/-- One MSI-X vector follows its level; a rise fires it (R64). -/
def vecStep (s : State) (v : Nat) : State :=
  let l := vecLevel s v
  if s.intr.vec.getLsbD v = l then s
  else
    let s1 := { s with intr := { s.intr with vec := bit64 s.intr.vec v l } }
    if l then msixFire s1 v else s1

/-- INT_N[n] follows its level; it is active low (R63). -/
def intNStep (s : State) (n : Nat) (f : FieldD) : State :=
  let l := destLevel s f
  if s.intr.intN.getD n false = l then s
  else emit { s with intr := { s.intr with intN := (List.range 2).map fun k => if k = n then l else s.intr.intN.getD k false } } (.intN n (!l))

/-- The management core's interrupt follows its level. -/
def coreStep (s : State) : State :=
  let l := destLevel s F.INT_ROUTE_CORE_EN
  if s.intr.core = l then s else emit { s with intr := { s.intr with core := l } } (.coreIrq l)

/-- The fabric destination sends one EVENT each time its level rises (R65). -/
def fabricStep (s : State) : State :=
  let l := destLevel s F.INT_ROUTE_FABRIC_EN
  if s.intr.fabric = l then s
  else
    let s1 := { s with intr := { s.intr with fabric := l } }
    match (sources s1).filter (routeBit s1 F.INT_ROUTE_FABRIC_EN) with
    | [] => s1
    | p :: ps =>
      issueTxn s1 {
        init := 0x5000, flow := getF s1 Pg.int F.INT_EVT_CTL_FLOW, op := 6
        addr := BitVec.ofNat 64 (getF s1 Pg.int F.INT_EVT_ADDR_LO_ADDR_LO + 2 ^ 32 * getF s1 Pg.int F.INT_EVT_ADDR_HI_ADDR_HI)
        len := 8, data := leBytes 8 (ps.foldl min p), spec := false }

/-- The vectors that may change: those with a level, and those that a pending source names. -/
def vecsOf (s : State) : List Nat :=
  (List.range 64).filter fun v => s.intr.vec.getLsbD v || (sources s).any fun p => getF s Pg.int F.INT_ROUTE_VECTOR p == v

/-- The field die reports each page whose pending state has changed (R61, R249). -/
def pendReports (s : State) : State :=
  let now := (pendingNow s).filter isFieldPage
  let up := now.filter fun p => !s.cul.fpend.contains p
  let down := s.cul.fpend.filter fun p => !now.contains p
  let s1 := { s with cul := { s.cul with fpend := now } }
  let s2 := up.foldl (fun a p => fieldPend a p true) s1
  down.foldl (fun a p => fieldPend a p false) s2

/-- Every line follows its level: the MSI-X vectors, INT_N[0], INT_N[1] and the management core's interrupt (R63, R64). -/
def lines (s : State) : State :=
  coreStep (intNStep (intNStep ((vecsOf s).foldl vecStep s) 0 F.INT_ROUTE_INTN0_EN) 1 F.INT_ROUTE_INTN1_EN)

/-- INT.EOI (R64): `meet` is a source that becomes pending in the same step; the vector fires exactly once. -/
def eoi (s : State) (v : Nat) (meet : Option (Nat × Nat)) : State :=
  let s1 := match meet with | some (p, b) => irqEvent s p b | none => s
  if vecLevel s1 v then msixFire { s1 with intr := { s1.intr with vec := bit64 s1.intr.vec v true } } v else s1

end Sys2Proof.Machine
end

