-- ==== Sys2Proof/Machine/Power.lean ====
section
/-! DEFINITION. Power entry as operations (spec/16): the gate, the trips, PG, PFW and the monitor. Comparator and timer events are
commands of the environment (log entry 5). -/

namespace Sys2Proof.Machine

def setPwr (s : State) (p : PwrSt) : State := { s with pwr := p }

/-! ## Derived state -/

/-- The fault timer count in ns (R389): it rises while the current is in limit and decays at one sixteenth of that rate. -/
def pwrCount (s : State) : Nat :=
  let d := s.watchNs - s.pwr.cntAt
  if s.pwr.lim then s.pwr.cnt + d else s.pwr.cnt - d / 16

/-- The count is taken at this instant. -/
def pwrMark (s : State) : State := setPwr s { s.pwr with cnt := pwrCount s, cntAt := s.watchNs }

def pwrPg (s : State) : Bool := getB s Pg.pwr F.PWR_STAT_PG
def pwrPfw (s : State) : Bool := getB s Pg.pwr F.PWR_STAT_PFW
def pwrEnhanced (s : State) : Bool := getB s Pg.pwr F.PWR_STAT_ENHANCED

/-- PWR.STAT.STATE. -/
def pwrState (s : State) : Nat :=
  if s.pwr.latched then 5 else if s.pwr.gate then (if s.pwr.lim then 3 else if pwrEnhanced s || pwrPg s then 2 else 1)
  else if s.pwr.ov then 6 else if s.pwr.tsd then 7 else if s.pwr.off then 4 else 0

/-- A monitor channel with ACT 1 is out of its window (R403). -/
def monPfw (s : State) : Bool :=
  (List.range 12).any fun c => (getF s Pg.mon F.MON_OUT_OUT).testBit c && getB s Pg.mon F.MON_WIN_ACT c

/-- A cause of PFW holds (R397). -/
def pfwCause (s : State) : Bool := s.pwr.low || s.pwr.timer || s.pwr.tsd || monPfw s || !pwrPg s

/-- The live fields of PWR.STAT follow, and PFW asserts with its first cause (R397). -/
def pwrUpdate (s : State) : State :=
  let s1 := setF (setF s Pg.pwr F.PWR_STAT_STATE (pwrState s)) Pg.pwr F.PWR_STAT_COUNT (pwrCount s / 100000)
  let s2 := if s1.pwr.run && pfwCause s1 && !pwrPfw s1 then
      emit (irqEvent (bump (setB s1 Pg.pwr F.PWR_STAT_PFW true) Pg.pwr F.PWR_PFW_ASSERTS) Pg.pwr 2) (.ball "PFW" true)
    else s1
  setB s2 Pg.pwr F.PWR_STAT_HOLDUP_OK (!pwrPfw s2 && decide (8334 ≤ s2.pwr.vinScans))

/-- PG deasserts (R395). -/
def pgOff (s : State) : State :=
  if pwrPg s then emit (setB s Pg.pwr F.PWR_STAT_PG false) (.ball "PG" false) else s

/-- The gate turns off (R389 to R392, R394). -/
def gateOff (s : State) : State :=
  let s1 := setB (setB (pgOff (pwrMark s)) Pg.pwr F.PWR_STAT_ENHANCED false) Pg.pwr F.PWR_STAT_GATE_CYCLED true
  setPwr s1 { s1.pwr with gate := false, lim := false, timer := false }

def retryCount (s : State) : Nat := getF s Pg.pwr F.PWR_CFG_RETRY_COUNT
def retriesLeft (s : State) : Nat := getF s Pg.pwr F.PWR_STAT_RETRIES_LEFT

/-- PWR.CFG has taken a value: a new RETRY_COUNT is what RETRIES_LEFT starts at (R391; DEDUCED, log entry 170). -/
def retryNote (s : State) (old : Word) : State :=
  if wordBits old F.PWR_CFG_RETRY_COUNT.lo F.PWR_CFG_RETRY_COUNT.w = retryCount s then s
  else setF s Pg.pwr F.PWR_STAT_RETRIES_LEFT (retryCount s)

/-- A trip with this timer count (R389, R391): the gate turns off for the longer of 100 times the count and 10 ms, or for good. -/
def pwrTrip (s : State) (count : Nat) : State :=
  let s1 := gateOff (irqEvent (bump s Pg.pwr F.PWR_TRIPS) Pg.pwr 3)
  let dead := retryCount s1 ≠ 255 ∧ retriesLeft s1 = 0
  pwrUpdate (setPwr s1 { s1.pwr with
      cnt := 0, cntAt := s1.watchNs, off := !(decide dead), latched := decide dead, retryDue := true,
      offNs := max (100 * count) 10000000 })

/-! ## The domain (R387) -/

/-- The boot values of an unburnt device. -/
def pwrBoot : Word × Word × Word × Word :=
  (resetWord Pg.pwr 0x40, resetWord Pg.pwr 0x44, resetWord Pg.pwr 0x48, resetWord Pg.pwr 0x4C)

/-- What is not of pages PWR and MON. -/
def withoutVinPages (t : Tab Word) : Tab Word := t.filter fun e => e.1 / 1024 != Pg.pwr && e.1 / 1024 != Pg.mon

/-- VIN rises above UVLO: the VIN domain starts with its boot values. -/
def vinStart (s : State) : State :=
  if s.pwr.run then s
  else
    let b := s.pwr.otp.getD pwrBoot
    let s1 := { s with regs := withoutVinPages s.regs }
    let s2 := setW (setW (setW (setW s1 Pg.pwr 0x40 b.1) Pg.pwr 0x44 b.2.1) Pg.pwr 0x48 b.2.2.1) Pg.pwr 0x4C b.2.2.2
    let s3 := setB (setB s2 Pg.pwr F.PWR_STAT_BOOT true) Pg.pwr F.PWR_STAT_GATE_CYCLED true
    let s4 := setB s3 Pg.pwr F.PWR_BOOT_BURNT s.pwr.otp.isSome
    let s5 := setF s4 Pg.pwr F.PWR_STAT_RETRIES_LEFT (retryCount s4)
    pwrUpdate (setPwr s5 {
        run := true, gate := false, lim := false, cnt := 0, cntAt := s.watchNs, ov := false, tsd := false, off := false,
        offNs := 0, retryDue := false, latched := false, low := false, timer := false, dsOff := false, otp := s.pwr.otp,
        scans := [], hotRing := false, hotField := false, vinScans := 0, warn := s.pwr.warn })

/-- VIN falls below UVLO: the gate turns off at once and the VIN domain stops. The board is then without power, and the row that says so
puts the hub in reset. PFW is low while the domain is stopped (R468). -/
def vinUvlo (s : State) : State :=
  if !s.pwr.run then s
  else
    let s1 := setB (gateOff s) Pg.pwr F.PWR_STAT_PFW false
    let s1 := if pwrPfw s then emit s1 (.ball "PFW" false) else s1
    setPwr s1 { s1.pwr with run := false, latched := false, off := false, ov := false, tsd := false, low := false, timer := false,
                            dsOff := false, retryDue := false, cnt := 0 }

/-! ## The gate (R388 to R394) -/

/-- Nothing holds the gate off (R388). -/
def gateFree (s : State) : Bool := s.pwr.run && !s.pwr.gate && !s.pwr.ov && !s.pwr.tsd && !s.pwr.off && !s.pwr.latched && !s.pwr.dsOff

/-- The gate ramp starts; a restart after a trip uses one retry (R388, R391). -/
def rampStart (s : State) : State :=
  if gateFree s then
    let s1 := if s.pwr.retryDue ∧ retryCount s ≠ 255 then setF s Pg.pwr F.PWR_STAT_RETRIES_LEFT (retriesLeft s - 1) else s
    pwrUpdate (setPwr s1 { s1.pwr with gate := true, retryDue := false })
  else s

/-- The current reaches the limit: the fault timer runs, and a run that starts at 0 is a timer start (R389, R397). The gate is regulated, so it is
no longer enhanced (R393). -/
def limitEnter (s : State) : State :=
  if s.pwr.gate && !s.pwr.lim then
    let s1 := pwrMark s
    pwrUpdate (setPwr (setB s1 Pg.pwr F.PWR_STAT_ENHANCED false) { s1.pwr with lim := true, timer := s1.pwr.timer || s1.pwr.cnt == 0 })
  else s

/-- The current leaves the limit: the count decays (R389). -/
def limitExit (s : State) : State :=
  if s.pwr.lim then
    let s1 := pwrMark s
    pwrUpdate (setPwr s1 { s1.pwr with lim := false, timer := false })
  else s

/-- The fault timer reaches TIMER (R389). -/
def timerTrip (s : State) : State :=
  if s.pwr.lim then pwrTrip (setB s Pg.pwr F.PWR_FAULT_TRIP true) (getF s Pg.pwr F.PWR_CFG_TIMER * 100000) else s

/-- The fast trip, recorded as FAST_TRIP (R390, R396). -/
def fastTrip (s : State) : State :=
  if s.pwr.gate then pwrTrip (setB (bump s Pg.pwr F.PWR_FAST_TRIPS) Pg.pwr F.PWR_FAULT_FAST_TRIP true) (pwrCount s) else s

/-- The retry off-time ends and the ramp starts again, unless something else still holds the gate off (R391, R396). -/
def retryEnd (s : State) : State :=
  if s.pwr.off then
    let s1 := setPwr s { s.pwr with off := false }
    pwrUpdate (rampStart s1)
  else s

/-- PG has been asserted for 10 s without a trip (R391). -/
def retriesRestore (s : State) : State :=
  if pwrPg s then setF s Pg.pwr F.PWR_STAT_RETRIES_LEFT (retryCount s) else s

/-- VIN rises above OV (R392). -/
def overVolt (s : State) : State :=
  if s.pwr.run && !s.pwr.ov then
    let s1 := irqEvent (bump (setB s Pg.pwr F.PWR_FAULT_OV true) Pg.pwr F.PWR_OV_EVENTS) Pg.pwr 5
    let s2 := if s1.pwr.gate then gateOff s1 else s1
    pwrUpdate (setPwr s2 { s2.pwr with ov := true })
  else s

/-- VIN falls 2 % below OV: the ramp starts without using a retry (R392). -/
def overVoltEnd (s : State) : State :=
  if s.pwr.ov then pwrUpdate (rampStart (setPwr s { s.pwr with ov := false })) else s

/-- 3.0 ms after thermal shutdown the gate turns off (R392). -/
def thermalOff (s : State) : State := if s.pwr.tsd && s.pwr.gate then pwrUpdate (gateOff s) else s

/-- Both dies read below 130 °C on the last scan (R392): MON codes below 1800. -/
def diesCool (s : State) : Bool := getF s Pg.mon F.MON_VAL_VAL 9 < 1800 && getF s Pg.mon F.MON_VAL_VAL 10 < 1800

/-- Thermal shutdown ends; the ramp starts without using a retry (R392). -/
def thermalRecover (s : State) : State :=
  if s.pwr.tsd && !s.pwr.gate && diesCool s then pwrUpdate (rampStart (setPwr s { s.pwr with tsd := false })) else s

/-- A fault of the FET or the gate is reported (R394). -/
def fetFault (s : State) (f : FieldD) : State := irqEvent (bump (setB s Pg.pwr f true) Pg.pwr F.PWR_FET_FAULTS) Pg.pwr 4

/-- GATE_FAULT: a trip with a timer count of 5 ms (R393). Current in limit never raises it. -/
def gateFault (s : State) : State :=
  if s.pwr.gate && !s.pwr.lim && !pwrPg s && !pwrEnhanced s then pwrTrip (setB (fetFault s F.PWR_FAULT_GATE_FAULT) Pg.pwr F.PWR_FAULT_TRIP true) 5000000
  else s

/-- GATE_WEAK: the gate stays driven and PG stays withheld (R393). -/
def gateWeak (s : State) : State :=
  if s.pwr.gate && !s.pwr.lim && !pwrEnhanced s then pwrUpdate (fetFault s F.PWR_FAULT_GATE_WEAK) else s

/-- DS_SHORT (R394): with DS_RUN 1 the gate ramps and the hub runs, with DS_RUN 0 the gate is kept off. -/
def dsShort (s : State) : State :=
  if s.pwr.run && !s.pwr.gate then
    let s1 := fetFault s F.PWR_FAULT_DS_SHORT
    if getB s1 Pg.pwr F.PWR_CFG_DS_RUN then
      pwrUpdate (rampStart (setPwr s1 { s1.pwr with off := false, dsOff := false }))
    else pwrUpdate (setPwr (setB s1 Pg.pwr F.PWR_STAT_GATE_CYCLED true) { s1.pwr with dsOff := true })
  else s

/-- The PG conditions have held for PG_DLY (R395, R396): the gate is then at or above gate enhanced. PG that never dropped stays. -/
def pgAssert (s : State) : State :=
  if s.pwr.run && s.pwr.gate && !s.pwr.lim && !s.pwr.ov && !s.pwr.latched && !s.pwr.off then
    let s1 := setB s Pg.pwr F.PWR_STAT_ENHANCED true
    pwrUpdate (if pwrPg s then s1 else emit (setB s1 Pg.pwr F.PWR_STAT_PG true) (.ball "PG" true))
  else s

/-! ## PFW (R397, R398) -/

/-- VIN has stayed below THRESH for FILT. -/
def vinLow (s : State) : State := if s.pwr.run then pwrUpdate (setPwr s { s.pwr with low := true }) else s

/-- VIN has stayed at or above THRESH + HYST for RECOVER; PFW deasserts if its other causes are absent as well. -/
def pfwEnd (s : State) : State :=
  let s1 := setPwr s { s.pwr with low := false }
  if s.pwr.run && pwrPfw s && !pfwCause s1 then emit (setB s1 Pg.pwr F.PWR_STAT_PFW false) (.ball "PFW" false) |> pwrUpdate
  else s

/-! ## Boot values (R387) -/

/-- PWR.CMD.BURN: the settings go into OTP once; a second BURN is refused. -/
def pwrBurn (s : State) : (Nat × Nat) × State :=
  if s.pwr.otp.isSome then ((St.targetErr, 0x40), noteErr s Pg.pwr St.targetErr 0x40 0x17)
  else
    ((St.ok, 0), setB (setPwr s { s.pwr with otp := some (getW s Pg.pwr 0x40, getW s Pg.pwr 0x44, getW s Pg.pwr 0x48, getW s Pg.pwr 0x4C) })
      Pg.pwr F.PWR_BOOT_BURNT true)

/-! ## The monitor (R402, R403) -/

/-- Channel `c` converts `v`: it leaves or returns to its window after FILT consecutive scans. -/
def monChannel (s : State) (c v : Nat) : State :=
  let s1 := setF s Pg.mon F.MON_VAL_VAL v c
  let bad := decide (v < getF s Pg.mon F.MON_WIN_LO c) || decide (getF s Pg.mon F.MON_WIN_HI c < v)
  let out := getF s Pg.mon F.MON_OUT_OUT
  let cur := out.testBit c
  let n := if bad = cur then 0 else s.pwr.scans.getD c 0 + 1
  let flip := bad != cur && decide (getF s Pg.mon F.MON_CTL_FILT ≤ n)
  let s2 := setPwr s1 { s1.pwr with
      scans := (List.range 12).map fun k => if k = c then (if flip then 0 else n) else s1.pwr.scans.getD k 0 }
  if !flip then s2
  else if bad then
    irqEvent (bump (setF (setF s2 Pg.mon F.MON_OUT_OUT (out + 2 ^ c)) Pg.mon F.MON_OUT_SEEN_SEEN
      (getF s Pg.mon F.MON_OUT_SEEN_SEEN ||| 2 ^ c)) Pg.mon F.MON_EXCURSIONS) Pg.mon 2
  else setF s2 Pg.mon F.MON_OUT_OUT (out - 2 ^ c)

/-- Thermal shutdown: a die at 150 °C or above on two consecutive scans (R386, R392): MON codes from 2000 on. -/
def monThermal (s : State) : State :=
  let ring := decide (2000 ≤ getF s Pg.mon F.MON_VAL_VAL 9)
  let field := decide (2000 ≤ getF s Pg.mon F.MON_VAL_VAL 10)
  let s1 := setPwr s { s.pwr with hotRing := ring, hotField := field }
  if (ring && s.pwr.hotRing || field && s.pwr.hotField) && !s.pwr.tsd then
    irqEvent (setB (setPwr s1 { s1.pwr with tsd := true }) Pg.pwr F.PWR_FAULT_TSD true) Pg.pwr 6
  else s1

/-- A monitor scan ends with these twelve conversions (R402, R403); HOLDUP_OK follows VIN over the last second (R401). -/
def monScan (s : State) (vals : List Nat) : State :=
  if s.pwr.run then
    let s1 := (List.range 12).foldl (fun a c => monChannel a c (vals.getD c 0 % 4096)) s
    let s2 := monThermal s1
    let good := decide (getF s2 Pg.pwr F.PWR_HOLDUP_MIN_V * 5 ≤ getF s2 Pg.mon F.MON_VAL_VAL 0)
    pwrUpdate (setPwr s2 { s2.pwr with vinScans := if good then s2.pwr.vinScans + 1 else 0 })
  else s

/-! ## Health (R403) -/

/-- A rail channel (3 to 8) is out of window. -/
def railsBad (s : State) : Bool := (List.range 6).any fun i => (getF s Pg.mon F.MON_OUT_OUT).testBit (3 + i)

/-- A temperature channel (9, 10) is out of window. -/
def tempBad (s : State) : Bool := (getF s Pg.mon F.MON_OUT_OUT).testBit 9 || (getF s Pg.mon F.MON_OUT_OUT).testBit 10

end Sys2Proof.Machine
end

