-- ==== Sys2Proof/Machine/Ring.lean ====
section
/-! DEFINITION. The ring as operations (spec/03): links, HSR reception and forwarding, RedBox and QuadBox, KVL checks, HELLO,
discovery and the node table, and the coupler. -/

namespace Sys2Proof.Machine

/-! ## Links (R66 to R69, R75, R156) -/

def portMode (s : State) (p : Port) : Nat := getF s (portPage p) F.PORT_CFG_MODE
def portFec (s : State) (p : Port) : Nat := getF s (portPage p) F.PORT_CFG_FEC
def portRole (s : State) (p : Port) : Nat := getF s (portPage p) F.PORT_CFG_ROLE
def hasSignal (s : State) (p : Port) : Bool := s.ring.signal.contains p
def ethPorts : List Port := [.e, .w, .c1, .c2]

/-- A mode that the port and the grade run (R66): grade 0 is T, grade 1 is M. -/
def modeAllowed (grade : Nat) (p : Port) (m : Nat) : Bool :=
  if isSubPort p then m == 0 || m == 3 || m == 4 || m == 5
  else if grade = 0 then m == 0 || m == 1 || m == 2 else m == 0 || m == 2 || m == 3

/-- A role that the port runs in a mode ("Coupling port roles"). MODE 0, which the role table lists for no role, is taken with every role: the
port is then off, and two ROLE 2 ports in MODE 0 are a QuadBox whose ports are down (DESIGN CHOICE, log entry 157). -/
def roleAllowed (p : Port) (role m : Nat) : Bool :=
  if isSubPort p then role != 2 || m == 0 || m == 3 || m == 4 else role == 0

/-- What refuses a setting of a port (R66, R67, R76), by its cause. -/
def portCfgRefusal (s : State) (p : Port) (v : Word) : Option Nat :=
  let m := wordBits v 0 4
  let fec := wordBits v 4 2
  let role := wordBits v 8 2
  if 6 ≤ m then some Cause.range
  else if !modeAllowed s.dev.grade p m then some 0x40
  else if fec = 3 ∨ (fec ≠ 0 ∧ m ≠ 1) ∨ roleAllowed p role m = false then some Cause.range
  else if role = 3 ∧ portRole s (otherPort p) = 3 then some Cause.range
  else none

/-- COUPLER and WAIT_PAIR follow the coupling ports (R75). -/
def couplerUpdate (s : State) : State :=
  let act := isCoupler s
  let s1 := setB s Pg.nod F.NOD_SELF_COUPLER act
  [Port.c1, Port.c2].foldl (fun a p => setB a (portPage p) F.PORT_STAT_WAIT_PAIR (!act && portRole a p == 2)) s1

/-- LINK of a port changes (R68). -/
def setLink (s : State) (p : Port) (l : Nat) : State :=
  if getF s (portPage p) F.PORT_STAT_LINK = l then s else irqEvent (setF s (portPage p) F.PORT_STAT_LINK l) (portPage p) 2

/-- LINK of a port that is not UP (R68): TRAINING while its receiver detects a signal. -/
def restingLink (s : State) (p : Port) : Nat := if portMode s p ≠ 0 ∧ hasSignal s p = true then 1 else 0

/-- The reclaim walker ends the references queued for a port with an outcome, and their cells return (R151, R156). -/
def reclaimPort (s : State) (p : Port) (outcome : Nat) : State :=
  let used (x : State) : Nat := (x.sw.frames.map fun d => d.2.reserve + d.2.shared).foldl (· + ·) 0
  let s1 := wireEnd s p outcome
  let any := (List.range 8).any fun c => !(queueOf s1 p c).isEmpty
  let s2 := (List.range 8).foldl (fun a c =>
      (queueOf a p c).foldl (fun b fid => finishRef b fid p outcome 0) (setQueue a p c [])) s1
  let s3 := bump s2 Pg.buf F.BUF_RECLAIMED (used s1 - used s2)
  if any && !s3.sw.walk.contains (portIdx p) then { s3 with sw := { s3.sw with walk := s3.sw.walk ++ [portIdx p] } } else s3

/-- A port leaves UP (R68, R69, R77, R147, R151). -/
def linkGone (s : State) (p : Port) : State :=
  let s1 := setLink s p (restingLink s p)
  let s2 := setF (setF s1 (portPage p) F.PORT_STAT_HELLO 0) (portPage p) F.PORT_STAT_LINK_VER 0
  pathRecheckAll (reclaimPort s2 p 3)

/-- PORT.CFG takes a value; a change of MODE, FEC or ROLE takes the port DOWN at once and retrains it (R69). -/
def portCfgSet (s : State) (p : Port) (v : Word) : State :=
  let pg := portPage p
  let old := getW s pg 0x40
  let s1 := setW s pg 0x40 v
  if wordBits old 0 10 = wordBits v 0 10 then s1
  else
    let s2 := setB (setB s1 pg F.PORT_STAT_PCS_LOCK false) pg F.PORT_STAT_FEC_LOCK false
    let s3 := if getF s pg F.PORT_STAT_LINK = 2 then linkGone s2 p else setLink s2 p (restingLink s2 p)
    let s4 := if getF s pg F.PORT_STAT_LINK = 2 ∧ getF s3 pg F.PORT_STAT_LINK = 2 then setLink s3 p 0 else s3
    couplerUpdate s4

/-- Signal detect, locks or the in-band speed change (R66, R68). -/
def signalLock (s : State) (p : Port) (signal pcs fec : Bool) (speed : Nat) : State :=
  if !isEthPort p then s
  else
    let pg := portPage p
    let s1 := { s with ring := { s.ring with signal := (s.ring.signal.filter (· != p)) ++ (if signal then [p] else []) } }
    let on := portMode s1 p != 0
    let s2 := setB (setB s1 pg F.PORT_STAT_PCS_LOCK (pcs && on)) pg F.PORT_STAT_FEC_LOCK (fec && on && portFec s1 p != 0)
    let s3 := setF s2 pg F.PORT_STAT_SGMII_SPEED (if portMode s2 p = 5 then min speed 2 else 0)
    if getF s3 pg F.PORT_STAT_LINK = 2 then s3 else setLink s3 p (restingLink s3 p)

/-- The locks that the port's setting needs hold (R68). -/
def portLocked (s : State) (p : Port) : Bool :=
  portMode s p != 0 && getB s (portPage p) F.PORT_STAT_PCS_LOCK && (portFec s p == 0 || getB s (portPage p) F.PORT_STAT_FEC_LOCK)

/-- The locks have held for UP_HOLD (R68). -/
def linkUp (s : State) (p : Port) : State :=
  if isEthPort p && portLocked s p && getF s (portPage p) F.PORT_STAT_LINK != 2 then pathRecheckAll (setLink s p 2) else s

/-- Lock has been lost for DOWN_HOLD (R68). -/
def linkDown (s : State) (p : Port) : State :=
  if isEthPort p && !portLocked s p && getF s (portPage p) F.PORT_STAT_LINK == 2 then linkGone s p else s

/-- The walker ends its run (R156): a leak sweep returns every cell that is on no list. -/
def walkDone (s : State) : State :=
  match s.sw.walk with
  | [] => s
  | w :: ws =>
    let s1 := { s with sw := { s.sw with walk := ws } }
    let s2 := if w = 7 then bump { s1 with sw := { s1.sw with lost := [] } } Pg.buf F.BUF_LEAKED s1.sw.lost.length else s1
    irqEvent s2 Pg.buf 4

/-! ## Duplicate discard (R71, R72) -/

/-- The duplicate-discard entry of a frame on a ring. -/
def ddGet (s : State) (sub : Bool) (smac seq : Nat) : Option DdEnt :=
  s.ring.dd.find? fun e => e.smac == smac && e.seq == seq && e.sub == sub

/-- The entry of a frame takes what has now been done with it; a full table evicts its oldest entry. -/
def ddNote (s : State) (sub : Bool) (smac seq : Nat) (delivered : Bool) (fwd : List Port) : State :=
  match ddGet s sub smac seq with
  | some _ =>
    let l := updFirst (fun e => e.smac == smac && e.seq == seq && e.sub == sub)
      (fun e => { e with delivered := e.delivered || delivered, fwd := e.fwd ++ fwd }) s.ring.dd
    { s with ring := { s.ring with dd := l } }
  | none =>
    let e : DdEnt := { smac := smac, seq := seq, sub := sub, delivered := delivered, fwd := fwd }
    if s.ring.dd.length < 8192 then { s with ring := { s.ring with dd := s.ring.dd ++ [e] } }
    else bump { s with ring := { s.ring with dd := s.ring.dd.drop 1 ++ [e] } } Pg.kvl F.KVL_DD_EVICT

/-- An entry has lived for DD_FORGET. -/
def ddExpire (s : State) (smac seq : Nat) (sub : Bool) : State :=
  { s with ring := { s.ring with dd := s.ring.dd.filter fun e => !(e.smac == smac && e.seq == seq && e.sub == sub) } }

/-! ## RedBox proxies (R74) -/

def isProxied (s : State) (mac : Nat) : Bool := s.ring.proxies.any (·.1 == mac)

/-- PROXY_USED follows the table. -/
def proxyCount (s : State) : State :=
  [Port.c1, Port.c2].foldl (fun a p => setF a (portPage p) F.PORT_PROXY_USED_USED (a.ring.proxies.filter (·.2 == p)).length) s

/-- No frame has come from a device for PROXY_FORGET. -/
def proxyExpire (s : State) (mac : Nat) : State :=
  proxyCount { s with ring := { s.ring with proxies := s.ring.proxies.filter (·.1 != mac) } }

/-- A group address. -/
def isGroup (mac : Nat) : Bool := mac.testBit 40

/-! ## KVL checks (R82) -/

/-- KVL.BAD_HDR counts a frame. -/
def badHdr (s : State) : State := irqEvent (bump s Pg.kvl F.KVL_BAD_HDR) Pg.kvl 3

/-- The version of a frame's header is accepted (R80, R82). -/
def verOk (s : State) (k : Kvl) : Bool :=
  if k.type = tyAnnounce ∨ k.type = tyHello ∨ k.type = tyLease then k.ver == 1
  else (verEn s).testBit (k.ver - 1)

/-- COUNT, BODY_LEN and the body of a frame are laid out as its type asks. -/
def bodyOk (k : Kvl) (f : Frame) : Bool :=
  let b := kvlBody f.payload k
  b.length == k.bodyLen &&
  (if k.type = tyReq then decide (1 ≤ k.count ∧ k.count ≤ maxCount k.ver) && (reqBodyParse k.count b).isSome
   else if k.type = tyCpl then decide (1 ≤ k.count ∧ k.count ≤ maxCount k.ver) && (cplBodyParse k.count b).isSome
   else if k.count ≠ 0 ∨ k.baseSeq ≠ 0 then false
   else if k.type = tyAnnounce then
     k.bodyLen == 16 && beAt b 0 1 % 64 != 0 && beAt b 0 1 % 64 != 63 && beAt b 1 1 < 2 && beAt b 10 6 == 0
   else if k.type = tyLease then k.bodyLen == 32 && beAt b 1 1 < 16 && beAt b 14 1 < 64 && beAt b 30 2 == 0
   else if k.type = tyHello then decide (1 ≤ k.bodyLen)
   else decide (20 ≤ k.bodyLen))

/-- The pair node is answered here (R356, R359): the member is ACTIVE, or HANDOVER before its RELEASE. -/
def pairAnswers (s : State) : Bool := pairRole s == 2 || pairRole s == 5

/-- A frame's DST names this hub, or a route that it forwards as a coupler (R82, R95). -/
def dstServed (s : State) (sub : Bool) (k : Kvl) : Bool :=
  if routeUp k.dst = 0 then
    let own := if sub then ownSub s else ownNode s
    (routeL1 k.dst != 0 && routeL1 k.dst == own && (routeL2 k.dst == 0 || isCoupler s)) ||
    (!sub && pairAnswers s && routeL1 k.dst == pairNode s && routeL2 k.dst == 0)
  else sub && isCoupler s

/-- A KVL frame that a group address or an address of this hub brings here is checked whole (R36, R82, R93): whether it is taken up. -/
def kvlCheck (s : State) (p : Port) (f : Frame) : Bool × State :=
  match kvlParse f.payload with
  | none => (false, badHdr s)
  | some k =>
    if !verOk s k || !decide (k.type ≤ 5) || k.type == tyHello || !bodyOk k f || (!isGroup f.dmac && !dstServed s (isSubPort p) k) then
      (false, badHdr s)
    else if k.type = tyMirror then (false, s)
    else if k.type = tyReq ∧ getB s Pg.nod F.NOD_SELF_STAT_CONFLICT = true then (false, bump s Pg.kvl F.KVL_NOT_MINE)
    else (true, s)

/-- A frame of the fabric EtherType that this hub neither takes up nor sends on: with a VLAN tag (R79), or a HELLO with an HSR tag (R77, R82). -/
def kvlBarred (s : State) (f : Frame) : Bool := isKvlType s f && (f.vlan.isSome || beAt f.payload 0 1 % 16 == tyHello)

/-- A frame is discarded at ingress: stomped, or for its FCS, its length or the loss of its link (R6, R145). -/
def rxDrop (s : State) (p : Port) (f : Frame) : State :=
  if f.fcs = .stomp then bump s (portPage p) F.PORT_STOMP_RX else bump s (portPage p) F.PORT_RX_DISCARD

/-- The switch core, its buffer or the port takes no new frame (R29, R54, R55): one that arrives is discarded at ingress (DESIGN CHOICE, log entry 143). -/
def ingressShut (s : State) (p : Port) : Bool := !(coreTakes s && blockTakes s (portPage p))

/-! ## HELLO (R77, R78) -/

/-- The header of a frame that names no route (R80). -/
def plainHdr (s : State) (type cls : Nat) : Kvl :=
  { ver := 1, type := type, cls := cls, dup := false, rewrites := 0, dst := 0#64, src := mkRoute 0 [ownNode s], initiator := 0, srcFlow := 0,
    baseSeq := 0, count := 0, bodyLen := 0, srcEpoch := 0, dstEpoch := 0 }

/-- The ports that carry HELLO: UP in the HSR, QUADBOX or MIRROR role. -/
def helloPorts (s : State) : List Port :=
  ethPorts.filter fun p => portUp s p && (!isSubPort p || portRole s p == 2 || portRole s p == 3)

/-- Every 100 ms the hub sends HELLO with its enabled versions. The body's layout is the model's (DESIGN CHOICE, log entry 16). -/
def helloSend (s : State) : State :=
  let s1 := { s with ring := { s.ring with helloOld := none } }
  let f := { kvlFrame s1 macHello (ownMac s) (plainHdr s1 tyHello 7) (beBytes 1 (linkEn s1)) with hsr := none }
  (helloPorts s1).foldl (fun a p => sendOwnFrame a { desc := ownDesc a f 7, ports := [p], tagged := false }) s1

/-- The outcome of a HELLO: 1 OK with the link version, 2 MISMATCH. -/
def helloJudge (own their : Nat) : Nat × Nat := if topVer (own &&& their) = 0 then (2, 0) else (1, topVer (own &&& their))

/-- An untagged HELLO. -/
def isHello (s : State) (f : Frame) : Bool := isKvlType s f && f.hsr.isNone && f.vlan.isNone && beAt f.payload 0 1 % 16 == tyHello

/-- A HELLO that arrived whole is judged; no port sends one on (R77). HELLO_MISMATCH is set at each change into MISMATCH, not at each HELLO
that finds no common version (DESIGN CHOICE, log entry 144). -/
def helloTake (s : State) (p : Port) (f : Frame) : State :=
  match if (helloPorts s).contains p then kvlParse f.payload else none with
  | none => if (helloPorts s).contains p then badHdr s else s
  | some k =>
    if verOk s k = false ∨ bodyOk k f = false then badHdr s
    else
      let j := helloJudge (linkEn s) (beAt (kvlBody f.payload k) 0 1)
      let s2 := setF (setF (bump s Pg.kvl F.KVL_RX_KVL) (portPage p) F.PORT_STAT_HELLO j.1) (portPage p) F.PORT_STAT_LINK_VER j.2
      let s3 := if portRole s p = 3 then
          { s2 with pair := { s2.pair with partnerMac := f.smac, partnerNode := routeL1 k.src } } else s2
      if j.1 = 2 ∧ getF s (portPage p) F.PORT_STAT_HELLO ≠ 2 then irqEvent s3 (portPage p) 3 else s3

/-- A HELLO arrives (R6, R77). -/
def helloIn (s : State) (p : Port) (f : Frame) : State :=
  if !(helloPorts s).contains p then s
  else if !(decide (f.fcs = .good) && decide (frameLen f ≤ maxFrame)) then rxDrop s p f
  else if ingressShut s p then bump s (portPage p) F.PORT_RX_DISCARD
  else
    let s1 := bump s (portPage p) F.PORT_RX_FRAMES
    if isHello s1 f then helloTake s1 p f else badHdr s1

/-- No HELLO for 300 ms. -/
def helloGone (s : State) (p : Port) : State :=
  if isEthPort p then setF (setF s (portPage p) F.PORT_STAT_HELLO 0) (portPage p) F.PORT_STAT_LINK_VER 0 else s

/-! ## Reception on an HSR port (R71, R139, R140, R143 to R145) -/

/-- Nominal speed of a port in Mbit/s, by its mode. -/
def portSpeed (s : State) (p : Port) : Nat :=
  match portMode s p with
  | 1 => 25000 | 2 => 10000 | 3 => 1000 | 4 => 2500 | 5 => [10, 100, 1000].getD (getF s (portPage p) F.PORT_STAT_SGMII_SPEED) 1000 | _ => 0

/-- A transit frame may be forwarded while it is still arriving (R143). -/
def cutOk (s : State) (p o : Port) : Bool :=
  !isSubPort p && getB s Pg.swc F.SWC_CTL_CT_EN && coreTakes s && portTakes s o && (tabGet s.sw.onWire (portIdx o)).isNone &&
  (List.range 8).all (fun c => (queueOf s o c).isEmpty) && sluOpen s Pg.slu40 (portSluice o) && decide (portSpeed s o ≤ portSpeed s p)

/-- The descriptor of a received frame. -/
def rxDesc (s : State) (p : Port) (f : Frame) (transit : Bool) : Desc :=
  { ownDesc s f (frameClass s f) with pool := poolOf transit (frameClass s f), rxTime := ingressStamp s p, ingress := some p }

/-- A frame was received whole with a good FCS. -/
def rxGood (f : Frame) (rx : RxMeta) : Bool := decide (f.fcs = .good) && decide (frameLen f ≤ maxFrame) && !rx.linkLost

/-! ## Peer delay (R226) -/

/-- The sourcePortIdentity of a port: the EUI-64 of the hub's MAC address and the port number (PRESUMED, log entry 12). -/
def ptpPortId (s : State) (p : Port) : List Byte :=
  beBytes 3 (ownMac s / 2 ^ 24) ++ [0xFF#8, 0xFE#8] ++ beBytes 3 (ownMac s % 2 ^ 24) ++ beBytes 2 (portIdx p + 1)

/-- The one-step Pdelay_Resp to a request: its correctionField is the turnaround. -/
def pdelayResp (s : State) (p : Port) (f : Frame) (turn : Int) : Frame :=
  { dmac := 0x0180C200000E, smac := ownMac s, hsr := none, vlan := none, etype := 0x88F7, fcs := .good
    payload :=
      [BitVec.ofNat 8 (beAt f.payload 0 1 / 16 * 16 + 3)] ++ (f.payload.drop 1).take 1 ++ beBytes 2 54 ++
      (f.payload.drop 4).take 1 ++ [0#8] ++ beBytes 2 0 ++ beBytes 8 (ofSigned 64 (turn * 4096)) ++ beBytes 4 0 ++
      ptpPortId s p ++ (f.payload.drop 30).take 2 ++ [5#8, 0x7F#8] ++ beBytes 10 0 ++ (f.payload.drop 20).take 10 }

/-- The frame is a peer-delay message. -/
def isPdelay (f : Frame) : Bool :=
  isPtp f && f.dmac == 0x0180C200000E && (ptpType f == 2 || ptpType f == 3 || ptpType f == 10)

/-- A peer-delay message at E or W (R226): it is consumed; the hub answers requests, or the management core gets them. A bad one is discarded
and counted as any frame is (R6, R71). -/
def pdelayRx (s0 : State) (p : Port) (f : Frame) : State :=
  let s := bump s0 (portPage p) F.PORT_RX_FRAMES
  if !(isPdelay f && (p == .e || p == .w) && portUp s0 p) then s0
  else if !rxGood f { late := false, linkLost := false, fecCorr := 0, fecUncorr := 0 } then rxDrop s0 p f
  else if ingressShut s0 p then bump s0 (portPage p) F.PORT_RX_DISCARD
  else if ptpType f == 2 && getB s Pg.tmk F.TMK_CTL_PDELAY_HW then
    bump (emit s (.frame p (pdelayResp s p f ((egressStamp s p : Int) - ingressStamp s p)) false)) Pg.tmk F.TMK_PDELAY_RESP
  else emit s (.local f (some p) (ingressStamp s p))

/-! ## Frames at the ring ports -/

/-- A frame joins its class queues, except at the port where its head leaves at once (R143). -/
def launch (s : State) (fid cls : Nat) (ports : List Port) (cut : Option Port) : State :=
  let s1 := joinQueues s fid cls (ports.filter fun q => some q != cut)
  match cut with
  | some o => startFrame (bump s1 Pg.swc F.SWC_CT_FRAMES) o fid
  | none => s1

/-- A frame cut off at the greatest length (R144). -/
def frameCut (f : Frame) : Frame := { f with payload := f.payload.take (f.payload.length - (frameLen f - maxFrame)) }

/-- A frame that leaves cut-through and proves bad is ended with the stomp code; only one that did not arrive stomped counts (R144, R145). -/
def cutBad (s : State) (d : Desc) (o : Port) : State :=
  let f := frameCut d.frame
  match formFrame s { d with frame := f, len := frameLen f, cut := true, stomped := true } [o] with
  | none => poolDrop s d.pool
  | some (fid, s1) =>
    let s2 := launch s1 fid d.cls [o] (some o)
    if d.frame.fcs = .stomp ∧ frameLen d.frame ≤ maxFrame then s2 else irqEvent (bump s2 Pg.swc F.SWC_STOMP_TX) Pg.swc 2

/-- The ports a frame is delivered to at this hub: M, and the RedBox ports (R71, R74). -/
def localPorts (s : State) (f : Frame) (p : Port) : List Port :=
  let toM := isGroup f.dmac || f.dmac == ownMac s || (pairAnswers s && f.dmac == pairMac s)
  let boxes := [Port.c1, Port.c2].filter fun c => c != p && portRole s c == 1 &&
    (isGroup f.dmac || s.ring.proxies.any fun x => x.1 == f.dmac && x.2 == c)
  (if toM && !isKvlType s f then [.m] else []) ++ boxes

def setNode (s : State) (sub : Bool) (n : Nat) (e : NodeEnt) : State :=
  if sub then { s with ring := { s.ring with st := tabSet s.ring.st n e } } else { s with ring := { s.ring with nt := tabSet s.ring.nt n e } }

/-- REACH of a node follows the recorded arrivals of its ANNOUNCEs (R92). -/
def reachOf (s : State) (sub : Bool) (mac : Nat) : Bool × Bool :=
  (s.ring.arrivals.contains (mac, if sub then Port.c1 else .e), s.ring.arrivals.contains (mac, if sub then Port.c2 else .w))

/-- An ANNOUNCE copy has arrived on a port: the REACH bit of its node's entry follows at once (R92, R483). -/
def reachNote (s : State) (p : Port) (mac : Nat) : State :=
  if s.ring.arrivals.contains (mac, p) then s
  else
    let s1 := { s with ring := { s.ring with arrivals := s.ring.arrivals ++ [(mac, p)] } }
    let sub := isSubPort p
    pathRecheckAll ((if sub then s.ring.st else s.ring.nt).foldl (fun a x =>
      if x.2.mac = mac ∧ (x.2.state = 1 ∨ x.2.state = 3 ∨ x.2.state = 4) then
        setNode a sub x.1 { x.2 with reachE := (reachOf a sub mac).1, reachW := (reachOf a sub mac).2 }
      else a) s1)

/-- Step 1 of R71 for an ANNOUNCE: its arrival port is recorded against its source, before duplicate discard (R92). One with CONFLICT 1 is
ignored (R90). -/
def noteArrival (s : State) (p : Port) (f : Frame) : State :=
  match if isKvlType s f ∧ f.vlan = none then kvlParse f.payload else none with
  | some k =>
    if k.type == tyAnnounce && verOk s k && bodyOk k f && beAt (kvlBody f.payload k) 1 1 == 0 then reachNote s p f.smac else s
  | none => s

/-- A plain frame enters at C1, C2 or M and meets its headgate (R167 to R169): the class it goes on with, or none if it is dropped. -/
def pointCheck (s : State) (q cls len : Nat) : Option Nat × State :=
  match pointHeadgate s q cls with
  | none => (some cls, s)
  | some hg =>
    let r := headgate s hg (len)
    match r.1 with
    | .pass => (some cls, r.2)
    | .mark => (some (min cls (getF s (Pg.hdg hg) F.HDG_CTL_MARK_CLASS (hg % 64))), r.2)
    | .drop => (none, bump r.2 (Pg.hdg hg) F.HDG_DROP_FRAMES)

/-- The ring ports that a plain frame crosses a QuadBox to (R75): those of the other ring that no copy has been sent out of. -/
def crossPorts (s : State) (sub : Bool) (f : Frame) (ent : Option DdEnt) : List Port :=
  if isCoupler s && !isKvlType s f then (if sub then [Port.e, .w] else [.c1, .c2]).filter fun q => !ent.any fun e => e.fwd.contains q else []

/-- A frame crosses from the subring in a class that its headgate lowered, as a frame of its own (R167, R169). -/
def crossMarked (s : State) (p : Port) (f : Frame) (c : Nat) (ports : List Port) : State :=
  let d := { rxDesc s p f false with cls := c, pool := poolOf false c }
  match storeFrame s d ports with
  | some x => x
  | none => poolDrop s d.pool

/-- An HSR frame received whole on a port of a ring (R71). `bad` frames reach here only to be cut through and stomped. A frame is formed once, with
a reference to each port it goes to and to this hub (R155); where it crosses a QuadBox from the subring, the crossing meets its headgate (R164). -/
def hsrFrame (s0 : State) (p : Port) (f : Frame) (h : HsrTag) (bad : Bool) : State :=
  let s := if bad then s0 else noteArrival s0 p f
  let pg := portPage p
  let sub := isSubPort p
  let o := otherPort p
  let toUs := f.dmac == ownMac s || (pairAnswers s && f.dmac == pairMac s)
  if f.smac = ownMac s ∨ isProxied s f.smac = true ∨ (pairAnswers s = true ∧ f.smac = pairMac s) then
    (if bad then rxDrop s p f else bump s pg F.PORT_HSR_OWN)
  else if kvlBarred s f then (if bad then rxDrop s p f else badHdr s)
  else
    let mine := toUs || isProxied s f.dmac
    let ent := ddGet s sub f.smac h.seq
    let ent2 := ddGet s (!sub) f.smac h.seq
    let fwdDup := ent.any fun e => e.fwd.contains o
    let fwd := !mine && !fwdDup
    let takes := fwd && portTakes s o
    let cut := if fwd && cutOk s p o then some o else none
    if bad then rxDrop (if cut.isSome then cutBad s (rxDesc s p f takes) o else s) p f
    else
      let wanted := mine || isGroup f.dmac
      let seen := ent.any (·.delivered) || ent2.any (·.delivered)
      let give := wanted && !seen
      let s1 := if (!mine && fwdDup) || (wanted && seen) then bump s pg F.PORT_HSR_DUP else s
      let loc := if give && isKvlType s1 f && (isGroup f.dmac || toUs) then kvlCheck s1 p f else (false, s1)
      let cross := if mine then [] else crossPorts s sub f ent2
      let cls := frameClass s f
      let gate := if sub && !cross.isEmpty then pointCheck loc.2 (portIdx p - 2) cls (frameLen f) else (some cls, loc.2)
      let crossing := if gate.1.isSome then cross else []
      let ports := (if fwd then [o] else []) ++ (if gate.1 = some cls then crossing else []) ++ (if give then localPorts gate.2 f p else [])
      if ports.isEmpty && !loc.1 && crossing.isEmpty then (if give then ddNote gate.2 sub f.smac h.seq true [] else gate.2)
      else
        let d := { rxDesc gate.2 p f takes with loc := if loc.1 then some 0 else none, cut := cut.isSome }
        match formFrame gate.2 d ports with
        | none => poolDrop gate.2 d.pool
        | some (fid, s2) =>
          let s3 := if takes || give then ddNote s2 sub f.smac h.seq give (if takes then [o] else []) else s2
          let s4 := if crossing.isEmpty then s3 else ddNote s3 (!sub) f.smac h.seq give (crossing.filter (portTakes s))
          let s5 := if loc.1 then bump s4 Pg.kvl F.KVL_RX_KVL else s4
          let s6 := launch s5 fid cls (ports.filter (portTakes s)) cut
          match gate.1 with
          | some c => if c = cls ∨ crossing = [] then s6 else crossMarked s6 p f c crossing
          | none => s6

/-- A frame received on E, W, or on C1 or C2 of an active QuadBox. -/
def hsrRx (s : State) (p : Port) (f : Frame) (rx : RxMeta) : State :=
  if !(isHsrPort s p && portUp s p) then s
  else if isPdelay f && !isSubPort p then pdelayRx s p f
  else if ingressShut s p then bump s (portPage p) F.PORT_RX_DISCARD
  else if rxGood f rx then
    let s1 := bump s (portPage p) F.PORT_RX_FRAMES
    match f.hsr with
    | some h => hsrFrame s1 p f h false
    | none => if isHello s1 f then helloTake s1 p f else if isKvlType s1 f then badHdr s1 else bump s1 (portPage p) F.PORT_RX_DISCARD
  else
    match f.hsr with
    | some h => if rx.late then hsrFrame s p f h true else rxDrop s p f
    | none => rxDrop s p f

/-- A frame received on a coupling port in the REDBOX role (R74): a HELLO goes no further (R77), and no other KVL frame arrives untagged (R82). -/
def redboxRx (s : State) (p : Port) (f : Frame) : State :=
  if !(isSubPort p && portRole s p == 1 && portUp s p) then s
  else if !rxGood f { late := false, linkLost := false, fecCorr := 0, fecUncorr := 0 } then rxDrop s p f
  else if ingressShut s p then bump s (portPage p) F.PORT_RX_DISCARD
  else
    let pg := portPage p
    let s1 := bump s pg F.PORT_RX_FRAMES
    let listed := s1.ring.proxies.any fun x => x.1 == f.smac
    if f.hsr.isSome then bump s1 pg F.PORT_RX_DISCARD
    else if isKvlType s1 f then (if isHello s1 f then s1 else badHdr s1)
    else if !listed && decide (512 ≤ s1.ring.proxies.length) then irqEvent (bump s1 pg F.PORT_RX_DISCARD) pg 5
    else
      let s2 := proxyCount { s1 with ring := { s1.ring with proxies := (s1.ring.proxies.filter (·.1 != f.smac)) ++ [(f.smac, p)] } }
      let r := pointCheck s2 (portIdx p - 2) (frameClass s2 f) (frameLen f)
      match r.1 with
      | none => r.2
      | some c =>
        let d := { rxDesc r.2 p f false with cls := c, pool := poolOf false c }
        match sendHsr r.2 d [.e, .w] with
        | some x => x
        | none => poolDrop r.2 d.pool

/-- A frame that the management core sends (R142, R164, R167, R227): on ring ports as HSR copies, on the others as it is. -/
def managementSend (s : State) (f : Frame) (ports : List Port) (oneStep : Bool) (tsReq : Option Nat) : State :=
  let plain := !isKvlType s f
  let r := if plain then pointCheck s 2 (frameClass s f) (frameLen f) else (some (frameClass s f), s)
  match r.1 with
  | none => r.2
  | some c =>
    let ps := ports.filter isEthPort
    sendOwnFrame r.2 {
      desc := { ownDesc r.2 f c with rxTime := now16 s, tsId := tsReq, oneStep := oneStep }, ports := ps, tagged := ps.any (isHsrPort r.2) }

/-! ## Supervision frames (R73, layout of IEC 62439-3: PRESUMED, log entry 12) -/

/-- The supervision frame for one device; `own` for the hub itself. -/
def supervision (s : State) (seq mac : Nat) (own : Bool) : Frame :=
  { dmac := 0x01154E000100 + getF s Pg.kvl F.KVL_HSR_CTL_SUPV_ADDR, smac := ownMac s, hsr := none, vlan := none, etype := 0x88FB,
    payload := beBytes 2 1 ++ beBytes 2 seq ++ beBytes 1 23 ++ beBytes 1 6 ++ beBytes 6 mac ++
      (if own then [] else beBytes 1 30 ++ beBytes 1 6 ++ beBytes 6 (ownMac s)) ++ beBytes 2 0, fcs := .good }

/-- Every SUPV_INTERVAL the hub sends its supervision frames. -/
def supervisionSend (s : State) : State :=
  let macs := (ownMac s, true) :: s.ring.proxies.map fun x => (x.1, false)
  macs.foldl (fun a m =>
    let n := a.ring.hsrSeq
    let f := supervision a n m.1 m.2
    let d := ownDesc a f (frameClass a f)
    let a1 := sendOwnFrame a { desc := d, ports := [.e, .w], tagged := true }
    let boxes := [Port.c1, Port.c2].filter fun c => portRole a1 c == 1
    if boxes.isEmpty then a1 else sendOwnFrame a1 { desc := d, ports := boxes, tagged := false }) s

/-! ## The node table (R83, R86, R89 to R97, R483) -/

/-- State codes of an entry (R89) and change reasons. -/
def ntLost : Nat := 2
def ntConflict : Nat := 3

/-- A change of a node table: GEN, one record, one interrupt source (R91). -/
def nodeChange (s : State) (sub : Bool) (node state reason : Nat) : State :=
  let s1 := bump s Pg.nod F.NOD_GEN_GEN
  let r : ChgRec := { node := node, sub := sub, state := state, reason := reason, gen := getF s1 Pg.nod F.NOD_GEN_GEN % 65536 }
  let s2 := if s1.ring.chg.length < 64 then { s1 with ring := { s1.ring with chg := s1.ring.chg ++ [r] } }
    else irqEvent (bumpSat s1 Pg.nod F.NOD_CHG_OVF_COUNT) Pg.nod 6
  irqEvent s2 Pg.nod (if reason = 1 then 2 else if reason = 2 then 3 else 4)

/-- The group generation increments (R97). -/
def groupBump (s : State) : State := bump s Pg.nod F.NOD_GROUP_GEN

/-- A peer's negotiated version changes while its epoch stays: its flows are fenced (R85). `old`: the version before, if there was one. -/
def negChange (s : State) (sub : Bool) (n : Nat) (old : Option Nat) (new : Nat) : State :=
  if old.isNone ∨ old = some new then s else versionFence (irqEvent s Pg.kvl 2) sub n new

/-- The group set as the subring entries below node `n` leave it (R96): those PRESENT, or marked INCOMPATIBLE, in ascending order, each left
out where it would make the set empty. -/
def groupBefore (s : State) (n : Nat) : Nat :=
  (s.ring.st.filter fun e => decide (e.1 < n) && (e.2.state == 1 || e.2.state == 4)).foldl
    (fun a e => if a &&& e.2.verSet = 0 then a else a &&& e.2.verSet) (verEn s)

/-- NOD.GROUP.SET (R96): the group set of a coupler, and the enabled set of another hub. -/
def groupFold (s : State) : Nat := if isCoupler s then groupBefore s 64 else verEn s

/-- The state of an entry whose node announces and the version negotiated with it (R83, R96): 4 without a common version. -/
def judgeEntry (s : State) (sub : Bool) (n set : Nat) : Nat × Nat :=
  if (if sub then groupBefore s n else verEn s) &&& set = 0 then (4, 0) else (1, topVer (verEn s &&& set))

/-- An announcing entry is judged again (R86, R96). -/
def rejudge (sub : Bool) (s : State) (n : Nat) : State :=
  match nodeEnt s sub n with
  | none => s
  | some e =>
    let j := judgeEntry s sub n e.verSet
    if (e.state = 1 ∨ e.state = 4) ∧ j ≠ (e.state, e.negVer) then
      negChange (nodeChange (setNode s sub n { e with state := j.1, negVer := j.2 }) sub n j.1 5) sub n (some e.negVer) j.2
    else s

/-- The marks of the subring entries are formed again, in ascending node number (R96). -/
def groupSet (s : State) : State := if isCoupler s then (s.ring.st.map (·.1)).foldl (rejudge true) s else s

/-- The content of an ANNOUNCE (R88). -/
structure Ann where
  node : Nat
  coupler : Bool
  uplink : Bool
  conflict : Bool
  verSet : Nat
  period : Nat
  epoch : Nat
  groupGen : Nat
  mac : Nat
  deriving DecidableEq, Repr

/-- The ANNOUNCE in a frame's body. -/
def annOf (f : Frame) (k : Kvl) : Ann :=
  let b := kvlBody f.payload k
  { node := beAt b 0 1 % 64, coupler := beAt b 0 1 / 64 % 2 == 1, uplink := beAt b 0 1 / 128 == 1, conflict := beAt b 1 1 % 2 == 1,
    verSet := beAt b 2 1 % 8, period := beAt b 3 1, epoch := beAt b 4 4, groupGen := beAt b 8 2, mac := f.smac }

/-- The entry an ANNOUNCE describes, in a state and with a negotiated version. -/
def annEntry (s : State) (sub : Bool) (a : Ann) (j : Nat × Nat) : NodeEnt :=
  let r := reachOf s sub a.mac
  { state := j.1, coupler := a.coupler, uplink := a.uplink, reachE := r.1, reachW := r.2, verSet := a.verSet, negVer := j.2, period := a.period,
    mac := a.mac, groupGen := a.groupGen, epoch := a.epoch }

/-- A new epoch of a node closes what is open to it, and raises a coupler's group generation (R97, R123, R124). -/
def newEpoch (s : State) (sub : Bool) (n epoch : Nat) : State :=
  let s1 := epochNode s sub n epoch false
  if sub then groupBump s1 else s1

/-- The entry of this hub's own number meets another MAC address (R93, R483). -/
def annOwn (s : State) (a : Ann) : State :=
  let old := nodeEnt s false a.node
  let shown := match old with | some e => if e.state = 3 then some e.mac else none | none => none
  let keep := match shown with | some m => decide (m < a.mac) | none => false
  let s1 := if keep then s
    else
      let s2 := setNode s false a.node (annEntry s false a (3, 0))
      if shown = some a.mac then s2 else nodeChange s2 false a.node 3 7
  if a.mac < ownMac s ∧ getB s1 Pg.nod F.NOD_SELF_STAT_CONFLICT = false then
    irqEvent (setB s1 Pg.nod F.NOD_SELF_STAT_CONFLICT true) Pg.nod 5
  else s1

/-- The group generation of a known node has changed (R97, R123): a subring coupler's raises this hub's own; below version 3 it is a new epoch of
every node behind it. -/
def groupGenNote (s : State) (sub : Bool) (n : Nat) (coupler : Bool) : State :=
  let s1 := match nodeEnt s sub n with
    | some e => if e.negVer < 3 then epochNode s sub n 0 true else s
    | none => s
  if sub && coupler then groupBump s1 else s1

/-- The entry of another node takes an ANNOUNCE (R90). A MAC address above the one that keeps the number changes nothing. -/
def annOther (s : State) (sub : Bool) (a : Ann) : State :=
  let n := a.node
  let j := judgeEntry s sub n a.verSet
  let s0 := setNode s sub n (annEntry s sub a j)
  match nodeEnt s sub n with
  | none => nodeChange s0 sub n j.1 1
  | some e =>
    let back := e.state == 0 || e.state == 2 || e.state == 3
    if !back && decide (e.mac < a.mac) then s
    else
      let reason : Nat :=
        if back then (if j.1 = 4 ∨ e.state ≠ 2 then 1 else if e.mac ≠ a.mac then 4 else if e.epoch ≠ a.epoch then 3 else 1)
        else if e.mac ≠ a.mac then 4 else if e.state = 1 ∧ e.epoch ≠ a.epoch then 3 else 0
      let s1 := if reason = 0 then s0 else nodeChange s0 sub n j.1 reason
      let s2 := if reason = 3 ∨ reason = 4 then newEpoch s1 sub n a.epoch else s1
      let same := !back && reason != 4
      let s3 := if same && e.verSet != a.verSet then nodeChange s2 sub n j.1 5 else s2
      let gg := e.groupGen != a.groupGen
      let s4 := if same && gg && e.state == 1 then nodeChange s3 sub n j.1 6 else s3
      let s5 := if gg then groupGenNote s4 sub n a.coupler else s4
      if reason ≤ 1 ∧ e.state ≠ 3 then negChange s5 sub n (some e.negVer) j.2 else s5

/-- The uplink role on the subring (R94). -/
def uplinkCheck (s : State) (sub : Bool) (a : Ann) : State :=
  if sub && isCoupler s && a.uplink && decide (a.mac < ownMac s) && !getB s Pg.nod F.NOD_SELF_STAT_UPLINK_CONFLICT then
    irqEvent (setB s Pg.nod F.NOD_SELF_STAT_UPLINK_CONFLICT true) Pg.nod 5
  else s

/-- The uplink conflict ends once no PRESENT subring entry of a lower MAC address announces UPLINK. -/
def uplinkEnd (s : State) : State :=
  if s.ring.st.any (fun e => (e.2.state == 1 || e.2.state == 4) && e.2.uplink && decide (e.2.mac < ownMac s)) then s
  else setB s Pg.nod F.NOD_SELF_STAT_UPLINK_CONFLICT false

/-- The oldest frame for this hub that `p` accepts, with its arrival port (M for a frame of this hub's own) and its KVL header: its LOCAL
reference ends SENT. -/
def takeLocal (s : State) (p : Port → Frame → Kvl → Bool) : Option ((Port × Frame × Kvl) × State) :=
  match s.sw.localQ.findSome? fun fid => (tabGet s.sw.frames fid).bind fun d => (frameKvl s d.frame).bind fun k =>
      if p (d.ingress.getD .m) d.frame k then some (fid, d.ingress.getD .m, d.frame, k) else none with
  | none => none
  | some (fid, x) => some (x, endLocal s fid 1)

/-- The oldest waiting ANNOUNCE updates the node table (R90). -/
def announceIn (s : State) : State :=
  match takeLocal s (fun _ _ k => k.type == tyAnnounce) with
  | none => s
  | some ((p, f, k), s1) =>
    let a := annOf f k
    let sub := isSubPort p
    if a.conflict then s1
    else
      let s2 := if !sub && a.node == ownNode s1 then annOwn s1 a else annOther s1 sub a
      pathRecheckAll (groupSet (uplinkEnd (uplinkCheck s2 sub a)))

/-- An ANNOUNCE of this node stands before the node table. -/
def announceWaits (s : State) (sub : Bool) (mac : Nat) : Bool :=
  s.sw.localQ.any fun fid => (tabGet s.sw.frames fid).any fun d =>
    d.frame.smac == mac && d.ingress.any (isSubPort · == sub) && (frameKvl s d.frame).any fun k => k.type == tyAnnounce && !(annOf d.frame k).conflict

/-- A node has been silent for its loss bound; an ANNOUNCE that meets the bound wins (R90). -/
def nodeGone (s : State) (sub : Bool) (n : Nat) : State :=
  match nodeEnt s sub n with
  | none => s
  | some e =>
    if (e.state = 1 ∨ e.state = 3 ∨ e.state = 4) ∧ announceWaits s sub e.mac = false then
      let s1 := setNode { s with ring := { s.ring with arrivals := s.ring.arrivals.filter fun x => !(x.1 == e.mac && isSubPort x.2 == sub) } }
        sub n { e with state := 2, reachE := false, reachW := false }
      let s2 := nodeChange s1 sub n 2 2
      let s3 := if sub then groupBump s2 else s2
      pathRecheckAll (groupSet (uplinkEnd s3))
    else s

/-- One path to a node has been silent for the loss bound while the other holds (R92, R483). -/
def reachGone (s : State) (sub : Bool) (n : Nat) (p : Port) : State :=
  match nodeEnt s sub n with
  | none => s
  | some e =>
    let e1 := if p = .e ∨ p = .c1 then { e with reachE := false } else { e with reachW := false }
    if (e.state = 1 ∨ e.state = 3 ∨ e.state = 4) ∧ isHsrPort s p = true ∧ isSubPort p = sub ∧ (e1.reachE || e1.reachW) = true then
      pathRecheckAll (setNode { s with ring := { s.ring with arrivals := s.ring.arrivals.filter (· != (e.mac, p)) } } sub n e1)
    else s

/-- A read of NOD.CHG_POP (R91). -/
def chgPopNow (s : State) : Word × State :=
  match s.ring.chg with
  | [] => (0#32, s)
  | r :: rs =>
    (BitVec.ofNat 32 (r.node + (if r.sub then 64 else 0) + 128 + 256 * r.state + 2048 * r.reason + 65536 * r.gen),
     { s with ring := { s.ring with chg := rs } })

/-- The words of a node-table entry as NOD.NT and NOD.ST give them. -/
def nodeWord (e : NodeEnt) (w : Nat) : Word :=
  BitVec.ofNat 32 (if w = 0 then
      e.state + (if e.coupler then 8 else 0) + (if e.uplink then 16 else 0) + (if e.reachE then 32 else 0) + (if e.reachW then 64 else 0) +
      256 * e.verSet + 4096 * e.negVer + 65536 * e.period
    else if w = 1 then e.mac % 2 ^ 32
    else if w = 2 then e.mac / 2 ^ 32 % 65536 + 65536 * e.groupGen
    else e.epoch)

/-- What this hub negotiates by has changed: every peer is negotiated again (R86). -/
def verChange (s : State) : State := groupSet ((s.ring.nt.map (·.1)).foldl (rejudge false) s)

/-- NOD.SELF.NODE changes: the entries of the old and of the new number are judged again (R93, R483). -/
def nodeNumber (s : State) (old new : Nat) : State :=
  if old = new then s
  else
    let s1 := setB s Pg.nod F.NOD_SELF_STAT_CONFLICT false
    let s2 := match nodeEnt s1 false old with
      | some e =>
        if e.state = 3 then
          let j := judgeEntry s1 false old e.verSet
          nodeChange (setNode s1 false old { e with state := j.1, negVer := j.2 }) false old j.1 1
        else s1
      | none => s1
    match nodeEnt s2 false new with
    | some e => if e.state = 1 ∨ e.state = 4 then nodeChange (setNode s2 false new { e with state := 3, negVer := 0 }) false new 3 7 else s2
    | none => s2

/-- The body of an ANNOUNCE (R88). -/
def annBody (node : Nat) (coupler uplink conflict : Bool) (verSet period epoch gen : Nat) : List Byte :=
  beBytes 1 (node + (if coupler then 64 else 0) + (if uplink then 128 else 0)) ++ beBytes 1 (if conflict then 1 else 0) ++ beBytes 1 verSet ++
  beBytes 1 period ++ beBytes 4 epoch ++ beBytes 2 gen ++ beBytes 6 0

/-- A frame that this hub forms leaves as an HSR pair on a ring, once its cells are there (R142). -/
def sendOwn (s : State) (f : Frame) (cls : Nat) (sub : Bool) : State :=
  sendOwnFrame s { desc := ownDesc s f cls, ports := if sub then [.c1, .c2] else [.e, .w], tagged := true }

/-- Every PERIOD the hub sends its ANNOUNCE, and a coupler one on its subring (R88, R94, R96). A written version set counts from here on (R86).
Discovery frames go in class 7 (DESIGN CHOICE, log entry 16). -/
def announceOut (s0 : State) : State :=
  let s := if s0.ring.verOld.isSome then verChange { s0 with ring := { s0.ring with verOld := none } } else s0
  let per := getF s Pg.kvl F.KVL_SUPV_PERIOD
  let act := isCoupler s
  let conflict := getB s Pg.nod F.NOD_SELF_STAT_CONFLICT
  let hdr := { plainHdr s tyAnnounce 7 with dup := true }
  let b := annBody (ownNode s) act false conflict (groupFold s) per (ownEpoch s) (if act then getF s Pg.nod F.NOD_GROUP_GEN else 0)
  let s1 := sendOwn s (kvlFrame s macAnnounce (ownMac s) hdr b) 7 false
  if act then
    let b2 := annBody (ownSub s) false (!getB s Pg.nod F.NOD_SELF_STAT_UPLINK_CONFLICT) conflict (verEn s) per (ownEpoch s) 0
    sendOwn s1 (kvlFrame s1 macAnnounce (ownMac s) { hdr with src := mkRoute 0 [ownSub s] } b2) 7 true
  else s1

/-! ## The coupler (R42 to R44, R95, R98) -/

/-- One way a coupler sends a frame on: the outgoing ring, its new DST, and whether a re-basing rewrite was made. -/
structure Onward where
  sub : Bool
  dst : DWord
  rewrite : Bool
  deriving DecidableEq, Repr

/-- A valid re-basing entry (R99). -/
def rbEntry (s : State) (k : Nat) : Option (Word × Word) :=
  if isCoupler s then (tabGet s.ring.rb k).filter fun e => e.2.getLsbD 0 else none

/-- The re-basing window that a record of a REQ addresses (R42). -/
def rbWindow (s : State) (r : ReqRec) : Option Nat :=
  match regionOf r.off with
  | .rebase k => if (rbEntry s k).isSome then some k else none
  | _ => none

/-- How a coupler sends a frame on (R95); none: it is for the coupler itself, or for nobody. -/
def onward (s : State) (sub : Bool) (dst : DWord) (win : Option Nat) : Option Onward :=
  if !isCoupler s then none
  else if !sub && routeUp dst == 0 && routeL1 dst == ownNode s && routeL2 dst != 0 then
    some { sub := true, dst := mkRoute 0 ((routeLevels dst).drop 1), rewrite := false }
  else
    match win.bind (rbEntry s) with
    | some e => some { sub := !e.2.getLsbD 1, dst := mkRoute 0 (pathLevels (e.1.toNat % 2 ^ 24)), rewrite := true }
    | none =>
      if sub && routeUp dst != 0 then some { sub := false, dst := mkRoute (routeUp dst - 1) (routeLevels dst), rewrite := false }
      else if sub && routeUp dst == 0 && routeL1 dst == ownSub s && routeL2 dst != 0 then
        some { sub := true, dst := mkRoute 0 ((routeLevels dst).drop 1), rewrite := false }
      else none

/-- The new SRC of a frame that crosses (R95); none where a level would be pushed out (R98). -/
def crossSrc (s : State) (fromSub toSub : Bool) (src : DWord) : Option DWord :=
  if fromSub = toSub then some src
  else if toSub then
    (if routeUp src = 0 ∧ routeL1 src = ownNode s then some (mkRoute 0 ((routeLevels src).drop 1))
     else some (mkRoute (routeUp src + 1) (routeLevels src)))
  else if routeUp src ≠ 0 then some (mkRoute (routeUp src - 1) (routeLevels src))
  else if (routeLevels src).getD 7 0 ≠ 0 then none
  else some (mkRoute 0 (ownNode s :: (routeLevels src).take 7))

/-- The MAC address a frame goes to on its outgoing ring (R41, R94, R95), or why there is none. -/
def onwardMac (s : State) (w : Onward) : Nat ⊕ Nat :=
  if routeUp w.dst ≠ 0 then
    match uplinkEnt s w.sub with
    | some e => .inr e.mac
    | none => .inl 0x43
  else if routeL1 w.dst = 63 then .inr macBroadcast
  else
    match nodeEnt s w.sub (routeL1 w.dst) with
    | some e => if e.state = 1 then .inr e.mac else if e.state = 4 then .inl 0x49 else .inl 0x43
    | none => .inl 0x43

/-- The coupler completes every record of a REQ back to its source and reports it; a CPL it discards. -/
def couplerFail (s : State) (p : Port) (f : Frame) (k : Kvl) (rs : List ReqRec) (status cause page : Nat) : State :=
  if k.type = tyReq then
    let s1 := rs.foldl (fun a _ => noteErr a page status cause 0) s
    sendCpl s1 k f.smac (some p) k.baseSeq (seqAdd k.baseSeq rs.length) (rs.map fun r => ansRec status cause r.tag) none false
  else s

/-- A run of a frame is sent on (R95). `rs` are its records if it is a REQ. -/
def forwardRun (s : State) (p : Port) (f : Frame) (k : Kvl) (floor : Nat) (rs : List ReqRec) (w : Onward) (win : Option Nat) : State :=
  let n := max rs.length 1
  if getB s Pg.nod F.NOD_SELF_STAT_UPLINK_CONFLICT && w.sub != isSubPort p then s
  else if w.rewrite ∧ k.rewrites = 63 then
    couplerFail (bump s Pg.kvl F.KVL_REWRITE_LIMIT n) p f k rs St.addrErr 0 Pg.kvl
  else
    match crossSrc s (isSubPort p) w.sub k.src with
    | none =>
      let s1 := bump s Pg.kvl F.KVL_PREPEND_LIMIT
      couplerFail s1 p f k rs St.addrErr 0 Pg.kvl
    | some src =>
      match onwardMac s w with
      | .inl cause => couplerFail s p f k rs St.unreachable cause Pg.seq
      | .inr mac =>
        let rebase (o : Nat) : Nat := match win.bind (rbEntry s) with
          | some e => o % 2 ^ 35 + (if e.2.getLsbD 2 then 0x8000000000 + wordBits e.2 3 4 * 0x800000000 else 0)
          | none => o
        let body := if k.type = tyReq then reqBody floor (rs.map fun r => { r with off := rebase r.off }) else kvlBody f.payload k
        let k1 := { k with dst := w.dst, src := src, rewrites := if w.rewrite then k.rewrites + 1 else k.rewrites }
        sendOwn s (kvlFrame s mac (ownMac s) k1 body) k.cls w.sub

/-- Records of a REQ group into runs that go the same way. -/
def windowRuns (s : State) : List ReqRec → List (Option Nat × List ReqRec)
  | [] => []
  | r :: rs =>
    match windowRuns s rs with
    | (w, g) :: rest => if rbWindow s r = w then (w, r :: g) :: rest else (rbWindow s r, [r]) :: (w, g) :: rest
    | [] => [(rbWindow s r, [r])]

/-- A local REQ or CPL that a coupler sends on, in whole or in part. -/
def forForward (s : State) (p : Port) (f : Frame) (k : Kvl) : Bool :=
  if p = .m then false
  else if k.type = tyCpl then (onward s (isSubPort p) k.dst none).isSome
  else if k.type = tyReq then
    (onward s (isSubPort p) k.dst none).isSome ||
    (match reqBodyParse k.count (kvlBody f.payload k) with | some (_, rs) => rs.any fun r => (rbWindow s r).isSome | none => false)
  else false

/-- The oldest waiting frame that the coupler sends on (R95). Records of a re-based burst that address no window stay for the
coupler's own target, as a frame of their own. -/
def couplerStep (s : State) : State :=
  match takeLocal s (forForward s) with
  | none => s
  | some ((p, f, k), s1) =>
    if k.type = tyCpl then
      match onward s1 (isSubPort p) k.dst none with
      | some w => forwardRun s1 p f k 0 [] w none
      | none => s1
    else
      match reqBodyParse k.count (kvlBody f.payload k) with
      | none => s1
      | some (floor, rs) =>
        match onward s1 (isSubPort p) k.dst none with
        | some w => forwardRun s1 p f k floor rs w none
        | none =>
          ((windowRuns s1 rs).foldl (fun (acc : Nat × State) g =>
            let k1 := { k with baseSeq := acc.1, count := g.2.length }
            let a := acc.2
            let a1 := match onward a (isSubPort p) k.dst g.1 with
              | some w => forwardRun a p f k1 floor g.2 w g.1
              | none =>
                let f1 := { f with payload := kvlBytes { k1 with bodyLen := (reqBody floor g.2).length } ++ reqBody floor g.2 }
                sendOwnFrame a { desc := { ownDesc a f1 k.cls with ingress := some p, loc := some 0 }, ports := [], tagged := false }
            (seqAdd acc.1 g.2.length, a1)) (k.baseSeq, s1)).2

/-- What refuses a re-basing entry (R99). -/
def rbBad (path ctl : Word) : Bool :=
  let ls := pathLevels (path.toNat % 2 ^ 24)
  ctl.getLsbD 0 && (!levelsDense ls || ls.getD 0 0 == 0 || ls.any (· == 63))

end Sys2Proof.Machine
end

