-- ==== Sys2Proof/Machine/Pair.lean ====
section
/-! DEFINITION. The redundant pair (spec/15): roles, the lease at the member and at the witness, health, permits, and what a MIRROR
frame carries. Applying mirror records and taking over stand in Mirror. -/

namespace Sys2Proof.Machine

def setPair (s : State) (p : PairSt) : State := { s with pair := p }

/-- L in nanoseconds of watch time (R360). -/
def leaseNs (s : State) : Nat := 1000000 * getF s Pg.par F.PAR_LEASE_MS

/-- The length of a holder's right: 0.88 × L (R360). -/
def rightNs (s : State) : Nat := leaseNs s * 88 / 100

/-- A right, a lease or a promise that ends at this watch count runs. -/
def runsUntil (s : State) (t : Nat) : Bool := decide (s.watchNs < t)

/-- The holder's remaining right in nanoseconds (R361). -/
def remainNs (s : State) : Nat := max s.pair.rightW s.pair.rightC - s.watchNs

/-! ## Health (R382) -/

def watchOk (s : State) : Bool := !getB s Pg.gen F.GEN_WATCH_STAT_RING_OOT && !getB s Pg.gen F.GEN_WATCH_STAT_FIELD_OOT

/-- CUL is UP, or STALLED or TRAINING for less than 10 ms. -/
def culvertOk (s : State) : Bool :=
  culUp s || ((getF s Pg.cul F.CUL_STAT_STATE == 1 || getF s Pg.cul F.CUL_STAT_STATE == 3) && decide (s.watchNs < s.cul.downAt + 10000000))

def journalOk (s : State) : Bool := getF s Pg.jrn F.JRN_STAT_STATE == 2 || getF s Pg.jrn F.JRN_STAT_STATE == 3

/-- The node number of the witness on the ring. -/
def witnessHop (s : State) : Nat := (pathLevels (getF s Pg.par F.PAR_WITNESS_PATH)).getD 0 0

def ringOk (s : State) : Bool :=
  (portUp s .e || portUp s .w) && (match nodeEnt s false (witnessHop s) with | some e => e.state == 1 | none => false)

/-- PAR.HEALTH.OWN. -/
def ownHealth (s : State) : Nat :=
  let b (v : Bool) (k : Nat) : Nat := if v then 2 ^ k else 0
  b (watchOk s) 0 + b (culvertOk s) 1 + b (journalOk s) 2 + b (ringOk s) 3 + b (mirState s == 3) 4 + b (!s.pair.proveBad) 5 +
  b (!pwrPfw s && !railsBad s) 6 + b (!tempBad s) 7

/-- PAR.STAT.HEALTHY: all bits for a standby, bits 0 to 3, 6 and 7 for a holder. -/
def ownHealthy (s : State) : Bool := if pairRole s = 2 then ownHealth s &&& 0xCF == 0xCF else ownHealth s == 0xFF

/-! ## Permits (R258, R362) -/

/-- The length of the next PERMIT in nanoseconds of watch time. -/
def permitLen (s : State) : Nat :=
  if pairRole s = 0 then 1000000 * getF s Pg.cul F.CUL_PERMIT_MS
  else if pairRole s = 2 then remainNs s * 875 / 1000 - 50000
  else 0

/-- The ring die sends a PERMIT. While the culvert is not UP none can be sent: training sends one of its own (R256). -/
def sendPermit (s : State) : State := if culUp s then ringItem s (.permit (permitLen s)) else s

/-- An item as it is sent: a PERMIT that waited for a credit takes its length now (R258). -/
def itemNow (s : State) : Item → Item
  | .permit _ => .permit (permitLen s)
  | i => i

/-! ## Roles (R359) -/

/-- The holder of the pair node changes: 1 this unit, 2 the partner. -/
def holderSet (s : State) (h : Nat) : State :=
  if s.pair.holder = h then s else bump (setPair s { s.pair with holder := h }) Pg.par F.PAR_ROLE_GEN_GEN

/-- A member that is not ACTIVE holds its benches STOPPED (R299); a transmission on the line ends with its character. -/
def fieldHold (s : State) : State := (List.range 16).foldl (fun a n => benStop a n 1) s

/-- ROLE changes: the ROLE_CHANGE source is set, and a role other than ACTIVE ends the permit at once (R362). -/
def setRole (s : State) (r : Nat) : State :=
  if pairRole s = r then s
  else
    let s1 := irqEvent (setF s Pg.par F.PAR_STAT_ROLE r) Pg.par 2
    if r = 2 ∨ r = 0 then s1 else sendPermit (fieldHold s1)

/-- MIR.STAT.STATE changes; PARTNER is set when the link is lost or recovered (R368, R371). -/
def setMir (s : State) (st : Nat) : State :=
  let old := mirState s
  if old = st then s
  else
    let s1 := irqEvent (setF s Pg.mir F.MIR_STAT_STATE st) Pg.mir 2
    if st = 4 ∨ old = 4 then irqEvent s1 Pg.par 3 else s1

/-! ## LEASE frames (R365) -/

/-- The 32-byte body of a LEASE frame. -/
structure Lease where
  kind : Nat
  flags : Nat                 -- SYNCED 1, WARM 2, ALONE 4, SUCCESSOR 8
  leaseMs : Nat
  epoch : Nat
  pairMac : Nat
  pairNode : Nat
  reason : Nat
  reqId : Nat
  remainUs : Nat
  successor : Nat
  deriving DecidableEq, Repr

def leaseBytes (l : Lease) : List Byte :=
  beBytes 1 l.kind ++ beBytes 1 l.flags ++ beBytes 2 l.leaseMs ++ beBytes 4 l.epoch ++ beBytes 6 l.pairMac ++ beBytes 1 l.pairNode ++
  beBytes 1 l.reason ++ beBytes 4 l.reqId ++ beBytes 4 l.remainUs ++ beBytes 6 l.successor ++ beBytes 2 0

def leaseParse (b : List Byte) : Lease :=
  { kind := beAt b 0 1, flags := beAt b 1 1, leaseMs := beAt b 2 2, epoch := beAt b 4 4, pairMac := beAt b 8 6, pairNode := beAt b 14 1,
    reason := beAt b 15 1, reqId := beAt b 16 4, remainUs := beAt b 20 4, successor := beAt b 24 6 }

/-- The LEASE frame with this content to a unit node, which leaves as an HSR pair. -/
def leaseFrame (s : State) (dmac : Nat) (dst : DWord) (l : Lease) : Frame :=
  kvlFrame s dmac (ownMac s) { plainHdr s tyLease 7 with dup := true, dst := dst } (leaseBytes l)

/-- A LEASE frame leaves in class 7. -/
def leaseSend (s : State) (dmac : Nat) (dst : DWord) (l : Lease) : State := sendOwn s (leaseFrame s dmac dst l) 7 false

/-- The member has been IN_SYNC, or was when the mirror link was lost (R358). -/
def syncedFlag (s : State) : Bool := mirState s == 3 || (mirState s == 4 && s.pair.wasSync)

/-- What a member's next frame to its witness says (R365). -/
def memberLease (s : State) (kind flags successor : Nat) : Lease :=
  { kind := kind, flags := flags, leaseMs := getF s Pg.par F.PAR_LEASE_MS, epoch := pairEpoch s, pairMac := pairMac s
    pairNode := pairNode s, reason := 0, reqId := (s.pair.reqId + 1) % 2 ^ 32, remainUs := 0, successor := successor }

/-- The way to the witness. -/
def witnessRoute (s : State) : DWord := mkRoute 0 (pathLevels (getF s Pg.par F.PAR_WITNESS_PATH))

/-- A frame from this member to its witness: nothing leaves while the witness is not in the node table. -/
def toWitness (s : State) (kind flags successor : Nat) : State :=
  let l := memberLease s kind flags successor
  let s1 := setPair s { s.pair with reqId := l.reqId, reqAt := s.watchNs, reqAlone := kind == 3 && flags.testBit 2 }
  match nodeEnt s false (witnessHop s) with
  | some e => leaseSend s1 e.mac (witnessRoute s) l
  | none => s1

/-- SYNCED and WARM as a REQUEST and a RENEW give them (R358). -/
def memberFlags (s : State) : Nat := (if syncedFlag s then 1 else 0) + (if s.pair.cold then 0 else 2)

/-- RENEW (R363, R371). -/
def renewSend (s : State) : State := toWitness s 3 (memberFlags s + (if mirrorOn s then 0 else 4)) 0

/-- The coupling port with ROLE 3 that is UP with HELLO OK (R78). -/
def mirrorPort (s : State) : Option Port :=
  [Port.c1, Port.c2].find? fun p => portRole s p == 3 && portUp s p && getF s (portPage p) F.PORT_STAT_HELLO == 1

/-- This member sees a partner ACTIVE and healthy on an UP mirror link (R364). -/
def partnerServes (s : State) : Bool := (mirrorPort s).isSome && s.pair.partnerRole == 2 && getB s Pg.par F.PAR_STAT_PARTNER_HEALTHY

/-- REQUEST, while its conditions hold (R364). The first request of a member with PREFERRED 0 waits out DEFER, which has passed when
this command comes, and a partner that is STARTING. -/
def leaseRequest (s : State) : State :=
  let r := pairRole s
  if (r == 1 || r == 3 || r == 4) && watchOk s && culvertOk s && journalOk s && s.pair.promise.isNone && !partnerServes s &&
     !(r == 1 && !getB s Pg.par F.PAR_CTL_PREFERRED && (s.pair.partnerRole == 1 || s.pair.partnerRole == 2)) then
    toWitness s 1 (memberFlags s) 0
  else s

/-- Both rights of the holder have ended: it becomes LAPSED (R363). -/
def leaseLapse (s : State) : State :=
  if pairRole s = 2 ∨ pairRole s = 5 then
    irqEvent (bump (setRole (setPair s { s.pair with rightW := 0, rightC := 0 }) 4) Pg.par F.PAR_LAPSES) Pg.par 4
  else s

/-- A standby's promise ends (R360). -/
def promiseEnd (s : State) : State := setPair s { s.pair with promise := none }

/-! ## Answers of the witness at the member (R360, R365) -/

/-- The oldest waiting LEASE frame of these kinds. -/
def takeLease (s : State) (kinds : List Nat) : Option ((Port × Frame × Kvl × Lease) × State) :=
  (takeLocal s fun _ f k => k.type == tyLease && kinds.contains (leaseParse (kvlBody f.payload k)).kind).map fun r =>
    ((r.1.1, r.1.2.1, r.1.2.2, leaseParse (kvlBody r.1.2.1.payload r.1.2.2)), r.2)

/-- An answer to the latest request of this member. -/
def leaseMatches (s : State) (l : Lease) : Bool := pairRole s != 0 && l.pairMac == pairMac s && l.reqId == s.pair.reqId

/-- The GRANT that a RELEASE with SUCCESSOR gives this member (DESIGN CHOICE, log entry 17: it repeats SUCCESSOR and its MAC). -/
def leaseHanded (s : State) (l : Lease) : Bool :=
  pairRole s == 3 && l.pairMac == pairMac s && l.flags.testBit 3 && l.successor == ownMac s

def staleAnswer (s : State) : State := bump s Pg.par F.PAR_STALE_ANSWERS

/-- The holder's new acceptances and executions go on under the unpaired rules (R371). -/
def aloneStart (s : State) : State := setB (setPair s { s.pair with aloneWait := false }) Pg.par F.PAR_STAT_ALONE true

/-- RENEWED (R360, R371). -/
def renewedIn (s : State) : State :=
  match takeLease s [4] with
  | none => s
  | some ((_, _, _, l), s1) =>
    if !leaseMatches s1 l then staleAnswer s1
    else if pairRole s1 = 2 ∨ pairRole s1 = 5 then
      let s2 := setPair s1 { s1.pair with rightW := s1.pair.reqAt + rightNs s1 }
      if s2.pair.reqAlone && s2.pair.aloneWait then aloneStart s2 else s2
    else s1

/-- DENY (R365): nothing follows but the next request. -/
def denyIn (s : State) : State :=
  match takeLease s [5] with
  | none => s
  | some ((_, _, _, l), s1) => if leaseMatches s1 l then s1 else staleAnswer s1

/-! ## The witness (R358, R366, R367) -/

def witOf (s : State) (i : Nat) : Option WitSlot := tabGet s.pair.slots i
def setWit (s : State) (i : Nat) (w : WitSlot) : State := setPair s { s.pair with slots := tabSet s.pair.slots i w }

/-- The slot of a pair, or the lowest free one. -/
def witFind (s : State) (mac : Nat) : Option (Nat × Option WitSlot) :=
  match s.pair.slots.find? (·.2.pairMac == mac) with
  | some e => some (e.1, some e.2)
  | none => ((List.range 16).find? fun i => (witOf s i).isNone).map fun i => (i, none)

/-- DENY (R366). -/
def witDeny (s : State) (dmac : Nat) (dst : DWord) (l : Lease) (reason remain : Nat) : State :=
  bump (leaseSend s dmac dst { l with kind := 5, flags := 0, reason := reason, remainUs := remain, successor := 0 }) Pg.par F.PAR_WIT_DENIES

/-- A grant to a requester: the epoch by R358, the requester as holder, SYNC 0, the lease from the receipt of its request. -/
def witGrant (s : State) (i : Nat) (w : WitSlot) (q : WitReq) : State :=
  let keep := if q.mac = w.holder then q.warm else w.sync && q.synced
  let epoch := if keep then w.epoch else (w.epoch + 1) % 2 ^ 32
  let s1 := if q.mac = w.holder then s else irqEvent s Pg.par 7
  let w1 : WitSlot := { w with
    holder := q.mac, epoch := epoch, sync := false, held := true, ends := q.since + 1000000 * q.leaseMs, pend := none }
  bump (leaseSend (setWit s1 i w1) q.mac q.route {
    kind := 2, flags := 0, leaseMs := q.leaseMs, epoch := epoch, pairMac := w.pairMac, pairNode := w.pairNode, reason := 0, reqId := q.reqId
    remainUs := 0, successor := 0 }) Pg.par F.PAR_WIT_GRANTS

/-- What a REQUEST, or a RENEW that counts as one, asks for. -/
def witReq (s : State) (f : Frame) (k : Kvl) (l : Lease) : WitReq :=
  { mac := f.smac, route := k.src, synced := l.flags.testBit 0, warm := l.flags.testBit 1, reqId := l.reqId, leaseMs := l.leaseMs, since := s.watchNs }

/-- A REQUEST is judged (R366). -/
def witRequest (s : State) (f : Frame) (k : Kvl) (l : Lease) : State :=
  if s.pair.startHold then witDeny s f.smac k.src l 4 0
  else if !watchOk s then witDeny s f.smac k.src l 5 0
  else
    match witFind s l.pairMac with
    | none => witDeny s f.smac k.src l 3 0
    | some (i, none) =>
      let w : WitSlot := {
        pairMac := l.pairMac, pairNode := l.pairNode, holder := 0, epoch := 0, sync := false, held := false, ends := 0, pend := none }
      witGrant s i w (witReq s f k l)
    | some (i, some w) =>
      if w.held && w.holder != f.smac then
        witDeny (setWit s i { w with pend := some (witReq s f k l) }) f.smac k.src l 1 ((w.ends - s.watchNs) / 1000)
      else witGrant s i w (witReq s f k l)

/-- A RENEW is judged (R366, R367). -/
def witRenew (s : State) (f : Frame) (k : Kvl) (l : Lease) : State :=
  match witFind s l.pairMac with
  | some (i, some w) =>
    if w.holder ≠ f.smac then witDeny s f.smac k.src l 1 ((w.ends - s.watchNs) / 1000)
    else if w.held then
      let sync := l.flags.testBit 0 && !l.flags.testBit 2
      let w1 : WitSlot := { w with sync := sync, ends := s.watchNs + 1000000 * l.leaseMs }
      leaseSend (setWit s i w1) f.smac k.src { l with kind := 4, flags := 0, epoch := w.epoch }
    else witRequest s f k l
  | _ => witRequest s f k l

/-- The lease of a slot ends: a pending requester is granted (R366). -/
def witEnd (s : State) (i : Nat) (w : WitSlot) : State :=
  let w1 := { w with held := false, ends := s.watchNs }
  match w1.pend with
  | some q => witGrant s i w1 q
  | none => setWit s i w1

/-- A RELEASE from the holder (R366). -/
def witRelease (s : State) (f : Frame) (l : Lease) : State :=
  match witFind s l.pairMac with
  | some (i, some w) =>
    if w.holder ≠ f.smac ∨ w.held = false then s
    else if l.flags.testBit 3 then
      let w1 : WitSlot := { w with holder := l.successor, held := true, ends := s.watchNs + 1000000 * l.leaseMs, pend := none }
      let dst := match s.ring.nt.find? (fun e => e.2.mac == l.successor) with | some e => mkRoute 0 [e.1] | none => mkRoute 0 []
      bump (leaseSend (irqEvent (setWit s i w1) Pg.par 7) l.successor dst { l with kind := 2, flags := 8, epoch := w.epoch })
        Pg.par F.PAR_WIT_GRANTS
    else witEnd s i w
  | _ => s

/-- A waiting RENEW or RELEASE of a pair is handled ahead of what it meets (R367). -/
def witFirst (s : State) (kind mac : Nat) : State :=
  match takeLocal s (fun _ f k => k.type == tyLease && (leaseParse (kvlBody f.payload k)).kind == kind &&
      (leaseParse (kvlBody f.payload k)).pairMac == mac) with
  | some ((_, f, k), s1) =>
    let l := leaseParse (kvlBody f.payload k)
    if kind = 3 then witRenew s1 f k l else witRelease s1 f l
  | none => s

/-- The oldest waiting LEASE frame of a kind that a witness serves (1 REQUEST, 3 RENEW, 6 RELEASE). -/
def witnessIn (s : State) (kind : Nat) : State :=
  match takeLease s [kind] with
  | none => s
  | some ((_, f, k, l), s1) =>
    if !getB s1 Pg.par F.PAR_CTL_WITNESS_EN then witDeny s1 f.smac k.src l 2 0
    else if kind = 1 then witRequest (witFirst s1 3 l.pairMac) f k l
    else if kind = 3 then witRenew s1 f k l
    else witRelease s1 f l

/-- A slot's lease expires; a RELEASE that meets it wins (R366, R367). -/
def witExpire (s : State) (i : Nat) : State :=
  match witOf s i with
  | none => s
  | some w =>
    if !w.held then s
    else
      let s1 := witFirst s 6 w.pairMac
      if s1.sw.localQ.length < s.sw.localQ.length then s1 else witEnd s i w

/-- A slot without holder or request for 3600 s is freed. -/
def witFree (s : State) (i : Nat) : State :=
  match witOf s i with
  | some w => if w.held || w.pend.isSome then s else setPair s { s.pair with slots := tabDel s.pair.slots i }
  | none => s

/-! ## MIRROR frames (R368, R381) -/

/-- The CRC-32C of the configuration that both members must share. -/
def pairCrc (s : State) : Nat :=
  crc32c (beBytes 1 (pairNode s) ++ beBytes 6 (pairMac s) ++ beBytes 3 (getF s Pg.par F.PAR_WITNESS_PATH) ++ beBytes 2 (getF s Pg.par F.PAR_LEASE_MS))

/-- A mirror record as a MIRROR frame carries it. -/
def mirRecBytes (r : MirRec) : List Byte :=
  beBytes 4 r.msn ++ beBytes 1 r.kind ++ beBytes 1 (if r.wait then 1 else 0) ++ beBytes 2 r.body.length ++ beBytes 4 r.key ++ beBytes 4 r.seq ++
  pad4 r.body

/-- The records of a MIRROR frame, `n` at most; none unless they end exactly with the body and every reserved bit and padding byte is 0 (R36, R82). -/
def mirRecsParse : Nat → List Byte → Option (List MirRec)
  | 0, bs => if bs.isEmpty then some [] else none
  | n + 1, bs =>
    if bs.isEmpty then some []
    else
      let len := beAt bs 6 2
      if bs.length < 16 + up4 len ∨ 2 ≤ beAt bs 5 1 ∨ ((bs.drop (16 + len)).take (up4 len - len)).any (· != 0#8) = true then none
      else (mirRecsParse n (bs.drop (16 + up4 len))).map ({
        msn := beAt bs 0 4, kind := beAt bs 4 1, wait := beAt bs 5 1 == 1, key := beAt bs 8 4, seq := beAt bs 12 4
        body := (bs.drop 16).take len } :: ·)

/-- The records that fit in one frame, oldest first. -/
def mirFit : Nat → List MirRec → List MirRec
  | _, [] => []
  | room, r :: rs =>
    let n := (mirRecBytes r).length
    if n ≤ room then r :: mirFit (room - n) rs else []

/-- The number of the consent request that a MIRROR frame carries or answers with. -/
def consentNext (s : State) (ask : Bool) : Nat := if ask then (s.pair.consentId + 1) % 2 ^ 32 else s.pair.consentId

/-- The next MIRROR frame on this port: its prologue, and the oldest records that fit (R368). -/
def mirrorFrame (s : State) (p : Port) (ask : Bool) : Frame :=
  let flags := (if ask then 1 else 0) + (if s.pair.consentOwe.isSome then 2 else 0) + (if s.pair.handReq then 4 else 0) + (if s.pair.pfw then 8 else 0)
  let cid := match s.pair.consentOwe with | some c => c | none => consentNext s ask
  kvlFrame s s.pair.partnerMac (ownMac s)
    { plainHdr s tyMirror 4 with ver := max (getF s (portPage p) F.PORT_STAT_LINK_VER) 1, dst := mkRoute 0 [s.pair.partnerNode] }
    (beBytes 4 (getF s Pg.mir F.MIR_MSN_ACKED_MSN) ++ beBytes 1 (pairRole s) ++ beBytes 1 (ownHealth s) ++ beBytes 1 flags ++ beBytes 1 0 ++
      beBytes 4 cid ++ beBytes 2 s.pair.hsr ++ beBytes 2 0 ++ beBytes 4 (pairCrc s) ++ ((mirFit 9000 s.pair.mirOut).map mirRecBytes).flatten)

/-- A MIRROR frame leaves on the mirror link, with a consent request where asked (R361, R368). -/
def mirrorSend (s : State) (ask : Bool) : State :=
  match (if pairRole s = 0 then none else mirrorPort s) with
  | none => s
  | some p =>
    let s1 := setPair s { s.pair with
      consentId := consentNext s ask, consentAt := if ask then s.watchNs else s.pair.consentAt, consentOwe := none, handReq := false
      mirOut := s.pair.mirOut.drop (mirFit 9000 s.pair.mirOut).length }
    sendOwnFrame s1 { desc := ownDesc s1 (mirrorFrame s p ask) 4, ports := [p], tagged := true }

/-- Every L/3 the holder sends RENEW and, while the mirror runs, the consent request at the same instant (R361, R363). -/
def leaseRenew (s : State) : State :=
  if pairRole s = 2 ∨ pairRole s = 5 then
    let s1 := renewSend s
    if mirrorOn s1 then mirrorSend s1 true else s1
  else s

/-- The state leaves IN_SYNC or COPYING at the holder: RENEW with ALONE is sent, and acceptances and executions wait (R371). -/
def mirrorGone (s : State) (st : Nat) : State :=
  let was := mirrorOn s
  let s1 := setMir (setPair s { s.pair with wasSync := mirState s == 3 || (s.pair.wasSync && mirState s == 4), partnerRole := 7 }) st
  if was && pairRole s1 == 2 then renewSend (setPair s1 { s1.pair with aloneWait := true }) else s1

/-- No MIRROR frame for 5 ms (R368). -/
def mirrorTimeout (s : State) : State :=
  if pairRole s ≠ 0 ∧ 1 ≤ mirState s ∧ mirState s ≤ 3 then
    bump (mirrorGone (setPair s { s.pair with lastRx := s.watchNs }) 4) Pg.mir F.MIR_HB_MISSED 5
  else s

/-- A standby that prefers to hold has been in sync and healthy for HOLDOFF (R380). -/
def revertAsk (s : State) : State :=
  if pairRole s == 3 && getB s Pg.par F.PAR_CTL_REVERT && getB s Pg.par F.PAR_CTL_PREFERRED && mirState s == 3 && ownHealthy s then
    mirrorSend (setPair s { s.pair with handReq := true }) false
  else s

/-! ## Handover (R379, R381) -/

/-- The endpoints: 0 to 31 serial ports, 32 to 47 benches. -/
def endpoints : List Nat := List.range 48

/-- The state of an endpoint as a FIELD record carries it (R369, KIND 7; the layout is the model's, log entry 18). -/
def fieldState (s : State) (ep : Nat) : List Byte :=
  let f := fifoOf s ep
  beBytes 1 2 ++ beBytes 1 f.opened.length ++ f.opened ++ beBytes 1 ((if f.openGap then 1 else 0) + (if f.gapNext then 2 else 0) +
    (if f.fc then 4 else 0)) ++
  (if ep < 32 then []
   else
    let b := (benOf s (ep - 32)).afterFifo
    beBytes 1 (b.getD 0 0) ++ beBytes 4 (b.getD 1 0) ++ beBytes 1 (b.getD 2 0) ++ beBytes 1 (b.getD 3 0) ++ beBytes 4 (b.getD 4 0) ++
    beBytes 1 (if b.isEmpty then 0 else 1))

/-- FIELD records of every endpoint whose state has changed since the last ones. -/
def fieldNotes (s : State) : State :=
  if mirroring s then
    endpoints.foldl (fun a ep =>
      let b := fieldState a ep
      if (tabGet a.pair.mSent ep).getD (fieldState a 99) = b then a
      else mirrorNote (setPair a { a.pair with mSent := tabSet a.pair.mSent ep b }) 7 ep 0 b) s
  else s

/-- Token counts of every headgate and sluice, as TOKENS records whose KEY is their first entry (R369, KIND 9). -/
def tokenBytes (s : State) (j : Nat) : List Byte :=
  if j < 1024 then beBytes 4 (getF s (Pg.hdg j) F.HDG_TOKENS_TOKENS (j % 64))
  else beBytes 4 (getF s (Pg.slu ((j - 1024) / 64)) F.SLU_TOKENS_TOKENS ((j - 1024) % 64))

def tokenNotes (s : State) : State :=
  if mirroring s then
    [(0, 1024), (1024, 2048), (3072, 2111)].foldl (fun a r =>
      mirrorNote a 9 r.1 0 ((List.range r.2).map fun i => tokenBytes a (r.1 + i)).flatten) s
  else s

/-- A handover starts: the holder stops accepting and executing, and its benches and transmitters stop (R379 steps 1 and 2). -/
def handoverStart (s : State) : State :=
  if pairRole s = 2 ∧ mirState s = 3 then irqEvent (setF (fieldNotes (fieldHold s)) Pg.par F.PAR_STAT_ROLE 5) Pg.par 2
  else s

/-- No serial transmitter has a character on its line. -/
def serQuiet (s : State) : Bool := (List.range 32).all fun n => (serOf s n).inChar.isNone

/-- Every mirror record has left and is covered by ACK_MSN. -/
def allAcked (s : State) : Bool :=
  s.pair.mirOut.isEmpty && mirAcked s ((s.pair.nextMsn + 2 ^ 32 - 1) % 2 ^ 32)

/-- The executions in hand of pair contexts have completed. -/
def pairIdle (s : State) : Bool := s.seq.ctxs.all fun e => !e.2.pairCtx || e.2.held.all fun h => h.st == .held

/-- The records of pair flows that are open when the pair node passes to the partner, which adopts them: here their outcome cannot become
known, so they complete MIRROR_LOST (DESIGN CHOICE, log entry 168). -/
def pairYield (s : State) : State :=
  ((s.seq.flows.map (·.1)).filter (isPairFlow s)).foldl (fun a f => closeAll a f St.mirrorLost 0) s

/-- Steps 3 and 4 of a handover: the permit ends, RELEASE names the standby, and the holder becomes STANDBY (R379). It comes once the
transmitters have stopped at their word boundaries, their final state is mirrored, and every record is acknowledged. -/
def handoverRelease (s0 : State) : State :=
  let s := if pairRole s0 = 5 then fieldNotes s0 else s0
  if pairRole s == 5 && (s.pair.pfw || (allAcked s && pairIdle s && serQuiet s)) then
    let s1 := toWitness s 6 8 s.pair.partnerMac
    pairYield (bump (setRole (setPair s1 { s1.pair with rightW := 0, rightC := 0 }) 3) Pg.par F.PAR_HANDOVERS)
  else s

/-- PFW asserts on a holder in sync: steps 1 to 4 without waiting (R381). -/
def pairPfw (s : State) : State :=
  if (pairRole s == 2 || pairRole s == 5) && mirState s == 3 then
    let s1 := setPair (handoverStart s) { (handoverStart s).pair with pfw := true }
    mirrorSend (handoverRelease s1) false
  else s

/-! ## The pair ANNOUNCE (R356) -/

/-- The ANNOUNCE of the pair node. -/
def pairFrame (s : State) : Frame :=
  kvlFrame s macAnnounce (pairMac s) { plainHdr s tyAnnounce 7 with dup := true, src := mkRoute 0 [pairNode s] }
    (annBody (pairNode s) false false false (verEn s) (getF s Pg.par F.PAR_CTL_ANN_PERIOD) (pairEpoch s) 0)

def pairAnnounce (s : State) : State := if pairRole s = 2 then sendOwn s (pairFrame s) 7 false else s

/-! ## Proving (R383) -/

/-- Proving starts on a standby. On a holder the command sends the DIGEST record that a standby's proving compares; its CRC is a free
value, since R369 gives the mirrored state no layout (log entry 8). -/
def proveStart (s : State) : State :=
  if pairRole s = 3 then (if s.pair.proving then s else setPair s { s.pair with proving := true })
  else if mirroring s then
    let r := freshVal s 32
    mirrorNote (setF r.2 Pg.mir F.MIR_DIGEST_CRC r.1) 10 0 0 (beBytes 4 ((s.pair.nextMsn + 2 ^ 32 - 1) % 2 ^ 32) ++ beBytes 4 r.1)
  else s

/-- Proving ends with these outcomes. -/
def proveEnd (s : State) (mem analog digest : Bool) : State :=
  if !s.pair.proving then s
  else
    let bad := mem || analog || digest
    let s1 := setPair s { s.pair with proving := false, proveAt := s.watchNs, proveBad := bad }
    let s2 := setF (setB (setB (setB s1 Pg.par F.PAR_PROVE_STAT_MEM_FAIL mem) Pg.par F.PAR_PROVE_STAT_ANALOG_FAIL analog)
      Pg.par F.PAR_PROVE_STAT_DIGEST_FAIL digest) Pg.par F.PAR_PROVE_STAT_RESULT (if bad then 2 else 1)
    let s3 := irqEvent (bump s2 Pg.par F.PAR_PROVES) Pg.par 5
    let s4 := if bad then irqEvent (bump s3 Pg.par F.PAR_PROVE_FAILS) Pg.par 6 else s3
    if digest then bump (setMir s4 2) Pg.mir F.MIR_RESYNCS else s4

/-- A GRANT stops a proving in progress. -/
def proveAbort (s : State) : State :=
  if s.pair.proving then setF (setPair s { s.pair with proving := false }) Pg.par F.PAR_PROVE_STAT_RESULT 3 else s

/-! ## Mirrored registers (R369, R373) -/

/-- The register at `off` of page `p` is one that the pair mirrors: pages SER, BEN, PIN, DIS, TRG, CAN, HDG and SLU, and the FLW
entries of pair flows. -/
def mirroredReg (s : State) (p off : Nat) : Bool :=
  (0x100 ≤ p && p ≤ 0x12F) || p == Pg.pin || p == Pg.dis || p == Pg.trg || (0x138 ≤ p && p ≤ 0x13F) || (0x080 ≤ p && p ≤ 0x0D0) ||
  (0x040 ≤ p && p ≤ 0x07F && 0x100 ≤ off && decide ((p - 0x040) * 64 + (off - 0x100) / 32 < getF s Pg.par F.PAR_FLOWS_UNIT_BASE))

/-- Start-up of a pair member ends: STARTING, or DISABLED where EN is 0 (R359). -/
def pairStart (s : State) : State :=
  if getB s Pg.par F.PAR_CTL_EN then setMir (setRole s 1) 1 else setMir (setRole s 0) 0

end Sys2Proof.Machine
end

