-- ==== Sys2Proof/Machine/Culvert.lean ====
section
/-! DEFINITION. The culvert between the dies (spec/09): items, credits, resets, training, permits and the time channel. Executing an
EXEC stands in Field. An item leaves whole, as the row of its symbols; acknowledges and transitions on the wires are left out (log entry 10). -/

namespace Sys2Proof.Machine

def setCul (s : State) (c : CulSt) : State := { s with cul := c }

/-- The virtual channel of an item: 0 REQ, 1 RSP, 2 EVT, 3 TIME (R249). -/
def itemVc : Item → Nat
  | .exec _ => 0 | .cfg _ _ => 0 | .offer _ _ _ => 0
  | .done _ _ _ _ => 1 | .accept _ _ => 1 | .cpl _ _ _ _ => 1
  | .pend _ _ _ => 2 | .record _ _ => 2 | .permit _ => 2
  | .mark _ _ => 3 | .markReply _ _ _ _ => 3 | .freq _ => 3 | .step _ => 3 | .keep => 3

/-- The KIND of an item within its VC and direction (R249). -/
def itemKind : Item → Nat
  | .exec _ => 1 | .cfg _ _ => 2 | .offer _ _ _ => 1
  | .done _ _ _ _ => 1 | .accept _ _ => 1 | .cpl _ _ _ _ => 2
  | .pend _ _ _ => 1 | .record _ _ => 2 | .permit _ => 1
  | .mark _ _ => 1 | .markReply _ _ _ _ => 2 | .freq _ => 3 | .step _ => 4 | .keep => 0x3F

/-! ## Items as bytes and symbols (R246, R248)

The order of the fields within a body is the model's (DESIGN CHOICE, log entry 156): the spec gives the header, the trailer, the byte order
and the lengths that R247 and R248 state. -/

/-- A record that the field die reports, as bytes. -/
def recordBytes : FieldRec → List Byte
  | .soe b => leBytes 4 0 ++ b
  | .can n b => leBytes 4 (1 + 256 * n) ++ b
  | .cap c e => leBytes 4 (2 + 256 * c + (if e.rising then 2 ^ 16 else 0) + (if e.unsync then 2 ^ 17 else 0)) ++ leBytes 12 e.stamp
  | .loss kind => leBytes 4 (3 + 256 * kind)

/-- A configuration copy, as bytes. -/
def copyBytes : CfgCopy → List Byte
  | .bounds field symbol => leBytes 4 0 ++ leBytes 4 field ++ leBytes 4 symbol
  | .trig t p =>
    leBytes 4 (1 + 256 * t + 2 ^ 16 * p.mode + (if p.pol then 2 ^ 18 else 0) + (if p.lateSkip then 2 ^ 19 else 0) + (if p.canEn then 2 ^ 20 else 0) +
      2 ^ 21 * p.canPort) ++ leBytes 8 p.t0 ++ leBytes 4 p.phase ++ leBytes 4 p.period ++ leBytes 4 p.frac ++ leBytes 4 p.count ++ leBytes 4 p.width
  | .tags held => leBytes 4 (2 + 2 ^ 16 * held.length) ++ held.flatMap (leBytes 2)
  | .reg page off value => leBytes 4 3 ++ leBytes 4 (page * 0x1000 + off) ++ leBytes 4 value

/-- ITEM_ID, ARG and body of an item (R249): an EXEC is 16 bytes before its data. -/
def itemParts : Item → Nat × Nat × List Byte
  | .exec e =>
    (e.id, 0, leBytes 1 e.op ++ leBytes 1 (if e.spec then 1 else 0) ++ leBytes 2 e.len ++ leBytes 8 e.off ++ leBytes 4 0 ++ e.data)
  | .cfg id c => (id, 0, copyBytes c)
  | .offer tag gen t =>
    (tag + 1024 * gen, t.flow, leBytes 1 t.op ++ leBytes 1 0 ++ leBytes 2 t.len ++ leBytes 8 t.addr.toNat ++ leBytes 4 t.init ++ t.data)
  | .done id status cause data => (id, status + 256 * cause, data)
  | .accept tag gen => (tag + 1024 * gen, 0, [])
  | .cpl tag gen status cause => (tag + 1024 * gen, status + 256 * cause, [])
  | .pend seq page pending => (seq, page + (if pending then 2 ^ 31 else 0), [])
  | .record seq r => (seq, 0, recordBytes r)
  | .permit ticks => (0, ticks, [])
  | .mark x t1 => (x, 0, leBytes 8 t1)
  | .markReply x t1 t2 t3 => (x, 0, leBytes 8 t1 ++ leBytes 8 t2 ++ leBytes 8 t3)
  | .freq f => (0, ofSigned 32 f, [])
  | .step ns => (0, 0, leBytes 8 (ofSigned 64 ns))
  | .keep => (0, 0, [])

/-- An item as it crosses the culvert (R248): header, body in whole words, CRC-32C over both; every field little-endian (R246). -/
def itemBytes (i : Item) : List Byte :=
  let b := pad4 (itemParts i).2.2
  let whole := leBytes 1 (itemVc i * 64 + itemKind i) ++ leBytes 1 (b.length / 4) ++ leBytes 2 (itemParts i).1 ++ leBytes 4 (itemParts i).2.1 ++ b
  whole ++ leBytes 4 (crc32c whole)

/-- The 4-bit symbols that carry bytes, low nibble first (R245, R246). -/
def symbolsOf (bs : List Byte) : List Nat := bs.flatMap fun b => [b.toNat % 16, b.toNat / 16]

/-- An item leaves: what goes over the wires. -/
def itemOut (toField : Bool) (i : Item) : Out := .item toField (itemVc i) (itemKind i) (symbolsOf (itemBytes i))

/-- The ring die's send-credit field of a VC. -/
def credF (vc : Nat) : FieldD :=
  if vc = 0 then F.CUL_CREDITS_REQ else if vc = 1 then F.CUL_CREDITS_RSP else if vc = 2 then F.CUL_CREDITS_EVT else F.CUL_CREDITS_TIME

/-- A list of four counts with `f` applied to one. -/
def atVc (l : List Nat) (vc : Nat) (f : Nat → Nat) : List Nat := (List.range 4).map fun i => if i = vc then f (l.getD i 0) else l.getD i 0

def culState (s : State) : Nat := getF s Pg.cul F.CUL_STAT_STATE

/-! ## EXECs and their ends (R250, R254, R261) -/

/-- The access has a side effect when it reads (R51, R274): an RC register, or the receive half of a FIFO. -/
def readsSide (op off len : Nat) : Bool :=
  op == 1 &&
  (match regionOf off with
   | .page p => (List.range len).any fun i => isSide p ((off + i) % 0x1000 / 4 * 4)
   | .fifo _ tx => !tx
   | _ => false)

/-- A register access that is no fabric transaction completes: to the host through BAR0 (R189), or to its agent. -/
def accEnd (s : State) (who : Agent) (id status cause : Nat) (data : List Byte) (e : Exec) : State :=
  match tabGet s.brg.accs id with
  | some ptag =>
    let s1 := setBrg s { s.brg with accs := tabDel s.brg.accs id }
    if status = St.ok then emit s1 (.cpl ptag 0 data)
    else if status = St.addrErr ∨ status = St.accessDenied then emit (bump s1 Pg.brg F.BRG_UR_SENT) (.cpl ptag 1 [])
    else emit (bump s1 Pg.brg F.BRG_CA_SENT) (.cpl ptag 4 [])
  | none =>
    let s1 := emit s (.access who status cause)
    if e.op = 1 ∧ status = St.ok then emit s1 (.read who (e.off / 0x1000) (e.off % 0x1000) data)
    else if who = .host ∧ e.op = 2 ∧ status ≠ St.ok then
      errLog s1 { status := status, cause := cause, kind := 2, discarded := false, win := 0, addr := e.off, len := e.len, tag := 0 }
    else s1

/-- The field-die pages (R62). -/
def fieldPages : List Nat := ((List.range 0x142).filter isFieldPage).filter pageAssigned

/-- A read of a pending state after training has ended (R62): once the last has, page INT is current again. -/
def pendFresh (s : State) (p : Nat) (pending : Bool) : State :=
  let rest := s.intr.fieldPend.filter (· != p)
  let s1 := { s with intr := { s.intr with fieldPend := if pending then rest ++ [p] else rest } }
  let more (e : Exec) : Bool := e.org == .pendRead
  let left := s.cul.execs.any more || s.cul.ringW.any fun i => match i with | .exec e => more e | _ => false
  if left || !getB s1 Pg.int F.INT_STAT_FIELD_STALE then s1
  else irqEvent (setB s1 Pg.int F.INT_STAT_FIELD_STALE false) Pg.int 2

/-- An EXEC completes to whoever asked for it. -/
def execEnd (s : State) (e : Exec) (status cause : Nat) (data : List Byte) : State :=
  match e.org with
  | .ofCtx c q =>
    (match headHeld s c with
     | some h =>
       if h.seq = q then
         completeRec s c { status := status, late := false, effectful := status == St.ok && e.spec && readsSide e.op e.off e.len, filled := false, tag := h.req.tag,
                           cause := cause, data := data }
       else s
     | none => s)
  | .acc who id => accEnd s who id status cause data e
  | .pendRead => if status = St.ok then pendFresh s (e.off / 0x1000) (leNat data != 0) else s

/-- An EXEC waits for the culvert; while it is FAILED it completes TARGET_ERR FIELD_DOWN instead (R261). -/
def execSend (s : State) (org : ExecOrg) (op off len : Nat) (data : List Byte) (spec : Bool) (meet : RegMeet := .none) : State :=
  let e : Exec := { id := s.cul.execId, org := org, op := op, spec := spec, off := off, len := len, data := data, meet := meet, full := false }
  let s1 := setCul s { s.cul with execId := (s.cul.execId + 1) % 65536 }
  if culState s = 4 then execEnd (noteErr s1 Pg.cul St.targetErr 0x40 0) e St.targetErr 0x40 [] else ringItem s1 (.exec e)

/-! ## Sending (R251, R263) -/

/-- The ring die sends what its credits allow, each VC in order. `held` are the VCs that wait. -/
def ringPump : List Item → List Nat → State → State
  | [], _, s => s
  | i :: is, held, s =>
    let vc := itemVc i
    let c := getF s Pg.cul (credF vc)
    let stop := held.contains vc || c == 0 || (s.cul.rspWait && vc == 0)
    if stop then ringPump is (vc :: held) (setCul s { s.cul with ringW := s.cul.ringW ++ [i] })
    else
      let s1 := emit (bump (setF s Pg.cul (credF vc) (c - 1)) Pg.cul F.CUL_ITEMS_TX) (itemOut true (itemNow s i))
      let s2 := setCul s1 { s1.cul with
        ringS := s1.cul.ringS ++ [itemNow s i]
        execs := match i with | .exec e => s1.cul.execs ++ [e] | _ => s1.cul.execs }
      ringPump is held (match i with
        | .exec e => (match e.org with | .ofCtx c _ => setHeldSt s2 c .inField | _ => s2)
        | _ => s2)

/-- The field die sends what its credits allow; an EVT item is kept for a replay until its credit returns (R254). -/
def fieldPump : List Item → List Nat → State → State
  | [], _, s => s
  | i :: is, held, s =>
    let vc := itemVc i
    let c := s.cul.fieldCred.getD vc 0
    if held.contains vc || c == 0 then fieldPump is (vc :: held) (setCul s { s.cul with fieldW := s.cul.fieldW ++ [i] })
    else
      fieldPump is held (emit (setCul s { s.cul with
        fieldS := s.cul.fieldS ++ [i], fieldCred := atVc s.cul.fieldCred vc (· - 1)
        evtUncred := if vc = 2 then s.cul.evtUncred ++ [i] else s.cul.evtUncred }) (itemOut false i))

/-- Both dies send while the culvert is UP. -/
def culPump (s : State) : State :=
  if culUp s then
    let s1 := ringPump s.cul.ringW [] (setCul s { s.cul with ringW := [] })
    if s1.cul.ringLost then s1 else fieldPump s1.cul.fieldW [] (setCul s1 { s1.cul with fieldW := [] })
  else s

/-- A credit word arrives (R251): at the field die for slots of the ring die, or the other way. CREDIT of PERTURB withholds some (R452). -/
def creditWord (s : State) (toField : Bool) (vc : Nat) : State :=
  if !culUp s || decide (3 < vc) then s
  else if toField then
    let n := s.cul.ringFreed.getD vc 0 - creditHeld s Pg.cul
    setCul (creditNote s Pg.cul) { s.cul with
      fieldCred := atVc s.cul.fieldCred vc (· + n), ringFreed := atVc s.cul.ringFreed vc (· - n)
      evtUncred := if vc = 2 then s.cul.evtUncred.drop n else s.cul.evtUncred }
  else
    let n := s.cul.fieldFreed.getD vc 0 - creditHeld s Pg.cul
    setF (setCul (creditNote s Pg.cul) { s.cul with fieldFreed := atVc s.cul.fieldFreed vc (· - n) }) Pg.cul (credF vc) (getF s Pg.cul (credF vc) + n)

/-- A KEEP item (R252). -/
def keepItem (s : State) (fromField : Bool) : State :=
  if !culUp s then s else emit (bump s Pg.cul (if fromField then F.CUL_ITEMS_RX else F.CUL_ITEMS_TX)) (itemOut (!fromField) .keep)

/-- The oldest item of the ring die's receive slots that `p` accepts leaves its slot (R251). -/
def takeField (s : State) (p : Item → Bool) : Option (Item × State) :=
  if culUp s then
    (takeFirst p s.cul.fieldS).map fun r =>
      (r.1, bump (setCul s { s.cul with fieldS := r.2, ringFreed := atVc s.cul.ringFreed (itemVc r.1) (· + 1) }) Pg.cul F.CUL_ITEMS_RX)
  else none

/-- The oldest item of the field die's receive slots that `p` accepts leaves its slot. -/
def takeRing (s : State) (p : Item → Bool) : Option (Item × State) :=
  (takeFirst p s.cul.ringS).map fun r =>
    (r.1, setCul s { s.cul with ringS := r.2, fieldFreed := atVc s.cul.fieldFreed (itemVc r.1) (· + 1) })

/-! ## Items that the ring die takes -/

/-- A DONE completes its EXEC; one whose EXEC has completed HANG is discarded (R250, R255). -/
def doneIn (s : State) : State :=
  match takeField s (fun i => match i with | .done _ _ _ _ => true | _ => false) with
  | some (.done id status cause data, s1) =>
    (match s1.cul.execs.find? (·.id == id) with
     | some e => execEnd (setCul s1 { s1.cul with execs := s1.cul.execs.filter (·.id != id) }) e status cause data
     | none => bump s1 Pg.cul F.CUL_LATE_RSP)
  | _ => s

/-- An OFFER enters R109 on its own tag; a repeated one that is open is answered ACCEPT again (R254, R279). -/
def offerIn (s : State) : State :=
  if !s.seq.running then s
  else
    match takeField s (fun i => match i with | .offer _ _ _ => true | _ => false) with
    | some (.offer tag gen t, s1) =>
      (match s1.cul.offers.find? (fun o => o.tag == tag && o.gen == gen) with
       | some o => if o.taken then ringItem s1 (.accept tag gen) else s1
       | none =>
         match s1.cul.refusedEp.find? (·.1 == t.init) with
         | some (_, st, c) => ringItem s1 (.cpl tag gen st c)
         | none =>
           let s2 := setCul s1 { s1.cul with offers := s1.cul.offers ++ [{ tag := tag, gen := gen, init := t.init, taken := false }] }
           issueTagged (takeTag s2 tag) (txnOf t tag))
    | _ => s

/-- A field-stream push has been accepted: ACCEPT goes to the field die (R279). -/
def offerAccepted (s : State) (tag : Nat) : State :=
  match s.cul.offers.find? (·.tag == tag) with
  | some o =>
    ringItem (setCul s { s.cul with offers := mapIf (·.tag == tag) (fun x => { x with taken := true }) s.cul.offers }) (.accept tag o.gen)
  | none => s

/-- A field-stream transaction has closed, or was refused: CPL goes to the field die (R279). -/
def offerClosed (s : State) (c : Closing) : State :=
  match s.cul.offers.find? (·.tag == c.tag) with
  | some o =>
    let s1 := setCul s { s.cul with
      offers := s.cul.offers.filter (·.tag != c.tag)
      refusedEp := if o.taken || c.status == St.aborted || s.cul.refusedEp.any (·.1 == o.init) then s.cul.refusedEp else s.cul.refusedEp ++ [(o.init, c.status, c.cause)] }
    ringItem s1 (.cpl c.tag o.gen c.status c.cause)
  | none => s

/-- The EVT sequence number has been consumed already (R254). -/
def evtOld (s : State) (q : Nat) : Bool := decide (32768 ≤ (q + 65536 - s.cul.evtSeen) % 65536)
def evtDone (s : State) (q : Nat) : State := setCul s { s.cul with evtSeen := (q + 1) % 65536 }

/-- A PEND item: page INT sees the new state (R61). -/
def pendIn (s : State) : State :=
  match takeField s (fun i => match i with | .pend _ _ _ => true | _ => false) with
  | some (.pend q p v, s1) =>
    if evtOld s1 q then bump s1 Pg.cul F.CUL_EVT_DUP
    else
      let s2 := evtDone s1 q
      let rest := s2.intr.fieldPend.filter (· != p)
      { s2 with intr := { s2.intr with fieldPend := if v then rest ++ [p] else rest } }
  | _ => s

/-- A RECORD item: the entry is stored on the ring die (R242, R308, R353). -/
def recordIn (s : State) : State :=
  match takeField s (fun i => match i with | .record _ _ => true | _ => false) with
  | some (.record q r, s1) =>
    if evtOld s1 q then bump s1 Pg.cul F.CUL_EVT_DUP
    else
      let s2 := evtDone s1 q
      (match r with
       | .soe b => soeStore s2 b
       | .can p b => canStore s2 p b
       | .cap c e => capStore s2 c e
       | .loss _ => irqEvent s2 Pg.trg 5)
  | _ => s

/-! ## Items that the field die takes -/

def acceptIn (s : State) : State :=
  match takeRing s (fun i => match i with | .accept _ _ => true | _ => false) with
  | some (.accept t g, s1) => pushAccept s1 t g
  | _ => s

def cplIn (s : State) : State :=
  match takeRing s (fun i => match i with | .cpl _ _ _ _ => true | _ => false) with
  | some (.cpl t g st c, s1) => pushCpl s1 t g st c
  | _ => s

/-- A configuration copy takes effect. -/
def cfgApply (s : State) : CfgCopy → State
  | .bounds f y => setCul s { s.cul with fieldBound := f, symBound := y }
  | .trig t p => trigArrive s t p
  | .tags held =>
    let ps : List Push := held.map fun t => {
      ep := 48, tag := t, gen := 0, words := 0, pos := 0
      req := { init := 0, flow := 0, op := 0, addr := 0, len := 0, data := [], spec := false }
      accepted := true, orphan := true }
    { s with fld := { s.fld with pushes := s.fld.pushes ++ ps } }
  | .reg p o v => setW s p o (BitVec.ofNat 32 v)

/-- A PERMIT arrives: it replaces the running one, and the first one since training lets INITIAL records go (R258, R354). -/
def permitIn (s : State) : State :=
  match takeRing s (fun i => match i with | .permit _ => true | _ => false) with
  | some (.permit n, s1) =>
    let s2 := setCul s1 { s1.cul with permit := n, permitLive := n != 0 }
    (s2.fld.di.map (·.1)).foldl diInitial { s2 with fld := { s2.fld with permitSeen := true } }
  | _ => s

/-- The permit ends (R258). -/
def permitEnd (s : State) : State := setCul s { s.cul with permit := 0, permitLive := false }

def freqIn (s : State) : State :=
  match takeRing s (fun i => match i with | .freq _ => true | _ => false) with
  | some (.freq f, s1) => { s1 with time := { s1.time with ffreq := f } }
  | _ => s

def stepIn (s : State) : State :=
  match takeRing s (fun i => match i with | .step _ => true | _ => false) with
  | some (.step d, s1) => fieldStep s1 d
  | _ => s

/-! ## Marker exchanges (R259, R260) -/

/-- FIELD_SYNC falls (R236). -/
def fieldSyncLoss (s : State) : State :=
  let s1 := setCul s { s.cul with markGood := 0 }
  if getB s Pg.tmk F.TMK_STAT_FIELD_SYNC then irqEvent (setB s1 Pg.tmk F.TMK_STAT_FIELD_SYNC false) Pg.tmk 5 else s1

def markOut (s : State) : State :=
  if culUp s then ringItem (setCul s { s.cul with markX := s.cul.markX + 1 }) (.mark (s.cul.markX + 1) (now16 s)) else s

def markIn (s : State) : State :=
  match takeRing s (fun i => match i with | .mark _ _ => true | _ => false) with
  | some (.mark x t1, s1) => fieldItem s1 (.markReply x t1 (s1.time.facc / 16000000000) (s1.time.facc / 16000000000))
  | _ => s

/-- The offset of an exchange in 1/16 ns. -/
def markOffset (t1 t2 t3 t4 : Int) : Int := ((t2 - t1) - (t4 - t3)) / 2

/-- MARK_REPLY: TIME_ERR, the correction of the field copy, and FIELD_SYNC after four good exchanges. -/
def markReplyIn (s : State) : State :=
  match takeField s (fun i => match i with | .markReply _ _ _ _ => true | _ => false) with
  | some (.markReply x t1 t2 t3, s1) =>
    if x ≠ s1.cul.markX ∨ s1.cul.stepWait ≠ 0 then s1
    else
      let o := markOffset t1 t2 t3 (now16 s1)
      let d : Int := -o * 16000000000
      let s2 := setF s1 Pg.cul F.CUL_TIME_ERR_OFFSET (ofSigned 32 o)
      let s3 := if o.natAbs ≤ 16000 then
          { s2 with time := { s2.time with fslew := d, fslewNs := 10000 * getF s2 Pg.cul F.CUL_TIME_CTL_INTERVAL } }
        else { s2 with time := { s2.time with facc := timeMove s2.time.facc d } }
      if o.natAbs ≤ 64 then
        let n := s3.cul.markGood + 1
        let s4 := setCul s3 { s3.cul with markGood := n }
        if 4 ≤ n then setB s4 Pg.tmk F.TMK_STAT_FIELD_SYNC true else s4
      else fieldSyncLoss s3
  | _ => s

/-! ## Culvert reset and training (R253 to R257) -/

/-- A training attempt starts. -/
def trainStart (s : State) (attempt : Nat) : State :=
  bump (setF (setCul s { s.cul with attempt := attempt }) Pg.cul F.CUL_STAT_STATE 1) Pg.cul F.CUL_RETRAINS

/-- The copy carries the bounds, of which training sends new ones (R28). -/
def isBounds : CfgCopy → Bool
  | .bounds _ _ => true
  | _ => false

/-- The item is an old copy of the bounds. -/
def oldBounds : Item → Bool
  | .cfg _ c => isBounds c
  | _ => false

/-- A culvert reset (R254). `trigger` is the row of R253. Items that stand in the field die's slots without effect so far, but whose loss
the spec does not name, are sent again: CPLs, configuration copies (DESIGN CHOICE, log entry 19). -/
def culReset (s : State) (trigger : Nat) : State :=
  let lost := s.cul.execs
  let s1 := bump (irqEvent (setF (setF s Pg.cul F.CUL_STAT_STATE 3) Pg.cul F.CUL_VER_NEG 0) Pg.cul 2) Pg.cul F.CUL_STALLS
  let s2 := faultLog (fieldSyncLoss (setF s1 Pg.int F.INT_STAT_FIELD_STALE 1)) 2 trigger Pg.cul lost.length
  let again := s2.cul.ringS.filter fun i => match i with | .cpl _ _ _ _ => true | .cfg _ c => !isBounds c | _ => false
  let s3 := setCul s2 { s2.cul with
    ringW := again ++ s2.cul.ringW, execs := [], fieldS := [], rspWait := false, downAt := if culUp s then s.watchNs else s2.cul.downAt
    ringFreed := [0, 0, 0, 0], stepWait := 0 }
  let s4 := lost.foldl (fun a e => execEnd (bump (noteErr a Pg.cul St.hang Cause.hang 0) Pg.cul F.CUL_HANG_ITEMS) e St.hang Cause.hang []) s3
  let s5 := [0, 1, 2, 3].foldl (fun a vc => setF a Pg.cul (credF vc) 0) s4
  trainStart s5 1

/-- A trigger of R253 resets a culvert that is not FAILED or OFF. -/
def culTrip (s : State) (trigger : Nat) : State :=
  if culState s = 2 then culReset (if trigger = 3 ∨ trigger = 4 then bump s Pg.cul F.CUL_CHECK_FAIL else s) trigger else s

/-- The symbol bound expires; a DONE that meets it wins (R255). -/
def symbolTimeout (s : State) (done : Bool) : State :=
  if culUp s then culReset (if done then doneIn s else s) 0 else s

/-- The field die receives the wake pattern: it empties its slots and sets its send credits to 0 (R256). -/
def wakeIn (s : State) : State :=
  if culState s = 1 then
    setCul s { s.cul with
      ringS := [], fieldCred := [0, 0, 0, 0], fieldFreed := [0, 0, 0, 0], ringLost := false
      fieldW := s.cul.fieldW.filter fun i => match i with | .done _ _ _ _ => false | .markReply _ _ _ _ => false | .offer _ _ _ => false | _ => true }
  else s

/-- A training attempt fails at step `why` (R257). -/
def trainFail (s : State) (why : Nat) : State :=
  if culState s ≠ 1 then s
  else
    let s1 := setF s Pg.cul F.CUL_STAT_WHY (min why 4)
    if s.cul.attempt < getF s Pg.cul F.CUL_CTL_RETRIES then s1
    else
      let waiting := s1.cul.ringW.filterMap fun i => match i with | .exec e => some e | _ => none
      let s2 := irqEvent (setF s1 Pg.cul F.CUL_STAT_STATE 4) Pg.cul 4
      let s3 := setCul s2 { s2.cul with ringW := s2.cul.ringW.filter fun i => match i with | .exec _ => false | _ => true }
      waiting.foldl (fun a e => execEnd (noteErr a Pg.cul St.targetErr 0x40 0) e St.targetErr 0x40 []) s3

/-- The pause after a failed attempt ends. -/
def trainRetry (s : State) : State := if culState s = 1 then trainStart s (s.cul.attempt + 1) else s

/-- RECORDs with LOSS for what version 1 loses at a reset (R254, R310, R353). -/
def evtLost (s : State) (l : List Item) : State :=
  let soe := l.filterMap fun i => match i with | .record _ (.soe b) => some (leAt b 8 4) | _ => none
  let can (n : Nat) := l.filterMap fun i => match i with | .record _ (.can p b) => if p = n then some (leAt b 16 4) else none | _ => none
  let cap := l.any fun i => match i with | .record _ (.cap _ _) => true | _ => false
  let s1 := match soe with | q :: _ => soeMark s q | [] => s
  let s2 := (List.range 8).foldl (fun a n => match can n with | q :: _ => canMark a n q | [] => a) s1
  if cap then fieldRecord s2 (.loss 2) else s2

/-- Training ends: the revision of the field die's HELLO is shown, and the culvert is UP under the highest common version (R256), the FIELD and SYMBOL bounds, a PERMIT and FREQ go out,
pushes without an ACCEPT are offered again and EVT items are replayed, and the pending states are read again (R62, R254). -/
def culvertUpNow (s : State) (fieldEn fieldRev : Nat) : State :=
  let both := getF s Pg.cul F.CUL_VER_EN &&& fieldEn
  if culState s ≠ 1 then s
  else if both % 4 = 0 ∨ fieldRev ≠ s.dev.fieldRev then trainFail (setF s Pg.cul F.CUL_STAT_FIELD_REV fieldRev) 3
  else
    let ver := if both.testBit 1 then 2 else 1
    let n := if ver = 2 then 64 else 32
    let s1 := setF (setF (setF s Pg.cul F.CUL_VER_NEG ver) Pg.cul F.CUL_STAT_STATE 2) Pg.cul F.CUL_STAT_FIELD_REV fieldRev
    let s2 := [0, 1, 2, 3].foldl (fun a vc => setF a Pg.cul (credF vc) n) (irqEvent s1 Pg.cul 3)
    let first : List Item := [
      .cfg s2.cul.execId (.bounds (getF s Pg.gen F.GEN_HANG_BOUND1_FIELD) (getF s Pg.cul F.CUL_BOUND0_SYMBOL)), .permit (permitLen s2), .freq (tmkFreq s)]
    let offers : List Item := (s.fld.pushes.filter fun p => !p.accepted && !p.orphan).map fun p => .offer p.tag p.gen p.req
    let lost := s2.cul.evtUncred
    let s3 := setCul s2 { s2.cul with
      execId := (s2.cul.execId + 1) % 65536
      ringW := first ++ s2.cul.ringW.filter (fun i => !oldBounds i), fieldCred := [n, n, n, n], ringFreed := [0, 0, 0, 0], fieldFreed := [0, 0, 0, 0], evtUncred := []
      fieldW := (if ver = 2 then lost else []) ++ offers ++ s2.cul.fieldW, ringLost := false, markGood := 0 }
    let s4 := if ver = 2 then s3 else evtLost s3 lost
    fieldPages.foldl (fun a p => execSend a .pendRead 1 (0x1000 * p + 0x18) 4 [] false) s4

/-- The field die hears nothing from the ring die (R262). -/
def ringGone (s : State) : State := setCul s { s.cul with ringLost := true }

/-- A block reset of CUL, or a warm reset, waits for the DONEs of the EXECs sent (R263). -/
def culRspWait (s : State) : State :=
  if culUp s then
    (if s.cul.execs.isEmpty then culReset s 5 else setCul s { s.cul with rspWait := true })
  else if culState s = 4 ∨ culState s = 0 then s
  else trainStart s 1

/-- The DONEs have come, or the wait has reached RSP. -/
def rspWaitEnd (s : State) : State := if s.cul.rspWait then culReset s 5 else s

/-- CUL.RETRAIN.GO (R253, R257). -/
def culRetrain (s : State) : State := if culState s = 0 then s else culReset s 5

end Sys2Proof.Machine
end

