-- ==== Sys2Proof/Machine/Signature.lean ====
section
/-! DEFINITION. The two standards that image, owner-command and unlock checks rest on (R4, R429, R439, R456): SHA-512 as FIPS 180-4 computes
it, and Ed25519 verification as RFC 8032 section 5.1.7 states it. -/

namespace Sys2Proof.Machine

/-! ## SHA-512 (FIPS 180-4) -/

/-- The largest `r` with `r ^ n ≤ v`, found bit by bit below `r0`'s lowest set one. -/
def rootBits (n v : Nat) : Nat → Nat → Nat
  | 0, r0 => r0
  | b + 1, r0 => rootBits n v b (if (r0 + 2 ^ b) ^ n ≤ v then r0 + 2 ^ b else r0)

/-- The first 64 bits of the fractional part of the `n`-th root of `p`: the standard's constants. -/
def rootFrac (n p : Nat) : BitVec 64 := BitVec.ofNat 64 (rootBits n (p * 2 ^ (64 * n)) 72 0)

/-- The primes below `m`. -/
def primesBelow (m : Nat) : List Nat := (List.range m).filter fun p => 2 ≤ p && (List.range p).all fun d => d < 2 || p % d != 0

/-- The round constants, from the cube roots of the first eighty primes. -/
def shaK : List (BitVec 64) := (primesBelow 410).map (rootFrac 3)

/-- The initial hash value, from the square roots of the first eight. -/
def shaInit : List (BitVec 64) := (primesBelow 20).map (rootFrac 2)

/-- A sum of three rotations, the standard's upper-case sigma. -/
def shaRot (a b c : Nat) (x : BitVec 64) : BitVec 64 := x.rotateRight a ^^^ x.rotateRight b ^^^ x.rotateRight c

/-- Two rotations and a shift, its lower-case sigma. -/
def shaMix (a b c : Nat) (x : BitVec 64) : BitVec 64 := x.rotateRight a ^^^ x.rotateRight b ^^^ (x >>> c)

/-- `n` words of the message schedule, of which `w` are the next sixteen. -/
def shaWords : Nat → List (BitVec 64) → List (BitVec 64)
  | 0, _ => []
  | n + 1, w =>
    let at_ (i : Nat) := w.getD i 0
    at_ 0 :: shaWords n (w.drop 1 ++ [shaMix 19 61 6 (at_ 14) + at_ 9 + shaMix 1 8 7 (at_ 1) + at_ 0])

/-- One round on the eight working words; `kw` is its constant plus its schedule word. -/
def shaRound (v : List (BitVec 64)) (kw : BitVec 64) : List (BitVec 64) :=
  let at_ (i : Nat) := v.getD i 0
  let e := at_ 4
  let t := at_ 7 + shaRot 14 18 41 e + ((e &&& at_ 5) ^^^ (~~~e &&& at_ 6)) + kw
  let maj := (at_ 0 &&& at_ 1) ^^^ (at_ 0 &&& at_ 2) ^^^ (at_ 1 &&& at_ 2)
  [t + shaRot 28 34 39 (at_ 0) + maj, at_ 0, at_ 1, at_ 2, at_ 3 + t, e, at_ 5, at_ 6]

/-- The hash value after one block of 128 bytes. -/
def shaBlock (h : List (BitVec 64)) (b : List Byte) : List (BitVec 64) :=
  let w := (List.range 16).map fun i => BitVec.ofNat 64 (beAt b (8 * i) 8)
  let out := (List.zipWith (· + ·) shaK (shaWords 80 w)).foldl shaRound h
  List.zipWith (· + ·) h out

/-- The message padded to whole blocks: a one bit, zeros, and its length in bits. -/
def shaPad (m : List Byte) : List Byte :=
  m ++ 0x80#8 :: List.replicate ((239 - m.length % 128) % 128) 0#8 ++ beBytes 16 (8 * m.length)

/-- SHA-512 of a byte string. -/
def sha512 (m : List Byte) : List Byte :=
  let p := shaPad m
  ((List.range (p.length / 128)).foldl (fun h i => shaBlock h ((p.drop (128 * i)).take 128)) shaInit).flatMap fun w => beBytes 8 w.toNat

/-! ## Ed25519 (RFC 8032) -/

/-- The prime of the field. -/
def edP : Nat := 2 ^ 255 - 19

/-- The order of the base point. -/
def edL : Nat := 2 ^ 252 + 27742317777372353535851937790883648493

/-- A power in the field, from the exponent's top `n` bits down. -/
def edPow (b e : Nat) : Nat → Nat → Nat
  | 0, acc => acc
  | n + 1, acc => edPow b e n (acc * acc * (if e.testBit n then b else 1) % edP)

/-- The inverse in the field. -/
def edInv (x : Nat) : Nat := edPow x (edP - 2) 255 1

/-- The difference in the field. -/
def edSub (x y : Nat) : Nat := (x + (edP - y % edP)) % edP

/-- The curve constant d = -121665/121666. -/
def edD : Nat := edSub 0 (121665 * edInv 121666)

/-- A point in extended homogeneous coordinates X, Y, Z, T. -/
abbrev EdPoint := Nat × Nat × Nat × Nat

/-- The neutral point. -/
def edZero : EdPoint := (0, 1, 1, 0)

/-- The sum of two points (section 5.1.4). -/
def edAdd (q r : EdPoint) : EdPoint :=
  let (x1, y1, z1, t1) := q
  let (x2, y2, z2, t2) := r
  let a := edSub y1 x1 * edSub y2 x2 % edP
  let b := (y1 + x1) * (y2 + x2) % edP
  let c := t1 * 2 * edD * t2 % edP
  let d := z1 * 2 * z2 % edP
  let e := edSub b a
  let f := edSub d c
  let g := (d + c) % edP
  let h := (b + a) % edP
  (e * f % edP, g * h % edP, f * g % edP, e * h % edP)

/-- A multiple of a point, from the factor's top `n` bits down. -/
def edMul (k : Nat) (q : EdPoint) : Nat → EdPoint → EdPoint
  | 0, acc => acc
  | n + 1, acc =>
    let two := edAdd acc acc
    edMul k q n (if k.testBit n then edAdd two q else two)

/-- Two coordinate quadruples are the same point. -/
def edSame (q r : EdPoint) : Bool :=
  q.1 * r.2.2.1 % edP == r.1 * q.2.2.1 % edP && q.2.1 * r.2.2.1 % edP == r.2.1 * q.2.2.1 % edP

/-- The x coordinate that belongs to y, with this low bit (section 5.1.3). -/
def edX (y : Nat) (odd : Bool) : Option Nat :=
  let u := edSub (y * y) 1
  let v := (edD * (y * y % edP) + 1) % edP
  let c := u * v ^ 3 % edP * edPow (u * v ^ 7 % edP) ((edP - 5) / 8) 252 1 % edP
  let root :=
    if v * (c * c) % edP = u then some c
    else if v * (c * c) % edP = edSub 0 u then some (c * edPow 2 ((edP - 1) / 4) 253 1 % edP)
    else none
  root.bind fun x => if x = 0 ∧ odd then none else some (if (x % 2 == 1) == odd then x else edP - x)

/-- The point that 32 bytes encode. -/
def edPoint (b : List Byte) : Option EdPoint :=
  let n := leNat b
  let y := n % 2 ^ 255
  if b.length ≠ 32 ∨ edP ≤ y then none else (edX y (n.testBit 255)).map fun x => (x, y, 1, x * y % edP)

/-- The base point: y = 4/5, x even. -/
def edBase : EdPoint :=
  let y := 4 * edInv 5 % edP
  let x := (edX y false).getD 0
  (x, y, 1, x * y % edP)

/-- An Ed25519 signature verifies (section 5.1.7): public key, message, signature. The group equation is the one with the cofactor, which the
standard gives first (log entry 149). -/
def edVerify (key msg sig : List Byte) : Bool :=
  let s := leNat (sig.drop 32)
  match edPoint key, edPoint (sig.take 32) with
  | some a, some r =>
    let k := leNat (sha512 (sig.take 32 ++ key ++ msg)) % edL
    sig.length == 64 && decide (s < edL) &&
      edSame (edMul 8 (edMul s edBase 256 edZero) 4 edZero) (edMul 8 (edAdd r (edMul k a 256 edZero)) 4 edZero)
  | _, _ => false

end Sys2Proof.Machine
end

