-- ==== Sys2Proof/Machine/Usb.lean ====
section
/-! DEFINITION. The USB hub and the service function (spec/13). What USB 2.0 says where spec/13 refers to it (reset, configuration,
hub class requests) is PRESUMED, log entry 15. -/

namespace Sys2Proof.Machine

def setUsb (s : State) (u : UsbSt) : State := { s with usb := u }

/-- Bits of USB.PORT[k].CHANGE. -/
def usbChange (s : State) (k bit : Nat) : State :=
  let w := getF s Pg.usb F.USB_PORT_CHANGE (k - 1)
  irqEvent (setF s Pg.usb F.USB_PORT_CHANGE (if w.testBit bit then w else w + 2 ^ bit) (k - 1)) Pg.usb 2

def usbPort (s : State) (k : Nat) (f : FieldD) : Bool := getB s Pg.usb f (k - 1)
def setUsbPort (s : State) (k : Nat) (f : FieldD) (v : Bool) : State := setB s Pg.usb f v (k - 1)

/-- UP_STATE changes (R325). -/
def usbUp (s : State) (st : Nat) : State :=
  if getF s Pg.usb F.USB_STAT_UP_STATE = st then s else irqEvent (setF s Pg.usb F.USB_STAT_UP_STATE st) Pg.usb 5

/-- USB_PWR_EN[k] follows the port's power (R325, R326). -/
def usbPower (s : State) (k : Nat) (on : Bool) : State :=
  if usbPort s k F.USB_PORT_POWER = on then s
  else
    let s1 := setUsbPort s k F.USB_PORT_POWER on
    if k ≤ 3 then emit s1 (.ball ("USB_PWR_EN" ++ toString k) (on == getB s Pg.usb F.USB_CTL_PWR_POL)) else s1

/-- A device leaves a downstream port, or is taken from it (R325, R326, R340). -/
def usbUnplug (s : State) (k : Nat) : State :=
  if usbPort s k F.USB_PORT_CONNECT then
    usbChange (setUsbPort (setUsbPort (setUsbPort s k F.USB_PORT_CONNECT false) k F.USB_PORT_ENABLE false) k F.USB_PORT_SUSPEND false) k 0
  else s

/-- A device connects to a downstream port. -/
def usbPlug (s : State) (k speed : Nat) : State :=
  if usbPort s k F.USB_PORT_CONNECT then s
  else usbChange (setF (setUsbPort s k F.USB_PORT_CONNECT true) Pg.usb F.USB_PORT_SPEED speed (k - 1)) k 0

/-- External port `k` is disabled by USB.CTL.PORT_DIS. -/
def usbDis (s : State) (k : Nat) : Bool := (getF s Pg.usb F.USB_CTL_PORT_DIS).testBit (k - 1)

/-- A change of PORT_DIS takes effect at once (R326). -/
def usbPortDis (s : State) : State :=
  [1, 2, 3].foldl (fun a k => if usbDis a k then usbPower (usbUnplug a k) k false else a) s

/-- Resume ends the suspend of the hub (0) or of a port (R340). -/
def usbResumeAt (s : State) (k : Nat) : State :=
  if k = 0 then
    (if getF s Pg.usb F.USB_STAT_UP_STATE = 3 then
      bump (usbUp (setB s Pg.usf F.USF_STAT_SUSPENDED (usbPort s 4 F.USB_PORT_SUSPEND)) (if s.usb.hubCfg then 2 else 1)) Pg.usb F.USB_RESUMES
     else s)
  else if k ≤ 4 ∧ usbPort s k F.USB_PORT_SUSPEND = true then
    (let s1 := bump (usbChange (setUsbPort s k F.USB_PORT_SUSPEND false) k 2) Pg.usb F.USB_RESUMES
     if k = 4 then setB s1 Pg.usf F.USF_STAT_SUSPENDED false else s1)
  else s

/-- A connect, disconnect or over-current on a suspended hub wakes it where the host has enabled that (R325). -/
def usbHubWake (s : State) : State := if s.usb.hubWake then usbResumeAt s 0 else s

/-- A device connects to, or disconnects from, an external port (R325, R326). -/
def usbDevice (s : State) (k : Nat) (connect : Bool) (speed : Nat) : State :=
  if k < 1 ∨ 3 < k then s
  else if connect then (if usbDis s k || !usbPort s k F.USB_PORT_POWER then s else usbHubWake (usbPlug s k speed))
  else usbHubWake (usbUnplug s k)

/-- A debounced over-current (R326): the port's power goes off, and a port without power shows no device (USB 2.0, log entry 15). -/
def usbOver (s : State) (k : Nat) : State :=
  if k < 1 ∨ 3 < k then s
  else
    let s1 := usbChange (setUsbPort s k F.USB_PORT_OVER_CURRENT true) k 3
    let s2 := setUsbPort (setUsbPort (setUsbPort s1 k F.USB_PORT_ENABLE false) k F.USB_PORT_CONNECT false) k F.USB_PORT_SUSPEND false
    usbHubWake (irqEvent (bump (usbPower s2 k false) Pg.usb F.USB_OC_EVENTS) Pg.usb 3)

/-- A device still transmits at EOF2: its port is disabled (R327). -/
def usbBabbleAt (s : State) (k : Nat) : State :=
  if 1 ≤ k ∧ k ≤ 4 ∧ usbPort s k F.USB_PORT_ENABLE = true then
    irqEvent (bump (usbChange (setUsbPort s k F.USB_PORT_ENABLE false) k 1) Pg.usb F.USB_BABBLE) Pg.usb 4
  else s

/-! ## The service function (R328 to R336) -/

def usfOn (s : State) : Bool := getB s Pg.usf F.USF_STAT_ENABLED

/-- The host tags that are busy: accepted and not yet delivered (R332). -/
def usfBusy (s : State) (t : Nat) : Bool :=
  s.usb.opens.any (fun o => o.tag == t && !o.discard) || s.usb.resp.any (·.tag == t)

/-- Response blocks are discarded and counted (R329, R342). -/
def usfDiscard (s : State) (n : Nat) : State := if n = 0 then s else irqEvent (bump s Pg.usf F.USF_RESP_DISCARD n) Pg.usf 4

/-- The block taken and not yet accepted is given up: its transaction ends ABORTED, and no response block waits for it (R55, R126, R329). -/
def usfDropHand (s : State) : State :=
  match s.usb.inHand with
  | none => s
  | some t => endUnaccepted (setUsb s { s.usb with inHand := none }) (fun x => x.tag == 640 + t) St.aborted 0 Pg.usf

/-- The function's toggles return to DATA0 (R336). -/
def usfToggles (s : State) : State := setUsb s { s.usb with togOut := false, togIn := false, togRep := false }

/-- The function ceases to be enabled (R329). -/
def usfDisable (s : State) : State :=
  let s1 := usbUnplug (irqEvent (setB s Pg.usf F.USF_STAT_ENABLED false) Pg.usf 2) 4
  let s2 := usfDiscard (usfDropHand s1) s1.usb.resp.length
  let s3 := setB (setB s2 Pg.usf F.USF_STAT_CONFIGURED false) Pg.usf F.USF_STAT_SUSPENDED false
  setUsb s3 { s3.usb with
    xfers := [], resp := [], inFlight := none, repFlight := none, ctrl := none
    opens := s3.usb.opens.map fun o => { o with discard := true } }

/-- The function becomes enabled: port 4 reports a connection (R329). -/
def usfEnable (s : State) : State :=
  usfToggles (usbPlug (irqEvent (setB s Pg.usf F.USF_STAT_ENABLED true) Pg.usf 2) 4 2)

/-- The enable of R328 is judged; during a reset of the function or of the hub port 4 shows nothing (R342). -/
def usfEval (s : State) : State :=
  let want := getB s Pg.usf F.USF_CTL_OWNER_EN || getB s Pg.usf F.USF_STAT_PIN
  if want = usfOn s ∨ pageBusyState s Pg.usf = 2 ∨ pageBusyState s Pg.usb = 2 then s else if want then usfEnable s else usfDisable s

/-- The debounced level of SERVICE_EN (R328). -/
def usfPin (s : State) (level : Bool) : State := usfEval (setB s Pg.usf F.USF_STAT_PIN level)

/-- A USB answer: 0 ACK, 1 NAK, 2 STALL, 3 DATA0, 4 DATA1. -/
def usbOut (s : State) (kind : Nat) (data : List Byte) : State := emit s (.usb kind data)
def usbAck : Nat := 0
def usbNak : Nat := 1
def usbStall : Nat := 2

/-- A block is refused (R332): it and the rest of its transfer are discarded and endpoint 0x01 halts. -/
def usfRefuse (s : State) (cause : Nat) : State :=
  let s1 := setB (noteErr s Pg.usf 0 cause 0) Pg.usf F.USF_STAT_EP1_OUT_HALT true
  irqEvent (bump (setUsb s1 { s1.usb with xfers := s1.usb.xfers.drop 1 }) Pg.usf F.USF_STALLS) Pg.usf 3

/-- What refuses a request block, as a cause; `bs` starts with its header and `ended` says that its transfer has ended. -/
def usfBlockBad (s : State) (bs : List Byte) (ended : Bool) : Option Nat :=
  let op := beAt bs 0 1 % 16
  let len := beAt bs 1 1 + 1
  let dlen := leAt bs 6 2
  if ended && decide (bs.length < 16) then some 0x40
  else if op < 1 ∨ 6 < op ∨ beAt bs 0 1 ≥ 16 ∨ beAt bs 2 1 ≥ 64 ∨ beAt bs 3 1 ≠ 0 ∨ leAt bs 4 2 ≥ 4096 ∨ dlen ≠ reqDataLen op len then some 0x40
  else if ended && decide (bs.length < 16 + up4 dlen) then some 0x40
  else if usfBusy s (beAt bs 2 1) then some 0x41
  else none

/-- The function takes the request blocks it can, oldest first; one that waits for acceptance holds back the later ones. -/
def usfPump : Nat → State → State
  | 0, s => s
  | n + 1, s =>
    match s.usb.inHand, s.usb.xfers with
    | some _, _ => s
    | none, [] => s
    | none, x :: xs =>
      if !usfOn s || !blockTakes s Pg.usf || s.cul.ringLost then s
      else if x.bytes.isEmpty then (if x.ended then usfPump n (setUsb s { s.usb with xfers := xs }) else s)
      else if x.bytes.length < 16 ∧ x.ended = false then s
      else
        match usfBlockBad s x.bytes x.ended with
        | some c => usfRefuse s c
        | none =>
          let bs := x.bytes
          let dlen := leAt bs 6 2
          let total := 16 + up4 dlen
          let t := beAt bs 2 1
          if bs.length < total then s
          else if s.seq.tags.contains (640 + t) || !s.seq.running then s
          else
            let req : TxnReq := {
              init := 0x3000, flow := leAt bs 4 2, op := beAt bs 0 1, addr := BitVec.ofNat 64 (leAt bs 8 8), len := beAt bs 1 1 + 1
              data := (bs.drop 16).take dlen, spec := false }
            let s1 := setUsb s { s.usb with xfers := { x with bytes := bs.drop total } :: xs, inHand := some t }
            issueTagged (takeTag s1 (640 + t)) (txnOf req (640 + t))

/-- The fabric has accepted the block in hand (R13, R332). -/
def usfAccepted (s : State) (tag : Nat) : State :=
  match s.usb.inHand with
  | some t =>
    if 640 + t = tag then
      let q := match tagHolder s tag with | some (_, q) => q | none => 0
      bump (setUsb s { s.usb with
        inHand := none, opens := s.usb.opens ++ [{ tag := t, seq := q, orphan := false, discard := false }] }) Pg.usf F.USF_REQ_BLOCKS
    else s
  | none => s

/-- A transaction of the function has closed: its response block waits (R333), or is discarded (R329). -/
def usfClosed (s : State) (c : Closing) : State :=
  let t := c.tag - 640
  match s.usb.opens.find? (·.tag == t) with
  | some o =>
    let s1 := setUsb s { s.usb with opens := s.usb.opens.filter (·.tag != t) }
    if o.discard then usfDiscard s1 1
    else setUsb s1 { s1.usb with
      resp := s1.usb.resp ++ [{ tag := t, status := c.status, cause := c.cause, orphan := o.orphan || c.orphan, seq := o.seq, data := c.data }] }
  | none =>
    if s.usb.inHand = some t then
      setUsb s { s.usb with
        inHand := none
        resp := s.usb.resp ++ [{ tag := t, status := c.status, cause := c.cause, orphan := false, seq := 0, data := c.data }] }
    else s

/-- A bulk OUT packet (R330, R331, R336). -/
def usfOut (s : State) (data1 : Bool) (data : List Byte) : State :=
  let u := s.usb
  let held := (u.xfers.map fun x => x.bytes.length).foldl (· + ·) 0
  if !(usfOn s && getB s Pg.usf F.USF_STAT_CONFIGURED) || getB s Pg.usf F.USF_STAT_SUSPENDED then s
  else if getB s Pg.usf F.USF_STAT_EP1_OUT_HALT then usbOut s usbStall []
  else if u.togOut ≠ data1 then usbOut (bump s Pg.usf F.USF_TOGGLE_DISCARD) usbAck []
  else if s.cul.ringLost || decide (2048 < held + data.length) || decide (512 < data.length) then usbOut s usbNak []
  else
    let ended := decide (data.length < 512)
    let xs : List UsbXfer :=
      match u.xfers.getLast? with
      | some x => if x.ended then u.xfers ++ [{ bytes := data, ended := ended }]
                  else u.xfers.dropLast ++ [{ bytes := x.bytes ++ data, ended := ended }]
      | none => [{ bytes := data, ended := ended }]
    usfPump 200 (usbOut (setUsb s { u with xfers := xs, togOut := !u.togOut }) usbAck [])

/-- A response block as the host receives it (R333). -/
def usfRespBytes (r : UsbResp) : List Byte :=
  [BitVec.ofNat 8 r.status, BitVec.ofNat 8 r.cause, BitVec.ofNat 8 (r.tag % 64 + (if r.orphan then 64 else 0)), 0#8] ++
  leBytes 2 r.data.length ++ leBytes 2 0 ++ leBytes 4 r.seq ++ leBytes 4 0 ++ pad4 r.data

/-- DATA0 or DATA1 by a toggle. -/
def dataPid (tog : Bool) : Nat := if tog then 4 else 3

/-- A bulk IN token at 0x81 (R333, R334, R336). -/
def usfIn (s : State) : State :=
  let u := { s.usb with ackDue := true }
  if !(usfOn s && getB s Pg.usf F.USF_STAT_CONFIGURED) || getB s Pg.usf F.USF_STAT_SUSPENDED then s
  else if getB s Pg.usf F.USF_STAT_EP1_IN_HALT then usbOut s usbStall []
  else
    match u.inFlight with
    | some (p, _) => usbOut (bump (setUsb s u) Pg.usf F.USF_RESENT) (dataPid u.togIn) p
    | none =>
      match u.resp with
      | r :: _ =>
        let p := usfRespBytes r
        usbOut (setUsb s { u with inFlight := some (p, true) }) (dataPid u.togIn) p
      | [] =>
        if getB s Pg.usf F.USF_CTL_POLL_MODE then
          let p := usfRespBytes { tag := 0, status := St.notReady, cause := 0, orphan := false, seq := 0, data := [] }
          usbOut (bump (setUsb s { u with inFlight := some (p, false) }) Pg.usf F.USF_NOT_READY) (dataPid u.togIn) p
        else usbOut (bump s Pg.usf F.USF_NAK_IN) usbNak []

/-- The host's ACK of the last IN packet of 0x81, or of 0x82 (R336). -/
def usfAckIn (s : State) (report : Bool) : State :=
  let u := { s.usb with ackDue := s.usb.ackDue && report, repDue := s.usb.repDue && !report }
  if !(if report then s.usb.repDue else s.usb.ackDue) then s
  else if report then
    (match u.repFlight with
     | some _ => setUsb s { u with repFlight := none, togRep := !u.togRep }
     | none => s)
  else
    match u.inFlight with
    | some (_, true) => bump (setUsb s { u with inFlight := none, togIn := !u.togIn, resp := u.resp.drop 1 }) Pg.usf F.USF_RESP_BLOCKS
    | some (_, false) => setUsb s { u with inFlight := none, togIn := !u.togIn }
    | none => s

/-- The fields of a state report (R335). -/
def usfFields (s : State) : List Nat :=
  [s.usb.resp.length, s.usb.opens.length, pendSummary s, getF s Pg.int F.INT_STAT_FIELD_STALE]

/-- A poll of the interrupt endpoint (R335, R336). -/
def usfPoll (s : State) : State :=
  let u := { s.usb with repDue := true }
  if !(usfOn s && getB s Pg.usf F.USF_STAT_CONFIGURED) || getB s Pg.usf F.USF_STAT_SUSPENDED then s
  else if getB s Pg.usf F.USF_STAT_EP2_HALT then usbOut s usbStall []
  else
    match u.repFlight with
    | some p => usbOut (bump (setUsb s u) Pg.usf F.USF_RESENT) (dataPid u.togRep) p
    | none =>
      let fs := usfFields s
      if fs = u.report then usbOut s usbNak []
      else
        let p := leBytes 1 (fs.getD 0 0) ++ leBytes 1 (fs.getD 1 0) ++ leBytes 2 (fs.getD 2 0) ++ leBytes 1 (fs.getD 3 0) ++
          leBytes 3 0 ++ leBytes 4 u.repSeq ++ leBytes 4 0
        usbOut (setUsb s { u with report := fs, repFlight := some p, repSeq := (u.repSeq + 1) % 2 ^ 32 }) (dataPid u.togRep) p

/-- ABORT, when its status stage completes (R338): an open transaction is aborted under R113; of a tag that is not open, NOT_OPEN
is recorded. -/
def usfAbortDone (s : State) : State :=
  match s.usb.ctrl with
  | some st =>
    if beAt st 0 1 = 0x41 ∧ beAt st 1 1 = 0x01 then
      let s1 := usbOut (setUsb s { s.usb with ctrl := none }) usbAck []
      match if leAt st 2 2 < 64 then tagHolder s1 (640 + leAt st 2 2) else none with
      | some (fl, q) => abortSeq s1 fl q
      | none => noteErr s1 Pg.seq 0 0x41 0
    else s
  | none => s

/-- GET_STATE's data stage (R338). -/
def usfState (s : State) : State :=
  match s.usb.ctrl with
  | some st =>
    if beAt st 0 1 = 0xC1 ∧ beAt st 1 1 = 0x02 then
      let bm := (List.range 64).foldl (fun a t => if usfBusy s t then a + 2 ^ t else a) 0
      usbOut (setUsb s { s.usb with ctrl := none }) 4
        ((leBytes 8 bm ++ leBytes 1 s.usb.resp.length ++ leBytes 1 s.usb.opens.length ++ leBytes 6 0).take (leAt st 6 2))
    else s
  | none => s

/-! ## Control transfers (R330, R338, R340) -/

/-- An unfinished control transfer is abandoned (R340). -/
def usbAbandon (s : State) : State :=
  match s.usb.ctrl with
  | some _ => bump (setUsb s { s.usb with ctrl := none }) Pg.usf F.USF_CTRL_ABANDON
  | none => s

/-- The function enters the Default state (R336, R337, R340, R341): an ACK that meets the reset is lost. -/
def usbFnReset (s : State) : State :=
  let s0 := usfToggles (usbAbandon s)
  let s1 := setUsb s0 { s0.usb with ackDue := false, repDue := false }
  let s2 := setB (setB (setB s1 Pg.usf F.USF_STAT_CONFIGURED false) Pg.usf F.USF_STAT_SUSPENDED false) Pg.usf F.USF_STAT_REMOTE_WAKE_EN false
  setB (setB (setB s2 Pg.usf F.USF_STAT_EP1_OUT_HALT false) Pg.usf F.USF_STAT_EP1_IN_HALT false) Pg.usf F.USF_STAT_EP2_HALT false

/-- A downstream port of the hub is reset by the host (R327): it is enabled, and C_PORT_RESET is set when the reset ends. -/
def usbResetPort (s : State) (k : Nat) : State :=
  if k < 1 ∨ 4 < k ∨ usbPort s k F.USB_PORT_CONNECT = false then s
  else
    let s1 := usbChange (setUsbPort (setUsbPort s k F.USB_PORT_ENABLE true) k F.USB_PORT_SUSPEND false) k 4
    let s2 := bump s1 Pg.usb F.USB_PORT_RESETS
    if k = 4 then usbFnReset s2 else s2

/-- A bus reset from upstream (R336, R340): the hub and the function enter the Default state. -/
def usbUpReset (s : State) (high : Bool) : State :=
  if getF s Pg.usb F.USB_STAT_UP_STATE = 0 then s
  else
    let s1 := setB (setF s Pg.usb F.USB_STAT_ADDR 0) Pg.usb F.USB_STAT_HIGH_SPEED high
    let s2 := usbUp (setUsb s1 { s1.usb with hubCfg := false, hubWake := false }) 1
    let s3 := [1, 2, 3].foldl (fun a k =>
      usbPower (setF (setUsbPort (setUsbPort (setUsbPort a k F.USB_PORT_CONNECT false) k F.USB_PORT_ENABLE false) k F.USB_PORT_SUSPEND false)
        Pg.usb F.USB_PORT_CHANGE 0 (k - 1)) k false) s2
    usbFnReset (setUsbPort (setUsbPort s3 4 F.USB_PORT_ENABLE false) 4 F.USB_PORT_SUSPEND false)

/-- The hub (0) or a port enters suspend; the enabled function enters it with port 4 (R339). -/
def usbSuspendAt (s : State) (k : Nat) : State :=
  let fn (a : State) : State :=
    if usfOn a && !getB a Pg.usf F.USF_STAT_SUSPENDED then
      setUsb (setB a Pg.usf F.USF_STAT_SUSPENDED true) { a.usb with woken := false, suspAt := a.watchNs }
    else a
  if k = 0 then
    (if getF s Pg.usb F.USB_STAT_UP_STATE = 1 ∨ getF s Pg.usb F.USB_STAT_UP_STATE = 2 then fn (usbUp s 3) else s)
  else if k ≤ 4 ∧ usbPort s k F.USB_PORT_ENABLE = true then
    (let s1 := setUsbPort s k F.USB_PORT_SUSPEND true
     if k = 4 then fn s1 else s1)
  else s

/-- Resume and what meets it (R340). -/
def usbResumeMeet (s : State) (k : Nat) (m : UsbMeet) : State :=
  match m with
  | .none => usbResumeAt s k
  | .reset => if k = 0 then usbUpReset s (getB s Pg.usb F.USB_STAT_HIGH_SPEED) else usbResetPort s k
  | .disconnect => if k = 0 then s else usbUnplug s k
  | .wake => usbResumeAt (setUsb s { s.usb with woken := true }) k

/-- A function suspended for at least 5 ms signals remote wakeup for a ready block or report (R339). -/
def usfWake (s : State) : State :=
  let due := (!s.usb.resp.isEmpty || usfFields s != s.usb.report) && decide (s.usb.suspAt + 5000000 ≤ s.watchNs)
  if getB s Pg.usf F.USF_STAT_SUSPENDED && getB s Pg.usf F.USF_STAT_REMOTE_WAKE_EN && getB s Pg.usf F.USF_CTL_WAKE_ON_RESP && due && !s.usb.woken then
    let s1 := emit (setUsb s { s.usb with woken := true }) (.event 0x339 0)
    usbResumeAt (usbResumeAt s1 4) 0
  else s

/-- The halt and toggle of an endpoint of the function (R336). -/
def usfHalt (s : State) (ep : Nat) (v : Bool) : State :=
  if ep = 0x01 then setB s Pg.usf F.USF_STAT_EP1_OUT_HALT v
  else if ep = 0x81 then setB s Pg.usf F.USF_STAT_EP1_IN_HALT v
  else if ep = 0x82 then setB s Pg.usf F.USF_STAT_EP2_HALT v else s

/-- CLEAR_FEATURE(ENDPOINT_HALT) (R336). -/
def usfClearHalt (s : State) (ep : Nat) : State :=
  let s1 := usfHalt s ep false
  setUsb s1 { s1.usb with
    togOut := s1.usb.togOut && ep != 0x01, togIn := s1.usb.togIn && ep != 0x81, togRep := s1.usb.togRep && ep != 0x82 }

/-- SET_CONFIGURATION of the hub or of the function (R336, R341). -/
def usbSetCfg (s : State) (hub : Bool) (value : Nat) : State :=
  if hub then
    (if getF s Pg.usb F.USB_STAT_UP_STATE = 0 then s
     else usbUp (setUsb s { s.usb with hubCfg := value != 0 }) (if value = 0 then 1 else 2))
  else
    let s1 := usfToggles (setUsb s { s.usb with ctrl := none })
    usfHalt (usfHalt (usfHalt (setB s1 Pg.usf F.USF_STAT_CONFIGURED (value != 0)) 0x01 false) 0x81 false) 0x82 false

/-- SET_INTERFACE of the function: its one interface holds every endpoint (R330, R336). -/
def usbSetIf (s : State) : State :=
  let s1 := usfToggles (setUsb s { s.usb with ctrl := none })
  usfHalt (usfHalt (usfHalt s1 0x01 false) 0x81 false) 0x82 false

/-- A port feature of the hub class (USB 2.0; PRESUMED). -/
def usbPortFeature (s : State) (setIt : Bool) (feature k : Nat) : State :=
  if k < 1 ∨ 4 < k then s
  else if setIt then
    (if feature = 4 then usbResetPort s k
     else if feature = 2 then usbSuspendAt s k
     else if feature = 8 ∧ k ≤ 3 ∧ usbDis s k = false then usbPower (setUsbPort s k F.USB_PORT_OVER_CURRENT false) k true
     else s)
  else
    (if feature = 1 then setUsbPort s k F.USB_PORT_ENABLE false
     else if feature = 2 then usbResumeAt s k
     else if feature = 8 ∧ k ≤ 3 then usbPower (usbUnplug s k) k false
     else if 16 ≤ feature ∧ feature ≤ 20 then
      (let w := getF s Pg.usb F.USB_PORT_CHANGE (k - 1)
       setF s Pg.usb F.USB_PORT_CHANGE (if w.testBit (feature - 16) then w - 2 ^ (feature - 16) else w) (k - 1))
     else s)

/-- The fixed bytes of a device descriptor (R325): USB 2.0, the product, and for the hub its class. -/
def usbDevDesc (hub : Bool) (i : Nat) : Option Byte :=
  match i with
  | 0 => some 18#8
  | 1 => some 1#8
  | 2 => some 0x00#8
  | 3 => some 0x02#8
  | 4 => if hub then some 9#8 else none
  | 6 => if hub then some 1#8 else none
  | 7 => some 64#8
  | 10 => some (if hub then 0x50#8 else 0x51#8)
  | 11 => some 0x06#8
  | 17 => some 1#8
  | _ => none

/-- The fixed bytes of the hub's configuration and interface (R325): one interface of the hub class, self-powered, remote wakeup, bMaxPower 0. -/
def usbHubCfgDesc (i : Nat) : Option Byte :=
  [some 9#8, some 2#8, some 25#8, some 0#8, some 1#8, none, none, some 0xE0#8, some 0#8,
   some 9#8, some 4#8, some 0#8, some 0#8, some 1#8, some 9#8, some 0#8, some 0#8].getD i none

/-- The fixed bytes of the function's configuration, interface and endpoints (R330). -/
def usbFnCfgDesc (i : Nat) : Option Byte :=
  [some 9#8, some 2#8, some 39#8, some 0#8, some 1#8, none, none, none, none,
   some 9#8, some 4#8, some 0#8, some 0#8, some 3#8, some 0xFF#8, some 0x4F#8, some 0x01#8, none,
   some 7#8, some 5#8, some 0x01#8, some 2#8, some 0x00#8, some 0x02#8, none,
   some 7#8, some 5#8, some 0x81#8, some 2#8, some 0x00#8, some 0x02#8, none,
   some 7#8, some 5#8, some 0x82#8, some 3#8, some 16#8, some 0#8, some 4#8].getD i none

/-- The fixed bytes of the hub descriptor (R325): four ports, power switching and over-current per port, port 4 non-removable. -/
def usbHubDesc (i : Nat) : Option Byte := [some 9#8, some 0x29#8, some 4#8, none, none, none, some 0#8, some 0x10#8].getD i none

/-- A descriptor: the fields that spec/13 fixes, and the others from the image's set (R325, log entry 15). -/
def usbDescriptor (hub : Bool) (type index : Nat) : List Byte :=
  let build (n : Nat) (f : Nat → Option Byte) : List Byte := (List.range n).map fun i => (f i).getD (Config.usbDescByte hub type index i)
  if type = 1 then build 18 (usbDevDesc hub)
  else if type = 2 then (if hub then build 25 usbHubCfgDesc else build 39 usbFnCfgDesc)
  else if type = 0x29 ∧ hub = true then build 9 usbHubDesc
  else build (Config.usbDescLen hub type index) fun _ => none

/-- The status of a port as the hub class reports it (USB 2.0, log entry 15). -/
def usbPortStatus (s : State) (k : Nat) : List Byte :=
  let bit (f : FieldD) (b : Nat) : Nat := if usbPort s k f then 2 ^ b else 0
  let sp := getF s Pg.usb F.USB_PORT_SPEED (k - 1)
  let st := bit F.USB_PORT_CONNECT 0 + bit F.USB_PORT_ENABLE 1 + bit F.USB_PORT_SUSPEND 2 + bit F.USB_PORT_OVER_CURRENT 3 + bit F.USB_PORT_RESET 4 +
    bit F.USB_PORT_POWER 8 + (if sp = 1 then 2 ^ 9 else 0) + (if sp = 2 then 2 ^ 10 else 0)
  leBytes 2 st ++ leBytes 2 (getF s Pg.usb F.USB_PORT_CHANGE (k - 1))

/-- The data stage of an IN request follows its SETUP. -/
def usbData (s : State) (st data : List Byte) : State := usbOut (usbOut s usbAck []) 4 (data.take (leAt st 6 2))

/-- A SETUP packet to the hub or to the function (R338, R340): the earlier transfer is abandoned, and any vendor request but ABORT
and GET_STATE is answered with a STALL. Other requests are over with it, but for those with rows of their own (DESIGN CHOICE, log entry 165). -/
def usbSetupPkt (s0 : State) (hub : Bool) (st : List Byte) : State :=
  let t := beAt st 0 1
  let r := beAt st 1 1
  let v := leAt st 2 2
  let x := leAt st 4 2
  if hub then
    (if t = 0x80 ∧ r = 6 ∨ t = 0xA0 ∧ r = 6 then usbData s0 st (usbDescriptor true (v / 256) (v % 256))
     else if t = 0xA3 ∧ r = 0 ∧ 1 ≤ x ∧ x ≤ 4 then usbData s0 st (usbPortStatus s0 x)
     else if t = 0x00 ∧ (r = 3 ∨ r = 1) ∧ v = 1 then usbOut (setUsb s0 { s0.usb with hubWake := r == 3 }) usbAck []
     else if t = 0x00 ∧ r = 5 then usbOut (setF s0 Pg.usb F.USB_STAT_ADDR (v % 128)) usbAck []
     else if t = 0x23 ∧ (r = 3 ∨ r = 1) then usbOut (usbPortFeature s0 (r == 3) v (x % 256)) usbAck []
     else usbOut s0 usbAck [])
  else if !usfOn s0 then s0
  else
    let s := usbAbandon s0
    if t / 32 % 4 = 2 then
      (if (t = 0x41 ∧ r = 0x01) ∨ (t = 0xC1 ∧ r = 0x02) then usbOut (setUsb s { s.usb with ctrl := some st }) usbAck []
       else usbOut s usbStall [])
    else if t = 0x80 ∧ r = 6 then usbData s st (usbDescriptor false (v / 256) (v % 256))
    else if t = 0x00 ∧ r = 3 ∧ v = 1 then usbOut (setB s Pg.usf F.USF_STAT_REMOTE_WAKE_EN true) usbAck []
    else if t = 0x00 ∧ r = 1 ∧ v = 1 then usbOut (setB s Pg.usf F.USF_STAT_REMOTE_WAKE_EN false) usbAck []
    else if t = 0x02 ∧ r = 3 ∧ v = 0 then usbOut (usfHalt s x true) usbAck []
    else usbOut s usbAck []

/-- Upstream VBUS crosses a threshold (R325, R474): the hub attaches once start-up has completed, or detaches. -/
def usbVbus (s : State) (present : Bool) : State :=
  let s1 := setB s Pg.usb F.USB_STAT_VBUS present
  if present then (if s.usb.ready && getF s Pg.usb F.USB_STAT_UP_STATE == 0 then usbUp s1 1 else s1)
  else usbUp (setUsb s1 { s1.usb with hubCfg := false }) 0

/-- Start-up has completed: the hub may attach (R342). -/
def usbService (s : State) : State :=
  usbVbus (setUsb s { s.usb with ready := true }) (getB s Pg.usb F.USB_STAT_VBUS)

/-- The function across a block reset of USF or a warm reset (R342): waiting blocks are discarded, open transactions become orphans,
and port 4 reports a disconnect until the enable is judged again. -/
def usfReset (s : State) : State :=
  let s1 := usfDiscard (usfDropHand (usbUnplug s 4)) s.usb.resp.length
  let s2 := setB (setB (setB s1 Pg.usf F.USF_STAT_ENABLED false) Pg.usf F.USF_STAT_CONFIGURED false) Pg.usf F.USF_STAT_SUSPENDED false
  setUsb s2 { s2.usb with
    xfers := [], resp := [], inFlight := none, repFlight := none, ctrl := none
    opens := s2.usb.opens.map fun o => { o with orphan := true } }

/-- A block reset of USB (R342): the pull-up is removed, and ports 1 to 3 are powered off. -/
def usbReset (s : State) : State :=
  usfReset ([1, 2, 3].foldl (fun a k => usbPower (usbUnplug a k) k false) (usbUp (setUsb s { s.usb with hubCfg := false }) 0))

end Sys2Proof.Machine
end

