-- ==== Sys2Proof/Machine/Rules.lean ====
section
/-! DEFINITION. The checks of configuration values (R35): ranges, rules that relate fields to each other, and refusals while a block
is in use. A check answers the cause that the page records. -/

namespace Sys2Proof.Machine

/-- Bits of the register at `off` of page `p` that belong to a field with one of these access codes. -/
def accMask (p off : Nat) (ok : Acc → Bool) : Word :=
  (fieldsAt p off).foldl (fun a fi => if ok fi.1.acc then a ||| BitVec.ofNat 32 ((2 ^ fi.1.w - 1) * 2 ^ fi.1.lo) else a) 0#32

def isWritable : Acc → Bool
  | .rw => true | .rwl => true | _ => false

/-- A field of the register lies outside its stated range (R35), with this value. -/
def rangeBad (p off : Nat) (v : Word) : Bool :=
  (fieldsAt p off).any fun fi =>
    (isWritable fi.1.acc || fi.1.acc == .wo) &&
    (decide (wordBits v fi.1.lo fi.1.w < fi.1.least) || decide (fi.1.greatest < wordBits v fi.1.lo fi.1.w))

/-- A code that a bench's input selector takes (R287). -/
def selOk (c : Nat) : Bool := c ≤ 0xC4 || (0xD0 ≤ c && c ≤ 0xD7) || c == 0xFE || c == 0xFF

/-- The instance of an array that the offset addresses. -/
def arrIx (off base stride : Nat) : Nat := (off - base) / stride

/-- A rule between fields of one class 4 or port sluice entry, checked when its CTL word commits them (R171, R175, R177). -/
def sluRuleBad (c : State) (p i : Nat) : Bool :=
  p == Pg.slu40 &&
  ((56 ≤ i && (!getB c p F.SLU_CTL_EN i || decide (getF c p F.SLU_RATE_RATE i < 1000))) ||
   (decide (i < 56) && i % 8 == 4 && getB c p F.SLU_CTL_EN i && decide (getF c p F.SLU_RATE_RATE i < 1000)))

/-- An EtherType that KVL refuses (R79). -/
def etypeBad (e : Nat) : Bool := e == 0x892F || e == 0x88FB || e == 0x88F7 || e == 0x8100 || decide (e < 0x0600)

/-- The pin assigns a signal that another pin carries (R344). -/
def pinTaken (c : State) (n : Nat) : Bool :=
  decide (3 ≤ pinFunc c n) && (assignedPins c).any fun q => q != n && pinFunc c q == pinFunc c n && pinInst c q == pinInst c n && pinSig c q == pinSig c n

/-- The rules that relate fields of the register at `off` of page `p` to each other and to other registers, on the configuration
that `c` holds (R35, R414). -/
def crossBad (c : State) (p off : Nat) : Option Nat :=
  let v := getW c p off
  let bad (b : Bool) (cause : Nat) : Option Nat := if b then some cause else none
  let r (b : Bool) : Option Nat := bad b Cause.range
  if 0x010 ≤ p ∧ p ≤ 0x013 then (if off = 0x40 then portCfgRefusal c (portOf (p - 0x010)) v else none)
  else if p = Pg.kvl then
    (if off = 0x40 then r (etypeBad (getF c p F.KVL_ETYPE_ETYPE)) else none)
  else if p = Pg.buf then r ((off == 0x40 || off == 0x44) && decide (44928 < poolMin c 0 + poolMin c 1 + poolMin c 2))
  else if p = Pg.jrn then r (off == 0x40 && getF c p F.JRN_CFG_DENSITY == 3 && getF c p F.JRN_CFG_RANKS == 1)
  else if p = Pg.cul ∨ p = Pg.gen then
    r (((p == Pg.cul && off == 0x4C) || (p == Pg.gen && off == 0xCC)) &&
      decide (getF c Pg.cul F.CUL_BOUND0_RSP < getF c Pg.gen F.GEN_HANG_BOUND1_FIELD + 64))
  else if 0x090 ≤ p ∧ p ≤ 0x0D0 then
    r (decide (0x100 ≤ off) && decide (off < 0x900) &&
      ((off % 32 == 8 && sluRuleBad c p (arrIx off 0x108 32)) || (off % 32 == 0 && p == Pg.slu40 && decide (0x800 ≤ off) && decide (v.toNat < 1000))))
  else if 0x040 ≤ p ∧ p ≤ 0x07F then
    r (decide (0x100 ≤ off) && off % 32 == 0 && wordBits v 2 3 == 4)
  else if p = Pg.nod then
    (if 0x100 ≤ off ∧ off < 0x180 ∧ off % 8 = 4 then r (rbBad (getW c p (off - 4)) v) else none)
  else if p = Pg.win then
    (if 0x100 ≤ off ∧ off < 0x500 ∧ off % 64 = 0x10 then obRefusal c (arrIx off 0x110 64) (obStaged c (arrIx off 0x110 64) v)
     else if 0x600 ≤ off ∧ off < 0x700 ∧ off % 32 = 0x10 then ibRefusal c (arrIx off 0x610 32) (ibStaged c (arrIx off 0x610 32) v)
     else none)
  else if p = Pg.trg then
    (if 0x100 ≤ off ∧ off < 0x200 ∧ off % 32 = 0x14 then
       let t := arrIx off 0x114 32
       r (trigBad (wordBits v 0 2) (getF c p F.TRG_START_NS_NS t) (getF c p F.TRG_PERIOD_NS_PERIOD t) (wordBits v 8 16))
     else none)
  else if p = Pg.par then
    r (off == 0x5C && (List.range 16).any fun n => wordBits v (2 * n) 2 == 3)
  else if p = Pg.mon then r ((fieldAt F.MON_WIN_LO off).isSome && decide (wordBits v F.MON_WIN_HI.lo 12 < wordBits v F.MON_WIN_LO.lo 12))
  else if 0x100 ≤ p ∧ p ≤ 0x11F then
    (if off = 0x50 then r (decide (getF c p F.SER_WMARK_HIGH ≤ getF c p F.SER_WMARK_LOW))
     else if off = 0x70 then r (wordBits v 0 1 == 1 && pushCfgBad v (epAddr c (p - 0x100)))
     else none)
  else if 0x120 ≤ p ∧ p ≤ 0x12F then
    (if off = 0x50 then r ([0, 8, 16, 24].any fun l => !selOk (wordBits v l 8))
     else if off = 0x5C then r (decide (0xBF < wordBits v 16 8))
     else if off = 0x70 then r (decide (getF c p F.BEN_WMARK_HIGH ≤ getF c p F.BEN_WMARK_LOW))
     else if off = 0x90 then r (wordBits v 0 1 == 1 && pushCfgBad v (epAddr c (p - 0x100)))
     else none)
  else if p = Pg.pin then
    (if 0x100 ≤ off ∧ off < 0x400 then
       let n := arrIx off 0x100 4
       if !pinAssignOk (pinFunc c n) (pinInst c n) (pinSig c n) then some Cause.range
       else if getB c Pg.par F.PAR_CTL_EN && getF c p F.PIN_CFG_LOST n != 0 then some Cause.range
       else bad (pinTaken c n) 0x40
     else none)
  else if 0x138 ≤ p ∧ p ≤ 0x13F then
    (if off = 0x44 ∨ off = 0x48 then r (canTimingBad (getW c p 0x44) (getW c p 0x48))
     else if off = 0x78 then r (!([0, 1, 3, 7, 15, 31, 63].contains (wordBits v 0 6)))
     else none)
  else none

/-- OPEN_COUNT of a flow context. -/
def openCount (s : State) (flow : Nat) : Nat := (flowOf s flow).opens.length

/-- Refusals while a block is in use (R54, R116, R268, R278, R303, R311, R344, R355): `v` is what the register would hold. -/
def busyBad (s : State) (p off : Nat) (v : Word) : Option Nat :=
  let old := getW s p off
  let bad (b : Bool) (cause : Nat) : Option Nat := if b then some cause else none
  if 0x040 ≤ p ∧ p ≤ 0x07F then
    (if 0x100 ≤ off ∧ off < 0x900 then
       let fl := (p - 0x040) * 64 + (off - 0x100) / 32
       bad (isTarget s fl || (off % 32 < 8 && decide (0 < openCount s fl))) 0x44
     else none)
  else if 0x100 ≤ p ∧ p ≤ 0x11F then
    (if (off = 0x40 ∨ off = 0x44 ∨ off = 0x4C ∨ off = 0x54) ∧ pageEnabled s p = true then some 0x41
     else if off = 0x70 then bad (getB s p F.SER_PUSH_CFG_EN && v >>> 1 != old >>> 1) 0x42
     else if off = 0x74 ∨ off = 0x78 then bad (getB s p F.SER_PUSH_CFG_EN && v != old) 0x42
     else none)
  else if 0x120 ≤ p ∧ p ≤ 0x12F then
    (if off = 0x90 then bad (getB s p F.BEN_PUSH_CFG_EN && v >>> 1 != old >>> 1) 0x45
     else if off = 0x94 ∨ off = 0x98 then bad (getB s p F.BEN_PUSH_CFG_EN && v != old) 0x45
     else none)
  else if 0x138 ≤ p ∧ p ≤ 0x13F then
    (if (off = 0x40 ∨ off = 0x44 ∨ off = 0x48 ∨ off = 0x74 ∨ off = 0x78) ∧ pageEnabled s p = true then some 0x41
     else if 0x200 ≤ off ∧ off < 0xE00 then bad (canReq s (p - 0x138) ((off - 0x200) / 96)) 0x40
     else if off = 0x68 then bad (canRdBad s (p - 0x138) (wordBits v 0 16)) 0x42
     else none)
  else if p = Pg.soe then (if off = 0x44 then bad (soeRdBad s (wordBits v F.SOE_RD_RD.lo F.SOE_RD_RD.w)) 0x40 else none)
  else if p = Pg.pin then
    (if 0x100 ≤ off ∧ off < 0x400 then pinCfgRefusal s ((off - 0x100) / 4) v else none)
  else if p = Pg.par then bad (off == 0x40 && v.getLsbD 0 != old.getLsbD 0) 0x41
  else none

/-- A commit that clears EN of an outbound window, which nothing refuses (R191). -/
def obClears (p off : Nat) (v : Word) : Bool := p == Pg.win && 0x100 ≤ off && off < 0x500 && off % 64 == 0x10 && !v.getLsbD 0

/-- What refuses a write that leaves `v` in the register (R35): its range, a rule between fields, or a block in use. -/
def valueBad (s : State) (p off : Nat) (v : Word) : Option Nat :=
  if obClears p off v then none
  else if rangeBad p off v then some Cause.range
  else match busyBad s p off v with
    | some c => some c
    | none => crossBad (setW s p off v) p off

end Sys2Proof.Machine
end

