-- ==== Sys2Proof/Machine/Reset.lean ====
section
/-! DEFINITION. What a block reset and a warm reset do to a page and to its block (R10, R55, R126, R157, R178, R214, R244). -/

namespace Sys2Proof.Machine

/-- A register word after a warm or block reset of its page (R10): fields whose Warm column reads Cleared take their reset value. -/
def warmWord (p off : Nat) (v : Word) : Word :=
  (fieldsAt p off).foldl (fun a fi => if fi.1.warmClears then wordPut a fi.1.lo fi.1.w (fieldReset fi.1 fi.2) else a) v

/-- The registers of the pages that `sel` accepts, by their Warm column. -/
def warmRegs (s : State) (sel : Nat → Bool) : State :=
  { s with regs := s.regs.map fun e => if sel (e.1 / 1024) then (e.1, warmWord (e.1 / 1024) (4 * (e.1 % 1024)) e.2) else e }

/-- The token register at byte offset `off` of a headgate or sluice page holds the entry's burst. -/
def fullTokens (s : State) (p off : Nat) (v : Word) : Word :=
  if 0x080 ≤ p ∧ p ≤ 0x08F ∧ 0x100 ≤ off ∧ off < 0x500 ∧ off % 16 = 8 then BitVec.ofNat 32 (wordBits (getW s p (off - 4)) 0 24)
  else if 0x090 ≤ p ∧ p ≤ 0x0D0 ∧ 0x100 ≤ off ∧ off < 0x900 ∧ off % 32 = 12 then getW s p (off + 8)
  else v

/-- The token counts of the headgate and sluice pages that `sel` accepts are set to BURST (R178); their remainders are cleared (log entry 150). -/
def tokensFull (s : State) (sel : Nat → Bool) : State :=
  let s1 := { s with regs := s.regs.map fun (e : Nat × Word) => if sel (e.1 / 1024) then (e.1, fullTokens s (e.1 / 1024) (4 * (e.1 % 1024)) e.2) else e }
  { s1 with meter := { s1.meter with rem := s1.meter.rem.filter fun e => !sel (e.1 / 1024),
                                     waits := s1.meter.waits.filter fun e => !sel (e.2.2 / 1024) } }

/-- Frames of a flow that have not left are lost on the wire: its records wait for retransmission (R126, R157); a timer that starts takes
TIMER.RETRIES (R116). -/
def flowLost (retries : Nat) (f : IFlow) : IFlow :=
  let inF (q : Nat) : Bool := f.furrow.any fun b => b.seqs.contains q
  { f with
    furrow := []
    opens := f.opens.map fun o => if inF o.seq then { o with sent := true } else o
    timer := f.timer || !f.furrow.isEmpty
    retries := if f.timer || f.furrow.isEmpty then f.retries else retries }

/-- Transactions whose initiator `sel` accepts become orphans (R129, R485). -/
def flowOrphan (sel : Nat → Bool) (f : IFlow) : IFlow :=
  let mark (t : Txn) : Txn := if sel t.init then { t with orphan := true } else t
  { f with
    opens := f.opens.map fun o => { o with txn := mark o.txn }
    waiting := f.waiting.map mark }

/-- The flows that `sel` accepts lose the frames that have not left. -/
def loseFlows (s : State) (sel : Nat → Bool) : State :=
  { s with seq := { s.seq with flows := s.seq.flows.map fun e => if sel e.1 then (e.1, flowLost (flowRetries s e.1) e.2) else e } }

/-- Transactions not yet accepted whose initiator `sel` accepts are given up: their tags are free again. -/
def dropUnaccepted (s : State) (sel : Nat → Bool) : State :=
  let gone := s.seq.flows.flatMap fun e => (e.2.waiting.filter fun t => sel t.init).map (·.tag)
  let s1 := mapFlows s fun f => { f with waiting := f.waiting.filter fun t => !sel t.init }
  let s2 := gone.foldl freeTag s1
  { s2 with seq := { s2.seq with tagWait := s2.seq.tagWait.filter fun t => !sel t.init } }

/-- The access is one that a block of page `p` executes: its registers, or the window or table of its endpoint. -/
def itemOfPage (p off : Nat) : Bool :=
  match regionOf off with
  | .page q => p == q
  | .fifo n _ => p == 0x100 + n
  | .bench n => p == 0x120 + n
  | _ => false

/-- EXECs for the block of page `p` that the field die holds without having executed them complete with this status (R29, R55).
`n` bounds their number. -/
def abortExecs : Nat → State → Nat → Nat → Nat → State
  | 0, s, _, _, _ => s
  | n + 1, s, p, status, cause =>
    match takeRing s (fun i => match i with | .exec e => itemOfPage p e.off | _ => false) with
    | some (.exec e, s1) => abortExecs n (noteErr (fieldItem s1 (.done e.id status cause [])) p status cause 0) p status cause
    | _ => s

/-- What waits for FIFO room at the field die (R101) with this EXEC: the target context of its record or, as 4096 and its number, a broadcast
EVENT (log entry 148). -/
def streamWaits (s : State) (e : Exec) : Option Nat :=
  match e.org with
  | .ofCtx c q => match headHeld s c with
    | some h => if h.seq == q && h.st == .stream then some c else none
    | none => none
  | .acc _ n => if e.full then some (4096 + n) else none
  | .pendRead => none

/-- An EXEC begins or ends its wait for FIFO room; it holds its credit for the whole wait (R251). -/
def streamMark (s : State) (e : Exec) (on : Bool) : State :=
  let s1 := setCul s { s.cul with fieldFreed := atVc s.cul.fieldFreed 0 fun n => if on then n - 1 else n + 1 }
  match e.org with
  | .ofCtx c _ => setHeldSt s1 c (if on then .stream else .inField)
  | _ => setCul s1 { s1.cul with execs := mapIf (·.id == e.id) (fun x => { x with full := on }) s1.cul.execs }

/-- The records that wait for room in a FIFO of page `p` complete with this status. -/
def abortStreams (s : State) (p status cause : Nat) : State :=
  (s.cul.execs.filter fun e => itemOfPage p e.off).foldl (fun a e =>
    if (streamWaits a e).isSome then streamMark (fieldItem (noteErr a p status cause 0) (.done e.id status cause [])) e false else a) s

/-- Inbound transactions that `sel` accepts complete with this status. -/
def abortInbound (s : State) (sel : IbTxn → Bool) (status cause : Nat) : State :=
  (s.brg.ibTxns.filter sel).foldl (fun a t =>
    let tag := ((headHeld a t.ctx).map (·.req.tag)).getD 0
    ibEnd (noteErr a Pg.brg status cause 0) t.ctx (ansRec status cause tag)) s

/-- An OFFER that the ring die has not taken is withdrawn: it leaves the field die's queue, or the ring die's slot. -/
def dropOffer (s : State) (p : Push) : State :=
  let mine : Item → Bool := fun i => match i with | .offer t g _ => t == p.tag && g == p.gen | _ => false
  let s1 := setCul s { s.cul with fieldW := s.cul.fieldW.filter fun i => !mine i }
  match takeField s1 mine with
  | some r => r.2
  | none => s1

/-- The pushes of endpoint `ep` that have no acceptance end with this status (R29, R55, R126, R280). After a block reset their tags return
without a word to the endpoint; those that the ring die knows stay busy until their CPL items come. -/
def endPushes (s : State) (ep status cause : Nat) : State :=
  let mine := s.fld.pushes.filter fun p => p.ep == ep && !p.accepted && !p.orphan
  let known (p : Push) : Bool := s.cul.offers.any fun o => o.tag == p.tag && o.gen == p.gen
  let s1 := if status = St.aborted then
      { s with fld := { s.fld with pushes := mapIf (fun p => p.ep == ep) (fun p => { p with words := 0, orphan := true }) s.fld.pushes } }
    else s
  let s2 := (mine.filter fun p => !known p).foldl (fun a p => pushCpl (dropOffer (noteErr a (epPage ep) status cause 0) p) p.tag p.gen status cause) s1
  endUnaccepted s2 (fun t => t.init == 0x4000 + ep) status cause (epPage ep)

/-- EXECs that wait for the culvert complete HANG with it (R29). -/
def hangExecs (s : State) (cause : Nat) : State :=
  let waiting := s.cul.ringW.filterMap fun i => match i with | .exec e => some e | _ => none
  waiting.foldl (fun a e => execEnd (noteErr a Pg.cul St.hang cause 0) e St.hang cause [])
    (setCul s { s.cul with ringW := s.cul.ringW.filter fun i => match i with | .exec _ => false | _ => true })

/-- The items that the block of page `p` holds and has not executed complete with this status (R29, R55). A HANG takes every item; the records
of the sequencing engine are its items only then (R55, R126). -/
def endItems (s : State) (p status cause : Nat) : State :=
  let s1 := if isFieldPage p then abortStreams (abortExecs s.cul.ringS.length s p status cause) p status cause else s
  if p = Pg.brg ∨ p = Pg.win then
    abortInbound (brgReset s1 true status cause) (fun t => !t.begun || status == St.hang) status cause
  else if 0x100 ≤ p ∧ p ≤ 0x12F then endPushes s1 (if p < 0x120 then p - 0x100 else 32 + (p - 0x120)) status cause
  else if p = Pg.usf ∨ p = Pg.usb then endUnaccepted s1 (fun t => t.init == 0x3000) status cause p
  else if status = St.hang then
    (if p = Pg.seq then endTagWait (endUnaccepted s1 (fun _ => true) status cause p) status cause p
     else if 0x040 ≤ p ∧ p ≤ 0x07F then endUnaccepted s1 (fun t => flwPg t.flow == p) status cause p
     else if p = Pg.cul then hangExecs s1 cause
     else s1)
  else s1

/-- A switch in hand ends without its commit (R418, R419): LAST_RESULT ABANDONED, with a cause where one is given. What was held for it
resumes; a bench that was stopped for it starts again without a clearing start. -/
def switchAbandon (s : State) (cause : Nat) : State :=
  match s.start.job with
  | none => s
  | some j =>
    let s1 := setF (setF s Pg.drw F.DRW_STAT_PHASE 0) Pg.drw F.DRW_STAT_LAST_RESULT 3
    let s2 := bump { s1 with start := { s1.start with job := none } } Pg.drw F.DRW_REFUSALS
    let s3 := if cause = 0 then s2 else noteErr s2 Pg.drw 0 cause 0
    let s4 := j.benches.foldl (fun a n => setF a (Pg.ben n) F.BEN_STAT_RUN_STATE 1) s3
    if j.fwu = 1 then
      let s5 := setF (setF s4 Pg.fwu F.FWU_STAT_STATE 3) Pg.fwu F.FWU_STAT_LAST 6
      let s6 := { s5 with fwu := { s5.fwu with job := 0 } }
      if cause = 0 then s6 else noteErr (setF s6 Pg.fwu F.FWU_REFUSE_CAUSE cause) Pg.fwu 0 cause 0
    else if j.fwu = 2 then { s4 with fwu := { s4.fwu with soakBad := true } }
    else s4

/-- A staging or an activation before its commit ends ABANDONED (R431, R440). -/
def fwuAbandon (s : State) : State :=
  if s.fwu.job = 0 then s
  else if s.fwu.job = 3 then switchAbandon s 0
  else
    let s1 := setF (setF s Pg.fwu F.FWU_STAT_LAST 6) Pg.fwu F.FWU_STAT_STATE 0
    { s1 with fwu := { s1.fwu with job := 0, push := [] } }

/-- Test unlock ends and every PERTURB is cleared (R451). -/
def testUnlockEnd (s : State) : State :=
  if getB s Pg.prt F.PRT_STAT_TEST_UNLOCK then
    let s1 := irqEvent (setB s Pg.prt F.PRT_STAT_TEST_UNLOCK false) Pg.prt 2
    { s1 with regs := s1.regs.filter fun e => e.1 % 1024 != 9 }
  else s

/-- What a pass in hand leaves when it ends early: LAST ABORTED, the tests not yet finished SKIPPED (R444). -/
def passAbort (s : State) : State :=
  match s.test.pass with
  | none => s
  | some _ =>
    let en := getF s Pg.bst F.BST_CTL_EN
    let res := (List.range 8).foldl (fun a k => a + (if en.testBit k then 3 * 4 ^ k else 0)) 0
    let n := ((List.range 8).filter en.testBit).length
    let s1 := setF (setF (setB s Pg.bst F.BST_STAT_BUSY false) Pg.bst F.BST_STAT_LAST 3) Pg.bst F.BST_RESULT_TEST res
    bump { s1 with test := { s1.test with pass := none } } Pg.bst F.BST_SKIPS n

/-- The servo across a block reset of TMK or a warm reset: LOCKING where EN is 1 (R244). -/
def servoRestart (s : State) : State :=
  if getB s Pg.tmk F.TMK_SERVO_CTL_EN then servoState s 1 else s

/-- A write of BLOCK_RESET (R55): the block takes no new items, and what it holds ends. -/
def blockReset (s : State) (p : Nat) : State :=
  let s1 := endItems (setF s p F.PAGE_STAT_STATE 2) p St.aborted 0
  if p = Pg.cul then culRspWait s1
  else if p = Pg.usf then mapFlows (usfReset s1) (flowOrphan fun i => i / 4096 == 3)
  else if p = Pg.usb then mapFlows (usbReset s1) (flowOrphan fun i => i / 4096 == 3)
  else if 0x100 ≤ p ∧ p ≤ 0x12F then mapFlows s1 (flowOrphan fun i => i == 0x4000 + (p - 0x100))
  else if p = Pg.fwu then fwuAbandon s1
  else if p = Pg.drw then switchAbandon s1 0
  else if 0x138 ≤ p ∧ p ≤ 0x13F then canAbort s1 (p - 0x138)
  else if p = Pg.bst then passAbort s1
  else if p = Pg.prt then testUnlockEnd s1
  else s1

/-- The block's own state across the reset, once its page's fields have been treated (R10). -/
def blockState (s : State) (p : Nat) : State :=
  if p = Pg.seq then loseFlows s fun _ => true
  else if 0x040 ≤ p ∧ p ≤ 0x07F then loseFlows s fun fl => flwPg fl == p
  else if p = Pg.slu40 then { tokensFull s (· == p) with sw := { s.sw with deficit := [] } }
  else if 0x080 ≤ p ∧ p ≤ 0x0D0 then tokensFull s (· == p)
  else if 0x100 ≤ p ∧ p ≤ 0x11F then serReset s (p - 0x100)
  else if 0x120 ≤ p ∧ p ≤ 0x12F then benReset s (p - 0x120) (!pairSilent s && pageEnabled s p)
  else if 0x138 ≤ p ∧ p ≤ 0x13F then canReset s (p - 0x138)
  else if p = Pg.pin ∨ p = Pg.dis ∨ p = Pg.soe then soeReset s
  else if p = Pg.tmk then { servoRestart s with time := { (servoRestart s).time with resid := [] } }
  else if p = Pg.tsq then { s with time := { s.time with tsq := [] } }
  else if p = Pg.trg then { s with time := { s.time with cap := [] } }
  else if p = Pg.par then
    { s with pair := { s.pair with startHold := true, slots := s.pair.slots.map fun e => (e.1, { e.2 with held := false, pend := none }) } }
  else if p = Pg.mir then (if getB s Pg.par F.PAR_CTL_EN then mirrorGone s 1 else s)
  else if p = Pg.jrn then bump s Pg.jrn F.JRN_SR_ENTRIES
  else s

/-- A block reset ends (R10, R55): the page's fields are treated by their Warm column, and STATE returns to RUN or OFF. -/
def blockResetEnd (s : State) (p : Nat) : State :=
  if pageBusyState s p = 2 then
    let s1 := blockState (setF (warmRegs s (· == p)) p F.PAGE_STAT_STATE 0) p
    if p = Pg.usf then usfEval s1
    else if p = Pg.usb then usfEval (usbVbus ([1, 2, 3].foldl (fun a k => usbPower a k (!usbDis a k)) s1) (getB s1 Pg.usb F.USB_STAT_VBUS))
    else s1
  else s

/-- The pages that a warm reset treats by their Warm column (R407 step 3). -/
def warmPage (p : Nat) : Bool :=
  !(p == Pg.gen || p == Pg.rst || p == Pg.drw || p == Pg.chs || p == Pg.pwr || p == Pg.mon)

/-- Held records are dropped at a warm reset, but for those in execution (R126, R407). -/
def dropHeld (s : State) : State :=
  let keep (h : Held) (begun : Bool) : Bool := match h.st with | .inField => true | .stream => true | .waitHost => begun | _ => false
  let s1 := { s with seq := { s.seq with ctxs := s.seq.ctxs.map fun e =>
    (e.1, { e.2 with held := e.2.held.filter fun h => keep h (s.brg.ibTxns.any fun t => t.ctx == e.1 && t.begun), deferred := false }) } }
  let s2 := setBrg s1 { s1.brg with ibTxns := s1.brg.ibTxns.filter (·.begun) }
  setCul s2 { s2.cul with ringW := s2.cul.ringW.filter fun i => match i with | .exec e => (match e.org with | .ofCtx _ _ => false | _ => true) | _ => true }

/-- Every frame in the buffer is discarded as lost on the wire, and its cells are counted (R157); what waits for cells at its source ends too. -/
def dropFrames (s : State) : State :=
  let tags := s.sw.frames.flatMap fun e => e.2.bcastTags
  let cells := (s.sw.frames.map fun e => e.2.reserve + e.2.shared).foldl (· + ·) 0
  let s1 := { s with sw := { s.sw with
    frames := [], link := [], queues := [], onWire := [], localQ := [], ownWait := [], tcWire := [], cur := [], fresh := [], deficit := [] } }
  let s2 := { bump s1 Pg.buf F.BUF_RECLAIMED cells with seq := { s1.seq with cplOut := [], answers := [] } }
  tags.foldl (fun a t => bcastEnd a t true) s2

/-- Steps 1 to 3 of a warm reset (R407). -/
def warmReset (s : State) : State :=
  let s0 := (List.range 8).foldl canAbort { s with
    seq := { s.seq with running := false }
    start := { s.start with service := false } }
  let s1 := setF (setF (setF s0 Pg.rst F.RST_CAUSE_WARM 1) Pg.rst F.RST_STAT_KIND 2) Pg.seq F.SEQ_START_KIND 2
  let s2 := dropHeld (dropFrames (loseFlows s1 fun _ => true))
  let s3 := brgReset (dropUnaccepted s2 fun i => i / 4096 == 2 || i / 4096 == 5) true St.aborted 0
  let s4 := mapFlows (usfReset (fwuAbandon (passAbort (testUnlockEnd s3)))) (flowOrphan fun i => 2 ≤ i / 4096)
  let s5 := servoRestart (tokensFull (warmRegs s4 warmPage) fun p => 0x080 ≤ p && p ≤ 0x0D0)
  let s6 := { s5 with time := { s5.time with resid := [], tsq := [], cap := [] } }
  let s7 := (List.range 48).foldl (fun x ep =>
    let a := endPushes x ep St.aborted 0
    if ep < 32 then serReset a ep else benReset a (ep - 32) (!pairSilent a && pageEnabled a (Pg.ben (ep - 32)))) s6
  let s8 := soeReset ((List.range 8).foldl canReset s7)
  let s9 := if getB s8 Pg.par F.PAR_CTL_EN && pairRole s8 == 3 then setMir s8 1 else s8
  bump (setF (culRspWait (usfEval s9)) Pg.jrn F.JRN_STAT_STATE 3) Pg.jrn F.JRN_SR_ENTRIES

end Sys2Proof.Machine
end

