-- ==== Sys2Proof/Machine/Hooks.lean ====
section
/-! DEFINITION. What follows when a configuration register has taken a new value, by register write or by drawer commit. -/

namespace Sys2Proof.Machine

/-- A headgate entry commits what its RATE and CTL words hold (R175). -/
def hdgCommit (s : State) (pg i : Nat) : State :=
  let burst := getF s pg F.HDG_CTL_BURST i
  let fill := getF s pg F.HDG_CTL_CHG_FILL i
  let tok := if fill = 0 then burst else if fill = 1 then 0 else min (getF s pg F.HDG_TOKENS_TOKENS i) burst
  let s1 := setF s pg F.HDG_TOKENS_TOKENS tok i
  { s1 with meter := { s1.meter with hdgRate := tabSet s1.meter.hdgRate (1024 * pg + i) (getF s pg F.HDG_RATE_RATE i) } }

/-- A staged headgate rate leaves the active rate as it was (R175). -/
def hdgStage (s : State) (pg i : Nat) (old : Word) : State :=
  match tabGet s.meter.hdgRate (1024 * pg + i) with
  | some _ => s
  | none => { s with meter := { s.meter with hdgRate := tabSet s.meter.hdgRate (1024 * pg + i) old.toNat } }

/-- A sluice entry commits what its RATE, BURST and CTL words hold (R175). -/
def sluCommit (s : State) (pg i : Nat) : State :=
  let burst := getF s pg F.SLU_BURST_BURST i
  let fill := getF s pg F.SLU_CTL_CHG_FILL i
  let tok : Int := if fill = 0 then burst else if fill = 1 then 0 else min (sluTokens s pg i) burst
  let s1 := setF (setF s pg F.SLU_ACT_RATE_RATE (getF s pg F.SLU_RATE_RATE i) i) pg F.SLU_ACT_BURST_BURST burst i
  setF s1 pg F.SLU_TOKENS_TOKENS (ofSigned 32 tok) i

/-- An outbound window commits (R191); its lines are discarded where it is disabled (R207). -/
def obCommit (s : State) (w : Nat) (v : Word) : State :=
  let n := obStaged s w v
  let s1 := if n.en then s else discardParts s fun p => p.win == w
  setBrg s1 { s1.brg with ob := tabSet s1.brg.ob w n }

/-- An inbound window commits (R209). -/
def ibCommit (s : State) (k : Nat) (v : Word) : State :=
  setBrg s { s.brg with ib := tabSet s.brg.ib k (ibStaged s k v) }

/-- A re-basing entry changes as a whole (R99). -/
def rbCommit (s : State) (k : Nat) (v : Word) : State :=
  { s with ring := { s.ring with rb := tabSet s.ring.rb k (getW s Pg.nod (0x100 + 8 * k), v) } }

/-- A context is set VALID (R115, R116): it has not sent, and its next record carries FIRST. -/
def flwCommit (s : State) (flow : Nat) (old new : Word) : State :=
  if new.getLsbD 0 && !old.getLsbD 0 then setFlow s flow { flowOf s flow with sentOnce := false, first := true, st := .opened, pathFence := false, verFence := false, floorAdv := oldestOpen (flowOf s flow), closedNN := [] }
  else s

/-- The counters of a page are copied into a snapshot when FREEZE goes to 1 (R56). -/
def freezePage (s : State) (p : Nat) : State :=
  let mine (e : Nat × Word) : Bool := e.1 / 1024 == p
  let snap := (s.regs.filter fun e => mine e && (fieldsAt p (4 * (e.1 % 1024))).any fun fi => fi.1.frozen)
  { s with frozen := snap.foldl (fun t e => tabSet t e.1 e.2) (s.frozen.filter fun e => !mine e) }

/-- PAGE_CTL has taken a value (R54, R56, R268, R290, R303): a CAN port that is enabled integrates first, and a bench that is disabled stops. -/
def pageCtlNote (s : State) (p : Nat) (old new : Word) : State :=
  let s1 := if new.getLsbD 2 && !old.getLsbD 2 then freezePage s p else s
  if new.getLsbD 0 == old.getLsbD 0 then s1
  else if 0x138 ≤ p ∧ p ≤ 0x13F then setB s1 p F.CAN_STAT_SYNC false
  else if 0x100 ≤ p ∧ p ≤ 0x11F then serEnableNote s1 (p - 0x100) (new.getLsbD 0)
  else if 0x120 ≤ p ∧ p ≤ 0x12F ∧ new.getLsbD 0 = false then benStop s1 (p - 0x120) 5
  else if p = Pg.usf then usfEval s1
  else s1

/-- A 1 has been written to IRQ_EN bits (R57): a raw source becomes pending. -/
def irqEnNote (s : State) (p : Nat) (ones : Word) : State :=
  setW s p 0x18 (getW s p 0x18 ||| (getW s p 0x10 &&& ones))

/-- The endpoint of a page: SERnn and BENnn. -/
def pageEp (p : Nat) : Nat := p - 0x100

/-- PUSH_CFG has taken a value (R278, R279): EN going to 1 forms pushes again; positions go on from the last accepted one. -/
def pushCfgNote (s : State) (p : Nat) (old new : Word) : State :=
  if new.getLsbD 0 && !old.getLsbD 0 then
    let ep := pageEp p
    let s1 := if (openPushes s ep).isEmpty then setFifo s ep { fifoOf s ep with posForm := getF s p (epFld ep F.SER_PUSH_STAT_POS F.BEN_PUSH_STAT_POS) } else s
    setCul s1 { s1.cul with refusedEp := s1.cul.refusedEp.filter fun r => r.1 != 0x4000 + ep }
  else s

/-- The bounds that the field die times with are copied to it (R28, R262). -/
def boundsNote (s : State) : State :=
  if culUp s then ringCfg s (.bounds (getF s Pg.gen F.GEN_HANG_BOUND1_FIELD) (getF s Pg.cul F.CUL_BOUND0_SYMBOL)) else s

/-- KVL.VER.EN has changed: the old version set holds until the next ANNOUNCE and until the next HELLO (R86). -/
def verStage (s : State) (old : Nat) : State :=
  { s with ring := { s.ring with verOld := some (s.ring.verOld.getD old), helloOld := some (s.ring.helloOld.getD old) } }

/-- This hub's number, or a re-basing entry, has changed. -/
def nodeNote (s : State) (off : Nat) (old new : Word) : State :=
  if off = 0x40 then nodeNumber s (wordBits old 0 6) (wordBits new 0 6)
  else if 0x100 ≤ off ∧ off < 0x180 ∧ off % 8 = 4 then rbCommit s ((off - 0x104) / 8) new
  else s

/-- What follows from register `off` of page `p` having taken its new value; `old` is the value before. -/
def afterWrite (s : State) (p off : Nat) (old : Word) : State :=
  let new := getW s p off
  if off = 0x08 then pageCtlNote s p old new
  else if off < 0x40 then s
  else if p = Pg.gen then (if off = 0xCC then boundsNote s else s)
  else if p = Pg.cul then (if off = 0x4C then boundsNote s else s)
  else if p = Pg.prt then (if off = 0x40 ∧ getB s p F.PRT_CTL_ALLOW = false then testUnlockEnd s else s)
  else if 0x010 ≤ p ∧ p ≤ 0x013 then (if off = 0x40 then portCfgSet (setW s p off old) (portOf (p - 0x010)) new else s)
  else if p = Pg.kvl then (if off = 0x44 ∧ wordBits old 0 3 ≠ wordBits new 0 3 then verStage s (wordBits old 0 3) else s)
  else if p = Pg.nod then nodeNote s off old new
  else if p = Pg.tmk then
    (if off = 0x74 then servoCtlNote s else if off = 0x8C ∧ old ≠ new then setFreq (setW s p off old) (toSigned 32 new.toNat) else s)
  else if p = Pg.win then
    (if 0x100 ≤ off ∧ off < 0x500 ∧ off % 64 = 0x10 then obCommit s (arrIx off 0x110 64) new
     else if 0x600 ≤ off ∧ off < 0x700 ∧ off % 32 = 0x10 then ibCommit s (arrIx off 0x610 32) new
     else s)
  else if p = Pg.trg then (if 0x100 ≤ off ∧ off < 0x200 ∧ off % 32 = 0x14 then trigCommit s (arrIx off 0x114 32) new else s)
  else if 0x040 ≤ p ∧ p ≤ 0x07F then
    (if 0x100 ≤ off ∧ off < 0x900 ∧ off % 32 = 0 then flwCommit s ((p - 0x040) * 64 + arrIx off 0x100 32) old new else s)
  else if 0x080 ≤ p ∧ p ≤ 0x08F then
    (if 0x100 ≤ off ∧ off < 0x500 ∧ off % 16 = 4 then hdgCommit s p (arrIx off 0x104 16)
     else if 0x100 ≤ off ∧ off < 0x500 ∧ off % 16 = 0 then hdgStage s p (arrIx off 0x100 16) old
     else s)
  else if 0x090 ≤ p ∧ p ≤ 0x0D0 then
    (if 0x100 ≤ off ∧ off < 0x900 ∧ off % 32 = 8 then sluCommit s p (arrIx off 0x108 32) else s)
  else if 0x100 ≤ p ∧ p ≤ 0x11F then (if off = 0x70 then pushCfgNote s p old new else s)
  else if 0x120 ≤ p ∧ p ≤ 0x12F then (if off = 0x90 then pushCfgNote s p old new else s)
  else if p = Pg.pin then (if 0x100 ≤ off ∧ off < 0x400 then pinCfgNote s ((off - 0x100) / 4) old new else s)
  else if p = Pg.dis then (if 0xA0 ≤ off ∧ off < 0xB8 then doWriteOut (setW s p off old) ((off - 0xA0) / 4) new else s)
  else if p = Pg.pwr then (if off = 0x40 then retryNote s old else s)
  else if p = Pg.usb then (if off = 0x40 then usbPortDis s else s)
  else if p = Pg.usf then (if off = 0x40 then usfEval s else s)
  else s

end Sys2Proof.Machine
end

