-- ==== Sys2Proof/Machine/Drawer.lean ====
section
/-! DEFINITION. Drawers (R413 to R421): their bytes, the check of a whole drawer, loading, the SAFE configuration, the hitless switch and
SAVE. -/

namespace Sys2Proof.Machine

/-! ## Where drawers stand (R422) -/

/-- Where drawer `d` of set `set` starts, from chest byte 0x20_0000 on. -/
def drawerBase (set d : Nat) : Nat := set * 0x100000 + d * 0x40000

/-- The active drawer set: the slot of the newest commit record (R433); set A before the first. -/
def activeSet (s : State) : Nat := ((s.start.commits.getLast?).map (·.slot)).getD 0

/-- `n` bytes of a drawer from byte `o` of it. -/
def drawerBytes (s : State) (set d o n : Nat) : List Byte := memRead s.start.drawers (drawerBase set d + o) n

/-- The state with `bs` written from byte `o` of a drawer on. -/
def drawerPut (s : State) (set d o : Nat) (bs : List Byte) : State :=
  { s with start := { s.start with drawers := memWrite s.start.drawers (drawerBase set d + o) bs } }

def drawerMagic : Nat := 0x7EC40D17

/-- LENGTH of a drawer. -/
def drawerLen (s : State) (set d : Nat) : Nat := leNat (drawerBytes s set d 8 4)

/-- The CRC of a drawer matches (R413). -/
def drawerCrcOk (s : State) (set d : Nat) : Bool :=
  let n := drawerLen s set d
  let bs := drawerBytes s set d 0 (min n 262144)
  decide (64 ≤ n) && decide (n ≤ 262144) &&
    crc32c (putBytes bs 60 [0, 0, 0, 0]) == leNat (drawerBytes s set d 60 4)

/-- The slot holds a drawer. -/
def drawerPresent (s : State) (set d : Nat) : Bool := leNat (drawerBytes s set d 0 4) == drawerMagic

/-! ## The check (R414) -/

/-- One word that a drawer gives: page, page offset and value; or bench, entry and value of a table. -/
inductive DrawerWord where
  | reg (p off : Nat) (v : Word)
  | tab (n e : Nat) (v : Word)
  deriving DecidableEq, Repr

/-- Words from the values of a record, from page word or table entry `w` on. -/
def drawerWords (bench : Bool) (p : Nat) : Nat → List Byte → Nat → List DrawerWord
  | 0, _, _ => []
  | n + 1, bs, w =>
    let v : Word := BitVec.ofNat 32 (leNat (bs.take 4))
    (if bench then .tab (p - 0x120) w v else .reg p (4 * w) v) :: drawerWords bench p n (bs.drop 4) (w + 1)

/-- The records of a drawer, or the first reason that refuses it: reason, page, word (R414). `n` bounds their number. -/
def drawerRecords : Nat → List Byte → Except (Nat × Nat × Nat) (List DrawerWord)
  | 0, _ => .ok []
  | _ + 1, [] => .ok []
  | n + 1, bs =>
    let p := leNat (bs.take 2)
    let ver := leAt bs 2 1
    let kind := leAt bs 3 1
    let w := leAt bs 4 2
    let c := leAt bs 6 2
    if bs.length < 8 + 4 * c then .error (2, p, w % 1024)
    else if pageAssigned p = false ∨ 0x200 ≤ p then .error (4, p % 4096, w % 1024)
    else if (pageIdent p).2.2 < ver then .error (5, p, w % 1024)
    else if 1 < kind ∨ c = 0 ∨ 1024 < w + c ∨ (kind = 1 ∧ ¬(0x120 ≤ p ∧ p ≤ 0x12F)) then .error (6, p, w % 1024)
    else
      match drawerRecords n (bs.drop (8 + 4 * c)) with
      | .error e => .error e
      | .ok ws => .ok (drawerWords (kind == 1) p c (bs.drop 8) w ++ ws)

/-- The Drawer fields of `old` replaced by those of `new` (R414). -/
def drawerMerge (p off : Nat) (old new : Word) : Word :=
  (fieldsAt p off).foldl (fun a fi => if fi.1.src == .drawer then wordPut a fi.1.lo fi.1.w (wordBits new fi.1.lo fi.1.w) else a) old

/-- A Drawer field of the register lies outside its range (R35). -/
def drawerRangeBad (p off : Nat) (v : Word) : Bool :=
  (fieldsAt p off).any fun fi =>
    fi.1.src == .drawer && (decide (wordBits v fi.1.lo fi.1.w < fi.1.least) || decide (fi.1.greatest < wordBits v fi.1.lo fi.1.w))

/-- The default of a register in the factory drawers: that of its page map, where the rates of the port sluices of E and W depend on the
grade (R184). -/
def drawerDefault (s : State) (p off : Nat) : Word :=
  if s.dev.grade = 1 ∧ p = Pg.slu40 ∧ (off = 0x800 ∨ off = 0x820) then 10000000#32 else resetWord p off

/-- The registers as they stand, with every Drawer field at its default. -/
def drawerDefaults (s : State) : State :=
  let s1 := { s with regs := s.regs.map fun (e : Nat × Word) =>
      (e.1, drawerMerge (e.1 / 1024) (4 * (e.1 % 1024)) e.2 (drawerDefault s (e.1 / 1024) (4 * (e.1 % 1024)))) }
  if s.dev.grade = 1 then [0x800, 0x820].foldl (fun a off => setW a Pg.slu40 off (drawerDefault s Pg.slu40 off)) s1 else s1

/-- The words of a drawer over a configuration. -/
def drawerApply (s : State) (ws : List DrawerWord) : State :=
  ws.foldl (fun a w => match w with
    | .reg p off v => if (fieldsAt p off).any (fun fi => fi.1.src == .drawer) then setW a p off (drawerMerge p off (getW a p off) v) else a
    | .tab _ _ _ => a) s

/-- The windows that the registers of a configuration describe (R191, R209). -/
def windowsOf (s : State) : Tab ObWin × Tab IbWin :=
  ((List.range 16).filterMap fun w => let n := obStaged s w (getW s Pg.win (0x110 + 64 * w)); if n.en then some (w, n) else none,
   (List.range 8).filterMap fun k => let n := ibStaged s k (getW s Pg.win (0x610 + 32 * k)); if n.en then some (k, n) else none)

/-- The configuration that a drawer would produce (R414): the structures that a commit would take stand as the registers say. -/
def drawerCandidate (s : State) (ws : List DrawerWord) : State :=
  let s1 := drawerApply (drawerDefaults s) ws
  let w := windowsOf s1
  setBrg s1 { s1.brg with ob := w.1, ib := w.2, linkCfg := getW s1 Pg.brg 0x48, opens := [] }

/-- The checks of R76 and R355 on a configuration. -/
def pairConfigBad (c : State) : Bool :=
  getB c Pg.par F.PAR_CTL_EN &&
    (isCoupler c || !([Port.c1, Port.c2].any fun p => portRole c p == 3) || getF c Pg.par F.PAR_CTL_PAIR_NODE == getF c Pg.nod F.NOD_SELF_NODE ||
     getF c Pg.par F.PAR_CTL_PAIR_NODE == 0 || decide (62 < getF c Pg.par F.PAR_CTL_PAIR_NODE) ||
     isGroup (pairMac c) || !(pairMac c).testBit 41 || (List.range 192).any fun n => getF c Pg.pin F.PIN_CFG_LOST n != 0)

/-- The registers whose rules a drawer's words may touch: each word's own, and those of its entry. -/
def drawerTouched (ws : List DrawerWord) : List (Nat × Nat) :=
  ws.flatMap fun w => match w with
    | .reg p off _ => [(p, off), (p, off / 32 * 32 + 4), (p, off / 32 * 32 + 8), (p, off / 64 * 64 + 16), (p, off / 32 * 32 + 16), (p, off / 32 * 32 + 20)]
    | .tab _ _ _ => []

/-- What refuses the words of a drawer, as reason, page and word (R414). -/
def drawerWordsBad (c : State) (ws : List DrawerWord) : Option (Nat × Nat × Nat) :=
  let bad := ws.filterMap fun w => match w with
    | .reg p off v => if drawerRangeBad p off (drawerMerge p off 0#32 v) && (fieldsAt p off).any (fun fi => fi.1.src == .drawer) then some (6, p, off / 4) else none
    | .tab _ _ _ => none
  match bad.head? with
  | some r => some r
  | none =>
    match (drawerTouched ws).find? (fun x => (crossBad c x.1 x.2).isSome) with
    | some x => some (7, x.1, x.2 / 4)
    | none => if pairConfigBad c then some (7, Pg.par, 0x10) else none

/-- Drawer `d` of a set, checked as a whole: its words, or the first reason that refuses it (R414). `ecc`: a word of it has an uncorrectable
error (R423). -/
def drawerCheck (s : State) (set d : Nat) (ecc : Bool) : Except (Nat × Nat × Nat) (List DrawerWord) :=
  let magic := leNat (drawerBytes s set d 0 4)
  if magic = 0 then .error (8, 0, 0)
  else if magic ≠ drawerMagic then .error (1, 0, 0)
  else if leNat (drawerBytes s set d 4 2) ≠ 1 then .error (2, 0, 0)
  else if ecc || !drawerCrcOk s set d then .error (3, 0, 0)
  else
    let n := drawerLen s set d
    match drawerRecords (n / 8) (drawerBytes s set d 64 (n - 64)) with
    | .error e => .error e
    | .ok ws =>
      match drawerWordsBad (drawerCandidate s ws) ws with
      | some e => .error e
      | none => .ok ws

/-- DRW.REFUSE takes the first reason of a refused drawer, and the load counts as refused (R414). -/
def drawerRefuse (s : State) (e : Nat × Nat × Nat) : State :=
  let s1 := setF (setF (setF s Pg.drw F.DRW_REFUSE_WHY e.1) Pg.drw F.DRW_REFUSE_PAGE e.2.1) Pg.drw F.DRW_REFUSE_WORD e.2.2
  noteErr (irqEvent (bump s1 Pg.drw F.DRW_REFUSALS) Pg.drw 3) Pg.drw 0 0x40 0

/-! ## Loading at start-up -/

/-- The tables that a drawer gives its benches; their entries have good parity. -/
def tablesApply (s : State) (ws : List DrawerWord) : State :=
  ws.foldl (fun a w => match w with
    | .tab n e v =>
      let b := benOf a n
      setBen a n { b with table := if v = 0#32 then tabDel b.table e else tabSet b.table e v, badParity := b.badParity.filter (· != e) }
    | .reg _ _ _ => a) s

/-- The committed state of every block as the registers now describe it: what a load at start-up leaves (R175, R244, R298, R354). -/
def deriveAll (s : State) : State :=
  let w := windowsOf s
  let s1 := setBrg s { s.brg with ob := w.1, ib := w.2, linkCfg := getW s Pg.brg 0x48 }
  let s2 := { s1 with ring := { s1.ring with rb := (List.range 16).map fun k => (k, getW s1 Pg.nod (0x100 + 8 * k), getW s1 Pg.nod (0x104 + 8 * k)) } }
  let hdg := s2.regs.filterMap fun e =>
    if 0x080 ≤ e.1 / 1024 ∧ e.1 / 1024 ≤ 0x08F ∧ 0x40 ≤ e.1 % 1024 ∧ e.1 % 1024 < 0x140 ∧ e.1 % 4 = 1 then some (e.1 / 1024, (e.1 % 1024 - 0x40) / 4) else none
  let slu := s2.regs.filterMap fun e =>
    if 0x090 ≤ e.1 / 1024 ∧ e.1 / 1024 ≤ 0x0D0 ∧ 0x40 ≤ e.1 % 1024 ∧ e.1 % 1024 < 0x240 ∧ e.1 % 8 < 2 then some (e.1 / 1024, (e.1 % 1024 - 0x40) / 8) else none
  let s3 := hdg.foldl (fun a x => setF a x.1 F.HDG_TOKENS_TOKENS (getF a x.1 F.HDG_CTL_BURST x.2) x.2) s2
  let s4 := slu.foldl (fun a x =>
    let b := getF a x.1 F.SLU_BURST_BURST x.2
    setF (setF (setF a x.1 F.SLU_ACT_RATE_RATE (getF a x.1 F.SLU_RATE_RATE x.2) x.2) x.1 F.SLU_ACT_BURST_BURST b x.2) x.1 F.SLU_TOKENS_TOKENS b x.2) s3
  let s5 := setF (couplerUpdate s4) Pg.tmk F.TMK_FREQ_FREQ 0
  let s6 := (List.range 16).foldl (fun a n =>
    let b := benClear a n
    if getB b (Pg.ben n) F.BEN_CTL_AUTO_RUN && pageEnabled b (Pg.ben n) && !pairSilent b then setF b (Pg.ben n) F.BEN_STAT_RUN_STATE 1 else b) s5
  servoCtlNote (diRestart s6)

/-- A drawer that has passed its checks is in force at a start (R414). -/
def drawerLoad (s : State) (ws : List DrawerWord) (d : Nat) : State :=
  let s1 := tablesApply (drawerApply (drawerDefaults s) ws) ws
  let s2 := setB (setF s1 Pg.drw F.DRW_STAT_CURRENT d) Pg.drw F.DRW_STAT_SAFE false
  retryNote (setB (deriveAll (setF s2 Pg.drw F.DRW_STAT_SET (activeSet s2))) Pg.pwr F.PWR_STAT_BOOT false) (getW s Pg.pwr 0x40)

/-- Every assigned page. -/
def allPages : List Nat := (List.range 0x142).filter pageAssigned

/-- The SAFE configuration (R415): the defaults, with every field page disabled and every page but DRW locked. Page-map defaults already
give every port MODE 0, every context VALID 0, every pin FUNC 0, PAR.CTL.EN 0 and no service function. -/
def safeLoad (s : State) : State :=
  let s1 := allPages.foldl (fun a p =>
    let b := if isFieldPage p then setB a p F.PAGE_CTL_ENABLE false else a
    if p = Pg.drw then b else setB b p F.LOCK_LOCKED true) (drawerDefaults s)
  setB (setB (deriveAll s1) Pg.drw F.DRW_STAT_SAFE true) Pg.rst F.RST_STAT_SAFE true

/-! ## The hitless switch (R417 to R420) -/

/-- A switch is refused before it starts, or its command has no effect. -/
def drawerCmdRefuse (s : State) (cause : Nat) : State := noteErr s Pg.drw St.targetErr cause (0x44 / 4)

/-- A write of SWITCH that R417 to R419 take. -/
def switchStart (s : State) (d fwu set : Nat) : State :=
  setF { s with start := { s.start with job := some { drawer := d, set := set, fwu := fwu, flows := [], benches := [] } } } Pg.drw F.DRW_STAT_PHASE 1

/-- The registers that a switch to these words would change, as (page, offset), with their new values. -/
def switchChanges (s : State) (ws : List DrawerWord) : List (Nat × Nat × Word) :=
  let c := drawerApply (drawerDefaults s) ws
  c.regs.filterMap fun e =>
    let p := e.1 / 1024
    let off := 4 * (e.1 % 1024)
    let v := if off = 0x28 then e.2 ||| getW s p off else e.2
    if v = getW s p off then none else some (p, off, v)

/-- A field that R355 names would change (R420). -/
def pairFieldsChange (ch : List (Nat × Nat × Word)) : Bool :=
  ch.any fun x => x.1 == Pg.par && (x.2.1 == 0x40 || x.2.1 == 0x44 || x.2.1 == 0x48 || x.2.1 == 0x4C || x.2.1 == 0x50)

/-- The flow whose CFG or DST a register holds. -/
def flwOf (p off : Nat) : Option Nat :=
  if 0x040 ≤ p ∧ p ≤ 0x07F ∧ 0x100 ≤ off ∧ off < 0x900 ∧ off % 32 < 8 then some ((p - 0x040) * 64 + (off - 0x100) / 32) else none

/-- The benches whose program a switch changes (R293). -/
def switchBenches (ch : List (Nat × Nat × Word)) (ws : List DrawerWord) (s : State) : List Nat :=
  (List.range 16).filter fun n => benRun s n != 0 &&
    (ch.any (fun x => x.1 == Pg.ben n && benProgReg x.2.1) ||
     ws.any fun w => match w with | .tab m e v => m == n && benEntry s n e != v | .reg _ _ _ => false)

/-- LOADING has ended (R417, R418): the drawer is refused, or what it changes is brought idle. A standby's mirrored pages follow the holder
(R420). -/
def switchLoaded (s : State) (ecc : Bool) : State :=
  match s.start.job with
  | none => s
  | some j =>
    if getF s Pg.drw F.DRW_STAT_PHASE ≠ 1 then s
    else
      let fail (e : Nat × Nat × Nat) : State :=
        let s1 := setF (setF (drawerRefuse s e) Pg.drw F.DRW_STAT_PHASE 0) Pg.drw F.DRW_STAT_LAST_RESULT 2
        let s2 := { s1 with start := { s1.start with job := none } }
        if j.fwu = 1 then
          let s3 := setF (setF (setF s2 Pg.fwu F.FWU_STAT_STATE 3) Pg.fwu F.FWU_STAT_LAST 6) Pg.fwu F.FWU_REFUSE_CAUSE 0x40
          noteErr { s3 with fwu := { s3.fwu with job := 0 } } Pg.fwu 0 0x40 0
        else s2
      match drawerCheck s j.set j.drawer ecc with
      | .error e => fail e
      | .ok ws =>
        let ch := switchChanges s ws
        if getB s Pg.par F.PAR_CTL_EN && pairFieldsChange ch then switchAbandon (setF s Pg.drw F.DRW_STAT_LAST_RESULT 2) 0x44
        else
          let bs := switchBenches ch ws s
          let s1 := bs.foldl (fun a n => benStop a n 1) s
          setF { s1 with start := { s1.start with job := some { j with flows := ch.filterMap fun x => flwOf x.1 x.2.1, benches := bs } } } Pg.drw F.DRW_STAT_PHASE 2

/-- Everything that a switch holds is idle (R418). -/
def switchIdle (s : State) (j : SwitchJob) : Bool := j.flows.all fun f => openCount s f == 0

/-- The changed values of mirrored pages (R420). -/
def switchMirrored (s : State) (ch : List (Nat × Nat × Word)) : List (Nat × Nat × Word) :=
  (ch.filter fun x => mirroredReg s x.1 x.2.1)

/-- Every mirrored value of the commit is mirrored (R370, R420): none is needed, or the records of exactly these values are acknowledged. -/
def switchSent (s : State) (j : SwitchJob) (ch : List (Nat × Nat × Word)) : Bool :=
  !mirroring s || (switchMirrored s ch).isEmpty ||
    (match j.sent with | some (n, l) => l == switchMirrored s ch && mirAcked s n | none => false)

/-- The mirrored values that a holder's commit changes go to the standby first, as REG records; the commit waits for them (R420, log entry 187). -/
def switchMirror (s : State) (j : SwitchJob) (ch : List (Nat × Nat × Word)) : State :=
  let l := switchMirrored s ch
  if (match j.sent with | some (_, l0) => l0 == l | none => false) then s
  else
    let r := l.foldl (fun a x => mirrorPush a.2 6 true (4096 * x.1 + x.2.1) 0 (regBody x.1 x.2.1 (x.2.2 &&& accMask x.1 x.2.1 isWritable))) (0, s)
    { r.2 with start := { r.2.start with job := some { j with sent := some (r.1, l) } } }

/-- Registers of SER and CAN pages that R268 and R303 refuse while the port is enabled. -/
def serLocked (off : Nat) : Bool := [0x40, 0x44, 0x4C, 0x54].contains off
def canLocked (off : Nat) : Bool := [0x40, 0x44, 0x48, 0x74, 0x78].contains off

/-- One changed value applies at the commit (R418): a port or window that a write would not reach while it is enabled is disabled for it. -/
def commitOne (s : State) (x : Nat × Nat × Word) : State :=
  let p := x.1
  let off := x.2.1
  let old := getW s p off
  let win := decide (p = Pg.win ∧ 0x100 ≤ off ∧ off < 0x500)
  let s0 := if win then discardParts s fun q => q.win == (off - 0x100) / 64 else s
  let s1 := afterWrite (setW s0 p off x.2.2) p off old
  if 0x138 ≤ p ∧ p ≤ 0x13F ∧ canLocked off = true then setB s1 p F.CAN_STAT_SYNC false
  else if 0x100 ≤ p ∧ p ≤ 0x11F ∧ serLocked off = true ∧ pageEnabled s p = true then
    (let s2 := serEnableNote s1 (p - 0x100) false
     if pageEnabled s1 p then serEnableNote s2 (p - 0x100) true else s2)
  else if off = 0x14 then irqEnNote s1 p (x.2.2 &&& ~~~old)
  else s1

/-- The register whose write commits a staged word of its entry: a headgate, a sluice, a window, a re-basing entry. -/
def entryCtl (p off : Nat) : Option Nat :=
  if 0x080 ≤ p ∧ p ≤ 0x08F then (if 0x100 ≤ off ∧ off < 0x500 ∧ off % 16 = 0 then some (off + 4) else none)
  else if 0x090 ≤ p ∧ p ≤ 0x0D0 then (if 0x100 ≤ off ∧ off < 0x900 ∧ off % 32 < 8 then some (off - off % 32 + 8) else none)
  else if p = Pg.win then
    (if 0x100 ≤ off ∧ off < 0x500 ∧ off % 64 < 0x10 then some (off - off % 64 + 0x10)
     else if 0x600 ≤ off ∧ off < 0x700 ∧ off % 32 < 0x10 then some (off - off % 32 + 0x10)
     else none)
  else if p = Pg.nod then (if 0x100 ≤ off ∧ off < 0x180 ∧ off % 8 = 0 then some (off + 4) else none)
  else none

/-- An entry of which only staged words have changed commits them, with its own CHG_FILL (R178, R418). -/
def commitEntries (s : State) (ch : List (Nat × Nat × Word)) : State :=
  let ctls := (ch.filterMap fun x => (entryCtl x.1 x.2.1).map fun c => (x.1, c)).eraseDups
  (ctls.filter fun x => ch.all fun y => y.1 != x.1 || y.2.1 != x.2).foldl (fun a x => afterWrite a x.1 x.2 (getW a x.1 x.2)) s

/-- A commit record joins the 64 that the chest holds (R433). -/
def writeCommit (s : State) (c : Commit) : State :=
  let n := ((s.start.commits.getLast?).map (·.seq)).getD 0
  let l := s.start.commits ++ [{ c with seq := n + 1 }]
  let s1 := { s with start := { s.start with commits := l.drop (l.length - 64) } }
  setB s1 Pg.fwu F.FWU_STAT_OWNER_LOCK c.ownerLock

/-- COMMIT (R417 to R420): every changed value of a checked drawer applies at one point, and the switch is done. A switch that makes the hub
a pair member starts its pair role; one that leaves SAFE lets start-up go on from step 8 (R415). -/
def switchApply (s : State) (j : SwitchJob) (ws : List DrawerWord) : State :=
  let standby := getB s Pg.par F.PAR_CTL_EN && pairRole s != 2
  let ch := (switchChanges s ws).filter fun x => !(standby && mirroredReg s x.1 x.2.1)
  let s1 := tablesApply (commitEntries (ch.foldl commitOne s) ch) (if standby then [] else ws)
  let s2 := j.benches.foldl (fun a n => if getB a (Pg.ben n) F.BEN_CTL_AUTO_RUN && pageEnabled a (Pg.ben n) then benStart a n else a) s1
  let s3 := setF (setF (setF s2 Pg.drw F.DRW_STAT_PHASE 0) Pg.drw F.DRW_STAT_LAST_RESULT 1) Pg.drw F.DRW_STAT_CURRENT j.drawer
  let s4 := irqEvent (bump { s3 with start := { s3.start with job := none } } Pg.drw F.DRW_SWITCHES) Pg.drw 2
  if getB s4 Pg.drw F.DRW_STAT_SAFE then
    setF (setB (setB s4 Pg.drw F.DRW_STAT_SAFE false) Pg.rst F.RST_STAT_SAFE false) Pg.rst F.RST_STAT_STEP 8
  else if getB s Pg.par F.PAR_CTL_EN != getB s4 Pg.par F.PAR_CTL_EN then pairStart s4
  else s4

/-- QUIESCING has lasted QUIESCE_MS (R418). A switch whose REG records are sent has nothing left to quiesce. -/
def quiesceTimeout (s : State) : State :=
  if getF s Pg.drw F.DRW_STAT_PHASE = 2 && (s.start.job.bind (·.sent)).isNone then switchAbandon s 0x42 else s

/-- New acceptances on a flow wait for a switch in hand (R418). -/
def switchHolds (s : State) (flow : Nat) : Bool :=
  match s.start.job with
  | some j => getF s Pg.drw F.DRW_STAT_PHASE == 2 && j.flows.contains flow
  | none => false

/-! ## SAVE (R421) -/

/-- Registers of one page that follow each other, gathered: page, first word, values. -/
def gatherWords : List (Nat × Word) → List (Nat × List Word) → List (Nat × List Word)
  | [], acc => acc
  | (k, v) :: t, acc =>
    match acc.getLast? with
    | some (k0, vs) =>
      if k = k0 + vs.length ∧ k / 1024 = k0 / 1024 ∧ vs.length < 1024 then gatherWords t (acc.dropLast ++ [(k0, vs ++ [v])])
      else gatherWords t (acc ++ [(k, [v])])
    | none => gatherWords t [(k, [v])]

/-- One record of a drawer (R413). -/
def drawerRecBytes (page kind word : Nat) (vs : List Word) : List Byte :=
  leBytes 2 page ++ leBytes 1 (pageIdent page).2.2 ++ leBytes 1 kind ++ leBytes 2 word ++ leBytes 2 vs.length ++ (vs.flatMap fun v => leBytes 4 v.toNat)

/-- The records that give every Drawer field its running value. A field at its default needs none (R414). -/
def saveRecords (s : State) : List Byte :=
  let regs := s.regs.filterMap fun e =>
    let v := drawerMerge (e.1 / 1024) (4 * (e.1 % 1024)) 0#32 e.2
    if v = drawerMerge (e.1 / 1024) (4 * (e.1 % 1024)) 0#32 (drawerDefault s (e.1 / 1024) (4 * (e.1 % 1024))) then none else some (e.1, v)
  let tabs := (List.range 16).flatMap fun n => (gatherWords (benOf s n).table []).map fun r => drawerRecBytes (Pg.ben n) 1 r.1 r.2
  ((gatherWords regs []).flatMap fun r => drawerRecBytes (r.1 / 1024) 0 (r.1 % 1024) r.2) ++ tabs.flatten

/-- The drawer that a SAVE in hand is writing fails its CRC until the write ends (R421). -/
def saveBreak (s : State) (d : Nat) : State :=
  drawerPut s (activeSet s) d 60 ((drawerBytes s (activeSet s) d 60 4).map fun b => ~~~b)

/-- A write of SAVE (R421). -/
def saveStart (s : State) (d : Nat) : State :=
  setF { s with start := { s.start with saveTo := d } } Pg.drw F.DRW_STAT_PHASE 4

/-- A whole drawer with these records, its generation and its name. -/
def drawerImage (d gen : Nat) (name recs : List Byte) : List Byte :=
  let bs := leBytes 4 drawerMagic ++ leBytes 2 1 ++ leBytes 1 d ++ [0] ++ leBytes 4 (64 + recs.length) ++ leBytes 4 gen ++ name ++
    List.replicate 16 0 ++ recs
  putBytes bs 60 (leBytes 4 (crc32c bs))

/-- A SAVE completes: the drawer holds the running values, with GEN + 1. -/
def saveDone (s : State) : State :=
  if getF s Pg.drw F.DRW_STAT_PHASE ≠ 4 then s
  else
    let d := s.start.saveTo
    let set := activeSet s
    let had := drawerPresent s set d
    let gen := (if had then leNat (drawerBytes s set d 12 4) else 0) + 1
    let name := if had then drawerBytes s set d 16 32 else List.replicate 32 0
    setF (drawerPut s set d 0 (drawerImage d gen name (saveRecords s))) Pg.drw F.DRW_STAT_PHASE 0

/-- A write of DRW.CMD (R417, R419, R421), past the page lock. -/
def drawerCmd (s : State) (v : Word) : State :=
  let d := wordBits v 0 2
  if !v.getLsbD 2 && !v.getLsbD 3 then s
  else if getF s Pg.drw F.DRW_STAT_PHASE ≠ 0 ∨ getF s Pg.fwu F.FWU_STAT_STATE = 4 then drawerCmdRefuse s 0x41
  else if v.getLsbD 2 then switchStart s d 0 (activeSet s)
  else saveStart s d

end Sys2Proof.Machine
end

