-- ==== Sys2Proof/Machine/Restart.lean ====
section
/-! DEFINITION. RESET_N low and its release (R405, R408, R409, R449): what the chest, journal memory, the VIN domain and the retention memory
keep, and everything else at its reset value. -/

namespace Sys2Proof.Machine

/-- The registers that a pin reset recalls from journal memory (R323, R354, R416): CFG and DST of contexts, the pointers and numbers of the
CAN rings and of the SOE journal. -/
def recalledReg (p off : Nat) : Bool :=
  (flwOf p off).isSome || (0x138 ≤ p && p ≤ 0x13F && (off == 0x64 || off == 0x68 || off == 0x70)) ||
  (p == Pg.soe && (off == 0x40 || off == 0x44 || off == 0x4C))

/-- What journal memory holds of flow state. -/
def flowImage (s : State) : FlowImg :=
  { flows := s.seq.flows, ctxs := s.seq.ctxs, log := s.seq.log
    regs := s.regs.filter fun e => recalledReg (e.1 / 1024) (4 * (e.1 % 1024)) }

/-- The SEQ_LIMIT log of the chest (R128): every flow that has sent. -/
def limitLog (s : State) : Tab Nat :=
  s.seq.flows.foldl (fun t e => if e.2.nextSeq = 0 ∧ e.2.seqLimit = 65536 then t else tabSet t e.1 e.2.seqLimit) s.start.limits

/-- RESET_N goes low, or the board loses power (R162, R405): journal memory enters self-refresh, and the hub stops. -/
def resetEnter (s : State) : State :=
  if s.start.inReset then s
  else
    let s1 := if getF s Pg.drw F.DRW_STAT_PHASE = 4 then saveBreak s s.start.saveTo else s
    let s2 := bump (setF (setB s1 Pg.rst F.RST_CAUSE_PIN true) Pg.jrn F.JRN_STAT_STATE 3) Pg.jrn F.JRN_SR_ENTRIES
    let s3 := { s2 with
      seq := { s2.seq with running := false }
      start := { s2.start with
        inReset := true, service := false, journal := some (flowImage s), limits := limitLog s } }
    { s3 with fld := { s3.fld with permitSeen := false } }

/-- The registers that a release of RESET_N keeps: pages PWR and MON (R387), the causes and the chest's own, the last update result, and,
unless the board lost power, the retention memory and the scan state (R449, R458). -/
def keptReg (lost : Bool) (p off : Nat) : Bool :=
  p == Pg.pwr || p == Pg.mon || (p == Pg.rst && off == 0x44) || (p == Pg.chs && (off == 0x40 || off == 0x44 || off == 0x4C)) ||
  (p == Pg.prt && off == 0x48) || (!lost && ((p == Pg.bst && 0x58 ≤ off && off ≤ 0x64) || (p == Pg.fwu && off == 0x54)))

/-- The kept word: of PRT.STAT the level of TEST and, unless the board lost power, the scan state and the OTP block; of FWU.STAT the last
result; of CHS.STAT the checkpoint. -/
def keptWord (lost : Bool) (p off : Nat) (v : Word) : Word :=
  if p = Pg.prt ∧ off = 0x48 then v &&& (if lost then 0x2#32 else 0x1E#32)
  else if p = Pg.fwu ∧ off = 0x54 then v &&& 0xF0000#32
  else if p = Pg.chs ∧ off = 0x40 then v &&& 0xC#32
  else if p = Pg.rst ∧ off = 0x44 then v &&& 0x3#32
  else v

/-- The update registers that follow the chest: owner lock and key, the slot in force and the security counter (R433, R439). -/
def fwuShow (s : State) : State :=
  let c := s.start.commits.getLast?
  let s1 := setB (setB s Pg.fwu F.FWU_STAT_OWNER_LOCK ((c.map (·.ownerLock)).getD false)) Pg.fwu F.FWU_STAT_OWNER_KEY s.test.ownerKey.isSome
  setF (setF s1 Pg.fwu F.FWU_STAT_ACTIVE_SLOT ((c.map (·.slot)).getD 0)) Pg.fwu F.FWU_SECCNT_COUNT
    ((s.start.commits.map (·.secCnt)).foldl max 0)

/-- RESET_N rises with this level of PROF[1:0] (R408, R409): start-up stands at step 4, journal memory is still in
self-refresh (R162) and keeps the mirror log (R159). While the board is without power nothing happens. -/
def resetRelease (s : State) (prof : Nat) : State :=
  if !s.start.inReset || !s.pwr.run then s
  else
    let r := State.reset
    let lost := getB s Pg.pwr F.PWR_STAT_GATE_CYCLED
    let kept := (s.regs.filter fun e => keptReg lost (e.1 / 1024) (4 * (e.1 % 1024))).map fun (e : Nat × Word) =>
      (e.1, keptWord lost (e.1 / 1024) (4 * (e.1 % 1024)) e.2)
    let base := r.regs.filter fun e => e.1 / 1024 != Pg.pwr && e.1 / 1024 != Pg.rst
    let s1 : State := { r with
      pending := s.pending, out := s.out, fresh := s.fresh, dev := s.dev, pwr := s.pwr, jmem := s.jmem, watchNs := s.watchNs
      regs := kept.foldr (fun e t => tabSet t e.1 e.2) base
      pair := { r.pair with
        slots := s.pair.slots.map fun e => (e.1, { e.2 with held := false, pend := none })
        mOpen := s.pair.mOpen, mNext := s.pair.mNext, mCtx := s.pair.mCtx, mIntent := s.pair.mIntent, mTokens := s.pair.mTokens, mBegun := s.pair.mBegun
        mHsr := s.pair.mHsr }
      brg := { r.brg with perst := s.brg.perst }
      start := { s.start with inReset := false, service := false, job := none, usAt := s.watchNs, keepFlw := [] }
      fwu := { r.fwu with slots := s.fwu.slots, revoked := s.fwu.revoked, hitless := s.fwu.hitless, trialAt := s.fwu.trialAt, nonce := s.fwu.nonce }
      test := { s.test with
        flog := if lost then [] else s.test.flog, pass := none, offline := false, goAt := none, offFail := if lost then [] else s.test.offFail
        badCells := [], badWords := if lost then [] else s.test.badWords } }
    let s2 := setF (setF (setF s1 Pg.rst F.RST_STAT_STEP 4) Pg.rst F.RST_STAT_PROF prof) Pg.jrn F.JRN_STAT_STATE (if lost then 0 else 3)
    fwuShow (if getF s2 Pg.chs F.CHS_STAT_CKPT = 3 then setF s2 Pg.chs F.CHS_STAT_CKPT 0 else s2)

/-- A restart in every respect a pin reset, except that RESET_N stays high (R434, R447). PROF[1:0] has the level of its last sampling. -/
def restart (s : State) : State := resetRelease (resetEnter s) (getF s Pg.rst F.RST_STAT_PROF)

/-- A free value by its number, as two register words show it. -/
def freeWord (n half : Nat) : Word := BitVec.ofNat 32 ((Config.freeValue n).toNat / 2 ^ (32 * half))

/-- A register that shows a fresh random value takes the next free ones: the number of the first of `n`. -/
def drawFree (s : State) (n : Nat) : Nat × State := (s.fresh, { s with fresh := s.fresh + n })

end Sys2Proof.Machine
end

