-- ==== Sys2Proof/Machine/Fwu.lean ====
section
/-! DEFINITION. Firmware and configuration update (R425 to R440): the Birnus manifest, staging, activation, trial, fallback and the owner
commands. -/

namespace Sys2Proof.Machine

/-! ## The manifest (R426 to R429) -/

/-- A part entry (R428). -/
structure ManPart where
  type : Nat
  off : Nat
  len : Nat
  ver : Nat
  deriving DecidableEq, Repr

/-- Fields of the header of a payload (R427). -/
def manBlocks (b : List Byte) : Nat := leAt b 8 4
def manSec (b : List Byte) : Nat := leAt b 12 4
def manVer (b : List Byte) : Nat := leAt b 16 4
def manFlags (b : List Byte) : Nat := leAt b 23 1

/-- Part entry `i` of a payload. -/
def manEntry (b : List Byte) (i : Nat) : ManPart :=
  let o := 64 + 32 * i
  ⟨leAt b o 1, leAt b (o + 4) 4, leAt b (o + 8) 4, leAt b (o + 12) 4⟩

/-- The part entries of a payload. -/
def manParts (b : List Byte) : List ManPart := (List.range (leAt b 6 2)).map (manEntry b)

/-- The bytes of a part; none where the manifest has no such part. -/
def manPart (b : List Byte) (type : Nat) : Option (List Byte) :=
  ((manParts b).find? fun p => p.type == type).map fun p => (b.drop p.off).take p.len

/-- The LENGTH limit of a part type (R428). -/
def manLimit (type : Nat) : Nat :=
  if type = 1 then 12582912 else if type = 2 then 524288 else if type = 3 then 16384 else if type = 4 then 65536
  else if type = 5 then 1048576 else 0

/-- Two parts share a payload byte. -/
def partsMeet (p q : ManPart) : Bool := decide (p.off < q.off + q.len) && decide (q.off < p.off + p.len)

/-- No two of these parts meet or have one type. -/
def partsApart : List ManPart → Bool
  | [] => true
  | p :: ps => ps.all (fun q => p.type != q.type && !partsMeet p q) && partsApart ps

/-- What R431 calls BAD_MANIFEST. -/
def manBad (b : List Byte) : Bool :=
  let n := leAt b 6 2
  let ps := manParts b
  leAt b 0 4 != 0x534E5242 || leAt b 4 2 != 1 || decide (n < 3) || decide (5 < n) ||
  decide (manBlocks b < 2) || decide (4096 < manBlocks b) || b.length != 4092 * manBlocks b ||
  manSec b == 0 || decide (7 < manFlags b) || leAt b 56 8 != 0 ||
  ps.any (fun p => decide (p.type < 1) || decide (5 < p.type) || decide (manLimit p.type < p.len) || decide (p.off < 64 + 32 * n) ||
    decide (b.length - 128 < p.off + p.len)) ||
  (List.range n).any (fun i => leAt b (64 + 32 * i + 1) 3 != 0 || leAt b (64 + 32 * i + 16) 16 != 0) ||
  !partsApart ps || !([1, 2, 3].all fun t => ps.any fun p => p.type == t)

/-- GRADES excludes this grade, or a revision lies below its minimum (R431, DEVICE). -/
def manDeviceBad (s : State) (b : List Byte) : Bool :=
  !(leAt b 20 1).testBit s.dev.grade || decide (s.dev.ringRev < leAt b 21 1) || decide (s.dev.fieldRev < leAt b 22 1)

/-- The hash that both signatures cover (R429). -/
def manHash (b : List Byte) : List Byte := sha512 (b.take (b.length - 128))

/-- The Trelzar signature verifies under the key that KEY_ID selects, and that key is not revoked (R429). -/
def manTrelzarOk (s : State) (b : List Byte) : Bool :=
  let key := manFlags b % 2
  !(key == 0 && s.fwu.revoked) && edVerify (Config.trelzarKey key) (manHash b) ((b.drop (b.length - 128)).take 64)

/-- The owner signature is there and verifies where an owner key is enrolled (R429, R431). -/
def manOwnerOk (s : State) (b : List Byte) : Bool :=
  match s.test.ownerKey with
  | none => true
  | some k => (manFlags b).testBit 1 && !s.test.ownerBad && edVerify k (manHash b) (b.drop (b.length - 64))

/-- A register that the TTCAN part may hold: TT_REF, TT_CTL and TT_SCHED of a CAN page (R428). -/
def isTtReg (p off : Nat) : Bool :=
  0x138 ≤ p && p ≤ 0x13F && (off == 0x74 || off == 0x78 || (0x100 ≤ off && off < 0x180))

/-- The words of the TTCAN part; none where its records are malformed or name other registers. -/
def manTtcan (b : List Byte) : Option (List DrawerWord) :=
  match manPart b 4 with
  | none => some []
  | some t =>
    match drawerRecords (t.length / 8) t with
    | .error _ => none
    | .ok ws => if ws.all (fun w => match w with | .reg p off _ => isTtReg p off | .tab _ _ _ => false) then some ws else none

/-- The chest's drawers with a set replaced. -/
def setReplaced (s : State) (set : Nat) (cells : List Host.Cell) : State :=
  let base := s.start.drawers.filter fun c => c.1 / 0x100000 != set
  { s with start := { s.start with drawers := cells.foldl (fun m c => memSet m (set * 0x100000 + c.1 % 0x100000) c.2) base } }

/-- Bytes with their places. -/
def bytesAt : Nat → List Byte → List Host.Cell
  | _, [] => []
  | a, b :: bs => (a, b) :: bytesAt (a + 1) bs

/-- The drawer set that an activation starts from (R434 step 1): the manifest's, or a copy of the active one. -/
def newSet (s : State) (b : List Byte) (set : Nat) : State :=
  match manPart b 5 with
  | some d => setReplaced s set (bytesAt 0 (d.take 0x100000))
  | none => setReplaced s set (s.start.drawers.filter fun c => c.1 / 0x100000 == activeSet s)

/-- A drawer of a manifest or a TTCAN record fails R414 (R431, DRAWER). -/
def manDrawerBad (s : State) (b : List Byte) : Bool :=
  let set := 1 - activeSet s
  (match manTtcan b with
   | none => true
   | some ws => (drawerWordsBad (drawerCandidate s ws) ws).isSome) ||
  ((manPart b 5).isSome && (List.range 4).any fun d =>
    let c := newSet s b set
    drawerPresent c set d && (match drawerCheck c set d false with | .ok _ => false | .error _ => true))

/-- The checks of a whole payload at the end of staging, in the order of R430: the cause that refuses it. -/
def manRefusal (s : State) (b : List Byte) : Option Nat :=
  if manBad b then some 0x45
  else if manDeviceBad s b then some 0x44
  else if manSec b < getF s Pg.fwu F.FWU_SECCNT_COUNT then some 0x40
  else if !manTrelzarOk s b || !manOwnerOk s b then some 0x47
  else if manDrawerBad s b then some 0x48
  else none

/-! ## Staging (R430 to R432) -/

/-- The slot and its place. -/
def slotAt (s : State) (i : Nat) : Slot := s.fwu.slots.getD i ⟨[], false, false⟩

def setSlot (s : State) (i : Nat) (sl : Slot) : State := { s with fwu := { s.fwu with slots := s.fwu.slots.set i sl } }

/-- The slot the hub does not run from (R425). -/
def inactiveSlot (s : State) : Nat := 1 - activeSet s

/-- The record in force, or what stands for it before the first (R433). -/
def commitNow (s : State) : Commit :=
  s.start.commits.getLast?.getD
    { seq := 0, slot := 0, trial := false, started := false, ownerLock := false, prev := 0, secCnt := 0, slotSec := 0, slotVer := 0 }

/-- PFW is asserted, or the hold-up capacitor is not charged (R431, POWER). -/
def powerBad (s : State) : Bool := pwrPfw s || !getB s Pg.pwr F.PWR_STAT_HOLDUP_OK

/-- The holder's partner is not healthy (R431, PAIR). -/
def partnerBad (s : State) : Bool :=
  getB s Pg.par F.PAR_CTL_EN && pairRole s == 2 && !getB s Pg.par F.PAR_STAT_PARTNER_HEALTHY

/-- FWU.REFUSE, ERR_FIRST and the REFUSED source take a cause (R431). -/
def fwuCause (s : State) (status cause block : Nat) : State :=
  let s1 := setF (setF s Pg.fwu F.FWU_REFUSE_CAUSE cause) Pg.fwu F.FWU_REFUSE_BLOCK block
  noteErr (irqEvent s1 Pg.fwu 3) Pg.fwu status cause (if status = 0 then 0 else 0x44 / 4)

/-- A command is refused. -/
def fwuRefused (s : State) (cause : Nat) : State := setF (fwuCause s St.targetErr cause 0) Pg.fwu F.FWU_STAT_LAST 5

/-- The work in hand is ended for a cause (R431, R438). -/
def fwuEnd (s : State) (cause : Nat) : State := if s.fwu.job = 0 then s else fwuCause (fwuAbandon s) 0 cause 0

/-- What refuses a STAGE. Staging from a journal that is not ready counts as STATE. -/
def stageRefusal (s : State) (push : Bool) : Option Nat :=
  if getB s Pg.fwu F.FWU_STAT_OWNER_LOCK then some 0x41
  else if powerBad s then some 0x42
  else if (getF s Pg.fwu F.FWU_STAT_STATE ≠ 0 ∧ getF s Pg.fwu F.FWU_STAT_STATE ≠ 3) ∨
      (push = false ∧ getF s Pg.jrn F.JRN_STAT_STATE ≠ 2) then some 0x49
  else none

/-- STAGED_VER, STAGED_SEC, CODE_SAME and PROGRESS. -/
def stagedShow (s : State) (ver sec : Nat) (same : Bool) (progress : Nat) : State :=
  setF (setB (setF (setF s Pg.fwu F.FWU_STAGED_VER_VER ver) Pg.fwu F.FWU_STAGED_SEC_SEC sec) Pg.fwu F.FWU_STAT_CODE_SAME same)
    Pg.fwu F.FWU_STAT_PROGRESS progress

/-- STAGE (R430): the inactive slot is erased, and blocks are taken from the journal or by push. -/
def fwuStage (s : State) (push : Bool) : State :=
  match stageRefusal s push with
  | some c => fwuRefused s c
  | none =>
    let s1 := setF (stagedShow (setSlot s (inactiveSlot s) ⟨[], false, false⟩) 0 0 false 0) Pg.fwu F.FWU_STAT_STATE 1
    { s1 with fwu := { s1.fwu with job := if push then 2 else 1, push := [] } }

/-- Bytes written to PUSH_LO and PUSH_HI while a push is being received (R430). -/
def fwuPush (s : State) (bs : List Byte) : State :=
  if s.fwu.job = 2 ∧ getF s Pg.fwu F.FWU_STAT_STATE = 1 then { s with fwu := { s.fwu with push := s.fwu.push ++ bs } } else s

/-- PUSH_END (R430). -/
def fwuPushEnd (s : State) : State :=
  if s.fwu.job = 2 ∧ getF s Pg.fwu F.FWU_STAT_STATE = 1 then setF s Pg.fwu F.FWU_STAT_STATE 2 else s

/-- `n` blocks of a byte string. -/
def blocksOf : Nat → List Byte → List (List Byte)
  | 0, _ => []
  | n + 1, bs => bs.take 4096 :: blocksOf n (bs.drop 4096)

/-- The CRC of a block matches (R426). -/
def blockOk (b : List Byte) : Bool := b.length == 4096 && crc32c (b.take 4092) == leAt b 4092 4

/-- The bytes that a staging takes: the blocks in the journal user region, or what was pushed. -/
def stageSource (s : State) : List Byte :=
  if s.fwu.job = 1 then
    let off := getF s Pg.fwu F.FWU_SRC_LO_SRC_LO * 4096 + getF s Pg.fwu F.FWU_SRC_HI_SRC_HI * 2 ^ 32
    let n := 4096 * getF s Pg.fwu F.FWU_SRC_LEN_BLOCKS
    if regionSpan off n = .journal && !journalOwn (off - 0x100000000) then memRead s.jmem (off - 0x100000000) n else []
  else s.fwu.push

/-- The three code parts are those of the active slot (R432). -/
def codeSame (s : State) (b : List Byte) : Bool :=
  let a := slotAt s (activeSet s)
  a.valid && [1, 2, 3].all fun t => manPart b t == manPart a.bytes t

/-- A running staging is ended by a check that fails: STATE returns to IDLE and LAST reads ABANDONED (R431). -/
def stageFail (s : State) (cause block : Nat) : State :=
  let s1 := setF (fwuCause s 0 cause block) Pg.fwu F.FWU_STAT_LAST 6
  setF { s1 with fwu := { s1.fwu with job := 0, push := [] } } Pg.fwu F.FWU_STAT_STATE 0

/-- Staging and verification end (R430). `flash`: the flash device failed; `readBack`: a block whose CRC was wrong as read back. -/
def fwuStagingDone (s : State) (flash : Bool) (readBack : Option Nat) : State :=
  if (s.fwu.job ≠ 1 ∧ s.fwu.job ≠ 2) ∨ (s.fwu.job = 2 ∧ getF s Pg.fwu F.FWU_STAT_STATE ≠ 2) then s
  else if flash then stageFail s 0x4A 0
  else
    let src := stageSource s
    let bl := blocksOf (src.length / 4096) src
    match (bl.findIdx? fun b => !blockOk b).orElse (fun _ => readBack) with
    | some i => stageFail s 0x46 i
    | none =>
      if src.length % 4096 ≠ 0 then stageFail s 0x45 0
      else
        let b := bl.flatMap fun x => x.take 4092
        match manRefusal s b with
        | some c => stageFail s c 0
        | none =>
          let s1 := stagedShow (setSlot s (inactiveSlot s) ⟨b, true, true⟩) (manVer b) (manSec b) (codeSame s b) 100
          let s2 := setF { s1 with fwu := { s1.fwu with job := 0, push := [] } } Pg.fwu F.FWU_STAT_STATE 3
          irqEvent (bump s2 Pg.fwu F.FWU_STAGES) Pg.fwu 2

/-! ## Activation (R434) -/

/-- A drawer takes the TTCAN values of a manifest and its next generation (R413, R434 step 1). A drawer whose CRC fails stays as it is. -/
def drawerPatch (s : State) (set d : Nat) (tt : List Byte) : State :=
  let n := drawerLen s set d
  if drawerPresent s set d && drawerCrcOk s set d && decide (n + tt.length ≤ 262144) then
    drawerPut s set d 0 (drawerImage d (leNat (drawerBytes s set d 12 4) + 1) (drawerBytes s set d 16 32) (drawerBytes s set d 64 (n - 64) ++ tt))
  else s

/-- Step 1 of an activation: the drawer set paired with the inactive slot. -/
def newSetWrite (s : State) (b : List Byte) : State :=
  let set := inactiveSlot s
  let tt := (manPart b 4).getD []
  (List.range 4).foldl (fun a d => drawerPatch a set d tt) (newSet s b set)

/-- The image of the inactive slot is activated: it no longer counts as staged. -/
def unstage (s : State) : State := setSlot s (inactiveSlot s) { slotAt s (inactiveSlot s) with staged := false }

/-- The commit record of an activation. -/
def trialCommit (s : State) (started : Bool) : Commit :=
  let c := commitNow s
  let b := (slotAt s (inactiveSlot s)).bytes
  { c with slot := inactiveSlot s, trial := true, started := started, prev := activeSet s
           secCnt := getF s Pg.fwu F.FWU_SECCNT_COUNT, slotSec := manSec b, slotVer := manVer b }

/-- The commit record of a fallback: SLOT PREV, TRIAL 0 (R435, R437). -/
def fallCommit (s : State) : Commit :=
  let c := commitNow s
  let b := (slotAt s c.prev).bytes
  { c with slot := c.prev, trial := false, secCnt := getF s Pg.fwu F.FWU_SECCNT_COUNT, slotSec := manSec b, slotVer := manVer b }

/-- The registers that show the image in force (R433). -/
def runShow (s : State) : State :=
  let c := commitNow s
  let b := (slotAt s c.slot).bytes
  setF (setF (setF (setF s Pg.fwu F.FWU_STAT_ACTIVE_SLOT c.slot) Pg.fwu F.FWU_RUN_VER_VER (manVer b)) Pg.fwu F.FWU_RUN_SEC_SEC (manSec b))
    Pg.drw F.DRW_STAT_SET c.slot

/-- A trial starts (R436): the confirm window runs from this watch count. -/
def trialStart (s : State) (at_ : Nat) (hitless : Bool) : State :=
  irqEvent (setF { s with fwu := { s.fwu with trialAt := at_, approved := false, hitless := hitless, soakBad := false } }
    Pg.fwu F.FWU_STAT_STATE 5) Pg.fwu 4

/-- What refuses an ACTIVATE. -/
def activateRefusal (s : State) : Option Nat :=
  if getB s Pg.fwu F.FWU_STAT_OWNER_LOCK then some 0x41
  else if powerBad s then some 0x42
  else if partnerBad s then some 0x43
  else if getF s Pg.fwu F.FWU_STAT_STATE ≠ 3 then some 0x49
  else none

/-- ACTIVATE (R434): by a commit record and a restart, or by the hitless switch to the new set. -/
def fwuActivate (s : State) : State :=
  match activateRefusal s with
  | some c => fwuRefused s c
  | none =>
    let b := (slotAt s (inactiveSlot s)).bytes
    let s1 := newSetWrite s b
    if getB s Pg.fwu F.FWU_STAT_CODE_SAME then
      if getF s Pg.drw F.DRW_STAT_PHASE ≠ 0 then setF (fwuCause s1 St.targetErr 0x41 0) Pg.fwu F.FWU_STAT_LAST 6
      else
        let s2 := setF { s1 with fwu := { s1.fwu with job := 3 } } Pg.fwu F.FWU_STAT_STATE 4
        switchStart s2 (getF s Pg.drw F.DRW_STAT_CURRENT) 1 (inactiveSlot s)
    else
      let s2 := setF (writeCommit (unstage s1) (trialCommit s1 false)) Pg.fwu F.FWU_STAT_LAST 7
      bump (restart s2) Pg.fwu F.FWU_ACTIVATIONS

/-- The commit of a switch that belongs to an activation or to a fallback (R434 step 3, R437). -/
def switchFwu (s : State) (j : SwitchJob) : State :=
  if j.fwu = 1 then
    let s1 := runShow (writeCommit (unstage s) (trialCommit s true))
    let s2 := setF (bump { s1 with fwu := { s1.fwu with job := 0 } } Pg.fwu F.FWU_ACTIVATIONS) Pg.fwu F.FWU_STAT_LAST 7
    trialStart s2 s.watchNs true
  else if j.fwu = 2 then
    let s1 := runShow (writeCommit s (fallCommit s))
    let s2 := setF (setF { s1 with fwu := { s1.fwu with soakBad := false } } Pg.fwu F.FWU_STAT_LAST 2) Pg.fwu F.FWU_STAT_STATE 0
    irqEvent (bump s2 Pg.fwu F.FWU_FALLBACKS) Pg.fwu 5
  else s

/-- COMMIT of a switch, once everything it holds is idle (R417 to R420). -/
def switchCommit (s : State) : State :=
  match s.start.job with
  | none => s
  | some j =>
    if getF s Pg.drw F.DRW_STAT_PHASE ≠ 2 ∨ switchIdle s j = false then s
    else if !culUp s then switchAbandon s 0x43
    else
      match drawerCheck s j.set j.drawer false with
      | .error _ => switchAbandon s 0x40
      | .ok ws =>
        if switchSent s j (switchChanges s ws) then switchFwu (switchApply s j ws) j
        else switchMirror s j (switchChanges s ws)

/-- ABORT (R431): a staging, or an activation before its commit, ends. -/
def fwuAbort (s : State) : State := fwuAbandon s

/-- A write of FWU.CMD. -/
def fwuCmd (s : State) (v : Word) : State :=
  let s1 := if v.getLsbD 2 then fwuAbort s else s
  let s2 := if v.getLsbD 0 then fwuStage s1 (v.getLsbD 3) else s1
  if v.getLsbD 1 then fwuActivate s2 else s2

/-! ## Trial, confirmation and fallback (R435 to R437) -/

/-- `verify(s)` of R435. -/
def slotVerify (s : State) (i : Nat) : Bool :=
  let sl := slotAt s i
  sl.valid && !manBad sl.bytes && !manDeviceBad s sl.bytes && manTrelzarOk s sl.bytes &&
    decide (getF s Pg.fwu F.FWU_SECCNT_COUNT ≤ manSec sl.bytes)

/-- A fallback after expiry is under way. -/
def fallingBack (s : State) : Bool := s.fwu.soakBad || (match s.start.job with | some j => j.fwu == 2 | none => false)

/-- A write of CONFIRM.KEY by the management core (R436). With HOST_GATE 1 the confirmation waits for APPROVE. -/
def fwuConfirm (s : State) (key : Nat) : State :=
  if key ≠ 0xC0F1 ∨ getF s Pg.fwu F.FWU_STAT_STATE ≠ 5 ∨ fallingBack s ∨ (getB s Pg.fwu F.FWU_CTL_HOST_GATE && !s.fwu.approved) then s
  else
    let c := commitNow s
    let s1 := writeCommit s { c with trial := false, secCnt := max c.secCnt c.slotSec }
    let s2 := setF s1 Pg.fwu F.FWU_SECCNT_COUNT (max (getF s Pg.fwu F.FWU_SECCNT_COUNT) c.slotSec)
    let s3 := { s2 with fwu := { s2.fwu with revoked := s2.fwu.revoked || (manFlags (slotAt s c.slot).bytes).testBit 2 } }
    irqEvent (setF (setF s3 Pg.fwu F.FWU_STAT_LAST 1) Pg.fwu F.FWU_STAT_STATE 0) Pg.fwu 6

/-- APPROVE written by the host during a trial (R436). -/
def fwuApprove (s : State) : State :=
  if getF s Pg.fwu F.FWU_STAT_STATE = 5 then { s with fwu := { s.fwu with approved := true } } else s

/-- The fallback switch of a hitless trial starts, or waits for its retry (R437). -/
def fallSwitch (s : State) : State :=
  if getF s Pg.drw F.DRW_STAT_PHASE ≠ 0 then { s with fwu := { s.fwu with soakBad := true } }
  else switchStart { s with fwu := { s.fwu with soakBad := false } } (getF s Pg.drw F.DRW_STAT_CURRENT) 2 (commitNow s).prev

/-- The confirm window expires (R437). -/
def confirmTimeout (s : State) : State :=
  if getF s Pg.fwu F.FWU_STAT_STATE ≠ 5 ∨ fallingBack s then s
  else if s.fwu.hitless then fallSwitch s
  else
    let s1 := setF (writeCommit s (fallCommit s)) Pg.fwu F.FWU_STAT_LAST 2
    irqEvent (bump (restart s1) Pg.fwu F.FWU_FALLBACKS) Pg.fwu 5

/-- Every 10 s a fallback switch that was abandoned is tried again. -/
def fallbackRetry (s : State) : State := if s.fwu.soakBad then fallSwitch s else s

/-! ## Owner commands (R439) -/

/-- Bytes that consecutive registers hold. -/
def regBytes (s : State) (p off n : Nat) : List Byte := (List.range n).flatMap fun k => leBytes 4 (getW s p (off + 4 * k)).toNat

/-- What an owner command signs. -/
def ownerMessage (s : State) : List Byte :=
  let code := getF s Pg.fwu F.FWU_OCMD_CODE
  sha512 (leBytes 8 (Config.freeValue s.fwu.nonce).toNat ++ leBytes 16 s.dev.serial ++ leBytes 1 code ++
    leBytes 2 (getF s Pg.fwu F.FWU_OCMD_ARG) ++ (if code = 4 then regBytes s Pg.fwu 0x140 8 else List.replicate 32 0))

/-- The check of an owner command: its signature under the enrolled key or, for ENROLL while none is enrolled, the key being enrolled. -/
def ownerOk (s : State) : Bool :=
  let code := getF s Pg.fwu F.FWU_OCMD_CODE
  let key := match s.test.ownerKey with
    | some k => if s.test.ownerBad then none else some k
    | none => if code = 4 then some (regBytes s Pg.fwu 0x140 8) else none
  (decide (1 ≤ code) && decide (code ≤ 4)) &&
    match key with
    | some k => edVerify k (ownerMessage s) (regBytes s Pg.fwu 0x100 16)
    | none => false

/-- The effect of an owner command that has passed its check. -/
def ownerEffect (s : State) : State :=
  let code := getF s Pg.fwu F.FWU_OCMD_CODE
  let arg := getF s Pg.fwu F.FWU_OCMD_ARG
  if code = 1 then (if pageAssigned arg then setB s arg F.LOCK_LOCKED false else s)
  else if code = 2 then writeCommit s { commitNow s with ownerLock := true }
  else if code = 3 then writeCommit s { commitNow s with ownerLock := false }
  else
    setB { s with test := { s.test with ownerKey := some (regBytes s Pg.fwu 0x140 8), ownerBad := false } } Pg.fwu F.FWU_STAT_OWNER_KEY true

/-- A write of GO: the command is checked and run, and the nonce is replaced. -/
def ownerGo (s : State) : State :=
  let r := if ownerOk s then setF (ownerEffect s) Pg.fwu F.FWU_OSTAT_RESULT 1
    else noteErr (bump (setF s Pg.fwu F.FWU_OSTAT_RESULT 2) Pg.fwu F.FWU_OCMD_REFUSED) Pg.fwu 0 0x4B (0xCC / 4)
  let d := drawFree r 1
  { d.2 with fwu := { d.2.fwu with nonce := d.1 } }

/-- The registers of an owner command: its code, argument, signature and key (R439 steps 2 and 3). -/
def ownerFill (s : State) (code arg : Nat) (sig key : List Byte) : State :=
  let s1 := setF (setF s Pg.fwu F.FWU_OCMD_CODE code) Pg.fwu F.FWU_OCMD_ARG arg
  let s2 := (List.range 16).foldl (fun a k => setW a Pg.fwu (0x100 + 4 * k) (BitVec.ofNat 32 (leAt sig (4 * k) 4))) s1
  (List.range 8).foldl (fun a k => setW a Pg.fwu (0x140 + 4 * k) (BitVec.ofNat 32 (leAt key (4 * k) 4))) s2

end Sys2Proof.Machine
end

