-- ==== Sys2Proof/Machine/Start.lean ====
section
/-! DEFINITION. Start-up from step 4 to service (R409 to R412, R423, R435, R459), what each kind of start recalls (R126 to R128, R416, R487),
the power-fail checkpoint (R127, R398), and the end of a warm reset. -/

namespace Sys2Proof.Machine

/-! ## The chest (R423, R459) -/

/-- An uncorrectable chest word is counted and its address captured once (R423). -/
def chestUncorr (s : State) (addr : Nat) : State :=
  let s1 := faultLog (irqEvent (bump s Pg.chs F.CHS_ECC_UNCORR) Pg.chs 2) 3 2 Pg.chs addr
  let s2 := if getF s1 Pg.chs F.CHS_STAT_STATE = 0 then setF s1 Pg.chs F.CHS_STAT_STATE 1 else s1
  if getB s2 Pg.chs F.CHS_ECC_ADDR_VALID then s2
  else setF (setB s2 Pg.chs F.CHS_ECC_ADDR_VALID true) Pg.chs F.CHS_ECC_ADDR_ADDR addr

/-- Both copies of a secret fail (R459): 0 device key, 1 owner key, 2 pairing keys. -/
def secretFault (s : State) (which addr : Nat) : State :=
  let s1 := faultLog s 9 which Pg.chs addr
  if which = 0 then { s1 with test := { s1.test with devKey := 0 } }
  else if which = 1 then { s1 with test := { s1.test with ownerBad := s1.test.ownerKey.isSome } }
  else { s1 with test := { s1.test with pairKeys := false } }

/-- What a bad word of the chest costs, by its area (R423). The checkpoint and the epoch records are judged by step 6 itself. -/
def chestErr (s : State) (e : ChestErr) : State :=
  let s1 := if e.ecc then chestUncorr s e.addr else s
  match e.hit with
  | .slot flow seq =>
    let image := s1.start.ckpt.map fun c => { c with flows := c.flows.map fun f =>
      (f.1, if f.1 = flow then { f.2 with opens := f.2.opens.filter fun o => o.seq != seq } else f.2) }
    irqEvent (bump { slotFree s1 flow seq with start := { (slotFree s1 flow seq).start with ckpt := image } }
      Pg.chs F.CHS_SLOTS_LOST) Pg.chs 4
  | .commit seq => { s1 with start := { s1.start with commits := s1.start.commits.filter fun c => c.seq != seq } }
  | .secret which => secretFault s1 which e.addr
  | .checkpoint => { s1 with start := { s1.start with ckpt := none } }
  | .epoch _ => s1
  | .limit _ => s1
  | .drawer => s1
  | .other => s1

/-- The epoch that the valid records give (R412, R423): the chest holds the last 64 epochs. None where no record is valid. -/
def epochRead (s : State) (errs : List ChestErr) : Option Nat :=
  let bad := errs.filterMap fun e => match e.hit with | .epoch n => some n | _ => none
  ((List.range (min 64 (s.start.epoch + 1))).map fun k => s.start.epoch - k).find? fun n => !bad.contains n

/-- The epoch after this one: 1 follows 0xFFFF_FFFF (R412). -/
def epochNext (e : Nat) : Nat := if 0xFFFFFFFF ≤ e then 1 else e + 1

/-! ## The steps (R409) -/

/-- A step fails and the sequence stops (R409, R411). -/
def startStop (s : State) (step : Nat) : State :=
  irqEvent (setB (setF s Pg.rst F.RST_STAT_FAIL_STEP step) Pg.rst F.RST_STAT_STOPPED true) Pg.rst 2

def setStep (s : State) (n : Nat) : State := setF s Pg.rst F.RST_STAT_STEP n

/-- A fallback is written at start-up (R435, R437). -/
def startFallback (s : State) (last : Nat) : State :=
  irqEvent (bump (setF (writeCommit s (fallCommit s)) Pg.fwu F.FWU_STAT_LAST last) Pg.fwu F.FWU_FALLBACKS) Pg.fwu 5

/-- The image decision of step 6 (R435). -/
def imageDecide (s : State) : State :=
  match s.start.commits.getLast? with
  | none => s
  | some r =>
    if r.trial && r.started then startFallback s 3
    else if r.trial then writeCommit s { r with started := true }
    else s

/-- Step 6 (R405, R406, R412): the kind of this start, the epoch, the secrets and the image. -/
def stepChest (s0 : State) (errs : List ChestErr) (corrected : Nat) : State :=
  let s := bump (errs.foldl chestErr s0) Pg.chs F.CHS_ECC_CORR corrected
  match epochRead s errs with
  | none => startStop (setF s Pg.chs F.CHS_STAT_STATE 2) 6
  | some e =>
    let power := getB s Pg.pwr F.PWR_STAT_GATE_CYCLED
    let complete := getF s Pg.chs F.CHS_STAT_CKPT == 1 && s.start.ckpt.isSome
    let kind := if power then (if complete then 3 else 0) else 1
    let epoch := if kind = 0 then epochNext e else e
    let colds := if kind = 0 then s.start.colds + 1 else s.start.colds
    let s1 := { s with
      start := { s.start with epoch := epoch, colds := colds, ckpt := if complete then s.start.ckpt else none }
      pair := { s.pair with cold := kind == 0 } }
    let s2 := if power then setB (setB s1 Pg.pwr F.PWR_STAT_GATE_CYCLED false) Pg.rst F.RST_CAUSE_POWER_UP true else s1
    let s3 := setF (setF (setF s2 Pg.rst F.RST_STAT_KIND kind) Pg.seq F.SEQ_START_KIND kind) Pg.nod F.NOD_EPOCH_EPOCH epoch
    let s4 := setF (setF s3 Pg.chs F.CHS_LIFE_COLD_STARTS colds) Pg.par F.PAR_PAIR_EPOCH_EPOCH s.start.pairEpochs
    let s5 := if complete || getF s4 Pg.chs F.CHS_STAT_CKPT != 1 then s4 else setF s4 Pg.chs F.CHS_STAT_CKPT 0
    let d := drawFree s5 1
    let s6 := if s5.test.devKey = 0 ∧ getB s5 Pg.prt F.PRT_STAT_OTP_BLOCKED = false then { d.2 with test := { d.2.test with devKey := d.1 } } else s5
    setStep (fwuShow (imageDecide s6)) 7

/-- Step 7 (R414 to R416): the drawer that PROF[1:0] names in the active set, or SAFE. -/
def stepDrawer (s : State) (ecc : Bool) : State :=
  let d := getF s Pg.rst F.RST_STAT_PROF
  match drawerCheck s (activeSet s) d ecc with
  | .ok ws => setStep (drawerLoad s ws d) 8
  | .error e => safeLoad (drawerRefuse s e)

/-- A staged image reads STAGED again once it has verified (R440). -/
def stagedAgain (s : State) : State :=
  let i := inactiveSlot s
  let b := (slotAt s i).bytes
  if (slotAt s i).staged && slotVerify s i && getF s Pg.fwu F.FWU_STAT_STATE == 0 then
    setF (stagedShow s (manVer b) (manSec b) (codeSame s b) 100) Pg.fwu F.FWU_STAT_STATE 3
  else s

/-- Step 9 begins: the controller trains the journal channel (R162). -/
def trainJournal (s : State) : State := setStep (setF s Pg.jrn F.JRN_STAT_STATE 1) 9

/-- Step 8 (R435): the image is verified and started, or the hub falls back to the previous one and loads its drawer. -/
def stepFirmware (s : State) : State :=
  match s.start.commits.getLast? with
  | none => startStop s 8
  | some r =>
    if slotVerify s r.slot then
      let s1 := runShow s
      trainJournal (if r.trial then trialStart s1 s1.start.usAt false else stagedAgain s1)
    else if r.trial then setStep (fwuShow (startFallback s 4)) 7
    else if r.prev ≠ r.slot ∧ slotVerify s r.prev then setStep (fwuShow (startFallback s 4)) 7
    else startStop s 8

/-! ## Recall of flow state (step 9) -/

/-- An initiator flow as a recall leaves it: accepted transactions are open orphans and are retransmitted (R126, R129, R485). -/
def flowRecall (retries : Nat) (f : IFlow) : IFlow :=
  { f with
    opens := f.opens.map fun o => { o with sent := true, wait := .none, txn := { o.txn with orphan := true } }
    waiting := [], furrow := [], timer := !f.opens.isEmpty, retries := retries }

/-- A target context as a recall leaves it (R126, R487): only a record marked as in execution is still held. -/
def ctxRecall (lossy : Bool) (t : TCtx) : TCtx :=
  let live := liveHere t
  { t with
    held := (t.held.filter fun h => h.st == .inField).map fun h => { h with repeats := [] }
    cache := if lossy then t.cache.map fun e => if live.contains e then e else { e with empty := true } else t.cache
    deferred := false }

/-- The CFG and DST words that a recalled flow with open records keeps (R416); the drawer's wait in `keepFlw`. -/
def flwKeep (s : State) (img : FlowImg) (flow : Nat) : State :=
  [0x100 + 32 * flwIx flow, 0x104 + 32 * flwIx flow].foldl (fun a off =>
    let k := regKey (flwPg flow) off
    let old := (tabGet img.regs k).getD (resetWord (flwPg flow) off)
    setW { a with start := { a.start with keepFlw := tabSet a.start.keepFlw k (getW a (flwPg flow) off) } } (flwPg flow) off old) s

/-- A flow whose recalled records have all closed takes the drawer's CFG and DST (R416). -/
def flwRelease (s : State) : State :=
  let due := s.start.keepFlw.filter fun e => match flwOf (e.1 / 1024) (4 * (e.1 % 1024)) with | some f => openCount s f == 0 | none => true
  due.foldl (fun a e => setW { a with start := { a.start with keepFlw := tabDel a.start.keepFlw e.1 } } (e.1 / 1024) (4 * (e.1 % 1024)) e.2) s

/-- Flow state recalled from an image. `lossy`: from a checkpoint, which holds no log and no pointers, and of each cache its live entries
(R127). -/
def recallFlows (s : State) (img : FlowImg) (lossy : Bool) : State :=
  let flows := img.flows.map fun e => (e.1, flowRecall (flowRetries s e.1) e.2)
  let ctxs := img.ctxs.map fun e => (e.1, ctxRecall lossy e.2)
  let txns := flows.flatMap fun e => e.2.opens.map (·.txn)
  let s1 := { s with seq := { s.seq with flows := flows, ctxs := ctxs, log := if lossy then s.seq.log else img.log, tags := txns.map (·.tag) } }
  let s2 := (img.flows.filter fun e => !e.2.opens.isEmpty).foldl (fun a e => flwKeep a img e.1) s1
  let s3 := if lossy then s2 else
    (img.regs.filter fun e => (flwOf (e.1 / 1024) (4 * (e.1 % 1024))).isNone).foldl (fun a e => setW a (e.1 / 1024) (4 * (e.1 % 1024)) e.2) s2
  let stream := txns.filter fun t => t.init / 4096 == 4
  let s4 := setCul s3 { s3.cul with offers := stream.map fun t => { tag := t.tag, gen := 0, init := t.init, taken := true } }
  let s5 := if stream.isEmpty then s4 else ringCfg s4 (.tags (stream.map (·.tag)))
  (ctxs.map (·.1)).foldl (fun a c => match headHeld a c with
    | some h => completeRec a c (ansRec St.hang Cause.hang h.req.tag)
    | none => a) s5

/-- Flow state of a cold start (R128): NEXT_SEQ is SEQ_LIMIT, and the next record of a flow carries FIRST. -/
def coldFlows (s : State) : State :=
  { s with seq := { s.seq with flows := s.start.limits.map fun e => (e.1, limitAdvance { iflowNew with nextSeq := e.2, seqLimit := e.2, first := true }) } }

/-- The image without a record of it whose CRC fails, which counts as never written (R161): `b` is a journal byte of the record. A flow whose
context is lost goes on at its SEQ_LIMIT, as after a cold start (DEDUCED, log entry 145). -/
def imageDrop (s : State) (img : FlowImg) (b : Nat) : FlowImg :=
  match jrnPlace b with
  | .ctx c => { img with
      flows := img.flows.filterMap fun e => if e.1 = c then (tabGet s.start.limits c).map fun l =>
        (c, limitAdvance { iflowNew with nextSeq := l, seqLimit := l, opens := e.2.opens }) else some e
      ctxs := img.ctxs.filter fun e => e.1 != c }
  | .retx tag => { img with flows := img.flows.map fun e => (e.1, { e.2 with opens := e.2.opens.filter fun o => o.nop || o.txn.tag != tag }) }
  | .log i => { img with log := img.log.eraseIdx i }
  | .cache c slot => { img with ctxs := img.ctxs.map fun e =>
      if e.1 = c then (c, { e.2 with cache := e.2.cache.filter fun x => x.seq % 256 != slot }) else e }
  | .hold _ _ => img
  | .user => img
  | .other => img

/-- Step 9 (R158, R161 to R163): the journal is trained and flow state recalled by the kind of the start. `bad` are journal bytes of records whose
CRC fails. -/
def stepJournal (s : State) (ok : Bool) (bad : List Nat) : State :=
  if !ok then startStop (irqEvent (setF s Pg.jrn F.JRN_STAT_STATE 4) Pg.jrn 3) 9
  else
    let size := 2 * 2 ^ getF s Pg.jrn F.JRN_CFG_DENSITY * (1 + getF s Pg.jrn F.JRN_CFG_RANKS)
    let s1 := setF (setF s Pg.jrn F.JRN_STAT_STATE 2) Pg.jrn F.JRN_STAT_SIZE_GIB size
    let kind := getF s Pg.rst F.RST_STAT_KIND
    let s2 := if kind = 1 then s1 else { s1 with
      jmem := [], pair := { s1.pair with mOpen := [], mNext := [], mCtx := [], mIntent := [], mTokens := [], mBegun := [], mHsr := 0 } }
    let s3 := match kind, s2.start.journal, s2.start.ckpt with
      | 1, some img, _ => recallFlows s2 (bad.foldl (imageDrop s2) img) false
      | 3, _, some img => recallFlows s2 img true
      | _, _, _ => coldFlows s2
    setStep { s3 with start := { s3.start with journal := none } } 10

/-- A start-up step ends (R409). `ok` is the outcome of what the step does on the dies, `errs` and `corrected` what it finds in the chest. In
SAFE and in a stopped start-up no step is in hand. -/
def stepDone (s : State) (ok : Bool) (errs : List ChestErr) (corrected : Nat) (bad : List Nat) : State :=
  let step := getF s Pg.rst F.RST_STAT_STEP
  if getB s Pg.rst F.RST_STAT_STOPPED || getB s Pg.rst F.RST_STAT_SAFE then s
  else if step = 4 then (if ok then setStep (trainStart s 1) 5 else startStop s 4)
  else if step = 5 then (if culUp s then setStep s 6 else if culState s = 4 then startStop s 5 else s)
  else if step = 6 then stepChest s errs corrected
  else if step = 7 then stepDrawer (errs.foldl chestErr s) (errs.any fun e => e.hit == .drawer)
  else if step = 8 then stepFirmware s
  else if step = 9 then stepJournal s ok bad
  else if step = 10 ∨ step = 11 then setStep s (step + 1)
  else if step = 12 then setStep (pairStart s) 13
  else s

/-! ## Service (R128, R410, R448) -/

/-- The log records that R128 asks for at a cold start. -/
def coldReports (s : State) : State :=
  let s1 := s.start.slots.foldl (fun a e =>
    let x := e.2
    let t := x.2.txn
    seqLog a { status := St.epochLost, cause := 0, flow := x.1, seq := x.2.seq, offLo := addrOffset t.addr % 2 ^ 32, offHi := addrOffset t.addr / 2 ^ 32,
               tag := t.tag, op := t.op, orphan := t.orphan }) s
  let valid := (List.range 4096).filter fun f => flowValid s f && !flowDurable s f
  let s2 := valid.foldl (fun a f =>
    let limit := (tabGet s.start.limits f).getD 65536
    seqLog a { status := St.epochLost, cause := 0x48, flow := f, seq := seqSub limit 98560, offLo := seqSub limit 32769, offHi := 0, tag := 0, op := 0, orphan := false }) s1
  { s2 with start := { s2.start with slots := [] } }

/-- The checkpoint is made void with one chest write (R398, R410). -/
def ckptVoid (s : State) : State :=
  if getF s Pg.chs F.CHS_STAT_CKPT = 1 then setF { s with start := { s.start with ckpt := none } } Pg.chs F.CHS_STAT_CKPT 2 else s

/-- A start or a warm reset would begin accepting and executing (R409, R410): it waits while PFW is asserted. -/
def serviceStart (s : State) : State :=
  if getF s Pg.rst F.RST_STAT_STEP ≠ 13 ∨ s.start.service = true ∨ getB s Pg.rst F.RST_STAT_STOPPED = true then s
  else if pwrPfw s then setB s Pg.rst F.RST_STAT_PFW_HOLD true
  else
    let warm := getF s Pg.rst F.RST_STAT_KIND == 2
    let s1 := setB (ckptVoid s) Pg.rst F.RST_STAT_PFW_HOLD false
    let s2 := { s1 with seq := { s1.seq with running := true }, start := { s1.start with service := true } }
    if warm then setF s2 Pg.jrn F.JRN_STAT_STATE 2
    else
      let s3 := if getF s2 Pg.rst F.RST_STAT_KIND = 0 then coldReports s2 else s2
      let s4 := irqEvent (setF s3 Pg.rst F.RST_SERVICE_US_US ((s3.watchNs - s3.start.usAt) / 1000)) Pg.rst 3
      let s5 := s4.test.offFail.foldl (fun a die => faultLog a 6 die Pg.bst 0) s4
      let s6 := { s5 with test := { s5.test with offFail := [] } }
      usfEval (usbService ([1, 2, 3].foldl (fun a k => usbPower a k (!usbDis a k)) s6))

/-! ## Power-fail warning at the ring die (R19, R127, R381, R398, R438, R444) -/

/-- The internal warning rises: in service the hub stops accepting and executing and starts a checkpoint; a start or a warm reset waits. -/
def pfwRise (s : State) : State :=
  let s1 := passAbort (fwuEnd (if s.start.job.isSome && s.fwu.job != 3 then switchAbandon s 0 else s) 0x42)
  if s1.start.service then
    let s2 := pairPfw s1
    setF { s2 with seq := { s2.seq with running := false } } Pg.chs F.CHS_STAT_CKPT 3
  else if getF s1 Pg.rst F.RST_STAT_KIND == 2 && getF s1 Pg.rst F.RST_STAT_STEP == 13 && !getB s1 Pg.rst F.RST_STAT_PFW_HOLD then
    setF s1 Pg.chs F.CHS_STAT_CKPT 3
  else s1

/-- What the power-fail checkpoint of this state takes in the chest, in KiB: the spec gives only its bound, so it is a free value. -/
def ckptSize (s : State) : Nat × State := let r := freshVal s 16; (min r.1 816, r.2)

/-- The checkpoint is complete in the chest (R127). -/
def checkpointDone (s : State) : State :=
  if getF s Pg.chs F.CHS_STAT_CKPT ≠ 3 then s
  else
    let z := ckptSize s
    let s1 := wearNote { z.2 with start := { z.2.start with ckpt := some (flowImage s), limits := limitLog s } }
    setF (bump (setF s1 Pg.chs F.CHS_STAT_CKPT 1) Pg.chs F.CHS_CKPTS) Pg.seq F.SEQ_START_CKPT_KIB z.1

/-- The internal warning falls (R398): the checkpoint in progress is completed first; in service it is then void, and work resumes. -/
def pfwFall (s : State) : State :=
  let s1 := checkpointDone s
  if s1.start.service then
    let s2 := ckptVoid s1
    bump { s2 with seq := { s2.seq with running := true } } Pg.pwr F.PWR_PFW_RELEASES
  else s1

/-- The ring die follows the internal power-fail warning (R19). -/
def pfwFollow (s : State) : State :=
  let now := pwrPfw s
  if now = s.pwr.warn then s
  else
    let s1 := setPwr s { s.pwr with warn := now }
    if s1.start.inReset then s1 else if now then pfwRise s1 else pfwFall s1

end Sys2Proof.Machine
end

