-- ==== Sys2Proof/Machine/SelfTest.lean ====
section
/-! DEFINITION. Self-test and test access (R442 to R459): online passes, the offline test, the fault log, test unlock, PERTURB and scan
entry. -/

namespace Sys2Proof.Machine

/-! ## Online passes (R442 to R445) -/

/-- An online pass starts, unless one runs. `proving`: the pair's proving started it. -/
def passStart (s : State) (proving : Bool) : State :=
  match s.test.pass with
  | some _ => s
  | none => setB { s with test := { s.test with pass := some proving, passAt := s.watchNs } } Pg.bst F.BST_STAT_BUSY true

/-- The precondition of a test, for its port where it has one (R442). -/
def testMayRun (s : State) (test port : Nat) : Bool :=
  if test = 0 then decide (4096 ≤ freeCells s)
  else if test = 1 then getF s Pg.jrn F.JRN_STAT_STATE == 2
  else if test = 2 then decide (port < 4) && getF s (Pg.port port) F.PORT_STAT_LINK == 0
  else if test = 3 then culUp s && getF s Pg.usb F.USB_STAT_UP_STATE == 0 && !([1, 2, 3].any fun k => usbPort s k F.USB_PORT_POWER)
  else if test = 4 then culUp s && decide (port < 8) && !pageEnabled s (Pg.can port)
  else if test = 7 then getB s Pg.tmk F.TMK_STAT_REF_OK
  else culUp s

/-- The result of one test (R443, R445): 1 PASS, 2 FAIL, 3 SKIPPED. -/
def testResult (s : State) (outs : List TestOut) (test : Nat) : Nat :=
  let mine := outs.filter fun o => o.test == test && testMayRun s test o.port
  if mine.isEmpty then 3
  else if test = 0 then (if 256 ≤ s.sw.retired.length then 2 else 1)
  else if mine.any (·.fail) then 2 else 1

/-- Cells that failed test 0, which tests free ones, retire (R445). -/
def retireCells (s : State) (cells : List Nat) : State :=
  cells.foldl (fun a c =>
    if (cellsHeld a).contains c then a
    else
      let l := a.sw.retired ++ [c]
      faultLog (setF { a with sw := { a.sw with retired := l } } Pg.bst F.BST_RETIRED_CELLS (min l.length 256)) 8 0 Pg.bst c) s

/-- A pass ends with these finished tests and these failed buffer cells (R443, R445). A selected test without an outcome, or whose
precondition does not hold, is SKIPPED. -/
def passDone (s : State) (outs : List TestOut) (cells : List Nat) : State :=
  match s.test.pass with
  | none => s
  | some _ =>
    let en := getF s Pg.bst F.BST_CTL_EN
    let s0 := if en.testBit 0 && testMayRun s 0 0 then retireCells s cells else s
    let res := fun t => if en.testBit t then testResult s0 outs t else 0
    let word := (List.range 8).foldl (fun a t => a + res t * 4 ^ t) 0
    let fails := (List.range 8).filter fun t => res t == 2
    let skips := (List.range 8).filter fun t => res t == 3
    let s1 := fails.foldl (fun a t =>
      let port := ((outs.find? fun o => o.test == t && o.fail && testMayRun s0 t o.port).map (·.port)).getD 0
      faultLog (irqEvent (bump a Pg.bst F.BST_FAILS) Pg.bst 3) 5 t Pg.bst (if 2 ≤ t ∧ t ≤ 4 then port else 0)) s0
    let s2 := setF (setF (setB s1 Pg.bst F.BST_STAT_BUSY false) Pg.bst F.BST_STAT_LAST (if fails.isEmpty then 1 else 2)) Pg.bst F.BST_RESULT_TEST word
    let s3 := setF s2 Pg.bst F.BST_DURATION_MS (min ((s.watchNs - s.test.passAt) / 1000000) 2047)
    irqEvent (bump (bump { s3 with test := { s3.test with pass := none } } Pg.bst F.BST_SKIPS skips.length) Pg.bst F.BST_PASSES) Pg.bst 2

/-! ## The offline test (R446 to R448) -/

/-- What refuses the offline test (R446). -/
def offlineBad (s : State) : Bool :=
  (getB s Pg.par F.PAR_CTL_EN && (pairRole s == 2 || pairRole s == 5)) || pwrPfw s ||
  [1, 2, 4].contains (getF s Pg.fwu F.FWU_STAT_STATE) || getF s Pg.drw F.DRW_STAT_PHASE != 0 || s.test.offline

/-- A write of OFFLINE.KEY (R446, R447 steps 1 and 2). -/
def offlineStart (s : State) (key : Nat) : State :=
  if key ≠ 0x5E1F then noteErr s Pg.bst St.targetErr Cause.range (0x48 / 4)
  else if offlineBad s then noteErr s Pg.bst St.targetErr 0x40 (0x48 / 4)
  else
    let s1 := permitEnd (passAbort s)
    let s2 := { s1 with seq := { s1.seq with running := false }, test := { s1.test with offline := true } }
    bump (bump (setF s2 Pg.jrn F.JRN_STAT_STATE 3) Pg.jrn F.JRN_SR_ENTRIES) Pg.bst F.BST_OFFLINE_RUNS

/-- The offline test ends with these outcomes and signatures, and the hub restarts (R447 step 4, R448). -/
def offlineDone (s : State) (ringFail fieldFail : Bool) (ringSig fieldSig : Word) : State :=
  if !s.test.offline then s
  else
    let s1 := setF (setF s Pg.bst F.BST_OFF_RESULT_RING (if ringFail then 2 else 1)) Pg.bst F.BST_OFF_RESULT_FIELD (if fieldFail then 2 else 1)
    let s2 := setW (setW s1 Pg.bst 0x5C ringSig) Pg.bst 0x60 fieldSig
    let dies := (if ringFail then [0] else []) ++ (if fieldFail then [1] else [])
    restart { s2 with test := { s2.test with offline := false, offFail := dies } }

/-! ## The fault log (R450) -/

/-- A read of FLOG_POP0: the oldest record as POP0 shows it, its other words latched. -/
def flogPop (s : State) : Word × State :=
  match s.test.flog with
  | [] => (0#32, setW (setW (setW s Pg.bst 0x74 0#32) Pg.bst 0x78 0#32) Pg.bst 0x7C 0#32)
  | r :: rest =>
    let w := r.kind % 256 + (if r.injected then 256 else 0) + r.cls % 8 * 512 + r.page % 512 * 65536 + 2 ^ 31
    let s1 := setW (setW (setW s Pg.bst 0x74 (BitVec.ofNat 32 r.stamp)) Pg.bst 0x78 (BitVec.ofNat 32 r.sec)) Pg.bst 0x7C (BitVec.ofNat 32 r.detail)
    (BitVec.ofNat 32 w, { s1 with test := { s1.test with flog := rest } })

/-! ## Test unlock and PERTURB (R451 to R454) -/

def testUnlocked (s : State) : Bool := getB s Pg.prt F.PRT_STAT_TEST_UNLOCK

/-- A write of UNLOCK.KEY (R451). A key that is neither of the two has no effect. -/
def unlockKey (s : State) (key : Nat) : State :=
  if key = 0 then testUnlockEnd s
  else if key ≠ 0x7E57 then s
  else if !getB s Pg.prt F.PRT_CTL_ALLOW then noteErr s Pg.prt St.targetErr 0x40 (0x44 / 4)
  else if testUnlocked s then s
  else irqEvent (setB { s with test := { s.test with unlockAt := s.watchNs } } Pg.prt F.PRT_STAT_TEST_UNLOCK true) Pg.prt 2

/-- The bits of PERTURB that page `p` implements (R453). -/
def perturbMask (p : Nat) : Nat :=
  let d := 0xFF
  let b := 0xF00
  let c := 0xF000
  let x := 0x1FF0000
  if 0x010 ≤ p ∧ p ≤ 0x013 then b + x
  else if p = Pg.swc ∨ p = Pg.seq then d
  else if p = Pg.buf ∨ p = Pg.jrn then d + x + 0x2000000
  else if p = Pg.brg ∨ p = Pg.cul then d + c + x
  else if p = Pg.mir then d + x
  else if (0x100 ≤ p ∧ p ≤ 0x12F) ∨ p = Pg.usf then d + b
  else if 0x138 ≤ p ∧ p ≤ 0x13F then d + b + x
  else 0

/-- The unlock minutes that are left, as PRT.STAT shows them. -/
def unlockLeft (s : State) : Nat :=
  if testUnlocked s then
    let ends := s.test.unlockAt + getF s Pg.prt F.PRT_CTL_UNLOCK_MIN * 60000000000
    (ends - s.watchNs + 59999999999) / 60000000000
  else 0

/-! ## Scan access (R455 to R458) -/

/-- PRT.STAT.SCAN_STATE: 0 OFF, 1 ZEROISING, 2 SCAN, 3 HALTED. -/
def scanState (s : State) : Nat := getF s Pg.prt F.PRT_STAT_SCAN_STATE

/-- The challenge is replaced by a fresh random value. -/
def newChallenge (s : State) : State :=
  let d := drawFree s 2
  { d.2 with test := { d.2.test with chal := d.1 } }

/-- The debounced level of TEST changes (R455); a fall during ZEROISING leads to HALTED (R458). -/
def testPin (s : State) (level : Bool) : State :=
  if getB s Pg.prt F.PRT_STAT_TEST_PIN = level then s
  else
    let s1 := if scanState s = 1 ∧ level = false then { s with test := { s.test with scanCut := true } } else s
    newChallenge (irqEvent (setB s1 Pg.prt F.PRT_STAT_TEST_PIN level) Pg.prt 3)

/-- The 16 bytes of the challenge. -/
def challenge (s : State) : List Byte :=
  leBytes 8 (Config.freeValue s.test.chal).toNat ++ leBytes 8 (Config.freeValue (s.test.chal + 1)).toNat

/-- The key that checks a scan request (R456, R459). -/
def scanKey (s : State) : List Byte :=
  match s.test.ownerKey with
  | some k => if s.test.ownerBad then Config.trelzarKey 2 else k
  | none => Config.trelzarKey 2

def scanAuth (s : State) : Bool :=
  let m := sha512 (challenge s ++ leBytes 16 s.dev.serial ++ [0x53, 0x43, 0x41, 0x4E])
  edVerify (scanKey s) m (regBytes s Pg.prt 0x80 16)

/-- A request for scan entry is refused (R456). -/
def scanRefuse (s : State) (cause : Nat) : State :=
  let s1 := faultLog (noteErr (bump s Pg.prt F.PRT_SCAN_REFUSED) Pg.prt St.targetErr cause (0xC0 / 4)) 10 cause Pg.prt 0
  newChallenge { s1 with test := { s1.test with goAt := some s.watchNs } }

/-- A write of SCAN_GO (R456, R457 steps 1 and 2). -/
def scanGo (s : State) : State :=
  let held := match s.test.goAt with | some t => decide (s.watchNs < t + 1000000000) | none => false
  if held then s
  else if !getB s Pg.prt F.PRT_STAT_TEST_PIN || (getB s Pg.par F.PAR_CTL_EN && (pairRole s == 2 || pairRole s == 5)) || scanState s != 0 then
    scanRefuse s 0x41
  else if !scanAuth s then scanRefuse s 0x42
  else
    let s1 := ckptVoid (permitEnd (passAbort s))
    let s2 := { s1 with seq := { s1.seq with running := false }, start := { s1.start with service := false }, test := { s1.test with scanCut := false } }
    newChallenge (setF s2 Pg.prt F.PRT_STAT_SCAN_STATE 1)

/-- Every key register reads as cleared: the responses, signatures and keys that were written (R457 step 4). -/
def clearKeys (s : State) : State :=
  let key := fun k => (k / 1024 == Pg.prt && 0x20 ≤ k % 1024 && k % 1024 < 0x30) || (k / 1024 == Pg.fwu && 0x40 ≤ k % 1024 && k % 1024 < 0x58)
  { s with regs := s.regs.filter fun e => !key e.1 }

/-- Zeroisation ends (R457 steps 3 to 5, R458). -/
def zeroiseDone (s : State) : State :=
  if scanState s ≠ 1 then s
  else
    let s1 := clearKeys { s with test := { s.test with devKey := 0, ownerKey := none, ownerBad := false, pairKeys := false } }
    let s2 := setB (setB s1 Pg.prt F.PRT_STAT_OTP_BLOCKED true) Pg.fwu F.FWU_STAT_OWNER_KEY false
    setF s2 Pg.prt F.PRT_STAT_SCAN_STATE (if s2.test.scanCut then 3 else 2)

end Sys2Proof.Machine
end

