-- ==== Sys2Proof/Machine/Watch.lean ====
section
/-! DEFINITION. The watch oscillators, the handshake bounds and the loss of the 25 MHz reference (R26 to R31, R219), and the
latencies that a PCS lock gives (R222, R223). -/

namespace Sys2Proof.Machine

/-- One measured deviation (R27): beyond ±5 % the out-of-tolerance bit is set and the event raised. -/
def watchOne (s : State) (dev : Int) (die : Nat) (f oot : FieldD) : State :=
  let s1 := setF s Pg.gen f (ofSigned 16 dev)
  if 500 < dev || dev < -500 then faultLog (irqEvent (setB s1 Pg.gen oot true) Pg.gen 2) 4 die Pg.gen (ofSigned 16 dev) else s1

/-- The measurement of both oscillators (R27): it pauses while the reference is absent. -/
def watchMeasure (s : State) (ringDev fieldDev : Int) : State :=
  if getB s Pg.tmk F.TMK_STAT_REF_OK then
    watchOne (watchOne s ringDev 0 F.GEN_WATCH_RING_DEV F.GEN_WATCH_STAT_RING_OOT) fieldDev 1 F.GEN_WATCH_FIELD_DEV F.GEN_WATCH_STAT_FIELD_OOT
  else s

/-- The number of a handshake class in the fault log (R450). -/
def hsNumber : HsClass → Nat
  | .datapath => 0 | .memory => 1 | .island => 2 | .field => 3

/-- The block of page `p` handles frames, so that its item in hand is no access (R29, R58). -/
def framePage (p : Nat) : Bool := (0x010 ≤ p && p ≤ 0x019) || (0x040 ≤ p && p ≤ 0x0D0)

/-- A handshake bound of the block of page `p` expires (R29): HANG, unless the acknowledge comes in the same step (R30). -/
def handshakeExpire (s : State) (p : Nat) (cls : HsClass) (ack : Bool) : State :=
  if ack || !pageAssigned p then s
  else
    let st := if framePage p then 0 else St.hang
    let s1 := irqEvent (setF (setB s p F.PAGE_STAT_HANG true) p F.PAGE_STAT_STATE 3) p 0
    let s2 := endItems (noteErr s1 p st Cause.hang 0) p St.hang Cause.hang
    let s3 := if 0x010 ≤ p ∧ p ≤ 0x013 then reclaimPort s2 (portOf (p - 0x010)) 5 else s2
    let s4 := if getB s3 Pg.gen F.GEN_WATCH_CTL_AUTO_RESET then blockReset s3 p else s3
    faultLog s4 1 (hsNumber cls) p 0

/-- The reference fails (R219): ports whose PCS clock derives from it go DOWN. -/
def refGone (s : State) : State :=
  if !getB s Pg.tmk F.TMK_STAT_REF_OK then s
  else
    let s1 := irqEvent (setB (setB s Pg.tmk F.TMK_STAT_REF_OK false) Pg.gen F.GEN_WATCH_STAT_UNCHECKED true) Pg.tmk 4
    ethPorts.foldl (fun a p =>
      let pg := portPage p
      if portMode a p = 0 then a
      else
        let b := setB (setB a pg F.PORT_STAT_PCS_LOCK false) pg F.PORT_STAT_FEC_LOCK false
        if getF b pg F.PORT_STAT_LINK = 2 then linkGone b p else setLink b p (restingLink b p)) (servoHold s1)

/-- The reference returns (R219): the engine changes back without a step, and no interrupt tells it. -/
def refBack (s : State) : State :=
  if getB s Pg.tmk F.TMK_STAT_REF_OK then s
  else setB (setB s Pg.tmk F.TMK_STAT_REF_OK true) Pg.gen F.GEN_WATCH_STAT_UNCHECKED false

/-- TX and RX latency of a mode and the greatest alignment phase, in 1/16 ns (R223). -/
def modeLat (s : State) (p : Port) : Nat × Nat × Nat :=
  let m := portMode s p
  let sub := p == .c1 || p == .c2
  if m = 1 then (228, 372, 40)
  else if m = 2 then (504, 716, 100)
  else if m = 3 then (if sub then (832, 1620, 128) else (768, 1560, 128))
  else if m = 4 then (396, 696, 52)
  else
    let v := getF s (portPage p) F.PORT_STAT_SGMII_SPEED
    if v = 0 then (13568, 14540, 128) else if v = 1 then (2048, 3020, 128) else (896, 1740, 128)

/-- At a PCS lock TMK.CORR takes the fixed latencies and the phase the hub measures, a free value within its range (R222). -/
def corrLock (s : State) (p : Port) : State :=
  let (tx, rx, span) := modeLat s p
  let (a, s1) := freshVal s 16
  let (b, s2) := freshVal s1 16
  setF (setF s2 Pg.tmk F.TMK_CORR_TX_LAT (tx + a % (span + 1)) (portIdx p)) Pg.tmk F.TMK_CORR_RX_LAT (rx + b % (span + 1)) (portIdx p)

/-- Signal detect and locks of a port change (R68): a PCS lock measures the latencies. A port has no clock while the reference is
absent (R219). -/
def lockChange (s : State) (p : Port) (signal pcs fec : Bool) (speed : Nat) : State :=
  let ok := getB s Pg.tmk F.TMK_STAT_REF_OK
  let s1 := signalLock s p signal (pcs && ok) (fec && ok) speed
  if isEthPort p && getB s1 (portPage p) F.PORT_STAT_PCS_LOCK && !getB s (portPage p) F.PORT_STAT_PCS_LOCK then corrLock s1 p else s1

end Sys2Proof.Machine
end

