-- ==== Sys2Proof/Machine/Live.lean ====
section
/-! DEFINITION. What a register reads as (R7 to R9, R52, R53, R56): the stored word, with the fields that follow hardware state put
in their places. -/

namespace Sys2Proof.Machine

/-- A field of a word given a value. -/
def fieldPut (v : Word) (f : FieldD) (x : Nat) : Word := wordPut v f.lo f.w x

/-- A truth value as a field. -/
def bitPut (v : Word) (f : FieldD) (b : Bool) : Word := fieldPut v f (if b then 1 else 0)

/-- A number with bit `i` set where `p i` holds, over `n` bits. -/
def bitMap (n : Nat) (p : Nat → Bool) : Nat := (List.range n).foldl (fun a i => if p i then a + 2 ^ i else a) 0

/-- Word `k` of the SIDE bitmap of page `p` (R52). -/
def sideWord (p k : Nat) : Word := BitVec.ofNat 32 (bitMap 32 fun b => isSide p (4 * (32 * k + b)))

/-- An endpoint holds receive or transmit bytes. -/
def epBusy (s : State) (ep : Nat) : Bool :=
  let f := fifoOf s ep
  !f.rx.isEmpty || !f.opened.isEmpty || f.sealed.isSome || !f.tx.isEmpty || !(openPushes s ep).isEmpty

/-- The block of page `p` holds an item in hand or queued (PAGE_STAT.BUSY). -/
def pageBusy (s : State) (p : Nat) : Bool :=
  if 0x010 ≤ p ∧ p ≤ 0x013 then
    (tabGet s.sw.onWire (p - 0x010)).isSome || (List.range 8).any fun c => !(queueOf s (portOf (p - 0x010)) c).isEmpty
  else if p = Pg.swc ∨ p = Pg.buf then !s.sw.frames.isEmpty
  else if p = Pg.seq then s.seq.flows.any (fun e => !e.2.opens.isEmpty || !e.2.waiting.isEmpty) || s.seq.ctxs.any fun e => !e.2.held.isEmpty
  else if 0x040 ≤ p ∧ p ≤ 0x07F then
    s.seq.flows.any (fun e => flwPg e.1 == p && !e.2.opens.isEmpty) || s.seq.ctxs.any fun e => flwPg e.1 == p && !e.2.held.isEmpty
  else if p = Pg.brg ∨ p = Pg.win then
    !s.brg.offers.isEmpty || !s.brg.opens.isEmpty || !s.brg.writes.isEmpty || !s.brg.reads.isEmpty || !s.brg.ibTxns.isEmpty
  else if p = Pg.cul then !s.cul.execs.isEmpty || !s.cul.ringW.isEmpty
  else if p = Pg.fwu then s.fwu.job != 0
  else if p = Pg.drw then s.start.job.isSome || getF s Pg.drw F.DRW_STAT_PHASE != 0
  else if p = Pg.bst then s.test.pass.isSome
  else if 0x100 ≤ p ∧ p ≤ 0x11F then epBusy s (p - 0x100) || (serOf s (p - 0x100)).inChar.isSome
  else if 0x120 ≤ p ∧ p ≤ 0x12F then epBusy s (p - 0x100) || benRun s (p - 0x120) != 0
  else if 0x138 ≤ p ∧ p ≤ 0x13F then (getW s p 0x58 != 0#32) || (canOf s (p - 0x138)).cur.isSome
  else if p = Pg.usf then !s.usb.opens.isEmpty || !s.usb.resp.isEmpty
  else false

/-- A header register (R53). -/
def liveHdr (s : State) (p off : Nat) (v : Word) : Word :=
  if off = 0x00 then
    let (ty, inst, ver) := pageIdent p
    BitVec.ofNat 32 (ver + 256 * inst + 65536 * ty)
  else if off = 0x04 then
    BitVec.ofNat 32 (irqCount p + (if perturbMask p = 0 then 0 else 64) + 65536 * pageSpecific p)
  else if off = 0x0C then bitPut (fieldPut v F.PAGE_STAT_STATE (pageState s p)) F.PAGE_STAT_BUSY (pageBusy s p)
  else if off = 0x28 then bitPut v F.LOCK_TEST_UNLOCK (testUnlocked s)
  else if off = 0x2C then BitVec.ofNat 32 (sideOffset p)
  else v

/-- The state code of an initiator context (R116): 0 FREE, 1 OPEN, 2 FENCED, 3 RESYNC. A flow that is both shows RESYNC (log entry 146). -/
def flowStCode (s : State) (flow : Nat) : Nat :=
  if !getB s (flwPg flow) F.FLW_CFG_VALID (flwIx flow) then 0
  else
    let f := flowOf s flow
    match f.st with
    | .resync => 3
    | .opened => if f.pathFence || f.verFence then 2 else 1

/-- Word `w` of a context of ROLE 0 (R131); `v` is the stored word. -/
def initiatorWord (s : State) (flow w : Nat) (v : Word) : Word :=
  let f := flowOf s flow
  if w = 0 then wordPut (wordPut v 1 1 0) 8 3 (flowStCode s flow)
  else if w = 1 then v
  else if w = 2 then wordPut v 20 4 f.tryCnt
  else BitVec.ofNat 32
    (if w = 3 then f.nextSeq else if w = 4 then oldestOpen f else if w = 5 then f.opens.length
     else if w = 6 then f.peerEpoch else f.seqLimit)

/-- Word `w` of a context of ROLE 1 (R131). -/
def targetWord (s : State) (t : TCtx) (w : Nat) : Word :=
  BitVec.ofNat 32
    (if w = 0 then 3 + 4 * t.cls + 256 * 4 + 65536 * (t.srcFlow % 4096)
     else if w = 1 then t.srcRoute.toNat / 2 ^ 32
     else if w = 2 then t.srcRoute.toNat
     else if w = 3 then t.ne
     else if w = 4 then t.ackFloor
     else if w = 5 then t.held.length + 65536 * (liveHere t).length
     else if w = 6 then t.srcEpoch
     else min ((s.watchNs - t.lastAt) / 1000000000) 65535)

/-- A FLW page (R131). -/
def liveFlw (s : State) (p off : Nat) (v : Word) : Word :=
  let base := (p - 0x040) * 64
  let has (i : Nat) : Bool := match tabGet s.seq.ctxs (base + i) with
    | some t => !t.held.isEmpty
    | none => decide (0 < openCount s (base + i))
  if off = 0x40 then BitVec.ofNat 32 (bitMap 32 has)
  else if off = 0x44 then BitVec.ofNat 32 (bitMap 32 fun i => has (32 + i))
  else if 0x100 ≤ off ∧ off < 0x900 then
    let flow := base + (off - 0x100) / 32
    match tabGet s.seq.ctxs flow with
    | some t => targetWord s t (off % 32 / 4)
    | none => initiatorWord s flow (off % 32 / 4) v
  else v

/-- Page BUF. -/
def liveBuf (s : State) (off : Nat) (v : Word) : Word :=
  if off = 0x78 then
    match s.sw.walk with
    | [] => fieldPut (bitPut v F.BUF_WALK_BUSY false) F.BUF_WALK_PORT 0
    | w :: _ => fieldPut (bitPut v F.BUF_WALK_BUSY true) F.BUF_WALK_PORT w
  else if off = 0x80 then BitVec.ofNat 32 (poolUse s 0 + 65536 * poolUse s 1)
  else if off = 0x84 then BitVec.ofNat 32 (poolUse s 2 + 65536 * sharedUse s)
  else if off = 0x88 then BitVec.ofNat 32 (freeCells s)
  else v

/-- A slot of the witness (R366). -/
def witWord (s : State) (slot w : Nat) : Word :=
  match witOf s slot with
  | none => 0#32
  | some x => BitVec.ofNat 32
    (if w = 0 then
       (if x.held then (if x.pend.isSome then 3 else 1) else 2) + (if x.sync then 4 else 0) +
         65536 * (if x.held then min ((x.ends - s.watchNs) / 100000) 65535 else 0)
     else if w = 1 then x.pairMac
     else if w = 2 then x.pairMac / 2 ^ 32 % 65536
     else if w = 3 then x.holder
     else if w = 4 then x.holder / 2 ^ 32 % 65536
     else if w = 5 then x.epoch
     else 0)

/-- Page MIR: the log in use (R372). -/
def liveMir (s : State) (off : Nat) (v : Word) : Word :=
  if off = 0x50 then fieldPut v F.MIR_LOG_USED_KIB (min ((logUse s + 1023) / 1024) 262144) else v

/-- Page PAR (R359 to R366, R382). -/
def livePar (s : State) (off : Nat) (v : Word) : Word :=
  if off = 0x64 then bitPut v F.PAR_STAT_HEALTHY (ownHealthy s)
  else if off = 0x68 then fieldPut v F.PAR_HEALTH_OWN (ownHealth s)
  else if off = 0x6C then
    bitPut (bitPut (bitPut (fieldPut v F.PAR_LEASE_STAT_REMAIN (if pairRole s = 2 ∨ pairRole s = 5 then min (remainNs s / 100000) 65535 else 0))
      F.PAR_LEASE_STAT_WITNESS_OK (runsUntil s s.pair.rightW)) F.PAR_LEASE_STAT_CONSENT_OK (runsUntil s s.pair.rightC))
      F.PAR_LEASE_STAT_PROMISE (match s.pair.promise with | some t => runsUntil s t | none => false)
  else if off = 0x78 then fieldPut v F.PAR_PROVE_STAT_AGE (min ((s.watchNs - s.pair.proveAt) / 60000000000) 65535)
  else if 0x200 ≤ off ∧ off < 0x400 then witWord s ((off - 0x200) / 32) (off % 32 / 4)
  else v

/-- Pages BRG, WIN and TSQ. -/
def liveHost (s : State) (p off : Nat) (v : Word) : Word :=
  if p = Pg.brg then
    (if off = 0x40 then BitVec.ofNat 32 (s.dev.vendor % 65536 + 65536 * (0x0640 + (if s.dev.grade = 1 then 1 else 0)))
     else if off = 0x5C then fieldPut (fieldPut v F.BRG_TAGS_WR_FREE (freeTags s 0 192)) F.BRG_TAGS_RD_FREE (freeTags s 192 512)
     else v)
  else if p = Pg.win then
    (match fieldAt F.WIN_OB_OPEN_WR_OPEN off with
     | some w =>
       let mine := s.brg.opens.filter fun o => o.win == w
       let wr := (mine.filter fun o => match o.use with | .write _ => true | _ => false).length
       fieldPut (fieldPut v F.WIN_OB_OPEN_WR_OPEN wr) F.WIN_OB_OPEN_RD_OPEN (mine.length - wr)
     | none => v)
  else match fieldAt F.TSQ_LEVEL_LEVEL off with
    | some q => fieldPut v F.TSQ_LEVEL_LEVEL (tsqOf s q).length
    | none => v

/-- A serial port: RX after INV_RX is mark while no pin carries it. -/
def liveSer (s : State) (n off : Nat) (v : Word) : Word :=
  let f := fifoOf s n
  if off = 0x5C then
    let line := match pinOf s 3 n 0 with | some p => pinLevel s p | none => true
    bitPut (bitPut (fieldPut (fieldPut v F.SER_STAT_RX_FILL (rxFill f)) F.SER_STAT_TX_WORDS f.tx.length) F.SER_STAT_FC f.fc)
      F.SER_STAT_LINE (line != getB s (Pg.ser n) F.SER_CFG_INV_RX)
  else if off = 0xC0 then fieldPut v F.SER_PUSH_STAT_OPEN (min (openPushes s n).length 15)
  else v

/-- A bench. -/
def liveBen (s : State) (n off : Nat) (v : Word) : Word :=
  let f := fifoOf s (32 + n)
  if off = 0x6C then BitVec.ofNat 32 (benSlots s n)
  else if off = 0x74 then
    bitPut (fieldPut (fieldPut v F.BEN_FIFO_STAT_RX_FILL (rxFill f)) F.BEN_FIFO_STAT_TX_WORDS f.tx.length) F.BEN_FIFO_STAT_FC f.fc
  else if off = 0xC0 then fieldPut v F.BEN_PUSH_STAT_OPEN (min (openPushes s (32 + n)).length 15)
  else v

/-- Pages BTB, DIS and USF. -/
def liveField (s : State) (p off : Nat) (v : Word) : Word :=
  if p = Pg.btb then
    (if off = 0x48 then BitVec.ofNat 32 (bitMap 16 (fun n => benRun s n != 0) + 65536 * bitMap 16 fun n => benRun s n == 2) else v)
  else if p = Pg.dis then
    (if 0xC0 ≤ off ∧ off < 0xD8 then
       BitVec.ofNat 32 (bitMap 32 fun b => let q := 8 * (off - 0xC0) + b; pinIsOut (pinFunc s q) (pinSig s q) && pinLevel s q)
     else v)
  else if p = Pg.usf then
    (if off = 0x44 then fieldPut (fieldPut v F.USF_STAT_OPEN s.usb.opens.length) F.USF_STAT_WAITING s.usb.resp.length
     else if off = 0x48 then BitVec.ofNat 32 (bitMap 32 (usfBusy s))
     else if off = 0x4C then BitVec.ofNat 32 (bitMap 32 fun t => usfBusy s (32 + t))
     else v)
  else v

/-- Seconds of the confirm window that are left (R436). -/
def confirmLeft (s : State) : Nat :=
  if getF s Pg.fwu F.FWU_STAT_STATE = 5 then
    (s.fwu.trialAt + 1000000000 * getF s Pg.fwu F.FWU_CTL_CONFIRM_S - s.watchNs + 999999999) / 1000000000
  else 0

/-- Pages DRW, FWU and PRT. -/
def liveSys (s : State) (p off : Nat) (v : Word) : Word :=
  if p = Pg.drw then
    (if 0x50 ≤ off ∧ off < 0x60 then
       let d := (off - 0x50) / 4
       let set := activeSet s
       BitVec.ofNat 32 ((if drawerPresent s set d then 1 else 0) + (if drawerPresent s set d && drawerCrcOk s set d then 2 else 0) +
         65536 * leNat (drawerBytes s set d 12 2))
     else v)
  else if p = Pg.fwu then
    (if off = 0x78 then fieldPut v F.FWU_CONFIRM_LEFT_S (confirmLeft s)
     else if off = 0xC0 then freeWord s.fwu.nonce 0
     else if off = 0xC4 then freeWord s.fwu.nonce 1
     else v)
  else if p = Pg.prt then
    (if off = 0x48 then fieldPut v F.PRT_STAT_UNLOCK_LEFT (unlockLeft s)
     else if 0x60 ≤ off ∧ off < 0x70 then freeWord (s.test.chal + (off - 0x60) / 8) (off / 4 % 2)
     else if 0x100 ≤ off ∧ off < 0x140 then
       let k := (off - 0x100) / 4
       BitVec.ofNat 32 (bitMap 32 fun b => pageAssigned (32 * k + b) && getW s (32 * k + b) 0x24 != 0#32)
     else v)
  else v

/-- Pages GEN, INT, NOD, SEQ, SWC and TMK. -/
def liveRing (s : State) (p off : Nat) (v : Word) : Word :=
  if p = Pg.gen then (if off = 0x40 then BitVec.ofNat 32 (s.dev.grade % 4 + 16 * (s.dev.ringRev % 16) + 256 * (s.dev.fieldRev % 16)) else v)
  else if p = Pg.int then (if 0x100 ≤ off ∧ off < 0x140 then BitVec.ofNat 32 (pendWord s ((off - 0x100) / 4)) else v)
  else if p = Pg.nod then
    (if off = 0x48 then BitVec.ofNat 32 s.dev.mac
     else if off = 0x4C then BitVec.ofNat 32 (s.dev.mac / 2 ^ 32 % 65536)
     else if off = 0x54 then fieldPut v F.NOD_GROUP_SET (if isCoupler s then groupFold s else getF s Pg.kvl F.KVL_VER_EN)
     else if 0x400 ≤ off ∧ off < 0x800 then
       (match tabGet s.ring.nt ((off - 0x400) / 16) with | some e => nodeWord e (off % 16 / 4) | none => 0#32)
     else if 0x800 ≤ off ∧ off < 0xC00 then
       (if isCoupler s then (match tabGet s.ring.st ((off - 0x800) / 16) with | some e => nodeWord e (off % 16 / 4) | none => 0#32) else 0#32)
     else v)
  else if p = Pg.seq then (if off = 0x50 then BitVec.ofNat 32 (liveCount s + 65536 * dataLiveCount s) else v)
  else if p = Pg.swc then
    (if 0x200 ≤ off ∧ off < 0x400 then BitVec.ofNat 32 (bitMap 32 fun i => (flowOf s (8 * (off - 0x200) + i)).pathW) else v)
  else if p = Pg.tmk then
    (if off = 0x44 then bitPut v F.TMK_STAT_FIELD_SYNC (fieldSync s)
     else if off = 0x48 then BitVec.ofNat 32 (nowNs s)
     else v)
  else v

/-- The register at `off` of page `p` as it stands: the stored word with its live fields. -/
def liveWord (s : State) (p off : Nat) : Word :=
  let v := getW s p off
  if sideOffset p ≤ off ∧ off < sideOffset p + 0x80 then sideWord p ((off - sideOffset p) / 4)
  else if off < 0x40 then liveHdr s p off v
  else if 0x040 ≤ p ∧ p ≤ 0x07F then liveFlw s p off v
  else if p = Pg.buf then liveBuf s off v
  else if p = Pg.par then livePar s off v
  else if p = Pg.mir then liveMir s off v
  else if p = Pg.pwr then (if off = 0x54 then fieldPut v F.PWR_STAT_COUNT (pwrCount s / 100000) else v)
  else if p = Pg.brg ∨ p = Pg.win ∨ p = Pg.tsq then liveHost s p off v
  else if 0x100 ≤ p ∧ p ≤ 0x11F then liveSer s (p - 0x100) off v
  else if 0x120 ≤ p ∧ p ≤ 0x12F then liveBen s (p - 0x120) off v
  else if p = Pg.btb ∨ p = Pg.dis ∨ p = Pg.usf then liveField s p off v
  else if p = Pg.drw ∨ p = Pg.fwu ∨ p = Pg.prt then liveSys s p off v
  else liveRing s p off v

/-- What a read of the register shows: nothing at an unassigned page (R53), the snapshot of a frozen counter (R56), no bits of a
write-only field (R9). -/
def shownWord (s : State) (p off : Nat) : Word :=
  if !pageAssigned p then 0#32
  else
    let still := getB s p F.PAGE_CTL_FREEZE && (fieldsAt p off).any fun fi => fi.1.frozen
    (if still then (tabGet s.frozen (regKey p off)).getD (resetWord p off) else liveWord s p off) &&& ~~~(accMask p off fun a => a == .wo)

end Sys2Proof.Machine
end

