-- ==== Sys2Proof/Machine/Bus.lean ====
section
/-! DEFINITION. Register accesses (R7 to R9, R35, R54 to R59, R189, R486): what a write does at its page, what a read returns and
clears, and the way an access takes to its page. -/

namespace Sys2Proof.Machine

/-- A completion status and a cause. -/
abbrev Ack := Nat × Nat

def ackOk : Ack := (St.ok, 0)

/-! ## Log pops (R130, R215) -/

/-- A read of SEQ.LOG_POP0 (R130): the oldest record, its other words latched. -/
def seqPopNow (s : State) : Word × State :=
  match s.seq.log with
  | [] => (0#32, setW (setW (setW s Pg.seq 0x64 0#32) Pg.seq 0x68 0#32) Pg.seq 0x6C 0#32)
  | r :: rs =>
    let s1 := { s with seq := { s.seq with log := rs } }
    let w3 := r.offHi % 256 + 256 * (r.tag % 1024) + 2 ^ 18 * (r.op % 16) + (if r.orphan then 2 ^ 22 else 0)
    let s2 := setW (setW (setW s1 Pg.seq 0x64 (BitVec.ofNat 32 r.seq)) Pg.seq 0x68 (BitVec.ofNat 32 r.offLo)) Pg.seq 0x6C (BitVec.ofNat 32 w3)
    (BitVec.ofNat 32 (r.status % 256 + 256 * (r.cause % 256) + 65536 * (r.flow % 4096) + 2 ^ 31), s2)

/-- A read of BRG.ERRLOG0 (R215). -/
def errPopNow (s : State) : Word × State :=
  match s.brg.errlog with
  | [] => (0#32, setW (setW (setW s Pg.brg 0x64 0#32) Pg.brg 0x68 0#32) Pg.brg 0x6C 0#32)
  | r :: rs =>
    let s1 := setBrg s { s.brg with errlog := rs }
    let w3 := fieldPut (fieldPut 0#32 F.BRG_ERRLOG3_LEN r.len) F.BRG_ERRLOG3_TAG r.tag
    let s2 := setW (setW (setW s1 Pg.brg 0x64 (BitVec.ofNat 32 r.addr)) Pg.brg 0x68 (BitVec.ofNat 32 (r.addr / 2 ^ 32))) Pg.brg 0x6C w3
    (BitVec.ofNat 32 (r.status % 256 + 256 * (r.cause % 256) + 2 ^ 16 * (r.kind % 8) + (if r.discarded then 2 ^ 19 else 0) +
      2 ^ 20 * (r.win % 16) + 2 ^ 31), s2)

/-- A read of BRG.SPECLOSS0 (R215). -/
def lossPopNow (s : State) : Word × State :=
  match s.brg.loss with
  | [] => (0#32, setW (setW s Pg.brg 0x78 0#32) Pg.brg 0x7C 0#32)
  | r :: rs =>
    let s1 := setBrg s { s.brg with loss := rs }
    let s2 := setW (setW s1 Pg.brg 0x78 (BitVec.ofNat 32 r.addr)) Pg.brg 0x7C (BitVec.ofNat 32 (r.addr / 2 ^ 32))
    (BitVec.ofNat 32 (r.win % 16 + (if r.unknown then 16 else 0) + 256 * (r.firstUnused % 256) + 65536 * (r.tag % 1024) + 2 ^ 31), s2)

/-! ## Reads -/

/-- A register that a read of its first log word pops: the word, and the state after. -/
def popWord (s : State) (p off : Nat) : Option (Word × State) :=
  if p = Pg.seq ∧ off = 0x60 then some (seqPopNow s)
  else if p = Pg.brg ∧ off = 0x60 then some (errPopNow s)
  else if p = Pg.brg ∧ off = 0x74 then some (lossPopNow s)
  else if p = Pg.bst ∧ off = 0x70 then some (flogPop s)
  else if p = Pg.nod ∧ off = 0x64 then some (chgPopNow s)
  else if p = Pg.tsq then (fieldAt F.TSQ_POP_ID_ID off).map fun i => tsqPopNow s i
  else if p = Pg.trg then (fieldAt F.TRG_CAP_POP0_VALID off).map fun c => capPopNow s c
  else none

/-- A read of one register (R9, R51, R56, R218): its value, and the state after its side effect. -/
def regRead (s : State) (p off : Nat) : Word × State :=
  match popWord s p off with
  | some r => r
  | none =>
    if p = Pg.tmk ∧ off = 0x48 then (shownWord s p off, nowLatchRegs s)
    else
      let rc := accMask p off fun a => a == .rc
      (shownWord s p off, if rc = 0#32 then s else setW s p off (getW s p off &&& ~~~rc))

/-- `n` bytes from page offset `off` on, as an access reads them; every register it touches is read once, in address order. -/
def bytesRead (s : State) (p off n : Nat) : List Byte × State :=
  let first := off / 4
  let cnt := (off + n - 1) / 4 - first + 1
  let r := (List.range cnt).foldl (fun (a : List Byte × State) k =>
      let x := regRead a.2 p (4 * (first + k))
      (a.1 ++ leBytes 4 x.1.toNat, x.2)) ([], s)
  ((r.1.drop (off % 4)).take n, r.2)

/-! ## Writes at the page -/

/-- A command whose refusals its page records: the completion is the one that the record gives. -/
def cmdAck (p : Nat) (h : State → State) (s : State) : Ack × State :=
  let probe := h (setW s p 0x1C 0#32)
  let a : Ack := if getB probe p F.ERR_FIRST_VALID && getF probe p F.ERR_FIRST_STATUS != 0
    then (getF probe p F.ERR_FIRST_STATUS, getF probe p F.ERR_FIRST_CAUSE) else ackOk
  (a, h s)

/-- A write that its page refuses and records. -/
def refuseWrite (s : State) (p off status cause : Nat) : Ack × State := ((status, cause), noteErr s p status cause (off / 4))

/-- A write of GEN.RESET (R407). -/
def resetKey (s : State) (v : Word) : Ack × State :=
  if wordBits v 0 16 = 0xA5C3 then (ackOk, warmReset s) else refuseWrite s Pg.gen 0xE0 St.targetErr Cause.range

/-- A write of BEN.CMD (R54, R290): RUN is refused while the bench is disabled. -/
def benCmdWrite (s : State) (n : Nat) (v : Word) : Ack × State :=
  if v.getLsbD 0 && benRun s n == 0 && !pageEnabled s (Pg.ben n) then
    refuseWrite (benCmd s n (v &&& ~~~1#32)) (Pg.ben n) 0x44 St.targetErr Cause.disabled
  else (ackOk, benCmd s n v)

/-- A write of TMK.TIME_CMD, ADJUST or SERVO_IN (R230, R231). -/
def tmkCmd (s : State) (off : Nat) (v : Word) : Option State :=
  if off = 0x64 then some (if v.getLsbD 0 then timeSetNow s else s)
  else if off = 0x68 then some (timeAdjustNow s v)
  else if off = 0x70 then some (servoIn s v false)
  else none

/-- A write of PAR.CMD (R379, R383): proving starts an online pass on a standby. -/
def parCmd (s : State) (v : Word) : State :=
  let s1 := if v.getLsbD 0 then handoverStart s else s
  if v.getLsbD 1 then (if pairRole s1 = 3 then passStart (proveStart s1) true else proveStart s1) else s1

/-- A write of a command register of page FWU (R430, R431, R436, R439). `high`: it is the upper half of an 8-byte write. -/
def fwuWrite (s : State) (who : Agent) (off : Nat) (v : Word) (bs : List Byte) (high : Bool) : Option (Ack × State) :=
  if off = 0x44 then some (cmdAck Pg.fwu (fun a => fwuCmd a v) s)
  else if off = 0x70 then some (if who = .core then (ackOk, fwuConfirm s (wordBits v 0 16)) else ((St.accessDenied, 0), s))
  else if off = 0x74 then some (ackOk, if v.getLsbD 0 && who == .host then fwuApprove s else s)
  else if off = 0x80 then some (ackOk, fwuPush s bs)
  else if off = 0x84 then some (ackOk, if high then fwuPush s bs else s)
  else if off = 0x88 then some (ackOk, if v.getLsbD 0 then fwuPushEnd s else s)
  else if off = 0xCC then some (ackOk, if v.getLsbD 0 then ownerGo s else s)
  else none

/-- A write of a command register of pages BST and PRT (R443, R446, R451, R456). -/
def testWrite (s : State) (p off : Nat) (v : Word) : Option (Ack × State) :=
  if p = Pg.bst then
    (if off = 0x44 then some (ackOk, if v.getLsbD 0 then passStart s false else s)
     else if off = 0x48 then some (cmdAck Pg.bst (fun a => offlineStart a (wordBits v 0 16)) s)
     else none)
  else if off = 0x44 then some (cmdAck Pg.prt (fun a => unlockKey a (wordBits v 0 16)) s)
  else if off = 0xC0 then some (if v.getLsbD 0 then cmdAck Pg.prt scanGo s else (ackOk, s))
  else none

/-- The registers of the ring die whose write is a command. -/
def ringCmd (s : State) (who : Agent) (p off : Nat) (v : Word) (bs : List Byte) (high : Bool) : Option (Ack × State) :=
  if p = Pg.gen then (if off = 0xE0 then some (resetKey s v) else none)
  else if p = Pg.int then (if off = 0x44 then some (ackOk, eoi s (wordBits v 0 6) none) else none)
  else if p = Pg.drw then
    (if off = 0x44 then
       some (if getB s Pg.drw F.LOCK_LOCKED then refuseWrite s Pg.drw 0x44 St.accessDenied Cause.locked else cmdAck Pg.drw (fun a => drawerCmd a v) s)
     else none)
  else if p = Pg.fwu then fwuWrite s who off v bs high
  else if p = Pg.bst ∨ p = Pg.prt then testWrite s p off v
  else if p = Pg.seq then (if off = 0x4C then some (ackOk, abortSeq s (wordBits v 0 12) (getW s Pg.seq 0x48).toNat) else none)
  else if p = Pg.buf then (if off = 0x78 then some (ackOk, if v.getLsbD 0 then sweepStart s else s) else none)
  else if p = Pg.par then (if off = 0x60 then some (ackOk, parCmd s v) else none)
  else if p = Pg.cul then (if off = 0x60 then some (ackOk, if v.getLsbD 0 then culRetrain s else s) else none)
  else if p = Pg.tmk then (tmkCmd s off v).map fun a => (ackOk, a)
  else none

/-- The registers of the field die whose write is a command. -/
def fieldCmd (s : State) (p off : Nat) (v : Word) : Option (Ack × State) :=
  if p = Pg.pwr then (if off = 0x5C then some (if v.getLsbD 0 then pwrBurn s else (ackOk, s)) else none)
  else if 0x100 ≤ p ∧ p ≤ 0x11F then (if off = 0x58 then some (ackOk, serCmd s (p - 0x100) v) else none)
  else if 0x120 ≤ p ∧ p ≤ 0x12F then
    (if off = 0x44 then some (benCmdWrite s (p - 0x120) v)
     else if off = 0x7C then
       let r := benTxd s (p - 0x120) (wordBits v 0 16)
       some (if r.1 = 0 then ackOk else (St.targetErr, r.1), r.2)
     else if benProgReg off && benRun s (p - 0x120) != 0 then some ((St.targetErr, 0x40), benRefused s (p - 0x120) (off / 4) false)
     else none)
  else if p = Pg.btb then
    (if off = 0x40 then some (ackOk, benRunMask s (wordBits v 0 16))
     else if off = 0x44 then some (ackOk, benStopMask s (wordBits v 0 16))
     else if off = 0x4C then some (ackOk, if v.getLsbD 4 then tableCrcGo s (wordBits v 0 4) else s)
     else none)
  else if 0x138 ≤ p ∧ p ≤ 0x13F then
    (if off = 0x54 then some (ackOk, if v.getLsbD 0 then canRecover s (p - 0x138) else s)
     else if off = 0x58 then
       let r := canTxReq s (p - 0x138) v.toNat
       some (if r.1 then (St.targetErr, 0x43) else ackOk, r.2)
     else if off = 0x5C then some (ackOk, canTxCancel s (p - 0x138) v.toNat)
     else none)
  else none

/-- A write of LOCK (R59): anyone may set LOCKED, and a 0 is recorded. -/
def lockWrite (s : State) (p : Nat) (carried v : Word) : Ack × State :=
  if !carried.getLsbD 0 then (ackOk, s)
  else if v.getLsbD 0 then (ackOk, setB s p F.LOCK_LOCKED true)
  else refuseWrite s p 0x28 St.accessDenied Cause.locked

/-- A write of PERTURB (R451, R452). -/
def perturbStore (s : State) (p : Nat) (new : Word) : Ack × State :=
  if perturbMask p = 0 then (ackOk, s)
  else if !testUnlocked s then refuseWrite s p 0x24 St.accessDenied Cause.locked
  else if new &&& ~~~(BitVec.ofNat 32 (perturbMask p)) ≠ 0#32 then refuseWrite s p 0x24 St.targetErr Cause.range
  else (ackOk, { setW s p 0x24 new with test := { s.test with pert := tabDel s.test.pert p } })

/-- The write-only registers that hold what is written to them until a command uses it. -/
def holdsWo (p off : Nat) : Bool :=
  (p == Pg.seq && off == 0x48) || (p == Pg.fwu && 0x100 ≤ off && off < 0x160) || (p == Pg.prt && 0x80 ≤ off && off < 0xC0)

/-- The bits of a header interrupt register that page `p` implements (R57). -/
def irqMask (p : Nat) : Word := BitVec.ofNat 32 (2 ^ irqCount p - 1)

/-- The word a register holds after a write, by its access codes (R9). `new` is the register with the written bytes, `w1` the bits
written as 1. -/
def storedWord (p off : Nat) (old new w1 : Word) : Word :=
  let irq := if off = 0x10 ∨ off = 0x14 ∨ off = 0x18 then irqMask p else 0xFFFFFFFF#32
  let rw := accMask p off fun a => isWritable a || (a == .wo && holdsWo p off)
  let v := (old &&& ~~~rw) ||| (new &&& rw &&& irq)
  let v1 := v ||| (w1 &&& accMask p off fun a => a == .w1s)
  v1 &&& ~~~(w1 &&& accMask p off fun a => a == .w1c)

/-- A write that no check refuses and that is no command: the access codes apply (R9), and what hangs on the register follows. -/
def storeWrite (s : State) (p off : Nat) (new w1 : Word) : State :=
  let old := getW s p off
  let kept := if off = 0x1C ∧ w1.getLsbD 31 then 0#32 else storedWord p off old new w1
  let s2 := afterWrite (if kept = old then s else setW s p off kept) p off old
  if off = 0x14 then irqEnNote s2 p (w1 &&& irqMask p) else s2

/-- Hardware sets these bits of a register (R9): those of IRQ_RAW and IRQ_PEND are events of the page's sources (R57), others are W1C or W1S
bits. -/
def meetBits (s : State) (p off : Nat) (b : Word) : State :=
  if off = 0x10 ∨ off = 0x18 then ((List.range (irqCount p)).filter b.getLsbD).foldl (fun a i => irqEvent a p i) s
  else
    let set := b &&& accMask p off fun a => a == .w1s || a == .w1c
    if set = 0#32 then s else setW s p off (getW s p off ||| set)

/-- The hardware event that meets a write at `off` comes after it, and so wins (R9, R23, R58). -/
def meetEvent (s : State) (p off : Nat) (meet : RegMeet) : State :=
  if !pageAssigned p then s
  else match meet with
    | .none => s
    | .bits b => meetBits s p (off / 4 * 4) b
    | .pair l h => meetBits (meetBits s p (off / 4 * 4) l) p (off / 4 * 4 + 4) h
    | .err e => recordErr s p e

/-- TMK.FREQ belongs to the servo while it is enabled (R233). -/
def servoOwns (s : State) (p off : Nat) : Bool := p == Pg.tmk && off == 0x8C && getB s Pg.tmk F.TMK_SERVO_CTL_EN

/-- The lock refuses a write that would change an RWL field (R486). -/
def lockRefuses (s : State) (p off : Nat) (old new : Word) : Bool :=
  getB s p F.LOCK_LOCKED && ((old ^^^ new) &&& accMask p off fun a => a == .rwl) != 0#32

/-- The value that the checks judge (R35): the written bits `w1`, of those the write carries, over what the register holds. -/
def writeCand (p off : Nat) (old w1 carried : Word) : Word :=
  let set := accMask p off fun a => isWritable a || a == .wo
  (old &&& accMask p off isWritable &&& ~~~carried) ||| (w1 &&& set) ||| (old &&& ~~~set)

/-- The bits of a register that belong to a field; the others are reserved (R8). PERTURB judges every bit of itself where the page has one
(R452). -/
def fieldBits (p off : Nat) : Word :=
  if off = 0x24 then (if perturbMask p = 0 then 0#32 else 0xFFFFFFFF#32) else accMask p off fun _ => true

/-- A write of `bs` from byte `o` of the register at `off` of page `p`, at the page itself. One that carries reserved bits only has no
effect (R8). -/
def regWrite (s : State) (who : Agent) (p off o : Nat) (bs : List Byte) (high : Bool) : Ack × State :=
  if !pageAssigned p then (ackOk, s)
  else if pageBusyState s p = 2 ∧ 0x40 ≤ off then refuseWrite s p off St.targetErr Cause.resetting
  else if carriedMask o bs.length &&& fieldBits p off = 0#32 then (ackOk, s)
  else
    let old := getW s p off
    let new := mergeBytes old o bs
    let w1 := mergeBytes 0#32 o bs
    if off = 0x28 then lockWrite s p (carriedMask o bs.length) w1
    else if off = 0x24 then perturbStore s p new
    else if lockRefuses s p off old new then refuseWrite s p off St.accessDenied Cause.locked
    else if servoOwns s p off then refuseWrite s p off St.targetErr 0x40
    else
      match if isFieldPage p then fieldCmd s p off w1 else ringCmd s who p off w1 bs high with
      | some r => r
      | none =>
        match valueBad s p off (writeCand p off old w1 (carriedMask o bs.length)) with
        | some c => refuseWrite s p off St.targetErr c
        | none =>
          if off = 0x08 ∧ w1.getLsbD 1 then (ackOk, blockReset (storeWrite s p off new w1) p)
          else (ackOk, storeWrite s p off new w1)

/-- The first refusal of two completions. -/
def firstAck (a b : Ack) : Ack := if a.1 = St.ok then b else a

/-- A write of `bs` from page offset `off` on: each register it covers is judged for itself (R7, R486). -/
def bytesWrite (s : State) (who : Agent) (p off : Nat) (bs : List Byte) : Ack × State :=
  if bs.length = 8 then
    let r := regWrite s who p (off / 4 * 4) 0 (bs.take 4) false
    let r2 := regWrite r.2 who p (off / 4 * 4 + 4) 0 (bs.drop 4) true
    (firstAck r.1 r2.1, r2.2)
  else regWrite s who p (off / 4 * 4) (off % 4) bs false

/-! ## The way of an access -/

/-- The pair refuses a write to a mirrored register on a standby (R373). -/
def standbyRefuses (s : State) (p off : Nat) : Bool := pairRole s == 3 && pageAssigned p && mirroredReg s p off

/-- The access as an EXEC describes it. -/
def accExec (op p off len : Nat) (data : List Byte) : Exec :=
  { id := 0, org := .pendRead, op := op, spec := false, off := 0x1000 * p + off, len := len, data := data, meet := .none, full := false }

/-- A fresh identifier for a register access. -/
def nextAcc (s : State) : Nat × State := (s.cul.accId, setCul s { s.cul with accId := s.cul.accId + 1 })

/-- A block in the HANG state refuses what lies past its page's header (R29 step 3). -/
def hungRefuses (s : State) (p off : Nat) : Bool := pageBusyState s p == 3 && decide (0x40 ≤ off)

/-- An access of `len` bytes at its page: status, cause and data, and the state after. The hardware event that meets it comes after it. -/
def pageAccess (s : State) (who : Agent) (op p off len : Nat) (data : List Byte) (meet : RegMeet) : (Nat × Nat × List Byte) × State :=
  if hungRefuses s p off then ((St.hang, Cause.hang, []), meetEvent (noteErr s p St.hang Cause.hang (off / 4)) p off meet)
  else if op = 1 then
    let r := bytesRead s p off len
    ((St.ok, 0, r.1), r.2)
  else
    let r := bytesWrite s who p off data
    ((r.1.1, r.1.2, []), meetEvent r.2 p off meet)

/-- A write goes to its page: through the culvert where it lies on the field die and `via` says that it is still to travel (R250), else at
once. -/
def sendWrite (s : State) (who : Agent) (id p off : Nat) (bs : List Byte) (meet : RegMeet) (via : Bool) : State :=
  if via && isFieldPage p then execSend s (.acc who id) 2 (0x1000 * p + off) bs.length bs false meet
  else
    let r := pageAccess s who 2 p off bs.length bs meet
    accEnd r.2 who id r.1.1 r.1.2.1 [] (accExec 2 p off bs.length bs)

/-- An access that no region check has refused yet is turned away by its size or alignment (R7, R46). -/
def accBad (p off len : Nat) : Bool := !regAccessOk off len || decide (0x1000 < off + len) || decide (0xFFF < p)

/-- The refusal of such an access: its page records it. -/
def accBadEnd (s : State) (who : Agent) (id op p off len : Nat) : State :=
  let s1 := if pageAssigned p then noteErr s p St.addrErr Cause.address (off % 0x1000 / 4) else s
  accEnd s1 who id St.addrErr Cause.address [] (accExec op p off len [])

/-- The test port is inert while TEST is low, and reaches page PRT only (R455). -/
def testDeaf (s : State) (who : Agent) (p : Nat) : Bool := who == .test && (p != Pg.prt || !getB s Pg.prt F.PRT_STAT_TEST_PIN)

/-- A write that takes effect on a mirrored register of the holder, and so waits for its REG record (R369, KIND 6). One that is refused takes
no effect, and goes to its page at once (R35). -/
def mirrorsWrite (s : State) (who : Agent) (p off : Nat) (bs : List Byte) : Bool :=
  mirroring s && who != .fabric && pageAssigned p && mirroredReg s p off && !hungRefuses s p off &&
  (bs.length == 8 || (bytesWrite s who p off bs).1.1 == St.ok)

/-- A register write that is no fabric transaction (R189, R369 KIND 6, R373). -/
def accWrite (s : State) (who : Agent) (id p off : Nat) (bs : List Byte) (meet : RegMeet) (via : Bool) : State :=
  if testDeaf s who p then meetEvent s p off meet
  else if accBad p off bs.length then meetEvent (accBadEnd s who id 2 p off bs.length) p off meet
  else if standbyRefuses s p off then
    meetEvent (accEnd (noteErr s Pg.par St.accessDenied 0x40 0) who id St.accessDenied 0x40 [] (accExec 2 p off bs.length bs)) p off meet
  else if mirrorsWrite s who p off bs then
    let r := mirrorPush s 6 true (4096 * p + off) 0 (beBytes 2 p ++ beBytes 2 off ++ beBytes 1 bs.length ++ List.replicate 3 0#8 ++ bs)
    { r.2 with pair := { r.2.pair with regWait := r.2.pair.regWait ++ [{ msn := r.1, who := who, page := p, off := off, bytes := bs, meet := meet }] } }
  else sendWrite s who id p off bs meet via

/-- A register read that is no fabric transaction (R189). -/
def accRead (s : State) (who : Agent) (id p off len : Nat) (via : Bool) : State :=
  if testDeaf s who p then s
  else if accBad p off len then accBadEnd s who id 1 p off len
  else if via && isFieldPage p then execSend s (.acc who id) 1 (0x1000 * p + off) len [] false
  else
    let r := pageAccess s who 1 p off len [] .none
    accEnd r.2 who id r.1.1 r.1.2.1 r.1.2.2 (accExec 1 p off len [])

/-! ## The order of BAR0 accesses (R189) -/

/-- A host access to a field-die page is on its way. -/
def hostExecs (s : State) : Bool :=
  let mine (e : Exec) : Bool := match e.org with | .acc who _ => who == .host | _ => false
  s.cul.execs.any mine || s.cul.ringW.any fun i => match i with | .exec e => mine e | _ => false

/-- A host access may go, as those before it have taken effect or keep their order on its way: the culvert keeps that of accesses to field-die
pages, and the mirror that of writes which wait for their records. -/
def barMayGo (s : State) (a : BarAcc) : Bool :=
  let p := a.off / 0x1000
  if s.pair.regWait.any (·.who == .host) then a.isWrite && mirrorsWrite s .host p (a.off % 0x1000) a.data
  else !hostExecs s || isFieldPage p

/-- A host access to BAR0 goes to its page. -/
def barRun (s : State) (a : BarAcc) : State :=
  if a.isWrite then accWrite s .host a.id (a.off / 0x1000) (a.off % 0x1000) a.data a.meet true
  else accRead s .host a.id (a.off / 0x1000) (a.off % 0x1000) a.len true

/-- A host access to BAR0 goes, or waits behind those before it. -/
def barTake (s : State) (a : BarAcc) : State :=
  if s.brg.barQ.isEmpty && barMayGo s a then barRun s a else setBrg s { s.brg with barQ := s.brg.barQ ++ [a] }

/-- The host accesses that wait go, as far as they may. -/
def barGo (s : State) : State := s.brg.barQ.foldl barTake (setBrg s { s.brg with barQ := [] })

/-- A write by an agent, as the row REGISTER_WRITE brings it. -/
def busWrite (s : State) (who : Agent) (p off : Nat) (bs : List Byte) (meet : RegMeet) : State :=
  let r := nextAcc s
  if who = .host then barTake r.2 { id := r.1, isWrite := true, off := 0x1000 * p + off % 0x1000, len := bs.length, data := bs, meet := meet }
  else accWrite r.2 who r.1 p off bs meet true

/-- The write of a register that has a row of its own: the row is its execution at the page (DESIGN CHOICE, log entry 20). -/
def ownWrite (s : State) (who : Agent) (p off : Nat) (v : Word) : State :=
  let r := nextAcc s
  accWrite r.2 who r.1 p off (leBytes 4 v.toNat) .none false

/-- A read whose row names its register. -/
def ownRead (s : State) (who : Agent) (p off : Nat) : State :=
  let r := nextAcc s
  accRead r.2 who r.1 p off 4 false

/-- Register writes whose REG record the standby has acknowledged take effect, in order (R369, KIND 6). -/
def regWaitGo : List RegWait → State → State
  | [], s => s
  | w :: ws, s =>
    if mirAcked s w.msn || !mirroring s then
      let r := nextAcc { s with pair := { s.pair with regWait := ws } }
      regWaitGo ws (sendWrite r.2 w.who r.1 w.page w.off w.bytes w.meet true)
    else s

end Sys2Proof.Machine
end

