-- ==== Sys2Proof/Machine/Recv.lean ====
section
/-! DEFINITION. Execution at a target (R45 to R51, R100, R101, R117, R121, R122, R204, R210): the region checks, each kind of target on the
ring die, and the run of a context. -/

namespace Sys2Proof.Machine

/-! ## Answers of an execution -/

/-- The record of a status and a cause, with data. -/
def doneRec (status cause : Nat) (data : List Byte) : CplRec := { ansRec status cause 0 with data := data }

/-- A record executes to this outcome at once. -/
def endRec (s : State) (c status cause : Nat) : State := completeRec s c (doneRec status cause [])

/-- A record that a block turns away: its page records it. -/
def endRefused (s : State) (c p : Nat) (r : Nat × Nat) : State := endRec (noteErr s p r.1 r.2 0) c r.1 r.2

/-! ## Journal memory (R50, R101, R159, R160) -/

/-- Bytes of journal memory that are installed. -/
def jrnBytes (s : State) : Nat := getF s Pg.jrn F.JRN_STAT_SIZE_GIB * 2 ^ 30

/-- A range that every initiator may read below the user region: the slots of a CAN ring and the sequence-of-events ring (R308, R353). -/
def journalReadPath (b len : Nat) : Bool :=
  (decide (0x23000000 ≤ b) && decide (b + len ≤ 0x27000000) && decide ((b - 0x23000000) % 0x800000 + len ≤ 0x600000)) ||
  (decide (0x27000000 ≤ b) && decide (b + len ≤ 0x2B000000))

/-- What refuses an operation on journal bytes by its region. -/
def journalRefusal (s : State) (op b len : Nat) : Option Nat :=
  if jrnBytes s < b + len then some St.addrErr
  else if journalOwn b && !(op == 1 && journalReadPath b len) then some St.accessDenied
  else none

/-- The words that a read covers hold the uncorrectable one. -/
def eccMeets (ecc : Option JEcc) (b len : Nat) : Bool :=
  match ecc with
  | some e => !e.single && jrnPlace e.addr == .user && decide (e.addr / 8 ≤ (b + len - 1) / 8) && decide (b / 8 ≤ e.addr / 8)
  | none => false

/-- An operation on journal memory that no check refuses (R101): the data it returns, and the state after. -/
def journalOp (s : State) (op b len : Nat) (data : List Byte) : List Byte × State :=
  if op = 1 then (memRead s.jmem b len, s)
  else if op = 3 then
    let old := memRead s.jmem b 8
    (old, if old = data.take 8 then jWrite s b ((data.drop 8).take 8) else s)
  else if op = 4 then
    let old := memRead s.jmem b 8
    (old, jWrite s b (leBytes 8 ((leNat old + leNat (data.take 8)) % 2 ^ 64)))
  else ([], jWrite s b (data.take len))

/-- A record executes at journal memory. -/
def execJournal (s : State) (c : Nat) (r : ReqRec) (b : Nat) (ecc : Option JEcc) : State :=
  match blockRefuses s Pg.jrn with
  | some e => endRefused s c Pg.jrn e
  | none =>
    let g := if opBearing r.op then spoiltRead s b r.len else (false, s)
    if g.1 || opBearing r.op && eccMeets ecc b r.len then endRec (noteErr g.2 Pg.jrn St.targetErr 0x40 0) c St.targetErr 0x40
    else
      let x := journalOp g.2 r.op b r.len r.data
      completeRec x.2 c (doneRec St.ok 0 x.1)

/-! ## The chest window (R49, R422) -/

/-- A commit record as the chest holds it (R433). -/
def commitBytes (c : Commit) : List Byte :=
  let flags := (if c.trial then 1 else 0) + (if c.started then 2 else 0) + (if c.ownerLock then 4 else 0)
  let body := leBytes 4 0x54494D43 ++ leBytes 4 c.seq ++ leBytes 1 c.slot ++ leBytes 1 flags ++ leBytes 1 c.prev ++ leBytes 1 0 ++
    leBytes 4 c.secCnt ++ leBytes 4 c.slotSec ++ leBytes 4 c.slotVer ++ leBytes 36 0
  body ++ leBytes 4 (crc32c body)

/-- What the chest area of byte `b` holds (R422), as numbers: the epoch records, the pair's slots, the SEQ_LIMIT log, the acceptance slots, the
checkpoint; a reserved area and the identity hold the same for good. -/
def chestArea (s : State) (b : Nat) : List Nat :=
  if b < 0x2000 then []
  else if b < 0x3000 then [s.start.epoch]
  else if b < 0x4000 then []
  else if b < 0x5000 then s.start.pairEpochs :: s.pair.slots.flatMap fun e => [e.1, e.2.pairMac, e.2.holder, e.2.epoch, if e.2.sync then 1 else 0]
  else if b < 0x25000 then s.seq.flows.flatMap fun e => [e.1, e.2.seqLimit]
  else if b < 0x30000 then []
  else if b < 0xC0000 then s.start.slots.flatMap fun e => [e.1, e.2.1, e.2.2.seq]
  else if b < 0x100000 ∨ 0x1CD000 ≤ b then []
  else match s.start.ckpt with
    | some i => (i.flows.flatMap fun e => [e.1, e.2.nextSeq]) ++ i.ctxs.flatMap fun e => [e.1, e.2.ne]
    | none => []

/-- A chest byte as a read shows it: the drawers, and the commit records each in the record of the 64 that its SEQ selects; a byte of an area
whose format is not given is free, the same at every read while the area stands as it is (log entry 8). -/
def chestByte (s : State) (b : Nat) : Byte :=
  if 0x200000 ≤ b then memGet s.start.drawers (b - 0x200000)
  else
    match (if 0x3000 ≤ b ∧ b < 0x4000 then s.start.commits.find? (fun c => c.seq % 64 == (b - 0x3000) / 64) else none) with
    | some c => (commitBytes c).getD (b % 64) 0#8
    | none => Config.chestFree b (chestArea s b)

/-- `n` chest bytes from `b` on. -/
def chestBytes (s : State) (b n : Nat) : List Byte := (List.range n).map fun i => chestByte s (b + i)

/-- The range touches the secret area. -/
def chestSecret (b len : Nat) : Bool := decide (b < 0x2000) && decide (0x1000 < b + len)

def execChest (s : State) (c : Nat) (r : ReqRec) (b : Nat) : State :=
  match blockRefuses s Pg.chs with
  | some e => endRefused s c Pg.chs e
  | none =>
    completeRec s c (doneRec St.ok 0 (chestBytes s b r.len))

/-! ## Register pages (R7, R46, R204, R373) -/

/-- The access covers a destructive register (R51). -/
def pageSide (p off len : Nat) : Bool :=
  (List.range ((off + len - 1) / 4 - off / 4 + 1)).any fun k => isSide p (4 * (off / 4 + k))

/-- A record executes at a register page of the ring die, or travels to the field die. -/
def execPage (s : State) (c q : Nat) (r : ReqRec) (p off : Nat) : State :=
  let op := if r.op = 6 then 2 else r.op
  if op ≠ 1 ∧ op ≠ 2 then endRec s c St.addrErr 0
  else if !regAccessOk off r.len then
    (if pageAssigned p then endRec (noteErr s p St.addrErr Cause.address (off / 4)) c St.addrErr Cause.address else endRec s c St.addrErr 0)
  else if op = 2 && standbyRefuses s p off then endRec (noteErr s Pg.par St.accessDenied 0x40 0) c St.accessDenied 0x40
  else if isFieldPage p then setHeldSt (execSend s (.ofCtx c q) op (0x1000 * p + off) r.len r.data r.spec) c .waitField
  else
    let x := pageAccess s .fabric op p off r.len r.data .none
    completeRec x.2 c { doneRec x.1.1 x.1.2.1 x.1.2.2 with effectful := r.spec && pageSide p off r.len && x.1.1 == St.ok }

/-! ## Inbound windows (R209, R210) -/

def execInbound (s : State) (c : Nat) (r : ReqRec) (wi : Nat) (w : IbWin) (off : Nat) : State :=
  if (ibFind s (off + r.len - 1)).map (·.1) ≠ some wi then endRec s c St.addrErr 0
  else if r.op = 3 ∨ r.op = 4 ∨ r.op = 5 then endRec s c St.addrErr 0
  else if r.op = 6 ∧ off % 8 ≠ 0 then endRec s c St.addrErr 0
  else if (r.op = 1 && !w.rdEn) || (r.op != 1 && !w.wrEn) then endRec s c St.accessDenied 0
  else
    match blockRefuses s Pg.brg with
    | some e => endRefused s c Pg.brg e
    | none => ibStart s c wi w (if r.op = 6 then 2 else r.op) off r.len r.data

/-! ## A held record executes -/

/-- The operation needs the 8-byte form that R100 asks for, and its address does not have it. -/
def opMisaligned (r : ReqRec) : Bool := (r.op == 3 || r.op == 4 || r.op == 6) && (r.len != 8 || r.off % 8 != 0)

/-- A READ with SPEC that covers a destructive byte (R51, R204). -/
def specMeets (r : ReqRec) (g : Region) : Bool :=
  r.spec && r.op == 1 &&
  match g with
  | .page p => pageSide p (r.off % 0x1000) r.len
  | .fifo _ tx => !tx
  | _ => false

/-- A record whose region is settled executes (R100, R101). An offset in a re-basing window is no target of this hub: an access with PATH1 0
never leaves the hub (R82), whatever window a coupler holds there (R43), and ends ADDR_ERR (log entry 147). -/
def execRegion (s : State) (c q : Nat) (r : ReqRec) (g : Region) (ecc : Option JEcc) : State :=
  match g with
  | .absent => endRec s c St.addrErr 0
  | .rebase _ => endRec s c St.addrErr 0
  | .chest =>
    let b := r.off - 0x10000000
    if r.op ≠ 1 ∨ chestSecret b r.len then endRec s c St.accessDenied 0 else execChest s c r b
  | .journal =>
    let b := r.off - 0x100000000
    match journalRefusal s r.op b r.len with
    | some st => endRec s c st 0
    | none => if opMisaligned r ∨ r.op = 5 then endRec s c St.addrErr 0 else execJournal s c r b ecc
  | .page p => if opMisaligned r then endRec s c St.addrErr 0 else execPage s c q r p (r.off % 0x1000)
  | .fifo _ tx =>
    if opMisaligned r || r.op == 3 || r.op == 4 || ((r.op == 1) == tx) then endRec s c St.addrErr 0
    else setHeldSt (execSend s (.ofCtx c q) r.op r.off r.len r.data r.spec) c .waitField
  | .bench _ =>
    if opMisaligned r || r.op == 3 || r.op == 4 || r.op == 5 then endRec s c St.addrErr 0
    else setHeldSt (execSend s (.ofCtx c q) r.op r.off r.len r.data r.spec) c .waitField

/-- The record at NEXT_EXPECTED of a context executes (R101, R113, R121, R204). -/
def execHeld (s : State) (c : Nat) (h : Held) (ecc : Option JEcc) : State :=
  let r := h.req
  if r.op = 7 then endRec s c St.ok 0
  else if r.op = 8 then completeRec s c { doneRec St.aborted 0 [] with filled := true }
  else if r.len = 0 ∨ 256 < r.len then endRec s c St.addrErr 0
  else
    let g := regionSpan r.off r.len
    match (if 0x100000000 ≤ r.off ∧ r.off < 0x500000000 then ibFind s r.off else none) with
    | some (wi, w) => execInbound s c r wi w r.off
    | none =>
      if g = .journal ∧ (ibFind s (r.off + r.len - 1)).isSome then endRec s c St.addrErr 0
      else if specMeets r g && !getB s Pg.brg F.BRG_TGT_SPEC_PERMISSIVE then endRec (bump s Pg.brg F.BRG_SPEC_TGT_REFUSED) c St.specRefused 0
      else execRegion s c h.seq r g ecc

/-- Records of the hub in execution, whose entries are still to come, by operation. -/
def opsRunning (s : State) : List Nat :=
  s.seq.ctxs.flatMap fun e => (e.2.held.filter fun h => h.st != .held && h.req.op != 7).map (·.req.op)

/-- The live-entry limits defer a record (R121): entries that execution in hand will write count too. -/
def mustDefer (s : State) (op : Nat) : Bool :=
  op != 7 && (decide (16384 ≤ liveCount s + (opsRunning s).length) ||
    (opBearing op && decide (1024 ≤ dataLiveCount s + ((opsRunning s).filter opBearing).length)))

/-- A deferral is counted once for its record. -/
def noteDeferred (s : State) (c : Nat) : State :=
  match ctxOf s c with
  | some t => if t.deferred then s else irqEvent (bump (setCtx s c { t with deferred := true }) Pg.seq F.SEQ_DEFERRED) Pg.seq 5
  | none => s

/-- The record of a pair context waits for its INTENT to be mirrored (R369, KIND 3; R371), or for room in the mirror log (R372). -/
def intentStart (s : State) (c : Nat) (h : Held) : State :=
  let wait (b : Bool) (x : State) : State :=
    { x with pair := { x.pair with logWaits := x.pair.logWaits.filter (· != c) ++ (if b then [c] else []) } }
  if logRoom s 0 then
    let r := mirrorPush (wait false s) 3 true c h.seq (beBytes 1 h.req.op ++ beBytes 3 0 ++ beBytes 8 h.req.off)
    setHeldSt r.2 c (.intent r.1)
  else if s.pair.logWaits.contains c then s
  else logWaitNote (wait true s)

/-- One turn of a context (R117): its record at NEXT_EXPECTED executes, waits or stays deferred. -/
def runCtx (s : State) (c : Nat) (ecc : Option JEcc) : State :=
  if !s.seq.running then s
  else
    match ctxOf s c, headHeld s c with
    | some t, some h =>
      match h.st with
      | .held =>
        if t.pairCtx && pairRole s != 2 && pairRole s != 0 then s
        else if mustDefer s h.req.op then noteDeferred s c
        else if t.pairCtx && s.pair.aloneWait then s
        else if t.pairCtx && mirroring s then intentStart s c h
        else execHeld s c h ecc
      | .intent m => if mirAcked s m || !mirroring s then (if s.pair.aloneWait then s else execHeld s c h ecc) else s
      | _ => s
    | _, _ => s

/-- Contexts run until none has anything left to do; `n` bounds the turns. -/
def runContexts : Nat → Option JEcc → State → State
  | 0, _, s => s
  | n + 1, ecc, s =>
    match (if s.seq.running then s.seq.runQ else []) with
    | [] => s
    | c :: cs => runContexts n ecc (runCtx { s with seq := { s.seq with runQ := cs } } c ecc)

/-- Turns that the contexts may need: each held record takes at most two. -/
def runBound (s : State) : Nat := s.seq.runQ.length + 2 * (s.seq.ctxs.map fun e => e.2.held.length + 1).foldl (· + ·) 0 + 2

/-! ## Frames for the engine (R112, R117, R122) -/

/-- The ring port a local frame came from; a frame of this hub for itself has none. -/
def localPort (p : Port) : Option Port := if p = .m then none else some p

/-- A REQ burst at the target (R117): it is a frame for this hub's own node, and no broadcast. -/
def isReqFor (bcast : Bool) (_ : Port) (f : Frame) (k : Kvl) : Bool := k.type == tyReq && ((f.dmac == macBroadcast) == bcast)

def reqRx (s : State) (ecc : Option JEcc) : State :=
  match takeLocal s (isReqFor false) with
  | none => s
  | some ((p, f, k), s1) =>
    match reqBodyParse k.count (kvlBody f.payload k) with
    | none => badHdr s1
    | some (floor, rs) =>
      let s2 := reqBurst (match ecc with | some e => jrnHit s1 e | none => s1) k f.smac (localPort p) floor rs
      runContexts (runBound s2) ecc s2

/-- A CPL burst at the initiator's hub (R112). -/
def cplRx (s : State) : State :=
  match takeLocal s (fun _ _ k => k.type == tyCpl) with
  | none => s
  | some ((_, f, k), s1) =>
    match cplBodyParse k.count (kvlBody f.payload k) with
    | none => badHdr s1
    | some (_, rs) => cplBurst s1 k rs

/-- The last number executed of a broadcast flow, set. -/
def setBcast (s : State) (k : Kvl) (q : Nat) : State :=
  let same (b : BcastLast) : Bool := b.srcRoute == k.src && b.srcFlow == k.srcFlow && b.cls == k.cls
  let e : BcastLast := { srcRoute := k.src, srcFlow := k.srcFlow, cls := k.cls, last := q }
  { s with seq := { s.seq with bcast := s.seq.bcast.filter (!same ·) ++ [e] } }

/-- A broadcast EVENT travels to the field die; its DONE goes to nobody. -/
def bcastExec (s : State) (r : ReqRec) : State :=
  let x := nextAcc s
  execSend x.2 (.acc .fabric x.1) 2 r.off 8 r.data false

/-- A broadcast EVENT for a user byte of journal memory, or for an inbound window there. -/
def bcastJournal (s : State) (r : ReqRec) : State :=
  match ibFind s r.off with
  | some (wi, w) =>
    if w.wrEn && (ibFind s (r.off + 7)).map (·.1) == some wi then
      match blockRefuses s Pg.brg with
      | some e => noteErr s Pg.brg e.1 e.2 0
      | none =>
        let x := nextAcc s
        ibStart x.2 (4096 + x.1) wi w 2 r.off 8 r.data
    else s
  | none =>
    let b := r.off - 0x100000000
    if (journalRefusal s 2 b 8).isSome then s
    else
      match blockRefuses s Pg.jrn with
      | some e => noteErr s Pg.jrn e.1 e.2 0
      | none => (journalOp s 2 b 8 r.data).2

/-- The effect of a broadcast EVENT at this hub (R41, R101): an 8-byte write without a completion. -/
def bcastWrite (s : State) (r : ReqRec) : State :=
  if opMisaligned r then s
  else
    match regionSpan r.off 8 with
    | .page p =>
      let off := r.off % 0x1000
      if standbyRefuses s p off then noteErr s Pg.par St.accessDenied 0x40 0
      else if isFieldPage p then bcastExec s r
      else (pageAccess s .fabric 2 p off 8 r.data .none).2
    | .fifo _ true => bcastExec s r
    | .bench _ => bcastExec s r
    | .journal => bcastJournal s r
    | _ => s

/-- A broadcast EVENT reaches a receiver (R122): it executes only ahead of the last one of its flow, and the numbers between count as gaps.
A receiver that is not executing discards it. -/
def bcastRecord (s : State) (k : Kvl) (q : Nat) (r : ReqRec) : State :=
  match s.seq.bcast.find? (fun b => b.srcRoute == k.src && b.srcFlow == k.srcFlow && b.cls == k.cls) with
  | none => bcastWrite (setBcast s k q) r
  | some b =>
    let d := seqSub q b.last
    if 0 < d ∧ d < 2 ^ 31 then bcastWrite (bump (setBcast s k q) Pg.seq F.SEQ_BCAST_GAP (d - 1)) r else s

def broadcastRx (s : State) : State :=
  match takeLocal s (isReqFor true) with
  | none => s
  | some ((_, f, k), s1) =>
    match reqBodyParse k.count (kvlBody f.payload k) with
    | none => badHdr s1
    | some (_, rs) =>
      if s1.seq.running then
        (List.range rs.length).foldl (fun a i => match rs[i]? with
          | some r => if r.op = 6 then bcastRecord a k (seqAdd k.baseSeq i) r else a
          | none => a) s1
      else s1

/-- A deferred record executes once room has returned (R121). -/
def deferredExecute (s : State) (c : Nat) : State := runContexts 2 none (runLater s c)

end Sys2Proof.Machine
end

