-- ==== Sys2Proof/Machine/Field.lean ====
section
/-! DEFINITION. Execution on the field die (R47, R48, R101, R250, R266, R274, R275, R293, R294): EXEC and CFG items, and the records that
wait for FIFO room. -/

namespace Sys2Proof.Machine

/-- The field die answers an EXEC. -/
def execDone (s : State) (e : Exec) (status cause : Nat) (data : List Byte) : State := fieldItem s (.done e.id status cause data)

/-- The block of page `p` turns an EXEC for a window of its own away and records it; no register is involved (R58). -/
def execRefused (s : State) (e : Exec) (p status cause : Nat) : State := execDone (noteErr s p status cause 0) e status cause []

/-- The endpoint whose transmit FIFO an EXEC pushes to. -/
def execEp (e : Exec) : Nat := (e.off - 0x1000000) / 0x10000

/-- A record waits at endpoint `ep` already: later ones wait behind it. -/
def streamAhead (s : State) (ep : Nat) : Bool := s.cul.execs.any fun e => execEp e == ep && (streamWaits s e).isSome

/-- The bytes of a unit that an endpoint's transmit side takes (R266, R285). -/
def epUnit (s : State) (ep : Nat) : Nat := if epIsSer ep then serUnit s ep else benUnit s (ep - 32)

/-- A push to a transmit FIFO (R101, R266, R275, R295): whole or not at all; without room, or while BP refuses it (R453), it waits. -/
def execPush (s : State) (e : Exec) (ep : Nat) : State :=
  if epUnit s ep == 2 && e.len % 2 != 0 then execRefused s e (epPage ep) St.targetErr (if epIsSer ep then 0x40 else 0x41)
  else if bpHeld s (epPage ep) then streamMark (bump s Pg.prt F.PRT_INJECTED) e true
  else if txRoom s ep e.len && !streamAhead s ep then execDone (txPush s ep e.data) e St.ok 0 []
  else streamMark s e true

/-- A read of a receive half (R274), which an endpoint that pushes denies (R278, R295). -/
def execPop (s : State) (e : Exec) (ep : Nat) : State :=
  if pushOn s ep then execRefused s e (epPage ep) St.accessDenied (if epIsSer ep then 0x42 else 0x45)
  else match rxViewOf (e.off % 0x8000) e.len with
  | some (tagged, words) =>
    let r := fifoPop s ep words tagged
    execDone r.2 e St.ok 0 r.1
  | none => execRefused s e (epPage ep) St.addrErr Cause.address

/-- An access to a FIFO window. -/
def execFifo (s : State) (e : Exec) (ep : Nat) (tx : Bool) : State :=
  match blockRefuses s (epPage ep) with
  | some r => execRefused s e (epPage ep) r.1 r.2
  | none => if tx then execPush s e ep else execPop s e ep

/-- An access to a bench table (R48, R293, R294). -/
def execTable (s : State) (e : Exec) (n : Nat) : State :=
  match blockRefuses s (Pg.ben n) with
  | some r => execRefused s e (Pg.ben n) r.1 r.2
  | none =>
    if e.op = 1 then
      let r := benTableLoad s n (e.off % 0x10000) e.len
      execDone r.2.2 e r.1.1 r.1.2 r.2.1
    else
      let r := benTableStore s n (e.off % 0x10000) e.data false
      execDone r.2 e r.1.1 r.1.2 []

/-- An access to a register page of the field die. -/
def execReg (s : State) (e : Exec) (p off : Nat) : State :=
  let who := match e.org with | .acc w _ => w | _ => Agent.fabric
  let r := pageAccess s who e.op p off e.len e.data e.meet
  execDone r.2 e r.1.1 r.1.2.1 r.1.2.2

/-- The field die executes the oldest EXEC and sends its DONE (R250). -/
def execItem (s : State) : State :=
  match takeRing s (fun i => match i with | .exec _ => true | _ => false) with
  | some (.exec e, s1) =>
    (match regionOf e.off with
     | .page p => execReg s1 e p (e.off % 0x1000)
     | .fifo ep tx => execFifo s1 e ep tx
     | .bench n => execTable s1 e n
     | _ => execDone s1 e St.addrErr 0 [])
  | _ => s

/-- Records that wait for room push once it is there, oldest first (R101). -/
def streamGo : List Exec → List Nat → State → State
  | [], _, s => s
  | e :: es, held, s =>
    let ep := execEp e
    if (streamWaits s e).isNone then streamGo es held s
    else if !held.contains ep && txRoom s ep e.len && !bpHeld s (epPage ep) then streamGo es held (streamMark (execDone (txPush s ep e.data) e St.ok 0 []) e false)
    else streamGo es (ep :: held) s

/-- STREAM_WAIT has passed for the record of a context, or for a broadcast EVENT (R101). -/
def streamExpire (s : State) (c : Nat) : State :=
  match s.cul.execs.find? (fun e => streamWaits s e == some c) with
  | some e => streamMark (execDone (noteErr s Pg.seq St.targetErr 0x47 0) e St.targetErr 0x47 []) e false
  | none => s

/-- A configuration copy reaches the field die. -/
def cfgIn (s : State) : State :=
  match takeRing s (fun i => match i with | .cfg _ _ => true | _ => false) with
  | some (.cfg _ c, s1) => cfgApply s1 c
  | _ => s

end Sys2Proof.Machine
end

