-- ==== Sys2Proof/Machine/Mirror.lean ====
section
/-! DEFINITION. The mirror link and the takeover of a pair (R356, R358 to R361, R368 to R377, R380, R382): MIRROR frames, the copy to the
standby, the records that a standby applies, and GRANT. Record bodies that the spec leaves open have the model's layout (log entry 18). -/

namespace Sys2Proof.Machine

/-! ## The copy to the standby (R371) -/

/-- A register of the copy: its page, its offset and the bits that a write sets. -/
def copyReg (s : State) (e : Nat × Word) : State :=
  let p := e.1 / 1024
  let off := 4 * (e.1 % 1024)
  let rw := accMask p off isWritable
  if mirroredReg s p off && rw != 0#32 then
    mirrorNote s 6 (4096 * p + off) 0 (regBody p off (e.2 &&& rw))
  else s

/-- A pair flow of the copy: its next number, and its open records. -/
def copyFlow (s : State) (flow : Nat) : State :=
  let f := flowOf s flow
  f.opens.foldl (fun a o => mirrorNote a 1 flow o.seq (openRecBytes o)) (mirrorNote s 5 flow f.nextSeq [])

/-- The body of a DONE record for a cache entry. -/
def cacheBody (e : CacheEnt) : List Byte :=
  beBytes 1 e.status ++ beBytes 1 ((if e.effectful then 2 else 0) + (if e.filled then 4 else 0)) ++ beBytes 1 e.cause ++ e.data

/-- A pair context of the copy: its state, its cache, and its record in execution. -/
def copyCtx (s : State) (c : Nat) (t : TCtx) : State :=
  let s1 := mirrorNote s 5 c 0 (floorBody t false)
  let s2 := (t.cache.filter (!·.empty)).foldl (fun a e => mirrorNote a 4 c e.seq (cacheBody e)) s1
  (t.held.filter (·.st != .held)).foldl (fun a h => mirrorNote a 3 c h.seq (beBytes 1 h.req.op ++ beBytes 3 0 ++ beBytes 8 h.req.off)) s2

/-- The FIFO words of an endpoint in the copy: receive words, then transmit words not yet begun. -/
def copyFifo (s : State) (ep : Nat) (f : FifoSt) : State :=
  let s1 := f.rx.foldl (fun a w => wordMirror a ep w) s
  let tx := if f.txTaken = 0 then f.tx else f.tx.drop 1
  tx.foldl (fun a w => mirrorNote a 7 ep 0
    (beBytes 1 3 ++ beBytes 1 (w.data.length + (if w.last then 16 else 0) + (if w.gap then 32 else 0)) ++ w.data)) s1

/-- The holder's copy starts (R371): everything that the pair mirrors joins the mirror stream. -/
def copyStart (s : State) : State :=
  let s0 := setB (setPair s { s.pair with mirOut := [], waitAt := [], mSent := [], aloneWait := false }) Pg.par F.PAR_STAT_ALONE false
  let s1 := s.regs.foldl copyReg s0
  let s2 := (((allFlows s).filter (isPairFlow s))).foldl copyFlow s1
  let s3 := (s.seq.ctxs.filter (·.2.pairCtx)).foldl (fun a e => copyCtx a e.1 e.2) s2
  let s4 := s.fld.fifo.foldl (fun a e => copyFifo a e.1 e.2) s3
  let s5 := tokenNotes (fieldNotes s4)
  setPair s5 { s5.pair with copyEnd := (s5.pair.nextMsn + 2 ^ 32 - 1) % 2 ^ 32 }

/-- The copy ends (R371): the holder's last copied record is covered by ACK_MSN. -/
def copyDone (s : State) : State :=
  if mirState s = 2 ∧ (pairRole s = 3 ∨ mirAcked s s.pair.copyEnd = true) then setF (setMir s 3) Pg.mir F.MIR_STAT_COPY_PCT 100 else s

/-- The standby's side of a copy: what it held of an earlier one is gone, and it takes the first MSN that comes. -/
def copyTake (s : State) : State :=
  let s1 := setPair s { s.pair with logNext := 2 ^ 32, mOpen := [], mNext := [], mCtx := [], mIntent := [], mTokens := [], mBegun := [] }
  s.fld.fifo.foldl (fun a e => setFifo a e.1 { fifoOf a e.1 with rx := [], opened := [], openGap := false, sealed := none, tx := [], txTaken := 0 }) s1

/-! ## Records that a standby applies (R369) -/

/-- A write that a record carries is performed at its page; a value out of its range takes no effect there either (R35). -/
def mirWord (s : State) (p off o : Nat) (bs : List Byte) : State :=
  let old := getW s p off
  let new := mergeBytes old o bs
  let w1 := mergeBytes 0#32 o bs
  match (if isFieldPage p then fieldCmd s p off w1 else none) with
  | some r => r.2
  | none =>
    if (valueBad s p off (writeCand p off old w1 (carriedMask o bs.length))).isSome then s else
    let s1 := storeWrite s p off new w1
    if off = 0x08 ∧ w1.getLsbD 1 then blockReset s1 p else s1

def mirWrite (s : State) (p off : Nat) (bs : List Byte) : State :=
  if bs.length = 8 then mirWord (mirWord s p (off / 4 * 4) 0 (bs.take 4)) p (off / 4 * 4 + 4) 0 (bs.drop 4)
  else mirWord s p (off / 4 * 4) (off % 4) bs

/-- Words at the head of a receive FIFO that a field stream has taken, by its bytes. -/
def dropWords (tagged : Bool) : List FWord → Nat → List FWord
  | [], _ => []
  | w :: ws, n => if n = 0 then w :: ws else dropWords tagged ws (n - (if tagged then 16 else w.data.length))

/-- ACCEPT: the record is open; a field stream takes its words from the copy. -/
def mirAccept (s : State) (flow q : Nat) (r : ReqRec) : State :=
  let rest := s.pair.mOpen.filter fun o => !(o.flow == flow && o.seq == q)
  let s1 := setPair s { s.pair with
    mOpen := rest ++ [{ flow := flow, seq := q, req := r }], mNext := tabSet s.pair.mNext flow (seqAdd q 1) }
  let i := flowInit s flow
  if 0x4000 ≤ i ∧ i < 0x4030 then
    let ep := i - 0x4000
    setFifo s1 ep { fifoOf s1 ep with rx := dropWords (epView s1 ep) (fifoOf s1 ep).rx r.data.length }
  else s1

/-- The effect of a completed record on the standby's copies: a write to a mirrored register, a bench table or a transmit FIFO; a read
that has popped words. -/
def mirEffect (s : State) (op off : Nat) (data : List Byte) : State :=
  match regionOf off with
  | .page p => if (op = 2 ∨ op = 6) ∧ mirroredReg s p (off % 0x1000) = true then mirWrite s p (off % 0x1000) data else s
  | .fifo ep tx =>
    if tx then txPush s ep data
    else match rxViewOf (off % 0x8000) data.length with
      | some (tagged, words) => (fifoPop s ep words tagged).2
      | none => s
  | .bench n => if op = 1 then s else benTableWrite s n (off % 0x10000) data
  | _ => s

/-- DONE: the cache copy is written and NEXT_EXPECTED advances. -/
def mirDone (s : State) (c q : Nat) (body : List Byte) : State :=
  let st := beAt body 0 1
  let fl := beAt body 1 1
  let data := body.drop 3
  let it := s.pair.mIntent.find? fun i => i.ctx == c && i.seq == q
  let s1 := setPair s { s.pair with mIntent := s.pair.mIntent.filter fun i => !(i.ctx == c && i.seq == q) }
  let op := match it with | some i => i.op | none => 0
  let s2 := match it with | some i => if st = St.ok then mirEffect s1 i.op i.off data else s1 | none => s1
  match tabGet s2.pair.mCtx c with
  | some t =>
    let e : CacheEnt := {
      seq := q, status := st, cause := beAt body 2 1, effectful := fl.testBit 1, filled := fl.testBit 2, nop := op == 7
      bearing := opBearing op, tag := 0, data := if op = 2 ∨ op = 5 ∨ op = 6 then [] else data, empty := false, bad := false }
    let ne := if seqSub (seqAdd q 1) t.ne < 2 ^ 31 then seqAdd q 1 else t.ne
    setPair s2 { s2.pair with mCtx := tabSet s2.pair.mCtx c { t with cache := cachePut t.cache e, ne := ne } }
  | none => s2

/-- FLOOR: a pair context, or, without a body, the next number of a pair flow. -/
def mirFloor (s : State) (key q : Nat) (b : List Byte) : State :=
  if b.isEmpty then setPair s { s.pair with mNext := tabSet s.pair.mNext key q }
  else if beAt b 23 1 = 1 then
    setPair s { s.pair with mCtx := tabDel s.pair.mCtx key, mIntent := s.pair.mIntent.filter (·.ctx != key) }
  else
    let cache := match tabGet s.pair.mCtx key with | some t => t.cache | none => []
    let t : TCtx := {
      srcRoute := BitVec.ofNat 64 (beAt b 12 8), srcFlow := beAt b 20 2, cls := beAt b 22 1, pairCtx := true, ne := beAt b 0 4
      ackFloor := beAt b 4 4, srcEpoch := beAt b 8 4, lastAt := s.watchNs, held := [], cache := cache, deferred := false }
    setPair s { s.pair with mCtx := tabSet s.pair.mCtx key t }

/-- The word that a FIELD record carries. -/
def mirFWord (b : List Byte) : FWord :=
  let t := beAt b 1 1
  { data := (b.drop 2).take (t % 16), last := t.testBit 4, gap := t.testBit 5 }

/-- FIELD: a closed receive word, a transmit word of the copy, or the state of an endpoint. -/
def mirField (s : State) (ep : Nat) (b : List Byte) : State :=
  let f := fifoOf s ep
  if beAt b 0 1 = 1 then setFifo s ep { f with rx := f.rx ++ [mirFWord b] }
  else if beAt b 0 1 = 3 then setFifo s ep { f with tx := f.tx ++ [mirFWord b] }
  else
    let n := beAt b 1 1
    let fl := beAt b (2 + n) 1
    let s1 := setFifo s ep { f with opened := (b.drop 2).take n, openGap := fl.testBit 0, gapNext := fl.testBit 1, fc := fl.testBit 2 }
    if ep < 32 then s1
    else
      let x := b.drop (3 + n)
      let st : List Nat := if beAt x 11 1 = 1 then [beAt x 0 1, beAt x 1 4, beAt x 5 1, beAt x 6 1, beAt x 7 4] else []
      setBen s1 (ep - 32) { benOf s1 (ep - 32) with afterFifo := st }

/-- TX_BEGIN: the oldest transmit word of the copy is begun, so a new holder would not send it. -/
def mirBegin (s : State) (ep : Nat) : State :=
  let f := fifoOf s ep
  setPair (setFifo s ep { f with tx := f.tx.drop 1 }) { s.pair with mBegun := s.pair.mBegun.filter (· != ep) ++ [ep] }

/-- TOKENS: held for a takeover. -/
def mirTokens (s : State) (first : Nat) (b : List Byte) : State :=
  setPair s { s.pair with mTokens := (List.range (b.length / 4)).foldl (fun t i => tabSet t (first + i) (beAt b (4 * i) 4)) s.pair.mTokens }

/-- A record is applied (R369). -/
def mirApply (s : State) (r : MirRec) : State :=
  match r.kind with
  | 1 => (match reqRecsParse 1 r.body with | some (x :: _) => mirAccept s r.key r.seq x | _ => s)
  | 2 => setPair s { s.pair with mOpen := s.pair.mOpen.filter fun o => !(o.flow == r.key && o.seq == r.seq) }
  | 3 => setPair s { s.pair with mIntent := s.pair.mIntent ++ [{ ctx := r.key, seq := r.seq, op := beAt r.body 0 1, off := beAt r.body 4 8 }] }
  | 4 => mirDone s r.key r.seq r.body
  | 5 => mirFloor s r.key r.seq r.body
  | 6 => mirWrite s (beAt r.body 0 2) (beAt r.body 2 2) ((r.body.drop 8).take (beAt r.body 4 1))
  | 7 => mirField s r.key r.body
  | 8 => mirBegin s r.key
  | 9 => mirTokens s r.key r.body
  | 10 => setF s Pg.mir F.MIR_DIGEST_CRC (beAt r.body 4 4)
  | _ => s

/-- A record reaches the standby (R368, R370): it is logged if no number is missing before it, and applied. -/
def mirLog (s : State) (r : MirRec) : State :=
  if s.pair.logNext = 2 ^ 32 ∨ r.msn = s.pair.logNext then
    let s1 := setPair s { s.pair with logNext := (r.msn + 1) % 2 ^ 32 }
    mirApply (bump (setF s1 Pg.mir F.MIR_MSN_ACKED_MSN r.msn) Pg.mir F.MIR_RECORDS_LOGGED) r
  else s

/-! ## A MIRROR frame arrives (R361, R368, R370, R382) -/

/-- Health bits that a member in role `r` needs to be healthy (R382). -/
def healthyIn (r bits : Nat) : Bool := if r = 3 then bits % 256 == 255 else (bits &&& 0xCF) == 0xCF

/-- The partner's role and health as its prologue gives them. -/
def partnerNote (s : State) (f : Frame) (k : Kvl) (b : List Byte) : State :=
  let role := beAt b 4 1
  let s1 := setPair s { s.pair with
    partnerRole := role, partnerMac := f.smac, partnerNode := routeL1 k.src, mHsr := beAt b 12 2 }
  setB (setF (setB s1 Pg.mir F.MIR_STAT_MISMATCH false) Pg.par F.PAR_HEALTH_PARTNER (beAt b 5 1)) Pg.par F.PAR_STAT_PARTNER_HEALTHY
    (healthyIn role (beAt b 5 1))

/-- The partner serves: a member that is STARTING or LAPSED becomes STANDBY (R359, R363). -/
def partnerHolds (s : State) : State :=
  if s.pair.partnerRole = 2 ∧ pairRole s ≠ 2 ∧ pairRole s ≠ 5 then
    let s1 := holderSet s 2
    if pairRole s1 = 4 then pairYield (setRole s1 3) else if pairRole s1 = 1 then setRole s1 3 else s1
  else s

/-- The copy starts once one member holds and the other follows (R371). -/
def copyCheck (s : State) : State :=
  if mirState s = 1 ∨ mirState s = 4 then
    (if pairRole s = 2 then copyStart (setF (setMir s 2) Pg.mir F.MIR_STAT_COPY_PCT 0)
     else if pairRole s = 3 ∧ s.pair.partnerRole = 2 then copyTake (setF (setMir s 2) Pg.mir F.MIR_STAT_COPY_PCT 0)
     else s)
  else s

/-- Consent (R360, R361): a request is answered by a standby whose WATCH bit is 1; an answer to the latest request restarts the right. -/
def consentNote (s : State) (b : List Byte) : State :=
  let fl := beAt b 6 1
  let id := beAt b 8 4
  let s1 := if fl.testBit 0 && pairRole s == 3 && watchOk s then
    setPair s { s.pair with promise := some (s.watchNs + leaseNs s), consentOwe := some id } else s
  if fl.testBit 1 && (pairRole s1 == 2 || pairRole s1 == 5) && id == s1.pair.consentId then
    setPair s1 { s1.pair with rightC := s1.pair.consentAt + rightNs s1 }
  else s1

/-- ACK_MSN at the holder (R370): what waited for the covered records has its latency. -/
def ackNote (s : State) (ack : Nat) : State :=
  if pairRole s ≠ 2 ∧ pairRole s ≠ 5 then s
  else
    let s1 := setF s Pg.mir F.MIR_MSN_ACKED_MSN ack
    let done := s1.pair.waitAt.filter fun w => mirAcked s1 w.1
    let s2 := setPair s1 { s1.pair with waitAt := s1.pair.waitAt.filter fun w => !mirAcked s1 w.1 }
    match done.getLast? with
    | none => s2
    | some w =>
      let longest := (done.map fun x => s2.watchNs - x.2).foldl max (getF s2 Pg.mir F.MIR_LAT_MAX_MAX_NS)
      setF (setF s2 Pg.mir F.MIR_LAT_LAST_NS (s2.watchNs - w.2)) Pg.mir F.MIR_LAT_MAX_MAX_NS longest

/-- The standby writes and applies the records of a frame; `ecc` is an uncorrectable journal error on the way (R372). -/
def recordsIn (s : State) (rs : List MirRec) (ecc : Bool) : State :=
  if pairRole s ≠ 3 ∨ mirState s < 2 ∨ 3 < mirState s then s
  else
    let s1 := if ecc && mirState s == 3 then
      irqEvent (bump (bump (setMir s 2) Pg.mir F.MIR_RESYNCS) Pg.mir F.MIR_LOG_ERR) Pg.mir 4 else s
    rs.foldl mirLog s1

/-- A MIRROR frame that passed every check acts (R368, R369). -/
def mirrorTake (s : State) (f : Frame) (k : Kvl) (b : List Byte) (rs : List MirRec) (ecc : Bool) : State :=
  let missed := if mirrorOn s then (s.watchNs - s.pair.lastRx) / 1000000 else 0
  let s1 := bump (setPair s { s.pair with lastRx := s.watchNs }) Pg.mir F.MIR_HB_MISSED missed
  if beAt b 16 4 ≠ pairCrc s1 then
    setB (setPair (mirrorGone s1 1) { (mirrorGone s1 1).pair with partnerRole := 7 }) Pg.mir F.MIR_STAT_MISMATCH true
  else
    let s2 := copyCheck (partnerHolds (partnerNote s1 f k b))
    let s3 := ackNote (recordsIn (consentNote s2 b) rs ecc) (beAt b 0 4)
    if (beAt b 6 1).testBit 2 then handoverStart s3 else s3

/-- A MIRROR frame arrives: it is checked whole before it acts (R36, R79, R82). -/
def mirrorIn (s0 : State) (f : Frame) (ecc : Bool) : State :=
  match (if pairRole s0 = 0 then none else mirrorPort s0) with
  | none => s0
  | some p =>
    let s := bump s0 (portPage p) F.PORT_RX_FRAMES
    if f.fcs ≠ .good ∨ maxFrame < frameLen f then rxDrop s0 p f
    else if ingressShut s0 p then bump s0 (portPage p) F.PORT_RX_DISCARD
    else if isHello s f then helloTake s p f
    else
      match frameKvl s f with
      | none => badHdr s
      | some k =>
        let b := kvlBody f.payload k
        let ok := f.hsr.isSome && k.type == tyMirror && verOk s k && bodyOk k f && beAt b 6 1 < 16 && beAt b 7 1 == 0 && beAt b 14 2 == 0 &&
          (f.dmac != ownMac s || dstServed s false k)
        match if ok then mirRecsParse b.length (b.drop 20) else none with
        | none => badHdr s
        | some rs => mirrorTake s f k b rs ecc

/-! ## Takeover (R356, R358, R375, R377) -/

/-- The pair epoch is written into the chest. -/
def pairEpochSet (s : State) (e : Nat) : State :=
  setF { s with start := { s.start with pairEpochs := e } } Pg.par F.PAR_PAIR_EPOCH_EPOCH e

/-- An ACCEPT without a CLOSE is adopted without a tag: the record goes under its own flow and number (R377, R129). -/
def adoptRec (s : State) (o : MirOpen) : State :=
  let t : Txn := {
    tag := 1024 + o.req.tag, init := flowInit s o.flow, flow := o.flow, op := o.req.op
    addr := flowPath s o.flow * 2 ^ 40 + o.req.off, len := o.req.len, data := o.req.data
    spec := o.req.spec, orphan := true }
  let r : OpenRec := {
    seq := o.seq, txn := t, first := o.req.first, sent := false, fill := if o.req.op = 8 then some o.req.reason else none
    wait := .none, nop := o.req.op == 7 }
  let f := flowOf s o.flow
  joinFurrow (setFlow s o.flow { f with opens := f.opens ++ [r] }) o.flow o.seq true

/-- The pair flows of a new holder: their next numbers as mirrored, and the records it adopts. -/
def adoptFlows (s : State) : State :=
  let s1 := s.pair.mNext.foldl (fun a e =>
    setFlow a e.1 (limitAdvance { flowOf a e.1 with
      nextSeq := e.2, first := false, opens := [], waiting := [], furrow := [], closedNN := [], timer := false, st := .opened, pathFence := false })) s
  s1.pair.mOpen.foldl adoptRec s1

/-- An ACCEPT whose data words are unreadable: the record that its header names closes MIRROR_LOST (R377). -/
def adoptLost (s : State) (e : Bool × Nat × Nat) : State :=
  if e.1 || (openAt (flowOf s e.2.1) e.2.2).isNone then s
  else bump (closeRec s e.2.1 e.2.2 St.mirrorLost 0 false true []) Pg.mir F.MIR_MIRROR_LOST

/-- A pair context of a new holder: an INTENT without a DONE becomes MIRROR_LOST in its cache, and so does a DONE whose words are unreadable. -/
def adoptCtx (s : State) (bad : List (Bool × Nat × Nat)) (c : Nat) (t : TCtx) : State :=
  let lost := (t.cache.filter fun e => bad.contains (true, c, e.seq)).map fun e => { ctx := c, seq := e.seq, op := if e.bearing then 1 else 2, off := 0 }
  let its := s.pair.mIntent.filter (·.ctx == c) ++ lost
  let t1 := its.foldl (fun a i =>
    { a with
      cache := cachePut a.cache {
        seq := i.seq, status := St.mirrorLost, cause := 0, effectful := false, filled := false, nop := false, bearing := opBearing i.op
        tag := 0, data := [], empty := false, bad := false }
      ne := if seqSub (seqAdd i.seq 1) a.ne < 2 ^ 31 then seqAdd i.seq 1 else a.ne }) t
  match freeCtx s with
  | some n => bump (setCtx s n { t1 with pairCtx := true }) Pg.mir F.MIR_MIRROR_LOST its.length
  | none => s

/-- Headgate and sluice tokens from the last TOKENS record, limited to each entry's range. -/
def adoptToken (s : State) (e : Nat × Nat) : State :=
  if e.1 < 1024 then
    let p := Pg.hdg e.1
    let i := e.1 % 64
    setF s p F.HDG_TOKENS_TOKENS (min e.2 (getF s p F.HDG_CTL_BURST i)) i
  else
    let p := Pg.slu ((e.1 - 1024) / 64)
    let i := (e.1 - 1024) % 64
    let b := getF s p F.SLU_ACT_BURST_BURST i
    setF s p F.SLU_TOKENS_TOKENS (if e.2 < 2 ^ 31 ∧ b < e.2 then b else e.2) i

/-- A bench starts as PAR.BENCH_START gives for it: 0 it stays, 1 clean, 2 from the mirrored state. -/
def adoptBench (s : State) (n : Nat) : State :=
  let code := wordBits (getW s Pg.par 0x5C) (2 * n) 2
  let pg := Pg.ben n
  if code = 0 ∨ pageEnabled s pg = false then s
  else if code = 1 then setF (benClear s n) pg F.BEN_STAT_RUN_STATE 1
  else
    let b := (benOf s n).afterFifo
    let s1 := if b.isEmpty then s else
      setBen (setF (setF (setF s pg F.BEN_STATE_STATE (b.getD 0 0)) pg F.BEN_SR_SR (b.getD 1 0)) pg F.BEN_COUNT_COUNT (b.getD 2 0)) n
        { benOf s n with slots := b.getD 3 0, divisor := b.getD 4 0 }
    setF s1 pg F.BEN_STAT_RUN_STATE 1

/-- The next transmit word after a discarded one carries GAP (R374). -/
def gapTx (s : State) (ep : Nat) : State :=
  let f := fifoOf s ep
  match f.tx with
  | w :: ws => setFifo s ep { f with tx := { w with gap := true } :: ws }
  | [] => setFifo s ep { f with txGapNext := true }

/-- The first receive word that an enabled port closes carries GAP (R375 step 5). -/
def gapRx (s : State) (n : Nat) : State :=
  if pageEnabled s (Pg.ser n) then
    let f := fifoOf s n
    if f.opened.isEmpty then setFifo s n { f with gapNext := true } else setFifo s n { f with openGap := true }
  else s

/-- The mirror log is processed (R375 steps 2 and 3, R377); `bad` names the records whose data words are unreadable: an ACCEPT by its flow and
number, a DONE by its context and number. -/
def logProcess (s : State) (bad : List (Bool × Nat × Nat)) : State :=
  let s1 := { s with seq := { s.seq with ctxs := s.seq.ctxs.filter (!·.2.pairCtx) } }
  let s2 := s.pair.mCtx.foldl (fun a e => adoptCtx a bad e.1 e.2) (bad.foldl adoptLost (adoptFlows s1))
  let s3 := s.pair.mTokens.foldl adoptToken s2
  let s4 := s.pair.mBegun.foldl gapTx s3
  setPair s4 { s4.pair with
    mOpen := [], mNext := [], mCtx := [], mIntent := [], mTokens := [], mBegun := [], hsr := (s.pair.mHsr + 32768) % 65536
    nextMsn := if s.pair.logNext = 2 ^ 32 then s.pair.nextMsn else s.pair.logNext }

/-- A member becomes ACTIVE (R375). -/
def takeOver (s : State) (epoch right : Nat) (bad : List (Bool × Nat × Nat)) : State :=
  let was := pairRole s
  let s1 := pairEpochSet (proveAbort s) epoch
  let s2 := if was = 3 then logProcess s1 bad else s1
  let s3 := holderSet (setRole (setPair s2 { s2.pair with rightW := right, rightC := 0, promise := none, pfw := false }) 2) 1
  let s4 := if was = 3 then bump s3 Pg.par F.PAR_TAKEOVERS else s3
  let s5 := (List.range 32).foldl gapRx ((List.range 16).foldl adoptBench (sendPermit s4))
  let s6 := if mirrorOn s5 then setMir s5 4 else s5
  pairAnnounce (setB s6 Pg.par F.PAR_STAT_ALONE true)

/-- GRANT (R358, R360, R365, R375): a holder whose RENEW came as a request keeps its role under the epoch given. -/
def grantIn (s : State) (bad : List (Bool × Nat × Nat)) : State :=
  match takeLease s [2] with
  | none => s
  | some ((_, _, _, l), s1) =>
    if leaseMatches s1 l then
      let right := s1.pair.reqAt + rightNs s1
      (if pairRole s1 = 2 ∨ pairRole s1 = 5 then pairEpochSet (setPair s1 { s1.pair with rightW := right }) l.epoch
       else takeOver s1 l.epoch right bad)
    else if leaseHanded s1 l then takeOver s1 l.epoch (s1.watchNs + rightNs s1) bad
    else staleAnswer s1

/-! ## What follows in the same step -/

/-- The unpaired rules of R110 for a record whose mirror has gone (R371). -/
def acceptAlone (s : State) (flow q : Nat) : State :=
  if flowDurable s flow then
    setFlow s flow { flowOf s flow with opens := mapIf (·.seq == q) (fun x => { x with wait := .chest }) (flowOf s flow).opens }
  else accept s flow q

/-- A record that waits for the mirror (R110, R370, R371). -/
def acceptWaiting (s : State) (flow : Nat) (o : OpenRec) : State :=
  match o.wait with
  | .mirror m =>
    if mirAcked s m then accept s flow o.seq
    else if pairRole s = 2 ∧ mirrorOn s = false ∧ s.pair.aloneWait = false then acceptAlone s flow o.seq
    else s
  | .alone =>
    if s.pair.aloneWait || pairRole s != 2 then s
    else if mirrorOn s && !logRoom s o.txn.data.length then s
    else if mirrorOn s then
      let r := mirrorPush s 1 true flow o.seq (openRecBytes o)
      setFlow r.2 flow { flowOf r.2 flow with opens := mapIf (·.seq == o.seq) (fun x => { x with wait := .mirror r.1 }) (flowOf r.2 flow).opens }
    else acceptAlone s flow o.seq
  | _ => s

/-- Records that waited for the mirror are accepted, in the order of their flow. -/
def mirrorAccepts (s : State) : State :=
  s.seq.flows.foldl (fun a e => (e.2.opens.filter fun o => o.wait != .none && o.wait != .chest).foldl (fun b o => acceptWaiting b e.1 o) a) s

/-- Pair contexts look again: an INTENT may be covered by now, and a role or a renewal may let a record go. -/
def intentsGo (s : State) : State :=
  s.seq.ctxs.foldl (fun a e => match headHeld a e.1 with
    | some h => (match h.st with
      | .intent m => if mirAcked a m || !mirroring a then runLater a e.1 else a
      | .held => if e.2.pairCtx then runLater a e.1 else a
      | _ => a)
    | none => a) s

/-- TX_BEGIN of the next transmit word of every endpoint goes out ahead of its begin (R374). -/
def txBegins (s : State) : State :=
  if mirroring s then
    s.fld.fifo.foldl (fun a e =>
      let f := fifoOf a e.1
      if (!f.tx.isEmpty && f.txTaken == 0 && f.txMsn.isNone) || (2 ≤ f.tx.length && f.txTaken != 0 && f.txMsn.isNone) then
        let r := mirrorPush a 8 true e.1 0 (beBytes 2 e.1 ++ beBytes 2 0)
        setFifo r.2 e.1 { fifoOf r.2 e.1 with txMsn := some r.1 }
      else a) s
  else s

/-- A holder that is not healthy hands over to a healthy standby in sync (R379). -/
def healthHandover (s : State) : State :=
  if pairRole s == 2 && mirState s == 3 && !ownHealthy s && getB s Pg.par F.PAR_STAT_PARTNER_HEALTHY && s.pair.partnerRole == 3 then handoverStart s else s

end Sys2Proof.Machine
end

