-- ==== Sys2Proof/Machine/Settle.lean ====
section
/-! DEFINITION. What follows a command in its own resolution step (R9, R22): contexts run, initiators take their acceptances and closures,
queues that found room move on, interrupt destinations follow. Every meaning is its own effect followed by `settle`. -/

namespace Sys2Proof.Machine

/-! ## Initiators (R13, R14, R103) -/

/-- An acceptance reaches its initiator's block. -/
def acceptOut (s : State) (e : Nat × Nat) : State :=
  if e.1 / 4096 = 1 then brgAccepted s e.2
  else if e.1 / 4096 = 3 then usfAccepted s e.2
  else if e.1 / 4096 = 4 then offerAccepted s e.2
  else s

/-- A closure reaches its initiator's block; the management core and the interrupt block get an output. -/
def closingOut (s : State) (c : Closing) : State :=
  if c.init / 4096 = 1 then brgClosed s c
  else if c.init / 4096 = 3 then usfClosed s c
  else if c.init / 4096 = 4 then offerClosed s c
  else if c.orphan then s
  else emit s (.closed c.init c.tag c.status c.cause c.data)

/-- The acceptances of this step. -/
def acceptsOut (s : State) : State := s.seq.accepted.foldl acceptOut { s with seq := { s.seq with accepted := [] } }

/-- The closures of this step. -/
def closingsOut (s : State) : State := s.seq.closings.foldl closingOut { s with seq := { s.seq with closings := [] } }

/-! ## Rounds -/

/-- A wait of CUL for its DONEs is over (R263). -/
def rspCheck (s : State) : State := if s.cul.rspWait && s.cul.execs.isEmpty then rspWaitEnd s else s

/-- The management core reads the frames that wait for it, and meets their spoiled cells (R133, R452). -/
def spoilLocal (s : State) : State := if s.test.badCells.isEmpty then s else s.sw.localQ.foldl spoilMeet s

/-- One round: what waited for something that this step gave goes on. -/
def settleRound (s : State) : State :=
  let s1 := intentsGo (mirrorAccepts (regWaitGo s.pair.regWait s))
  let s2 := if s1.seq.running then runContexts (runBound s1) none s1 else s1
  let s3 := closingsOut (acceptsOut (streamGo s2.cul.execs [] s2))
  barGo (rspCheck (usfPump 200 (brgPump (ibPump (drainTagWait s3)))))

/-- Something of this step is still to be handled. -/
def unsettled (s : State) : Bool :=
  (s.seq.running && !s.seq.runQ.isEmpty) || !s.seq.accepted.isEmpty || !s.seq.closings.isEmpty

/-- Rounds until nothing is left; `n` bounds them. -/
def settleLoop : Nat → State → State
  | 0, s => s
  | n + 1, s => if unsettled s then settleLoop n (settleRound s) else s

/-- Rounds that a step may need. -/
def settleBound (s : State) : Nat :=
  64 + s.seq.closings.length + s.seq.accepted.length + s.seq.tagWait.length + s.brg.offers.length +
  (s.usb.xfers.map fun x => x.bytes.length / 16).foldl (· + ·) 0

def settleAll (s : State) : State := settleLoop (settleBound s) (settleRound s)

/-! ## What ends work in hand -/

/-- An update in hand ends with its power, or its partner's health (R431, R438). -/
def fwuCheck (s : State) : State :=
  let s1 := if s.fwu.job != 0 && powerBad s then fwuEnd s 0x42 else s
  if s1.fwu.job == 3 && partnerBad s1 then fwuEnd s1 0x43 else s1

/-! ## Perturbation of units sent (R452 to R454) -/

/-- A unit of the block of page `p` is emitted; `bad` is what it becomes if its check is spoiled. -/
def spoilOne (s : State) (p : Nat) (o bad : Out) : State :=
  let r := spoilUnit s p
  emit r.2 (if r.1 then bad else o)

/-- An output of this step passes the perturbation of its page. -/
def spoilOut (s : State) (o : Out) : State :=
  match o with
  | .frame p f st =>
    if st || !isEthPort p then emit s o
    else spoilOne s (if isKvlType s f && f.payload.head?.map (fun b => b.toNat % 16) == some tyMirror then Pg.mir else portPage p) o
      (.frame p { f with fcs := .bad } st)
  | .item true _ _ _ => spoilOne s Pg.cul o o
  | .can n _ _ _ _ _ => spoilOne s (Pg.can n) o o
  | .tlp _ _ _ _ _ _ => spoilOne s Pg.brg o o
  | _ => emit s o

/-- Some page spoils the units it emits. -/
def spoiling (s : State) : Bool := testUnlocked s

def spoilOuts (s : State) : State := if spoiling s then s.out.foldl spoilOut { s with out := [] } else s

/-! ## The step's end -/

/-- The completions formed in this step leave, as far as their meters and cells allow. -/
def cplsOut (s : State) : State :=
  let s1 := flushAnswers s
  drainCpl s1.seq.cplOut [] { s1 with seq := { s1.seq with cplOut := [] } }

/-- Interrupt sources that are conditions, the field die's reports, and the fabric destination (R57, R61, R65). -/
def interrupts (s : State) : State := fabricStep (pendReports (irqConditions s))

/-- What follows a command in its resolution step; the interrupt lines follow last, once every source of the step has come. -/
def settleLive (s : State) : State :=
  let s1 := settleAll (healthHandover (fwuCheck (pfwFollow (spoilLocal s))))
  let s2 := settleAll (interrupts (flwRelease s1))
  lines (spoilOuts (pinsRefresh (syncNote (culPump (txBegins (drainOwn (cplsOut s2)))))))

/-! ## Commands while the hub is not there -/

/-- The hub takes commands: RESET_N is high, it is not in a scan state, and no offline test runs (R405, R447, R457). -/
def alive (s : State) : Bool := !s.start.inReset && scanState s == 0 && !s.test.offline

def settle (s : State) : State := if alive s then settleLive s else pinsRefresh s

/-- A command with this effect, at a hub that is there: outputs start empty, the effect comes, and the step settles. -/
def during (s : State) (f : State → State) : State :=
  if alive s then settle (f { s with out := [] }) else { s with out := [] }

/-- A command that also reaches a hub which is held in reset or under test. -/
def anytime (s : State) (f : State → State) : State := settle (f { s with out := [] })

end Sys2Proof.Machine
end

