-- ==== Sys2Proof/Machine/RowsBench.lean ====
section
/-! DEFINITION. Rows of the benches (spec/15; R283 to R301). -/

namespace Sys2Proof.Machine

/-- A write to a bench's program (R293): the table window, or a register. `meet`: the bench starts in the same step, and the write is
refused. -/
def programWrite (s : State) (who : Agent) (n : Nat) (table : Bool) (off : Nat) (bs : List Byte) (meet : Bool) : State :=
  let r := nextAcc s
  let e : Exec := { id := 0, org := .pendRead, op := 2, spec := false, off := 0x2000000 + 0x10000 * n + off, len := bs.length, data := bs, meet := .none, full := false }
  if table then
    if 0x1000 < off + bs.length ∨ bs = [] ∨ 256 < bs.length then accEnd r.2 who r.1 St.addrErr 0 [] e
    else match blockRefuses r.2 (Pg.ben n) with
      | some x => accEnd (noteErr r.2 (Pg.ben n) x.1 x.2 0) who r.1 x.1 x.2 [] e
      | none =>
        let x := benTableStore r.2 n off bs meet
        accEnd x.2 who r.1 x.1.1 x.1.2 [] e
  else if meet && benProgReg (off / 4 * 4) then
    accEnd (benRefused r.2 n (off / 4) false) who r.1 St.targetErr 0x40 [] (accExec 2 (Pg.ben n) off bs.length bs)
  else accWrite r.2 who r.1 (Pg.ben n) off bs .none false

/-- BENCH_TICK (R285). -/
def execBenchTick (n : Nat) (upset : Option Nat) (s : State) : Host.Outcome State Fault Refusal :=
  .next (during s fun a => if n < 16 then benTick a n upset else a)

/-- BENCH_STALL_TIMEOUT (R289). -/
def execBenchStallTimeout (n : Nat) (s : State) : Host.Outcome State Fault Refusal :=
  .next (during s fun a => if n < 16 then benStallTimeout a n else a)

/-- BENCH_RUN (R290). -/
def execBenchRun (who : Agent) (n : Nat) (s : State) : Host.Outcome State Fault Refusal :=
  .next (during s fun a => if n < 16 then ownWrite a who (Pg.ben n) 0x44 1#32 else a)

/-- BENCH_STOP (R290). -/
def execBenchStop (who : Agent) (n : Nat) (s : State) : Host.Outcome State Fault Refusal :=
  .next (during s fun a => if n < 16 then ownWrite a who (Pg.ben n) 0x44 2#32 else a)

/-- BENCH_FLUSH (R295). -/
def execBenchFlush (who : Agent) (n : Nat) (s : State) : Host.Outcome State Fault Refusal :=
  .next (during s fun a => if n < 16 then ownWrite a who (Pg.ben n) 0x44 4#32 else a)

/-- BENCH_RX_CLEAR (R295). -/
def execBenchRxClear (who : Agent) (n : Nat) (s : State) : Host.Outcome State Fault Refusal :=
  .next (during s fun a => if n < 16 then ownWrite a who (Pg.ben n) 0x44 8#32 else a)

/-- BENCH_TX_CLEAR (R295). -/
def execBenchTxClear (who : Agent) (n : Nat) (s : State) : Host.Outcome State Fault Refusal :=
  .next (during s fun a => if n < 16 then ownWrite a who (Pg.ben n) 0x44 16#32 else a)

/-- BENCH_TXD (R296). -/
def execBenchTxd (who : Agent) (n : Nat) (value : Word) (s : State) : Host.Outcome State Fault Refusal :=
  .next (during s fun a => if n < 16 then ownWrite a who (Pg.ben n) 0x7C value else a)

/-- BENCH_PROGRAM_WRITE (R293). -/
def execBenchProgramWrite (who : Agent) (n : Nat) (table : Bool) (off : Nat) (bytes : List Byte) (meet : Bool) (s : State) : Host.Outcome State Fault Refusal :=
  .next (during s fun a => if n < 16 then programWrite a who n table off bytes meet else a)

/-- BENCH_RUN_MASK (R300). -/
def execBenchRunMask (who : Agent) (value : Word) (s : State) : Host.Outcome State Fault Refusal :=
  .next (during s fun a => ownWrite a who Pg.btb 0x40 value)

/-- BENCH_STOP_MASK (R300). -/
def execBenchStopMask (who : Agent) (value : Word) (s : State) : Host.Outcome State Fault Refusal :=
  .next (during s fun a => ownWrite a who Pg.btb 0x44 value)

/-- TABLE_CRC_GO (R301). -/
def execTableCrcGo (who : Agent) (value : Word) (s : State) : Host.Outcome State Fault Refusal :=
  .next (during s fun a => ownWrite a who Pg.btb 0x4C value)

/-- TABLE_CRC_DONE (R301). -/
def execTableCrcDone (s : State) : Host.Outcome State Fault Refusal :=
  .next (during s fun a => tableCrcDone a)

end Sys2Proof.Machine
end

