-- ==== Sys2Proof/Machine/RowsCan.lean ====
section
/-! DEFINITION. Rows of the CAN ports (spec/15; R302 to R324). -/

namespace Sys2Proof.Machine

/-- CAN_INTEGRATED (R303). -/
def execCanIntegrated (n : Nat) (s : State) : Host.Outcome State Fault Refusal :=
  .next (during s fun a => if n < 8 then canIntegrated a n else a)

/-- CAN_FRAME_RX (R306). -/
def execCanFrameRx (n idWord dlc : Nat) (fdf brs esi : Bool) (data : List Byte) (s : State) : Host.Outcome State Fault Refusal :=
  .next (during s fun a => if n < 8 then canFrameRx a n idWord dlc fdf brs esi data else a)

/-- CAN_RX_RD_WRITE (R309). -/
def execCanRxRdWrite (who : Agent) (n : Nat) (value : Word) (s : State) : Host.Outcome State Fault Refusal :=
  .next (during s fun a => if n < 8 then ownWrite a who (Pg.can n) 0x68 value else a)

/-- CAN_TX_REQ (R312). -/
def execCanTxReq (who : Agent) (n : Nat) (value : Word) (s : State) : Host.Outcome State Fault Refusal :=
  .next (during s fun a => if n < 8 then ownWrite a who (Pg.can n) 0x58 value else a)

/-- CAN_TX_CANCEL (R315). -/
def execCanTxCancel (who : Agent) (n : Nat) (value : Word) (s : State) : Host.Outcome State Fault Refusal :=
  .next (during s fun a => if n < 8 then ownWrite a who (Pg.can n) 0x5C value else a)

/-- CAN_SOF (R313). -/
def execCanSof (n : Nat) (s : State) : Host.Outcome State Fault Refusal :=
  .next (during s fun a => if n < 8 then canSof a n else a)

/-- CAN_ARBITRATION_LOST (R313). -/
def execCanArbitrationLost (n : Nat) (s : State) : Host.Outcome State Fault Refusal :=
  .next (during s fun a => if n < 8 then canArbLost a n else a)

/-- CAN_TX_END (R314). -/
def execCanTxEnd (n tdcv : Nat) (s : State) : Host.Outcome State Fault Refusal :=
  .next (during s fun a => if n < 8 then canTxEnd a n tdcv else a)

/-- CAN_BUS_ERROR (R317). -/
def execCanBusError (n lec weight : Nat) (tx : Bool) (s : State) : Host.Outcome State Fault Refusal :=
  .next (during s fun a => if n < 8 then canBusError a n lec weight tx else a)

/-- CAN_RECOVER (R319). -/
def execCanRecover (who : Agent) (n : Nat) (s : State) : Host.Outcome State Fault Refusal :=
  .next (during s fun a => if n < 8 then ownWrite a who (Pg.can n) 0x54 1#32 else a)

/-- CAN_RECOVERED (R319). -/
def execCanRecovered (n : Nat) (s : State) : Host.Outcome State Fault Refusal :=
  .next (during s fun a => if n < 8 then canRecovered a n else a)

/-- CAN_REF_LATE (R320). -/
def execCanRefLate (n : Nat) (s : State) : Host.Outcome State Fault Refusal :=
  .next (during s fun a => if n < 8 then canRefLate a n else a)

/-- CAN_TT_WINDOW_OPEN (R321). -/
def execCanTtWindowOpen (n j : Nat) (s : State) : Host.Outcome State Fault Refusal :=
  .next (during s fun a => if n < 8 then canWindowOpen a n j else a)

/-- CAN_TT_WINDOW_CLOSE (R321). -/
def execCanTtWindowClose (n j : Nat) (s : State) : Host.Outcome State Fault Refusal :=
  .next (during s fun a => if n < 8 then canWindowEnd a n j else a)

end Sys2Proof.Machine
end

