-- ==== Sys2Proof/Machine/RowsCulvert.lean ====
section
/-! DEFINITION. Rows of the culvert, its items, the permit and the markers (spec/13; R245 to R263). -/

namespace Sys2Proof.Machine

/-- EXEC_ITEM (R250). -/
def execExecItem (s : State) : Host.Outcome State Fault Refusal :=
  .next (during s fun a => execItem a)

/-- DONE_ITEM (R250). -/
def execDoneItem (s : State) : Host.Outcome State Fault Refusal :=
  .next (during s fun a => doneIn a)

/-- CFG_ITEM (R250). -/
def execCfgItem (s : State) : Host.Outcome State Fault Refusal :=
  .next (during s fun a => cfgIn a)

/-- OFFER_ITEM (R279). -/
def execOfferItem (s : State) : Host.Outcome State Fault Refusal :=
  .next (during s fun a => offerIn a)

/-- ACCEPT_ITEM (R279). -/
def execAcceptItem (s : State) : Host.Outcome State Fault Refusal :=
  .next (during s fun a => acceptIn a)

/-- FIELD_CPL_ITEM (R279). -/
def execFieldCplItem (s : State) : Host.Outcome State Fault Refusal :=
  .next (during s fun a => cplIn a)

/-- FIELD_PEND_ITEM (R61). -/
def execFieldPendItem (s : State) : Host.Outcome State Fault Refusal :=
  .next (during s fun a => pendIn a)

/-- FIELD_RECORD_ITEM (R254). -/
def execFieldRecordItem (s : State) : Host.Outcome State Fault Refusal :=
  .next (during s fun a => recordIn a)

/-- CREDIT_RETURN (R251). -/
def execCreditReturn (toField : Bool) (vc : Nat) (s : State) : Host.Outcome State Fault Refusal :=
  .next (during s fun a => if vc < 4 then creditWord a toField vc else a)

/-- KEEP_SEND (R252). -/
def execKeepSend (fromField : Bool) (s : State) : Host.Outcome State Fault Refusal :=
  .next (during s fun a => keepItem a fromField)

/-- PERMIT_RENEW (R258). -/
def execPermitRenew (s : State) : Host.Outcome State Fault Refusal :=
  .next (during s fun a => sendPermit a)

/-- PERMIT_ITEM (R258). -/
def execPermitItem (s : State) : Host.Outcome State Fault Refusal :=
  .next (during s fun a => permitIn a)

/-- PERMIT_EXPIRE (R258). -/
def execPermitExpire (s : State) : Host.Outcome State Fault Refusal :=
  .next (during s fun a => permitEnd a)

/-- MARK_SEND (R259). -/
def execMarkSend (s : State) : Host.Outcome State Fault Refusal :=
  .next (during s fun a => markOut a)

/-- MARK_RX (R259). -/
def execMarkRx (s : State) : Host.Outcome State Fault Refusal :=
  .next (during s fun a => markIn a)

/-- MARK_REPLY_RX (R259). -/
def execMarkReplyRx (s : State) : Host.Outcome State Fault Refusal :=
  .next (during s fun a => markReplyIn a)

/-- FREQ_ITEM (R260). -/
def execFreqItem (s : State) : Host.Outcome State Fault Refusal :=
  .next (during s fun a => freqIn a)

/-- STEP_ITEM (R260). -/
def execStepItem (s : State) : Host.Outcome State Fault Refusal :=
  .next (during s fun a => stepIn a)

/-- CULVERT_SYMBOL_TIMEOUT (R253): with `done`, a DONE comes in the same step and wins (R255). -/
def execCulvertSymbolTimeout (done : Bool) (s : State) : Host.Outcome State Fault Refusal :=
  .next (during s fun a => symbolTimeout a done)

/-- CULVERT_SILENCE_TIMEOUT (R253). -/
def execCulvertSilenceTimeout (s : State) : Host.Outcome State Fault Refusal :=
  .next (during s fun a => culTrip a 1)

/-- CULVERT_CREDIT_TIMEOUT (R253). -/
def execCulvertCreditTimeout (s : State) : Host.Outcome State Fault Refusal :=
  .next (during s fun a => culTrip a 2)

/-- CULVERT_CHECK_FAIL (R253). -/
def execCulvertCheckFail (s : State) : Host.Outcome State Fault Refusal :=
  .next (during s fun a => culTrip a 3)

/-- CULVERT_ABORT_PATTERN (R253). -/
def execCulvertAbortPattern (s : State) : Host.Outcome State Fault Refusal :=
  .next (during s fun a => culTrip a 4)

/-- CULVERT_RETRAIN (R253). -/
def execCulvertRetrain (who : Agent) (s : State) : Host.Outcome State Fault Refusal :=
  .next (during s fun a => ownWrite a who Pg.cul 0x60 1#32)

/-- CULVERT_RSP_WAIT_EXPIRE (R263). -/
def execCulvertRspWaitExpire (s : State) : Host.Outcome State Fault Refusal :=
  .next (during s fun a => rspWaitEnd a)

/-- CULVERT_TRAINING_FAIL (R257). -/
def execCulvertTrainingFail (why : Nat) (s : State) : Host.Outcome State Fault Refusal :=
  .next (during s fun a => trainFail a why)

/-- CULVERT_TRAINING_RETRY (R257). -/
def execCulvertTrainingRetry (s : State) : Host.Outcome State Fault Refusal :=
  .next (during s fun a => trainRetry a)

/-- CULVERT_UP (R256). -/
def execCulvertUp (fieldEn fieldRev : Nat) (s : State) : Host.Outcome State Fault Refusal :=
  .next (during s fun a => culvertUpNow a fieldEn fieldRev)

/-- RING_DIE_LOST (R262). -/
def execRingDieLost (s : State) : Host.Outcome State Fault Refusal :=
  .next (during s fun a => ringGone a)

/-- WAKE_PATTERN (R256). -/
def execWakePattern (s : State) : Host.Outcome State Fault Refusal :=
  .next (during s fun a => wakeIn a)

end Sys2Proof.Machine
end

