-- ==== Sys2Proof/Machine/RowsFabric.lean ====
section
/-! DEFINITION. Rows of the fabric transport, the buffer and the journal (spec/07 to spec/10; R101 to R178). -/

namespace Sys2Proof.Machine

/-- The buffer scrubber completes a pass, or its period ends first (R133 to R135). -/
def bufferScrubEnd (s : State) (corrected : Nat) (fault : Option EccFault) (overrun : Bool) : State :=
  let s1 := bump s Pg.buf F.BUF_ECC_CORR corrected
  let s2 := match fault with | some e => eccHit s1 e | none => s1
  let s2 := s2.test.badCells.foldl (fun a x => eccHit { a with test := { a.test with badCells := [] } } { place := 0, index := x.1, word := 0, single := !x.2 }) s2
  if overrun then irqEvent (setB s2 Pg.buf F.BUF_SCRUB_STAT_LATE true) Pg.buf 5 else bump s2 Pg.buf F.BUF_SCRUB_PASSES

/-- The patrol scrubber of the journal completes a pass (R160). -/
def journalScrubEnd (s : State) (corrected : Nat) (fault : Option JEcc) : State :=
  let s1 := bump s Pg.jrn F.JRN_ECC_CORR corrected
  let s2 := match fault with | some e => jrnHit s1 e | none => s1
  bump (spoiltRead s2 0 (jrnBytes s2)).2 Pg.jrn F.JRN_SCRUB_PASSES

/-- A slot write that meets an uncorrectable chest word: the slot counts as free and lost, and the record goes to another one (R423). -/
def slotLost (s : State) (addr : Nat) : State :=
  irqEvent (bump (chestUncorr (slotTouch s (slotPick s)) addr) Pg.chs F.CHS_SLOTS_LOST) Pg.chs 4

/-- An abort that a CPL burst meets (R114): the completion wins, its OK becomes OK_LATE_ABORT, and the abort of a number that it closed is
recorded NOT_OPEN. -/
def abortMeets (s : State) (who : Agent) (value : Word) : State :=
  let fl := wordBits value 0 12
  let q := (getW s Pg.seq 0x48).toNat
  let fillOf (a : State) : Option (Option Nat) := (openAt (flowOf a fl) q).map (·.fill)
  let s1 := ownWrite s who Pg.seq 0x4C value
  let s2 := cplRx s1
  if fillOf s = some none ∧ fillOf s1 = some (some St.aborted) ∧ fillOf s2 = none then noteErr s2 Pg.seq 0 0x41 0x13 else s2

/-- TRANSACTION_ISSUE (R109). -/
def execTransactionIssue (t : TxnReq) (s : State) : Host.Outcome State Fault Refusal :=
  .next (during s fun a => issueTxn a t)

/-- SEQUENCE_ASSIGN (R109). -/
def execSequenceAssign (flow : Nat) (s : State) : Host.Outcome State Fault Refusal :=
  .next (during s fun a => sequenceAssign a flow)

/-- DURABILITY_DONE (R110). -/
def execDurabilityDone (tag : Nat) (ecc : Option Nat) (s : State) : Host.Outcome State Fault Refusal :=
  .next (during s fun a =>
    match ecc with
    | some addr => slotLost a addr
    | none => durabilityDone a tag)

/-- FURROW_RELEASE (R170). -/
def execFurrowRelease (flow : Nat) (s : State) : Host.Outcome State Fault Refusal :=
  .next (during s fun a => furrowRelease a flow)

/-- PORT_SELECT (R173): the frame before it has left; `ecc` is an error that the read of the next one meets (R133). -/
def execPortSelect (port : Port) (ecc : Option EccFault) (s : State) : Host.Outcome State Fault Refusal :=
  .next (during s fun a =>
    let b := wireEnd a port 1
    let c := match ecc with
      | some e => if (selectClass b port).1.isSome then eccHit b e else b
      | none => b
    if isEthPort port && bpHeld c (portPage port) then bump c Pg.prt F.PRT_INJECTED else portSelect (frameCount c + 1) c port)

/-- BUCKET_REFILL (R165). -/
def execBucketRefill (s : State) : Host.Outcome State Fault Refusal :=
  .next (during s fun a => refillAll a)

/-- BUCKET_CTL_WRITE (R175). -/
def execBucketCtlWrite (who : Agent) (page k : Nat) (value : Word) (s : State) : Host.Outcome State Fault Refusal :=
  .next (during s fun a =>
    if 0x080 ≤ page ∧ page ≤ 0x08F ∧ k < 64 then ownWrite a who page (0x104 + 16 * k) value
    else if 0x090 ≤ page ∧ page ≤ 0x0D0 ∧ k < 64 then ownWrite a who page (0x108 + 32 * k) value
    else a)

/-- RETRANSMIT_TIMEOUT (R111). -/
def execRetransmitTimeout (flow : Nat) (ecc : Option JEcc) (s : State) : Host.Outcome State Fault Refusal :=
  .next (during s fun a => retransmitTimeout a flow ecc)

/-- CPL_RX (R112). -/
def execCplRx (s : State) : Host.Outcome State Fault Refusal :=
  .next (during s fun a => cplRx a)

/-- ABORT_GO (R113, R114): with `meet`, a CPL burst meets it. -/
def execAbortGo (who : Agent) (value : Word) (s : State) (meet : Bool := false) : Host.Outcome State Fault Refusal :=
  .next (during s fun a => if meet then abortMeets a who value else ownWrite a who Pg.seq 0x4C value)

/-- REQ_RX (R117). -/
def execReqRx (ecc : Option JEcc) (s : State) : Host.Outcome State Fault Refusal :=
  .next (during s fun a => reqRx a ecc)

/-- BROADCAST_EVENT_RX (R122). -/
def execBroadcastEventRx (s : State) : Host.Outcome State Fault Refusal :=
  .next (during s fun a => broadcastRx a)

/-- DEFERRED_EXECUTE (R121). -/
def execDeferredExecute (ctx : Nat) (s : State) : Host.Outcome State Fault Refusal :=
  .next (during s fun a => deferredExecute a ctx)

/-- STREAM_WAIT_EXPIRE (R101). -/
def execStreamWaitExpire (ctx : Nat) (s : State) : Host.Outcome State Fault Refusal :=
  .next (during s fun a => streamExpire a ctx)

/-- CONTEXT_RELEASE (R120). -/
def execContextRelease (ctx : Nat) (s : State) : Host.Outcome State Fault Refusal :=
  .next (during s fun a => contextRelease a ctx)

/-- NOP_SEND (R121). -/
def execNopSend (flow : Nat) (s : State) : Host.Outcome State Fault Refusal :=
  .next (during s fun a => nopSend a flow)

/-- SEQ_LOG_POP (R130). -/
def execSeqLogPop (who : Agent) (s : State) : Host.Outcome State Fault Refusal :=
  .next (during s fun a => ownRead a who Pg.seq 0x60)

/-- AGE_SWEEP (R153). -/
def execAgeSweep (s : State) : Host.Outcome State Fault Refusal :=
  .next (during s fun a => ageSweep a)

/-- BUFFER_SCRUB (R135). -/
def execBufferScrub (corrected : Nat) (fault : Option EccFault) (overrun : Bool) (s : State) : Host.Outcome State Fault Refusal :=
  .next (during s fun a => bufferScrubEnd a corrected fault overrun)

/-- JOURNAL_PATROL_SCRUB (R160). -/
def execJournalPatrolScrub (corrected : Nat) (fault : Option JEcc) (s : State) : Host.Outcome State Fault Refusal :=
  .next (during s fun a => journalScrubEnd a corrected fault)

end Sys2Proof.Machine
end

