-- ==== Sys2Proof/Machine/RowsHost.lean ====
section
/-! DEFINITION. Rows of the PCIe bridge (spec/11; R185 to R215, R471). -/

namespace Sys2Proof.Machine

/-- A host access to BAR0 (R189), in the order of its TLP: a read keeps its host tag until it completes. -/
def bar0 (s : State) (ptag off len : Nat) (data : Option (List Byte)) : State :=
  if !barsOpen s || !(if data.isSome then postedRoom s len else readRoom s) then s
  else
    let r := nextAcc s
    match data with
    | some bs => barTake r.2 { id := r.1, isWrite := true, off := off, len := len, data := bs, meet := .none }
    | none => barTake (setBrg r.2 { r.2.brg with accs := tabSet r.2.brg.accs r.1 ptag })
        { id := r.1, isWrite := false, off := off, len := len, data := [], meet := .none }

/-- Configuration space as a reset of the link leaves it (R214): no enable, no mask bit, D0, a payload of 128 bytes and read requests of
512 (PRESUMED, PCI Express Base 3.0; log entry 15), and every MSI-X vector masked and not pending. -/
def cfgReset (s : State) : State :=
  let b := s.brg
  let s1 := setBrg { s with intr := { s.intr with pba := 0#64 } } { b with msix := [], phCred := 0, pdCred := 0, nhCred := 0, bars := [] }
  let s2 := setF (setF s1 Pg.brg F.BRG_LINK_STAT_SPEED 0) Pg.brg F.BRG_LINK_STAT_WIDTH 0
  let s3 := setB (setB (setB s2 Pg.brg F.BRG_LINK_STAT_BME false) Pg.brg F.BRG_LINK_STAT_MSE false) Pg.brg F.BRG_LINK_STAT_MSIX_EN false
  let s4 := setB (setB s3 Pg.brg F.BRG_LINK_STAT_FMASK false) Pg.brg F.BRG_LINK_STAT_D3 false
  setF (setF s4 Pg.brg F.BRG_LINK_STAT_MPS 0) Pg.brg F.BRG_LINK_STAT_MRRS 2

/-- The PCIe link goes down, or its reset comes (R188, R214): what the bridge holds ends, and LINK_CFG takes effect. -/
def pcieDown (s : State) : State :=
  let s1 := if brgUp s then irqEvent (setB (brgReset s false St.aborted 0) Pg.brg F.BRG_LINK_STAT_UP false) Pg.brg 5 else s
  let s2 := cfgReset s1
  setBrg s2 { s2.brg with linkCfg := getW s2 Pg.brg 0x48 }

/-- The PCIe link has trained (R185): only after start-up has passed step 8, and not while PCIE_PERST_N is low (R471). -/
def pcieUp (s : State) (speed width : Nat) : State :=
  if brgUp s || s.brg.perst || decide (getF s Pg.rst F.RST_STAT_STEP < 9) then s
  else
    let top := wordBits s.brg.linkCfg 0 2
    let lanes := if wordBits s.brg.linkCfg 2 1 = 1 then 1 else 2
    irqEvent (setB (setF (setF s Pg.brg F.BRG_LINK_STAT_SPEED (max 1 (min speed top))) Pg.brg F.BRG_LINK_STAT_WIDTH (max 1 (min width lanes)))
      Pg.brg F.BRG_LINK_STAT_UP true) Pg.brg 5

/-- The bits of a base address register that the host can write: those above the size of its BAR (R187). -/
def barMask (s : State) (n : Nat) : Nat :=
  let low (b : Nat) : Nat := 2 ^ 32 - 2 ^ min 32 b
  if n = 0 then low 24 else if n = 2 then low (bar2Log2 s) else if n = 3 then low (bar2Log2 s - 32) else if n = 4 then low 13 else 2 ^ 32 - 1

/-- The bits of a base address register that read as its kind: 64-bit memory, and whether it is prefetchable. -/
def barKind (s : State) (n : Nat) : Nat := if n % 2 = 1 then 0 else if n = 2 then 4 + 8 * wordBits s.brg.linkCfg 14 1 else 4

/-- Base address register `n` as a configuration read shows it. -/
def barWord (s : State) (n : Nat) : Word := ((tabGet s.brg.bars n).getD 0#32 &&& BitVec.ofNat 32 (barMask s n)) ||| BitVec.ofNat 32 (barKind s n)

/-- A word of configuration space (R185 to R187): the header, then Power Management, MSI-X, PCI Express and Advanced Error Reporting.
The layout is that of PCI Express Base 3.0, and the places of the capabilities are the model's (PRESUMED, log entry 155). -/
def cfgWord (s : State) (off : Nat) : Word :=
  let f (fd : FieldD) (sh : Nat) : Nat := getF s Pg.brg fd * 2 ^ sh
  let w (n : Nat) : Word := BitVec.ofNat 32 n
  if off = 0x00 then shownWord s Pg.brg 0x40
  else if off = 0x04 then w (0x100000 + f F.BRG_LINK_STAT_MSE 1 + f F.BRG_LINK_STAT_BME 2)
  else if off = 0x08 then 0x08800000#32
  else if 0x10 ≤ off ∧ off < 0x28 then barWord s ((off - 0x10) / 4)
  else if off = 0x2C then getW s Pg.brg 0x44
  else if off = 0x34 then 0x40#32
  else if off = 0x40 then 0x00035001#32
  else if off = 0x44 then w (3 * getF s Pg.brg F.BRG_LINK_STAT_D3)
  else if off = 0x50 then w (0x003F7011 + f F.BRG_LINK_STAT_FMASK 30 + f F.BRG_LINK_STAT_MSIX_EN 31)
  else if off = 0x54 then 0x00000004#32
  else if off = 0x58 then 0x00001004#32
  else if off = 0x70 then 0x00020010#32
  else if off = 0x74 then 0x00000001#32
  else if off = 0x78 then w (f F.BRG_LINK_STAT_MPS 5 + f F.BRG_LINK_STAT_MRRS 12)
  else if off = 0x7C then w (wordBits s.brg.linkCfg 0 2 + 16 * (if wordBits s.brg.linkCfg 2 1 = 1 then 1 else 2))
  else if off = 0x80 then w (f F.BRG_LINK_STAT_SPEED 16 + f F.BRG_LINK_STAT_WIDTH 20)
  else if off = 0x100 then 0x00020001#32
  else 0#32

/-- A word of BAR4: the MSI-X table from 0x0000, the pending-bit array at 0x1000 (R187, R213). -/
def bar4Word (s : State) (off : Nat) : Word :=
  if off < 0x400 then msixWord s (off / 16) (off % 16 / 4)
  else if off = 0x1000 then s.intr.pba.setWidth 32
  else if off = 0x1004 then (s.intr.pba >>> 32).setWidth 32
  else 0#32

/-- A host request to configuration space or to BAR4, where it can arrive (R186, R187, R213). A payload above 256 bytes and a read
request size without a meaning leave their fields as they were. -/
def cfgWrite (s : State) (w : CfgWrite) : State :=
  if !brgUp s then s
  else match w with
    | .command mse bme => setB (setB s Pg.brg F.BRG_LINK_STAT_MSE mse) Pg.brg F.BRG_LINK_STAT_BME bme
    | .devCtl mps mrrs =>
      let s1 := if mps ≤ 1 then setF s Pg.brg F.BRG_LINK_STAT_MPS mps else s
      if mrrs ≤ 5 then setF s1 Pg.brg F.BRG_LINK_STAT_MRRS mrrs else s1
    | .msixCtl enable fmask => setB (setB s Pg.brg F.BRG_LINK_STAT_MSIX_EN enable) Pg.brg F.BRG_LINK_STAT_FMASK fmask
    | .power d3 => setB s Pg.brg F.BRG_LINK_STAT_D3 d3
    | .table entry word value =>
      if barsOpen s && postedRoom s 4 && decide (entry < 64) && decide (word < 4) then
        setBrg s { s.brg with msix := tabSet s.brg.msix (4 * entry + word) value }
      else s
    | .bar n value => if n < 6 then setBrg s { s.brg with bars := tabSet s.brg.bars n value } else s
    | .read ptag off => emit s (.cpl ptag 0 (leBytes 4 (cfgWord s (off / 4 * 4)).toNat))
    | .tableRead ptag off => if barsOpen s && readRoom s then emit s (.cpl ptag 0 (leBytes 4 (bar4Word s (off / 4 * 4)).toNat)) else s

/-- The host returns flow-control credits (R211); what waits for them goes on as the step settles. -/
def creditsIn (s : State) (posted postedData nonPosted : Nat) : State :=
  if brgUp s then
    setBrg s { s.brg with phCred := s.brg.phCred + posted, pdCred := s.brg.pdCred + postedData, nhCred := s.brg.nhCred + nonPosted }
  else s

/-- A read of an inbound transaction has waited too long for its completion (R211). -/
def inboundLate (s : State) (ctx : Nat) : State :=
  match s.brg.ibTxns.find? (·.ctx == ctx) with
  | some t => if t.reads.isEmpty then s else ibFail s ctx 0x43
  | none => s

/-- An inbound transaction has waited too long for the credit of its first TLP (R211). -/
def inboundUncredited (s : State) (ctx : Nat) : State :=
  match s.brg.ibTxns.find? (·.ctx == ctx) with
  | some t => if t.begun then s else ibFail s ctx 0x44
  | none => s

/-- CPL_TO expires for an inbound read; a host completion of it that meets the expiry wins (R211). -/
def inboundMeet (s : State) (ctx : Nat) (meet : Option HostCpl) : State :=
  match meet with
  | none => inboundLate s ctx
  | some c =>
    let s1 := hostCompletion s c.tag c.status c.data c.poisoned
    if s.brg.ibTxns.any fun t => t.ctx == ctx && t.reads.any (·.tag == c.tag) then s1 else inboundLate s1 ctx

/-- TIMEOUT expires for a host read; a piece's completion that meets the expiry wins (R202, R203). -/
def readTimeoutMeet (s : State) (ptag : Nat) (meet : Bool) : State :=
  hostReadTimeout (if meet then closingsOut (cplRx s) else s) ptag

/-- PF_LIFE expires for a line; a demand hit that meets it comes first (R207, R208). -/
def lineExpireMeet (s : State) (win start : Nat) (meet : Option HostReq) : State :=
  lineExpire (match meet with | some r => hostRead s r.ptag r.off r.enables | none => s) win start

/-- BAR0_ACCESS (R189). -/
def execBar0Access (ptag off len : Nat) (data : Option (List Byte)) (s : State) : Host.Outcome State Fault Refusal :=
  .next (during s fun a => bar0 a ptag off len data)

/-- HOST_WRITE (R196). -/
def execHostWrite (off : Nat) (bytes : List (Option Byte)) (s : State) : Host.Outcome State Fault Refusal :=
  .next (during s fun a => hostWrite a off bytes)

/-- HOST_READ (R195). -/
def execHostRead (ptag off : Nat) (enables : List Bool) (s : State) : Host.Outcome State Fault Refusal :=
  .next (during s fun a => hostRead a ptag off enables)

/-- HOST_FLUSH_READ (R198). -/
def execHostFlushRead (ptag off : Nat) (s : State) : Host.Outcome State Fault Refusal :=
  .next (during s fun a => hostFlush a ptag off)

/-- HOST_READ_TIMEOUT (R202). -/
def execHostReadTimeout (ptag : Nat) (s : State) (meet : Bool := false) : Host.Outcome State Fault Refusal :=
  .next (during s fun a => readTimeoutMeet a ptag meet)

/-- PREFETCH_LINE_EXPIRE (R207). -/
def execPrefetchLineExpire (win start : Nat) (s : State) (meet : Option HostReq := none) : Host.Outcome State Fault Refusal :=
  .next (during s fun a => lineExpireMeet a win start meet)

/-- OB_CTL_WRITE (R191). -/
def execObCtlWrite (who : Agent) (w : Nat) (value : Word) (s : State) : Host.Outcome State Fault Refusal :=
  .next (during s fun a => if w < 16 then ownWrite a who Pg.win (0x110 + 64 * w) value else a)

/-- IB_CTL_WRITE (R209). -/
def execIbCtlWrite (who : Agent) (k : Nat) (value : Word) (s : State) : Host.Outcome State Fault Refusal :=
  .next (during s fun a => if k < 8 then ownWrite a who Pg.win (0x610 + 32 * k) value else a)

/-- HOST_COMPLETION_RX (R210). -/
def execHostCompletionRx (tag status : Nat) (data : List Byte) (poisoned : Bool) (s : State) : Host.Outcome State Fault Refusal :=
  .next (during s fun a => hostCompletion a tag status data poisoned)

/-- INBOUND_CPL_TIMEOUT (R211). -/
def execInboundCplTimeout (ctx : Nat) (s : State) (meet : Option HostCpl := none) : Host.Outcome State Fault Refusal :=
  .next (during s fun a => inboundMeet a ctx meet)

/-- INBOUND_CREDIT_TIMEOUT (R211). -/
def execInboundCreditTimeout (ctx : Nat) (s : State) : Host.Outcome State Fault Refusal :=
  .next (during s fun a => inboundUncredited a ctx)

/-- ERRLOG_POP (R215). -/
def execErrlogPop (who : Agent) (s : State) : Host.Outcome State Fault Refusal :=
  .next (during s fun a => ownRead a who Pg.brg 0x60)

/-- SPECLOSS_POP (R215). -/
def execSpeclossPop (who : Agent) (s : State) : Host.Outcome State Fault Refusal :=
  .next (during s fun a => ownRead a who Pg.brg 0x74)

/-- PCIE_LINK_CHANGE (R214). -/
def execPcieLinkChange (ev : LinkEvent) (s : State) : Host.Outcome State Fault Refusal :=
  .next (during s fun a =>
    match ev with
    | .up speed width => pcieUp a speed width
    | .down => pcieDown a
    | .hotReset => pcieDown a)

/-- PCIE_PERST (R471). -/
def execPciePerst (low : Bool) (s : State) : Host.Outcome State Fault Refusal :=
  .next (during s fun a => if low then pcieDown (setBrg a { a.brg with perst := true }) else setBrg a { a.brg with perst := false })

/-- PCIE_CONFIG_WRITE (R213). -/
def execPcieConfigWrite (w : CfgWrite) (s : State) : Host.Outcome State Fault Refusal :=
  .next (during s fun a => cfgWrite a w)

/-- HOST_CREDIT_UPDATE (R211). -/
def execHostCreditUpdate (posted postedData nonPosted : Nat) (s : State) : Host.Outcome State Fault Refusal :=
  .next (during s fun a => creditsIn a posted postedData nonPosted)

end Sys2Proof.Machine
end

