-- ==== Sys2Proof/Machine/RowsPage.lean ====
section
/-! DEFINITION. Rows of every page, its interrupts and its handshakes (spec/01, spec/03; R9, R27 to R30, R54 to R58, R64, R213). -/

namespace Sys2Proof.Machine

/-- PAGE_CTL of a page with one of its bits as a write gives it. -/
def pageCtlWith (s : State) (p bit : Nat) (b : Bool) : Word := wordPut (getW s p 0x08 &&& ~~~2#32) bit 1 (if b then 1 else 0)

/-- REGISTER_WRITE (R9): a write by an agent goes to its page, where its access codes, the lock and the range checks apply. -/
def execRegisterWrite (who : Agent) (page off : Nat) (bytes : List Byte) (hw : RegMeet) (s : State) : Host.Outcome State Fault Refusal :=
  .next (during s fun a => busWrite a who page off bytes hw)

/-- ERR_COUNT_READ (R58): errors that meet the read count after it (R58). -/
def execErrCountRead (who : Agent) (page : Nat) (meet : List ErrNote) (s : State) : Host.Outcome State Fault Refusal :=
  .next (during s fun a => if pageAssigned page then meet.foldl (fun b e => recordErr b page e) (ownRead a who page 0x20) else ownRead a who page 0x20)

/-- RC_COUNTER_READ (R9): the read returns the register and clears its RC fields. -/
def execRcCounterRead (who : Agent) (page off : Nat) (s : State) : Host.Outcome State Fault Refusal :=
  .next (during s fun a => ownRead a who page off)

/-- BLOCK_RESET (R55). -/
def execBlockReset (who : Agent) (page : Nat) (s : State) : Host.Outcome State Fault Refusal :=
  .next (during s fun a => ownWrite a who page 0x08 (getW a page 0x08 ||| 2#32))

/-- BLOCK_RESET_DONE (R55). -/
def execBlockResetDone (page : Nat) (s : State) : Host.Outcome State Fault Refusal :=
  .next (during s fun a => if pageBusyState a page = 2 then blockResetEnd a page else a)

/-- PAGE_ENABLE_WRITE (R54). -/
def execPageEnableWrite (who : Agent) (page : Nat) (on : Bool) (s : State) : Host.Outcome State Fault Refusal :=
  .next (during s fun a => ownWrite a who page 0x08 (pageCtlWith a page 0 on))

/-- FREEZE_WRITE (R56). -/
def execFreezeWrite (who : Agent) (page : Nat) (on : Bool) (s : State) : Host.Outcome State Fault Refusal :=
  .next (during s fun a => ownWrite a who page 0x08 (pageCtlWith a page 2 on))

/-- IRQ_EN_WRITE (R57). -/
def execIrqEnWrite (who : Agent) (page : Nat) (value : Word) (s : State) : Host.Outcome State Fault Refusal :=
  .next (during s fun a => ownWrite a who page 0x14 value)

/-- INT_EOI (R64): a source that meets the write fires the vector once (R64). -/
def execIntEoi (who : Agent) (vector : Nat) (meet : Option (Nat × Nat)) (s : State) : Host.Outcome State Fault Refusal :=
  .next (during s fun a =>
    match meet with
    | none => ownWrite a who Pg.int 0x44 (BitVec.ofNat 32 (vector % 64))
    | some m =>
      let r := nextAcc a
      accEnd (eoi r.2 (vector % 64) (if pageAssigned m.1 && m.2 < irqCount m.1 then some m else none)) who r.1 St.ok 0 []
        (accExec 2 Pg.int 0x44 4 []))

/-- MSIX_PENDING_SEND (R213). -/
def execMsixPendingSend (vector : Nat) (s : State) : Host.Outcome State Fault Refusal :=
  .next (during s fun a => if vector < 64 then msixHeld a vector else a)

/-- WATCH_MEASURE (R27). -/
def execWatchMeasure (ringDev fieldDev : Int) (s : State) : Host.Outcome State Fault Refusal :=
  .next (during s fun a => watchMeasure a ringDev fieldDev)

/-- HANDSHAKE_TIMEOUT (R29): with `ack`, the acknowledge comes in the same step and wins (R30). -/
def execHandshakeTimeout (page : Nat) (cls : HsClass) (ack : Bool) (s : State) : Host.Outcome State Fault Refusal :=
  .next (during s fun a => handshakeExpire a page cls ack)

/-- LATE_ACKNOWLEDGE (R30): the acknowledge is discarded with its data: nothing changes. -/
def execLateAcknowledge (_page : Nat) (_data : List Byte) (s : State) : Host.Outcome State Fault Refusal :=
  .next (during s fun a => a)

end Sys2Proof.Machine
end

