-- ==== Sys2Proof/Machine/RowsPair.lean ====
section
/-! DEFINITION. Rows of the redundant pair, its mirror and its witness (spec/18; R355 to R384). -/

namespace Sys2Proof.Machine

/-- LEASE_RENEW (R363). -/
def execLeaseRenew (s : State) : Host.Outcome State Fault Refusal :=
  .next (during s fun a => leaseRenew a)

/-- LEASE_LAPSE (R363). -/
def execLeaseLapse (s : State) : Host.Outcome State Fault Refusal :=
  .next (during s fun a => leaseLapse a)

/-- LEASE_REQUEST (R364). -/
def execLeaseRequest (s : State) : Host.Outcome State Fault Refusal :=
  .next (during s fun a => leaseRequest a)

/-- CONSENT_PROMISE_END (R360). -/
def execConsentPromiseEnd (s : State) : Host.Outcome State Fault Refusal :=
  .next (during s fun a => promiseEnd a)

/-- GRANT_RX (R375); `bad` are the records of the mirror log that the takeover finds unreadable (R377). -/
def execGrantRx (s : State) (bad : List (Bool × Nat × Nat) := []) : Host.Outcome State Fault Refusal :=
  .next (during s fun a => grantIn a bad)

/-- RENEWED_RX (R360). -/
def execRenewedRx (s : State) : Host.Outcome State Fault Refusal :=
  .next (during s fun a => renewedIn a)

/-- DENY_RX (R365). -/
def execDenyRx (s : State) : Host.Outcome State Fault Refusal :=
  .next (during s fun a => denyIn a)

/-- WITNESS_REQUEST_RX (R366). -/
def execWitnessRequestRx (s : State) : Host.Outcome State Fault Refusal :=
  .next (during s fun a => witnessIn a 1)

/-- WITNESS_RENEW_RX (R366). -/
def execWitnessRenewRx (s : State) : Host.Outcome State Fault Refusal :=
  .next (during s fun a => witnessIn a 3)

/-- WITNESS_RELEASE_RX (R366). -/
def execWitnessReleaseRx (s : State) : Host.Outcome State Fault Refusal :=
  .next (during s fun a => witnessIn a 6)

/-- WITNESS_LEASE_EXPIRE (R366). -/
def execWitnessLeaseExpire (slot : Nat) (s : State) : Host.Outcome State Fault Refusal :=
  .next (during s fun a => witExpire a slot)

/-- WITNESS_SLOT_FREE (R366). -/
def execWitnessSlotFree (slot : Nat) (s : State) : Host.Outcome State Fault Refusal :=
  .next (during s fun a => witFree a slot)

/-- WITNESS_START_HOLD_END (R366). -/
def execWitnessStartHoldEnd (s : State) : Host.Outcome State Fault Refusal :=
  .next (during s fun a => setPair a { a.pair with startHold := false })

/-- MIRROR_SEND (R368). -/
def execMirrorSend (s : State) : Host.Outcome State Fault Refusal :=
  .next (during s fun a => mirrorSend a false)

/-- MIRROR_FRAME_RX (R369). -/
def execMirrorFrameRx (frame : Frame) (ecc : Bool) (s : State) : Host.Outcome State Fault Refusal :=
  .next (during s fun a => mirrorIn a frame ecc)

/-- MIRROR_LOST_TIMEOUT (R368). -/
def execMirrorLostTimeout (s : State) : Host.Outcome State Fault Refusal :=
  .next (during s fun a => mirrorTimeout a)

/-- MIRROR_COPY_DONE (R371). -/
def execMirrorCopyDone (s : State) : Host.Outcome State Fault Refusal :=
  .next (during s fun a => copyDone a)

/-- MIRROR_FIELD_TIMER (R369). -/
def execMirrorFieldTimer (s : State) : Host.Outcome State Fault Refusal :=
  .next (during s fun a => fieldNotes a)

/-- MIRROR_TOKEN_TIMER (R369). -/
def execMirrorTokenTimer (s : State) : Host.Outcome State Fault Refusal :=
  .next (during s fun a => tokenNotes a)

/-- PAIR_HANDOVER (R379). -/
def execPairHandover (who : Agent) (s : State) : Host.Outcome State Fault Refusal :=
  .next (during s fun a => ownWrite a who Pg.par 0x60 1#32)

/-- HANDOVER_RELEASE (R379). -/
def execHandoverRelease (s : State) : Host.Outcome State Fault Refusal :=
  .next (during s fun a => handoverRelease a)

/-- REVERT_HOLDOFF (R380). -/
def execRevertHoldoff (s : State) : Host.Outcome State Fault Refusal :=
  .next (during s fun a => revertAsk a)

/-- PAIR_PROVE (R383): without an agent, the PROVE_MIN timer has expired (R383). -/
def execPairProve (who : Option Agent) (s : State) : Host.Outcome State Fault Refusal :=
  .next (during s fun a =>
    match who with
    | some w => ownWrite a w Pg.par 0x60 2#32
    | none => parCmd a 2#32)

/-- PROVE_DONE (R383). -/
def execProveDone (memFail analogFail digestFail : Bool) (s : State) : Host.Outcome State Fault Refusal :=
  .next (during s fun a => proveEnd a memFail analogFail digestFail)

/-- PAIR_ANNOUNCE_SEND (R356). -/
def execPairAnnounceSend (s : State) : Host.Outcome State Fault Refusal :=
  .next (during s fun a => pairAnnounce a)

end Sys2Proof.Machine
end

