-- ==== Sys2Proof/Machine/RowsPins.lean ====
section
/-! DEFINITION. Rows of the pins, the discrete inputs and outputs and the sequence of events (spec/17; R343 to R354). -/

namespace Sys2Proof.Machine

/-- PIN_CFG_WRITE (R344). -/
def execPinCfgWrite (who : Agent) (p : Nat) (value : Word) (s : State) : Host.Outcome State Fault Refusal :=
  .next (during s fun a => if p < 192 then ownWrite a who Pg.pin (0x100 + 4 * p) value else a)

/-- DI_RAW_EDGE (R347). -/
def execDiRawEdge (p : Nat) (level : Bool) (s : State) : Host.Outcome State Fault Refusal :=
  .next (during s fun a => if p < 192 then ballLevel a p level else a)

/-- DI_GLITCH_PASS (R346). -/
def execDiGlitchPass (p : Nat) (s : State) : Host.Outcome State Fault Refusal :=
  .next (during s fun a => if p < 192 then diGlitch a p else a)

/-- DI_DEBOUNCE_ACCEPT (R346). -/
def execDiDebounceAccept (p : Nat) (s : State) : Host.Outcome State Fault Refusal :=
  .next (during s fun a => if p < 192 then diDebounce a p else a)

/-- DI_STAMP_DISCARD (R347). -/
def execDiStampDiscard (p : Nat) (s : State) : Host.Outcome State Fault Refusal :=
  .next (during s fun a => if p < 192 then diDiscard a p else a)

/-- CHATTER_RELEASE (R349). -/
def execChatterRelease (p : Nat) (s : State) : Host.Outcome State Fault Refusal :=
  .next (during s fun a => if p < 192 then diRelease a p else a)

/-- CHATTER_WINDOW_LEAVE (R349). -/
def execChatterWindowLeave (p : Nat) (s : State) : Host.Outcome State Fault Refusal :=
  .next (during s fun a => if p < 192 then diWindowLeave a p else a)

/-- DO_WRITE (R350). -/
def execDoWrite (who : Agent) (k : Nat) (value : Word) (s : State) : Host.Outcome State Fault Refusal :=
  .next (during s fun a => if k < 6 then ownWrite a who Pg.dis (0xA0 + 4 * k) value else a)

/-- RB_MISMATCH (R350). -/
def execRbMismatch (p : Nat) (s : State) : Host.Outcome State Fault Refusal :=
  .next (during s fun a => if p < 192 then rbMismatchEvent a p else a)

/-- SOE_RD_WRITE (R353). -/
def execSoeRdWrite (who : Agent) (value : Word) (s : State) : Host.Outcome State Fault Refusal :=
  .next (during s fun a => ownWrite a who Pg.soe 0x44 value)

end Sys2Proof.Machine
end

