-- ==== Sys2Proof/Machine/RowsPort.lean ====
section
/-! DEFINITION. Rows of the ring ports, the switch's walker, HSR, RedBox and the nodes of the ring (spec/05, spec/06; R66 to R99, R156, R483). -/

namespace Sys2Proof.Machine

/-- The FEC counters of a port gain what a frame brought (R67). -/
def fecCount (s : State) (p : Port) (rx : RxMeta) : State :=
  if !isEthPort p then s
  else
    let s1 := if rx.fecCorr = 0 then s else bump s (portPage p) F.PORT_FEC_CORR rx.fecCorr
    if rx.fecUncorr = 0 then s1 else irqEvent (bump s1 (portPage p) F.PORT_FEC_UNCORR rx.fecUncorr) (portPage p) 4

/-- PORT_CFG_WRITE (R69). -/
def execPortCfgWrite (who : Agent) (port : Nat) (value : Word) (s : State) : Host.Outcome State Fault Refusal :=
  .next (during s fun a => if port < 4 then ownWrite a who (Pg.port port) 0x40 value else a)

/-- SIGNAL_LOCK_CHANGE (R68). -/
def execSignalLockChange (port : Port) (signal pcs fec : Bool) (speed : Nat) (s : State) : Host.Outcome State Fault Refusal :=
  .next (during s fun a => lockChange a port signal pcs fec speed)

/-- LINK_UP (R68): ports come UP only once start-up has passed step 9 (R409). -/
def execLinkUp (port : Port) (s : State) : Host.Outcome State Fault Refusal :=
  .next (during s fun a => if 10 ≤ getF a Pg.rst F.RST_STAT_STEP then linkUp a port else a)

/-- LINK_DOWN (R68). -/
def execLinkDown (port : Port) (s : State) : Host.Outcome State Fault Refusal :=
  .next (during s fun a => linkDown a port)

/-- WALK_DONE (R156). -/
def execWalkDone (s : State) : Host.Outcome State Fault Refusal :=
  .next (during s fun a => walkDone a)

/-- LEAK_SWEEP (R156). -/
def execLeakSweep (who : Agent) (s : State) : Host.Outcome State Fault Refusal :=
  .next (during s fun a => ownWrite a who Pg.buf 0x78 1#32)

/-- HSR_FRAME_RX (R71). -/
def execHsrFrameRx (port : Port) (frame : Frame) (rx : RxMeta) (s : State) : Host.Outcome State Fault Refusal :=
  .next (during s fun a => hsrRx (fecCount a port rx) port frame rx)

/-- DD_ENTRY_EXPIRE (R72). -/
def execDdEntryExpire (smac seq : Nat) (sub : Bool) (s : State) : Host.Outcome State Fault Refusal :=
  .next (during s fun a => ddExpire a smac seq sub)

/-- REDBOX_FRAME_RX (R74). -/
def execRedboxFrameRx (port : Port) (frame : Frame) (s : State) : Host.Outcome State Fault Refusal :=
  .next (during s fun a => redboxRx a port frame)

/-- PROXY_EXPIRE (R74). -/
def execProxyExpire (mac : Nat) (s : State) : Host.Outcome State Fault Refusal :=
  .next (during s fun a => proxyExpire a mac)

/-- HSR_SUPERVISION_SEND (R73). -/
def execHsrSupervisionSend (s : State) : Host.Outcome State Fault Refusal :=
  .next (during s fun a => supervisionSend a)

/-- HELLO_SEND (R77). -/
def execHelloSend (s : State) : Host.Outcome State Fault Refusal :=
  .next (during s fun a => helloSend a)

/-- HELLO_RX (R77). -/
def execHelloRx (port : Port) (frame : Frame) (s : State) : Host.Outcome State Fault Refusal :=
  .next (during s fun a => helloIn a port frame)

/-- HELLO_TIMEOUT (R77). -/
def execHelloTimeout (port : Port) (s : State) : Host.Outcome State Fault Refusal :=
  .next (during s fun a => helloGone a port)

/-- VER_EN_WRITE (R86). -/
def execVerEnWrite (who : Agent) (value : Word) (s : State) : Host.Outcome State Fault Refusal :=
  .next (during s fun a => ownWrite a who Pg.kvl 0x44 value)

/-- ANNOUNCE_SEND (R88). -/
def execAnnounceSend (s : State) : Host.Outcome State Fault Refusal :=
  .next (during s fun a => announceOut a)

/-- ANNOUNCE_RX (R90). -/
def execAnnounceRx (s : State) : Host.Outcome State Fault Refusal :=
  .next (during s fun a => announceIn a)

/-- NODE_LOSS (R90). -/
def execNodeLoss (sub : Bool) (node : Nat) (s : State) : Host.Outcome State Fault Refusal :=
  .next (during s fun a => nodeGone a sub node)

/-- CHG_POP (R91). -/
def execChgPop (who : Agent) (s : State) : Host.Outcome State Fault Refusal :=
  .next (during s fun a => ownRead a who Pg.nod 0x64)

/-- NODE_NUMBER_WRITE (R483). -/
def execNodeNumberWrite (who : Agent) (value : Word) (s : State) : Host.Outcome State Fault Refusal :=
  .next (during s fun a => ownWrite a who Pg.nod 0x40 value)

/-- RB_CTL_WRITE (R99). -/
def execRbCtlWrite (who : Agent) (k : Nat) (value : Word) (s : State) : Host.Outcome State Fault Refusal :=
  .next (during s fun a => if k < 16 then ownWrite a who Pg.nod (0x104 + 8 * k) value else a)

/-- COUPLER_FORWARD (R95). -/
def execCouplerForward (s : State) : Host.Outcome State Fault Refusal :=
  .next (during s fun a => couplerStep a)

/-- REACH_EXPIRE (R92). -/
def execReachExpire (sub : Bool) (node : Nat) (port : Port) (s : State) : Host.Outcome State Fault Refusal :=
  .next (during s fun a => reachGone a sub node port)

end Sys2Proof.Machine
end

