-- ==== Sys2Proof/Machine/RowsPower.lean ====
section
/-! DEFINITION. Rows of power entry, the power-fail warning and the monitors (spec/18, spec/19; R386 to R403). The VIN domain runs while the
rest of the hub is held in reset. -/

namespace Sys2Proof.Machine

/-- VIN_DOMAIN_START (R387). -/
def execVinDomainStart (s : State) : Host.Outcome State Fault Refusal :=
  .next (anytime s fun a => vinStart a)

/-- VIN_UVLO (R387): the board is then without power, and the hub in reset (R387, R405). -/
def execVinUvlo (s : State) : Host.Outcome State Fault Refusal :=
  .next (anytime s fun a => if a.pwr.run then resetEnter (vinUvlo a) else a)

/-- GATE_RAMP_START (R388). -/
def execGateRampStart (s : State) : Host.Outcome State Fault Refusal :=
  .next (anytime s fun a => rampStart a)

/-- CURRENT_LIMIT_ENTER (R389). -/
def execCurrentLimitEnter (s : State) : Host.Outcome State Fault Refusal :=
  .next (anytime s fun a => limitEnter a)

/-- CURRENT_LIMIT_EXIT (R389). -/
def execCurrentLimitExit (s : State) : Host.Outcome State Fault Refusal :=
  .next (anytime s fun a => limitExit a)

/-- FAULT_TIMER_TRIP (R389). -/
def execFaultTimerTrip (s : State) : Host.Outcome State Fault Refusal :=
  .next (anytime s fun a => timerTrip a)

/-- FAST_TRIP (R390). -/
def execFastTrip (s : State) : Host.Outcome State Fault Refusal :=
  .next (anytime s fun a => fastTrip a)

/-- RETRY_OFF_END (R391). -/
def execRetryOffEnd (s : State) : Host.Outcome State Fault Refusal :=
  .next (anytime s fun a => retryEnd a)

/-- RETRIES_RESTORE (R391). -/
def execRetriesRestore (s : State) : Host.Outcome State Fault Refusal :=
  .next (anytime s fun a => retriesRestore a)

/-- OVER_VOLTAGE (R392). -/
def execOverVoltage (s : State) : Host.Outcome State Fault Refusal :=
  .next (anytime s fun a => overVolt a)

/-- OVER_VOLTAGE_END (R392). -/
def execOverVoltageEnd (s : State) : Host.Outcome State Fault Refusal :=
  .next (anytime s fun a => overVoltEnd a)

/-- THERMAL_GATE_OFF (R392). -/
def execThermalGateOff (s : State) : Host.Outcome State Fault Refusal :=
  .next (anytime s fun a => thermalOff a)

/-- THERMAL_RECOVER (R392). -/
def execThermalRecover (s : State) : Host.Outcome State Fault Refusal :=
  .next (anytime s fun a => thermalRecover a)

/-- GATE_FAULT (R393). -/
def execGateFault (s : State) : Host.Outcome State Fault Refusal :=
  .next (anytime s fun a => gateFault a)

/-- GATE_WEAK (R393). -/
def execGateWeak (s : State) : Host.Outcome State Fault Refusal :=
  .next (anytime s fun a => gateWeak a)

/-- DS_SHORT (R394). -/
def execDsShort (s : State) : Host.Outcome State Fault Refusal :=
  .next (anytime s fun a => dsShort a)

/-- PG_ASSERT (R395). -/
def execPgAssert (s : State) : Host.Outcome State Fault Refusal :=
  .next (anytime s fun a => pgAssert a)

/-- PFW_ASSERT (R397). -/
def execPfwAssert (s : State) : Host.Outcome State Fault Refusal :=
  .next (anytime s fun a => vinLow a)

/-- CHECKPOINT_DONE (R127). -/
def execCheckpointDone (s : State) : Host.Outcome State Fault Refusal :=
  .next (during s fun a => checkpointDone a)

/-- PFW_RELEASE (R398). -/
def execPfwRelease (s : State) : Host.Outcome State Fault Refusal :=
  .next (anytime s fun a => pfwEnd a)

/-- PWR_BURN (R387). -/
def execPwrBurn (who : Agent) (value : Word) (s : State) : Host.Outcome State Fault Refusal :=
  .next (during s fun a => ownWrite a who Pg.pwr 0x5C value)

/-- MONITOR_SCAN (R403). -/
def execMonitorScan (values : List Nat) (s : State) : Host.Outcome State Fault Refusal :=
  .next (anytime s fun a => monScan a values)

end Sys2Proof.Machine
end

