-- ==== Sys2Proof/Machine/RowsSerial.lean ====
section
/-! DEFINITION. Rows of the serial ports and of the pushes of field endpoints (spec/14; R264 to R282). -/

namespace Sys2Proof.Machine

/-- SERIAL_CHAR_RX (R272). -/
def execSerialCharRx (n data : Nat) (parityErr framingErr : Bool) (start : Nat) (startUnsync : Bool) (s : State) : Host.Outcome State Fault Refusal :=
  .next (during s fun a => if n < 32 then serCharRx a n data parityErr framingErr start startUnsync else a)

/-- SERIAL_BREAK (R271). -/
def execSerialBreak (n : Nat) (inChar : Bool) (s : State) : Host.Outcome State Fault Refusal :=
  .next (during s fun a => if n < 32 then serBreak a n inChar else a)

/-- SERIAL_CHAR_TIMEOUT (R271). -/
def execSerialCharTimeout (n : Nat) (s : State) (startBit : Bool := false) : Host.Outcome State Fault Refusal :=
  .next (during s fun a => if n < 32 then serTimeout a n startBit else a)

/-- SERIAL_IDLE (R271). -/
def execSerialIdle (n : Nat) (s : State) : Host.Outcome State Fault Refusal :=
  .next (during s fun a => if n < 32 then serIdle a n else a)

/-- SERIAL_SEALED_ENTER (R273). -/
def execSerialSealedEnter (n : Nat) (s : State) : Host.Outcome State Fault Refusal :=
  .next (during s fun a => if n < 32 then sealedEnter a n else a)

/-- SERIAL_FLUSH (R272). -/
def execSerialFlush (who : Agent) (n : Nat) (s : State) : Host.Outcome State Fault Refusal :=
  .next (during s fun a => if n < 32 then ownWrite a who (Pg.ser n) 0x58 1#32 else a)

/-- SERIAL_TX_BREAK (R271). -/
def execSerialTxBreak (who : Agent) (n : Nat) (s : State) : Host.Outcome State Fault Refusal :=
  .next (during s fun a => if n < 32 then ownWrite a who (Pg.ser n) 0x58 2#32 else a)

/-- SERIAL_RX_CLEAR (R273). -/
def execSerialRxClear (who : Agent) (n : Nat) (s : State) : Host.Outcome State Fault Refusal :=
  .next (during s fun a => if n < 32 then ownWrite a who (Pg.ser n) 0x58 4#32 else a)

/-- SERIAL_TX_CLEAR (R275). -/
def execSerialTxClear (who : Agent) (n : Nat) (s : State) : Host.Outcome State Fault Refusal :=
  .next (during s fun a => if n < 32 then ownWrite a who (Pg.ser n) 0x58 8#32 else a)

/-- SERIAL_TX_START (R269). -/
def execSerialTxStart (n : Nat) (leadOver : Bool) (s : State) : Host.Outcome State Fault Refusal :=
  .next (during s fun a => if n < 32 then serTxStart a n leadOver else a)

/-- SERIAL_CHAR_TX_END (R275). -/
def execSerialCharTxEnd (n : Nat) (s : State) : Host.Outcome State Fault Refusal :=
  .next (during s fun a => if n < 32 then serCharTxEnd a n else a)

/-- SERIAL_DE_RELEASE (R269). -/
def execSerialDeRelease (n : Nat) (s : State) : Host.Outcome State Fault Refusal :=
  .next (during s fun a => if n < 32 then serDeRelease a n else a)

/-- SERIAL_CTS_CHANGE (R270). -/
def execSerialCtsChange (n : Nat) (level : Bool) (s : State) : Host.Outcome State Fault Refusal :=
  .next (during s fun a => if n < 32 then serCts a n level else a)

/-- PUSH_HOLD_EXPIRE (R278). -/
def execPushHoldExpire (ep : Nat) (s : State) : Host.Outcome State Fault Refusal :=
  .next (during s fun a => if ep < 48 then pushHold a ep else a)

/-- PUSH_FORM (R278). -/
def execPushForm (ep : Nat) (s : State) : Host.Outcome State Fault Refusal :=
  .next (during s fun a => if ep < 48 then pushForm a ep else a)

end Sys2Proof.Machine
end

