-- ==== Sys2Proof/Machine/RowsStart.lean ====
section
/-! DEFINITION. Rows of reset, start-up and the drawers (spec/20, spec/21; R405 to R424). -/

namespace Sys2Proof.Machine

/-- PIN_RESET (R405). -/
def execPinReset (s : State) : Host.Outcome State Fault Refusal :=
  .next (anytime s fun a => resetEnter a)

/-- RESET_RELEASE (R409). -/
def execResetRelease (prof : Nat) (s : State) : Host.Outcome State Fault Refusal :=
  .next (anytime s fun a => resetRelease a (prof % 4))

/-- STARTUP_STEP_DONE (R409). -/
def execStartupStepDone (ok : Bool) (errs : List ChestErr) (corrected : Nat) (s : State) (badRecs : List Nat := []) :
    Host.Outcome State Fault Refusal :=
  .next (during s fun a => stepDone a ok errs corrected badRecs)

/-- SERVICE_START (R410). -/
def execServiceStart (s : State) : Host.Outcome State Fault Refusal :=
  .next (during s fun a => serviceStart a)

/-- WARM_RESET (R407). -/
def execWarmReset (who : Agent) (value : Word) (s : State) : Host.Outcome State Fault Refusal :=
  .next (during s fun a => ownWrite a who Pg.gen 0xE0 value)

/-- DRAWER_SWITCH (R417). -/
def execDrawerSwitch (who : Agent) (value : Word) (s : State) : Host.Outcome State Fault Refusal :=
  .next (during s fun a => ownWrite a who Pg.drw 0x44 value)

/-- DRAWER_LOAD_DONE (R417): with `ecc`, a chest word of the drawer is uncorrectable. -/
def execDrawerLoadDone (ecc : Option Nat) (s : State) : Host.Outcome State Fault Refusal :=
  .next (during s fun a => switchLoaded (match ecc with | some addr => chestUncorr a addr | none => a) ecc.isSome)

/-- DRAWER_COMMIT (R417). -/
def execDrawerCommit (s : State) : Host.Outcome State Fault Refusal :=
  .next (during s fun a => switchCommit a)

/-- QUIESCE_TIMEOUT (R418). -/
def execQuiesceTimeout (s : State) : Host.Outcome State Fault Refusal :=
  .next (during s fun a => quiesceTimeout a)

/-- DRAWER_SAVE (R421). -/
def execDrawerSave (who : Agent) (value : Word) (s : State) : Host.Outcome State Fault Refusal :=
  .next (during s fun a => ownWrite a who Pg.drw 0x44 value)

/-- DRAWER_SAVE_DONE (R421). -/
def execDrawerSaveDone (s : State) : Host.Outcome State Fault Refusal :=
  .next (during s fun a => saveDone a)

end Sys2Proof.Machine
end

