-- ==== Sys2Proof/Machine/RowsTest.lean ====
section
/-! DEFINITION. Rows of self-test, the fault log, test access and perturbation (spec/23; R441 to R459). -/

namespace Sys2Proof.Machine

/-- SELFTEST_RUN (R443): without an agent, the PERIOD_MIN timer has expired (R443). -/
def execSelftestRun (who : Option Agent) (s : State) : Host.Outcome State Fault Refusal :=
  .next (during s fun a =>
    match who with
    | some w => ownWrite a w Pg.bst 0x44 1#32
    | none => if getF a Pg.bst F.BST_CTL_PERIOD_MIN = 0 then a else passStart a false)

/-- SELFTEST_PASS_DONE (R443). -/
def execSelftestPassDone (outs : List TestOut) (cells : List Nat) (s : State) : Host.Outcome State Fault Refusal :=
  .next (during s fun a => passDone a outs cells)

/-- OFFLINE_TEST (R447). -/
def execOfflineTest (who : Agent) (value : Word) (s : State) : Host.Outcome State Fault Refusal :=
  .next (during s fun a => ownWrite a who Pg.bst 0x48 value)

/-- OFFLINE_TEST_DONE (R447): the hub is under test and takes no other command until then. -/
def execOfflineTestDone (ringFail fieldFail : Bool) (ringSig fieldSig : Word) (s : State) : Host.Outcome State Fault Refusal :=
  .next (if s.test.offline && !s.start.inReset then anytime s fun a => offlineDone a ringFail fieldFail ringSig fieldSig else { s with out := [] })

/-- FAULT_LOG_POP (R450). -/
def execFaultLogPop (who : Agent) (s : State) : Host.Outcome State Fault Refusal :=
  .next (during s fun a => ownRead a who Pg.bst 0x70)

/-- TEST_UNLOCK_SET (R451). -/
def execTestUnlockSet (who : Agent) (s : State) : Host.Outcome State Fault Refusal :=
  .next (during s fun a => ownWrite a who Pg.prt 0x44 0x7E57#32)

/-- TEST_UNLOCK_CLEAR (R451). -/
def execTestUnlockClear (who : Agent) (s : State) : Host.Outcome State Fault Refusal :=
  .next (during s fun a => ownWrite a who Pg.prt 0x44 0#32)

/-- TEST_UNLOCK_EXPIRE (R451). -/
def execTestUnlockExpire (s : State) : Host.Outcome State Fault Refusal :=
  .next (during s fun a => if testUnlocked a then testUnlockEnd a else a)

/-- PERTURB_WRITE (R452). -/
def execPerturbWrite (who : Agent) (page : Nat) (value : Word) (s : State) : Host.Outcome State Fault Refusal :=
  .next (during s fun a => ownWrite a who page 0x24 value)

/-- TEST_PIN_CHANGE (R455): TEST is followed in the scan states too. -/
def execTestPinChange (level : Bool) (s : State) : Host.Outcome State Fault Refusal :=
  .next (if s.start.inReset then { s with out := [] } else anytime s fun a => testPin a level)

/-- SCAN_GO (R456). -/
def execScanGo (who : Agent) (value : Word) (s : State) : Host.Outcome State Fault Refusal :=
  .next (during s fun a => ownWrite a who Pg.prt 0xC0 value)

/-- ZEROISE_DONE (R457): it ends the state in which the hub takes no other command. -/
def execZeroiseDone (s : State) : Host.Outcome State Fault Refusal :=
  .next (if s.start.inReset then { s with out := [] } else anytime s fun a => zeroiseDone a)

end Sys2Proof.Machine
end

