-- ==== Sys2Proof/Machine/RowsTime.lean ====
section
/-! DEFINITION. Rows of time, stamps, triggers and captures (spec/12; R216 to R244). -/

namespace Sys2Proof.Machine

/-- NOW_LATCH (R218): a read of 4 or 8 bytes at NOW_NS. -/
def execNowLatch (who : Agent) (len : Nat) (s : State) : Host.Outcome State Fault Refusal :=
  .next (during s fun a =>
    let r := nextAcc a
    accRead r.2 who r.1 Pg.tmk 0x48 len false)

/-- REF_LOSS (R219). -/
def execRefLoss (s : State) : Host.Outcome State Fault Refusal :=
  .next (during s fun a => refGone a)

/-- REF_RETURN (R219). -/
def execRefReturn (s : State) : Host.Outcome State Fault Refusal :=
  .next (during s fun a => refBack a)

/-- RESIDENCE_EXPIRE (R225). -/
def execResidenceExpire (s : State) : Host.Outcome State Fault Refusal :=
  .next (during s fun a => residExpire a)

/-- PDELAY_REQ_RX (R226). -/
def execPdelayReqRx (port : Port) (frame : Frame) (s : State) : Host.Outcome State Fault Refusal :=
  .next (during s fun a => pdelayRx a port frame)

/-- MANAGEMENT_FRAME_SEND (R227). -/
def execManagementFrameSend (frame : Frame) (ports : List Port) (oneStep : Bool) (tsReq : Option Nat) (s : State) : Host.Outcome State Fault Refusal :=
  .next (during s fun a => managementSend a frame ports oneStep tsReq)

/-- TSQ_POP (R229). -/
def execTsqPop (who : Agent) (p : Nat) (s : State) : Host.Outcome State Fault Refusal :=
  .next (during s fun a => if p < 4 then ownRead a who Pg.tsq (0x40 + 16 * p) else a)

/-- TIME_SET (R230). -/
def execTimeSet (who : Agent) (s : State) : Host.Outcome State Fault Refusal :=
  .next (during s fun a => ownWrite a who Pg.tmk 0x64 1#32)

/-- TIME_ADJUST (R230). -/
def execTimeAdjust (who : Agent) (value : Word) (s : State) : Host.Outcome State Fault Refusal :=
  .next (during s fun a => ownWrite a who Pg.tmk 0x68 value)

/-- SERVO_SAMPLE (R232): with `meet`, a time step takes effect in the same step (R231). -/
def execServoSample (who : Agent) (value : Word) (meet : Bool) (s : State) : Host.Outcome State Fault Refusal :=
  .next (during s fun a =>
    if meet then
      let r := nextAcc a
      accEnd (servoIn r.2 value true) who r.1 St.ok 0 [] (accExec 2 Pg.tmk 0x70 4 [])
    else ownWrite a who Pg.tmk 0x70 value)

/-- PPS_IN_EDGE (R235): with `meet`, a time step takes effect in the same step (R234). -/
def execPpsInEdge (falling : Bool) (s : State) (meet : Bool := false) : Host.Outcome State Fault Refusal :=
  .next (during s fun a => ppsEdge a falling meet)

/-- SERVO_HOLDOVER (R232): with `meet`, a sample meets the expiry of HOLD and wins (R234). -/
def execServoHoldover (s : State) (meet : Bool := false) : Host.Outcome State Fault Refusal :=
  .next (during s fun a => if meet then a else servoHold a)

/-- PPS_OUT_PULSE (R235). -/
def execPpsOutPulse (s : State) : Host.Outcome State Fault Refusal :=
  .next (during s fun a => ppsPulse a)

/-- TRIGGER_COMMIT (R237). -/
def execTriggerCommit (who : Agent) (t : Nat) (value : Word) (s : State) : Host.Outcome State Fault Refusal :=
  .next (during s fun a => if t < 8 then ownWrite a who Pg.trg (0x114 + 32 * t) value else a)

/-- TRIGGER_EDGE (R238). -/
def execTriggerEdge (t : Nat) (s : State) : Host.Outcome State Fault Refusal :=
  .next (during s fun a => trigEdge a t)

/-- CAPTURE_EDGE (R242). -/
def execCaptureEdge (c : Nat) (rising : Bool) (s : State) : Host.Outcome State Fault Refusal :=
  .next (during s fun a => if c < 8 then capEdge a c rising else a)

/-- CAPTURE_POP (R242). -/
def execCapturePop (who : Agent) (c : Nat) (s : State) : Host.Outcome State Fault Refusal :=
  .next (during s fun a => if c < 8 then ownRead a who Pg.trg (0x404 + 16 * c) else a)

/-- TRIGGER_PULSE_END (R237). -/
def execTriggerPulseEnd (t : Nat) (s : State) : Host.Outcome State Fault Refusal :=
  .next (during s fun a => trigPulseEnd a t)

end Sys2Proof.Machine
end

