-- ==== Sys2Proof/Machine/RowsUpdate.lean ====
section
/-! DEFINITION. Rows of firmware and configuration update, and the owner commands (spec/22; R425 to R440). -/

namespace Sys2Proof.Machine

/-- FWU_STAGE (R430). -/
def execFwuStage (who : Agent) (value : Word) (s : State) : Host.Outcome State Fault Refusal :=
  .next (during s fun a => ownWrite a who Pg.fwu 0x44 value)

/-- FWU_PUSH (R430). -/
def execFwuPush (who : Agent) (off : Nat) (bytes : List Byte) (s : State) : Host.Outcome State Fault Refusal :=
  .next (during s fun a =>
    if off = 0x80 ∨ off = 0x84 then
      let r := nextAcc a
      accWrite r.2 who r.1 Pg.fwu off bytes .none false
    else a)

/-- FWU_PUSH_END (R430). -/
def execFwuPushEnd (who : Agent) (value : Word) (s : State) : Host.Outcome State Fault Refusal :=
  .next (during s fun a => ownWrite a who Pg.fwu 0x88 value)

/-- FWU_STAGING_DONE (R430). -/
def execFwuStagingDone (flash : Bool) (readBack : Option Nat) (s : State) : Host.Outcome State Fault Refusal :=
  .next (during s fun a => fwuStagingDone a flash readBack)

/-- FWU_ACTIVATE (R434). -/
def execFwuActivate (who : Agent) (value : Word) (s : State) : Host.Outcome State Fault Refusal :=
  .next (during s fun a => ownWrite a who Pg.fwu 0x44 value)

/-- FWU_ABORT (R431). -/
def execFwuAbort (who : Agent) (value : Word) (s : State) : Host.Outcome State Fault Refusal :=
  .next (during s fun a => ownWrite a who Pg.fwu 0x44 value)

/-- FWU_APPROVE (R436). -/
def execFwuApprove (who : Agent) (value : Word) (s : State) : Host.Outcome State Fault Refusal :=
  .next (during s fun a => ownWrite a who Pg.fwu 0x74 value)

/-- FWU_CONFIRM (R436). -/
def execFwuConfirm (who : Agent) (value : Word) (s : State) : Host.Outcome State Fault Refusal :=
  .next (during s fun a => ownWrite a who Pg.fwu 0x70 value)

/-- CONFIRM_TIMEOUT (R437). -/
def execConfirmTimeout (s : State) : Host.Outcome State Fault Refusal :=
  .next (during s fun a => confirmTimeout a)

/-- FALLBACK_RETRY (R437). -/
def execFallbackRetry (s : State) : Host.Outcome State Fault Refusal :=
  .next (during s fun a => fallbackRetry a)

/-- UNLOCK_PAGE (R439). -/
def execUnlockPage (who : Agent) (arg : Nat) (sig : List Byte) (s : State) : Host.Outcome State Fault Refusal :=
  .next (during s fun a => ownWrite (ownerFill a 1 arg sig []) who Pg.fwu 0xCC 1#32)

/-- SET_OWNER_LOCK (R439). -/
def execSetOwnerLock (who : Agent) (sig : List Byte) (s : State) : Host.Outcome State Fault Refusal :=
  .next (during s fun a => ownWrite (ownerFill a 2 0 sig []) who Pg.fwu 0xCC 1#32)

/-- CLEAR_OWNER_LOCK (R439). -/
def execClearOwnerLock (who : Agent) (sig : List Byte) (s : State) : Host.Outcome State Fault Refusal :=
  .next (during s fun a => ownWrite (ownerFill a 3 0 sig []) who Pg.fwu 0xCC 1#32)

/-- ENROLL (R439). -/
def execEnroll (who : Agent) (sig key : List Byte) (s : State) : Host.Outcome State Fault Refusal :=
  .next (during s fun a => ownWrite (ownerFill a 4 0 sig key) who Pg.fwu 0xCC 1#32)

end Sys2Proof.Machine
end

