-- ==== Sys2Proof/Machine/RowsUsb.lean ====
section
/-! DEFINITION. Rows of the USB hub and its service function (spec/16; R325 to R342, R474). -/

namespace Sys2Proof.Machine

/-- USB_PORT_DISABLE (R326). -/
def execUsbPortDisable (who : Agent) (value : Word) (s : State) : Host.Outcome State Fault Refusal :=
  .next (during s fun a => ownWrite a who Pg.usb 0x40 value)

/-- USB_OVERCURRENT (R326). -/
def execUsbOvercurrent (k : Nat) (s : State) : Host.Outcome State Fault Refusal :=
  .next (during s fun a => usbOver a k)

/-- USB_BABBLE (R327). -/
def execUsbBabble (k : Nat) (s : State) : Host.Outcome State Fault Refusal :=
  .next (during s fun a => usbBabbleAt a k)

/-- USB_DEVICE_CONNECT (R325). -/
def execUsbDeviceConnect (k : Nat) (connect : Bool) (speed : Nat) (s : State) : Host.Outcome State Fault Refusal :=
  .next (during s fun a => usbDevice a k connect speed)

/-- USF_ENABLE_CHANGE (R329). -/
def execUsfEnableChange (pin : Bool) (s : State) : Host.Outcome State Fault Refusal :=
  .next (during s fun a => usfPin a pin)

/-- USF_OUT_PACKET (R330). -/
def execUsfOutPacket (data1 : Bool) (data : List Byte) (s : State) : Host.Outcome State Fault Refusal :=
  .next (during s fun a => usfOut a data1 data)

/-- USF_IN_TOKEN (R334). -/
def execUsfInToken (s : State) : Host.Outcome State Fault Refusal :=
  .next (during s fun a => usfIn a)

/-- USF_IN_ACK (R336). -/
def execUsfInAck (report : Bool) (s : State) : Host.Outcome State Fault Refusal :=
  .next (during s fun a => usfAckIn a report)

/-- USF_STATE_POLL (R335). -/
def execUsfStatePoll (s : State) : Host.Outcome State Fault Refusal :=
  .next (during s fun a => usfPoll a)

/-- USF_ABORT (R338). -/
def execUsfAbort (s : State) : Host.Outcome State Fault Refusal :=
  .next (during s fun a => usfAbortDone a)

/-- USF_GET_STATE (R338). -/
def execUsfGetState (s : State) : Host.Outcome State Fault Refusal :=
  .next (during s fun a => usfState a)

/-- USB_SETUP (R340). -/
def execUsbSetup (hub : Bool) (bytes : List Byte) (s : State) : Host.Outcome State Fault Refusal :=
  .next (during s fun a => usbSetupPkt a hub bytes)

/-- SET_CONFIGURATION (R336). -/
def execSetConfiguration (hub : Bool) (value : Nat) (s : State) : Host.Outcome State Fault Refusal :=
  .next (during s fun a => usbSetCfg a hub value)

/-- SET_INTERFACE (R336). -/
def execSetInterface (s : State) : Host.Outcome State Fault Refusal :=
  .next (during s fun a => usbSetIf a)

/-- CLEAR_FEATURE_ENDPOINT_HALT (R336). -/
def execClearFeatureEndpointHalt (ep : Nat) (s : State) : Host.Outcome State Fault Refusal :=
  .next (during s fun a => usfClearHalt a ep)

/-- USB_BUS_RESET (R340). -/
def execUsbBusReset (upstream high : Bool) (s : State) : Host.Outcome State Fault Refusal :=
  .next (during s fun a => if upstream then usbUpReset a high else usbFnReset a)

/-- USB_SUSPEND (R339). -/
def execUsbSuspend (k : Nat) (s : State) : Host.Outcome State Fault Refusal :=
  .next (during s fun a => usbSuspendAt a k)

/-- USB_RESUME (R340). -/
def execUsbResume (k : Nat) (meet : UsbMeet) (s : State) : Host.Outcome State Fault Refusal :=
  .next (during s fun a => usbResumeMeet a k meet)

/-- USF_REMOTE_WAKEUP (R339). -/
def execUsfRemoteWakeup (s : State) : Host.Outcome State Fault Refusal :=
  .next (during s fun a => usfWake a)

/-- USB_VBUS_CHANGE (R474). -/
def execUsbVbusChange (present : Bool) (s : State) : Host.Outcome State Fault Refusal :=
  .next (during s fun a => usbVbus a present)

/-- USB_PORT_RESET (R327). -/
def execUsbPortReset (k : Nat) (s : State) : Host.Outcome State Fault Refusal :=
  .next (during s fun a => usbResetPort a k)

end Sys2Proof.Machine
end

