-- ==== Sys2Proof/Machine/Dispatch.lean ====
section
/-! DEFINITION. One arm for each command: the direct call of its meaning. -/

namespace Sys2Proof.Machine

/-- The effect of a command on everything but the queue. -/
def exec (i : Instr) (s : State) : Host.Outcome State Fault Refusal :=
  match i with
  | .registerWrite who page off bytes hw => Sys2Proof.Machine.execRegisterWrite who page off bytes hw s
  | .errCountRead who page meet => Sys2Proof.Machine.execErrCountRead who page meet s
  | .rcCounterRead who page off => Sys2Proof.Machine.execRcCounterRead who page off s
  | .blockReset who page => Sys2Proof.Machine.execBlockReset who page s
  | .blockResetDone page => Sys2Proof.Machine.execBlockResetDone page s
  | .pageEnableWrite who page on => Sys2Proof.Machine.execPageEnableWrite who page on s
  | .freezeWrite who page on => Sys2Proof.Machine.execFreezeWrite who page on s
  | .irqEnWrite who page value => Sys2Proof.Machine.execIrqEnWrite who page value s
  | .intEoi who vector meet => Sys2Proof.Machine.execIntEoi who vector meet s
  | .msixPendingSend vector => Sys2Proof.Machine.execMsixPendingSend vector s
  | .watchMeasure ringDev fieldDev => Sys2Proof.Machine.execWatchMeasure ringDev fieldDev s
  | .handshakeTimeout page cls ack => Sys2Proof.Machine.execHandshakeTimeout page cls ack s
  | .lateAcknowledge page data => Sys2Proof.Machine.execLateAcknowledge page data s
  | .portCfgWrite who port value => Sys2Proof.Machine.execPortCfgWrite who port value s
  | .signalLockChange port signal pcs fec speed => Sys2Proof.Machine.execSignalLockChange port signal pcs fec speed s
  | .linkUp port => Sys2Proof.Machine.execLinkUp port s
  | .linkDown port => Sys2Proof.Machine.execLinkDown port s
  | .walkDone => Sys2Proof.Machine.execWalkDone s
  | .leakSweep who => Sys2Proof.Machine.execLeakSweep who s
  | .hsrFrameRx port frame rx => Sys2Proof.Machine.execHsrFrameRx port frame rx s
  | .ddEntryExpire smac seq sub => Sys2Proof.Machine.execDdEntryExpire smac seq sub s
  | .redboxFrameRx port frame => Sys2Proof.Machine.execRedboxFrameRx port frame s
  | .proxyExpire mac => Sys2Proof.Machine.execProxyExpire mac s
  | .hsrSupervisionSend => Sys2Proof.Machine.execHsrSupervisionSend s
  | .helloSend => Sys2Proof.Machine.execHelloSend s
  | .helloRx port frame => Sys2Proof.Machine.execHelloRx port frame s
  | .helloTimeout port => Sys2Proof.Machine.execHelloTimeout port s
  | .verEnWrite who value => Sys2Proof.Machine.execVerEnWrite who value s
  | .announceSend => Sys2Proof.Machine.execAnnounceSend s
  | .announceRx => Sys2Proof.Machine.execAnnounceRx s
  | .nodeLoss sub node => Sys2Proof.Machine.execNodeLoss sub node s
  | .chgPop who => Sys2Proof.Machine.execChgPop who s
  | .nodeNumberWrite who value => Sys2Proof.Machine.execNodeNumberWrite who value s
  | .rbCtlWrite who k value => Sys2Proof.Machine.execRbCtlWrite who k value s
  | .couplerForward => Sys2Proof.Machine.execCouplerForward s
  | .transactionIssue t => Sys2Proof.Machine.execTransactionIssue t s
  | .sequenceAssign flow => Sys2Proof.Machine.execSequenceAssign flow s
  | .durabilityDone tag ecc => Sys2Proof.Machine.execDurabilityDone tag ecc s
  | .furrowRelease flow => Sys2Proof.Machine.execFurrowRelease flow s
  | .portSelect port ecc => Sys2Proof.Machine.execPortSelect port ecc s
  | .bucketRefill => Sys2Proof.Machine.execBucketRefill s
  | .bucketCtlWrite who page k value => Sys2Proof.Machine.execBucketCtlWrite who page k value s
  | .retransmitTimeout flow ecc => Sys2Proof.Machine.execRetransmitTimeout flow ecc s
  | .cplRx => Sys2Proof.Machine.execCplRx s
  | .abortGo who value meet => Sys2Proof.Machine.execAbortGo who value s meet
  | .reqRx ecc => Sys2Proof.Machine.execReqRx ecc s
  | .broadcastEventRx => Sys2Proof.Machine.execBroadcastEventRx s
  | .deferredExecute ctx => Sys2Proof.Machine.execDeferredExecute ctx s
  | .streamWaitExpire ctx => Sys2Proof.Machine.execStreamWaitExpire ctx s
  | .contextRelease ctx => Sys2Proof.Machine.execContextRelease ctx s
  | .nopSend flow => Sys2Proof.Machine.execNopSend flow s
  | .seqLogPop who => Sys2Proof.Machine.execSeqLogPop who s
  | .ageSweep => Sys2Proof.Machine.execAgeSweep s
  | .bufferScrub corrected fault overrun => Sys2Proof.Machine.execBufferScrub corrected fault overrun s
  | .journalPatrolScrub corrected fault => Sys2Proof.Machine.execJournalPatrolScrub corrected fault s
  | .bar0Access ptag off len data => Sys2Proof.Machine.execBar0Access ptag off len data s
  | .hostWrite off bytes => Sys2Proof.Machine.execHostWrite off bytes s
  | .hostRead ptag off enables => Sys2Proof.Machine.execHostRead ptag off enables s
  | .hostFlushRead ptag off => Sys2Proof.Machine.execHostFlushRead ptag off s
  | .hostReadTimeout ptag meet => Sys2Proof.Machine.execHostReadTimeout ptag s meet
  | .prefetchLineExpire win start meet => Sys2Proof.Machine.execPrefetchLineExpire win start s meet
  | .obCtlWrite who w value => Sys2Proof.Machine.execObCtlWrite who w value s
  | .ibCtlWrite who k value => Sys2Proof.Machine.execIbCtlWrite who k value s
  | .hostCompletionRx tag status data poisoned => Sys2Proof.Machine.execHostCompletionRx tag status data poisoned s
  | .inboundCplTimeout ctx meet => Sys2Proof.Machine.execInboundCplTimeout ctx s meet
  | .inboundCreditTimeout ctx => Sys2Proof.Machine.execInboundCreditTimeout ctx s
  | .errlogPop who => Sys2Proof.Machine.execErrlogPop who s
  | .speclossPop who => Sys2Proof.Machine.execSpeclossPop who s
  | .pcieLinkChange ev => Sys2Proof.Machine.execPcieLinkChange ev s
  | .pciePerst low => Sys2Proof.Machine.execPciePerst low s
  | .pcieConfigWrite w => Sys2Proof.Machine.execPcieConfigWrite w s
  | .nowLatch who len => Sys2Proof.Machine.execNowLatch who len s
  | .refLoss => Sys2Proof.Machine.execRefLoss s
  | .refReturn => Sys2Proof.Machine.execRefReturn s
  | .residenceExpire => Sys2Proof.Machine.execResidenceExpire s
  | .pdelayReqRx port frame => Sys2Proof.Machine.execPdelayReqRx port frame s
  | .managementFrameSend frame ports oneStep tsReq => Sys2Proof.Machine.execManagementFrameSend frame ports oneStep tsReq s
  | .tsqPop who p => Sys2Proof.Machine.execTsqPop who p s
  | .timeSet who => Sys2Proof.Machine.execTimeSet who s
  | .timeAdjust who value => Sys2Proof.Machine.execTimeAdjust who value s
  | .servoSample who value meet => Sys2Proof.Machine.execServoSample who value meet s
  | .ppsInEdge falling meet => Sys2Proof.Machine.execPpsInEdge falling s meet
  | .servoHoldover meet => Sys2Proof.Machine.execServoHoldover s meet
  | .ppsOutPulse => Sys2Proof.Machine.execPpsOutPulse s
  | .triggerCommit who t value => Sys2Proof.Machine.execTriggerCommit who t value s
  | .triggerEdge t => Sys2Proof.Machine.execTriggerEdge t s
  | .captureEdge c rising => Sys2Proof.Machine.execCaptureEdge c rising s
  | .capturePop who c => Sys2Proof.Machine.execCapturePop who c s
  | .execItem => Sys2Proof.Machine.execExecItem s
  | .doneItem => Sys2Proof.Machine.execDoneItem s
  | .cfgItem => Sys2Proof.Machine.execCfgItem s
  | .offerItem => Sys2Proof.Machine.execOfferItem s
  | .acceptItem => Sys2Proof.Machine.execAcceptItem s
  | .fieldCplItem => Sys2Proof.Machine.execFieldCplItem s
  | .fieldPendItem => Sys2Proof.Machine.execFieldPendItem s
  | .fieldRecordItem => Sys2Proof.Machine.execFieldRecordItem s
  | .creditReturn toField vc => Sys2Proof.Machine.execCreditReturn toField vc s
  | .keepSend fromField => Sys2Proof.Machine.execKeepSend fromField s
  | .permitRenew => Sys2Proof.Machine.execPermitRenew s
  | .permitItem => Sys2Proof.Machine.execPermitItem s
  | .permitExpire => Sys2Proof.Machine.execPermitExpire s
  | .markSend => Sys2Proof.Machine.execMarkSend s
  | .markRx => Sys2Proof.Machine.execMarkRx s
  | .markReplyRx => Sys2Proof.Machine.execMarkReplyRx s
  | .freqItem => Sys2Proof.Machine.execFreqItem s
  | .stepItem => Sys2Proof.Machine.execStepItem s
  | .culvertSymbolTimeout done => Sys2Proof.Machine.execCulvertSymbolTimeout done s
  | .culvertSilenceTimeout => Sys2Proof.Machine.execCulvertSilenceTimeout s
  | .culvertCreditTimeout => Sys2Proof.Machine.execCulvertCreditTimeout s
  | .culvertCheckFail => Sys2Proof.Machine.execCulvertCheckFail s
  | .culvertAbortPattern => Sys2Proof.Machine.execCulvertAbortPattern s
  | .culvertRetrain who => Sys2Proof.Machine.execCulvertRetrain who s
  | .culvertRspWaitExpire => Sys2Proof.Machine.execCulvertRspWaitExpire s
  | .culvertTrainingFail why => Sys2Proof.Machine.execCulvertTrainingFail why s
  | .culvertTrainingRetry => Sys2Proof.Machine.execCulvertTrainingRetry s
  | .culvertUp fieldEn fieldRev => Sys2Proof.Machine.execCulvertUp fieldEn fieldRev s
  | .ringDieLost => Sys2Proof.Machine.execRingDieLost s
  | .wakePattern => Sys2Proof.Machine.execWakePattern s
  | .serialCharRx n data parityErr framingErr start startUnsync => Sys2Proof.Machine.execSerialCharRx n data parityErr framingErr start startUnsync s
  | .serialBreak n inChar => Sys2Proof.Machine.execSerialBreak n inChar s
  | .serialCharTimeout n startBit => Sys2Proof.Machine.execSerialCharTimeout n s startBit
  | .serialIdle n => Sys2Proof.Machine.execSerialIdle n s
  | .serialSealedEnter n => Sys2Proof.Machine.execSerialSealedEnter n s
  | .serialFlush who n => Sys2Proof.Machine.execSerialFlush who n s
  | .serialTxBreak who n => Sys2Proof.Machine.execSerialTxBreak who n s
  | .serialRxClear who n => Sys2Proof.Machine.execSerialRxClear who n s
  | .serialTxClear who n => Sys2Proof.Machine.execSerialTxClear who n s
  | .serialTxStart n leadOver => Sys2Proof.Machine.execSerialTxStart n leadOver s
  | .serialCharTxEnd n => Sys2Proof.Machine.execSerialCharTxEnd n s
  | .serialDeRelease n => Sys2Proof.Machine.execSerialDeRelease n s
  | .serialCtsChange n level => Sys2Proof.Machine.execSerialCtsChange n level s
  | .pushHoldExpire ep => Sys2Proof.Machine.execPushHoldExpire ep s
  | .pushForm ep => Sys2Proof.Machine.execPushForm ep s
  | .benchTick n upset => Sys2Proof.Machine.execBenchTick n upset s
  | .benchStallTimeout n => Sys2Proof.Machine.execBenchStallTimeout n s
  | .benchRun who n => Sys2Proof.Machine.execBenchRun who n s
  | .benchStop who n => Sys2Proof.Machine.execBenchStop who n s
  | .benchFlush who n => Sys2Proof.Machine.execBenchFlush who n s
  | .benchRxClear who n => Sys2Proof.Machine.execBenchRxClear who n s
  | .benchTxClear who n => Sys2Proof.Machine.execBenchTxClear who n s
  | .benchTxd who n value => Sys2Proof.Machine.execBenchTxd who n value s
  | .benchProgramWrite who n table off bytes meet => Sys2Proof.Machine.execBenchProgramWrite who n table off bytes meet s
  | .benchRunMask who value => Sys2Proof.Machine.execBenchRunMask who value s
  | .benchStopMask who value => Sys2Proof.Machine.execBenchStopMask who value s
  | .tableCrcGo who value => Sys2Proof.Machine.execTableCrcGo who value s
  | .tableCrcDone => Sys2Proof.Machine.execTableCrcDone s
  | .canIntegrated n => Sys2Proof.Machine.execCanIntegrated n s
  | .canFrameRx n idWord dlc fdf brs esi data => Sys2Proof.Machine.execCanFrameRx n idWord dlc fdf brs esi data s
  | .canRxRdWrite who n value => Sys2Proof.Machine.execCanRxRdWrite who n value s
  | .canTxReq who n value => Sys2Proof.Machine.execCanTxReq who n value s
  | .canTxCancel who n value => Sys2Proof.Machine.execCanTxCancel who n value s
  | .canSof n => Sys2Proof.Machine.execCanSof n s
  | .canArbitrationLost n => Sys2Proof.Machine.execCanArbitrationLost n s
  | .canTxEnd n tdcv => Sys2Proof.Machine.execCanTxEnd n tdcv s
  | .canBusError n lec weight tx => Sys2Proof.Machine.execCanBusError n lec weight tx s
  | .canRecover who n => Sys2Proof.Machine.execCanRecover who n s
  | .canRecovered n => Sys2Proof.Machine.execCanRecovered n s
  | .canRefLate n => Sys2Proof.Machine.execCanRefLate n s
  | .canTtWindowOpen n j => Sys2Proof.Machine.execCanTtWindowOpen n j s
  | .canTtWindowClose n j => Sys2Proof.Machine.execCanTtWindowClose n j s
  | .usbPortDisable who value => Sys2Proof.Machine.execUsbPortDisable who value s
  | .usbOvercurrent k => Sys2Proof.Machine.execUsbOvercurrent k s
  | .usbBabble k => Sys2Proof.Machine.execUsbBabble k s
  | .usbDeviceConnect k connect speed => Sys2Proof.Machine.execUsbDeviceConnect k connect speed s
  | .usfEnableChange pin => Sys2Proof.Machine.execUsfEnableChange pin s
  | .usfOutPacket data1 data => Sys2Proof.Machine.execUsfOutPacket data1 data s
  | .usfInToken => Sys2Proof.Machine.execUsfInToken s
  | .usfInAck report => Sys2Proof.Machine.execUsfInAck report s
  | .usfStatePoll => Sys2Proof.Machine.execUsfStatePoll s
  | .usfAbort => Sys2Proof.Machine.execUsfAbort s
  | .usfGetState => Sys2Proof.Machine.execUsfGetState s
  | .usbSetup hub bytes => Sys2Proof.Machine.execUsbSetup hub bytes s
  | .setConfiguration hub value => Sys2Proof.Machine.execSetConfiguration hub value s
  | .setInterface => Sys2Proof.Machine.execSetInterface s
  | .clearFeatureEndpointHalt ep => Sys2Proof.Machine.execClearFeatureEndpointHalt ep s
  | .usbBusReset upstream high => Sys2Proof.Machine.execUsbBusReset upstream high s
  | .usbSuspend k => Sys2Proof.Machine.execUsbSuspend k s
  | .usbResume k meet => Sys2Proof.Machine.execUsbResume k meet s
  | .usfRemoteWakeup => Sys2Proof.Machine.execUsfRemoteWakeup s
  | .usbPortReset k => Sys2Proof.Machine.execUsbPortReset k s
  | .pinCfgWrite who p value => Sys2Proof.Machine.execPinCfgWrite who p value s
  | .diRawEdge p level => Sys2Proof.Machine.execDiRawEdge p level s
  | .diGlitchPass p => Sys2Proof.Machine.execDiGlitchPass p s
  | .diDebounceAccept p => Sys2Proof.Machine.execDiDebounceAccept p s
  | .diStampDiscard p => Sys2Proof.Machine.execDiStampDiscard p s
  | .chatterRelease p => Sys2Proof.Machine.execChatterRelease p s
  | .chatterWindowLeave p => Sys2Proof.Machine.execChatterWindowLeave p s
  | .doWrite who k value => Sys2Proof.Machine.execDoWrite who k value s
  | .rbMismatch p => Sys2Proof.Machine.execRbMismatch p s
  | .soeRdWrite who value => Sys2Proof.Machine.execSoeRdWrite who value s
  | .leaseRenew => Sys2Proof.Machine.execLeaseRenew s
  | .leaseLapse => Sys2Proof.Machine.execLeaseLapse s
  | .leaseRequest => Sys2Proof.Machine.execLeaseRequest s
  | .consentPromiseEnd => Sys2Proof.Machine.execConsentPromiseEnd s
  | .grantRx bad => Sys2Proof.Machine.execGrantRx s bad
  | .renewedRx => Sys2Proof.Machine.execRenewedRx s
  | .denyRx => Sys2Proof.Machine.execDenyRx s
  | .witnessRequestRx => Sys2Proof.Machine.execWitnessRequestRx s
  | .witnessRenewRx => Sys2Proof.Machine.execWitnessRenewRx s
  | .witnessReleaseRx => Sys2Proof.Machine.execWitnessReleaseRx s
  | .witnessLeaseExpire slot => Sys2Proof.Machine.execWitnessLeaseExpire slot s
  | .witnessSlotFree slot => Sys2Proof.Machine.execWitnessSlotFree slot s
  | .witnessStartHoldEnd => Sys2Proof.Machine.execWitnessStartHoldEnd s
  | .mirrorSend => Sys2Proof.Machine.execMirrorSend s
  | .mirrorFrameRx frame ecc => Sys2Proof.Machine.execMirrorFrameRx frame ecc s
  | .mirrorLostTimeout => Sys2Proof.Machine.execMirrorLostTimeout s
  | .mirrorCopyDone => Sys2Proof.Machine.execMirrorCopyDone s
  | .mirrorFieldTimer => Sys2Proof.Machine.execMirrorFieldTimer s
  | .mirrorTokenTimer => Sys2Proof.Machine.execMirrorTokenTimer s
  | .pairHandover who => Sys2Proof.Machine.execPairHandover who s
  | .handoverRelease => Sys2Proof.Machine.execHandoverRelease s
  | .revertHoldoff => Sys2Proof.Machine.execRevertHoldoff s
  | .pairProve who => Sys2Proof.Machine.execPairProve who s
  | .proveDone memFail analogFail digestFail => Sys2Proof.Machine.execProveDone memFail analogFail digestFail s
  | .vinDomainStart => Sys2Proof.Machine.execVinDomainStart s
  | .vinUvlo => Sys2Proof.Machine.execVinUvlo s
  | .gateRampStart => Sys2Proof.Machine.execGateRampStart s
  | .currentLimitEnter => Sys2Proof.Machine.execCurrentLimitEnter s
  | .currentLimitExit => Sys2Proof.Machine.execCurrentLimitExit s
  | .faultTimerTrip => Sys2Proof.Machine.execFaultTimerTrip s
  | .fastTrip => Sys2Proof.Machine.execFastTrip s
  | .retryOffEnd => Sys2Proof.Machine.execRetryOffEnd s
  | .retriesRestore => Sys2Proof.Machine.execRetriesRestore s
  | .overVoltage => Sys2Proof.Machine.execOverVoltage s
  | .overVoltageEnd => Sys2Proof.Machine.execOverVoltageEnd s
  | .thermalGateOff => Sys2Proof.Machine.execThermalGateOff s
  | .thermalRecover => Sys2Proof.Machine.execThermalRecover s
  | .gateFault => Sys2Proof.Machine.execGateFault s
  | .gateWeak => Sys2Proof.Machine.execGateWeak s
  | .dsShort => Sys2Proof.Machine.execDsShort s
  | .pgAssert => Sys2Proof.Machine.execPgAssert s
  | .pfwAssert => Sys2Proof.Machine.execPfwAssert s
  | .checkpointDone => Sys2Proof.Machine.execCheckpointDone s
  | .pfwRelease => Sys2Proof.Machine.execPfwRelease s
  | .pwrBurn who value => Sys2Proof.Machine.execPwrBurn who value s
  | .monitorScan values => Sys2Proof.Machine.execMonitorScan values s
  | .pinReset => Sys2Proof.Machine.execPinReset s
  | .resetRelease prof => Sys2Proof.Machine.execResetRelease prof s
  | .startupStepDone ok errs corrected badRecs => Sys2Proof.Machine.execStartupStepDone ok errs corrected s badRecs
  | .serviceStart => Sys2Proof.Machine.execServiceStart s
  | .warmReset who value => Sys2Proof.Machine.execWarmReset who value s
  | .drawerSwitch who value => Sys2Proof.Machine.execDrawerSwitch who value s
  | .drawerLoadDone ecc => Sys2Proof.Machine.execDrawerLoadDone ecc s
  | .drawerCommit => Sys2Proof.Machine.execDrawerCommit s
  | .quiesceTimeout => Sys2Proof.Machine.execQuiesceTimeout s
  | .drawerSave who value => Sys2Proof.Machine.execDrawerSave who value s
  | .drawerSaveDone => Sys2Proof.Machine.execDrawerSaveDone s
  | .fwuStage who value => Sys2Proof.Machine.execFwuStage who value s
  | .fwuPush who off bytes => Sys2Proof.Machine.execFwuPush who off bytes s
  | .fwuPushEnd who value => Sys2Proof.Machine.execFwuPushEnd who value s
  | .fwuStagingDone flash readBack => Sys2Proof.Machine.execFwuStagingDone flash readBack s
  | .fwuActivate who value => Sys2Proof.Machine.execFwuActivate who value s
  | .fwuAbort who value => Sys2Proof.Machine.execFwuAbort who value s
  | .fwuApprove who value => Sys2Proof.Machine.execFwuApprove who value s
  | .fwuConfirm who value => Sys2Proof.Machine.execFwuConfirm who value s
  | .confirmTimeout => Sys2Proof.Machine.execConfirmTimeout s
  | .fallbackRetry => Sys2Proof.Machine.execFallbackRetry s
  | .unlockPage who arg sig => Sys2Proof.Machine.execUnlockPage who arg sig s
  | .setOwnerLock who sig => Sys2Proof.Machine.execSetOwnerLock who sig s
  | .clearOwnerLock who sig => Sys2Proof.Machine.execClearOwnerLock who sig s
  | .enroll who sig key => Sys2Proof.Machine.execEnroll who sig key s
  | .selftestRun who => Sys2Proof.Machine.execSelftestRun who s
  | .selftestPassDone outs cells => Sys2Proof.Machine.execSelftestPassDone outs cells s
  | .offlineTest who value => Sys2Proof.Machine.execOfflineTest who value s
  | .offlineTestDone ringFail fieldFail ringSig fieldSig => Sys2Proof.Machine.execOfflineTestDone ringFail fieldFail ringSig fieldSig s
  | .faultLogPop who => Sys2Proof.Machine.execFaultLogPop who s
  | .testUnlockSet who => Sys2Proof.Machine.execTestUnlockSet who s
  | .testUnlockClear who => Sys2Proof.Machine.execTestUnlockClear who s
  | .testUnlockExpire => Sys2Proof.Machine.execTestUnlockExpire s
  | .perturbWrite who page value => Sys2Proof.Machine.execPerturbWrite who page value s
  | .testPinChange level => Sys2Proof.Machine.execTestPinChange level s
  | .scanGo who value => Sys2Proof.Machine.execScanGo who value s
  | .zeroiseDone => Sys2Proof.Machine.execZeroiseDone s
  | .reachExpire sub node port => Sys2Proof.Machine.execReachExpire sub node port s
  | .triggerPulseEnd t => Sys2Proof.Machine.execTriggerPulseEnd t s
  | .usbVbusChange present => Sys2Proof.Machine.execUsbVbusChange present s
  | .pairAnnounceSend => Sys2Proof.Machine.execPairAnnounceSend s
  | .hostCreditUpdate posted postedData nonPosted => Sys2Proof.Machine.execHostCreditUpdate posted postedData nonPosted s

end Sys2Proof.Machine
end

