-- ==== Sys2Proof/Safety.lean ====
section
/-! DEFINITION. What counts as a safe run, and the words the statements are written in: a command that completes, the conditions under
which a register access reaches its page, and what a command leaves alone. -/

namespace Sys2Proof.Machine

/-- A step that answers a next state. -/
def Runs (s : State) : Prop := ∃ t, step s = .next t

/-- Every command that waits has a meaning to run with: none of them stops the hub. -/
def NoStop (s : State) : Prop := ∀ c ∈ s.pending, ∀ t, ∃ u, exec c t = .next u

/-! ## Interrupt lines -/

/-- At a hub that takes commands, INT_N[0], INT_N[1], the management core's interrupt and every MSI-X vector stand at the level of the pending
sources routed to them (R63, R64). -/
def LinesFollow (s : State) : Prop :=
  alive s = true →
    s.intr.intN.getD 0 false = destLevel s F.INT_ROUTE_INTN0_EN ∧ s.intr.intN.getD 1 false = destLevel s F.INT_ROUTE_INTN1_EN ∧
    s.intr.core = destLevel s F.INT_ROUTE_CORE_EN ∧ ∀ v, v < 64 → s.intr.vec.getLsbD v = vecLevel s v

/-- Vector `v` fires: its message goes out, or its pending bit is set while something holds it back (R64, R213). -/
def Fires (s u : State) (v : Nat) : Prop :=
  if msixFree s v then Out.msix v ∈ u.out ∧ u.intr.pba.getLsbD v = false else u.intr.pba.getLsbD v = true

/-! ## Completion -/

/-- The command answers a next state, which is the end of its step on a state `u` that its own effect left, and `P` holds of `u`. -/
def Completes (c : Instr) (s : State) (P : State → Prop) : Prop := ∃ u, exec c s = .next (settle u) ∧ P u

/-! ## Frames -/

/-- Registers other than those with these keys hold what they held. -/
def SameRegs (ks : List Nat) (s u : State) : Prop := ∀ k, k ∉ ks → tabGet u.regs k = tabGet s.regs k

/-- The state without its registers, its outputs and the bookkeeping of register accesses. -/
def beside (s : State) : State := { s with regs := [], out := [], brg := { s.brg with accs := [] }, cul := { s.cul with accId := 0 } }

/-- The registers with these keys apart, the command changes nothing (its answer goes out). -/
def OnlyRegs (ks : List Nat) (s u : State) : Prop := SameRegs ks s u ∧ beside u = beside s

/-- The keys an interrupt event of page `p` writes: IRQ_RAW and IRQ_PEND. -/
def irqKeys (p : Nat) : List Nat := [regKey p 0x10, regKey p 0x18]

/-- The keys an error record of page `p` writes: IRQ_RAW, IRQ_PEND, ERR_FIRST and ERR_COUNT. -/
def errKeys (p : Nat) : List Nat := [regKey p 0x10, regKey p 0x18, regKey p 0x1C, regKey p 0x20]

/-- The key of field `f` of page `p`. -/
def fKey (p : Nat) (f : FieldD) (i : Nat := 0) : Nat := regKey p (f.off + f.stride * i)

/-- Registers of other pages than these hold what they held. -/
def OnlyPages (ps : List Nat) (s u : State) : Prop := ∀ k, k / 1024 ∉ ps → tabGet u.regs k = tabGet s.regs k

/-! ## Frames of the ring -/

/-- The buffer has cells of this pool for frame `f` that goes to these ports (R132, R140). -/
def poolRoom (s : State) (pool : Nat) (f : Frame) (ports : List Port) : Bool :=
  coreTakes s && (takeCells s pool (frameCells (frameLen f)) (ports.filter (portTakes s))).isSome && !(pickCells (cellsHeld s) 1 0).isEmpty

/-- A frame `f` of class `cls` that this hub forms finds cells, and no other waits for cells of its pool before it (R140, R142). -/
def hasRoom (s : State) (f : Frame) (cls : Nat) (ports : List Port) : Bool :=
  poolRoom s (poolOf false cls) f ports && !(s.sw.ownWait.any (·.desc.pool == poolOf false cls))

/-- The pages whose registers a frame that is stored may change: drop counters, and what PERTURB counts and clears. -/
def storePages : List Nat := [Pg.swc, Pg.buf, Pg.prt]

/-- Frame `f` of class `cls` is held at a head cell, and has joined the queue of its class at each of these ports that takes frames (R138). -/
def Leaves (s u : State) (f : Frame) (cls : Nat) (ports : List Port) : Prop :=
  ports.any (portTakes s) = true → ∃ id d, tabGet u.sw.frames id = some d ∧ d.frame = f ∧ d.cls = cls ∧
    ∀ p ∈ ports, portTakes s p = true → queueOf u p cls = queueOf s p cls ++ [id]

/-- Frame `f` with the HSR tag that the next frame of this hub gets (R70). -/
def tagged (s : State) (f : Frame) : Frame := { f with hsr := some { path := 0, seq := s.ring.hsrSeq } }

/-! ## Accesses -/

/-- An access of one register reaches its page: the hub takes commands, the page exists and is not hung, and the access is aligned
(R7, R29, R46, R455). -/
def accReaches (s : State) (who : Agent) (p off : Nat) : Bool :=
  alive s && pageAssigned p && !testDeaf s who p && !accBad p off 4 && !hungRefuses s p off

/-- A write of one register is judged at its page at once: the register has fields, no standby refuses the write, no holder sends it to its
partner first, and the block is not in its reset (R8, R55, R369, R373). -/
def writeReaches (s : State) (who : Agent) (p off : Nat) : Bool :=
  accReaches s who p off && fieldBits p off != 0#32 && !standbyRefuses s p off && !(mirroring s && who != .fabric && mirroredReg s p off) &&
    !(pageBusyState s p == 2 && decide (0x40 ≤ off))

/-- The word `w` that a read of register `off` of page `p` gives goes out to `who`; the identifier of the access is no waiting host read's. -/
def Answers (s u : State) (who : Agent) (p off : Nat) (w : Word) : Prop :=
  tabGet s.brg.accs s.cul.accId = none → Out.read who p off (leBytes 4 w.toNat) ∈ u.out

/-- A block of the ring die whose block reset ends with its registers: no state of its own besides is treated by the Warm column (R10, R55). -/
def plainBlock (p : Nat) : Bool :=
  pageAssigned p && decide (p < 0x040) && !([Pg.seq, Pg.jrn, Pg.tmk, Pg.tsq, Pg.trg, Pg.par, Pg.mir].contains p)

/-- A block of the ring die with no work in hand that a block reset ends (R55). -/
def resetQuiet (s : State) (p : Nat) : Bool :=
  pageAssigned p && !isFieldPage p && !([Pg.brg, Pg.win, Pg.cul].contains p) && (p != Pg.drw || s.start.job.isNone) &&
    (p != Pg.fwu || s.fwu.job == 0) && (p != Pg.bst || s.test.pass.isNone) && (p != Pg.prt || !getB s Pg.prt F.PRT_STAT_TEST_UNLOCK)

/-- A block of the ring die with no work in hand that a HANG ends (R29). -/
def hangQuiet (s : State) (p : Nat) : Bool :=
  pageAssigned p && !isFieldPage p && !([Pg.brg, Pg.win].contains p) && !(decide (0x010 ≤ p) && decide (p ≤ 0x013)) &&
    (!(p == Pg.seq || (decide (0x040 ≤ p) && decide (p ≤ 0x07F))) || (s.seq.flows.isEmpty && s.seq.tagWait.isEmpty)) &&
    (p != Pg.cul || s.cul.ringW.isEmpty)

/-- Nothing but PAGE_CTL follows from ENABLE of page `p` taking the value `on` (R54, R268, R290, R303, R328). -/
def enableQuiet (s : State) (p : Nat) (on : Bool) : Bool :=
  if (0x100 ≤ p ∧ p ≤ 0x11F) ∨ (0x138 ≤ p ∧ p ≤ 0x13F) then on == pageEnabled s p
  else if 0x120 ≤ p ∧ p ≤ 0x12F then on || benRun s (p - 0x120) == 0
  else p != Pg.usf || usfOn s == (getB s Pg.usf F.USF_CTL_OWNER_EN || getB s Pg.usf F.USF_STAT_PIN)

/-- No host access to a page is on its way before this one (R189). -/
def hostFirst (s : State) : Bool := s.brg.barQ.isEmpty && !(s.pair.regWait.any (·.who == .host)) && !hostExecs s

/-- The register with the bits of `v` that can be written in it. -/
def candWord (p off : Nat) (old v : Word) : Word :=
  (v &&& accMask p off fun a => isWritable a || a == .wo) ||| (old &&& ~~~(accMask p off fun a => isWritable a || a == .wo))

/-- Neither the lock nor the servo refuses the write of `v` (R59, R233, R486). -/
def lockAllows (s : State) (p off : Nat) (v : Word) : Bool := !lockRefuses s p off (getW s p off) v && !servoOwns s p off

/-- No range, rule or use of the block refuses the write of `v` (R35). -/
def valueOk (s : State) (p off : Nat) (v : Word) : Bool := valueBad s p off (candWord p off (getW s p off) v) == none

/-- A write of `v` is taken by its page. -/
def writeTaken (s : State) (who : Agent) (p off : Nat) (v : Word) : Bool :=
  writeReaches s who p off && lockAllows s p off v && valueOk s p off v

/-! ## Pushes -/

/-- The oldest words of an endpoint have become a push under `tag`, which goes to the ring die as an OFFER: their bytes, or in the tagged
view the words and their tags, for the push's address and flow. The first word carries the GAP of a push that failed (R278 to R280). -/
def PushFormed (s u : State) (ep tag : Nat) : Prop :=
  let ws := match pushTake s ep with
    | [] => []
    | w :: r => { w with gap := w.gap || (fifoOf s ep).pushGap } :: r
  let data := pushBytes (epView s ep) ws ((freeWords s ep).drop (epMax s ep))
  ∃ p, u.fld.pushes = s.fld.pushes ++ [p] ∧ p.ep = ep ∧ p.tag = tag ∧ p.words = (pushTake s ep).length ∧ p.accepted = false ∧ p.orphan = false ∧
    p.pos = (if epOp s ep then (if epRegion s ep < (fifoOf s ep).posForm + data.length then 0 else (fifoOf s ep).posForm) else 0) ∧
    p.req = { init := 0x4000 + ep, flow := getF s (epPage ep) (epFld ep F.SER_PUSH_CFG_FLOW F.BEN_PUSH_CFG_FLOW), op := if epOp s ep then 2 else 5,
              addr := BitVec.ofNat 64 (epAddr s ep + p.pos), len := data.length, data := data, spec := false } ∧
    u.cul.fieldW = s.cul.fieldW ++ [.offer tag p.gen p.req] ∧ u.regs = s.regs

/-! ## Power -/

/-- A trip of the electronic fuse with this timer count: the gate and PG are off for the longer of 100 times the count and 10 ms, or for good
where no retry is left (R389 to R391, R395). -/
def Tripped (s u : State) (count : Nat) : Prop :=
  u.pwr.gate = false ∧ u.pwr.lim = false ∧ u.pwr.cnt = 0 ∧ pwrPg u = false ∧ pwrEnhanced u = false ∧ u.pwr.offNs = max (100 * count) 10000000 ∧
    getF u Pg.pwr F.PWR_TRIPS = (getF s Pg.pwr F.PWR_TRIPS + 1) % 2 ^ 32 ∧ (getW u Pg.pwr 0x10).getLsbD 3 = true ∧
    u.pwr.latched = (retryCount s != 255 && retriesLeft s == 0) ∧ u.pwr.off = !u.pwr.latched ∧ OnlyPages [Pg.pwr] s u

/-! ## Start-up -/

/-- Start-up has stopped at this step (R409, R411). -/
def StopsAt (u : State) (step : Nat) : Prop :=
  getB u Pg.rst F.RST_STAT_STOPPED = true ∧ getF u Pg.rst F.RST_STAT_FAIL_STEP = step ∧ (getW u Pg.rst 0x10).getLsbD 2 = true

/-- Step 6 is done, and this is the kind of the start: a cold start alone begins a new epoch (R405, R406, R412). -/
def KindFound (s u : State) (kind : Nat) : Prop :=
  getF u Pg.rst F.RST_STAT_STEP = 7 ∧ getF u Pg.rst F.RST_STAT_KIND = kind ∧ getF u Pg.seq F.SEQ_START_KIND = kind ∧
    u.start.epoch = (if kind = 0 then epochNext s.start.epoch else s.start.epoch) ∧ getF u Pg.nod F.NOD_EPOCH_EPOCH = u.start.epoch % 2 ^ 32 ∧
    u.start.colds = (if kind = 0 then s.start.colds + 1 else s.start.colds) ∧ u.pair.cold = (kind == 0) ∧ getB u Pg.pwr F.PWR_STAT_GATE_CYCLED = false ∧
    u.start.ckpt = (if getF s Pg.chs F.CHS_STAT_CKPT = 1 then s.start.ckpt else none)

/-- The hub falls back to the image before this one, whose drawer it loads (R435, R437). -/
def FallsBack (s u : State) (last : Nat) : Prop :=
  getF u Pg.rst F.RST_STAT_STEP = 7 ∧ getF u Pg.fwu F.FWU_STAT_LAST = last ∧ getF u Pg.fwu F.FWU_FALLBACKS = (getF s Pg.fwu F.FWU_FALLBACKS + 1) % 2 ^ 32 ∧
    (getW u Pg.fwu 0x10).getLsbD 5 = true ∧ ∃ c, u.start.commits.getLast? = some c ∧ c.slot = (commitNow s).prev ∧ c.trial = false

/-! ## Updates and owner commands -/

/-- A staging ends at a failed check, with this cause and block (R431). -/
def StagingFails (s u : State) (cause block : Nat) : Prop :=
  getF u Pg.fwu F.FWU_STAT_STATE = 0 ∧ getF u Pg.fwu F.FWU_STAT_LAST = 6 ∧ getF u Pg.fwu F.FWU_REFUSE_CAUSE = cause ∧
    getF u Pg.fwu F.FWU_REFUSE_BLOCK = block % 4096 ∧ u.fwu = { s.fwu with job := 0, push := [] } ∧ (getW u Pg.fwu 0x10).getLsbD 3 = true ∧ OnlyPages [Pg.fwu] s u

/-- A drawer switch has started (R417, R434, R437): its drawer, its set, and what it is part of. -/
def SwitchStarts (s u : State) (set fwu : Nat) : Prop :=
  getF u Pg.drw F.DRW_STAT_PHASE = 1 ∧
    u.start.job = some { drawer := getF s Pg.drw F.DRW_STAT_CURRENT, set := set, fwu := fwu, flows := [], benches := [] }

/-- An owner command has been checked and its nonce replaced (R439): RESULT is 1 where it had its effect. -/
def OwnerResult (s u : State) (r : Nat) : Prop :=
  getF u Pg.fwu F.FWU_OSTAT_RESULT = r ∧ u.fwu = { s.fwu with nonce := s.fresh } ∧ u.fresh = s.fresh + 1

/-- A refused owner command has no effect but its record (R439). -/
def OwnerRefused (s u : State) : Prop :=
  OwnerResult s u 2 ∧ (getW u Pg.fwu 0x10).getLsbD 1 = true ∧ getF u Pg.fwu F.FWU_OCMD_REFUSED = (getF s Pg.fwu F.FWU_OCMD_REFUSED + 1) % 2 ^ 32 ∧
    u.start = s.start ∧ u.test = s.test ∧ OnlyPages [Pg.fwu] s u

/-! ## Step ends and idle hubs -/

/-- The state a command starts from: the outputs of the command before it are gone. -/
def cleared (s : State) : State := { s with out := [] }

/-- Rows that reach a hub which is held in reset, under test or in a scan state: the board's power, the reset and test pins, and the end of
an offline test (R387 to R403, R405, R447, R455, R457). -/
def worksWhileDown (c : Instr) : Bool :=
  match c with
  | .vinDomainStart | .vinUvlo | .gateRampStart | .currentLimitEnter | .currentLimitExit | .faultTimerTrip | .fastTrip | .retryOffEnd
  | .retriesRestore | .overVoltage | .overVoltageEnd | .thermalGateOff | .thermalRecover | .gateFault | .gateWeak | .dsShort | .pgAssert
  | .pfwAssert | .pfwRelease | .pinReset | .zeroiseDone => true
  | .monitorScan _ | .resetRelease _ | .offlineTestDone _ _ _ _ | .testPinChange _ => true
  | _ => false

/-- Nothing is left for the end of a step to do but to let pins and interrupt lines follow: no record, access, request or item waits for
anything that this step could have given, no update or drawer switch is in hand, and every log that is an interrupt condition is empty. -/
structure AtRest (s : State) : Prop where
  up : alive s = true
  engine : unsettled s = false ∧ s.seq.tagWait = [] ∧ s.seq.answers = [] ∧ s.seq.cplOut = []
  flows : ∀ e ∈ s.seq.flows, ∀ o ∈ e.2.opens, o.wait = .none ∨ o.wait = .chest
  ctxs : ∀ e ∈ s.seq.ctxs, headHeld s e.1 = none
  pair : (pairRole s ≠ 2 ∧ pairRole s ≠ 5) ∧ s.pair.regWait = []
  bridge : s.brg.offers = [] ∧ s.brg.ibTxns = [] ∧ s.brg.reads = [] ∧ s.brg.barQ = []
  culvert : s.cul.execs = [] ∧ s.cul.ringW = [] ∧ s.cul.fieldW = [] ∧ s.cul.rspWait = false
  update : s.fwu.job = 0
  warning : s.pwr.warn = pwrPfw s
  drawer : s.start.keepFlw = []
  logs : s.seq.log = [] ∧ s.brg.errlog = [] ∧ s.test.flog = []
  stamps : (∀ p, p < 4 → tsqOf s p = []) ∧ ∀ e ∈ s.time.cap, e.2 = []
  sync : fieldSync s = s.time.syncWas ∧ s.time.syncLog = []
  reports : s.cul.fpend = (pendingNow s).filter isFieldPage
  fabric : s.intr.fabric = destLevel s F.INT_ROUTE_FABRIC_EN
  buffer : s.sw.ownWait = []
  usb : s.usb.inHand = none → s.usb.xfers = []
  test : testUnlocked s = false ∧ s.test.badCells = []

/-- The table index of a bench's tick: its state and its four inputs (R285). -/
def tickIndex (s : State) (n : Nat) : Nat :=
  let pg := Pg.ben n
  getF s pg F.BEN_STATE_STATE * 16 + ((if benSelect s n (getF s pg F.BEN_IN_SEL_IN0) then 1 else 0) +
    2 * (if benSelect s n (getF s pg F.BEN_IN_SEL_IN1) then 1 else 0) + 4 * (if benSelect s n (getF s pg F.BEN_IN_SEL_IN2) then 1 else 0) +
    8 * (if benSelect s n (getF s pg F.BEN_IN_SEL_IN3) then 1 else 0))

end Sys2Proof.Machine
end

