-- ==== Sys2Proof/Certificates/Slice0/Obligations.lean ====
section
/-! DEFINITION. The statements for the provers: the step of the block, what its end does, and for every command what it does and where it
completes. Each per-command statement says of a hub and of operands that meet its hypotheses that exec answers a next state: the end of the
step (settle) on the state `u` that the command's own effect left, and what `u` holds. -/

open Sys2Proof Sys2Proof.Machine

/-- A step of a hub with command `c` at the front of its queue is `exec c` on the hub with the queue's rest. -/
def Obligations.StepRunsFront : Prop :=
  ∀ (c : Instr) (rest : List Instr) (s : State), step { s with pending := c :: rest } = exec c { s with pending := rest }

/-- The model's choice (log entry 7): a step of a hub whose queue is empty moves its clocks by one nanosecond and changes nothing else. -/
def Obligations.EmptyQueueTicks : Prop :=
  ∀ (s : State), s.pending = [] → step s = .next (timeTick (cleared s)) ∧ (timeTick (cleared s)).watchNs = s.watchNs + 1 ∧
    { timeTick (cleared s) with watchNs := s.watchNs, time := s.time, out := s.out } = s

/-- Every command answers a next state at every state: none of them ends in a fault or a refusal, and so no step does. -/
def Obligations.EveryCommandAnswers : Prop :=
  (∀ (c : Instr) (s : State), ∃ t, exec c s = .next t) ∧ ∀ (s : State), Runs s ∧ NoStop s

/-- State.reset: no command waits, journal memory lists nothing, start-up stands at step 4 with service not begun, and every register holds its reset
value but the five whose Live or Pin fields start elsewhere (log entries 1, 2 and 4: the model's choices). -/
def Obligations.ResetLeavesDefaults : Prop :=
  State.reset.pending = [] ∧ State.reset.jmem = [] ∧ State.reset.start.inReset = false ∧ State.reset.start.service = false ∧
    getF State.reset Pg.rst F.RST_STAT_STEP = 4 ∧ State.reset.seq.running = false ∧ State.reset.seq.flows = [] ∧ State.reset.sw.queues = [] ∧
    State.reset.cul.ringW = [] ∧ State.reset.fld.fifo = [] ∧
    ∀ p off, regKey p off ∉ [regKey Pg.int 0x40, regKey Pg.pwr 0x54, regKey Pg.rst 0x40, regKey Pg.rst 0x44, regKey Pg.tmk 0x44] →
      getW State.reset p off = resetWord p off

/-- At State.reset every interrupt line stands at its level. -/
def Obligations.LinesFollowAtReset : Prop :=
 LinesFollow State.reset

/-- Every step keeps the interrupt lines at their levels (R63, R64): INT_N[0], INT_N[1], the management core's interrupt and each of the 64 MSI-X
vectors is asserted exactly while a pending source is routed to it, whatever the step does. -/
def Obligations.LinesFollowKept : Prop :=
  ∀ (s t : State), LinesFollow s → step s = .next t → LinesFollow t

/-- While RESET_N is low, in a scan state and during an offline test the hub takes no command but those of the board's power, of the reset and test pins
and the end of the test: any other changes nothing (R405, R447, R457). -/
def Obligations.DownHubIgnores : Prop :=
  ∀ (c : Instr) (s : State), alive s = false → worksWhileDown c = false → exec c s = .next (cleared s)

/-- The end of a step at a hub where nothing waits for it: PIN.LEVEL, the output balls and the interrupt lines follow, and nothing else changes. -/
def Obligations.StepEndAtRest : Prop :=
  ∀ (s : State), AtRest s →
    (∀ k, (∀ i, k ≠ fKey Pg.pin F.PIN_LEVEL_LEVEL i) → tabGet (settle s).regs k = tabGet s.regs k) ∧
    { settle s with
      regs := s.regs, out := s.out, fld := { (settle s).fld with drive := s.fld.drive }
      intr := { (settle s).intr with intN := s.intr.intN, core := s.intr.core, vec := s.intr.vec, pba := s.intr.pba } } = s

/-- R30: an acknowledge that meets its bound's expiry wins, and one that comes after HANG has been declared is discarded with its data: neither changes
anything, so a page that was not in HANG is not, and one that was stays there. -/
def Obligations.AcknowledgeWinsOrIsLate : Prop :=
  ∀ (s : State) (p : Nat) (cls : HsClass) (data : List Byte), alive s = true →
    exec (.handshakeTimeout p cls true) s = .next (settle (cleared s)) ∧ exec (.lateAcknowledge p data) s = .next (settle (cleared s)) ∧
      ∀ q, pageBusyState (cleared s) q = pageBusyState s q ∧ getW (cleared s) q 0x0C = getW s q 0x0C

/-- R61: bit p mod 32 of INT.PENDnn with nn = p / 32 shows the pending state of page p: of a ring-die page IRQ_PEND as it stands, of a field-die page
what the field die last reported on the EVT channel; no write changes it. -/
def Obligations.PendingPagesShow : Prop :=
  ∀ (s : State), (∀ p, p < 0x200 →
      (shownWord s Pg.int (0x100 + 4 * (p / 32))).getLsbD (p % 32) = if isFieldPage p then s.intr.fieldPend.contains p else getW s p 0x18 != 0#32) ∧
    (∀ nn old v, nn < 16 → candWord Pg.int (0x100 + 4 * nn) old v = old) ∧
    (∀ q p v rest, alive s = true → culUp s = true → s.cul.fieldS = .pend q p v :: rest → evtOld s q = false → ∃ u, exec .fieldPendItem s = .next (settle u) ∧
      ∀ x, u.intr.fieldPend.contains x = if x = p then v else s.intr.fieldPend.contains x)

/-- R297: an entry with EVENT 1 that a bench's tick applies, taken up at this tick or held by a stall until it, latches the tick's stamp in
BEN.EVT_STAMP and its state and index in BEN.EVT_INFO, with UNSYNC set if FIELD_SYNC is 0, counts in BEN.EVENTS and sets the EVENT source; one with
EVENT 0 leaves the latch as it is, so it holds the most recent event only. -/
def Obligations.BenchEventsLatch : Prop :=
  ∀ (s : State) (n idx : Nat) (e : Word), alive s = true → n < 16 →
    (benRun s n = 1 ∧ idx = tickIndex s n ∧ e = benEntry s n idx ∧ (benOf s n).badParity.contains idx = false ∨
      benRun s n = 2 ∧ idx = getF s (Pg.ben n) F.BEN_STAT_INDEX ∧ e = (benOf s n).heldEntry) → benBlocked s n e = 0 →
    (e.getLsbD 28 = true → ∃ u, exec (.benchTick n none) s = .next (settle u) ∧
      getF u (Pg.ben n) F.BEN_EVT_STAMP_STAMP = stamp32 (fieldNs s) ∧ getF u (Pg.ben n) F.BEN_EVT_INFO_STATE = idx / 16 ∧
        getF u (Pg.ben n) F.BEN_EVT_INFO_INDEX = idx ∧ getB u (Pg.ben n) F.BEN_EVT_INFO_UNSYNC = !fieldSync s ∧
        getF u (Pg.ben n) F.BEN_EVENTS = (getF s (Pg.ben n) F.BEN_EVENTS + 1) % 2 ^ 32 ∧ (getW u (Pg.ben n) 0x10).getLsbD 2 = true) ∧
    (e.getLsbD 28 = false → ∃ u, exec (.benchTick n none) s = .next (settle u) ∧
      getF u (Pg.ben n) F.BEN_EVT_STAMP_STAMP = getF s (Pg.ben n) F.BEN_EVT_STAMP_STAMP ∧ getF u (Pg.ben n) F.BEN_EVT_INFO_STATE = getF s (Pg.ben n) F.BEN_EVT_INFO_STATE ∧
        getF u (Pg.ben n) F.BEN_EVT_INFO_INDEX = getF s (Pg.ben n) F.BEN_EVT_INFO_INDEX ∧ getB u (Pg.ben n) F.BEN_EVT_INFO_UNSYNC = getB s (Pg.ben n) F.BEN_EVT_INFO_UNSYNC ∧
        getF u (Pg.ben n) F.BEN_EVENTS = getF s (Pg.ben n) F.BEN_EVENTS)

/-- PAGE_ENABLE_WRITE, FREEZE_WRITE and IRQ_EN_WRITE (R54, R56, R57) on every page, where the write reaches its page: each completes; the bit or the
register takes what is written, the other bit of PAGE_CTL stays, and IRQ_PEND gains the raw sources newly enabled. ENABLE changes nothing else, but
for these: a CAN port that is enabled or disabled integrates first (R303), a serial port that is enabled waits for mark from now on (R268), and a
running bench that is disabled stops with cause 5 (R290). FREEZE changes no other register. BLOCK_RESET, BLOCK_RESET_DONE (R10, R55) and
LATE_ACKNOWLEDGE (R30) each complete: the reset of a ring-die block with nothing in hand holds STATE at RESETTING and changes no other register; its
end, on every page of the ring die whose block keeps its state in registers, returns STATE to 0 and treats every register of the page by its Warm
column and no register of another page; a late acknowledge changes nothing. -/
def Obligations.PageControlAndResets : Prop :=
  (∀ (s : State) (who : Agent) (p : Nat),
    (∀ on, writeReaches s who p 0x08 = true → enableQuiet s p on = true → ∃ u, exec (.pageEnableWrite who p on) s = .next (settle u) ∧
      pageEnabled u p = on ∧ getB u p F.PAGE_CTL_FREEZE = getB s p F.PAGE_CTL_FREEZE ∧ OnlyRegs [regKey p 0x08] s u) ∧
    (∀ n on, n < 8 → p = Pg.can n → writeReaches s who p 0x08 = true → on ≠ pageEnabled s p → ∃ u, exec (.pageEnableWrite who p on) s = .next (settle u) ∧
      pageEnabled u p = on ∧ getB u p F.PAGE_CTL_FREEZE = getB s p F.PAGE_CTL_FREEZE ∧ getB u p F.CAN_STAT_SYNC = false ∧
        OnlyRegs [regKey p 0x08, fKey p F.CAN_STAT_SYNC] s u) ∧
    (∀ n, n < 32 → p = Pg.ser n → writeReaches s who p 0x08 = true → pageEnabled s p = false → ∃ u, exec (.pageEnableWrite who p true) s = .next (settle u) ∧
      pageEnabled u p = true ∧ getB u p F.PAGE_CTL_FREEZE = getB s p F.PAGE_CTL_FREEZE ∧
        u.fld = (setSer s n { serOf s n with markFrom := some (fieldNs s) }).fld ∧ SameRegs [regKey p 0x08] s u ∧
        beside { u with fld := s.fld } = beside s) ∧
    (∀ n, n < 16 → p = Pg.ben n → writeReaches s who p 0x08 = true → pageEnabled s p = true → benRun s n ≠ 0 →
      ∃ u, exec (.pageEnableWrite who p false) s = .next (settle u) ∧
      pageEnabled u p = false ∧ benRun u n = 0 ∧ getF u p F.BEN_STAT_STOP_WHY = 5 ∧ (getW u p 0x10).getLsbD 3 = true ∧
        OnlyRegs [regKey p 0x08, regKey p 0x10, regKey p 0x18, fKey p F.BEN_STAT_RUN_STATE, fKey p F.BEN_STAT_STALL_ON, fKey p F.BEN_STAT_STOP_WHY] s u) ∧
    (∀ on, writeReaches s who p 0x08 = true → ∃ u, exec (.freezeWrite who p on) s = .next (settle u) ∧
      getB u p F.PAGE_CTL_FREEZE = on ∧ pageEnabled u p = pageEnabled s p ∧ SameRegs [regKey p 0x08] s u ∧
        beside { u with frozen := s.frozen } = beside s) ∧
    (∀ v, writeReaches s who p 0x14 = true → ∃ u, exec (.irqEnWrite who p v) s = .next (settle u) ∧
      getW u p 0x14 = v &&& irqMask p ∧ getW u p 0x18 = getW s p 0x18 ||| (getW s p 0x10 &&& (v &&& irqMask p)) ∧
        OnlyRegs [regKey p 0x14, regKey p 0x18] s u)) ∧
  (∀ (s : State) (who : Agent) (p : Nat),
    (resetQuiet s p = true → writeReaches s who p 0x08 = true → ∃ u, exec (.blockReset who p) s = .next (settle u) ∧
      pageBusyState u p = 2 ∧ OnlyRegs [regKey p 0x0C] s u) ∧
    (alive s = true → plainBlock p = true → pageBusyState s p = 2 → ∃ u, exec (.blockResetDone p) s = .next (settle u) ∧
      pageBusyState u p = 0 ∧ beside u = beside s ∧
        (∀ q o, q ≠ p → o < 0x1000 → getW u q o = getW s q o) ∧
        ∀ o, o < 0x1000 → o / 4 ≠ 3 → tabGet u.regs (regKey p o) = (tabGet s.regs (regKey p o)).map (warmWord p (o / 4 * 4))) ∧
    (∀ data, alive s = true → ∃ u, exec (.lateAcknowledge p data) s = .next (settle u) ∧ u = cleared s))

/-- REGISTER_WRITE of a whole register of the ring die that its page takes, that is no command and that nothing follows from (R7, R9) completes: the
register holds what its access codes make of the value, and no other register changes; an event that sets W1C or W1S bits in the same step comes
after it, so its bits are set. A host write goes in the order of the host's accesses (R189). ERR_COUNT_READ and RC_COUNTER_READ (R9, R58) complete:
the read answers the word shown and clears the register's RC fields; errors that meet the read of ERR_COUNT count after it. -/
def Obligations.RegistersStoreAndReadsClear : Prop :=
  (∀ (s : State) (who : Agent) (p off : Nat) (v b : Word), writeTaken s who p off v = true → 0x40 ≤ off → isFieldPage p = false →
    (∀ t, ringCmd t who p off v (leBytes 4 v.toNat) false = none) → (∀ t o, afterWrite t p off o = t) → (who = .host → hostFirst s = true) →
    (∃ u, exec (.registerWrite who p off (leBytes 4 v.toNat) .none) s = .next (settle u) ∧
      getW u p off = storedWord p off (getW s p off) v v ∧ OnlyRegs [regKey p off] s u) ∧
    (∃ u, exec (.registerWrite who p off (leBytes 4 v.toNat) (.bits b)) s = .next (settle u) ∧
      getW u p off = (storedWord p off (getW s p off) v v ||| (b &&& accMask p off fun a => a == .w1s || a == .w1c)) ∧ OnlyRegs [regKey p off] s u)) ∧
  (∀ (s : State) (who : Agent) (p : Nat),
    (∀ meet, accReaches s who p 0x20 = true → meet.length < 2 ^ 32 → ∃ u, exec (.errCountRead who p meet) s = .next (settle u) ∧
      getF u p F.ERR_COUNT_COUNT = meet.length ∧ (meet = [] → OnlyRegs [regKey p 0x20] s u ∧ Answers s u who p 0x20 (shownWord s p 0x20))) ∧
    (∀ off, accReaches s who p off = true → (∀ t, popWord t p off = none) → ¬(p = Pg.tmk ∧ off = 0x48) →
      ∃ u, exec (.rcCounterRead who p off) s = .next (settle u) ∧
        getW u p off = getW s p off &&& ~~~(accMask p off fun a => a == .rc) ∧ OnlyRegs [regKey p off] s u ∧
          Answers s u who p off (shownWord s p off)))

/-- INT_EOI and MSIX_PENDING_SEND (R64, R213) complete: a write of a vector whose level is 1 fires it, also where a source becomes pending in the same
step, and one whose level is 0 does nothing; a held vector is sent once nothing holds it back and its level is 1. Nothing but page INT changes.
WATCH_MEASURE (R27) completes: while the reference is there the deviations are stored; one beyond ±5 % sets its out-of-tolerance bit, and a bit that
is set stays set. Without a deviation beyond ±5 % only the register WATCH changes, and without the reference nothing does. HANDSHAKE_TIMEOUT (R29,
R30) completes: without the acknowledge the page of a ring-die block that holds no items is in HANG, its HANG bit is set, and the fault log gains a
record while it has room; with AUTO_RESET the block is in its reset instead; with the acknowledge in the same step nothing changes. -/
def Obligations.VectorsWatchAndHandshakes : Prop :=
  (∀ (s : State) (who : Agent) (v : Nat), v < 64 →
    (writeReaches s who Pg.int 0x44 = true → ∃ u, exec (.intEoi who v none) s = .next (settle u) ∧
      (if vecLevel s v then Fires s u v else u.intr = s.intr) ∧ u.regs = s.regs ∧ beside { u with intr := s.intr } = beside s) ∧
    (∀ p b, alive s = true → pageAssigned p = true → b < irqCount p → ∃ u, exec (.intEoi who v (some (p, b))) s = .next (settle u) ∧
      (if vecLevel (irqEvent s p b) v then Fires (irqEvent s p b) u v else u.intr = s.intr) ∧ u.regs = (irqEvent s p b).regs ∧
        beside { u with intr := s.intr } = beside s) ∧
    (alive s = true → ∃ u, exec (.msixPendingSend v) s = .next (settle u) ∧
      (if s.intr.pba.getLsbD v ∧ msixFree s v then
        u.intr.pba.getLsbD v = false ∧ (s.intr.vec.getLsbD v → Out.msix v ∈ u.out) else u.intr = s.intr) ∧
        u.regs = s.regs ∧ beside { u with intr := s.intr } = beside s)) ∧
  (∀ (s : State) (r f : Int), alive s = true →
    (getB s Pg.tmk F.TMK_STAT_REF_OK = true → ∃ u, exec (.watchMeasure r f) s = .next (settle u) ∧
      getF u Pg.gen F.GEN_WATCH_RING_DEV = ofSigned 16 r % 65536 ∧ getF u Pg.gen F.GEN_WATCH_FIELD_DEV = ofSigned 16 f % 65536 ∧
      getB u Pg.gen F.GEN_WATCH_STAT_RING_OOT = (getB s Pg.gen F.GEN_WATCH_STAT_RING_OOT || decide (500 < r ∨ r < -500)) ∧
      getB u Pg.gen F.GEN_WATCH_STAT_FIELD_OOT = (getB s Pg.gen F.GEN_WATCH_STAT_FIELD_OOT || decide (500 < f ∨ f < -500)) ∧
      (r ≤ 500 → -500 ≤ r → f ≤ 500 → -500 ≤ f → OnlyRegs [fKey Pg.gen F.GEN_WATCH_RING_DEV] s u)) ∧
    (getB s Pg.tmk F.TMK_STAT_REF_OK = false → ∃ u, exec (.watchMeasure r f) s = .next (settle u) ∧ u = cleared s)) ∧
  (∀ (s : State) (p : Nat) (cls : HsClass), alive s = true →
    (hangQuiet s p = true → getB s Pg.gen F.GEN_WATCH_CTL_AUTO_RESET = false → ∃ u, exec (.handshakeTimeout p cls false) s = .next (settle u) ∧
      pageBusyState u p = 3 ∧ getB u p F.PAGE_STAT_HANG = true ∧
        (s.test.flog.length < 128 → u.test.flog.length = s.test.flog.length + 1)) ∧
    (hangQuiet s p = true → resetQuiet s p = true → getB s Pg.gen F.GEN_WATCH_CTL_AUTO_RESET = true →
      ∃ u, exec (.handshakeTimeout p cls false) s = .next (settle u) ∧
      pageBusyState u p = 2 ∧ getB u p F.PAGE_STAT_HANG = true ∧
        (s.test.flog.length < 128 → u.test.flog.length = s.test.flog.length + 1)) ∧
    ∃ u, exec (.handshakeTimeout p cls true) s = .next (settle u) ∧ u = cleared s)

/-- SIGNAL_LOCK_CHANGE, LINK_UP and LINK_DOWN (R68, R219) complete: signal detect and the locks are taken over, where the port has a mode and the
reference is there, and a port that is not UP shows TRAINING while its receiver detects a signal; a locked port comes UP once start-up has passed
step 9; a port without its locks leaves UP, and HELLO is gone with it (stated where no frame stands for the port, whose references would end
PORT_DOWN). Where no flow holds records, nothing but the port's page, and BUF's count of reclaimed cells, changes. PORT_CFG_WRITE (R69) of a value
that its page takes completes: PORT.CFG holds it. Where MODE, FEC and ROLE stay, no other register changes; where one of them changes the port loses
its locks, and a port that was UP leaves UP (stated where no frame stands for it). WALK_DONE and LEAK_SWEEP (R156) complete: the walker takes up its
next port, a leak sweep that ends gives back every cell that is on no list, and source WALK_DONE of page BUF is raised; a sweep that is asked for
joins the walker's work once. -/
def Obligations.LinksPortsAndWalker : Prop :=
  (∀ (s : State) (p : Port), alive s = true → isEthPort p = true →
    (∀ signal pcs fec speed, ∃ u, exec (.signalLockChange p signal pcs fec speed) s = .next (settle u) ∧
      u.ring = { s.ring with signal := (s.ring.signal.filter (· != p)) ++ (if signal then [p] else []) } ∧
      getB u (portPage p) F.PORT_STAT_PCS_LOCK = (pcs && getB s Pg.tmk F.TMK_STAT_REF_OK && portMode s p != 0) ∧
      getB u (portPage p) F.PORT_STAT_FEC_LOCK = (fec && getB s Pg.tmk F.TMK_STAT_REF_OK && portMode s p != 0 && portFec s p != 0) ∧
      (getF s (portPage p) F.PORT_STAT_LINK ≠ 2 → getF u (portPage p) F.PORT_STAT_LINK = if portMode s p ≠ 0 ∧ signal = true then 1 else 0) ∧
      OnlyPages [portPage p, Pg.tmk] s u ∧ beside { u with ring := s.ring, fresh := s.fresh } = beside s) ∧
    (10 ≤ getF s Pg.rst F.RST_STAT_STEP → portLocked s p = true → getF s (portPage p) F.PORT_STAT_LINK ≠ 2 →
      ∃ u, exec (.linkUp p) s = .next (settle u) ∧ getF u (portPage p) F.PORT_STAT_LINK = 2 ∧ (getW u (portPage p) 0x10).getLsbD 2 = true ∧
        (s.seq.flows = [] → OnlyRegs (fKey (portPage p) F.PORT_STAT_LINK :: irqKeys (portPage p)) s u)) ∧
    (portLocked s p = false → getF s (portPage p) F.PORT_STAT_LINK = 2 → tabGet s.sw.onWire (portIdx p) = none →
      (∀ c, c < 8 → queueOf s p c = []) →
      ∃ u, exec (.linkDown p) s = .next (settle u) ∧
        getF u (portPage p) F.PORT_STAT_LINK = restingLink s p ∧ getF u (portPage p) F.PORT_STAT_HELLO = 0 ∧
        (s.seq.flows = [] → OnlyPages [portPage p, Pg.buf] s u))) ∧
  (∀ (s : State) (who : Agent) (n : Nat) (v w : Word), n < 4 → writeTaken s who (Pg.port n) 0x40 v = true →
    w = storedWord (Pg.port n) 0x40 (getW s (Pg.port n) 0x40) v v →
    (wordBits w 0 10 = wordBits (getW s (Pg.port n) 0x40) 0 10 → ∃ u, exec (.portCfgWrite who n v) s = .next (settle u) ∧
      getW u (Pg.port n) 0x40 = w ∧ OnlyRegs [regKey (Pg.port n) 0x40] s u) ∧
    (wordBits w 0 10 ≠ wordBits (getW s (Pg.port n) 0x40) 0 10 → getF s (Pg.port n) F.PORT_STAT_LINK ≠ 2 →
      ∃ u, exec (.portCfgWrite who n v) s = .next (settle u) ∧
      getW u (Pg.port n) 0x40 = w ∧ getB u (Pg.port n) F.PORT_STAT_PCS_LOCK = false ∧ getB u (Pg.port n) F.PORT_STAT_FEC_LOCK = false ∧
        OnlyPages [Pg.port n, Pg.port 2, Pg.port 3, Pg.nod] s u ∧ beside u = beside s) ∧
    (wordBits w 0 10 ≠ wordBits (getW s (Pg.port n) 0x40) 0 10 → getF s (Pg.port n) F.PORT_STAT_LINK = 2 →
      tabGet s.sw.onWire n = none → (∀ c, c < 8 → queueOf s (portOf n) c = []) → ∃ u, exec (.portCfgWrite who n v) s = .next (settle u) ∧
      getW u (Pg.port n) 0x40 = w ∧ getF u (Pg.port n) F.PORT_STAT_LINK ≠ 2 ∧ getB u (Pg.port n) F.PORT_STAT_PCS_LOCK = false ∧
        getB u (Pg.port n) F.PORT_STAT_FEC_LOCK = false ∧ getF u (Pg.port n) F.PORT_STAT_HELLO = 0)) ∧
  (∀ (s : State) (who : Agent),
    (∀ w ws, alive s = true → s.sw.walk = w :: ws → ∃ u, exec (.walkDone) s = .next (settle u) ∧
      u.sw = { s.sw with walk := ws, lost := if w = 7 then [] else s.sw.lost } ∧
      (w = 7 → getF u Pg.buf F.BUF_LEAKED = (getF s Pg.buf F.BUF_LEAKED + s.sw.lost.length) % 2 ^ 32) ∧
      getW u Pg.buf 0x10 = getW s Pg.buf 0x10 ||| 16#32 ∧
      SameRegs (fKey Pg.buf F.BUF_LEAKED :: irqKeys Pg.buf) s u ∧ beside { u with sw := s.sw } = beside s) ∧
    (writeReaches s who Pg.buf 0x78 = true → ∃ u, exec (.leakSweep who) s = .next (settle u) ∧
      u.sw = { s.sw with walk := if s.sw.walk.contains 7 then s.sw.walk else s.sw.walk ++ [7] } ∧ u.regs = s.regs ∧
      beside { u with sw := s.sw } = beside s))

/-- HSR_FRAME_RX (R71, R72) of a good plain frame on an HSR port that is UP completes: a transit frame of another source that has no duplicate-discard
entry gets one that names the other port of its ring, and joins its class queue there unless its head leaves at once; one whose entry names that
port is counted as a duplicate and goes nowhere; a frame whose source is this hub is counted and goes nowhere. DD_ENTRY_EXPIRE (R72) completes: the
entry is gone, and no other. REDBOX_FRAME_RX and PROXY_EXPIRE (R70, R74) complete: a good plain frame of a device behind a RedBox port makes the
device a proxy of that port while the table has room, and leaves as an HSR pair with the next sequence number of this hub where no headgate meters
its point; a proxy that is silent is gone, and PROXY_USED of both ports follows the table. -/
def Obligations.RingFramesAndProxies : Prop :=
  (∀ (s : State) (p : Port) (f : Frame) (rx : RxMeta) (h : HsrTag), alive s = true → isHsrPort s p = true → portUp s p = true → rxGood f rx = true →
    f.hsr = some h → rx.fecCorr = 0 → rx.fecUncorr = 0 → isPdelay f = false → ingressShut s p = false → isKvlType s f = false →
    (f.smac = ownMac s → ∃ u, exec (.hsrFrameRx p f rx) s = .next (settle u) ∧
      getF u (portPage p) F.PORT_RX_FRAMES = (getF s (portPage p) F.PORT_RX_FRAMES + 1) % 2 ^ 32 ∧
      getF u (portPage p) F.PORT_HSR_OWN = (getF s (portPage p) F.PORT_HSR_OWN + 1) % 2 ^ 32 ∧
      OnlyRegs [fKey (portPage p) F.PORT_RX_FRAMES, fKey (portPage p) F.PORT_HSR_OWN] s u) ∧
    (f.smac ≠ ownMac s → isProxied s f.smac = false → isProxied s f.dmac = false → pairAnswers s = false → isCoupler s = false →
      f.dmac ≠ ownMac s → isGroup f.dmac = false →
      (ddGet s (isSubPort p) f.smac h.seq = none → s.ring.dd.length < 8192 → portTakes s (otherPort p) = true →
        poolRoom s 0 f [otherPort p] = true → ∃ u, exec (.hsrFrameRx p f rx) s = .next (settle u) ∧
        u.ring = { s.ring with
          dd := s.ring.dd ++ [{ smac := f.smac, seq := h.seq, sub := isSubPort p, delivered := false, fwd := [otherPort p] }] } ∧
        getF u (portPage p) F.PORT_RX_FRAMES = (getF s (portPage p) F.PORT_RX_FRAMES + 1) % 2 ^ 32 ∧
        (cutOk s p (otherPort p) = false → Leaves s u f (frameClass s f) [otherPort p])) ∧
      (∀ e, ddGet s (isSubPort p) f.smac h.seq = some e → e.fwd.contains (otherPort p) = true → ∃ u, exec (.hsrFrameRx p f rx) s = .next (settle u) ∧
        getF u (portPage p) F.PORT_HSR_DUP = (getF s (portPage p) F.PORT_HSR_DUP + 1) % 2 ^ 32 ∧
        OnlyRegs [fKey (portPage p) F.PORT_RX_FRAMES, fKey (portPage p) F.PORT_HSR_DUP] s u)) ∧
    (∀ smac seq sub, ∃ u, exec (.ddEntryExpire smac seq sub) s = .next (settle u) ∧
      ddGet u sub smac seq = none ∧ (∀ smac' seq' sub', (smac', seq', sub') ≠ (smac, seq, sub) → ddGet u sub' smac' seq' = ddGet s sub' smac' seq') ∧
      u.regs = s.regs ∧ beside { u with ring := s.ring } = beside s)) ∧
  (∀ (s : State) (p : Port) (f : Frame) (mac : Nat), alive s = true →
    (isSubPort p = true → portRole s p = 1 → portUp s p = true → f.fcs = .good → frameLen f ≤ 9216 → f.hsr = none → isKvlType s f = false →
      ingressShut s p = false → s.ring.proxies.length < 512 →
      ∃ u, exec (.redboxFrameRx p f) s = .next (settle u) ∧ (f.smac, p) ∈ u.ring.proxies ∧ (∀ x ∈ u.ring.proxies, x.1 = f.smac → x.2 = p) ∧
        getF u (portPage p) F.PORT_RX_FRAMES = (getF s (portPage p) F.PORT_RX_FRAMES + 1) % 2 ^ 32 ∧
        (pointHeadgate s (portIdx p - 2) (frameClass s f) = none → f.smac ≠ pairMac s →
          poolRoom s (poolOf false (frameClass s f)) (tagged s f) [.e, .w] = true → Leaves s u (tagged s f) (frameClass s f) [.e, .w])) ∧
    ∃ u, exec (.proxyExpire mac) s = .next (settle u) ∧
      isProxied u mac = false ∧ u.ring = { s.ring with proxies := s.ring.proxies.filter (·.1 != mac) } ∧
      (∀ c ∈ [Port.c1, Port.c2], getF u (portPage c) F.PORT_PROXY_USED_USED = (u.ring.proxies.filter (·.2 == c)).length % 2 ^ F.PORT_PROXY_USED_USED.w) ∧
      beside { u with ring := s.ring } = beside s ∧
      SameRegs [fKey (portPage .c1) F.PORT_PROXY_USED_USED, fKey (portPage .c2) F.PORT_PROXY_USED_USED] s u)

/-- HELLO_SEND, HELLO_RX and HELLO_TIMEOUT (R77, R78, R82, R86) complete: HELLO with the enabled versions leaves, untagged, on the first port that
carries HELLO, and a written version set counts from then on; a HELLO that arrives gives the port the highest version that both ends enable, or
MISMATCH where there is none; silence sets HELLO back to none. ANNOUNCE_SEND and HSR_SUPERVISION_SEND (R70, R73, R88) of a hub that is no coupler
and has no RedBox port complete: the frame leaves with the next HSR sequence number on both ports of the ring. -/
def Obligations.HelloAndSupervision : Prop :=
  (∀ (s : State) (p : Port), alive s = true →
    (∀ ps f, helloPorts s = p :: ps → portTakes s p = true →
      f = { kvlFrame s macHello (ownMac s) (plainHdr s tyHello 7) (beBytes 1 (getF s Pg.kvl F.KVL_VER_EN)) with hsr := none } →
      hasRoom s f 7 [p] = true →
      ∃ u, exec .helloSend s = .next (settle u) ∧ Leaves s u f 7 [p] ∧ u.ring = { s.ring with helloOld := none } ∧ OnlyPages storePages s u ∧
        beside { u with sw := s.sw, ring := s.ring, test := s.test } = beside s) ∧
    (∀ f k, p ∈ helloPorts s → f.fcs = .good → frameLen f ≤ 9216 → ingressShut s p = false → isHello s f = true → kvlParse f.payload = some k →
      verOk s k = true → bodyOk k f = true →
      (topVer (linkEn s &&& beAt (kvlBody f.payload k) 0 1) = 0 → ∃ u, exec (.helloRx p f) s = .next (settle u) ∧
        getF u (portPage p) F.PORT_STAT_HELLO = 2 ∧ getF u (portPage p) F.PORT_STAT_LINK_VER = 0 ∧
        (getF s (portPage p) F.PORT_STAT_HELLO ≠ 2 → (getW u (portPage p) 0x10).getLsbD 3 = true) ∧
        getF u Pg.kvl F.KVL_RX_KVL = (getF s Pg.kvl F.KVL_RX_KVL + 1) % 2 ^ 32 ∧ OnlyPages [portPage p, Pg.kvl] s u ∧
        beside { u with pair := s.pair } = beside s) ∧
      (topVer (linkEn s &&& beAt (kvlBody f.payload k) 0 1) ≠ 0 → ∃ u, exec (.helloRx p f) s = .next (settle u) ∧
        getF u (portPage p) F.PORT_STAT_HELLO = 1 ∧
        getF u (portPage p) F.PORT_STAT_LINK_VER = topVer (linkEn s &&& beAt (kvlBody f.payload k) 0 1) ∧
        getF u Pg.kvl F.KVL_RX_KVL = (getF s Pg.kvl F.KVL_RX_KVL + 1) % 2 ^ 32 ∧ OnlyPages [portPage p, Pg.kvl] s u ∧
        beside { u with pair := s.pair } = beside s)) ∧
    (isEthPort p = true → ∃ u, exec (.helloTimeout p) s = .next (settle u) ∧
      getF u (portPage p) F.PORT_STAT_HELLO = 0 ∧ getF u (portPage p) F.PORT_STAT_LINK_VER = 0 ∧
        OnlyRegs [fKey (portPage p) F.PORT_STAT_HELLO, fKey (portPage p) F.PORT_STAT_LINK_VER] s u)) ∧
  (∀ (s : State) (f : Frame) (c : Nat), alive s = true → isCoupler s = false → hasRoom s (tagged s f) c [.e, .w] = true →
    (f = kvlFrame s macAnnounce (ownMac s) { plainHdr s tyAnnounce 7 with dup := true }
          (annBody (ownNode s) false false (getB s Pg.nod F.NOD_SELF_STAT_CONFLICT) (getF s Pg.kvl F.KVL_VER_EN) (getF s Pg.kvl F.KVL_SUPV_PERIOD) (ownEpoch s) 0) →
      c = 7 → s.ring.verOld = none → ∃ u, exec .announceSend s = .next (settle u) ∧
        Leaves s u (tagged s f) c [.e, .w] ∧ u.ring = { s.ring with hsrSeq := (s.ring.hsrSeq + 1) % 65536 } ∧
        OnlyPages storePages s u ∧ beside { u with sw := s.sw, ring := s.ring, test := s.test } = beside s) ∧
    (s.ring.proxies = [] → portRole s .c1 ≠ 1 → portRole s .c2 ≠ 1 → f = supervision s s.ring.hsrSeq (ownMac s) true → c = frameClass s f →
      ∃ u, exec .hsrSupervisionSend s = .next (settle u) ∧ Leaves s u (tagged s f) c [.e, .w] ∧ u.ring = { s.ring with hsrSeq := (s.ring.hsrSeq + 1) % 65536 } ∧
        OnlyPages storePages s u ∧ beside { u with sw := s.sw, ring := s.ring, test := s.test } = beside s))

/-- ANNOUNCE_RX, NODE_LOSS and REACH_EXPIRE (R89 to R92) of a hub that is no coupler complete: a node heard for the first time becomes PRESENT with what
it announced; one that announces what it announced before changes nothing but its REACH; one that has been silent becomes LOST and keeps what it
announced, unless an ANNOUNCE of it meets the bound; and a path that has been silent leaves REACH. A change counts, is recorded and raises its
source. CHG_POP, NODE_NUMBER_WRITE, VER_EN_WRITE and RB_CTL_WRITE (R86, R91, R99, R483) complete: a read of CHG_POP gives the oldest change record
and removes it, or 0; a new own number that no entry holds ends a number conflict; KVL.VER holds the enabled versions written, while the hub
negotiates by what it had until its next ANNOUNCE and HELLO; a re-basing entry takes PATH and CTL together. COUPLER_FORWARD (R95) of a CPL that the
ring side brings for a route behind this coupler completes: it leaves on the subring with the route less its first level, and with UP of the source
route one higher, to the address of the next node. -/
def Obligations.NodesAndCouplers : Prop :=
  (∀ (s : State), alive s = true → isCoupler s = false →
    (∀ p f k s1, takeLocal s (fun _ _ k => k.type == tyAnnounce) = some ((p, f, k), s1) → (annOf f k).conflict = false →
      (isSubPort p = true ∨ (annOf f k).node ≠ ownNode s) → (judgeEntry s (isSubPort p) (annOf f k).node (annOf f k).verSet).1 = 1 →
      (nodeEnt s (isSubPort p) (annOf f k).node = none → s.ring.chg.length < 64 → ∃ u, exec .announceRx s = .next (settle u) ∧
        nodeEnt u (isSubPort p) (annOf f k).node =
          some (annEntry s (isSubPort p) (annOf f k) (1, topVer (verEn s &&& (annOf f k).verSet))) ∧
        (∀ sub n, (sub, n) ≠ (isSubPort p, (annOf f k).node) → nodeEnt u sub n = nodeEnt s sub n) ∧
        getF u Pg.nod F.NOD_GEN_GEN = (getF s Pg.nod F.NOD_GEN_GEN + 1) % 2 ^ 32 ∧ (getW u Pg.nod 0x10).getLsbD 2 = true ∧
        u.ring.chg = s.ring.chg ++ [{ node := (annOf f k).node, sub := isSubPort p, state := 1, reason := 1, gen := getF u Pg.nod F.NOD_GEN_GEN % 65536 }]) ∧
      (∀ e, nodeEnt s (isSubPort p) (annOf f k).node = some e → e.state = 1 → e.mac = (annOf f k).mac → e.epoch = (annOf f k).epoch →
        e.groupGen = (annOf f k).groupGen → e.verSet = (annOf f k).verSet → e.negVer = topVer (verEn s &&& (annOf f k).verSet) →
        ∃ u, exec .announceRx s = .next (settle u) ∧
        nodeEnt u (isSubPort p) (annOf f k).node = some (annEntry s (isSubPort p) (annOf f k) (1, e.negVer)) ∧
        u.ring.chg = s.ring.chg ∧ getF u Pg.nod F.NOD_GEN_GEN = getF s Pg.nod F.NOD_GEN_GEN)) ∧
    (∀ sub n e, nodeEnt s sub n = some e → (e.state = 1 ∨ e.state = 3 ∨ e.state = 4) →
      (announceWaits s sub e.mac = false → s.ring.chg.length < 64 → ∃ u, exec (.nodeLoss sub n) s = .next (settle u) ∧
        nodeEnt u sub n = some { e with state := 2, reachE := false, reachW := false } ∧
        (∀ sub' n', (sub', n') ≠ (sub, n) → nodeEnt u sub' n' = nodeEnt s sub' n') ∧
        getF u Pg.nod F.NOD_GEN_GEN = (getF s Pg.nod F.NOD_GEN_GEN + 1) % 2 ^ 32 ∧ (getW u Pg.nod 0x10).getLsbD 3 = true ∧
        u.ring.chg = s.ring.chg ++ [{ node := n, sub := sub, state := 2, reason := 2, gen := getF u Pg.nod F.NOD_GEN_GEN % 65536 }]) ∧
      (announceWaits s sub e.mac = true → ∃ u, exec (.nodeLoss sub n) s = .next (settle u) ∧ u = cleared s)) ∧
    (∀ n e, nodeEnt s false n = some e → (e.state = 1 ∨ e.state = 3 ∨ e.state = 4) → e.reachE = true → e.reachW = true →
      (∃ u, exec (.reachExpire false n .e) s = .next (settle u) ∧ nodeEnt u false n = some { e with reachE := false } ∧ u.ring.chg = s.ring.chg) ∧
      (∃ u, exec (.reachExpire false n .w) s = .next (settle u) ∧ nodeEnt u false n = some { e with reachW := false } ∧ u.ring.chg = s.ring.chg))) ∧
  (∀ (s : State) (who : Agent) (v : Word),
    (accReaches s who Pg.nod 0x64 = true → s.ring.chg = [] → ∃ u, exec (.chgPop who) s = .next (settle u) ∧
      Answers s u who Pg.nod 0x64 0#32 ∧ u.ring = s.ring ∧ u.regs = s.regs) ∧
    (∀ r rs, accReaches s who Pg.nod 0x64 = true → s.ring.chg = r :: rs → ∃ u, exec (.chgPop who) s = .next (settle u) ∧
      u.ring = { s.ring with chg := rs } ∧ u.regs = s.regs ∧
          Answers s u who Pg.nod 0x64 (BitVec.ofNat 32 (r.node + (if r.sub then 64 else 0) + 128 + 256 * r.state + 2048 * r.reason + 65536 * r.gen))) ∧
    (writeTaken s who Pg.nod 0x40 v = true → (∀ n, nodeEnt s false n = none) → ∃ u, exec (.nodeNumberWrite who v) s = .next (settle u) ∧
      getW u Pg.nod 0x40 = storedWord Pg.nod 0x40 (getW s Pg.nod 0x40) v v ∧
        (ownNode u ≠ ownNode s → getB u Pg.nod F.NOD_SELF_STAT_CONFLICT = false) ∧
        OnlyRegs [regKey Pg.nod 0x40, fKey Pg.nod F.NOD_SELF_STAT_CONFLICT] s u) ∧
    (writeTaken s who Pg.kvl 0x44 v = true → ∃ u, exec (.verEnWrite who v) s = .next (settle u) ∧
      getW u Pg.kvl 0x44 = storedWord Pg.kvl 0x44 (getW s Pg.kvl 0x44) v v ∧ verEn u = verEn s ∧ linkEn u = linkEn s ∧
        SameRegs [regKey Pg.kvl 0x44] s u ∧ u.ring = { s.ring with verOld := u.ring.verOld, helloOld := u.ring.helloOld } ∧
        beside { u with ring := s.ring } = beside s) ∧
    (∀ k, k < 16 → writeTaken s who Pg.nod (0x104 + 8 * k) v = true → ∃ u, exec (.rbCtlWrite who k v) s = .next (settle u) ∧
      tabGet u.ring.rb k = some (getW s Pg.nod (0x100 + 8 * k), storedWord Pg.nod (0x104 + 8 * k) (getW s Pg.nod (0x104 + 8 * k)) v v) ∧
        (∀ j, j ≠ k → tabGet u.ring.rb j = tabGet s.ring.rb j) ∧ SameRegs [regKey Pg.nod (0x104 + 8 * k)] s u ∧
        beside { u with ring := s.ring } = beside s)) ∧
  (∀ (s s1 : State) (p : Port) (f : Frame) (k : Kvl) (mac : Nat) (g : Frame), alive s = true → isCoupler s = true → (p = .e ∨ p = .w) →
    takeLocal s (forForward s) = some ((p, f, k), s1) → k.type = tyCpl →
    getB s Pg.nod F.NOD_SELF_STAT_UPLINK_CONFLICT = false → routeUp k.dst = 0 → routeL1 k.dst = ownNode s → routeL2 k.dst ≠ 0 →
    routeUp k.src = 0 → routeL1 k.src ≠ ownNode s →
    onwardMac s { sub := true, dst := mkRoute 0 ((routeLevels k.dst).drop 1), rewrite := false } = .inr mac →
    g = kvlFrame s mac (ownMac s) { k with dst := mkRoute 0 ((routeLevels k.dst).drop 1), src := mkRoute 1 (routeLevels k.src) } (kvlBody f.payload k) →
    hasRoom s1 (tagged s g) k.cls [.c1, .c2] = true → ∃ u, exec .couplerForward s = .next (settle u) ∧
      Leaves s1 u (tagged s g) k.cls [.c1, .c2] ∧ u.sw.localQ = s1.sw.localQ ∧
        u.ring = { s.ring with hsrSeq := (s.ring.hsrSeq + 1) % 65536 } ∧ OnlyPages storePages s u)

/-- TRANSACTION_ISSUE, SEQUENCE_ASSIGN and DURABILITY_DONE (R100, R104, R109, R110, R423, R424) complete: a transaction that no check refuses and no
headgate meters takes the lowest free tag and waits in its flow; without a tag, or while the hub accepts nothing, it waits for one; NOP and FILL are
no initiator's. The oldest that waits in a flow takes NEXT_SEQ, is open, and is accepted at once unless its flow is DURABLE; a DURABLE record is
accepted when its slot write is done, and the slot holds it; a slot that is lost is counted. -/
def Obligations.TransactionsAreAccepted : Prop :=
  ∀ (s : State), alive s = true →
    (∀ (x : TxnReq) tag, s.seq.running = true → opIssued x.op = true → lowestFree s.seq.tags (tagRange x.init x.op).1 (tagRange x.init x.op).2 = some tag →
      issueRefusal s (txnOf x tag) = none → flowHeadgate s x.flow = none → ∃ u, exec (.transactionIssue x) s = .next (settle u) ∧
        u.seq.tags = tag :: s.seq.tags ∧ flowOf u x.flow = { flowOf s x.flow with waiting := (flowOf s x.flow).waiting ++ [txnOf x tag] } ∧
          (∀ fl, fl ≠ x.flow → flowOf u fl = flowOf s fl) ∧ u.regs = s.regs ∧ beside { u with seq := s.seq } = beside s) ∧
    (∀ (x : TxnReq), opIssued x.op = true → (s.seq.running = false ∨ lowestFree s.seq.tags (tagRange x.init x.op).1 (tagRange x.init x.op).2 = none) →
      ∃ u, exec (.transactionIssue x) s = .next (settle u) ∧ u = { cleared s with seq := { s.seq with tagWait := s.seq.tagWait ++ [x] } }) ∧
    (∀ (x : TxnReq), (x.op = 7 ∨ x.op = 8) → ∃ u, exec (.transactionIssue x) s = .next (settle u) ∧ u = cleared s) ∧
    (∀ fl t ts, (flowOf s fl).waiting = t :: ts → mayAssign s fl = true → isPairFlow s fl = false →
      (∀ o ∈ (flowOf s fl).opens, o.seq ≠ (flowOf s fl).nextSeq) → ∃ u, exec (.sequenceAssign fl) s = .next (settle u) ∧
        (flowOf u fl).nextSeq = seqAdd (flowOf s fl).nextSeq 1 ∧ (flowOf u fl).first = false ∧ (flowOf u fl).waiting = ts ∧
          (flowOf u fl).opens = (flowOf s fl).opens ++
            [{ seq := (flowOf s fl).nextSeq, txn := t, first := (flowOf s fl).first, sent := false, fill := none,
               wait := if flowDurable s fl then .chest else .none, nop := false }] ∧
          (flowDurable s fl = false → Out.accept t.tag fl (flowOf s fl).nextSeq ∈ u.out ∧ u.seq.accepted = s.seq.accepted ++ [(t.init, t.tag)]) ∧
          (flowDurable s fl = true → u.seq.accepted = s.seq.accepted ∧ u.out = []) ∧ u.regs = s.regs ∧ beside { u with seq := s.seq } = beside s) ∧
    (∀ tag fl q o, s.seq.running = true → tagHolder s tag = some (fl, q) → openAt (flowOf s fl) q = some o → o.wait = .chest →
      ∃ u, exec (.durabilityDone tag none) s = .next (settle u) ∧
        openAt (flowOf u fl) q = some { o with wait := .none } ∧ Out.accept o.txn.tag fl q ∈ u.out ∧
          u.seq.accepted = s.seq.accepted ++ [(o.txn.init, o.txn.tag)] ∧ tabGet u.start.slots (slotPick s) = some (fl, { o with wait := .none }) ∧
          OnlyPages [Pg.chs] s u ∧ beside { u with seq := s.seq, start := s.start, fresh := s.fresh } = beside s) ∧
    (∀ tag addr, ∃ u, exec (.durabilityDone tag (some addr)) s = .next (settle u) ∧
      getF u Pg.chs F.CHS_SLOTS_LOST = (getF s Pg.chs F.CHS_SLOTS_LOST + 1) % 2 ^ 32 ∧ (getW u Pg.chs 0x10).getLsbD 4 = true ∧ u.seq = s.seq ∧
        u.start.slots = s.start.slots)

/-- FURROW_RELEASE and PORT_SELECT (R107, R138, R151, R170, R172, R173) complete: a burst of one record of a flow that is not fenced, within its age
limit, leaves as a REQ on the ports of its flow once the sluices hold tokens and its cells are there, or goes to this hub's own engine; an idle port
with tokens puts the head of the highest of its queues of classes 7 to 4 on the wire, where that frame is within its age limit and meets no error. -/
def Obligations.FramesLeave : Prop :=
  ∀ (s : State), alive s = true →
    (∀ fl q st o g, (flowOf s fl).furrow = [{ seqs := [q], stamp := st }] → openAt (flowOf s fl) q = some o → (flowOf s fl).pathFence = false →
      isAged s (flowCls s fl) st = false → (flowOf s fl).sentOnce = true → (flowOf s fl).peerEpoch ≠ 0 → isBcast o.txn = false → isPairFlow s fl = false →
      sluOpen s (Pg.slu (fl / 64)) (fl % 64) = true →
      (∀ p ∈ flowPorts s fl, portTakes s p = true → sluOpen s Pg.slu40 (svcSluice p (flowCls s fl)) = true) →
      g = kvlFrame s (flowDmac s fl) (ownMac s) (reqHdr s fl [q]) (beBytes 4 (oldestOpen (flowOf s fl)) ++ beBytes 4 0 ++ openRecBytes o) →
      poolRoom s (poolOf false (flowCls s fl)) g (flowPorts s fl) = true →
      (flowP1 s fl = 0 → ∃ u, exec (.furrowRelease fl) s = .next (settle u) ∧
        (∃ id d, tabGet u.sw.frames id = some d ∧ d.frame = g ∧ d.loc = some 0 ∧ u.sw.localQ = s.sw.localQ ++ [id]) ∧
          (flowOf u fl).furrow = [] ∧ openAt (flowOf u fl) q = some { o with sent := true } ∧
          (oldestOpen (flowOf s fl) = q → (flowOf u fl).timer = true) ∧ (flowOf u fl).floorAdv = oldestOpen (flowOf s fl) ∧ u.ring = s.ring) ∧
      (flowP1 s fl ≠ 0 → ∃ u, exec (.furrowRelease fl) s = .next (settle u) ∧
        Leaves s u (tagged s g) (flowCls s fl) (flowPorts s fl) ∧ u.ring = { s.ring with hsrSeq := (s.ring.hsrSeq + 1) % 65536 } ∧
          (flowOf u fl).furrow = [] ∧ openAt (flowOf u fl) q = some { o with sent := true } ∧
          (oldestOpen (flowOf s fl) = q → (flowOf u fl).timer = true) ∧ (flowOf u fl).floorAdv = oldestOpen (flowOf s fl))) ∧
    (∀ p c fid rest d, tabGet s.sw.onWire (portIdx p) = none → sluOpen s Pg.slu40 (portSluice p) = true → bpHeld s (portPage p) = false →
      [7, 6, 5, 4].find? (fun k => !(queueOf s p k).isEmpty) = some c → queueOf s p c = fid :: rest → tabGet s.sw.frames fid = some d →
      isAged s c d.stamp = false → s.test.badCells = [] →
      (isEthPort p = true → ∃ u, exec (.portSelect p none) s = .next (settle u) ∧
        queueOf u p c = rest ∧ tabGet u.sw.onWire (portIdx p) = some (fid, egressStamp s p) ∧ (∃ g, Out.frame p g d.stomped ∈ u.out) ∧
          getF u (portPage p) F.PORT_TX_FRAMES = (getF s (portPage p) F.PORT_TX_FRAMES + 1) % 2 ^ 32 ∧ u.sw.frames = s.sw.frames ∧ u.seq = s.seq) ∧
      (p = .m → ∃ u, exec (.portSelect p none) s = .next (settle u) ∧
        queueOf u p c = rest ∧ tabGet u.sw.onWire (portIdx p) = some (fid, egressStamp s p) ∧ (∃ g, Out.local g d.ingress d.rxTime ∈ u.out) ∧
          u.sw.frames = s.sw.frames ∧ u.seq = s.seq))

/-- AGE_SWEEP and NOP_SEND (R121, R153, R154) complete: where nothing is held, a sweep changes nothing; the burst of one record that is past its limit
is discarded and counted, its record stands as a FILL, and source AGED is raised; an idle flow to one node whose floor has passed the one it last
advertised, and a record other than a NOP with it, forms a NOP with its next number. BUCKET_REFILL and BUCKET_CTL_WRITE (R165, R175, R184) complete:
each headgate and each sluice gains one microsecond of its rate with the remainder it carries, and stops at its burst; a CTL write that is taken
commits what its entry holds: the staged rate becomes the active one, and CHG_FILL says what the tokens become. Entry 63 of the last sluice page is
none. -/
def Obligations.SweepAndBuckets : Prop :=
  (∀ (s : State), alive s = true →
    ((∀ p c, queueOf s p c = []) → (∀ fl ∈ allFlows s, (flowOf s fl).furrow = []) → ∃ u, exec .ageSweep s = .next (settle u) ∧ u = cleared s) ∧
    (∀ fl q st o, (∀ p c, queueOf s p c = []) → allFlows s = [fl] → (flowOf s fl).furrow = [{ seqs := [q], stamp := st }] →
      isAged s (flowCls s fl) st = true → openAt (flowOf s fl) q = some o → o.nop = false → o.fill = none → isBcast o.txn = false →
      ∃ u, exec .ageSweep s = .next (settle u) ∧
        openAt (flowOf u fl) q = some { o with fill := some 0x20, wait := .none } ∧ (getW u Pg.swc 0x10).getLsbD 3 = true ∧
          getF u Pg.swc F.SWC_AGED_FRAMES (flowCls s fl) = (getF s Pg.swc F.SWC_AGED_FRAMES (flowCls s fl) + 1) % 2 ^ 32 ∧
          getF u Pg.swc F.SWC_AGED_CPL = (getF s Pg.swc F.SWC_AGED_CPL + 1) % 2 ^ 32 ∧
          OnlyPages [Pg.swc] s u ∧ beside { u with seq := s.seq } = beside s) ∧
    (∀ fl, flowValid s fl = true → (flowOf s fl).opens = [] → (flowOf s fl).furrow = [] → (flowOf s fl).waiting = [] → (flowOf s fl).st = .opened →
      flowHop s fl ≠ 63 → (flowOf s fl).pathFence = false → (flowOf s fl).verFence = false → pairMute s fl = false →
      (flowOf s fl).floorAdv ≠ (flowOf s fl).nextSeq →
      (∃ q ∈ (flowOf s fl).closedNN, seqSub q (flowOf s fl).floorAdv < seqSub (flowOf s fl).nextSeq (flowOf s fl).floorAdv) →
      seqBelow (flowOf s fl).nextSeq (flowOf s fl).seqLimit = true → ∃ u, exec (.nopSend fl) s = .next (settle u) ∧
        (flowOf u fl).nextSeq = seqAdd (flowOf s fl).nextSeq 1 ∧
          (∃ o, (flowOf u fl).opens = [o] ∧ o.seq = (flowOf s fl).nextSeq ∧ o.nop = true ∧ o.txn.op = 7 ∧ o.first = (flowOf s fl).first) ∧
          (flowOf u fl).furrow.map (·.seqs) = [[(flowOf s fl).nextSeq]] ∧
          getF u Pg.seq F.SEQ_NOP_SENT = (getF s Pg.seq F.SEQ_NOP_SENT + 1) % 2 ^ 32 ∧
          OnlyRegs [fKey Pg.seq F.SEQ_NOP_SENT] s { u with seq := s.seq })) ∧
  (∀ (s : State) (who : Agent) (v : Word),
    (alive s = true → ∃ u, exec .bucketRefill s = .next (settle u) ∧
      (∀ hg, hg < 1024 → getF u (Pg.hdg hg) F.HDG_TOKENS_TOKENS (hg % 64) =
        max (getF s (Pg.hdg hg) F.HDG_TOKENS_TOKENS (hg % 64)) (min (getF s (Pg.hdg hg) F.HDG_CTL_BURST (hg % 64))
          (getF s (Pg.hdg hg) F.HDG_TOKENS_TOKENS (hg % 64) +
            (meterRem s (1024 * Pg.hdg hg + hg % 64) + hdgRate s (Pg.hdg hg) (hg % 64)) / 8000))) ∧
      (∀ j, j < 4159 → sluTokens u (Pg.slu (j / 64)) (j % 64) =
        max (sluTokens s (Pg.slu (j / 64)) (j % 64)) (min (getF s (Pg.slu (j / 64)) F.SLU_ACT_BURST_BURST (j % 64) : Int)
          (sluTokens s (Pg.slu (j / 64)) (j % 64) +
            ((meterRem s (1024 * Pg.slu (j / 64) + j % 64) + getF s (Pg.slu (j / 64)) F.SLU_ACT_RATE_RATE (j % 64)) / 8000 : Nat)))) ∧
      beside { u with meter := s.meter } = beside s) ∧
    (∀ p k, 0x080 ≤ p → p ≤ 0x08F → k < 64 → writeTaken s who p (0x104 + 16 * k) v = true → ∃ u, exec (.bucketCtlWrite who p k v) s = .next (settle u) ∧
      getW u p (0x104 + 16 * k) = storedWord p (0x104 + 16 * k) (getW s p (0x104 + 16 * k)) v v ∧
        hdgRate u p k = getF s p F.HDG_RATE_RATE k ∧
        getF u p F.HDG_TOKENS_TOKENS k = (if getF u p F.HDG_CTL_CHG_FILL k = 0 then getF u p F.HDG_CTL_BURST k
          else if getF u p F.HDG_CTL_CHG_FILL k = 1 then 0 else min (getF s p F.HDG_TOKENS_TOKENS k) (getF u p F.HDG_CTL_BURST k)) ∧
        SameRegs [regKey p (0x104 + 16 * k), fKey p F.HDG_TOKENS_TOKENS k] s u) ∧
    (∀ p k, 0x090 ≤ p → p ≤ 0x0D0 → k < 64 → ¬(p = 0x0D0 ∧ k = 63) → writeTaken s who p (0x108 + 32 * k) v = true → ∃ u, exec (.bucketCtlWrite who p k v) s = .next (settle u) ∧
      getW u p (0x108 + 32 * k) = storedWord p (0x108 + 32 * k) (getW s p (0x108 + 32 * k)) v v ∧
        getF u p F.SLU_ACT_RATE_RATE k = getF s p F.SLU_RATE_RATE k ∧ getF u p F.SLU_ACT_BURST_BURST k = getF s p F.SLU_BURST_BURST k ∧
        sluTokens u p k = (if getF u p F.SLU_CTL_CHG_FILL k = 0 then (getF s p F.SLU_BURST_BURST k : Int)
          else if getF u p F.SLU_CTL_CHG_FILL k = 1 then 0 else min (sluTokens s p k) (getF s p F.SLU_BURST_BURST k)) ∧
        OnlyRegs [regKey p (0x108 + 32 * k), fKey p F.SLU_ACT_RATE_RATE k, fKey p F.SLU_ACT_BURST_BURST k, fKey p F.SLU_TOKENS_TOKENS k] s u))

/-- RETRANSMIT_TIMEOUT, CPL_RX and ABORT_GO (R111 to R116, R148) complete: a time-out counts and sends what has been sent again; the last one closes
every record UNREACHABLE; a completion closes the number it answers and frees its tag; an abort makes an open record a FILL, one of a number that is
not open is recorded NOT_OPEN, and one that its completion meets comes back OK_LATE_ABORT beside that record. -/
def Obligations.RecordsClose : Prop :=
  ∀ (s : State) (fl : Nat), alive s = true →
    ((flowOf s fl).timer = true → (flowOf s fl).opens ≠ [] → pairMute s fl = false →
      ((flowOf s fl).pathFence = false → (flowOf s fl).tryCnt + 1 ≤ (flowOf s fl).retries → (flowOf s fl).furrow = [] →
        ∃ u, exec (.retransmitTimeout fl none) s = .next (settle u) ∧
        (flowOf u fl).tryCnt = (flowOf s fl).tryCnt + 1 ∧ (flowOf u fl).opens = (flowOf s fl).opens ∧ (flowOf u fl).retries = flowRetries s fl ∧
          getF u Pg.seq F.SEQ_RETRANSMIT =
            (getF s Pg.seq F.SEQ_RETRANSMIT + ((flowOf s fl).opens.filter fun o => o.sent && !isBcast o.txn).length) % 2 ^ 32 ∧
          OnlyRegs [fKey Pg.seq F.SEQ_RETRANSMIT] s { u with seq := s.seq }) ∧
      ((flowOf s fl).retries < (flowOf s fl).tryCnt + 1 → ∃ u, exec (.retransmitTimeout fl none) s = .next (settle u) ∧
        (flowOf u fl).opens = [] ∧ (flowOf u fl).timer = false ∧
        getF u Pg.seq F.SEQ_UNREACH_CLOSED = (getF s Pg.seq F.SEQ_UNREACH_CLOSED + ((flowOf s fl).opens.filter fun o => !o.nop).length) % 2 ^ 32)) ∧
    (∀ p f k s1 x r o, takeLocal s (fun _ _ k => k.type == tyCpl) = some ((p, f, k), s1) → cplBodyParse k.count (kvlBody f.payload k) = some (x, [r]) →
      flowValid s k.srcFlow = true → openAt (flowOf s k.srcFlow) (seqAdd k.baseSeq 0) = some o → o.fill = none → o.nop = false → o.txn.orphan = false →
      isPairFlow s k.srcFlow = false → r.status = St.ok → k.ver ≠ 3 →
      (∃ u, exec .cplRx s = .next (settle u) ∧
        openAt (flowOf u k.srcFlow) (seqAdd k.baseSeq 0) = none ∧ o.txn.tag ∉ u.seq.tags ∧ u.sw.localQ = s1.sw.localQ ∧ u.seq.log = s.seq.log ∧
          u.seq.closings = s.seq.closings ++ [{ init := o.txn.init, tag := o.txn.tag, status := St.ok, cause := r.cause,
                                                effectful := r.effectful, data := r.data, orphan := false }]) ∧
      (∀ who v, writeReaches s who Pg.seq 0x4C = true → wordBits v 0 12 = k.srcFlow → (getW s Pg.seq 0x48).toNat = seqAdd k.baseSeq 0 →
        r.filled = false → ∃ u, exec (.abortGo who v true) s = .next (settle u) ∧
        openAt (flowOf u k.srcFlow) (seqAdd k.baseSeq 0) = none ∧ o.txn.tag ∉ u.seq.tags ∧ (getW u Pg.seq 0x10).getLsbD 1 = true ∧
          getF u Pg.seq F.ERR_COUNT_COUNT = min (getF s Pg.seq F.ERR_COUNT_COUNT + 1) (2 ^ 32 - 1) ∧
          u.seq.closings = s.seq.closings ++ [{ init := o.txn.init, tag := o.txn.tag, status := St.okLateAbort, cause := r.cause,
                                                effectful := r.effectful, data := r.data, orphan := false }])) ∧
    (∀ who v, writeReaches s who Pg.seq 0x4C = true → wordBits v 0 12 = fl →
      (∀ o, flowValid s fl = true → openAt (flowOf s fl) (getW s Pg.seq 0x48).toNat = some o → o.fill = none →
        ∃ u, exec (.abortGo who v false) s = .next (settle u) ∧
          openAt (flowOf u fl) (getW s Pg.seq 0x48).toNat = some { o with fill := some St.aborted, wait := .none } ∧ u.regs = s.regs ∧
            beside { u with seq := s.seq } = beside s) ∧
      ((flowValid s fl = true → openAt (flowOf s fl) (getW s Pg.seq 0x48).toNat = none) → ∃ u, exec (.abortGo who v false) s = .next (settle u) ∧
        getF u Pg.seq F.ERR_COUNT_COUNT = min (getF s Pg.seq F.ERR_COUNT_COUNT + 1) (2 ^ 32 - 1) ∧ (getW u Pg.seq 0x10).getLsbD 1 = true ∧
          OnlyRegs (errKeys Pg.seq) s u))

/-- REQ_RX, DEFERRED_EXECUTE and BROADCAST_EVENT_RX (R101, R117, R118, R121, R122) of a WRITE or an EVENT to journal memory complete: the bytes are
written once, the context goes on to the next number and the answer is OK; a broadcast EVENT writes where it is ahead of the last one of its flow,
with the numbers between counted as gaps, and changes nothing where it is not. -/
def Obligations.TargetsExecute : Prop :=
  ∀ (s : State), alive s = true → s.seq.running = true → s.seq.runQ = [] → (∀ o, ibFind s o = none) → blockRefuses s Pg.jrn = none →
    (∀ p f k s1 floor r c, takeLocal s (isReqFor false) = some ((p, f, k), s1) → reqBodyParse k.count (kvlBody f.payload k) = some (floor, [r]) →
      k.ver ≠ 3 → pairRole s = 0 → ctxLookup s k.src k.srcFlow k.cls = none → freeCtx s = some c → r.first = true → floor = seqAdd k.baseSeq 0 →
      r.op = 2 → 1 ≤ r.len → r.len ≤ 256 → regionSpan r.off r.len = .journal → journalRefusal s 2 (r.off - 0x100000000) r.len = none →
      mustDefer s 2 = false → ∃ u, exec (.reqRx none) s = .next (settle u) ∧
        u.jmem = memWrite s.jmem (r.off - 0x100000000) (r.data.take r.len) ∧ u.sw.localQ = s1.sw.localQ ∧
          (∃ t, ctxOf u c = some t ∧ t.srcRoute = k.src ∧ t.srcFlow = k.srcFlow ∧ t.cls = k.cls ∧ t.ne = seqAdd (seqAdd k.baseSeq 0) 1 ∧ t.held = [] ∧
            t.cache.map (·.seq) = [seqAdd k.baseSeq 0]) ∧
          ∃ a, u.seq.answers = s.seq.answers ++ [a] ∧ a.seq = seqAdd k.baseSeq 0 ∧ a.ans = ansRec St.ok 0 r.tag) ∧
    (∀ c t h, ctxOf s c = some t → t.held = [h] → h.seq = t.ne → h.st = .held → h.repeats = [] → t.pairCtx = false → h.req.op = 2 → 1 ≤ h.req.len →
      h.req.len ≤ 256 → regionSpan h.req.off h.req.len = .journal → journalRefusal s 2 (h.req.off - 0x100000000) h.req.len = none →
      mustDefer s 2 = false → ∃ u, exec (.deferredExecute c) s = .next (settle u) ∧
        u.jmem = memWrite s.jmem (h.req.off - 0x100000000) (h.req.data.take h.req.len) ∧
          (∃ t', ctxOf u c = some t' ∧ t'.ne = seqAdd t.ne 1 ∧ t'.held = [] ∧ t'.deferred = false) ∧ OnlyPages [Pg.jrn, Pg.prt] s u) ∧
    (∀ p f k s1 floor r, takeLocal s (isReqFor true) = some ((p, f, k), s1) → reqBodyParse k.count (kvlBody f.payload k) = some (floor, [r]) →
      r.op = 6 → opMisaligned r = false → regionSpan r.off 8 = .journal → journalRefusal s 2 (r.off - 0x100000000) 8 = none →
      (s.seq.bcast.find? (fun b => b.srcRoute == k.src && b.srcFlow == k.srcFlow && b.cls == k.cls) = none → ∃ u, exec .broadcastEventRx s = .next (settle u) ∧
        u.jmem = memWrite s.jmem (r.off - 0x100000000) (r.data.take 8) ∧ getF u Pg.seq F.SEQ_BCAST_GAP = getF s Pg.seq F.SEQ_BCAST_GAP ∧
          u.sw.localQ = s1.sw.localQ) ∧
      (∀ b, s.seq.bcast.find? (fun b => b.srcRoute == k.src && b.srcFlow == k.srcFlow && b.cls == k.cls) = some b →
        (0 < seqSub (seqAdd k.baseSeq 0) b.last → seqSub (seqAdd k.baseSeq 0) b.last < 2 ^ 31 → ∃ u, exec .broadcastEventRx s = .next (settle u) ∧
          u.jmem = memWrite s.jmem (r.off - 0x100000000) (r.data.take 8) ∧
            getF u Pg.seq F.SEQ_BCAST_GAP = (getF s Pg.seq F.SEQ_BCAST_GAP + (seqSub (seqAdd k.baseSeq 0) b.last - 1)) % 2 ^ 32) ∧
        (2 ^ 31 ≤ seqSub (seqAdd k.baseSeq 0) b.last → ∃ u, exec .broadcastEventRx s = .next (settle u) ∧
          u.jmem = s.jmem ∧ u.seq = s.seq ∧ u.regs = s.regs ∧ u.sw.localQ = s1.sw.localQ)))

/-- CONTEXT_RELEASE, STREAM_WAIT_EXPIRE and SEQ_LOG_POP (R101, R120, R130) complete: a context that no pair holds is released with the records it holds,
and one whose record is in execution stays; a record that found no FIFO room is turned away STREAM_FULL; a read of the log gives the oldest record
and removes it, or 0. BUFFER_SCRUB and JOURNAL_PATROL_SCRUB (R133 to R135, R160) complete: a pass counts the corrected words and itself; a pass that
its period ends sets LATE and raises SCRUB_LATE; an uncorrectable word of a free cell is counted; one of user journal memory is counted, and the
first one's address is kept. Stated where no word has been spoiled by a test. -/
def Obligations.ContextsLogAndScrubs : Prop :=
  (∀ (s : State) (who : Agent),
    (∀ c t, alive s = true → ctxOf s c = some t →
      (t.held.all (·.st == .held) = true → t.pairCtx = false → ∃ u, exec (.contextRelease c) s = .next (settle u) ∧
        u = { cleared s with seq := { s.seq with ctxs := tabDel s.seq.ctxs c } }) ∧
      (t.held.all (·.st == .held) = false → ∃ u, exec (.contextRelease c) s = .next (settle u) ∧ u = cleared s)) ∧
    (∀ c q e, alive s = true → s.cul.execs.find? (fun e => streamWaits s e == some c) = some e → e.org = .ofCtx c q →
      ∃ u, exec (.streamWaitExpire c) s = .next (settle u) ∧
        u.cul.fieldW = s.cul.fieldW ++ [.done e.id St.targetErr 0x47 []] ∧
        getF u Pg.seq F.ERR_COUNT_COUNT = min (getF s Pg.seq F.ERR_COUNT_COUNT + 1) (2 ^ 32 - 1) ∧ SameRegs (errKeys Pg.seq) s u ∧
        (∃ h, headHeld u c = some h ∧ h.st = .inField)) ∧
    (accReaches s who Pg.seq 0x60 = true → s.seq.log = [] → ∃ u, exec (.seqLogPop who) s = .next (settle u) ∧
      Answers s u who Pg.seq 0x60 0#32 ∧ SameRegs [regKey Pg.seq 0x64, regKey Pg.seq 0x68, regKey Pg.seq 0x6C] s u ∧ beside u = beside s) ∧
    (∀ r rs, accReaches s who Pg.seq 0x60 = true → s.seq.log = r :: rs → ∃ u, exec (.seqLogPop who) s = .next (settle u) ∧
      u.seq = { s.seq with log := rs } ∧ getW u Pg.seq 0x64 = BitVec.ofNat 32 r.seq ∧ getW u Pg.seq 0x68 = BitVec.ofNat 32 r.offLo ∧
        SameRegs [regKey Pg.seq 0x64, regKey Pg.seq 0x68, regKey Pg.seq 0x6C] s u ∧
        Answers s u who Pg.seq 0x60 (BitVec.ofNat 32 (r.status % 256 + 256 * (r.cause % 256) + 65536 * (r.flow % 4096) + 2 ^ 31)))) ∧
  (∀ (s : State) (n : Nat), alive s = true → s.test.badCells = [] → s.test.badWords = [] →
    (∃ u, exec (.bufferScrub n none false) s = .next (settle u) ∧
      getF u Pg.buf F.BUF_ECC_CORR = (getF s Pg.buf F.BUF_ECC_CORR + n) % 2 ^ 32 ∧
        getF u Pg.buf F.BUF_SCRUB_PASSES = (getF s Pg.buf F.BUF_SCRUB_PASSES + 1) % 2 ^ 32 ∧
        OnlyRegs [fKey Pg.buf F.BUF_ECC_CORR, fKey Pg.buf F.BUF_SCRUB_PASSES] s u) ∧
    (∃ u, exec (.bufferScrub n none true) s = .next (settle u) ∧
      getB u Pg.buf F.BUF_SCRUB_STAT_LATE = true ∧ getW u Pg.buf 0x10 = getW s Pg.buf 0x10 ||| 32#32 ∧
        OnlyRegs (fKey Pg.buf F.BUF_ECC_CORR :: fKey Pg.buf F.BUF_SCRUB_STAT_LATE :: irqKeys Pg.buf) s u) ∧
    (∀ (e : EccFault), e.single = false → cellOwner s e.index = none → ∃ u, exec (.bufferScrub n (some e) false) s = .next (settle u) ∧
      getF u Pg.buf F.BUF_ECC_UNCORR = (getF s Pg.buf F.BUF_ECC_UNCORR + 1) % 2 ^ 32 ∧ u.sw = s.sw) ∧
    (∃ u, exec (.journalPatrolScrub n none) s = .next (settle u) ∧
      getF u Pg.jrn F.JRN_ECC_CORR = (getF s Pg.jrn F.JRN_ECC_CORR + n) % 2 ^ 32 ∧
        getF u Pg.jrn F.JRN_SCRUB_PASSES = (getF s Pg.jrn F.JRN_SCRUB_PASSES + 1) % 2 ^ 32 ∧
        OnlyRegs [fKey Pg.jrn F.JRN_ECC_CORR, fKey Pg.jrn F.JRN_SCRUB_PASSES] s u) ∧
    (∀ (j : JEcc), j.single = true → ∃ u, exec (.journalPatrolScrub n (some j)) s = .next (settle u) ∧
      getF u Pg.jrn F.JRN_ECC_CORR = (getF s Pg.jrn F.JRN_ECC_CORR + n + 1) % 2 ^ 32 ∧
        OnlyRegs [fKey Pg.jrn F.JRN_ECC_CORR, fKey Pg.jrn F.JRN_SCRUB_PASSES] s u) ∧
    (∀ (j : JEcc), j.single = false → jrnPlace j.addr = .user → ∃ u, exec (.journalPatrolScrub n (some j)) s = .next (settle u) ∧
      getF u Pg.jrn F.JRN_ECC_UNCORR = (getF s Pg.jrn F.JRN_ECC_UNCORR + 1) % 2 ^ 32 ∧ (getW u Pg.jrn 0x10).getLsbD 2 = true ∧
        getB u Pg.jrn F.JRN_ECC_STAT_VALID = true ∧ u.seq = s.seq ∧ u.jmem = s.jmem ∧
        (getB s Pg.jrn F.JRN_ECC_STAT_VALID = false → getF u Pg.jrn F.JRN_ECC_ADDR_LO_ADDR_LO = j.addr % 2 ^ 32)))

/-- BAR0_ACCESS (R9, R187, R189, R250) completes: with the BARs closed, or without a credit, nothing arrives; a read of a register of the ring die
answers the host with the word shown and clears its RC fields; a write there that the page takes and that is no command stores what the access codes
make of it; an access to a page of the field die goes there as an EXEC. Stated where no host access waits before it. -/
def Obligations.HostRegisterAccesses : Prop :=
  ∀ (s : State) (ptag p off : Nat) (v : Word), alive s = true →
    (∀ o n d, barsOpen s = false → ∃ u, exec (.bar0Access ptag o n d) s = .next (settle u) ∧ u = cleared s) ∧
    (barsOpen s = true → hostFirst s = true → accReaches s .host p off = true →
      (readRoom s = true → isFieldPage p = false → (∀ t, popWord t p off = none) → ¬(p = Pg.tmk ∧ off = 0x48) → ¬(p = Pg.chs ∧ off = 0x44) →
        ∃ u, exec (.bar0Access ptag (0x1000 * p + off) 4 none) s = .next (settle u) ∧
        Out.cpl ptag 0 (leBytes 4 (shownWord s p off).toNat) ∈ u.out ∧
          getW u p off = getW s p off &&& ~~~(accMask p off fun a => a == .rc) ∧ OnlyRegs [regKey p off] s u) ∧
      (postedRoom s 4 = true → writeTaken s .host p off v = true → 0x40 ≤ off → isFieldPage p = false →
        (∀ t, ringCmd t .host p off v (leBytes 4 v.toNat) false = none) → (∀ t o, afterWrite t p off o = t) →
        ∃ u, exec (.bar0Access ptag (0x1000 * p + off) 4 (some (leBytes 4 v.toNat))) s = .next (settle u) ∧
        getW u p off = storedWord p off (getW s p off) v v ∧ OnlyRegs [regKey p off] s u) ∧
      (readRoom s = true → isFieldPage p = true → culState s ≠ 4 → ∃ u, exec (.bar0Access ptag (0x1000 * p + off) 4 none) s = .next (settle u) ∧
        (∃ e, u.cul.ringW = s.cul.ringW ++ [.exec e] ∧ e.op = 1 ∧ e.off = 0x1000 * p + off ∧ e.len = 4 ∧ e.org = .acc .host s.cul.accId) ∧
          tabGet u.brg.accs s.cul.accId = some ptag ∧ u.regs = s.regs))

/-- HOST_WRITE, HOST_READ and HOST_FLUSH_READ (R185, R190, R195 to R198, R201) complete while the BARs are open and credits are there: a request that no
window holds is refused, a write with a record and a read with UR; a write is received in the pieces its window forms, a read of a window without
run-ahead is sent on demand, and a flush with no write of its window before it is answered 0 at once. HOST_READ_TIMEOUT and PREFETCH_LINE_EXPIRE
(R202, R203, R206 to R208) complete: a read that waits too long is answered CA, counted and abandoned, and one whose completion meets the bound is
answered by that; a held line that reaches its life is discarded, and a demand hit that meets it is answered first. -/
def Obligations.HostRequestsAndTimeouts : Prop :=
  (∀ (s : State) (ptag off : Nat), alive s = true → barsOpen s = true →
    (∀ (bytes : List (Option Byte)), postedRoom s bytes.length = true →
      (obFind s off bytes.length = none → s.brg.errlog.length < 256 → ∃ u, exec (.hostWrite off bytes) s = .next (settle u) ∧
        getF u Pg.brg F.BRG_HOST_WR = (getF s Pg.brg F.BRG_HOST_WR + 1) % 2 ^ 32 ∧
        u.brg = { s.brg with errlog := s.brg.errlog ++ [{ status := St.addrErr, cause := 0x46, kind := 3, discarded := false, win := 0, addr := off,
                                                          len := min bytes.length 256, tag := 0 }] } ∧
        SameRegs (fKey Pg.brg F.BRG_HOST_WR :: errKeys Pg.brg) s u) ∧
      (∀ wi w, obFind s off bytes.length = some (wi, w) → blockRefuses s Pg.brg = none →
        laneAllows w (enabledRuns (off - w.host) (bytes.map Option.isSome)) = true →
        formPieces w (off - w.host) (bytes.map Option.isSome) (bytes.map (·.getD 0#8)) ≠ [] → ∃ u, exec (.hostWrite off bytes) s = .next (settle u) ∧
        getF u Pg.brg F.BRG_HOST_WR = (getF s Pg.brg F.BRG_HOST_WR + 1) % 2 ^ 32 ∧ u.brg.nextId = s.brg.nextId + 1 ∧
          u.brg.writes = s.brg.writes ++
            [{ wid := s.brg.nextId, win := wi, units := (bytes.length + 15) / 16,
               unaccepted := (formPieces w (off - w.host) (bytes.map Option.isSome) (bytes.map (·.getD 0#8))).length,
               unclosed := (formPieces w (off - w.host) (bytes.map Option.isSome) (bytes.map (·.getD 0#8))).length }])) ∧
    (∀ (en : List Bool), readRoom s = true → en.contains true = true →
      (obFind s off en.length = none → ∃ u, exec (.hostRead ptag off en) s = .next (settle u) ∧
        Out.cpl ptag 1 [] ∈ u.out ∧ getF u Pg.brg F.BRG_UR_SENT = (getF s Pg.brg F.BRG_UR_SENT + 1) % 2 ^ 32 ∧ u.brg = s.brg) ∧
      (∀ wi w, en.length ≤ 4096 → obFind s off en.length = some (wi, w) → blockRefuses s Pg.brg = none →
        laneAllows w (enabledRuns (off - w.host) en) = true → w.prefetch = 0 → (∀ x ∈ s.brg.parts, x.win ≠ wi) →
        (∀ x ∈ s.brg.reads, x.rid ≠ s.brg.nextId) → ∃ u, exec (.hostRead ptag off en) s = .next (settle u) ∧
        getF u Pg.brg F.BRG_HOST_RD = (getF s Pg.brg F.BRG_HOST_RD + 1) % 2 ^ 32 ∧
          ∃ r ∈ u.brg.reads, r.rid = s.brg.nextId ∧ r.ptag = ptag ∧ r.win = wi ∧ r.sent = true ∧ r.len = en.length ∧
            r.pieces = formPieces w (off - w.host) en [] ∧ (w.order = true → r.needWr = s.brg.writes.map (·.wid)))) ∧
    (∀ wi w, readRoom s = true → obFind s off 4 = some (wi, w) → blockRefuses s Pg.brg = none → (∀ x ∈ s.brg.writes, x.win ≠ wi) →
      ∃ u, exec (.hostFlushRead ptag off) s = .next (settle u) ∧
      Out.cpl ptag 0 [0#8, 0#8, 0#8, 0#8] ∈ u.out ∧ OnlyRegs [fKey Pg.brg F.BRG_HOST_RD] s { u with brg := s.brg })) ∧
  (∀ (s : State), alive s = true →
    (∀ ptag r, s.brg.reads.find? (fun r => r.ptag == ptag && !r.abandoned && !r.flush) = some r → (∀ o ∈ s.brg.opens, ∀ k, o.use ≠ .read r.rid k) →
      ∃ u, exec (.hostReadTimeout ptag false) s = .next (settle u) ∧
        Out.cpl ptag 4 [] ∈ u.out ∧ getF u Pg.brg F.BRG_CA_SENT = (getF s Pg.brg F.BRG_CA_SENT + 1) % 2 ^ 32 ∧
          getF u Pg.brg F.BRG_LATE = (getF s Pg.brg F.BRG_LATE + 1) % 2 ^ 32 ∧
          getF u Pg.win F.WIN_RD_FAIL r.win = (getF s Pg.win F.WIN_RD_FAIL r.win + 1) % 2 ^ 32 ∧ u.seq = s.seq ∧
          ∀ x ∈ u.brg.reads, x.rid = r.rid → x.abandoned = true) ∧
    (∀ ptag, (closingsOut (cplRx (cleared s))).brg.reads.find? (fun r => r.ptag == ptag && !r.abandoned && !r.flush) = none →
      ∃ u, exec (.hostReadTimeout ptag true) s = .next (settle u) ∧ u = closingsOut (cplRx (cleared s))) ∧
    (∀ win start p, s.brg.parts.filter (fun p => (p.win == win && p.start == start && !p.isOpen) && !p.dropped) = [p] →
      ∃ u, exec (.prefetchLineExpire win start none) s = .next (settle u) ∧
        u.brg.parts = (s.brg.parts.filter fun q => !(q.win == win && q.start == start && !q.dropped)) ∧
          getF u Pg.brg F.BRG_PF_DISCARD = (getF s Pg.brg F.BRG_PF_DISCARD + 1) % 2 ^ 32 ∧
          (p.effectful = false → p.unknown = false → u.brg.loss = s.brg.loss ∧ SameRegs [fKey Pg.brg F.BRG_PF_DISCARD] s u)) ∧
    (∀ win start ptag off en wi w, barsOpen s = true → readRoom s = true → en.contains true = true → en.length ≤ 4096 →
      obFind s off en.length = some (wi, w) → blockRefuses s Pg.brg = none → laneAllows w (enabledRuns (off - w.host) en) = true →
      (∀ x ∈ formPieces w (off - w.host) en [], ∀ j, j < x.len → (heldByte s wi (x.addr + j)).isSome = true) →
      ∃ u, exec (.prefetchLineExpire win start (some { ptag := ptag, off := off, enables := en })) s = .next (settle u) ∧
        (∃ d, Out.cpl ptag 0 d ∈ u.out) ∧ ∀ x ∈ u.brg.parts, x.win = win → x.start = start → x.isOpen = true ∨ x.dropped = true))

/-- OB_CTL_WRITE and IB_CTL_WRITE (R191, R207, R209) complete: a write that the page takes puts the window that the staged registers and CTL describe
into force at once, and no other; a window that stays enabled keeps its held lines. PCIE_LINK_CHANGE, PCIE_PERST, PCIE_CONFIG_WRITE and
HOST_CREDIT_UPDATE (R185 to R188, R211, R213, R214, R471) complete: the link trains after step 8 to the lesser of both ends; when it goes down
configuration space is reset and LINK_CFG takes effect; a request to configuration space or to the MSI-X table and credits change or answer what
they name while the link is up. -/
def Obligations.WindowsAndLink : Prop :=
  (∀ (s : State) (who : Agent) (k : Nat) (v : Word),
    (k < 16 → writeTaken s who Pg.win (0x110 + 64 * k) v = true → ∃ u, exec (.obCtlWrite who k v) s = .next (settle u) ∧
      getW u Pg.win (0x110 + 64 * k) = storedWord Pg.win (0x110 + 64 * k) (getW s Pg.win (0x110 + 64 * k)) v v ∧
        tabGet u.brg.ob k = some (obStaged s k (getW u Pg.win (0x110 + 64 * k))) ∧ (∀ j, j ≠ k → tabGet u.brg.ob j = tabGet s.brg.ob j) ∧
        ((obStaged s k (getW u Pg.win (0x110 + 64 * k))).en = true ∨ (∀ p ∈ s.brg.parts, p.win ≠ k) →
          SameRegs [regKey Pg.win (0x110 + 64 * k)] s u ∧ u.brg.parts = s.brg.parts)) ∧
    (k < 8 → writeTaken s who Pg.win (0x610 + 32 * k) v = true → ∃ u, exec (.ibCtlWrite who k v) s = .next (settle u) ∧
      getW u Pg.win (0x610 + 32 * k) = storedWord Pg.win (0x610 + 32 * k) (getW s Pg.win (0x610 + 32 * k)) v v ∧
        tabGet u.brg.ib k = some (ibStaged s k (getW u Pg.win (0x610 + 32 * k))) ∧ (∀ j, j ≠ k → tabGet u.brg.ib j = tabGet s.brg.ib j) ∧
        SameRegs [regKey Pg.win (0x610 + 32 * k)] s u)) ∧
  (∀ (s : State), alive s = true →
    (∀ speed width, brgUp s = false → s.brg.perst = false → 9 ≤ getF s Pg.rst F.RST_STAT_STEP → ∃ u, exec (.pcieLinkChange (.up speed width)) s = .next (settle u) ∧
      brgUp u = true ∧ getF u Pg.brg F.BRG_LINK_STAT_SPEED = max 1 (min speed (wordBits s.brg.linkCfg 0 2)) ∧
        getF u Pg.brg F.BRG_LINK_STAT_WIDTH = max 1 (min width (if wordBits s.brg.linkCfg 2 1 = 1 then 1 else 2)) ∧
        getW u Pg.brg 0x10 = getW s Pg.brg 0x10 ||| 32#32 ∧ OnlyRegs (fKey Pg.brg F.BRG_LINK_STAT_UP :: irqKeys Pg.brg) s u) ∧
    (∀ ev, ev = .down ∨ ev = .hotReset → ∃ u, exec (.pcieLinkChange ev) s = .next (settle u) ∧
      brgUp u = false ∧ getB u Pg.brg F.BRG_LINK_STAT_BME = false ∧ getB u Pg.brg F.BRG_LINK_STAT_MSE = false ∧ u.brg.msix = [] ∧ u.brg.bars = [] ∧
        u.brg.phCred = 0 ∧ u.brg.pdCred = 0 ∧ u.brg.nhCred = 0 ∧ u.intr.pba = 0#64 ∧ u.brg.linkCfg = getW s Pg.brg 0x48) ∧
    (∃ u, exec (.pciePerst true) s = .next (settle u) ∧ u.brg.perst = true ∧ brgUp u = false ∧ u.brg.linkCfg = getW s Pg.brg 0x48) ∧
    (∃ u, exec (.pciePerst false) s = .next (settle u) ∧ u.brg = { s.brg with perst := false } ∧ u.regs = s.regs) ∧
    (brgUp s = true →
      (∀ a b, ∃ u, exec (.pcieConfigWrite (.command a b)) s = .next (settle u) ∧ getB u Pg.brg F.BRG_LINK_STAT_MSE = a ∧ getB u Pg.brg F.BRG_LINK_STAT_BME = b ∧
        OnlyRegs [fKey Pg.brg F.BRG_LINK_STAT_UP] s u) ∧
      (∀ a b, ∃ u, exec (.pcieConfigWrite (.msixCtl a b)) s = .next (settle u) ∧ getB u Pg.brg F.BRG_LINK_STAT_MSIX_EN = a ∧ getB u Pg.brg F.BRG_LINK_STAT_FMASK = b ∧
        OnlyRegs [fKey Pg.brg F.BRG_LINK_STAT_UP] s u) ∧
      (∀ a b, a ≤ 1 → b ≤ 5 → ∃ u, exec (.pcieConfigWrite (.devCtl a b)) s = .next (settle u) ∧ getF u Pg.brg F.BRG_LINK_STAT_MPS = a ∧ getF u Pg.brg F.BRG_LINK_STAT_MRRS = b ∧
        OnlyRegs [fKey Pg.brg F.BRG_LINK_STAT_UP] s u) ∧
      (∀ a, ∃ u, exec (.pcieConfigWrite (.power a)) s = .next (settle u) ∧ getB u Pg.brg F.BRG_LINK_STAT_D3 = a ∧ OnlyRegs [fKey Pg.brg F.BRG_LINK_STAT_UP] s u) ∧
      (∀ e w x, barsOpen s = true → postedRoom s 4 = true → e < 64 → w < 4 → ∃ u, exec (.pcieConfigWrite (.table e w x)) s = .next (settle u) ∧ msixWord u e w = x ∧ u.regs = s.regs ∧
        beside { u with brg := s.brg } = beside s) ∧
      (∀ n x, n < 6 → ∃ u, exec (.pcieConfigWrite (.bar n x)) s = .next (settle u) ∧ u.brg = { s.brg with bars := tabSet s.brg.bars n x } ∧ u.regs = s.regs ∧
        beside { u with brg := s.brg } = beside s) ∧
      (∀ ptag off, ∃ u, exec (.pcieConfigWrite (.read ptag off)) s = .next (settle u) ∧
        Out.cpl ptag 0 (leBytes 4 (cfgWord s (off / 4 * 4)).toNat) ∈ u.out ∧ OnlyRegs [] s u) ∧
      (∀ ptag off, barsOpen s = true → readRoom s = true → ∃ u, exec (.pcieConfigWrite (.tableRead ptag off)) s = .next (settle u) ∧
        Out.cpl ptag 0 (leBytes 4 (bar4Word s (off / 4 * 4)).toNat) ∈ u.out ∧ OnlyRegs [] s u) ∧
      (∀ a b c, ∃ u, exec (.hostCreditUpdate a b c) s = .next (settle u) ∧
        u.brg = { s.brg with phCred := s.brg.phCred + a, pdCred := s.brg.pdCred + b, nhCred := s.brg.nhCred + c } ∧ u.regs = s.regs ∧
          beside { u with brg := s.brg } = beside s)))

/-- HOST_COMPLETION_RX, INBOUND_CPL_TIMEOUT and INBOUND_CREDIT_TIMEOUT (R210, R211) complete: the data of the last completion of an inbound read answers
its record OK, also where it meets the bound; an Unsupported Request, a completion that does not come and a credit that does not come end it
TARGET_ERR with causes 0x40, 0x43 and 0x44. Stated where no repeat of the record waits. ERRLOG_POP and SPECLOSS_POP (R202, R207, R215) complete: a
read gives the oldest record and removes it, or 0 where there is none. -/
def Obligations.InboundEndsAndLogs : Prop :=
  (∀ (s : State) (t : IbTxn) (x : TCtx) (h : Held), alive s = true → ctxOf s t.ctx = some x → x.held = [h] → h.seq = x.ne → h.repeats = [] →
    (∀ tag r data, s.brg.ibTxns.find? (fun t => t.reads.any (·.tag == tag)) = some t → t.reads = [r] → r.tag = tag → t.todo = [] → r.got = [] → t.data = [] →
      r.place = 0 → r.len = t.total → data.length = r.len →
      (∃ u, exec (.hostCompletionRx tag 0 data false) s = .next (settle u) ∧
        (∃ a, u.seq.answers = s.seq.answers ++ [a] ∧ a.seq = h.seq ∧ a.ans = { ansRec St.ok 0 h.req.tag with data := data }) ∧
          u.brg.ibTxns = s.brg.ibTxns.filter (·.ctx != t.ctx) ∧ getF u Pg.brg F.BRG_IB_TXN = (getF s Pg.brg F.BRG_IB_TXN + 1) % 2 ^ 32) ∧
      (∃ u, exec (.inboundCplTimeout t.ctx (some { tag := tag, status := 0, data := data, poisoned := false })) s = .next (settle u) ∧
        (∃ a, u.seq.answers = s.seq.answers ++ [a] ∧ a.seq = h.seq ∧ a.ans = { ansRec St.ok 0 h.req.tag with data := data }) ∧
          u.brg.ibTxns = s.brg.ibTxns.filter (·.ctx != t.ctx) ∧ getF u Pg.brg F.BRG_IB_ERR = getF s Pg.brg F.BRG_IB_ERR)) ∧
    (∀ tag data, s.brg.ibTxns.find? (fun t => t.reads.any (·.tag == tag)) = some t → ∃ u, exec (.hostCompletionRx tag 1 data false) s = .next (settle u) ∧
      (∃ a, u.seq.answers = s.seq.answers ++ [a] ∧ a.seq = h.seq ∧ a.ans = ansRec St.targetErr 0x40 h.req.tag) ∧
        getF u Pg.brg F.BRG_IB_ERR = (getF s Pg.brg F.BRG_IB_ERR + 1) % 2 ^ 32) ∧
    (s.brg.ibTxns.find? (fun y => y.ctx == t.ctx) = some t → t.reads ≠ [] → ∃ u, exec (.inboundCplTimeout t.ctx none) s = .next (settle u) ∧
      (∃ a, u.seq.answers = s.seq.answers ++ [a] ∧ a.seq = h.seq ∧ a.ans = ansRec St.targetErr 0x43 h.req.tag) ∧
        u.brg.ibTxns = s.brg.ibTxns.filter (·.ctx != t.ctx) ∧ getF u Pg.brg F.BRG_IB_ERR = (getF s Pg.brg F.BRG_IB_ERR + 1) % 2 ^ 32) ∧
    (s.brg.ibTxns.find? (fun y => y.ctx == t.ctx) = some t → t.begun = false → ∃ u, exec (.inboundCreditTimeout t.ctx) s = .next (settle u) ∧
      (∃ a, u.seq.answers = s.seq.answers ++ [a] ∧ a.seq = h.seq ∧ a.ans = ansRec St.targetErr 0x44 h.req.tag) ∧
        u.brg.ibTxns = s.brg.ibTxns.filter (·.ctx != t.ctx) ∧ getF u Pg.brg F.BRG_IB_ERR = (getF s Pg.brg F.BRG_IB_ERR + 1) % 2 ^ 32)) ∧
  (∀ (s : State) (who : Agent),
    (accReaches s who Pg.brg 0x60 = true → s.brg.errlog = [] → ∃ u, exec (.errlogPop who) s = .next (settle u) ∧
      SameRegs [regKey Pg.brg 0x64, regKey Pg.brg 0x68, regKey Pg.brg 0x6C] s u ∧ Answers s u who Pg.brg 0x60 0#32 ∧ u.brg.errlog = [] ∧ u.brg.loss = s.brg.loss) ∧
    (∀ r rs, accReaches s who Pg.brg 0x60 = true → s.brg.errlog = r :: rs → ∃ u, exec (.errlogPop who) s = .next (settle u) ∧
      SameRegs [regKey Pg.brg 0x64, regKey Pg.brg 0x68, regKey Pg.brg 0x6C] s u ∧ u.brg.errlog = rs ∧ u.brg.loss = s.brg.loss ∧
        getW u Pg.brg 0x64 = BitVec.ofNat 32 r.addr ∧
          Answers s u who Pg.brg 0x60 (BitVec.ofNat 32 (r.status % 256 + 256 * (r.cause % 256) + 2 ^ 16 * (r.kind % 8) +
            (if r.discarded then 2 ^ 19 else 0) + 2 ^ 20 * (r.win % 16) + 2 ^ 31))) ∧
    (accReaches s who Pg.brg 0x74 = true → s.brg.loss = [] → ∃ u, exec (.speclossPop who) s = .next (settle u) ∧
      SameRegs [regKey Pg.brg 0x78, regKey Pg.brg 0x7C] s u ∧ Answers s u who Pg.brg 0x74 0#32 ∧ u.brg.loss = [] ∧ u.brg.errlog = s.brg.errlog) ∧
    (∀ r rs, accReaches s who Pg.brg 0x74 = true → s.brg.loss = r :: rs → ∃ u, exec (.speclossPop who) s = .next (settle u) ∧
      SameRegs [regKey Pg.brg 0x78, regKey Pg.brg 0x7C] s u ∧ u.brg.loss = rs ∧ u.brg.errlog = s.brg.errlog ∧ getW u Pg.brg 0x78 = BitVec.ofNat 32 r.addr ∧
          Answers s u who Pg.brg 0x74
            (BitVec.ofNat 32 (r.win % 16 + (if r.unknown then 16 else 0) + 256 * (r.firstUnused % 256) + 65536 * (r.tag % 1024) + 2 ^ 31))))

/-- NOW_LATCH, TIME_SET and TIME_ADJUST (R218, R230) complete: a read of NOW_NS latches the seconds and the stamp of the same instant; a set makes local
time the staged time, an adjustment moves it by a signed number of nanoseconds, and each step counts, raises its source and is sent to the field
die. SERVO_SAMPLE and SERVO_HOLDOVER (R231 to R234) complete: a sample beyond the threshold steps local time by its negative; a smaller one moves
the integral and the frequency by KI and KP within LIMIT; a sample that meets a step, or that is written while PPS feeds the servo, only counts as
discarded; holdover falls back to the integral, and one that a sample meets does nothing. Rounding of ties: log entry 13, the model's choice. -/
def Obligations.TimeAndServo : Prop :=
  (∀ (s : State) (who : Agent),
    (∀ len, (len = 4 ∨ len = 8) → accReaches s who Pg.tmk 0x48 = true → ∃ u, exec (.nowLatch who len) s = .next (settle u) ∧
      getF u Pg.tmk F.TMK_NOW_NS_NS = nowNs s ∧ getF u Pg.tmk F.TMK_NOW_SEC_LO_SEC_LO = nowSec s % 2 ^ 32 ∧
        getF u Pg.tmk F.TMK_NOW_SEC_HI_SEC_HI = nowSec s / 2 ^ 32 % 2 ^ 16 ∧ getF u Pg.tmk F.TMK_NOW_STAMP_STAMP = totalNs s % 2 ^ 32 ∧
        OnlyPages [Pg.tmk] s u ∧ beside u = beside s) ∧
    (writeReaches s who Pg.tmk 0x64 = true → ∃ u, exec (.timeSet who) s = .next (settle u) ∧
      u.time.acc = ((getF s Pg.tmk F.TMK_SET_SEC_LO_SEC_LO + 2 ^ 32 * getF s Pg.tmk F.TMK_SET_SEC_HI_SEC_HI) * 1000000000 +
          getF s Pg.tmk F.TMK_SET_NS_NS) * unitNs % timeWrap ∧
        getF u Pg.tmk F.TMK_STEPS = (getF s Pg.tmk F.TMK_STEPS + 1) % 2 ^ 32 ∧ getW u Pg.tmk 0x10 = getW s Pg.tmk 0x10 ||| 4#32 ∧
        (∃ d, u.cul.ringW = s.cul.ringW ++ [.step d]) ∧ u.cul.stepWait = s.cul.stepWait + 1 ∧
        SameRegs (fKey Pg.tmk F.TMK_STEPS :: irqKeys Pg.tmk) s u) ∧
    (∀ v, writeReaches s who Pg.tmk 0x68 = true → ∃ u, exec (.timeAdjust who v) s = .next (settle u) ∧
      u.time = { s.time with acc := timeMove s.time.acc (v.toInt * unitNs) } ∧
        getF u Pg.tmk F.TMK_STEPS = (getF s Pg.tmk F.TMK_STEPS + 1) % 2 ^ 32 ∧ getW u Pg.tmk 0x10 = getW s Pg.tmk 0x10 ||| 4#32 ∧
        u.cul.ringW = s.cul.ringW ++ [.step (v.toInt * unitNs)] ∧ u.cul.stepWait = s.cul.stepWait + 1 ∧
        SameRegs (fKey Pg.tmk F.TMK_STEPS :: irqKeys Pg.tmk) s u)) ∧
  (∀ (s : State) (who : Agent) (v : Word) (lim integ freq : Int),
    (alive s = true → ∃ u, exec (.servoSample who v true) s = .next (settle u) ∧
      getF u Pg.tmk F.TMK_SERVO_DISCARD = (getF s Pg.tmk F.TMK_SERVO_DISCARD + 1) % 2 ^ 32 ∧ OnlyRegs [fKey Pg.tmk F.TMK_SERVO_DISCARD] s u) ∧
    (writeReaches s who Pg.tmk 0x70 = true → getB s Pg.tmk F.TMK_SERVO_CTL_PPS_FEED = true → ∃ u, exec (.servoSample who v false) s = .next (settle u) ∧
      getF u Pg.tmk F.TMK_SERVO_DISCARD = (getF s Pg.tmk F.TMK_SERVO_DISCARD + 1) % 2 ^ 32 ∧ OnlyRegs [fKey Pg.tmk F.TMK_SERVO_DISCARD] s u) ∧
    (writeReaches s who Pg.tmk 0x70 = true → getB s Pg.tmk F.TMK_SERVO_CTL_PPS_FEED = false → getB s Pg.tmk F.TMK_SERVO_CTL_EN = true →
      getF s Pg.tmk F.TMK_SERVO_STEP_THRESH * 16 ≤ v.toInt.natAbs → ∃ u, exec (.servoSample who v false) s = .next (settle u) ∧
        u.time = { s.time with acc := timeMove s.time.acc (-v.toInt * 16000000000), good := 0 } ∧
          getF u Pg.tmk F.TMK_LAST_E_E = v.toNat ∧ getF u Pg.tmk F.TMK_SERVO_SAMPLES = (getF s Pg.tmk F.TMK_SERVO_SAMPLES + 1) % 2 ^ 32 ∧
          getF u Pg.tmk F.TMK_STAT_SERVO_STATE = 1 ∧ getF u Pg.tmk F.TMK_STEPS = (getF s Pg.tmk F.TMK_STEPS + 1) % 2 ^ 32) ∧
    (writeReaches s who Pg.tmk 0x70 = true → getB s Pg.tmk F.TMK_SERVO_CTL_PPS_FEED = false → getB s Pg.tmk F.TMK_SERVO_CTL_EN = true →
      v.toInt.natAbs < getF s Pg.tmk F.TMK_SERVO_STEP_THRESH * 16 → lim = 256 * (getF s Pg.tmk F.TMK_SERVO_LIMIT_LIMIT : Int) →
      integ = clampTo lim (roundDiv (toSigned 32 (getF s Pg.tmk F.TMK_INTEG_INTEG) * 2 ^ 20 + getF s Pg.tmk F.TMK_SERVO_KI_KI * v.toInt) (2 ^ 20)) →
      freq = clampTo lim (-(roundDiv (getF s Pg.tmk F.TMK_SERVO_KP_KP * v.toInt + integ * 2 ^ 12) (2 ^ 12))) →
      ∃ u, exec (.servoSample who v false) s = .next (settle u) ∧
        toSigned 32 (getF u Pg.tmk F.TMK_INTEG_INTEG) = integ ∧ tmkFreq u = freq ∧ getF u Pg.tmk F.TMK_LAST_E_E = v.toNat ∧
          u.time.acc = s.time.acc ∧
          u.time.good = (if v.toInt.natAbs < 16 * getF s Pg.tmk F.TMK_SERVO_LOCK_LOCK_NS then min (s.time.good + 1) 8 else 0) ∧
          getF u Pg.tmk F.TMK_STAT_SERVO_STATE = (if u.time.good = 8 then 2 else 1)) ∧
    (alive s = true → getB s Pg.tmk F.TMK_SERVO_CTL_EN = true → ∃ u, exec (.servoHoldover false) s = .next (settle u) ∧
      tmkFreq u = clampTo (256 * (getF s Pg.tmk F.TMK_SERVO_LIMIT_LIMIT : Int)) (-(toSigned 32 (getF s Pg.tmk F.TMK_INTEG_INTEG))) ∧
        getF u Pg.tmk F.TMK_STAT_SERVO_STATE = 3 ∧ u.time = s.time) ∧
    (alive s = true → ∃ u, exec (.servoHoldover true) s = .next (settle u) ∧ u = cleared s))

/-- REF_LOSS, REF_RETURN and RESIDENCE_EXPIRE (R27, R219, R225) complete: without the reference REF_OK is 0, every running port loses its locks and the
watch is UNCHECKED; it comes back without a step and without an interrupt; the oldest residence entry goes after its life. PPS_IN_EDGE and
PPS_OUT_PULSE (R234, R235) complete: an edge that PPS_IN takes is stamped and raises its source, its sample counts as discarded where it meets a
step, and one less than 100 ms after the last is rejected; PPS_OUT goes high at a whole second and falls after its width. -/
def Obligations.ReferenceAndPps : Prop :=
  (∀ (s : State), alive s = true →
    (getB s Pg.tmk F.TMK_STAT_REF_OK = true → ∃ u, exec .refLoss s = .next (settle u) ∧
      getB u Pg.tmk F.TMK_STAT_REF_OK = false ∧ getB u Pg.gen F.GEN_WATCH_STAT_UNCHECKED = true ∧ (getW u Pg.tmk 0x10).getLsbD 4 = true ∧
        u.time.acc = s.time.acc ∧ ∀ p ∈ ethPorts, portMode s p ≠ 0 →
          getB u (portPage p) F.PORT_STAT_PCS_LOCK = false ∧ getB u (portPage p) F.PORT_STAT_FEC_LOCK = false) ∧
    (getB s Pg.tmk F.TMK_STAT_REF_OK = false → ∃ u, exec .refReturn s = .next (settle u) ∧
      getB u Pg.tmk F.TMK_STAT_REF_OK = true ∧ getB u Pg.gen F.GEN_WATCH_STAT_UNCHECKED = false ∧
        OnlyRegs [fKey Pg.tmk F.TMK_STAT_REF_OK, fKey Pg.gen F.GEN_WATCH_STAT_UNCHECKED] s u) ∧
    ∃ u, exec .residenceExpire s = .next (settle u) ∧ u.time = { s.time with resid := s.time.resid.drop 1 } ∧ u.regs = s.regs ∧ beside { u with time := s.time } = beside s) ∧
  (∀ (s : State), alive s = true →
    (∀ fall meet, getB s Pg.tmk F.TMK_PPS_IN_EN = true → getB s Pg.tmk F.TMK_PPS_IN_EDGE = fall →
      ((∀ t, s.time.ppsLast = some t → t + 100000000 * unitNs ≤ s.time.mono) → (getB s Pg.tmk F.TMK_SERVO_CTL_PPS_FEED = false ∨ meet = true) →
        ∃ u, exec (.ppsInEdge fall meet) s = .next (settle u) ∧
        getF u Pg.tmk F.TMK_PPS_IN_NS_NS = nowNs s ∧ getF u Pg.tmk F.TMK_PPS_IN_SEC_LO_SEC_LO = nowSec s % 2 ^ 32 ∧
          getF u Pg.tmk F.TMK_PPS_IN_FRAC_FRAC = now16 s % 16 ∧ getW u Pg.tmk 0x10 = getW s Pg.tmk 0x10 ||| 64#32 ∧
          getF u Pg.tmk F.TMK_SERVO_DISCARD =
            (getF s Pg.tmk F.TMK_SERVO_DISCARD + (if getB s Pg.tmk F.TMK_SERVO_CTL_PPS_FEED then 1 else 0)) % 2 ^ 32 ∧
          u.time = { s.time with ppsLast := some s.time.mono }) ∧
      (∀ t, s.time.ppsLast = some t → s.time.mono < t + 100000000 * unitNs → ∃ u, exec (.ppsInEdge fall meet) s = .next (settle u) ∧
        getF u Pg.tmk F.TMK_PPS_IN_REJECT = (getF s Pg.tmk F.TMK_PPS_IN_REJECT + 1) % 2 ^ 32 ∧ OnlyRegs [fKey Pg.tmk F.TMK_PPS_IN_REJECT] s u)) ∧
    (∀ fall meet, (getB s Pg.tmk F.TMK_PPS_IN_EN = false ∨ getB s Pg.tmk F.TMK_PPS_IN_EDGE ≠ fall) → ∃ u, exec (.ppsInEdge fall meet) s = .next (settle u) ∧
      u = cleared s) ∧
    (∀ e, s.time.ppsEnd = some e → e ≤ s.time.mono → ∃ u, exec .ppsOutPulse s = .next (settle u) ∧
      Out.ball "PPS_OUT" false ∈ u.out ∧ u.time = { s.time with ppsEnd := none } ∧ u.regs = s.regs) ∧
    (s.time.ppsEnd = none → getB s Pg.tmk F.TMK_PPS_OUT_EN = true → secondReached s = true → ∃ u, exec .ppsOutPulse s = .next (settle u) ∧
      Out.ball "PPS_OUT" true ∈ u.out ∧
        u.time = { s.time with ppsEnd := some (s.time.mono + getF s Pg.tmk F.TMK_PPS_WIDTH * 1000 * unitNs) } ∧ u.regs = s.regs))

/-- PDELAY_REQ_RX, MANAGEMENT_FRAME_SEND and TSQ_POP (R164, R226, R227, R229) complete: a good peer-delay request on a ring port is answered by the hub
where PDELAY_HW is 1, and goes to the management core otherwise; a management frame that no headgate meters and whose cells are there leaves on its
ports, tagged where they run HSR; a pop gives the oldest TX stamp and removes it, or 0. -/
def Obligations.TimedFrames : Prop :=
  ∀ (s : State), alive s = true →
    (∀ p f, (p = .e ∨ p = .w) → portUp s p = true → isPtp f = true → f.dmac = 0x0180C200000E → ptpType f = 2 →
      rxGood f { late := false, linkLost := false, fecCorr := 0, fecUncorr := 0 } = true → ingressShut s p = false →
      (getB s Pg.tmk F.TMK_CTL_PDELAY_HW = true → ∃ u, exec (.pdelayReqRx p f) s = .next (settle u) ∧
        Out.frame p (pdelayResp s p f ((egressStamp s p : Int) - ingressStamp s p)) false ∈ u.out ∧
          getF u Pg.tmk F.TMK_PDELAY_RESP = (getF s Pg.tmk F.TMK_PDELAY_RESP + 1) % 2 ^ 32 ∧
          OnlyRegs [fKey Pg.tmk F.TMK_PDELAY_RESP, fKey (portPage p) F.PORT_RX_FRAMES] s u) ∧
      (getB s Pg.tmk F.TMK_CTL_PDELAY_HW = false → ∃ u, exec (.pdelayReqRx p f) s = .next (settle u) ∧
        Out.local f (some p) (ingressStamp s p) ∈ u.out ∧ OnlyRegs [fKey (portPage p) F.PORT_RX_FRAMES] s u)) ∧
    (∀ f ports one req, ports.Nodup → (∀ p ∈ ports, isEthPort p = true) → (isKvlType s f = true ∨ pointHeadgate s 2 (frameClass s f) = none) →
      ((∀ p ∈ ports, isHsrPort s p = false) → hasRoom s f (frameClass s f) ports = true → ∃ u, exec (.managementFrameSend f ports one req) s = .next (settle u) ∧
        Leaves s u f (frameClass s f) ports ∧ u.ring = s.ring ∧ OnlyPages storePages s u) ∧
      ((∃ p ∈ ports, isHsrPort s p = true) → f.smac = ownMac s → hasRoom s (tagged s f) (frameClass s f) ports = true →
        ∃ u, exec (.managementFrameSend f ports one req) s = .next (settle u) ∧
          Leaves s u (tagged s f) (frameClass s f) ports ∧ u.ring = { s.ring with hsrSeq := (s.ring.hsrSeq + 1) % 65536 } ∧
            OnlyPages storePages s u)) ∧
    (∀ who p, p < 4 → accReaches s who Pg.tsq (0x40 + 16 * p) = true →
      (tsqOf s p = [] → ∃ u, exec (.tsqPop who p) s = .next (settle u) ∧
        Answers s u who Pg.tsq (0x40 + 16 * p) 0#32 ∧ getF u Pg.tsq F.TSQ_POP_NS_STAMP p = 0 ∧ beside u = beside s) ∧
      (∀ e q, tsqOf s p = e :: q → ∃ u, exec (.tsqPop who p) s = .next (settle u) ∧
        Answers s u who Pg.tsq (0x40 + 16 * p) (BitVec.ofNat 32 (e.id % 65536 + (if e.notSent then 65536 else 0) + 2 ^ 31)) ∧
          getF u Pg.tsq F.TSQ_POP_NS_STAMP p = e.stamp % 2 ^ 32 ∧ tsqOf u p = q ∧ getF u Pg.tsq F.TSQ_LEVEL_LEVEL p = q.length % 2 ^ 6))

/-- TRIGGER_COMMIT, TRIGGER_EDGE and TRIGGER_PULSE_END (R237 to R239) complete: a commit arms the trigger unless its mode is OFF, clears DONE and
MISSED, and leaves for the field die; an edge whose time has come fires and is counted, and a trigger without a limit stays armed; the pulse ends
after its width. CAPTURE_EDGE and CAPTURE_POP (R242) complete: an edge that the capture takes is stamped and leaves for the ring die, and counts as
missed while the FIFO is full or the last edge is less than 25 ns old; a pop gives the oldest capture and removes it, or 0. -/
def Obligations.TriggersAndCaptures : Prop :=
  (∀ (s : State) (t : Nat),
    (∀ who v, t < 8 → writeTaken s who Pg.trg (0x114 + 32 * t) v = true → ∃ u, exec (.triggerCommit who t v) s = .next (settle u) ∧
      getW u Pg.trg (0x114 + 32 * t) = storedWord Pg.trg (0x114 + 32 * t) (getW s Pg.trg (0x114 + 32 * t)) v v ∧
        getB u Pg.trg F.TRG_STAT_ARMED t = (wordBits (getW u Pg.trg (0x114 + 32 * t)) 0 2 != 0) ∧ getB u Pg.trg F.TRG_STAT_DONE t = false ∧
        getF u Pg.trg F.TRG_STAT_MISSED t = 0 ∧
        u.cul.ringW = s.cul.ringW ++ [.cfg s.cul.execId (.trig t (trigStaged s t (getW u Pg.trg (0x114 + 32 * t))))] ∧
        SameRegs [regKey Pg.trg (0x114 + 32 * t), fKey Pg.trg F.TRG_STAT_ARMED t] s u) ∧
    (∀ g, alive s = true → trigOf s t = some g → g.armed = true → edgeTime g.prog g.k ≤ fieldNs s → edgeLimit g.prog = none → g.prog.canEn = false →
      ∃ u, exec (.triggerEdge t) s = .next (settle u) ∧
        trigOf u t = some { g with k := g.k + 1, used := g.used + 1, pulse := true } ∧
          getF u Pg.trg F.TRG_FIRED_COUNT t = (getF s Pg.trg F.TRG_FIRED_COUNT t + 1) % 2 ^ 32 ∧ (∀ j, j ≠ t → trigOf u j = trigOf s j)) ∧
    (∀ g, alive s = true → trigOf s t = some g → ∃ u, exec (.triggerPulseEnd t) s = .next (settle u) ∧
      trigOf u t = some { g with pulse := false } ∧ (∀ j, j ≠ t → trigOf u j = trigOf s j) ∧ u.regs = s.regs ∧
        beside { u with time := s.time } = beside s)) ∧
  (∀ (s : State) (c : Nat), c < 8 →
    (∀ rising, alive s = true → getF s Pg.trg F.TRG_CAP_CTL_EDGE c = 3 →
      (tabGet s.time.capLast c = none → (capOf s c).length + capWaiting s c < 16 → ∃ u, exec (.captureEdge c rising) s = .next (settle u) ∧
        u.cul.fieldW = s.cul.fieldW ++ [.record s.cul.evtSeq (.cap c { rising := rising, unsync := !fieldSync s, stamp := fieldNs s % 2 ^ 32 })] ∧
          u.cul.evtSeq = (s.cul.evtSeq + 1) % 65536 ∧ tabGet u.time.capLast c = some s.time.facc ∧ u.regs = s.regs) ∧
      (16 ≤ (capOf s c).length + capWaiting s c → ∃ u, exec (.captureEdge c rising) s = .next (settle u) ∧
        getF u Pg.trg F.TRG_CAP_MISSED_COUNT c = min (getF s Pg.trg F.TRG_CAP_MISSED_COUNT c + 1) (2 ^ 32 - 1) ∧
          getW u Pg.trg 0x10 = getW s Pg.trg 0x10 ||| 32#32 ∧ OnlyRegs (fKey Pg.trg F.TRG_CAP_MISSED_COUNT c :: irqKeys Pg.trg) s u)) ∧
    (alive s = true → ∀ rising, getF s Pg.trg F.TRG_CAP_CTL_EDGE c = 0 → ∃ u, exec (.captureEdge c rising) s = .next (settle u) ∧ u = cleared s) ∧
    (∀ who, accReaches s who Pg.trg (0x404 + 16 * c) = true →
      (capOf s c = [] → ∃ u, exec (.capturePop who c) s = .next (settle u) ∧
        SameRegs [fKey Pg.trg F.TRG_CAP_POP1_STAMP c] s u ∧ Answers s u who Pg.trg (0x404 + 16 * c) 0#32 ∧ getF u Pg.trg F.TRG_CAP_POP1_STAMP c = 0) ∧
      (∀ e q, capOf s c = e :: q → ∃ u, exec (.capturePop who c) s = .next (settle u) ∧
        SameRegs [fKey Pg.trg F.TRG_CAP_POP1_STAMP c] s u ∧ getF u Pg.trg F.TRG_CAP_POP1_STAMP c = e.stamp % 2 ^ 32 ∧ capOf u c = q ∧
          Answers s u who Pg.trg (0x404 + 16 * c) (BitVec.ofNat 32 ((if e.rising then 1 else 0) + (if e.unsync then 2 else 0) + 2 ^ 31)))))

/-- EXEC_ITEM, CFG_ITEM, ACCEPT_ITEM and FIELD_CPL_ITEM (R250, R251, R279), each the oldest item of the field die's slots, complete: the item leaves its
slot; a read of a plain register is answered with the word shown and clears its RC fields, a configuration copy takes effect, a push is accepted
once and counted, and an accepted push that completes OK ends. DONE_ITEM, OFFER_ITEM, FIELD_PEND_ITEM and FIELD_RECORD_ITEM (R61, R250, R254, R255,
R279), each the oldest item of the ring die's slots while the culvert is UP, complete: a DONE completes the access that waits for it and a late one
is counted; a new push goes through the steps of a transaction on its own tag; an EVT item takes effect once, and a repeated one is counted. -/
def Obligations.ItemsCross : Prop :=
  (∀ (s : State) (i : Item) (rest : List Item), alive s = true → s.cul.ringS = i :: rest →
    (∀ e p off, i = .exec e → e.op = 1 → e.off = 0x1000 * p + off → e.len = 4 → off % 4 = 0 → off < 0x1000 → regionOf e.off = .page p →
      hungRefuses s p off = false → (∀ t, popWord t p off = none) → p ≠ Pg.tmk → p ≠ Pg.chs → ∃ u, exec .execItem s = .next (settle u) ∧
        u.cul.ringS = rest ∧ u.cul.fieldFreed = atVc s.cul.fieldFreed 0 (· + 1) ∧
          u.cul.fieldW = s.cul.fieldW ++ [.done e.id St.ok 0
            (leBytes 4 (shownWord { s with cul := { s.cul with ringS := rest, fieldFreed := atVc s.cul.fieldFreed 0 (· + 1) } } p off).toNat)] ∧
          getW u p off = getW s p off &&& ~~~(accMask p off fun a => a == .rc) ∧ SameRegs [regKey p off] s u) ∧
    (∀ id p off v, i = .cfg id (.reg p off v) → ∃ u, exec .cfgItem s = .next (settle u) ∧
      getW u p off = BitVec.ofNat 32 v ∧ u.cul = { s.cul with ringS := rest, fieldFreed := atVc s.cul.fieldFreed 0 (· + 1) } ∧ SameRegs [regKey p off] s u) ∧
    (∀ id f y, i = .cfg id (.bounds f y) → ∃ u, exec .cfgItem s = .next (settle u) ∧
      u.cul = { s.cul with ringS := rest, fieldFreed := atVc s.cul.fieldFreed 0 (· + 1), fieldBound := f, symBound := y } ∧ u.regs = s.regs) ∧
    (∀ tag gen p, i = .accept tag gen → pushAt s tag gen = some p → p.orphan = false → p.accepted = false → ∃ u, exec .acceptItem s = .next (settle u) ∧
      u.cul.ringS = rest ∧ pushAt u tag gen = some { p with accepted := true, words := 0 } ∧
        getF u (epPage p.ep) (epFld p.ep F.SER_PUSH_TXN F.BEN_PUSH_TXN) = (getF s (epPage p.ep) (epFld p.ep F.SER_PUSH_TXN F.BEN_PUSH_TXN) + 1) % 2 ^ 32) ∧
    (∀ tag gen cause p, i = .cpl tag gen St.ok cause → pushAt s tag gen = some p → p.accepted = true → ∃ u, exec .fieldCplItem s = .next (settle u) ∧
      u.cul = { s.cul with ringS := rest, fieldFreed := atVc s.cul.fieldFreed 1 (· + 1) } ∧
        u.fld.pushes = (s.fld.pushes.filter fun x => !(x.tag == tag && x.gen == gen)) ∧ u.regs = s.regs)) ∧
  (∀ (s : State) (i : Item) (rest : List Item), alive s = true → culUp s = true → s.cul.fieldS = i :: rest →
    (∀ id st cause data e who a, i = .done id st cause data → s.cul.execs.find? (·.id == id) = some e → e.org = .acc who a → tabGet s.brg.accs a = none →
      ∃ u, exec .doneItem s = .next (settle u) ∧ Out.access who st cause ∈ u.out ∧ u.cul.fieldS = rest ∧ u.cul.execs = s.cul.execs.filter (·.id != id)) ∧
    (∀ id st cause data, i = .done id st cause data → s.cul.execs.find? (·.id == id) = none → ∃ u, exec .doneItem s = .next (settle u) ∧
      getF u Pg.cul F.CUL_LATE_RSP = (getF s Pg.cul F.CUL_LATE_RSP + 1) % 2 ^ 32 ∧ u.cul.fieldS = rest ∧ u.cul.execs = s.cul.execs ∧
        SameRegs [fKey Pg.cul F.CUL_LATE_RSP, fKey Pg.cul F.CUL_ITEMS_RX] s u) ∧
    (∀ tag gen t, i = .offer tag gen t → s.seq.running = true → s.cul.offers.find? (fun o => o.tag == tag && o.gen == gen) = none →
      s.cul.refusedEp.find? (·.1 == t.init) = none → issueRefusal s (txnOf t tag) = none → flowHeadgate s t.flow = none → ∃ u, exec .offerItem s = .next (settle u) ∧
        u.cul.fieldS = rest ∧ u.cul.offers = s.cul.offers ++ [{ tag := tag, gen := gen, init := t.init, taken := false }] ∧ u.seq.tags = tag :: s.seq.tags ∧
          (flowOf u t.flow).waiting = (flowOf s t.flow).waiting ++ [txnOf t tag]) ∧
    (∀ tag gen t o, i = .offer tag gen t → s.seq.running = true → s.cul.offers.find? (fun o => o.tag == tag && o.gen == gen) = some o → o.taken = true →
      ∃ u, exec .offerItem s = .next (settle u) ∧ u.cul.fieldS = rest ∧ u.cul.ringW = s.cul.ringW ++ [.accept tag gen] ∧ u.seq = s.seq) ∧
    (∀ q p v, i = .pend q p v → evtOld s q = false → ∃ u, exec .fieldPendItem s = .next (settle u) ∧
      u.cul.fieldS = rest ∧ u.cul.evtSeen = (q + 1) % 65536 ∧ u.intr.fieldPend = (s.intr.fieldPend.filter (· != p)) ++ (if v then [p] else [])) ∧
    (∀ q p v, i = .pend q p v → evtOld s q = true → ∃ u, exec .fieldPendItem s = .next (settle u) ∧
      u.cul.fieldS = rest ∧ getF u Pg.cul F.CUL_EVT_DUP = (getF s Pg.cul F.CUL_EVT_DUP + 1) % 2 ^ 32 ∧ u.intr = s.intr) ∧
    (∀ q c e, i = .record q (.cap c e) → evtOld s q = false → (capOf s c).length < 16 → ∃ u, exec .fieldRecordItem s = .next (settle u) ∧
      u.cul.fieldS = rest ∧ u.cul.evtSeen = (q + 1) % 65536 ∧ capOf u c = capOf s c ++ [e] ∧ SameRegs [fKey Pg.cul F.CUL_ITEMS_RX] s u) ∧
    (∀ q r, i = .record q r → evtOld s q = true → ∃ u, exec .fieldRecordItem s = .next (settle u) ∧
      u.cul.fieldS = rest ∧ getF u Pg.cul F.CUL_EVT_DUP = (getF s Pg.cul F.CUL_EVT_DUP + 1) % 2 ^ 32 ∧ u.time = s.time ∧ u.jmem = s.jmem))

/-- CREDIT_RETURN, KEEP_SEND, PERMIT_RENEW, PERMIT_ITEM and PERMIT_EXPIRE (R251, R252, R258) complete: a credit word of a die that withholds none gives
the other the slots freed and leaves none to return; a keep-alive leaves and counts; a permit goes out with the length of its hub while the culvert
is UP, replaces the running one where it arrives, and ends at its length. FREQ_ITEM, STEP_ITEM, MARK_SEND, MARK_RX and MARK_REPLY_RX (R236, R238,
R259, R260) complete: the field die's copy of the time takes the frequency and the steps of local time; an exchange carries its times there and
back, its offset is shown, a small one is slewed out and a large one stepped, and after four good exchanges the copy is in sync. -/
def Obligations.CreditsPermitsAndTime : Prop :=
  (∀ (s : State), alive s = true →
    (∀ vc, culUp s = true → vc < 4 → creditHeld s Pg.cul = 0 → ∃ u, exec (.creditReturn true vc) s = .next (settle u) ∧
      u.cul.fieldCred = atVc s.cul.fieldCred vc (· + s.cul.ringFreed.getD vc 0) ∧ u.cul.ringFreed.getD vc 0 = 0 ∧ u.regs = s.regs ∧
        beside { u with cul := s.cul } = beside s) ∧
    (∀ vc, culUp s = true → vc < 4 → creditHeld s Pg.cul = 0 → ∃ u, exec (.creditReturn false vc) s = .next (settle u) ∧
      getF u Pg.cul (credF vc) = (getF s Pg.cul (credF vc) + s.cul.fieldFreed.getD vc 0) % 2 ^ 7 ∧ u.cul.fieldFreed.getD vc 0 = 0 ∧
        OnlyRegs [fKey Pg.cul F.CUL_CREDITS_REQ] s { u with cul := s.cul }) ∧
    (∀ from_, culUp s = true → ∃ u, exec (.keepSend from_) s = .next (settle u) ∧
      itemOut (!from_) .keep ∈ u.out ∧
      getF u Pg.cul (if from_ then F.CUL_ITEMS_RX else F.CUL_ITEMS_TX) = (getF s Pg.cul (if from_ then F.CUL_ITEMS_RX else F.CUL_ITEMS_TX) + 1) % 2 ^ 32 ∧
        OnlyRegs [fKey Pg.cul (if from_ then F.CUL_ITEMS_RX else F.CUL_ITEMS_TX)] s u) ∧
    (culUp s = true → pairRole s = 0 → ∃ u, exec .permitRenew s = .next (settle u) ∧
      u.cul = { s.cul with ringW := s.cul.ringW ++ [.permit (1000000 * getF s Pg.cul F.CUL_PERMIT_MS)] } ∧ u.regs = s.regs ∧ beside { u with cul := s.cul } = beside s) ∧
    (culUp s = false → ∃ u, exec .permitRenew s = .next (settle u) ∧ u.cul = s.cul ∧ u.regs = s.regs ∧ beside { u with cul := s.cul } = beside s) ∧
    (∀ n rest, s.cul.ringS = .permit n :: rest → ∃ u, exec .permitItem s = .next (settle u) ∧
      u.cul.ringS = rest ∧ u.cul.permit = n ∧ u.cul.permitLive = (n != 0) ∧ u.fld.permitSeen = true) ∧
    ∃ u, exec .permitExpire s = .next (settle u) ∧ u.cul = { s.cul with permit := 0, permitLive := false } ∧ u.regs = s.regs ∧ beside { u with cul := s.cul } = beside s) ∧
  (∀ (s : State) (rest : List Item), alive s = true →
    (∀ f, s.cul.ringS = .freq f :: rest → ∃ u, exec .freqItem s = .next (settle u) ∧ u.time = { s.time with ffreq := f } ∧ u.cul.ringS = rest ∧ u.regs = s.regs) ∧
    (∀ d, s.cul.ringS = .step d :: rest → ∃ u, exec .stepItem s = .next (settle u) ∧
      u.time.facc = timeMove s.time.facc d ∧ u.time.acc = s.time.acc ∧ u.cul.stepWait = s.cul.stepWait - 1 ∧ u.cul.ringS = rest ∧ (d ≤ 0 → u.regs = s.regs)) ∧
    (culUp s = true → ∃ u, exec .markSend s = .next (settle u) ∧
      u.cul = { s.cul with markX := s.cul.markX + 1, ringW := s.cul.ringW ++ [.mark (s.cul.markX + 1) (now16 s)] } ∧ u.regs = s.regs) ∧
    (∀ x t, s.cul.ringS = .mark x t :: rest → ∃ u, exec .markRx s = .next (settle u) ∧
      u.cul.ringS = rest ∧ u.cul.fieldW = s.cul.fieldW ++ [.markReply x t (s.time.facc / 16000000000) (s.time.facc / 16000000000)] ∧ u.regs = s.regs) ∧
    (∀ x t1 t2 t3 o, culUp s = true → s.cul.fieldS = .markReply x t1 t2 t3 :: rest → x = s.cul.markX → s.cul.stepWait = 0 → o = markOffset t1 t2 t3 (now16 s) →
      ∃ u, exec .markReplyRx s = .next (settle u) ∧
        getF u Pg.cul F.CUL_TIME_ERR_OFFSET = ofSigned 32 o % 2 ^ 32 ∧ u.cul.fieldS = rest ∧
          (o.natAbs ≤ 16000 → u.time = { s.time with fslew := -o * 16000000000, fslewNs := 10000 * getF s Pg.cul F.CUL_TIME_CTL_INTERVAL }) ∧
          (16000 < o.natAbs → u.time = { s.time with facc := timeMove s.time.facc (-o * 16000000000) }) ∧
          (o.natAbs ≤ 64 → u.cul.markGood = s.cul.markGood + 1 ∧ (3 ≤ s.cul.markGood → getB u Pg.tmk F.TMK_STAT_FIELD_SYNC = true)) ∧
          (64 < o.natAbs → u.cul.markGood = 0 ∧ getB u Pg.tmk F.TMK_STAT_FIELD_SYNC = false)))

/-- CULVERT_SYMBOL_TIMEOUT, CULVERT_SILENCE_TIMEOUT, CULVERT_CREDIT_TIMEOUT, CULVERT_CHECK_FAIL, CULVERT_ABORT_PATTERN, CULVERT_RETRAIN and
CULVERT_RSP_WAIT_EXPIRE (R253 to R255, R257, R263) complete: each resets the culvert and starts its training: it counts, no EXEC stays open, no item
stands in the ring die's slots, no credit is left, and the field's pending states are stale; a DONE that meets the symbol bound completes its access
first. CULVERT_TRAINING_FAIL, CULVERT_TRAINING_RETRY, CULVERT_UP, RING_DIE_LOST and WAKE_PATTERN (R256, R257, R261, R262) complete: a failed attempt
shows its step, and the last one makes the culvert FAILED; a retry counts; training ends under the highest common version with its credits, and
fails at step 3 without one; the wake pattern empties the field die's slots, and silence makes the field die hold the ring die lost. -/
def Obligations.CulvertResetsAndTraining : Prop :=
  (∀ (s : State) (c : Instr), alive s = true →
    (((culUp s = true ∧ ((∃ b, c = .culvertSymbolTimeout b) ∨ c = .culvertSilenceTimeout ∨ c = .culvertCreditTimeout ∨ c = .culvertCheckFail ∨
        c = .culvertAbortPattern)) ∨
      (∃ who, c = .culvertRetrain who ∧ writeReaches s who Pg.cul 0x60 = true ∧ culState s ≠ 0) ∨ (c = .culvertRspWaitExpire ∧ s.cul.rspWait = true)) →
    ∃ u, exec c s = .next (settle u) ∧
      culState u = 1 ∧ getF u Pg.cul F.CUL_STALLS = (getF s Pg.cul F.CUL_STALLS + 1) % 2 ^ 32 ∧
        getF u Pg.cul F.CUL_RETRAINS = (getF s Pg.cul F.CUL_RETRAINS + 1) % 2 ^ 32 ∧ (getW u Pg.cul 0x10).getLsbD 2 = true ∧
        u.cul.execs = [] ∧ u.cul.fieldS = [] ∧ u.cul.rspWait = false ∧ u.cul.attempt = 1 ∧ (∀ vc, getF u Pg.cul (credF vc) = 0) ∧
        getF u Pg.int F.INT_STAT_FIELD_STALE = 1) ∧
    (∀ id st cause data e who a rest, culUp s = true → s.cul.fieldS = .done id st cause data :: rest → s.cul.execs.find? (·.id == id) = some e →
      e.org = .acc who a → tabGet s.brg.accs a = none → ∃ u, exec (.culvertSymbolTimeout true) s = .next (settle u) ∧ Out.access who st cause ∈ u.out)) ∧
  (∀ (s : State), alive s = true →
    (culState s = 1 →
      (∀ why, s.cul.attempt < getF s Pg.cul F.CUL_CTL_RETRIES → ∃ u, exec (.culvertTrainingFail why) s = .next (settle u) ∧
        getF u Pg.cul F.CUL_STAT_WHY = min why 4 ∧ OnlyRegs [fKey Pg.cul F.CUL_STAT_WHY] s u) ∧
      (∀ why, getF s Pg.cul F.CUL_CTL_RETRIES ≤ s.cul.attempt → ∃ u, exec (.culvertTrainingFail why) s = .next (settle u) ∧
        getF u Pg.cul F.CUL_STAT_WHY = min why 4 ∧ culState u = 4 ∧ (getW u Pg.cul 0x10).getLsbD 4 = true ∧ ∀ e, Item.exec e ∉ u.cul.ringW) ∧
      (∃ u, exec .culvertTrainingRetry s = .next (settle u) ∧ culState u = 1 ∧ u.cul = { s.cul with attempt := s.cul.attempt + 1 } ∧
        getF u Pg.cul F.CUL_RETRAINS = (getF s Pg.cul F.CUL_RETRAINS + 1) % 2 ^ 32) ∧
      (∀ en n, (getF s Pg.cul F.CUL_VER_EN &&& en) % 4 ≠ 0 → n = (if (getF s Pg.cul F.CUL_VER_EN &&& en).testBit 1 then 2 else 1) →
        ∃ u, exec (.culvertUp en s.dev.fieldRev) s = .next (settle u) ∧
          culState u = 2 ∧ getF u Pg.cul F.CUL_VER_NEG = n ∧ (∀ vc, getF u Pg.cul (credF vc) = 32 * n) ∧
            u.cul.fieldCred = [32 * n, 32 * n, 32 * n, 32 * n] ∧ (getW u Pg.cul 0x10).getLsbD 3 = true ∧ u.cul.evtUncred = []) ∧
      (∀ en rev, ((getF s Pg.cul F.CUL_VER_EN &&& en) % 4 = 0 ∨ rev ≠ s.dev.fieldRev) → s.cul.attempt < getF s Pg.cul F.CUL_CTL_RETRIES →
        ∃ u, exec (.culvertUp en rev) s = .next (settle u) ∧ getF u Pg.cul F.CUL_STAT_WHY = 3 ∧ getF u Pg.cul F.CUL_STAT_FIELD_REV = rev % 2 ^ 4 ∧ OnlyRegs [fKey Pg.cul F.CUL_STAT_WHY] s u) ∧
      (∃ u, exec .wakePattern s = .next (settle u) ∧ u.cul.ringS = [] ∧ u.cul.fieldCred = [0, 0, 0, 0] ∧ u.cul.fieldFreed = [0, 0, 0, 0] ∧ u.cul.ringLost = false ∧ u.regs = s.regs)) ∧
    ∃ u, exec .ringDieLost s = .next (settle u) ∧ u.cul = { s.cul with ringLost := true } ∧ u.regs = s.regs ∧ beside { u with cul := s.cul } = beside s)

/-- SERIAL_CHAR_RX, SERIAL_BREAK, SERIAL_CHAR_TIMEOUT, SERIAL_IDLE and SERIAL_SEALED_ENTER (R266, R267, R269, R271 to R273, R277) at a port that runs: a
good character adds its bytes to the open word, which closes when it is full; one with an error that ERR_ACT discards is lost and counted; a port
that drives drops its echo; one that still waits for mark takes nothing and waits anew; a break, the character time (unless a start bit meets it)
and idle do what they do once. -/
def Obligations.SerialReceives : Prop :=
  ∀ (s : State) (n : Nat), alive s = true → n < 32 → serOn s n = true →
    (∀ data pe fe st us, markSeen s n st = false → ∃ u, exec (.serialCharRx n data pe fe st us) s = .next (settle u) ∧
      serOf u n = { serOf s n with markFrom := some (fieldNs s) } ∧ u.fld.fifo = s.fld.fifo ∧ u.regs = s.regs) ∧
    (∀ data pe fe st us, markSeen s n st = true → serDeaf s n = true → ∃ u, exec (.serialCharRx n data pe fe st us) s = .next (settle u) ∧
      getF u (Pg.ser n) F.SER_ECHO_DROP = (getF s (Pg.ser n) F.SER_ECHO_DROP + 1) % 2 ^ 32 ∧ OnlyRegs [fKey (Pg.ser n) F.SER_ECHO_DROP] s u) ∧
    (∀ data st us, markSeen s n st = true → serDeaf s n = false → (fifoOf s n).sealed = none → (fifoOf s n).opened.length + (charBytes s n data).length ≤ 8 →
      ∃ u, exec (.serialCharRx n data false false st us) s = .next (settle u) ∧
        (fifoOf u n).opened = (fifoOf s n).opened ++ charBytes s n data ∧ (fifoOf u n).rx = (fifoOf s n).rx ∧ (fifoOf u n).tx = (fifoOf s n).tx ∧
          getF u (Pg.ser n) F.SER_RX_CHARS = (getF s (Pg.ser n) F.SER_RX_CHARS + 1) % 2 ^ 32 ∧ SameRegs (fKey (Pg.ser n) F.SER_RX_CHARS :: irqKeys (Pg.ser n)) s u) ∧
    (∀ data st us, markSeen s n st = true → serDeaf s n = false → (fifoOf s n).sealed = none → (fifoOf s n).opened.length = 8 → (fifoOf s n).rx.length < 128 →
      ∃ u, exec (.serialCharRx n data false false st us) s = .next (settle u) ∧
        (fifoOf u n).opened = charBytes s n data ∧
          (fifoOf u n).rx = (fifoOf s n).rx ++ [{ data := (fifoOf s n).opened, last := false, gap := (fifoOf s n).openGap }]) ∧
    (∀ data st us, markSeen s n st = true → serDeaf s n = false → getB s (Pg.ser n) F.SER_CFG_ERR_ACT = true → ∃ u, exec (.serialCharRx n data true false st us) s = .next (settle u) ∧
      getF u (Pg.ser n) F.SER_PARITY_ERR = (getF s (Pg.ser n) F.SER_PARITY_ERR + 1) % 2 ^ 32 ∧ (getW u (Pg.ser n) 0x10).getLsbD 8 = true ∧
        getF u (Pg.ser n) F.SER_RX_LOST = (getF s (Pg.ser n) F.SER_RX_LOST + (charBytes s n data).length) % 2 ^ 32 ∧ (fifoOf u n).gapNext = true) ∧
    (∀ inChar, serDeaf s n = false → ∃ u, exec (.serialBreak n inChar) s = .next (settle u) ∧
      getF u (Pg.ser n) F.SER_BREAKS = (getF s (Pg.ser n) F.SER_BREAKS + 1) % 2 ^ 32 ∧ (getW u (Pg.ser n) 0x10).getLsbD 5 = true ∧
        getF u (Pg.ser n) F.SER_FRAMING_ERR = (getF s (Pg.ser n) F.SER_FRAMING_ERR + if inChar then 1 else 0) % 2 ^ 32 ∧ (fifoOf u n).opened = []) ∧
    ((fifoOf s n).opened ≠ [] → (fifoOf s n).sealed = none → (fifoOf s n).rx.length < 128 → ∃ u, exec (.serialCharTimeout n false) s = .next (settle u) ∧
      (fifoOf u n).opened = [] ∧ (fifoOf u n).rx = (fifoOf s n).rx ++ [{ data := (fifoOf s n).opened, last := true, gap := (fifoOf s n).openGap }] ∧
        (getW u (Pg.ser n) 0x10).getLsbD 2 = true ∧ getF u (Pg.ser n) F.SER_MSG_END_STAMP = (serOf s n).charEnd.1 % 2 ^ 32) ∧
    (∃ u, exec (.serialCharTimeout n true) s = .next (settle u) ∧ u = cleared s) ∧
    ((serOf s n).idleArmed = true → ∃ u, exec (.serialIdle n) s = .next (settle u) ∧
      (getW u (Pg.ser n) 0x10).getLsbD 6 = true ∧ serOf u n = { serOf s n with idleArmed := false } ∧ OnlyRegs (irqKeys (Pg.ser n)) s { u with fld := s.fld }) ∧
    (∀ w, (fifoOf s n).sealed = some w → (fifoOf s n).rx.length < 128 → ∃ u, exec (.serialSealedEnter n) s = .next (settle u) ∧
      fifoOf u n = { fifoOf s n with rx := (fifoOf s n).rx ++ [w], sealed := none } ∧ (mirroring s = false → u.regs = s.regs ∧ beside { u with fld := s.fld } = beside s))

/-- SERIAL_FLUSH, SERIAL_TX_BREAK, SERIAL_RX_CLEAR and SERIAL_TX_CLEAR (R271 to R273, R275): each bit of SER.CMD has its effect: the open word closes, a
break follows the character on the line, every receive word goes and the next one carries GAP, or every transmit word not yet begun goes and is
counted. SERIAL_TX_START, SERIAL_CHAR_TX_END, SERIAL_DE_RELEASE and SERIAL_CTS_CHANGE (R268 to R270, R275): a port whose transmitter is ready
asserts DE and, once LEAD is over, sends the oldest byte of its transmit FIFO as a character; the end of a character counts and the end of the last
one starts LAG; after LAG the driver is released; CTS is shown by its polarity, and when it lets a waiting transmission go on its next character
starts. -/
def Obligations.SerialCommandsAndSends : Prop :=
  (∀ (s : State) (who : Agent) (n : Nat), n < 32 →
    (writeTaken s who (Pg.ser n) 0x58 1#32 = true → (fifoOf s n).sealed = none → (fifoOf s n).rx.length < 128 → (fifoOf s n).opened ≠ [] →
      ∃ u, exec (.serialFlush who n) s = .next (settle u) ∧
        (fifoOf u n).opened = [] ∧ (fifoOf u n).rx = (fifoOf s n).rx ++ [{ data := (fifoOf s n).opened, last := true, gap := (fifoOf s n).openGap }]) ∧
    (writeTaken s who (Pg.ser n) 0x58 2#32 = true → serOn s n = true → (serOf s n).breaking = false → ∃ u, exec (.serialTxBreak who n) s = .next (settle u) ∧
      serOf u n = (if (serOf s n).inChar.isSome then { serOf s n with breakReq := true } else { serOf s n with breaking := true }) ∧ fifoOf u n = fifoOf s n) ∧
    (writeTaken s who (Pg.ser n) 0x58 4#32 = true → ∃ u, exec (.serialRxClear who n) s = .next (settle u) ∧
      (fifoOf u n).rx = [] ∧ (fifoOf u n).opened = [] ∧ (fifoOf u n).sealed = none ∧ (fifoOf u n).gapNext = true ∧ (fifoOf u n).tx = (fifoOf s n).tx) ∧
    (writeTaken s who (Pg.ser n) 0x58 8#32 = true → (fifoOf s n).txTaken = 0 → ∃ u, exec (.serialTxClear who n) s = .next (settle u) ∧
      (fifoOf u n).tx = [] ∧ (fifoOf u n).txGapNext = true ∧ (fifoOf u n).rx = (fifoOf s n).rx ∧
        getF u (Pg.ser n) F.SER_TX_DISCARD = (getF s (Pg.ser n) F.SER_TX_DISCARD + closedBytes (fifoOf s n).tx) % 2 ^ 32)) ∧
  (∀ (s : State) (n : Nat), alive s = true → n < 32 →
    (∀ w ws b more lead, (fifoOf s n).tx = w :: ws → w.data.drop (fifoOf s n).txTaken = b :: more → txGate s n = true → (serOf s n).inChar = none → (serOf s n).breaking = false →
      (serOf s n).breakReq = false → serMayStart s n = true → getF s (Pg.ser n) F.SER_CFG_DATA_BITS = 1 →
      ((serOf s n).phase = .active ∨ (serMode s n = 0 ∧ (serOf s n).phase = .idle) ∨ ((serOf s n).phase = .lead ∧ lead = true)) →
      ∃ u, exec (.serialTxStart n lead) s = .next (settle u) ∧
        u.out = [.char n b.toNat (charLine (getW s (Pg.ser n) 0x40) b.toNat)] ∧ serOf u n = { serOf s n with phase := .active, inChar := some (more.isEmpty && w.last) } ∧
          (fifoOf u n).tx = (if more.isEmpty then ws else w :: ws) ∧ (fifoOf u n).rx = (fifoOf s n).rx ∧
          SameRegs [fKey (Pg.ser n) F.SER_TX_GAP, fKey (Pg.ser n) F.SER_STAT_DE] s u) ∧
    (∀ lead, (fifoOf s n).tx ≠ [] → txGate s n = true → (serOf s n).inChar = none → (serOf s n).breaking = false → (serOf s n).breakReq = false → serMayStart s n = true →
      serMode s n ≠ 0 → (serOf s n).phase = .idle → ∃ u, exec (.serialTxStart n lead) s = .next (settle u) ∧
        serOf u n = { serOf s n with phase := .lead } ∧ getB u (Pg.ser n) F.SER_STAT_DE = true ∧ u.out = [] ∧ fifoOf u n = fifoOf s n ∧
          SameRegs [fKey (Pg.ser n) F.SER_STAT_DE] s u) ∧
    (∀ l, (serOf s n).inChar = some l → (serOf s n).breakReq = false → (fifoOf s n).tx = [] → ∃ u, exec (.serialCharTxEnd n) s = .next (settle u) ∧
      getF u (Pg.ser n) F.SER_TX_CHARS = (getF s (Pg.ser n) F.SER_TX_CHARS + 1) % 2 ^ 32 ∧ (getW u (Pg.ser n) 0x10).getLsbD 4 = true ∧
        serOf u n = { serOf s n with inChar := none, phase := if serMode s n = 0 then .idle else .lag } ∧
        SameRegs (fKey (Pg.ser n) F.SER_TX_CHARS :: fKey (Pg.ser n) F.SER_STAT_DE :: irqKeys (Pg.ser n)) s u) ∧
    ((serOf s n).phase = .lag → ∃ u, exec (.serialDeRelease n) s = .next (settle u) ∧
      serOf u n = { serOf s n with phase := .idle } ∧ getB u (Pg.ser n) F.SER_STAT_DE = false ∧ OnlyRegs [fKey (Pg.ser n) F.SER_STAT_DE] s { u with fld := s.fld }) ∧
    (∀ level, ((serOf s n).phase = .active → (serOf s n).inChar ≠ none) → ∃ u, exec (.serialCtsChange n level) s = .next (settle u) ∧
      getB u (Pg.ser n) F.SER_STAT_CTS = (level == getB s (Pg.ser n) F.SER_CFG_CTS_POL) ∧ OnlyRegs [fKey (Pg.ser n) F.SER_STAT_CTS] s u) ∧
    (∀ w ws b more, (fifoOf s n).tx = w :: ws → w.data.drop (fifoOf s n).txTaken = b :: more → txGate s n = true → serOn s n = true → (serOf s n).phase = .active →
      (serOf s n).inChar = none → (serOf s n).breaking = false → getF s (Pg.ser n) F.SER_CFG_DATA_BITS = 1 →
      ∃ u, exec (.serialCtsChange n (!getB s (Pg.ser n) F.SER_CFG_CTS_POL)) s = .next (settle u) ∧
        getB u (Pg.ser n) F.SER_STAT_CTS = false ∧ u.out = [.char n b.toNat (charLine (getW s (Pg.ser n) 0x40) b.toNat)] ∧
          serOf u n = { serOf s n with inChar := some (more.isEmpty && w.last) } ∧ (fifoOf u n).tx = (if more.isEmpty then ws else w :: ws)))

/-- PUSH_FORM and PUSH_HOLD_EXPIRE (R278, R279): a port or bench whose push is due and has a free tag forms it from its oldest words, at most MAX_WORDS;
HOLD makes it due with fewer. The push carries their bytes, or in the tagged view the words and their tags, to its address and flow, and goes to the
ring die as an OFFER. -/
def Obligations.PushesForm : Prop :=
  ∀ (s : State) (ep tag : Nat), alive s = true → ep < 48 → pushOn s ep = true →
    (openPushes s ep).length < getF s (epPage ep) (epFld ep F.SER_PUSH_CFG_DEPTH F.BEN_PUSH_CFG_DEPTH) → lowestFree (s.fld.pushes.map (·.tag)) 704 1024 = some tag →
    (pushDue s ep = true → ∃ u, exec (.pushForm ep) s = .next (settle u) ∧ PushFormed s u ep tag) ∧
    (freeWords s ep ≠ [] → ∃ u, exec (.pushHoldExpire ep) s = .next (settle u) ∧ PushFormed s u ep tag)

/-- BENCH_TICK and BENCH_STALL_TIMEOUT (R285 to R291, R294): a running bench takes the entry at its state and inputs. One that only drives takes its
next state and its slots by the mask and counts a step; one whose pop finds no unit stalls; one whose parity is bad, or goes bad, stops the bench; a
stopped bench does nothing; a stall that lasts too long stops it while its FIFO action is still not possible (that the action wins otherwise is the
model's reading, log entry 164). -/
def Obligations.BenchTicks : Prop :=
  ∀ (s : State) (n idx : Nat), alive s = true → n < 16 →
    (benRun s n = 0 → ∃ u, exec (.benchTick n none) s = .next (settle u) ∧ u = cleared s) ∧
    (∀ e, benRun s n = 1 → e = benEntry s n idx → idx = tickIndex s n →
      ((benOf s n).badParity.contains idx = false → wordBits e 22 8 = 0 → ∃ u, exec (.benchTick n none) s = .next (settle u) ∧
        benRun u n = 1 ∧ getF u (Pg.ben n) F.BEN_STATE_STATE = wordBits e 16 6 ∧ getF u (Pg.ben n) F.BEN_STAT_INDEX = idx ∧
          getF u (Pg.ben n) F.BEN_STEPS = (getF s (Pg.ben n) F.BEN_STEPS + 1) % 2 ^ 32 ∧
          (∀ k, k < 8 → (benOf u n).slots.testBit k = if (wordBits e 8 8).testBit k then (wordBits e 0 8).testBit k else (benOf s n).slots.testBit k) ∧
          fifoOf u (32 + n) = fifoOf s (32 + n) ∧
          SameRegs [fKey (Pg.ben n) F.BEN_STAT_INDEX, fKey (Pg.ben n) F.BEN_STATE_STATE, fKey (Pg.ben n) F.BEN_SR_SR, fKey (Pg.ben n) F.BEN_COUNT_COUNT,
            fKey (Pg.ben n) F.BEN_STEPS] s u) ∧
      ((benOf s n).badParity.contains idx = false → wordBits e 24 2 = 2 → (fifoOf s (32 + n)).tx = [] → ∃ u, exec (.benchTick n none) s = .next (settle u) ∧
        benRun u n = 2 ∧ getF u (Pg.ben n) F.BEN_STAT_STALL_ON = 2 ∧ getF u (Pg.ben n) F.BEN_STALLS = (getF s (Pg.ben n) F.BEN_STALLS + 1) % 2 ^ 32 ∧
          (getW u (Pg.ben n) 0x10).getLsbD 4 = true ∧ benOf u n = { benOf s n with heldEntry := e, heldSin := (benOf u n).heldSin } ∧
          getF u (Pg.ben n) F.BEN_STATE_STATE = getF s (Pg.ben n) F.BEN_STATE_STATE) ∧
      ((benOf s n).badParity.contains idx = true → ∃ u, exec (.benchTick n none) s = .next (settle u) ∧
        benRun u n = 0 ∧ getF u (Pg.ben n) F.BEN_STAT_STOP_WHY = 4 ∧ getB u (Pg.ben n) F.BEN_ERR_TABLE_PARITY = true ∧ (getW u (Pg.ben n) 0x10).getLsbD 3 = true ∧
          (benOf u n).slots = (benOf s n).slots) ∧
      (∀ k, k < 1024 → k = idx → ∃ u, exec (.benchTick n (some k)) s = .next (settle u) ∧
        benRun u n = 0 ∧ getF u (Pg.ben n) F.BEN_STAT_STOP_WHY = 4 ∧ getB u (Pg.ben n) F.BEN_ERR_TABLE_PARITY = true ∧ idx ∈ (benOf u n).badParity)) ∧
    (benRun s n = 2 → benBlocked s n (benOf s n).heldEntry = 0 → ∃ u, exec (.benchStallTimeout n) s = .next (settle u) ∧ u = cleared s) ∧
    (benRun s n = 2 → benBlocked s n (benOf s n).heldEntry ≠ 0 → ∃ u, exec (.benchStallTimeout n) s = .next (settle u) ∧
      benRun u n = 0 ∧ getF u (Pg.ben n) F.BEN_STAT_STOP_WHY = 3 ∧ getB u (Pg.ben n) F.BEN_ERR_STALL_TIMEOUT = true ∧ (getW u (Pg.ben n) 0x10).getLsbD 3 = true ∧
        OnlyRegs (fKey (Pg.ben n) F.BEN_STAT_STOP_WHY :: fKey (Pg.ben n) F.BEN_ERR_STALL_TIMEOUT :: errKeys (Pg.ben n)) s u)

/-- BENCH_RUN, BENCH_STOP, BENCH_RUN_MASK and BENCH_STOP_MASK (R290, R292, R300): a stopped bench starts, with its state, shift register, count, slots
and divisor set first where RESTART_CLEAR is 1; a running one stops with its cause; a mask starts or stops its benches in one write and no other
bench. BENCH_FLUSH, BENCH_RX_CLEAR, BENCH_TX_CLEAR and BENCH_TXD (R295, R296): the commands of a bench's FIFOs; TXD pushes one unit as a word of its
own with LAST. -/
def Obligations.BenchControlAndFifos : Prop :=
  (∀ (s : State) (who : Agent),
    (∀ n, n < 16 → writeTaken s who (Pg.ben n) 0x44 1#32 = true → benRun s n = 0 → pageEnabled s (Pg.ben n) = true → pairSilent s = false →
      ∃ u, exec (.benchRun who n) s = .next (settle u) ∧
        benRun u n = 1 ∧ fifoOf u (32 + n) = fifoOf s (32 + n) ∧ (benOf u n).table = (benOf s n).table ∧
          (getB s (Pg.ben n) F.BEN_CTL_RESTART_CLEAR = true → getF u (Pg.ben n) F.BEN_STATE_STATE = getF s (Pg.ben n) F.BEN_OUT_CFG_START_STATE ∧
            getF u (Pg.ben n) F.BEN_SR_SR = 0 ∧ getF u (Pg.ben n) F.BEN_COUNT_COUNT = 0 ∧ (benOf u n).slots = getF s (Pg.ben n) F.BEN_OUT_CFG_INIT ∧
            (benOf u n).divisor = getF s (Pg.ben n) F.BEN_DIV_A_DIV) ∧
          (getB s (Pg.ben n) F.BEN_CTL_RESTART_CLEAR = false → getF u (Pg.ben n) F.BEN_STATE_STATE = getF s (Pg.ben n) F.BEN_STATE_STATE ∧ benOf u n = benOf s n)) ∧
    (∀ n, n < 16 → writeTaken s who (Pg.ben n) 0x44 2#32 = true → benRun s n ≠ 0 → ∃ u, exec (.benchStop who n) s = .next (settle u) ∧
      benRun u n = 0 ∧ getF u (Pg.ben n) F.BEN_STAT_STOP_WHY = 1 ∧ (getW u (Pg.ben n) 0x10).getLsbD 3 = true ∧ benOf u n = benOf s n ∧
        fifoOf u (32 + n) = fifoOf s (32 + n)) ∧
    (∀ v, writeTaken s who Pg.btb 0x40 v = true → ∃ u, exec (.benchRunMask who v) s = .next (settle u) ∧ ∀ n, n < 16 →
      benRun u n = if v.getLsbD n && pageEnabled s (Pg.ben n) && benRun s n == 0 && !pairSilent s then 1 else benRun s n) ∧
    (∀ v, writeTaken s who Pg.btb 0x44 v = true → ∃ u, exec (.benchStopMask who v) s = .next (settle u) ∧ ∀ n, n < 16 →
      benRun u n = (if v.getLsbD n then 0 else benRun s n) ∧ benOf u n = benOf s n)) ∧
  (∀ (s : State) (who : Agent) (n : Nat), n < 16 →
    (writeTaken s who (Pg.ben n) 0x44 4#32 = true → (fifoOf s (32 + n)).sealed = none → (fifoOf s (32 + n)).rx.length < 256 → (fifoOf s (32 + n)).opened ≠ [] →
      ∃ u, exec (.benchFlush who n) s = .next (settle u) ∧ (fifoOf u (32 + n)).opened = [] ∧
        (fifoOf u (32 + n)).rx = (fifoOf s (32 + n)).rx ++ [{ data := (fifoOf s (32 + n)).opened, last := true, gap := (fifoOf s (32 + n)).openGap }]) ∧
    (writeTaken s who (Pg.ben n) 0x44 8#32 = true → ∃ u, exec (.benchRxClear who n) s = .next (settle u) ∧
      (fifoOf u (32 + n)).rx = [] ∧ (fifoOf u (32 + n)).opened = [] ∧ (fifoOf u (32 + n)).sealed = none ∧ (fifoOf u (32 + n)).gapNext = true ∧
        (fifoOf u (32 + n)).tx = (fifoOf s (32 + n)).tx) ∧
    (writeTaken s who (Pg.ben n) 0x44 16#32 = true → (fifoOf s (32 + n)).txTaken = 0 → ∃ u, exec (.benchTxClear who n) s = .next (settle u) ∧
      (fifoOf u (32 + n)).tx = [] ∧ (fifoOf u (32 + n)).txGapNext = true ∧ (fifoOf u (32 + n)).rx = (fifoOf s (32 + n)).rx ∧
        getF u (Pg.ben n) F.BEN_TX_DISCARD = (getF s (Pg.ben n) F.BEN_TX_DISCARD + closedBytes (fifoOf s (32 + n)).tx) % 2 ^ 32) ∧
    (∀ v, writeTaken s who (Pg.ben n) 0x7C v = true → (fifoOf s (32 + n)).tx.length < 256 → ∃ u, exec (.benchTxd who n v) s = .next (settle u) ∧
      (fifoOf u (32 + n)).tx = (fifoOf s (32 + n)).tx ++ [{ data := leBytes (benUnit s n) (v.toNat % 2 ^ 16), last := true, gap := (fifoOf s (32 + n)).txGapNext }] ∧
        (fifoOf u (32 + n)).txGapNext = false ∧ (fifoOf u (32 + n)).rx = (fifoOf s (32 + n)).rx))

/-- BENCH_PROGRAM_WRITE, TABLE_CRC_GO and TABLE_CRC_DONE (R293, R294, R301): a write of a stopped bench's table changes its entry, whose parity is good
again; one to a bench that is not stopped, or that starts in the same step, is refused and noted; the same holds of its program's registers; the
check of a table is busy until its CRC is there. -/
def Obligations.BenchPrograms : Prop :=
  ∀ (s : State) (who : Agent) (n : Nat), alive s = true → n < 16 →
    (∀ i v, i < 1024 → benRun s n = 0 → blockRefuses s (Pg.ben n) = none →
      ∃ u, exec (.benchProgramWrite who n true (4 * i) (leBytes 4 v) false) s = .next (settle u) ∧
        (∀ j, benEntry u n j = if j = i then BitVec.ofNat 32 v else benEntry s n j) ∧ i ∉ (benOf u n).badParity ∧ benRun u n = 0 ∧
          (getB s Pg.btb F.BTB_CRC_STAT_BUSY = true → s.fld.crcBench = n → getB u Pg.btb F.BTB_CRC_STAT_DIRTY = true)) ∧
    (∀ i v meet, i < 1024 → benRun s n ≠ 0 ∨ meet = true → blockRefuses s (Pg.ben n) = none →
      ∃ u, exec (.benchProgramWrite who n true (4 * i) (leBytes 4 v) meet) s = .next (settle u) ∧
        benOf u n = benOf s n ∧ getB u (Pg.ben n) F.BEN_ERR_WRITE_WHILE_RUN = true ∧ getF u (Pg.ben n) F.BEN_ERR_WHERE = i ∧
          getB u (Pg.ben n) F.BEN_ERR_IN_TABLE = true ∧ (getW u (Pg.ben n) 0x10).getLsbD 1 = true) ∧
    (∀ v, writeTaken s who (Pg.ben n) 0x64 v = true → benRun s n = 0 → ∃ u, exec (.benchProgramWrite who n false 0x64 (leBytes 4 v.toNat) false) s = .next (settle u) ∧
      getF u (Pg.ben n) F.BEN_SR_SR = v.toNat ∧ SameRegs [fKey (Pg.ben n) F.BEN_SR_SR] s u ∧ u.fld = s.fld) ∧
    (∀ off v, writeReaches s who (Pg.ben n) off = true → pageEnabled s (Pg.ben n) = true → benProgReg off = true → off % 4 = 0 →
      ∃ u, exec (.benchProgramWrite who n false off (leBytes 4 v) true) s = .next (settle u) ∧
        getW u (Pg.ben n) off = getW s (Pg.ben n) off ∧ getB u (Pg.ben n) F.BEN_ERR_WRITE_WHILE_RUN = true ∧ getF u (Pg.ben n) F.BEN_ERR_WHERE = off / 4 ∧
          getB u (Pg.ben n) F.BEN_ERR_IN_TABLE = false) ∧
    (∀ v, writeTaken s who Pg.btb 0x4C v = true → v.getLsbD 4 = true → getB s Pg.btb F.BTB_CRC_STAT_BUSY = false → ∃ u, exec (.tableCrcGo who v) s = .next (settle u) ∧
      getB u Pg.btb F.BTB_CRC_STAT_BUSY = true ∧ getB u Pg.btb F.BTB_CRC_STAT_DIRTY = false ∧ u.fld.crcBench = v.toNat % 16) ∧
    (getB s Pg.btb F.BTB_CRC_STAT_BUSY = true → ∃ u, exec .tableCrcDone s = .next (settle u) ∧
      getB u Pg.btb F.BTB_CRC_STAT_BUSY = false ∧ (getW u Pg.btb 0x10).getLsbD 2 = true ∧
        (getB s Pg.btb F.BTB_CRC_STAT_DIRTY = false → getF u Pg.btb F.BTB_CRC_RESULT_CRC = crc32c (benTableBytes s s.fld.crcBench) % 2 ^ 32) ∧
        OnlyRegs (fKey Pg.btb F.BTB_CRC_RESULT_CRC :: fKey Pg.btb F.BTB_CRC_STAT_BUSY :: irqKeys Pg.btb) s { u with fresh := s.fresh })

/-- CAN_FRAME_RX, CAN_RX_RD_WRITE, CAN_INTEGRATED and CAN_BUS_ERROR (R302, R303, R306, R309, R310, R317, R318): a good frame takes the next entry
number, its entry goes to the ring die with the time of its start, its identifier and its data, and the receive error counter falls; with no room it
is lost and counted; an error counts, ends the frame in hand and, past 255, takes the port off the bus. -/
def Obligations.CanReceives : Prop :=
  ∀ (s : State) (n : Nat), alive s = true → n < 8 →
    (∀ idWord dlc fdf brs esi data, canLive s n = true → pageEnabled s (Pg.can n) = true → (fdf = true → getB s (Pg.can n) F.CAN_CFG_FD_EN = true) → canMode s n ≠ 2 →
      ∃ u, exec (.canFrameRx n idWord dlc fdf brs esi data) s = .next (settle u) ∧
        getF u (Pg.can n) F.CAN_RX_SEQ_SEQ = (getF s (Pg.can n) F.CAN_RX_SEQ_SEQ + 1) % 2 ^ 32 ∧ getB u (Pg.can n) F.CAN_STAT_IDLE = true ∧
          (getF s (Pg.can n) F.CAN_ERRCNT_REC ≤ 127 → getF u (Pg.can n) F.CAN_ERRCNT_REC = getF s (Pg.can n) F.CAN_ERRCNT_REC - 1) ∧
          (127 < getF s (Pg.can n) F.CAN_ERRCNT_REC → 119 ≤ getF u (Pg.can n) F.CAN_ERRCNT_REC ∧ getF u (Pg.can n) F.CAN_ERRCNT_REC ≤ 127) ∧
          (canWaiting s n < 64 → ∃ e, u.cul.fieldW = s.cul.fieldW ++ [.record s.cul.evtSeq (.can n e)] ∧ e.take 8 = leBytes 8 (canOf s n).sof.1 ∧
            (e.drop 8).take 4 = leBytes 4 (idWord % 2 ^ 31) ∧ leAt e 16 4 = getF s (Pg.can n) F.CAN_RX_SEQ_SEQ ∧
            (idWord.testBit 30 = false → data.length ≤ canLen fdf dlc → (e.drop 24).take data.length = data) ∧ (canOf u n).lost = 0) ∧
          (64 ≤ canWaiting s n → u.cul = s.cul ∧ (canOf u n).lost = (canOf s n).lost + 1 ∧
            getF u (Pg.can n) F.CAN_RX_LOST = (getF s (Pg.can n) F.CAN_RX_LOST + 1) % 2 ^ 32 ∧ (getW u (Pg.can n) 0x10).getLsbD 4 = true)) ∧
    (∀ who v, writeTaken s who (Pg.can n) 0x68 v = true → ∃ u, exec (.canRxRdWrite who n v) s = .next (settle u) ∧
      getF u (Pg.can n) F.CAN_RX_RD_RD = v.toNat % 2 ^ 16 ∧ OnlyRegs [regKey (Pg.can n) 0x68] s u) ∧
    (pageEnabled s (Pg.can n) = true → getB s (Pg.can n) F.CAN_STAT_SYNC = false → ∃ u, exec (.canIntegrated n) s = .next (settle u) ∧
      getB u (Pg.can n) F.CAN_STAT_SYNC = true ∧ getB u (Pg.can n) F.CAN_STAT_IDLE = true ∧ OnlyRegs [fKey (Pg.can n) F.CAN_STAT_SYNC] s u) ∧
    (∀ lec weight, canLive s n = true → (canOf s n).cur = none → (canOf s n).ending = false → ∃ u, exec (.canBusError n lec weight true) s = .next (settle u) ∧
      getF u (Pg.can n) F.CAN_BUS_ERRORS = (getF s (Pg.can n) F.CAN_BUS_ERRORS + 1) % 2 ^ 32 ∧ getF u (Pg.can n) F.CAN_STAT_LEC = lec % 7 ∧
        getF u (Pg.can n) F.CAN_ERRCNT_TEC = min (getF s (Pg.can n) F.CAN_ERRCNT_TEC + weight) 511 ∧ getF u (Pg.can n) F.CAN_ERRCNT_REC = getF s (Pg.can n) F.CAN_ERRCNT_REC ∧
        (getF s (Pg.can n) F.CAN_ERRCNT_TEC + weight < 128 → getF s (Pg.can n) F.CAN_ERRCNT_REC < 128 → canState u n = 0) ∧
        (255 < getF s (Pg.can n) F.CAN_ERRCNT_TEC + weight → canState u n = (if getB s (Pg.can n) F.CAN_CFG_AUTO_RECOVER then 3 else 2) ∧
          getF u (Pg.can n) F.CAN_BUS_OFFS = (getF s (Pg.can n) F.CAN_BUS_OFFS + 1) % 2 ^ 32 ∧ (getW u (Pg.can n) 0x10).getLsbD 8 = true)) ∧
    (∀ lec weight, canLive s n = true → (canOf s n).cur = none → (canOf s n).ending = false → ∃ u, exec (.canBusError n lec weight false) s = .next (settle u) ∧
      getF u (Pg.can n) F.CAN_BUS_ERRORS = (getF s (Pg.can n) F.CAN_BUS_ERRORS + 1) % 2 ^ 32 ∧ getF u (Pg.can n) F.CAN_STAT_LEC = lec % 7 ∧
        getF u (Pg.can n) F.CAN_ERRCNT_REC = min (getF s (Pg.can n) F.CAN_ERRCNT_REC + weight) 511 ∧ getF u (Pg.can n) F.CAN_ERRCNT_TEC = getF s (Pg.can n) F.CAN_ERRCNT_TEC) ∧
    (∀ lec weight b, (canOf s n).cur = some (.buffer b) → b < 32 → (canOf s n).ending = false → canCancel s n b = false → getB s (Pg.can n) F.CAN_BUF_FMT_TT b = false →
      getF s (Pg.can n) F.CAN_ERRCNT_TEC + weight ≤ 255 → canReq s n b = true → ∃ u, exec (.canBusError n lec weight true) s = .next (settle u) ∧
        (canOf u n).cur = none ∧ getF u (Pg.can n) F.CAN_BUS_ERRORS = (getF s (Pg.can n) F.CAN_BUS_ERRORS + 1) % 2 ^ 32 ∧
          canReq u n b = !getB s (Pg.can n) F.CAN_BUF_FMT_ONE_SHOT b ∧
          (getB s (Pg.can n) F.CAN_BUF_FMT_ONE_SHOT b = true → getF u (Pg.can n) F.CAN_BUF_STAT_OUTCOME b = 5))

/-- CAN_TX_REQ, CAN_TX_CANCEL, CAN_SOF, CAN_ARBITRATION_LOST and CAN_TX_END (R312 to R317): a request stays until its frame is sent or it is cancelled;
the port starts its reference message, the frame of an open window or the frame that would win arbitration, keeps its request after a lost
arbitration unless it is one-shot, and shows how the frame ended, with its time; a loop delay beyond 127 is a bit error. A port that only monitors
starts nothing. CAN_RECOVER, CAN_RECOVERED, CAN_REF_LATE, CAN_TT_WINDOW_OPEN and CAN_TT_WINDOW_CLOSE (R319 to R322): recovery from bus-off, a
reference message that comes too late, and the windows of the schedule: a buffer that still waits when its window ends records FAILED_WINDOW and
waits for the next. -/
def Obligations.CanSendsAndRecovers : Prop :=
  (∀ (s : State) (n : Nat), n < 8 →
    (∀ who v, writeTaken s who (Pg.can n) 0x58 v = true → canState s n ≤ 1 → pairSilent s = false → (∀ b, b < 32 → v.getLsbD b = true → canFormatBad s n b = false) →
      ∃ u, exec (.canTxReq who n v) s = .next (settle u) ∧ (∀ b, b < 32 → canReq u n b = (v.getLsbD b || canReq s n b)) ∧ SameRegs [fKey (Pg.can n) F.CAN_TX_REQ_REQ] s u) ∧
    (∀ who b, b < 32 → writeTaken s who (Pg.can n) 0x5C (BitVec.ofNat 32 (2 ^ b)) = true → canReq s n b = true →
      ∃ u, exec (.canTxCancel who n (BitVec.ofNat 32 (2 ^ b))) s = .next (settle u) ∧
        ((canOf s n).cur = some (.buffer b) → canReq u n b = true ∧ canCancel u n b = true ∧ SameRegs [fKey (Pg.can n) F.CAN_TX_CANCEL_CANCEL] s u) ∧
        ((canOf s n).cur ≠ some (.buffer b) → canReq u n b = false ∧ getF u (Pg.can n) F.CAN_BUF_STAT_OUTCOME b = 3 ∧
          (getF u (Pg.can n) F.CAN_TX_DONE_DONE).testBit b = true ∧ ∀ c, c ≠ b → canReq u n c = canReq s n c)) ∧
    (alive s = true → canLive s n = true → canMode s n = 1 → ∃ u, exec (.canSof n) s = .next (settle u) ∧
      canOf u n = { canOf s n with sof := (fieldLong s, !fieldSync s) } ∧ u.out = [] ∧ OnlyRegs [fKey (Pg.can n) F.CAN_STAT_IDLE] s { u with fld := s.fld }) ∧
    (alive s = true → canLive s n = true → canMode s n ≠ 1 → pageEnabled s (Pg.can n) = true → getB s (Pg.can n) F.CAN_TT_STAT_REF_PENDING = true → ∃ u, exec (.canSof n) s = .next (settle u) ∧
      u.out = [.can n (canRefWord s n) 1 false false [BitVec.ofNat 8 (getF s (Pg.can n) F.CAN_TT_STAT_CYCLE)]] ∧ (canOf u n).cur = some .ref ∧ (canOf u n).refStarted = true ∧
        (canOf u n).sof = (fieldLong s, !fieldSync s) ∧ getB u (Pg.can n) F.CAN_STAT_IDLE = false ∧ getB u (Pg.can n) F.CAN_TT_STAT_REF_PENDING = false) ∧
    (∀ j, alive s = true → canLive s n = true → canMode s n ≠ 1 → pageEnabled s (Pg.can n) = true → getB s (Pg.can n) F.CAN_TT_STAT_REF_PENDING = false → canWindow s n = some j →
      ∃ u, exec (.canSof n) s = .next (settle u) ∧ (canOf u n).cur = some (.buffer (canSchedBuf s n j)) ∧ (canOf u n).windows = (canOf s n).windows.filter (· != j) ∧
        (canOf u n).sof = (fieldLong s, !fieldSync s)) ∧
    (∀ b, alive s = true → canLive s n = true → canMode s n ≠ 1 → pageEnabled s (Pg.can n) = true → getB s (Pg.can n) F.CAN_TT_STAT_REF_PENDING = false →
      (canOf s n).windows = [] → canBest s n = some b → ∃ u, exec (.canSof n) s = .next (settle u) ∧
        u.out = [.can n ((getW s (Pg.can n) (0x200 + 0x60 * b)).toNat % 2 ^ 31) (getF s (Pg.can n) F.CAN_BUF_FMT_DLC b) (getB s (Pg.can n) F.CAN_BUF_FMT_FDF b)
            (getB s (Pg.can n) F.CAN_BUF_FMT_BRS b) (canBufData s n b)] ∧
          canOf u n = { canOf s n with sof := (fieldLong s, !fieldSync s), cur := some (.buffer b) } ∧ getF u (Pg.can n) F.CAN_STAT_IN_HAND = b % 32 ∧
          getB u (Pg.can n) F.CAN_STAT_IDLE = false) ∧
    (alive s = true → canLive s n = true → canMode s n ≠ 1 → pageEnabled s (Pg.can n) = true → getB s (Pg.can n) F.CAN_TT_STAT_REF_PENDING = false →
      (canOf s n).windows = [] → canBest s n = none → ∃ u, exec (.canSof n) s = .next (settle u) ∧
        canOf u n = { canOf s n with sof := (fieldLong s, !fieldSync s) } ∧ u.out = [] ∧ getB u (Pg.can n) F.CAN_STAT_IDLE = false) ∧
    (∀ b, alive s = true → b < 32 → (canOf s n).cur = some (.buffer b) → (canOf s n).ending = false → canReq s n b = true → canCancel s n b = false →
      getB s (Pg.can n) F.CAN_BUF_FMT_TT b = false →
      (getB s (Pg.can n) F.CAN_BUF_FMT_ONE_SHOT b = false → ∃ u, exec (.canArbitrationLost n) s = .next (settle u) ∧
        getF u (Pg.can n) F.CAN_ARB_LOST = (getF s (Pg.can n) F.CAN_ARB_LOST + 1) % 2 ^ 32 ∧ (canOf u n).cur = none ∧ canReq u n b = true ∧ u.cul = s.cul) ∧
      (getB s (Pg.can n) F.CAN_BUF_FMT_ONE_SHOT b = true → ∃ u, exec (.canArbitrationLost n) s = .next (settle u) ∧
        getF u (Pg.can n) F.CAN_ARB_LOST = (getF s (Pg.can n) F.CAN_ARB_LOST + 1) % 2 ^ 32 ∧ (canOf u n).cur = none ∧ canReq u n b = false ∧
          getF u (Pg.can n) F.CAN_BUF_STAT_OUTCOME b = 4) ∧
      (∀ tdcv, tdcv ≤ 127 → canMode s n ≠ 2 → getB s (Pg.can n) F.CAN_CFG_ECHO_EN = false → ∃ u, exec (.canTxEnd n tdcv) s = .next (settle u) ∧
        getF u (Pg.can n) F.CAN_TX_FRAMES = (getF s (Pg.can n) F.CAN_TX_FRAMES + 1) % 2 ^ 32 ∧
          getF u (Pg.can n) F.CAN_ERRCNT_TEC = getF s (Pg.can n) F.CAN_ERRCNT_TEC - 1 ∧ canReq u n b = false ∧ getF u (Pg.can n) F.CAN_BUF_STAT_OUTCOME b = 1 ∧
          (getF u (Pg.can n) F.CAN_TX_DONE_DONE).testBit b = true ∧ (canOf u n).cur = none ∧ u.cul = s.cul ∧
          getF u (Pg.can n) F.CAN_BUF_SENT_NS_NS b = (canOf s n).sof.1 % 2 ^ 32 ∧ getF u (Pg.can n) F.CAN_BUF_SENT_SEC_SEC_LO b = (canOf s n).sof.1 / 2 ^ 32 % 2 ^ 32) ∧
      (∀ tdcv, tdcv ≤ 127 → canMode s n ≠ 2 → getB s (Pg.can n) F.CAN_CFG_ECHO_EN = true → canWaiting s n < 64 → ∃ u, exec (.canTxEnd n tdcv) s = .next (settle u) ∧
        canReq u n b = false ∧ getF u (Pg.can n) F.CAN_BUF_STAT_OUTCOME b = 1 ∧
          ∃ e, u.cul.fieldW = s.cul.fieldW ++ [.record s.cul.evtSeq (.can n e)] ∧ e.take 8 = leBytes 8 (canOf s n).sof.1 ∧ beAt e 15 1 = b ∧ (beAt e 12 1).testBit 7 = true) ∧
      (∀ tdcv, 127 < tdcv → getB s (Pg.can n) F.CAN_CFG_TDC_EN = true → getB s (Pg.can n) F.CAN_BUF_FMT_BRS b = true → ∃ u, exec (.canTxEnd n tdcv) s = .next (settle u) ∧
        getF u (Pg.can n) F.CAN_BUS_ERRORS = (getF s (Pg.can n) F.CAN_BUS_ERRORS + 1) % 2 ^ 32 ∧
          getF u (Pg.can n) F.CAN_ERRCNT_TEC = min (getF s (Pg.can n) F.CAN_ERRCNT_TEC + 8) 511 ∧ (canOf u n).cur = none ∧
          getF u (Pg.can n) F.CAN_TX_FRAMES = getF s (Pg.can n) F.CAN_TX_FRAMES)) ∧
    (∀ tdcv, alive s = true → (canOf s n).cur = some .ref → canMode s n ≠ 2 → getB s (Pg.can n) F.CAN_CFG_ECHO_EN = false → ∃ u, exec (.canTxEnd n tdcv) s = .next (settle u) ∧
      getF u (Pg.can n) F.CAN_REF_SENT = (getF s (Pg.can n) F.CAN_REF_SENT + 1) % 2 ^ 32 ∧ getF u (Pg.can n) F.CAN_TX_FRAMES = (getF s (Pg.can n) F.CAN_TX_FRAMES + 1) % 2 ^ 32 ∧
        (canOf u n).cur = none ∧ u.cul = s.cul)) ∧
  (∀ (s : State) (n : Nat), alive s = true → n < 8 →
    (∀ who, writeTaken s who (Pg.can n) 0x54 1#32 = true → canState s n = 2 → ∃ u, exec (.canRecover who n) s = .next (settle u) ∧
      canState u n = 3 ∧ OnlyRegs [fKey (Pg.can n) F.CAN_STAT_STATE] s u) ∧
    (canState s n = 3 → ∃ u, exec (.canRecovered n) s = .next (settle u) ∧
      canState u n = 0 ∧ getF u (Pg.can n) F.CAN_ERRCNT_TEC = 0 ∧ getF u (Pg.can n) F.CAN_ERRCNT_REC = 0 ∧ (getW u (Pg.can n) 0x10).getLsbD 9 = true ∧
        OnlyRegs (fKey (Pg.can n) F.CAN_STAT_STATE :: fKey (Pg.can n) F.CAN_ERRCNT_TEC :: irqKeys (Pg.can n)) s u) ∧
    (getB s (Pg.can n) F.CAN_TT_STAT_REF_PENDING = true → (canOf s n).refStarted = false → ∃ u, exec (.canRefLate n) s = .next (settle u) ∧
      getB u (Pg.can n) F.CAN_TT_STAT_REF_PENDING = false ∧ getF u (Pg.can n) F.CAN_REF_MISSED = (getF s (Pg.can n) F.CAN_REF_MISSED + 1) % 2 ^ 32 ∧
        (getW u (Pg.can n) 0x10).getLsbD 10 = true ∧
        OnlyRegs (fKey (Pg.can n) F.CAN_TT_STAT_REF_PENDING :: fKey (Pg.can n) F.CAN_REF_MISSED :: irqKeys (Pg.can n)) s u) ∧
    (∀ j e, e = (canOf s n).sched.getD j 0#32 → getB s (Pg.can n) F.CAN_CFG_TT_MASTER = true → (canOf s n).refStarted = true → e.getLsbD 14 = true →
      (canOf s n).windows.contains j = false → getF s (Pg.can n) F.CAN_TT_STAT_CYCLE % 2 ^ wordBits e 6 3 = wordBits e 0 6 → ∃ u, exec (.canTtWindowOpen n j) s = .next (settle u) ∧
        canOf u n = { canOf s n with windows := (canOf s n).windows ++ [j] } ∧ u.regs = s.regs ∧ beside { u with fld := s.fld } = beside s) ∧
    (∀ j, (canOf s n).windows.contains j = true → canReq s n (canSchedBuf s n j) = true →
      getB s (Pg.can n) F.CAN_BUF_FMT_TT (canSchedBuf s n j) = true → ∃ u, exec (.canTtWindowClose n j) s = .next (settle u) ∧
      (canOf u n).windows = (canOf s n).windows.filter (· != j) ∧ getF u (Pg.can n) F.CAN_BUF_STAT_OUTCOME (canSchedBuf s n j) = 8 ∧
        canReq u n (canSchedBuf s n j) = true ∧ (getW u (Pg.can n) 0x10).getLsbD 6 = true) ∧
    (∀ j, (canOf s n).windows.contains j = true → canTimed s n (canSchedBuf s n j) = false → ∃ u, exec (.canTtWindowClose n j) s = .next (settle u) ∧
      canOf u n = { canOf s n with windows := (canOf s n).windows.filter (· != j) } ∧ u.regs = s.regs ∧ beside { u with fld := s.fld } = beside s))

/-- USB_PORT_DISABLE, USB_OVERCURRENT, USB_BABBLE, USB_DEVICE_CONNECT, USB_PORT_RESET and USB_VBUS_CHANGE (R325 to R327, R474): what a downstream port
of the hub shows after each, and how the upstream port attaches and detaches; a connection to a suspended hub that the host lets wake ends its
suspend. -/
def Obligations.UsbPorts : Prop :=
  ∀ (s : State) (k : Nat), alive s = true → 1 ≤ k → k ≤ 3 →
    (∀ who v, writeTaken s who Pg.usb 0x40 v = true → v.getLsbD (k - 1) = true → ∃ u, exec (.usbPortDisable who v) s = .next (settle u) ∧
      usbDis u k = true ∧ usbPort u k F.USB_PORT_CONNECT = false ∧ usbPort u k F.USB_PORT_POWER = false) ∧
    (s.usb.hubWake = false → ∃ u, exec (.usbOvercurrent k) s = .next (settle u) ∧
      usbPort u k F.USB_PORT_OVER_CURRENT = true ∧ usbPort u k F.USB_PORT_ENABLE = false ∧ usbPort u k F.USB_PORT_POWER = false ∧
        (getF u Pg.usb F.USB_PORT_CHANGE (k - 1)).testBit 3 = true ∧ getF u Pg.usb F.USB_OC_EVENTS = (getF s Pg.usb F.USB_OC_EVENTS + 1) % 2 ^ 32 ∧
        (getW u Pg.usb 0x10).getLsbD 3 = true ∧ SameRegs (fKey Pg.usb F.USB_PORT_POWER (k - 1) :: fKey Pg.usb F.USB_OC_EVENTS :: irqKeys Pg.usb) s u) ∧
    (usbPort s k F.USB_PORT_ENABLE = true → ∃ u, exec (.usbBabble k) s = .next (settle u) ∧
      usbPort u k F.USB_PORT_ENABLE = false ∧ (getF u Pg.usb F.USB_PORT_CHANGE (k - 1)).testBit 1 = true ∧
        getF u Pg.usb F.USB_BABBLE = (getF s Pg.usb F.USB_BABBLE + 1) % 2 ^ 32 ∧ (getW u Pg.usb 0x10).getLsbD 4 = true ∧
        OnlyRegs (fKey Pg.usb F.USB_PORT_ENABLE (k - 1) :: fKey Pg.usb F.USB_BABBLE :: irqKeys Pg.usb) s u) ∧
    (∀ speed, usbDis s k = true → ∃ u, exec (.usbDeviceConnect k true speed) s = .next (settle u) ∧ u = cleared s) ∧
    (∀ speed, usbDis s k = false → usbPort s k F.USB_PORT_POWER = true → s.usb.hubWake = true → getF s Pg.usb F.USB_STAT_UP_STATE = 3 →
      ∃ u, exec (.usbDeviceConnect k true speed) s = .next (settle u) ∧
        usbPort u k F.USB_PORT_CONNECT = true ∧ getF u Pg.usb F.USB_STAT_UP_STATE = (if s.usb.hubCfg then 2 else 1) ∧
          getF u Pg.usb F.USB_RESUMES = (getF s Pg.usb F.USB_RESUMES + 1) % 2 ^ 32 ∧ u.usb = s.usb) ∧
    (∀ speed, usbDis s k = false → usbPort s k F.USB_PORT_POWER = true → usbPort s k F.USB_PORT_CONNECT = false → s.usb.hubWake = false → ∃ u, exec (.usbDeviceConnect k true speed) s = .next (settle u) ∧
      usbPort u k F.USB_PORT_CONNECT = true ∧ getF u Pg.usb F.USB_PORT_SPEED (k - 1) = speed % 4 ∧ (getF u Pg.usb F.USB_PORT_CHANGE (k - 1)).testBit 0 = true ∧
        OnlyRegs (fKey Pg.usb F.USB_PORT_CONNECT (k - 1) :: irqKeys Pg.usb) s u) ∧
    (∀ speed, usbPort s k F.USB_PORT_CONNECT = true → s.usb.hubWake = false → ∃ u, exec (.usbDeviceConnect k false speed) s = .next (settle u) ∧
      usbPort u k F.USB_PORT_CONNECT = false ∧ usbPort u k F.USB_PORT_ENABLE = false ∧ usbPort u k F.USB_PORT_SUSPEND = false ∧
        OnlyRegs (fKey Pg.usb F.USB_PORT_CONNECT (k - 1) :: irqKeys Pg.usb) s u) ∧
    (usbPort s k F.USB_PORT_CONNECT = true → ∃ u, exec (.usbPortReset k) s = .next (settle u) ∧
      usbPort u k F.USB_PORT_ENABLE = true ∧ usbPort u k F.USB_PORT_SUSPEND = false ∧ (getF u Pg.usb F.USB_PORT_CHANGE (k - 1)).testBit 4 = true ∧
        getF u Pg.usb F.USB_PORT_RESETS = (getF s Pg.usb F.USB_PORT_RESETS + 1) % 2 ^ 32) ∧
    (usbPort s 4 F.USB_PORT_CONNECT = true → ∃ u, exec (.usbPortReset 4) s = .next (settle u) ∧
      usbPort u 4 F.USB_PORT_ENABLE = true ∧ getB u Pg.usf F.USF_STAT_CONFIGURED = false ∧ getB u Pg.usf F.USF_STAT_EP1_OUT_HALT = false ∧ u.usb.togOut = false ∧
        u.usb.togIn = false ∧ u.usb.togRep = false ∧ u.usb.ctrl = none ∧ u.usb.resp = s.usb.resp) ∧
    (s.usb.ready = false → ∃ u, exec (.usbVbusChange true) s = .next (settle u) ∧
      getB u Pg.usb F.USB_STAT_VBUS = true ∧ OnlyRegs [fKey Pg.usb F.USB_STAT_VBUS] s u) ∧
    (s.usb.ready = true → getF s Pg.usb F.USB_STAT_UP_STATE = 0 → ∃ u, exec (.usbVbusChange true) s = .next (settle u) ∧
      getB u Pg.usb F.USB_STAT_VBUS = true ∧ getF u Pg.usb F.USB_STAT_UP_STATE = 1 ∧ (getW u Pg.usb 0x10).getLsbD 5 = true ∧
        OnlyRegs (fKey Pg.usb F.USB_STAT_VBUS :: irqKeys Pg.usb) s u) ∧
    ∃ u, exec (.usbVbusChange false) s = .next (settle u) ∧
      getB u Pg.usb F.USB_STAT_VBUS = false ∧ getF u Pg.usb F.USB_STAT_UP_STATE = 0 ∧ u.usb = { s.usb with hubCfg := false }

/-- USF_ENABLE_CHANGE, USF_OUT_PACKET, USF_IN_TOKEN, USF_IN_ACK and USF_STATE_POLL (R328 to R336): the function connects behind port 4 while its enable
holds, and a disable discards what waits; an OUT packet is stalled, taken or held off; an IN token gets the oldest response block, again until the
host's ACK of it, which counts only while one is due; a poll gets the state where it has changed. -/
def Obligations.UsfTransfers : Prop :=
  ∀ (s : State), alive s = true →
    (usfOn s = false → ∃ u, exec (.usfEnableChange true) s = .next (settle u) ∧
      usfOn u = true ∧ getB u Pg.usf F.USF_STAT_PIN = true ∧ usbPort u 4 F.USB_PORT_CONNECT = true ∧ u.usb.togOut = false ∧ u.usb.togIn = false ∧ u.usb.togRep = false) ∧
    (usfOn s = true → getB s Pg.usf F.USF_CTL_OWNER_EN = false → ∃ u, exec (.usfEnableChange false) s = .next (settle u) ∧
      usfOn u = false ∧ getB u Pg.usf F.USF_STAT_PIN = false ∧ usbPort u 4 F.USB_PORT_CONNECT = false ∧ u.usb.xfers = [] ∧ u.usb.resp = [] ∧ u.usb.inFlight = none ∧
        getB u Pg.usf F.USF_STAT_CONFIGURED = false) ∧
    (usfOn s = true → getB s Pg.usf F.USF_STAT_CONFIGURED = true → getB s Pg.usf F.USF_STAT_SUSPENDED = false →
      (∀ d1 data, getB s Pg.usf F.USF_STAT_EP1_OUT_HALT = true → ∃ u, exec (.usfOutPacket d1 data) s = .next (settle u) ∧
        u.out = [.usb usbStall []] ∧ u.regs = s.regs ∧ beside u = beside s) ∧
      (∀ d1 data, getB s Pg.usf F.USF_STAT_EP1_OUT_HALT = false → s.usb.togOut ≠ d1 → ∃ u, exec (.usfOutPacket d1 data) s = .next (settle u) ∧
        u.out = [.usb usbAck []] ∧ getF u Pg.usf F.USF_TOGGLE_DISCARD = (getF s Pg.usf F.USF_TOGGLE_DISCARD + 1) % 2 ^ 32 ∧ OnlyRegs [fKey Pg.usf F.USF_TOGGLE_DISCARD] s u) ∧
      (∀ data c, getB s Pg.usf F.USF_STAT_EP1_OUT_HALT = false → s.cul.ringLost = false → s.usb.xfers = [] → s.usb.inHand = none → 16 ≤ data.length → data.length ≤ 512 →
        usfBlockBad s data (decide (data.length < 512)) = some c → ∃ u, exec (.usfOutPacket s.usb.togOut data) s = .next (settle u) ∧
          u.out = [.usb usbAck []] ∧ u.usb = { s.usb with togOut := !s.usb.togOut } ∧ getB u Pg.usf F.USF_STAT_EP1_OUT_HALT = true ∧
            getF u Pg.usf F.USF_STALLS = (getF s Pg.usf F.USF_STALLS + 1) % 2 ^ 32 ∧ (getW u Pg.usf 0x10).getLsbD 3 = true) ∧
      (∀ data, getB s Pg.usf F.USF_STAT_EP1_OUT_HALT = false → s.cul.ringLost = true → ∃ u, exec (.usfOutPacket s.usb.togOut data) s = .next (settle u) ∧
        u.out = [.usb usbNak []] ∧ u.regs = s.regs ∧ beside u = beside s) ∧
      (∀ (data : List Byte), getB s Pg.usf F.USF_STAT_EP1_OUT_HALT = false → s.cul.ringLost = false → s.usb.inHand ≠ none → s.usb.xfers = [] → data.length ≤ 512 →
        ∃ u, exec (.usfOutPacket s.usb.togOut data) s = .next (settle u) ∧
          u.out = [.usb usbAck []] ∧ u.usb = { s.usb with togOut := !s.usb.togOut, xfers := [{ bytes := data, ended := decide (data.length < 512) }] } ∧ u.regs = s.regs) ∧
      (getB s Pg.usf F.USF_STAT_EP1_IN_HALT = true → ∃ u, exec .usfInToken s = .next (settle u) ∧ u.out = [.usb usbStall []] ∧ u.regs = s.regs ∧ beside u = beside s) ∧
      (getB s Pg.usf F.USF_STAT_EP1_IN_HALT = false →
        (∀ r rest, s.usb.inFlight = none → s.usb.resp = r :: rest → ∃ u, exec .usfInToken s = .next (settle u) ∧
          u.out = [.usb (dataPid s.usb.togIn) (usfRespBytes r)] ∧ u.usb = { s.usb with inFlight := some (usfRespBytes r, true), ackDue := true } ∧ u.regs = s.regs) ∧
        (∀ p b, s.usb.inFlight = some (p, b) → ∃ u, exec .usfInToken s = .next (settle u) ∧
          u.out = [.usb (dataPid s.usb.togIn) p] ∧ getF u Pg.usf F.USF_RESENT = (getF s Pg.usf F.USF_RESENT + 1) % 2 ^ 32 ∧ u.usb = { s.usb with ackDue := true } ∧
            OnlyRegs [fKey Pg.usf F.USF_RESENT] s { u with usb := s.usb }) ∧
        (s.usb.inFlight = none → s.usb.resp = [] → getB s Pg.usf F.USF_CTL_POLL_MODE = true → ∃ u, exec .usfInToken s = .next (settle u) ∧
          u.out = [.usb (dataPid s.usb.togIn) (BitVec.ofNat 8 St.notReady :: List.replicate 15 0#8)] ∧
            getF u Pg.usf F.USF_NOT_READY = (getF s Pg.usf F.USF_NOT_READY + 1) % 2 ^ 32 ∧
            u.usb = { s.usb with inFlight := some (BitVec.ofNat 8 St.notReady :: List.replicate 15 0#8, false), ackDue := true }) ∧
        (s.usb.inFlight = none → s.usb.resp = [] → getB s Pg.usf F.USF_CTL_POLL_MODE = false → ∃ u, exec .usfInToken s = .next (settle u) ∧
          u.out = [.usb usbNak []] ∧ getF u Pg.usf F.USF_NAK_IN = (getF s Pg.usf F.USF_NAK_IN + 1) % 2 ^ 32 ∧ OnlyRegs [fKey Pg.usf F.USF_NAK_IN] s u)) ∧
      (∀ p, getB s Pg.usf F.USF_STAT_EP2_HALT = false → s.usb.repFlight = some p → ∃ u, exec .usfStatePoll s = .next (settle u) ∧
        u.out = [.usb (dataPid s.usb.togRep) p] ∧ getF u Pg.usf F.USF_RESENT = (getF s Pg.usf F.USF_RESENT + 1) % 2 ^ 32 ∧ u.usb = { s.usb with repDue := true }) ∧
      (getB s Pg.usf F.USF_STAT_EP2_HALT = false → s.usb.repFlight = none →
        (usfFields s ≠ s.usb.report → ∃ u, exec .usfStatePoll s = .next (settle u) ∧ ∃ p, u.out = [.usb (dataPid s.usb.togRep) p] ∧ p.length = 16 ∧
          u.usb = { s.usb with report := usfFields s, repFlight := some p, repSeq := (s.usb.repSeq + 1) % 2 ^ 32, repDue := true } ∧ u.regs = s.regs) ∧
        (usfFields s = s.usb.report → ∃ u, exec .usfStatePoll s = .next (settle u) ∧ u.out = [.usb usbNak []] ∧ u.regs = s.regs ∧ beside u = beside s))) ∧
    (∀ p, s.usb.ackDue = true → s.usb.inFlight = some (p, true) → ∃ u, exec (.usfInAck false) s = .next (settle u) ∧
      u.usb = { s.usb with ackDue := false, inFlight := none, togIn := !s.usb.togIn, resp := s.usb.resp.drop 1 } ∧
        getF u Pg.usf F.USF_RESP_BLOCKS = (getF s Pg.usf F.USF_RESP_BLOCKS + 1) % 2 ^ 32 ∧ OnlyRegs [fKey Pg.usf F.USF_RESP_BLOCKS] s { u with usb := s.usb }) ∧
    (∀ p, s.usb.ackDue = true → s.usb.inFlight = some (p, false) → ∃ u, exec (.usfInAck false) s = .next (settle u) ∧
      u.usb = { s.usb with ackDue := false, inFlight := none, togIn := !s.usb.togIn } ∧ u.regs = s.regs ∧ beside { u with usb := s.usb } = beside s) ∧
    (∀ p, s.usb.repDue = true → s.usb.repFlight = some p → ∃ u, exec (.usfInAck true) s = .next (settle u) ∧
      u.usb = { s.usb with repDue := false, repFlight := none, togRep := !s.usb.togRep } ∧ u.regs = s.regs ∧ beside { u with usb := s.usb } = beside s) ∧
    (∀ (report : Bool), (if report then s.usb.repDue else s.usb.ackDue) = false → ∃ u, exec (.usfInAck report) s = .next (settle u) ∧ u = cleared s)

/-- USB_SETUP, USF_ABORT, USF_GET_STATE, SET_CONFIGURATION, SET_INTERFACE and CLEAR_FEATURE_ENDPOINT_HALT (R336, R338, R340, R341): a SETUP replaces the
transfer before it, the two vendor requests are taken and any other stalls; the state and abort requests answer; a configuration, an interface and a
cleared halt return the toggles to DATA0. USB_BUS_RESET, USB_SUSPEND, USB_RESUME and USF_REMOTE_WAKEUP (R339, R340): a reset from upstream leaves
the hub in its Default state with every external port off; suspend and resume of the hub and of one port, and a resume that meets a reset, a
disconnect or a wakeup; a function suspended for 5 ms with something to report wakes its port. -/
def Obligations.UsbControlAndBus : Prop :=
  (∀ (s : State), alive s = true →
    (∀ bytes, beAt bytes 0 1 = 0 → beAt bytes 1 1 = 5 → ∃ u, exec (.usbSetup true bytes) s = .next (settle u) ∧
      getF u Pg.usb F.USB_STAT_ADDR = leAt bytes 2 2 % 128 ∧ u.out = [.usb usbAck []] ∧ OnlyRegs [fKey Pg.usb F.USB_STAT_ADDR] s u) ∧
    (∀ bytes, usfOn s = true → s.usb.ctrl = none → beAt bytes 0 1 = 0x41 → beAt bytes 1 1 = 1 → ∃ u, exec (.usbSetup false bytes) s = .next (settle u) ∧
      u.usb = { s.usb with ctrl := some bytes } ∧ u.out = [.usb usbAck []] ∧ u.regs = s.regs) ∧
    (∀ bytes, usfOn s = true → s.usb.ctrl = none → beAt bytes 0 1 = 0x41 → beAt bytes 1 1 ≠ 1 → ∃ u, exec (.usbSetup false bytes) s = .next (settle u) ∧
      u.usb = s.usb ∧ u.out = [.usb usbStall []] ∧ u.regs = s.regs) ∧
    (∀ bytes, usfOn s = true → s.usb.ctrl = none → beAt bytes 0 1 = 0 → beAt bytes 1 1 = 3 → leAt bytes 2 2 = 1 → ∃ u, exec (.usbSetup false bytes) s = .next (settle u) ∧
      getB u Pg.usf F.USF_STAT_REMOTE_WAKE_EN = true ∧ u.out = [.usb usbAck []] ∧ OnlyRegs [fKey Pg.usf F.USF_STAT_REMOTE_WAKE_EN] s u) ∧
    (∀ bytes old, usfOn s = true → s.usb.ctrl = some old → beAt bytes 0 1 = 0xC1 → beAt bytes 1 1 = 2 → ∃ u, exec (.usbSetup false bytes) s = .next (settle u) ∧
      u.usb = { s.usb with ctrl := some bytes } ∧ getF u Pg.usf F.USF_CTRL_ABANDON = (getF s Pg.usf F.USF_CTRL_ABANDON + 1) % 2 ^ 32 ∧
        OnlyRegs [fKey Pg.usf F.USF_CTRL_ABANDON] s { u with usb := s.usb }) ∧
    (∀ st, s.usb.ctrl = some st → beAt st 0 1 = 0x41 → beAt st 1 1 = 1 → (leAt st 2 2 < 64 → tagHolder s (640 + leAt st 2 2) = none) → ∃ u, exec .usfAbort s = .next (settle u) ∧
      u.usb = { s.usb with ctrl := none } ∧ u.out = [.usb usbAck []] ∧ (getW u Pg.seq 0x10).getLsbD 1 = true ∧ OnlyRegs (errKeys Pg.seq) s { u with usb := s.usb }) ∧
    (∀ st fl q o, s.usb.ctrl = some st → beAt st 0 1 = 0x41 → beAt st 1 1 = 1 → leAt st 2 2 < 64 → tagHolder s (640 + leAt st 2 2) = some (fl, q) → flowValid s fl = true →
      openAt (flowOf s fl) q = some o → o.fill = none → ∃ u, exec .usfAbort s = .next (settle u) ∧
        u.usb = { s.usb with ctrl := none } ∧ u.out = [.usb usbAck []] ∧ openAt (flowOf u fl) q = some { o with fill := some St.aborted, wait := .none } ∧ u.regs = s.regs) ∧
    (∀ st, s.usb.ctrl = some st → beAt st 0 1 = 0xC1 → beAt st 1 1 = 2 → ∃ u, exec .usfGetState s = .next (settle u) ∧
      u.usb = { s.usb with ctrl := none } ∧ u.regs = s.regs ∧ ∃ p, u.out = [.usb 4 p] ∧ p.length = min 16 (leAt st 6 2) ∧ ∀ t, t < 64 → t < 8 * (leAt st 6 2) → (leAt p 0 8).testBit t = usfBusy s t) ∧
    (∀ value, getF s Pg.usb F.USB_STAT_UP_STATE ≠ 0 → ∃ u, exec (.setConfiguration true value) s = .next (settle u) ∧
      getF u Pg.usb F.USB_STAT_UP_STATE = (if value = 0 then 1 else 2) ∧ u.usb = { s.usb with hubCfg := value != 0 }) ∧
    (∀ value, ∃ u, exec (.setConfiguration false value) s = .next (settle u) ∧
      getB u Pg.usf F.USF_STAT_CONFIGURED = (value != 0) ∧ u.usb = { s.usb with ctrl := none, togOut := false, togIn := false, togRep := false } ∧
        getB u Pg.usf F.USF_STAT_EP1_OUT_HALT = false ∧ getB u Pg.usf F.USF_STAT_EP1_IN_HALT = false ∧ getB u Pg.usf F.USF_STAT_EP2_HALT = false) ∧
    (∃ u, exec .setInterface s = .next (settle u) ∧
      u.usb = { s.usb with ctrl := none, togOut := false, togIn := false, togRep := false } ∧ getB u Pg.usf F.USF_STAT_CONFIGURED = getB s Pg.usf F.USF_STAT_CONFIGURED ∧
        getB u Pg.usf F.USF_STAT_EP1_OUT_HALT = false ∧ getB u Pg.usf F.USF_STAT_EP1_IN_HALT = false ∧ getB u Pg.usf F.USF_STAT_EP2_HALT = false) ∧
    ∃ u, exec (.clearFeatureEndpointHalt 0x81) s = .next (settle u) ∧
      getB u Pg.usf F.USF_STAT_EP1_IN_HALT = false ∧ u.usb = { s.usb with togIn := false } ∧ getB u Pg.usf F.USF_STAT_EP1_OUT_HALT = getB s Pg.usf F.USF_STAT_EP1_OUT_HALT ∧
        SameRegs [fKey Pg.usf F.USF_STAT_EP1_IN_HALT] s u) ∧
  (∀ (s : State), alive s = true →
    (∀ high, getF s Pg.usb F.USB_STAT_UP_STATE ≠ 0 → ∃ u, exec (.usbBusReset true high) s = .next (settle u) ∧
      getF u Pg.usb F.USB_STAT_UP_STATE = 1 ∧ getF u Pg.usb F.USB_STAT_ADDR = 0 ∧ getB u Pg.usb F.USB_STAT_HIGH_SPEED = high ∧ u.usb.hubCfg = false ∧
        getB u Pg.usf F.USF_STAT_CONFIGURED = false ∧ ∀ k, 1 ≤ k → k ≤ 3 → usbPort u k F.USB_PORT_CONNECT = false ∧ usbPort u k F.USB_PORT_POWER = false) ∧
    (∀ high, ∃ u, exec (.usbBusReset false high) s = .next (settle u) ∧
      getB u Pg.usf F.USF_STAT_CONFIGURED = false ∧ getB u Pg.usf F.USF_STAT_SUSPENDED = false ∧ u.usb.togOut = false ∧ u.usb.togIn = false ∧ u.usb.togRep = false ∧
        u.usb.ctrl = none ∧ u.usb.resp = s.usb.resp ∧ OnlyPages [Pg.usf] s u) ∧
    (getF s Pg.usb F.USB_STAT_UP_STATE = 1 ∨ getF s Pg.usb F.USB_STAT_UP_STATE = 2 → ∃ u, exec (.usbSuspend 0) s = .next (settle u) ∧
      getF u Pg.usb F.USB_STAT_UP_STATE = 3 ∧
        (usfOn s = true → getB s Pg.usf F.USF_STAT_SUSPENDED = false → getB u Pg.usf F.USF_STAT_SUSPENDED = true ∧ u.usb = { s.usb with woken := false, suspAt := s.watchNs })) ∧
    (∀ k, 1 ≤ k → k ≤ 3 → usbPort s k F.USB_PORT_ENABLE = true → ∃ u, exec (.usbSuspend k) s = .next (settle u) ∧
      usbPort u k F.USB_PORT_SUSPEND = true ∧ OnlyRegs [fKey Pg.usb F.USB_PORT_SUSPEND (k - 1)] s u) ∧
    (getF s Pg.usb F.USB_STAT_UP_STATE = 3 → ∃ u, exec (.usbResume 0 .none) s = .next (settle u) ∧
      getF u Pg.usb F.USB_STAT_UP_STATE = (if s.usb.hubCfg then 2 else 1) ∧ getF u Pg.usb F.USB_RESUMES = (getF s Pg.usb F.USB_RESUMES + 1) % 2 ^ 32 ∧ u.usb = s.usb) ∧
    (∀ k, 1 ≤ k → k ≤ 3 → usbPort s k F.USB_PORT_SUSPEND = true → ∃ u, exec (.usbResume k .none) s = .next (settle u) ∧
      usbPort u k F.USB_PORT_SUSPEND = false ∧ (getF u Pg.usb F.USB_PORT_CHANGE (k - 1)).testBit 2 = true ∧
        getF u Pg.usb F.USB_RESUMES = (getF s Pg.usb F.USB_RESUMES + 1) % 2 ^ 32 ∧ u.usb = s.usb) ∧
    (getF s Pg.usb F.USB_STAT_UP_STATE = 3 → ∃ u, exec (.usbResume 0 .reset) s = .next (settle u) ∧
      getF u Pg.usb F.USB_STAT_UP_STATE = 1 ∧ getF u Pg.usb F.USB_STAT_ADDR = 0 ∧ getF u Pg.usb F.USB_RESUMES = getF s Pg.usb F.USB_RESUMES) ∧
    (∀ k, 1 ≤ k → k ≤ 3 → usbPort s k F.USB_PORT_CONNECT = true → ∃ u, exec (.usbResume k .disconnect) s = .next (settle u) ∧
      usbPort u k F.USB_PORT_CONNECT = false ∧ usbPort u k F.USB_PORT_SUSPEND = false ∧ getF u Pg.usb F.USB_RESUMES = getF s Pg.usb F.USB_RESUMES ∧ u.usb = s.usb) ∧
    (∀ k, 1 ≤ k → k ≤ 3 → usbPort s k F.USB_PORT_SUSPEND = true → ∃ u, exec (.usbResume k .wake) s = .next (settle u) ∧
      usbPort u k F.USB_PORT_SUSPEND = false ∧ getF u Pg.usb F.USB_RESUMES = (getF s Pg.usb F.USB_RESUMES + 1) % 2 ^ 32 ∧ u.usb = { s.usb with woken := true }) ∧
    (getB s Pg.usf F.USF_STAT_SUSPENDED = true → getB s Pg.usf F.USF_STAT_REMOTE_WAKE_EN = true → getB s Pg.usf F.USF_CTL_WAKE_ON_RESP = true → s.usb.woken = false → s.usb.suspAt + 5000000 ≤ s.watchNs →
      s.usb.resp ≠ [] ∨ usfFields s ≠ s.usb.report → ∃ u, exec .usfRemoteWakeup s = .next (settle u) ∧
        u.usb = { s.usb with woken := true } ∧ .event 0x339 0 ∈ u.out ∧ usbPort u 4 F.USB_PORT_SUSPEND = false ∧ getF u Pg.usb F.USB_STAT_UP_STATE ≠ 3))

/-- DI_RAW_EDGE, DI_GLITCH_PASS, DI_DEBOUNCE_ACCEPT and DI_STAMP_DISCARD (R345 to R347, R349, R354) at a pin assigned as a discrete input: the first
edge that leaves the accepted level is stamped and later ones are counted; a filtered level that held is accepted, and its change goes into the
records with the stamp of its first edge; the Nth change within the window locks the pin, and a locked pin only counts. PIN_CFG_WRITE, DO_WRITE,
SOE_RD_WRITE, CHATTER_RELEASE, CHATTER_WINDOW_LEAVE and RB_MISMATCH (R344, R349, R350, R353): the register takes the value, and a changed output pin
that EDGES covers gives an OUT_CMD record; a lock ends with the level of the filter; a read-back that differs is flagged, and recorded where DIS is
enabled. -/
def Obligations.InputsPinsAndOutputs : Prop :=
  (∀ (s : State) (p : Nat), alive s = true → p < 192 → pinFunc s p = 1 →
    (∀ raw, pinLevel s p ≠ (raw != pinInv s p) → (diOf s p).stamp = none → (raw != pinInv s p) ≠ (diOf s p).deb → ∃ u, exec (.diRawEdge p raw) s = .next (settle u) ∧
      pinLevel u p = (raw != pinInv s p) ∧ diOf u p = { diOf s p with stamp := some (fieldLong s, fieldNs s, !fieldSync s), bounces := 0 } ∧
        SameRegs [fKey Pg.pin F.PIN_LEVEL_LEVEL (p / 32)] s u) ∧
    (∀ raw, pinLevel s p ≠ (raw != pinInv s p) → (diOf s p).stamp = none → (raw != pinInv s p) = (diOf s p).deb → ∃ u, exec (.diRawEdge p raw) s = .next (settle u) ∧
      pinLevel u p = (raw != pinInv s p) ∧ diOf u p = diOf s p ∧ SameRegs [fKey Pg.pin F.PIN_LEVEL_LEVEL (p / 32)] s u) ∧
    (∀ raw x, pinLevel s p ≠ (raw != pinInv s p) → (diOf s p).stamp = some x → ∃ u, exec (.diRawEdge p raw) s = .next (settle u) ∧
      pinLevel u p = (raw != pinInv s p) ∧ diOf u p = { diOf s p with bounces := min ((diOf s p).bounces + 1) 65535 } ∧
        SameRegs [fKey Pg.pin F.PIN_LEVEL_LEVEL (p / 32)] s u) ∧
    (∃ u, exec (.diGlitchPass p) s = .next (settle u) ∧ diOf u p = { diOf s p with filt := pinLevel s p } ∧ u.regs = s.regs ∧ beside { u with fld := s.fld } = beside s) ∧
    ((diOf s p).started = false → s.fld.permitSeen = false → ∃ u, exec (.diDebounceAccept p) s = .next (settle u) ∧
      bankBit u Pg.dis F.DIS_LEVEL_LEVEL p = (diOf s p).filt ∧
        diOf u p = { diOf s p with deb := (diOf s p).filt, started := true, stamp := none, bounces := 0 } ∧ u.cul = s.cul) ∧
    ((diOf s p).started = false → s.fld.permitSeen = true → (diOf s p).initial = false → getF s Pg.dis F.DIS_CFG_EDGES p ≠ 0 → pageEnabled s Pg.dis = true → soeWaiting s < 256 →
      ∃ u, exec (.diDebounceAccept p) s = .next (settle u) ∧
        bankBit u Pg.dis F.DIS_LEVEL_LEVEL p = (diOf s p).filt ∧
          diOf u p = { diOf s p with deb := (diOf s p).filt, started := true, initial := true, stamp := none, bounces := 0 } ∧
          ∃ r, u.cul.fieldW = s.cul.fieldW ++ [.record s.cul.evtSeq (.soe r)] ∧ r.take 8 = leBytes 8 (fieldLong s) ∧ beAt r 12 1 = p ∧ beAt r 13 1 % 16 = kInitial) ∧
    ((diOf s p).started = true → (diOf s p).filt ≠ (diOf s p).deb →
      (bankBit s Pg.dis F.DIS_LOCKED_LOCKED p = true → ∃ u, exec (.diDebounceAccept p) s = .next (settle u) ∧
        getF u Pg.dis F.DIS_SUPPRESSED = (getF s Pg.dis F.DIS_SUPPRESSED + 1) % 2 ^ 32 ∧ OnlyRegs [fKey Pg.dis F.DIS_SUPPRESSED] s { u with fld := s.fld }) ∧
      (bankBit s Pg.dis F.DIS_LOCKED_LOCKED p = false → getF s Pg.dis F.DIS_CFG_CHAT p = 0 → edgeCovers s p (diOf s p).filt = false → ∃ u, exec (.diDebounceAccept p) s = .next (settle u) ∧
        bankBit u Pg.dis F.DIS_LEVEL_LEVEL p = (diOf s p).filt ∧ getF u Pg.dis F.DIS_CHANGES = (getF s Pg.dis F.DIS_CHANGES + 1) % 2 ^ 32 ∧
          diOf u p = { diOf s p with deb := (diOf s p).filt, stamp := none, bounces := 0, inWindow := 0 } ∧ u.cul = s.cul) ∧
      (∀ x, bankBit s Pg.dis F.DIS_LOCKED_LOCKED p = false → getF s Pg.dis F.DIS_CFG_CHAT p = 0 → edgeCovers s p (diOf s p).filt = true → pageEnabled s Pg.dis = true →
        soeWaiting s < 256 → (diOf s p).stamp = some x → ∃ u, exec (.diDebounceAccept p) s = .next (settle u) ∧
          bankBit u Pg.dis F.DIS_LEVEL_LEVEL p = (diOf s p).filt ∧ diOf u p = { diOf s p with deb := (diOf s p).filt, stamp := none, bounces := 0, inWindow := 0 } ∧
            ∃ r, u.cul.fieldW = s.cul.fieldW ++ [.record s.cul.evtSeq (.soe r)] ∧ r.take 8 = leBytes 8 x.1 ∧ leAt r 8 4 = getF s Pg.soe F.SOE_SEQ_SEQ ∧
              beAt r 12 1 = p ∧ beAt r 13 1 % 16 = kChange) ∧
      (bankBit s Pg.dis F.DIS_LOCKED_LOCKED p = false → diChat s p = true → getF s Pg.dis F.DIS_CHAT_N (getF s Pg.dis F.DIS_CFG_CHAT p - 1) ≤ (diOf s p).inWindow + 1 →
        ∃ u, exec (.diDebounceAccept p) s = .next (settle u) ∧
          bankBit u Pg.dis F.DIS_LEVEL_LEVEL p = (diOf s p).filt ∧ bankBit u Pg.dis F.DIS_LOCKED_LOCKED p = true ∧ (getW u Pg.dis 0x10).getLsbD 2 = true ∧
            diOf u p = { diOf s p with deb := (diOf s p).filt, stamp := none, bounces := 0, inWindow := (diOf s p).inWindow + 1 })) ∧
    (pinLevel s p = (diOf s p).deb → ∃ u, exec (.diStampDiscard p) s = .next (settle u) ∧
      diOf u p = { diOf s p with stamp := none, bounces := 0 } ∧ u.regs = s.regs ∧ beside { u with fld := s.fld } = beside s)) ∧
  (∀ (s : State) (who : Agent) (p : Nat), p < 192 →
    (∀ v, writeTaken s who Pg.pin (0x100 + 4 * p) v = true → ∃ u, exec (.pinCfgWrite who p v) s = .next (settle u) ∧
      getW u Pg.pin (0x100 + 4 * p) = storedWord Pg.pin (0x100 + 4 * p) (getW s Pg.pin (0x100 + 4 * p)) v v ∧ OnlyRegs [regKey Pg.pin (0x100 + 4 * p)] s u) ∧
    (∀ k v, k < 6 → writeTaken s who Pg.dis (0xA0 + 4 * k) v = true → (∀ b, b < 32 → pinFunc s (32 * k + b) ≠ 2) → ∃ u, exec (.doWrite who k v) s = .next (settle u) ∧
      getW u Pg.dis (0xA0 + 4 * k) = v ∧ OnlyRegs [regKey Pg.dis (0xA0 + 4 * k)] s u) ∧
    (∀ k b, k < 6 → b < 32 → writeTaken s who Pg.dis (0xA0 + 4 * k) (getW s Pg.dis (0xA0 + 4 * k) ^^^ BitVec.ofNat 32 (2 ^ b)) = true → pinFunc s (32 * k + b) = 2 →
      edgeCovers s (32 * k + b) (!(getW s Pg.dis (0xA0 + 4 * k)).getLsbD b) = true → pageEnabled s Pg.dis = true → soeWaiting s < 256 →
      ∃ u, exec (.doWrite who k (getW s Pg.dis (0xA0 + 4 * k) ^^^ BitVec.ofNat 32 (2 ^ b))) s = .next (settle u) ∧
        (∀ c, c < 32 → bankBit u Pg.dis F.DIS_OUT_OUT (32 * k + c) = (bankBit s Pg.dis F.DIS_OUT_OUT (32 * k + c) != decide (c = b))) ∧
          ∃ r, u.cul.fieldW = s.cul.fieldW ++ [.record s.cul.evtSeq (.soe r)] ∧ r.take 8 = leBytes 8 (fieldLong s) ∧ beAt r 12 1 = 32 * k + b ∧ beAt r 13 1 % 16 = kOutCmd) ∧
    (∀ v, writeTaken s who Pg.soe 0x44 v = true → ∃ u, exec (.soeRdWrite who v) s = .next (settle u) ∧
      getF u Pg.soe F.SOE_RD_RD = v.toNat % 2 ^ 21 ∧ OnlyRegs [regKey Pg.soe 0x44] s u) ∧
    (alive s = true →
      (bankBit s Pg.dis F.DIS_LOCKED_LOCKED p = true → ∃ u, exec (.chatterRelease p) s = .next (settle u) ∧
        bankBit u Pg.dis F.DIS_LOCKED_LOCKED p = false ∧ bankBit u Pg.dis F.DIS_LEVEL_LEVEL p = (diOf s p).filt ∧
          diOf u p = { diOf s p with deb := (diOf s p).filt, stamp := none, bounces := 0, inWindow := 0 }) ∧
      (bankBit s Pg.dis F.DIS_LOCKED_LOCKED p = false → ∃ u, exec (.chatterWindowLeave p) s = .next (settle u) ∧
        diOf u p = { diOf s p with inWindow := (diOf s p).inWindow - 1 } ∧ u.regs = s.regs ∧ beside { u with fld := s.fld } = beside s) ∧
      (∀ l, (tabGet s.fld.drive p).getD none = some l → getB s Pg.dis F.DIS_CFG_RB_EN p = true → (pinLevel s p != pinInv s p) ≠ l → pageEnabled s Pg.dis = false →
        ∃ u, exec (.rbMismatch p) s = .next (settle u) ∧
          bankBit u Pg.dis F.DIS_RB_ERR_ERR p = true ∧ getF u Pg.dis F.DIS_RB_MISMATCH = (getF s Pg.dis F.DIS_RB_MISMATCH + 1) % 2 ^ 32 ∧
            (getW u Pg.dis 0x10).getLsbD 3 = true ∧ u.cul = s.cul) ∧
      ∀ l, (tabGet s.fld.drive p).getD none = some l → getB s Pg.dis F.DIS_CFG_RB_EN p = true → (pinLevel s p != pinInv s p) ≠ l → pageEnabled s Pg.dis = true → soeWaiting s < 256 →
        ∃ u, exec (.rbMismatch p) s = .next (settle u) ∧
          bankBit u Pg.dis F.DIS_RB_ERR_ERR p = true ∧ getF u Pg.dis F.DIS_RB_MISMATCH = (getF s Pg.dis F.DIS_RB_MISMATCH + 1) % 2 ^ 32 ∧
            (getW u Pg.dis 0x10).getLsbD 3 = true ∧
            ∃ r, u.cul.fieldW = s.cul.fieldW ++ [.record s.cul.evtSeq (.soe r)] ∧ leAt r 8 4 = getF s Pg.soe F.SOE_SEQ_SEQ ∧ beAt r 12 1 = p ∧ beAt r 13 1 % 16 = kRbMismatch))

/-- VIN_DOMAIN_START, VIN_UVLO, GATE_RAMP_START, RETRY_OFF_END, OVER_VOLTAGE_END, THERMAL_RECOVER, RETRIES_RESTORE and PG_ASSERT (R387, R388, R391,
R392, R395): how power comes up. Where nothing else holds it off the gate ramps, and else an off-time ends without it; only a restart after a trip
uses a retry; PG comes last. None of them waits for the hub. -/
def Obligations.PowerComesUp : Prop :=
  ∀ (s : State),
    (s.pwr.run = false → ∃ u, exec .vinDomainStart s = .next (settle u) ∧
      u.pwr.run = true ∧ u.pwr.gate = false ∧ u.pwr.otp = s.pwr.otp ∧ getB u Pg.pwr F.PWR_STAT_BOOT = true ∧ getB u Pg.pwr F.PWR_BOOT_BURNT = s.pwr.otp.isSome ∧
        getW u Pg.pwr 0x40 = (s.pwr.otp.getD pwrBoot).1 ∧ retriesLeft u = retryCount u ∧ pwrPfw u = true ∧ OnlyPages [Pg.pwr, Pg.mon] s u) ∧
    (s.pwr.run = true → ∃ u, exec .vinUvlo s = .next (settle u) ∧ u.pwr.run = false ∧ u.pwr.gate = false ∧ pwrPg u = false ∧ u.start.inReset = true ∧ alive u = false) ∧
    (gateFree s = true → ∃ u, exec .gateRampStart s = .next (settle u) ∧
      u.pwr = { s.pwr with gate := true, retryDue := false } ∧
        retriesLeft u = (if s.pwr.retryDue ∧ retryCount s ≠ 255 then retriesLeft s - 1 else retriesLeft s) ∧ OnlyPages [Pg.pwr] s u) ∧
    (s.pwr.off = true → gateFree { s with pwr := { s.pwr with off := false } } = true → ∃ u, exec .retryOffEnd s = .next (settle u) ∧
      u.pwr = { s.pwr with off := false, gate := true, retryDue := false } ∧
        retriesLeft u = (if s.pwr.retryDue ∧ retryCount s ≠ 255 then retriesLeft s - 1 else retriesLeft s)) ∧
    (s.pwr.off = true → gateFree { s with pwr := { s.pwr with off := false } } = false → ∃ u, exec .retryOffEnd s = .next (settle u) ∧
      u.pwr = { s.pwr with off := false } ∧ retriesLeft u = retriesLeft s) ∧
    (s.pwr.ov = true → gateFree { s with pwr := { s.pwr with ov := false } } = true → s.pwr.retryDue = false → ∃ u, exec .overVoltageEnd s = .next (settle u) ∧
      u.pwr = { s.pwr with ov := false, gate := true } ∧ retriesLeft u = retriesLeft s) ∧
    (s.pwr.tsd = true → diesCool s = true → gateFree { s with pwr := { s.pwr with tsd := false } } = true → s.pwr.retryDue = false → ∃ u, exec .thermalRecover s = .next (settle u) ∧
      u.pwr = { s.pwr with tsd := false, gate := true } ∧ retriesLeft u = retriesLeft s) ∧
    (pwrPg s = true → ∃ u, exec .retriesRestore s = .next (settle u) ∧ retriesLeft u = retryCount s ∧ OnlyRegs [fKey Pg.pwr F.PWR_STAT_RETRIES_LEFT] s u) ∧
    (s.pwr.run = true → s.pwr.gate = true → s.pwr.lim = false → s.pwr.ov = false → s.pwr.latched = false → s.pwr.off = false → pwrPg s = false → ∃ u, exec .pgAssert s = .next (settle u) ∧
      pwrPg u = true ∧ pwrEnhanced u = true ∧ .ball "PG" true ∈ u.out ∧ u.pwr = s.pwr) ∧
    (s.pwr.run = true → s.pwr.gate = true → s.pwr.lim = false → s.pwr.ov = false → s.pwr.latched = false → s.pwr.off = false → pwrPg s = true → ∃ u, exec .pgAssert s = .next (settle u) ∧
      pwrPg u = true ∧ pwrEnhanced u = true ∧ u.pwr = s.pwr)

/-- CURRENT_LIMIT_ENTER, CURRENT_LIMIT_EXIT, FAULT_TIMER_TRIP, FAST_TRIP, GATE_FAULT, OVER_VOLTAGE and THERMAL_GATE_OFF (R389 to R393): the fault timer
runs while the current is in limit, which a gate that is regulated does not count as enhanced; a trip counts, turns the gate off with PG and, with
no retry left, latches it. -/
def Obligations.PowerTrips : Prop :=
  ∀ (s : State),
    (s.pwr.gate = true → s.pwr.lim = false → s.pwr.latched = false → ∃ u, exec .currentLimitEnter s = .next (settle u) ∧
      u.pwr.lim = true ∧ pwrEnhanced u = false ∧ u.pwr.timer = (s.pwr.timer || pwrCount s == 0) ∧ u.pwr.cnt = pwrCount s ∧ u.pwr.cntAt = s.watchNs ∧ getF u Pg.pwr F.PWR_STAT_STATE = 3 ∧ OnlyPages [Pg.pwr] s u) ∧
    (s.pwr.lim = true → ∃ u, exec .currentLimitExit s = .next (settle u) ∧ u.pwr = { s.pwr with lim := false, timer := false, cnt := pwrCount s, cntAt := s.watchNs } ∧ OnlyPages [Pg.pwr] s u) ∧
    (s.pwr.lim = true → ∃ u, exec .faultTimerTrip s = .next (settle u) ∧ Tripped s u (getF s Pg.pwr F.PWR_CFG_TIMER * 100000) ∧ getB u Pg.pwr F.PWR_FAULT_TRIP = true) ∧
    (s.pwr.gate = true → ∃ u, exec .fastTrip s = .next (settle u) ∧ Tripped s u (pwrCount s) ∧
      getF u Pg.pwr F.PWR_FAST_TRIPS = (getF s Pg.pwr F.PWR_FAST_TRIPS + 1) % 2 ^ 32 ∧ getB u Pg.pwr F.PWR_FAULT_FAST_TRIP = true) ∧
    (s.pwr.gate = true → s.pwr.lim = false → pwrPg s = false → pwrEnhanced s = false → ∃ u, exec .gateFault s = .next (settle u) ∧ Tripped s u 5000000 ∧
      getB u Pg.pwr F.PWR_FAULT_GATE_FAULT = true ∧ getB u Pg.pwr F.PWR_FAULT_TRIP = true ∧ (getW u Pg.pwr 0x10).getLsbD 4 = true ∧
        getF u Pg.pwr F.PWR_FET_FAULTS = (getF s Pg.pwr F.PWR_FET_FAULTS + 1) % 2 ^ 32) ∧
    (s.pwr.run = true → s.pwr.ov = false → ∃ u, exec .overVoltage s = .next (settle u) ∧
      u.pwr.ov = true ∧ u.pwr.gate = false ∧ getB u Pg.pwr F.PWR_FAULT_OV = true ∧ getF u Pg.pwr F.PWR_OV_EVENTS = (getF s Pg.pwr F.PWR_OV_EVENTS + 1) % 2 ^ 32 ∧
        (getW u Pg.pwr 0x10).getLsbD 5 = true ∧ retriesLeft u = retriesLeft s) ∧
    (s.pwr.tsd = true → s.pwr.gate = true → ∃ u, exec .thermalGateOff s = .next (settle u) ∧ u.pwr.gate = false ∧ pwrPg u = false ∧ u.pwr.tsd = true)

/-- GATE_WEAK, DS_SHORT, PFW_ASSERT, PFW_RELEASE, CHECKPOINT_DONE, PWR_BURN and MONITOR_SCAN (R127, R387, R393, R394, R397, R398, R402, R403): faults of
the FET, the power-fail warning, the settings burnt once, and the twelve channels of a scan with their windows; a die at 150 °C on two scans is a
thermal shutdown. -/
def Obligations.PowerWarnsAndMeasures : Prop :=
  ∀ (s : State),
    (s.pwr.gate = true → s.pwr.lim = false → pwrEnhanced s = false → ∃ u, exec .gateWeak s = .next (settle u) ∧
      getB u Pg.pwr F.PWR_FAULT_GATE_WEAK = true ∧ getF u Pg.pwr F.PWR_FET_FAULTS = (getF s Pg.pwr F.PWR_FET_FAULTS + 1) % 2 ^ 32 ∧ u.pwr = s.pwr ∧ pwrPg u = pwrPg s) ∧
    (s.pwr.run = true → s.pwr.gate = false → getB s Pg.pwr F.PWR_CFG_DS_RUN = true → s.pwr.ov = false → s.pwr.tsd = false → s.pwr.latched = false → ∃ u, exec .dsShort s = .next (settle u) ∧
      getB u Pg.pwr F.PWR_FAULT_DS_SHORT = true ∧ (getW u Pg.pwr 0x10).getLsbD 4 = true ∧ u.pwr = { s.pwr with off := false, dsOff := false, gate := true, retryDue := false }) ∧
    (s.pwr.run = true → s.pwr.gate = false → getB s Pg.pwr F.PWR_CFG_DS_RUN = false → ∃ u, exec .dsShort s = .next (settle u) ∧
      getB u Pg.pwr F.PWR_FAULT_DS_SHORT = true ∧ (getW u Pg.pwr 0x10).getLsbD 4 = true ∧ getB u Pg.pwr F.PWR_STAT_GATE_CYCLED = true ∧ u.pwr = { s.pwr with dsOff := true }) ∧
    (s.pwr.run = true → pwrPfw s = false → ∃ u, exec .pfwAssert s = .next (settle u) ∧
      u.pwr = { s.pwr with low := true } ∧ pwrPfw u = true ∧ getB u Pg.pwr F.PWR_STAT_HOLDUP_OK = false ∧ .ball "PFW" true ∈ u.out ∧
        getF u Pg.pwr F.PWR_PFW_ASSERTS = (getF s Pg.pwr F.PWR_PFW_ASSERTS + 1) % 2 ^ 32) ∧
    (s.pwr.run = true → pwrPfw s = true → ∃ u, exec .pfwAssert s = .next (settle u) ∧
      u.pwr = { s.pwr with low := true } ∧ pwrPfw u = true ∧ u.out = [] ∧ getF u Pg.pwr F.PWR_PFW_ASSERTS = getF s Pg.pwr F.PWR_PFW_ASSERTS) ∧
    (s.pwr.run = true → pwrPfw s = true → pfwCause { s with pwr := { s.pwr with low := false } } = false → ∃ u, exec .pfwRelease s = .next (settle u) ∧
      u.pwr = { s.pwr with low := false } ∧ pwrPfw u = false ∧ .ball "PFW" false ∈ u.out) ∧
    (alive s = true → getF s Pg.chs F.CHS_STAT_CKPT = 3 → ∃ u, exec .checkpointDone s = .next (settle u) ∧
      getF u Pg.chs F.CHS_STAT_CKPT = 1 ∧ getF u Pg.chs F.CHS_CKPTS = (getF s Pg.chs F.CHS_CKPTS + 1) % 2 ^ 32 ∧ u.start.ckpt = some (flowImage s) ∧
        getF u Pg.seq F.SEQ_START_CKPT_KIB ≤ 816 ∧ u.seq = s.seq) ∧
    (∀ who v, writeTaken s who Pg.pwr 0x5C v = true → v.getLsbD 0 = true → s.pwr.otp = none → ∃ u, exec (.pwrBurn who v) s = .next (settle u) ∧
      u.pwr = { s.pwr with otp := some (getW s Pg.pwr 0x40, getW s Pg.pwr 0x44, getW s Pg.pwr 0x48, getW s Pg.pwr 0x4C) } ∧ getB u Pg.pwr F.PWR_BOOT_BURNT = true) ∧
    (∀ who v, writeReaches s who Pg.pwr 0x5C = true → lockAllows s Pg.pwr 0x5C v = true → v = 1#32 → s.pwr.otp ≠ none → ∃ u, exec (.pwrBurn who v) s = .next (settle u) ∧
      u.pwr = s.pwr ∧ (getW u Pg.pwr 0x10).getLsbD 1 = true ∧ getF u Pg.pwr F.ERR_COUNT_COUNT = min (getF s Pg.pwr F.ERR_COUNT_COUNT + 1) (2 ^ 32 - 1)) ∧
    (∀ (values : List Nat), s.pwr.run = true → s.pwr.hotRing = true → s.pwr.tsd = false → 2000 ≤ values.getD 9 0 % 4096 → ∃ u, exec (.monitorScan values) s = .next (settle u) ∧
      u.pwr.tsd = true ∧ getB u Pg.pwr F.PWR_FAULT_TSD = true ∧ (getW u Pg.pwr 0x10).getLsbD 6 = true ∧ getF u Pg.mon F.MON_VAL_VAL 9 = values.getD 9 0 % 4096) ∧
    (∀ (values : List Nat), s.pwr.run = true → ∃ u, exec (.monitorScan values) s = .next (settle u) ∧ ∀ c, c < 12 →
      getF u Pg.mon F.MON_VAL_VAL c = values.getD c 0 % 4096 ∧
        (getF s Pg.mon F.MON_CTL_FILT ≤ 1 → (getF u Pg.mon F.MON_OUT_OUT).testBit c =
          (decide (values.getD c 0 % 4096 < getF s Pg.mon F.MON_WIN_LO c) || decide (getF s Pg.mon F.MON_WIN_HI c < values.getD c 0 % 4096))))

/-- LEASE_RENEW, LEASE_LAPSE, LEASE_REQUEST, CONSENT_PROMISE_END, GRANT_RX, RENEWED_RX and DENY_RX (R358, R360, R363 to R365, R375): a member asks its
witness under a fresh request number, and its partner for consent while the mirror runs; an answer to the latest request restarts the right or makes
the member ACTIVE under the epoch given, as a handed GRANT does a standby (log entry 17); any other is stale; a holder whose rights end becomes
LAPSED and its benches stop. -/
def Obligations.LeaseAtTheMember : Prop :=
  ∀ (s : State), alive s = true →
    (pairRole s = 2 ∨ pairRole s = 5 → mirrorOn s = false → nodeEnt s false (witnessHop s) = none → ∃ u, exec .leaseRenew s = .next (settle u) ∧
      u.pair = { s.pair with reqId := (s.pair.reqId + 1) % 2 ^ 32, reqAt := s.watchNs, reqAlone := true } ∧ u.regs = s.regs ∧ u.sw = s.sw) ∧
    (∀ e f, pairRole s = 2 ∨ pairRole s = 5 → mirrorOn s = false → nodeEnt s false (witnessHop s) = some e →
      f = leaseFrame s e.mac (witnessRoute s) (memberLease s 3 (memberFlags s + 4) 0) → hasRoom s f 7 [.e, .w] = true → ∃ u, exec .leaseRenew s = .next (settle u) ∧
        u.pair = { s.pair with reqId := (s.pair.reqId + 1) % 2 ^ 32, reqAt := s.watchNs, reqAlone := true } ∧ Leaves s u (tagged s f) 7 [.e, .w] ∧ OnlyPages storePages s u) ∧
    (∀ p, pairRole s = 2 ∨ pairRole s = 5 → mirrorOn s = true → mirrorPort s = some p → nodeEnt s false (witnessHop s) = none → ∃ u, exec .leaseRenew s = .next (settle u) ∧
      u.pair = { s.pair with reqId := (s.pair.reqId + 1) % 2 ^ 32, reqAt := s.watchNs, reqAlone := false, consentId := (s.pair.consentId + 1) % 2 ^ 32,
                             consentAt := s.watchNs, consentOwe := none, handReq := false, mirOut := s.pair.mirOut.drop (mirFit 9000 s.pair.mirOut).length }) ∧
    (pairRole s = 2 ∨ pairRole s = 5 → ∃ u, exec .leaseLapse s = .next (settle u) ∧
      pairRole u = 4 ∧ u.pair = { s.pair with rightW := 0, rightC := 0 } ∧ getF u Pg.par F.PAR_LAPSES = (getF s Pg.par F.PAR_LAPSES + 1) % 2 ^ 32 ∧
        (getW u Pg.par 0x10).getLsbD 4 = true ∧ (getW u Pg.par 0x10).getLsbD 2 = true ∧ u.cul.ringW = s.cul.ringW ++ [.permit 0] ∧ ∀ n, n < 16 → benRun u n = 0) ∧
    (∀ e f, pairRole s = 3 ∨ pairRole s = 4 ∨ (pairRole s = 1 ∧ getB s Pg.par F.PAR_CTL_PREFERRED = true) → watchOk s = true → culvertOk s = true → journalOk s = true →
      s.pair.promise = none → partnerServes s = false → nodeEnt s false (witnessHop s) = some e → f = leaseFrame s e.mac (witnessRoute s) (memberLease s 1 (memberFlags s) 0) →
      hasRoom s f 7 [.e, .w] = true → ∃ u, exec .leaseRequest s = .next (settle u) ∧
        u.pair = { s.pair with reqId := (s.pair.reqId + 1) % 2 ^ 32, reqAt := s.watchNs, reqAlone := false } ∧ Leaves s u (tagged s f) 7 [.e, .w] ∧ OnlyPages storePages s u) ∧
    (s.pair.promise ≠ none → ∃ u, exec .leaseRequest s = .next (settle u) ∧ u = cleared s) ∧
    (∃ u, exec .consentPromiseEnd s = .next (settle u) ∧ u.pair = { s.pair with promise := none } ∧ u.regs = s.regs ∧ beside { u with pair := s.pair } = beside s) ∧
    (∀ p f k l t, takeLease s [2] = some ((p, f, k, l), t) →
      (∀ bad, leaseMatches s l = true → pairRole s = 2 ∨ pairRole s = 5 → ∃ u, exec (.grantRx bad) s = .next (settle u) ∧
        u.pair = { s.pair with rightW := s.pair.reqAt + rightNs s } ∧ u.start.pairEpochs = l.epoch ∧ pairRole u = pairRole s ∧ OnlyRegs [fKey Pg.par F.PAR_PAIR_EPOCH_EPOCH] s
          { u with pair := s.pair, start := s.start, sw := s.sw }) ∧
      (∀ bad, leaseMatches s l = true → pairRole s = 1 ∨ pairRole s = 4 → ∃ u, exec (.grantRx bad) s = .next (settle u) ∧
        pairRole u = 2 ∧ u.pair.rightW = s.pair.reqAt + rightNs s ∧ u.pair.holder = 1 ∧ u.start.pairEpochs = l.epoch ∧ getB u Pg.par F.PAR_STAT_ALONE = true ∧
          (getW u Pg.par 0x10).getLsbD 2 = true ∧ getF u Pg.par F.PAR_TAKEOVERS = getF s Pg.par F.PAR_TAKEOVERS) ∧
      (∀ bad, leaseMatches s l = true → pairRole s = 3 → ∃ u, exec (.grantRx bad) s = .next (settle u) ∧
        pairRole u = 2 ∧ u.pair.rightW = s.pair.reqAt + rightNs s ∧ u.pair.holder = 1 ∧ u.start.pairEpochs = l.epoch ∧ getB u Pg.par F.PAR_STAT_ALONE = true ∧
          getF u Pg.par F.PAR_TAKEOVERS = (getF s Pg.par F.PAR_TAKEOVERS + 1) % 2 ^ 32 ∧ u.pair.mOpen = [] ∧ u.pair.mIntent = []) ∧
      (∀ bad, leaseMatches s l = false → leaseHanded s l = true → ∃ u, exec (.grantRx bad) s = .next (settle u) ∧
        pairRole u = 2 ∧ u.pair.rightW = s.watchNs + rightNs s ∧ u.pair.holder = 1 ∧ u.start.pairEpochs = l.epoch ∧
          getF u Pg.par F.PAR_TAKEOVERS = (getF s Pg.par F.PAR_TAKEOVERS + 1) % 2 ^ 32) ∧
      (∀ bad, leaseMatches s l = false → leaseHanded s l = false → ∃ u, exec (.grantRx bad) s = .next (settle u) ∧
        getF u Pg.par F.PAR_STALE_ANSWERS = (getF s Pg.par F.PAR_STALE_ANSWERS + 1) % 2 ^ 32 ∧ u.pair = s.pair ∧ OnlyRegs [fKey Pg.par F.PAR_STALE_ANSWERS] s { u with sw := s.sw })) ∧
    (∀ p f k l t, takeLease s [4] = some ((p, f, k, l), t) →
      (leaseMatches s l = true → pairRole s = 2 ∨ pairRole s = 5 → ∃ u, exec .renewedRx s = .next (settle u) ∧
        u.pair = { s.pair with rightW := s.pair.reqAt + rightNs s, aloneWait := s.pair.aloneWait && !s.pair.reqAlone } ∧
          getB u Pg.par F.PAR_STAT_ALONE = (getB s Pg.par F.PAR_STAT_ALONE || (s.pair.reqAlone && s.pair.aloneWait))) ∧
      (leaseMatches s l = false → ∃ u, exec .renewedRx s = .next (settle u) ∧
        getF u Pg.par F.PAR_STALE_ANSWERS = (getF s Pg.par F.PAR_STALE_ANSWERS + 1) % 2 ^ 32 ∧ u.pair = s.pair)) ∧
    (∀ p f k l t, takeLease s [5] = some ((p, f, k, l), t) →
      (leaseMatches s l = true → ∃ u, exec .denyRx s = .next (settle u) ∧ u.pair = s.pair ∧ u.regs = s.regs ∧ u.sw.localQ = t.sw.localQ) ∧
      (leaseMatches s l = false → ∃ u, exec .denyRx s = .next (settle u) ∧
        getF u Pg.par F.PAR_STALE_ANSWERS = (getF s Pg.par F.PAR_STALE_ANSWERS + 1) % 2 ^ 32 ∧ u.pair = s.pair ∧ SameRegs [fKey Pg.par F.PAR_STALE_ANSWERS] s u))

/-- WITNESS_REQUEST_RX, WITNESS_RENEW_RX, WITNESS_RELEASE_RX, WITNESS_LEASE_EXPIRE, WITNESS_SLOT_FREE and WITNESS_START_HOLD_END (R358, R366, R367) at a
hub that serves as a witness: one holder at a time for each pair; a request meets a running lease, waits and is denied, and is granted once the
lease ends; a renewal extends the lease from its receipt, and a release that names a successor passes it on. The lease of a request runs from its
receipt. -/
def Obligations.WitnessServes : Prop :=
  ∀ (s : State), alive s = true →
    (∀ p f k l t, takeLease s [1] = some ((p, f, k, l), t) →
      (getB s Pg.par F.PAR_CTL_WITNESS_EN = false → ∃ u, exec .witnessRequestRx s = .next (settle u) ∧
        u.pair = s.pair ∧ getF u Pg.par F.PAR_WIT_DENIES = (getF s Pg.par F.PAR_WIT_DENIES + 1) % 2 ^ 32) ∧
      (getB s Pg.par F.PAR_CTL_WITNESS_EN = true →
        takeLocal t (fun _ f k => k.type == tyLease && (leaseParse (kvlBody f.payload k)).kind == 3 && (leaseParse (kvlBody f.payload k)).pairMac == l.pairMac) = none →
        (s.pair.startHold = true → ∃ u, exec .witnessRequestRx s = .next (settle u) ∧
          u.pair = s.pair ∧ getF u Pg.par F.PAR_WIT_DENIES = (getF s Pg.par F.PAR_WIT_DENIES + 1) % 2 ^ 32) ∧
        (∀ i w, s.pair.startHold = false → watchOk s = true → witFind s l.pairMac = some (i, some w) → w.held = true → w.holder ≠ f.smac → ∃ u, exec .witnessRequestRx s = .next (settle u) ∧
          witOf u i = some { w with pend := some (witReq s f k l) } ∧ getF u Pg.par F.PAR_WIT_DENIES = (getF s Pg.par F.PAR_WIT_DENIES + 1) % 2 ^ 32) ∧
        (∀ i w, s.pair.startHold = false → watchOk s = true → witFind s l.pairMac = some (i, some w) → w.held = false ∨ w.holder = f.smac → ∃ u, exec .witnessRequestRx s = .next (settle u) ∧
          getF u Pg.par F.PAR_WIT_GRANTS = (getF s Pg.par F.PAR_WIT_GRANTS + 1) % 2 ^ 32 ∧ witOf u i = some { w with
            holder := f.smac, sync := false, held := true, ends := s.watchNs + 1000000 * l.leaseMs, pend := none,
            epoch := if (if f.smac = w.holder then l.flags.testBit 1 else w.sync && l.flags.testBit 0) then w.epoch else (w.epoch + 1) % 2 ^ 32 }) ∧
        (∀ i, s.pair.startHold = false → watchOk s = true → witFind s l.pairMac = some (i, none) → ∃ u, exec .witnessRequestRx s = .next (settle u) ∧
          getF u Pg.par F.PAR_WIT_GRANTS = (getF s Pg.par F.PAR_WIT_GRANTS + 1) % 2 ^ 32 ∧ witOf u i = some {
            pairMac := l.pairMac, pairNode := l.pairNode, holder := f.smac, epoch := if f.smac = 0 ∧ l.flags.testBit 1 = true then 0 else 1, sync := false, held := true,
            ends := s.watchNs + 1000000 * l.leaseMs, pend := none }))) ∧
    (∀ p f k l t i w, takeLease s [3] = some ((p, f, k, l), t) → getB s Pg.par F.PAR_CTL_WITNESS_EN = true → witFind s l.pairMac = some (i, some w) →
      (w.holder ≠ f.smac → ∃ u, exec .witnessRenewRx s = .next (settle u) ∧ u.pair = s.pair ∧ getF u Pg.par F.PAR_WIT_DENIES = (getF s Pg.par F.PAR_WIT_DENIES + 1) % 2 ^ 32) ∧
      (w.holder = f.smac → w.held = true → ∃ u, exec .witnessRenewRx s = .next (settle u) ∧
        witOf u i = some { w with sync := l.flags.testBit 0 && !l.flags.testBit 2, ends := s.watchNs + 1000000 * l.leaseMs })) ∧
    (∀ p f k l t i w, takeLease s [6] = some ((p, f, k, l), t) → getB s Pg.par F.PAR_CTL_WITNESS_EN = true → witFind s l.pairMac = some (i, some w) → w.holder = f.smac → w.held = true →
      l.flags.testBit 3 = false → w.pend = none → ∃ u, exec .witnessReleaseRx s = .next (settle u) ∧ witOf u i = some { w with held := false, ends := s.watchNs } ∧ u.regs = s.regs) ∧
    (∀ p f k l t i w, takeLease s [6] = some ((p, f, k, l), t) → getB s Pg.par F.PAR_CTL_WITNESS_EN = true → witFind s l.pairMac = some (i, some w) → w.holder = f.smac → w.held = true →
      l.flags.testBit 3 = true → ∃ u, exec .witnessReleaseRx s = .next (settle u) ∧
        witOf u i = some { w with holder := l.successor, ends := s.watchNs + 1000000 * l.leaseMs, pend := none } ∧
          getF u Pg.par F.PAR_WIT_GRANTS = (getF s Pg.par F.PAR_WIT_GRANTS + 1) % 2 ^ 32) ∧
    (∀ i w, witOf s i = some w → w.held = true →
      takeLocal s (fun _ f k => k.type == tyLease && (leaseParse (kvlBody f.payload k)).kind == 6 && (leaseParse (kvlBody f.payload k)).pairMac == w.pairMac) = none →
      (w.pend = none → ∃ u, exec (.witnessLeaseExpire i) s = .next (settle u) ∧ witOf u i = some { w with held := false, ends := s.watchNs } ∧ u.regs = s.regs) ∧
      (∀ q, w.pend = some q → ∃ u, exec (.witnessLeaseExpire i) s = .next (settle u) ∧
        getF u Pg.par F.PAR_WIT_GRANTS = (getF s Pg.par F.PAR_WIT_GRANTS + 1) % 2 ^ 32 ∧ witOf u i = some { w with
          holder := q.mac, sync := false, held := true, ends := q.since + 1000000 * q.leaseMs, pend := none,
          epoch := if (if q.mac = w.holder then q.warm else w.sync && q.synced) then w.epoch else (w.epoch + 1) % 2 ^ 32 })) ∧
    (∀ i w, witOf s i = some w → w.held = false → w.pend = none → ∃ u, exec (.witnessSlotFree i) s = .next (settle u) ∧
      witOf u i = none ∧ (∀ j, j ≠ i → witOf u j = witOf s j) ∧ u.regs = s.regs) ∧
    ∃ u, exec .witnessStartHoldEnd s = .next (settle u) ∧ u.pair = { s.pair with startHold := false } ∧ u.regs = s.regs ∧ beside { u with pair := s.pair } = beside s

/-- MIRROR_SEND, MIRROR_FRAME_RX, MIRROR_LOST_TIMEOUT, MIRROR_COPY_DONE, MIRROR_FIELD_TIMER and MIRROR_TOKEN_TIMER (R361, R368, R369, R371, R382): a
MIRROR frame takes the oldest waiting records; one that arrives shows the partner, or a configuration that does not match, and at a standby its
records are applied in the order of their numbers; silence loses the link; the end of the copy brings the pair in sync; the timers send what the
standby needs. -/
def Obligations.MirrorLink : Prop :=
  ∀ (s : State) (p : Port), alive s = true →
    (pairRole s ≠ 0 → mirrorPort s = some p → hasRoom s (mirrorFrame s p false) 4 [p] = true → ∃ u, exec .mirrorSend s = .next (settle u) ∧
      u.pair = { s.pair with consentOwe := none, handReq := false, mirOut := s.pair.mirOut.drop (mirFit 9000 s.pair.mirOut).length } ∧
        Leaves s u (tagged s (mirrorFrame s p false)) 4 [p] ∧ OnlyPages storePages s u) ∧
    (∀ f k ecc, pairRole s ≠ 0 → mirrorPort s = some p → f.fcs = .good → frameLen f ≤ 9216 → f.hsr ≠ none → ingressShut s p = false → isHello s f = false →
      frameKvl s f = some k → k.type = tyMirror → verOk s k = true → bodyOk k f = true → (f.dmac = ownMac s → dstServed s false k = true) →
      beAt (kvlBody f.payload k) 6 1 < 16 → beAt (kvlBody f.payload k) 7 1 = 0 → beAt (kvlBody f.payload k) 14 2 = 0 →
      (beAt (kvlBody f.payload k) 16 4 ≠ pairCrc s → mirRecsParse (kvlBody f.payload k).length ((kvlBody f.payload k).drop 20) = some [] → ∃ u, exec (.mirrorFrameRx f ecc) s = .next (settle u) ∧
        u.pair.lastRx = s.watchNs ∧ getF u (portPage p) F.PORT_RX_FRAMES = (getF s (portPage p) F.PORT_RX_FRAMES + 1) % 2 ^ 32 ∧
          getB u Pg.mir F.MIR_STAT_MISMATCH = true ∧ mirState u = 1 ∧ u.pair.partnerRole = 7) ∧
      (beAt (kvlBody f.payload k) 16 4 = pairCrc s → mirRecsParse (kvlBody f.payload k).length ((kvlBody f.payload k).drop 20) = some [] → ∃ u, exec (.mirrorFrameRx f ecc) s = .next (settle u) ∧
        u.pair.lastRx = s.watchNs ∧ getF u (portPage p) F.PORT_RX_FRAMES = (getF s (portPage p) F.PORT_RX_FRAMES + 1) % 2 ^ 32 ∧
          getB u Pg.mir F.MIR_STAT_MISMATCH = false ∧ u.pair.partnerRole = beAt (kvlBody f.payload k) 4 1 ∧ u.pair.partnerMac = f.smac ∧
          getF u Pg.par F.PAR_HEALTH_PARTNER = beAt (kvlBody f.payload k) 5 1 ∧
          getB u Pg.par F.PAR_STAT_PARTNER_HEALTHY = healthyIn (beAt (kvlBody f.payload k) 4 1) (beAt (kvlBody f.payload k) 5 1)) ∧
      (∀ r, beAt (kvlBody f.payload k) 16 4 = pairCrc s → mirRecsParse (kvlBody f.payload k).length ((kvlBody f.payload k).drop 20) = some [r] → pairRole s = 3 → mirState s = 3 →
        ecc = false → r.kind = 2 → r.msn = s.pair.logNext → ∃ u, exec (.mirrorFrameRx f ecc) s = .next (settle u) ∧
          u.pair.mOpen = s.pair.mOpen.filter (fun o => !(o.flow == r.key && o.seq == r.seq)) ∧ u.pair.logNext = (r.msn + 1) % 2 ^ 32 ∧
            getF u Pg.mir F.MIR_MSN_ACKED_MSN = r.msn % 2 ^ 32 ∧ getF u Pg.mir F.MIR_RECORDS_LOGGED = (getF s Pg.mir F.MIR_RECORDS_LOGGED + 1) % 2 ^ 32) ∧
      (∀ r, beAt (kvlBody f.payload k) 16 4 = pairCrc s → mirRecsParse (kvlBody f.payload k).length ((kvlBody f.payload k).drop 20) = some [r] → pairRole s = 3 → mirState s = 3 →
        ecc = false → s.pair.logNext ≠ 2 ^ 32 → r.msn ≠ s.pair.logNext → ∃ u, exec (.mirrorFrameRx f ecc) s = .next (settle u) ∧
          u.pair.mOpen = s.pair.mOpen ∧ u.pair.logNext = s.pair.logNext ∧ getF u Pg.mir F.MIR_RECORDS_LOGGED = getF s Pg.mir F.MIR_RECORDS_LOGGED)) ∧
    (pairRole s ≠ 0 → 1 ≤ mirState s → mirState s ≤ 3 → ∃ u, exec .mirrorLostTimeout s = .next (settle u) ∧
      mirState u = 4 ∧ u.pair.partnerRole = 7 ∧ u.pair.lastRx = s.watchNs ∧ getF u Pg.mir F.MIR_HB_MISSED = (getF s Pg.mir F.MIR_HB_MISSED + 5) % 2 ^ 32 ∧
        (getW u Pg.par 0x10).getLsbD 3 = true ∧ (pairRole s = 2 → mirrorOn s = true → u.pair.aloneWait = true)) ∧
    (mirState s = 2 → pairRole s = 3 ∨ mirAcked s s.pair.copyEnd = true → ∃ u, exec .mirrorCopyDone s = .next (settle u) ∧
      mirState u = 3 ∧ getF u Pg.mir F.MIR_STAT_COPY_PCT = 100 ∧ (getW u Pg.mir 0x10).getLsbD 2 = true ∧ OnlyRegs (fKey Pg.mir F.MIR_STAT_STATE :: irqKeys Pg.mir) s u) ∧
    (mirroring s = true → ∃ u, exec .mirrorFieldTimer s = .next (settle u) ∧
      (∀ ep, ep < 48 → (tabGet u.pair.mSent ep).getD (fieldState s 99) = fieldState s ep) ∧ u.fld = s.fld ∧ OnlyPages [Pg.mir] s u) ∧
    (mirroring s = true → ∃ u, exec .mirrorTokenTimer s = .next (settle u) ∧
      u.pair.mirOut.take s.pair.mirOut.length = s.pair.mirOut ∧ (u.pair.mirOut.drop s.pair.mirOut.length).map (fun r => (r.kind, r.key)) = [(9, 0), (9, 1024), (9, 3072)] ∧
        getF u Pg.mir F.MIR_RECORDS_TX = (getF s Pg.mir F.MIR_RECORDS_TX + 3) % 2 ^ 32 ∧ OnlyPages [Pg.mir] s u)

/-- PAIR_HANDOVER, HANDOVER_RELEASE, REVERT_HOLDOFF, PAIR_PROVE, PROVE_DONE and PAIR_ANNOUNCE_SEND (R356, R379, R380, R383): a handover holds the field
still and then, with every character sent and every record acknowledged or the power failing, releases the lease to the standby; a standby that
prefers to hold asks for one; proving runs on a standby, with the DIGEST record of the holder, and shows its outcome; the holder announces the pair
node from the pair's address. -/
def Obligations.HandoverAndProving : Prop :=
  ∀ (s : State), alive s = true →
    (∀ who, writeTaken s who Pg.par 0x60 1#32 = true → pairRole s = 2 → mirState s = 3 → ∃ u, exec (.pairHandover who) s = .next (settle u) ∧
      pairRole u = 5 ∧ (getW u Pg.par 0x10).getLsbD 2 = true ∧ ∀ n, n < 16 → benRun u n = 0) ∧
    (pairRole s = 5 → s.pair.pfw = true → ∃ u, exec .handoverRelease s = .next (settle u) ∧
      pairRole u = 3 ∧ u.pair.rightW = 0 ∧ u.pair.rightC = 0 ∧ u.pair.reqId = (s.pair.reqId + 1) % 2 ^ 32 ∧
        getF u Pg.par F.PAR_HANDOVERS = (getF s Pg.par F.PAR_HANDOVERS + 1) % 2 ^ 32) ∧
    (∀ e f, pairRole s = 5 → s.pair.pfw = false → allAcked (fieldNotes s) = true → pairIdle (fieldNotes s) = true → serQuiet (fieldNotes s) = true →
      nodeEnt s false (witnessHop s) = some e → f = leaseFrame s e.mac (witnessRoute s) (memberLease s 6 8 s.pair.partnerMac) → hasRoom s f 7 [.e, .w] = true →
      ∃ u, exec .handoverRelease s = .next (settle u) ∧
        pairRole u = 3 ∧ u.pair.rightW = 0 ∧ u.pair.rightC = 0 ∧ Leaves s u (tagged s f) 7 [.e, .w] ∧
          getF u Pg.par F.PAR_HANDOVERS = (getF s Pg.par F.PAR_HANDOVERS + 1) % 2 ^ 32) ∧
    (pairRole s = 5 → s.pair.pfw = false → serQuiet (fieldNotes s) = false → ∃ u, exec .handoverRelease s = .next (settle u) ∧ pairRole u = 5 ∧ u.regs = (fieldNotes (cleared s)).regs) ∧
    (pairRole s = 3 → getB s Pg.par F.PAR_CTL_REVERT = true → getB s Pg.par F.PAR_CTL_PREFERRED = true → mirState s = 3 → ownHealthy s = true → mirrorPort s = none →
      ∃ u, exec .revertHoldoff s = .next (settle u) ∧ u.pair = { s.pair with handReq := true } ∧ u.regs = s.regs) ∧
    (∀ p f, pairRole s = 3 → getB s Pg.par F.PAR_CTL_REVERT = true → getB s Pg.par F.PAR_CTL_PREFERRED = true → mirState s = 3 → ownHealthy s = true → mirrorPort s = some p →
      f = mirrorFrame { s with pair := { s.pair with handReq := true } } p false → hasRoom s f 4 [p] = true → ∃ u, exec .revertHoldoff s = .next (settle u) ∧
        u.pair = { s.pair with consentOwe := none, handReq := false, mirOut := s.pair.mirOut.drop (mirFit 9000 s.pair.mirOut).length } ∧ Leaves s u (tagged s f) 4 [p]) ∧
    (∀ who, writeTaken s who Pg.par 0x60 2#32 = true → pairRole s = 3 → s.test.pass = none → ∃ u, exec (.pairProve (some who)) s = .next (settle u) ∧
      u.pair = { s.pair with proving := true } ∧ u.test.pass = some true ∧ getB u Pg.bst F.BST_STAT_BUSY = true) ∧
    (pairRole s = 3 → s.test.pass = none → ∃ u, exec (.pairProve none) s = .next (settle u) ∧
      u.pair = { s.pair with proving := true } ∧ u.test.pass = some true ∧ getB u Pg.bst F.BST_STAT_BUSY = true) ∧
    (∀ who, writeTaken s who Pg.par 0x60 2#32 = true → mirroring s = true → ∃ u, exec (.pairProve (some who)) s = .next (settle u) ∧
      (u.pair.mirOut.drop s.pair.mirOut.length).map (·.kind) = [10] ∧ u.test = s.test) ∧
    (∀ mem analog digest, s.pair.proving = true → ∃ u, exec (.proveDone mem analog digest) s = .next (settle u) ∧
      u.pair = { s.pair with proving := false, proveAt := s.watchNs, proveBad := mem || analog || digest } ∧
        getF u Pg.par F.PAR_PROVE_STAT_RESULT = (if mem || analog || digest then 2 else 1) ∧ getB u Pg.par F.PAR_PROVE_STAT_MEM_FAIL = mem ∧
        getF u Pg.par F.PAR_PROVES = (getF s Pg.par F.PAR_PROVES + 1) % 2 ^ 32 ∧ (getW u Pg.par 0x10).getLsbD 5 = true ∧ (digest = true → mirState u = 2)) ∧
    (∀ g, pairRole s = 2 → pairMac s ≠ ownMac s → g = { pairFrame s with hsr := some { path := 0, seq := s.pair.hsr } } → hasRoom s g 7 [.e, .w] = true →
      ∃ u, exec .pairAnnounceSend s = .next (settle u) ∧ Leaves s u g 7 [.e, .w] ∧ u.pair = { s.pair with hsr := (s.pair.hsr + 1) % 65536 } ∧ OnlyPages storePages s u)

/-- PIN_RESET, RESET_RELEASE, STARTUP_STEP_DONE and SERVICE_START (R126, R405, R409 to R412, R435): RESET_N stops the hub wherever it is and lets go of
every field pin; its release starts start-up at step 4 from the reset state, keeping what the chest, the journal and the VIN domain hold; each step
goes on or stops the sequence; service starts where no power-fail warning holds it, and waits where one does. -/
def Obligations.StartUpSteps : Prop :=
  ∀ (s : State),
    (s.start.inReset = false → ∃ u, exec .pinReset s = .next (settle u) ∧
      u.start.inReset = true ∧ u.start.service = false ∧ u.seq.running = false ∧ alive u = false ∧ u.start.journal = some (flowImage s) ∧
        getB u Pg.rst F.RST_CAUSE_PIN = true ∧ getF u Pg.jrn F.JRN_STAT_STATE = 3 ∧ u.pwr = s.pwr ∧ u.jmem = s.jmem ∧
        (∀ p, (tabGet u.fld.drive p).getD none = none) ∧ OnlyPages [Pg.rst, Pg.jrn] s u) ∧
    (∀ prof, s.start.inReset = true → s.pwr.run = true → ∃ u, exec (.resetRelease prof) s = .next (settle u) ∧
      u.start.inReset = false ∧ u.start.service = false ∧ getF u Pg.rst F.RST_STAT_STEP = 4 ∧ getF u Pg.rst F.RST_STAT_PROF = prof % 4 ∧ u.seq = State.reset.seq ∧
        u.sw = State.reset.sw ∧ u.fld = State.reset.fld ∧ u.pwr = s.pwr ∧ u.jmem = s.jmem ∧ u.dev = s.dev ∧ u.start.commits = s.start.commits ∧
        u.start.drawers = s.start.drawers) ∧
    (alive s = true → getB s Pg.rst F.RST_STAT_STOPPED = false → getB s Pg.rst F.RST_STAT_SAFE = false →
      (∀ (errs : List ChestErr) (corrected : Nat) (bad : List Nat),
        (getF s Pg.rst F.RST_STAT_STEP = 4 → ∃ u, exec (.startupStepDone true errs corrected bad) s = .next (settle u) ∧
          getF u Pg.rst F.RST_STAT_STEP = 5 ∧ culState u = 1 ∧ u.cul = { s.cul with attempt := 1 }) ∧
        (getF s Pg.rst F.RST_STAT_STEP = 4 → ∃ u, exec (.startupStepDone false errs corrected bad) s = .next (settle u) ∧ StopsAt u 4 ∧ OnlyPages [Pg.rst] s u) ∧
        (∀ ok, getF s Pg.rst F.RST_STAT_STEP = 5 → culUp s = true → ∃ u, exec (.startupStepDone ok errs corrected bad) s = .next (settle u) ∧
          getF u Pg.rst F.RST_STAT_STEP = 6 ∧ OnlyRegs [fKey Pg.rst F.RST_STAT_STEP] s u) ∧
        (∀ ok, getF s Pg.rst F.RST_STAT_STEP = 5 → culState s = 4 → ∃ u, exec (.startupStepDone ok errs corrected bad) s = .next (settle u) ∧ StopsAt u 5 ∧ OnlyPages [Pg.rst] s u) ∧
        (∀ ok, getF s Pg.rst F.RST_STAT_STEP = 6 → epochRead s errs = none → ∃ u, exec (.startupStepDone ok errs corrected bad) s = .next (settle u) ∧
          StopsAt u 6 ∧ getF u Pg.chs F.CHS_STAT_STATE = 2) ∧
        (getF s Pg.rst F.RST_STAT_STEP = 9 → ∃ u, exec (.startupStepDone false errs corrected bad) s = .next (settle u) ∧
          StopsAt u 9 ∧ getF u Pg.jrn F.JRN_STAT_STATE = 4 ∧ (getW u Pg.jrn 0x10).getLsbD 3 = true ∧ u.seq = s.seq) ∧
        (∀ ok, getF s Pg.rst F.RST_STAT_STEP = 10 ∨ getF s Pg.rst F.RST_STAT_STEP = 11 → ∃ u, exec (.startupStepDone ok errs corrected bad) s = .next (settle u) ∧
          getF u Pg.rst F.RST_STAT_STEP = getF s Pg.rst F.RST_STAT_STEP + 1 ∧ OnlyRegs [fKey Pg.rst F.RST_STAT_STEP] s u) ∧
        (∀ ok, getF s Pg.rst F.RST_STAT_STEP = 12 → ∃ u, exec (.startupStepDone ok errs corrected bad) s = .next (settle u) ∧
          getF u Pg.rst F.RST_STAT_STEP = 13 ∧ pairRole u = (if getB s Pg.par F.PAR_CTL_EN then 1 else 0) ∧ mirState u = (if getB s Pg.par F.PAR_CTL_EN then 1 else 0))) ∧
      (∀ (ok : Bool) (corrected : Nat) (bad : List Nat), getF s Pg.rst F.RST_STAT_STEP = 6 →
        (getB s Pg.pwr F.PWR_STAT_GATE_CYCLED = true → getF s Pg.chs F.CHS_STAT_CKPT ≠ 1 ∨ s.start.ckpt = none → ∃ u, exec (.startupStepDone ok [] corrected bad) s = .next (settle u) ∧
          KindFound s u 0 ∧ getB u Pg.rst F.RST_CAUSE_POWER_UP = true) ∧
        (getB s Pg.pwr F.PWR_STAT_GATE_CYCLED = true → getF s Pg.chs F.CHS_STAT_CKPT = 1 → s.start.ckpt ≠ none → ∃ u, exec (.startupStepDone ok [] corrected bad) s = .next (settle u) ∧
          KindFound s u 3 ∧ getB u Pg.rst F.RST_CAUSE_POWER_UP = true) ∧
        (getB s Pg.pwr F.PWR_STAT_GATE_CYCLED = false → ∃ u, exec (.startupStepDone ok [] corrected bad) s = .next (settle u) ∧ KindFound s u 1) ∧
        (∀ r, s.start.commits.getLast? = some r → r.trial = true → r.started = true → ∃ u, exec (.startupStepDone ok [] corrected bad) s = .next (settle u) ∧ FallsBack s u 3)) ∧
      (∀ (ok : Bool) (corrected : Nat) (bad : List Nat), getF s Pg.rst F.RST_STAT_STEP = 7 →
        (∀ ws, drawerCheck (cleared s) (activeSet s) (getF s Pg.rst F.RST_STAT_PROF) false = .ok ws → ∃ u, exec (.startupStepDone ok [] corrected bad) s = .next (settle u) ∧
          getF u Pg.rst F.RST_STAT_STEP = 8 ∧ getF u Pg.drw F.DRW_STAT_CURRENT = getF s Pg.rst F.RST_STAT_PROF ∧ getB u Pg.drw F.DRW_STAT_SAFE = false ∧
            getB u Pg.pwr F.PWR_STAT_BOOT = false) ∧
        (∀ e, drawerCheck (cleared s) (activeSet s) (getF s Pg.rst F.RST_STAT_PROF) false = .error e → ∃ u, exec (.startupStepDone ok [] corrected bad) s = .next (settle u) ∧
          getB u Pg.rst F.RST_STAT_SAFE = true ∧ getB u Pg.drw F.DRW_STAT_SAFE = true ∧ getF u Pg.drw F.DRW_REFUSE_WHY = e.1 % 16 ∧
            getF u Pg.drw F.DRW_REFUSALS = (getF s Pg.drw F.DRW_REFUSALS + 1) % 2 ^ 32 ∧ ∀ p ∈ allPages, p ≠ Pg.drw → getB u p F.LOCK_LOCKED = true)) ∧
      (∀ (ok : Bool) (errs : List ChestErr) (corrected : Nat) (bad : List Nat), getF s Pg.rst F.RST_STAT_STEP = 8 →
        (s.start.commits = [] → ∃ u, exec (.startupStepDone ok errs corrected bad) s = .next (settle u) ∧ StopsAt u 8 ∧ OnlyPages [Pg.rst] s u) ∧
        (∀ r, s.start.commits.getLast? = some r → ∃ u, exec (.startupStepDone ok errs corrected bad) s = .next (settle u) ∧
          if slotVerify s r.slot = true then
            getF u Pg.rst F.RST_STAT_STEP = 9 ∧ getF u Pg.jrn F.JRN_STAT_STATE = 1 ∧
              (if r.trial = true then getF u Pg.fwu F.FWU_STAT_STATE = 5 ∧ u.fwu.trialAt = s.start.usAt ∧ (getW u Pg.fwu 0x10).getLsbD 4 = true else u.fwu = s.fwu)
          else if r.trial = true ∨ (r.prev ≠ r.slot ∧ slotVerify s r.prev = true) then FallsBack s u 4
          else StopsAt u 8)) ∧
      (∀ (errs : List ChestErr) (corrected : Nat), getF s Pg.rst F.RST_STAT_STEP = 9 →
        (getF s Pg.rst F.RST_STAT_KIND = 0 → ∃ u, exec (.startupStepDone true errs corrected []) s = .next (settle u) ∧
          getF u Pg.rst F.RST_STAT_STEP = 10 ∧ getF u Pg.jrn F.JRN_STAT_STATE = 2 ∧ u.jmem = [] ∧ u.seq = (coldFlows s).seq ∧ u.start = { s.start with journal := none }) ∧
        (∀ img, getF s Pg.rst F.RST_STAT_KIND = 1 → s.start.journal = some img → ∃ u, exec (.startupStepDone true errs corrected []) s = .next (settle u) ∧
          getF u Pg.rst F.RST_STAT_STEP = 10 ∧ getF u Pg.jrn F.JRN_STAT_STATE = 2 ∧ u.jmem = s.jmem ∧ u.start.journal = none ∧
            u.seq.flows = img.flows.map fun e => (e.1, flowRecall (flowRetries s e.1) e.2)) ∧
        (∀ img, getF s Pg.rst F.RST_STAT_KIND = 3 → s.start.ckpt = some img → ∃ u, exec (.startupStepDone true errs corrected []) s = .next (settle u) ∧
          getF u Pg.rst F.RST_STAT_STEP = 10 ∧ getF u Pg.jrn F.JRN_STAT_STATE = 2 ∧ u.jmem = [] ∧
            u.seq.flows = img.flows.map fun e => (e.1, flowRecall (flowRetries s e.1) e.2)))) ∧
    (alive s = true → getF s Pg.rst F.RST_STAT_STEP = 13 → s.start.service = false → getB s Pg.rst F.RST_STAT_STOPPED = false →
      (pwrPfw s = true → ∃ u, exec .serviceStart s = .next (settle u) ∧
        getB u Pg.rst F.RST_STAT_PFW_HOLD = true ∧ u.start.service = false ∧ OnlyRegs [fKey Pg.rst F.RST_STAT_PFW_HOLD] s u) ∧
      (pwrPfw s = false → getF s Pg.rst F.RST_STAT_KIND ≠ 2 → ∃ u, exec .serviceStart s = .next (settle u) ∧
        u.start.service = true ∧ u.seq.running = true ∧ getB u Pg.rst F.RST_STAT_PFW_HOLD = false ∧ (getW u Pg.rst 0x10).getLsbD 3 = true ∧
          getF u Pg.rst F.RST_SERVICE_US_US = (s.watchNs - s.start.usAt) / 1000 % 2 ^ 32 ∧ u.test.offFail = [] ∧
          getF u Pg.chs F.CHS_STAT_CKPT = (if getF s Pg.chs F.CHS_STAT_CKPT = 1 then 2 else getF s Pg.chs F.CHS_STAT_CKPT) ∧
          (getF s Pg.rst F.RST_STAT_KIND = 0 → u.start.slots = [])) ∧
      (pwrPfw s = false → getF s Pg.rst F.RST_STAT_KIND = 2 → ∃ u, exec .serviceStart s = .next (settle u) ∧
        u.start.service = true ∧ u.seq.running = true ∧ getB u Pg.rst F.RST_STAT_PFW_HOLD = false ∧ getF u Pg.jrn F.JRN_STAT_STATE = 2 ∧
          getF u Pg.chs F.CHS_STAT_CKPT = (if getF s Pg.chs F.CHS_STAT_CKPT = 1 then 2 else getF s Pg.chs F.CHS_STAT_CKPT)))

/-- WARM_RESET, DRAWER_SWITCH, DRAWER_LOAD_DONE, DRAWER_COMMIT, QUIESCE_TIMEOUT, DRAWER_SAVE and DRAWER_SAVE_DONE (R407, R417 to R421): a warm reset
stops the fabric and keeps the dies' configuration; a switch loads, checks and brings idle what it changes, and either commits at one point or is
refused or abandoned whole; SAVE writes a drawer with the next generation. -/
def Obligations.DrawersSwitch : Prop :=
  ∀ (s : State),
    (∀ who v, writeTaken s who Pg.gen 0xE0 v = true → wordBits v 0 16 = 0xA5C3 → ∃ u, exec (.warmReset who v) s = .next (settle u) ∧
      getF u Pg.rst F.RST_STAT_KIND = 2 ∧ getB u Pg.rst F.RST_CAUSE_WARM = true ∧ u.seq.running = false ∧ u.start.service = false ∧ u.time.tsq = [] ∧
        getF u Pg.jrn F.JRN_STAT_STATE = 3) ∧
    (∀ who v, writeTaken s who Pg.drw 0x44 v = true →
      (v.getLsbD 2 = true → getF s Pg.drw F.DRW_STAT_PHASE = 0 → getF s Pg.fwu F.FWU_STAT_STATE ≠ 4 → ∃ u, exec (.drawerSwitch who v) s = .next (settle u) ∧
        getF u Pg.drw F.DRW_STAT_PHASE = 1 ∧ OnlyRegs [fKey Pg.drw F.DRW_STAT_PHASE] s { u with start := s.start } ∧
          u.start = { s.start with job := some { drawer := wordBits v 0 2, set := activeSet s, fwu := 0, flows := [], benches := [] } }) ∧
      (v.getLsbD 2 = true → getF s Pg.drw F.DRW_STAT_PHASE ≠ 0 ∨ getF s Pg.fwu F.FWU_STAT_STATE = 4 → ∃ u, exec (.drawerSwitch who v) s = .next (settle u) ∧
        u.start = s.start ∧ OnlyRegs (errKeys Pg.drw) s u ∧ (getW u Pg.drw 0x10).getLsbD 1 = true) ∧
      (v.getLsbD 2 = false → v.getLsbD 3 = true → getF s Pg.drw F.DRW_STAT_PHASE = 0 → getF s Pg.fwu F.FWU_STAT_STATE ≠ 4 → ∃ u, exec (.drawerSave who v) s = .next (settle u) ∧
        getF u Pg.drw F.DRW_STAT_PHASE = 4 ∧ u.start = { s.start with saveTo := wordBits v 0 2 } ∧
          OnlyRegs [fKey Pg.drw F.DRW_STAT_PHASE] s { u with start := s.start }) ∧
      (v.getLsbD 2 = false → v.getLsbD 3 = true → getF s Pg.drw F.DRW_STAT_PHASE ≠ 0 ∨ getF s Pg.fwu F.FWU_STAT_STATE = 4 → ∃ u, exec (.drawerSave who v) s = .next (settle u) ∧
        u.start = s.start ∧ OnlyRegs (errKeys Pg.drw) s u ∧ (getW u Pg.drw 0x10).getLsbD 1 = true)) ∧
    (∀ j, alive s = true → s.start.job = some j → j.fwu = 0 →
      (∀ e, getF s Pg.drw F.DRW_STAT_PHASE = 1 → drawerCheck (cleared s) j.set j.drawer false = .error e → ∃ u, exec (.drawerLoadDone none) s = .next (settle u) ∧
        u.start = { s.start with job := none } ∧ getF u Pg.drw F.DRW_STAT_PHASE = 0 ∧ getF u Pg.drw F.DRW_STAT_LAST_RESULT = 2 ∧
          getF u Pg.drw F.DRW_REFUSALS = (getF s Pg.drw F.DRW_REFUSALS + 1) % 2 ^ 32 ∧ OnlyPages [Pg.drw] s u) ∧
      (∀ ws, getF s Pg.drw F.DRW_STAT_PHASE = 1 → drawerCheck (cleared s) j.set j.drawer false = .ok ws → getB s Pg.par F.PAR_CTL_EN = false →
        ∃ u, exec (.drawerLoadDone none) s = .next (settle u) ∧
          getF u Pg.drw F.DRW_STAT_PHASE = 2 ∧ u.start = { s.start with job := some { j with
            flows := (switchChanges (cleared s) ws).filterMap fun x => flwOf x.1 x.2.1, benches := switchBenches (switchChanges (cleared s) ws) ws (cleared s) } }) ∧
      (∀ ws, getF s Pg.drw F.DRW_STAT_PHASE = 2 → switchIdle s j = true → culUp s = true → drawerCheck (cleared s) j.set j.drawer false = .ok ws →
        switchSent (cleared s) j (switchChanges (cleared s) ws) = true → ∃ u, exec .drawerCommit s = .next (settle u) ∧
        u.start.job = none ∧ getF u Pg.drw F.DRW_STAT_PHASE = 0 ∧ getF u Pg.drw F.DRW_STAT_LAST_RESULT = 1 ∧ getF u Pg.drw F.DRW_STAT_CURRENT = j.drawer % 4 ∧
          getF u Pg.drw F.DRW_SWITCHES = (getF s Pg.drw F.DRW_SWITCHES + 1) % 2 ^ 32 ∧ (getW u Pg.drw 0x10).getLsbD 2 = true) ∧
      (∀ ws, getF s Pg.drw F.DRW_STAT_PHASE = 2 → switchIdle s j = true → culUp s = true → drawerCheck (cleared s) j.set j.drawer false = .ok ws → j.sent = none →
        switchSent (cleared s) j (switchChanges (cleared s) ws) = false → ∃ u, exec .drawerCommit s = .next (settle u) ∧
        getF u Pg.drw F.DRW_STAT_PHASE = 2 ∧ ∃ n, u.start = { s.start with job := some { j with sent := some (n, switchMirrored (cleared s) (switchChanges (cleared s) ws)) } } ∧ (u.pair.mirOut.getLast?).map (·.msn) = some n ∧
          u.pair.mirOut.map (·.kind) = s.pair.mirOut.map (·.kind) ++ (switchMirrored (cleared s) (switchChanges (cleared s) ws)).map fun _ => 6) ∧
      (getF s Pg.drw F.DRW_STAT_PHASE = 2 → j.sent = none → ∃ u, exec .quiesceTimeout s = .next (settle u) ∧
        u.start = { s.start with job := none } ∧ getF u Pg.drw F.DRW_STAT_PHASE = 0 ∧ getF u Pg.drw F.DRW_STAT_LAST_RESULT = 3 ∧
          getF u Pg.drw F.DRW_REFUSALS = (getF s Pg.drw F.DRW_REFUSALS + 1) % 2 ^ 32 ∧ u.seq = s.seq)) ∧
    (alive s = true → getF s Pg.drw F.DRW_STAT_PHASE = 4 → ∃ u, exec .drawerSaveDone s = .next (settle u) ∧
      getF u Pg.drw F.DRW_STAT_PHASE = 0 ∧ OnlyRegs [fKey Pg.drw F.DRW_STAT_PHASE] s { u with start := s.start } ∧ ∃ bs, u.start = { s.start with
        drawers := memWrite s.start.drawers (drawerBase (activeSet s) s.start.saveTo) bs } ∧ bs.take 4 = leBytes 4 drawerMagic ∧
        (bs.drop 12).take 4 = leBytes 4 ((if drawerPresent s (activeSet s) s.start.saveTo then leNat (drawerBytes s (activeSet s) s.start.saveTo 12 4) else 0) + 1))

/-- FWU_STAGE, FWU_PUSH, FWU_PUSH_END, FWU_STAGING_DONE and FWU_ABORT (R430 to R432): a staging that nothing refuses empties the inactive slot and takes
blocks from the journal or by push; a payload that passes every check is staged in that slot; any check that fails shows its cause and ends the
staging, as ABORT does; a command refused in this state changes nothing but what shows it. -/
def Obligations.FirmwareStages : Prop :=
  ∀ (s : State) (who : Agent),
    (∀ (push : Bool) v, v = (if push then 9#32 else 1#32) → writeTaken s who Pg.fwu 0x44 v = true →
      (stageRefusal s push = none → ∃ u, exec (.fwuStage who v) s = .next (settle u) ∧
        getF u Pg.fwu F.FWU_STAT_STATE = 1 ∧ getF u Pg.fwu F.FWU_STAT_PROGRESS = 0 ∧ getB u Pg.fwu F.FWU_STAT_CODE_SAME = false ∧ OnlyPages [Pg.fwu] s u ∧
          u.fwu = { s.fwu with slots := s.fwu.slots.set (inactiveSlot s) ⟨[], false, false⟩, job := if push then 2 else 1, push := [] }) ∧
      (∀ c, stageRefusal s push = some c → ∃ u, exec (.fwuStage who v) s = .next (settle u) ∧
        u.fwu = s.fwu ∧ getF u Pg.fwu F.FWU_STAT_LAST = 5 ∧ getF u Pg.fwu F.FWU_REFUSE_CAUSE = c % 256 ∧ (getW u Pg.fwu 0x10).getLsbD 3 = true ∧
          getF u Pg.fwu F.FWU_STAT_STATE = getF s Pg.fwu F.FWU_STAT_STATE ∧ OnlyPages [Pg.fwu] s u)) ∧
    (∀ v, writeTaken s who Pg.fwu 0x80 v = true →
      (s.fwu.job = 2 → getF s Pg.fwu F.FWU_STAT_STATE = 1 → ∃ u, exec (.fwuPush who 0x80 (leBytes 4 v.toNat)) s = .next (settle u) ∧
        u.fwu = { s.fwu with push := s.fwu.push ++ leBytes 4 v.toNat } ∧ u.regs = s.regs) ∧
      (s.fwu.job ≠ 2 ∨ getF s Pg.fwu F.FWU_STAT_STATE ≠ 1 → ∃ u, exec (.fwuPush who 0x80 (leBytes 4 v.toNat)) s = .next (settle u) ∧ u.fwu = s.fwu ∧ u.regs = s.regs)) ∧
    (∀ v, writeTaken s who Pg.fwu 0x88 v = true → v.getLsbD 0 = true →
      (s.fwu.job = 2 → getF s Pg.fwu F.FWU_STAT_STATE = 1 → ∃ u, exec (.fwuPushEnd who v) s = .next (settle u) ∧
        getF u Pg.fwu F.FWU_STAT_STATE = 2 ∧ u.fwu = s.fwu ∧ OnlyRegs [fKey Pg.fwu F.FWU_STAT_STATE] s u) ∧
      (s.fwu.job ≠ 2 ∨ getF s Pg.fwu F.FWU_STAT_STATE ≠ 1 → ∃ u, exec (.fwuPushEnd who v) s = .next (settle u) ∧ u.fwu = s.fwu ∧ u.regs = s.regs)) ∧
    (alive s = true → s.fwu.job = 1 ∨ (s.fwu.job = 2 ∧ getF s Pg.fwu F.FWU_STAT_STATE = 2) →
      (∀ readBack, ∃ u, exec (.fwuStagingDone true readBack) s = .next (settle u) ∧ StagingFails s u 0x4A 0) ∧
      (∀ (readBack : Option Nat) i, (blocksOf ((stageSource s).length / 4096) (stageSource s)).findIdx? (fun b => !blockOk b) = some i →
        ∃ u, exec (.fwuStagingDone false readBack) s = .next (settle u) ∧ StagingFails s u 0x46 i) ∧
      ((∀ x ∈ blocksOf ((stageSource s).length / 4096) (stageSource s), blockOk x = true) →
        (∀ i, ∃ u, exec (.fwuStagingDone false (some i)) s = .next (settle u) ∧ StagingFails s u 0x46 i) ∧
        ((stageSource s).length % 4096 ≠ 0 → ∃ u, exec (.fwuStagingDone false none) s = .next (settle u) ∧ StagingFails s u 0x45 0) ∧
        (∀ b, (stageSource s).length % 4096 = 0 → b = (blocksOf ((stageSource s).length / 4096) (stageSource s)).flatMap (fun x => x.take 4092) →
          ∃ u, exec (.fwuStagingDone false none) s = .next (settle u) ∧
            match manRefusal s b with
            | some c => StagingFails s u (c % 256) 0
            | none => getF u Pg.fwu F.FWU_STAT_STATE = 3 ∧ u.fwu = { s.fwu with slots := s.fwu.slots.set (inactiveSlot s) ⟨b, true, true⟩, job := 0, push := [] } ∧
                getF u Pg.fwu F.FWU_STAGED_VER_VER = manVer b % 2 ^ 32 ∧ getF u Pg.fwu F.FWU_STAT_PROGRESS = 100 ∧
                getF u Pg.fwu F.FWU_STAGES = (getF s Pg.fwu F.FWU_STAGES + 1) % 2 ^ 32 ∧ (getW u Pg.fwu 0x10).getLsbD 2 = true ∧ OnlyPages [Pg.fwu] s u))) ∧
    (writeTaken s who Pg.fwu 0x44 4#32 = true →
      (s.fwu.job = 1 ∨ s.fwu.job = 2 → ∃ u, exec (.fwuAbort who 4#32) s = .next (settle u) ∧
        getF u Pg.fwu F.FWU_STAT_STATE = 0 ∧ getF u Pg.fwu F.FWU_STAT_LAST = 6 ∧ u.fwu = { s.fwu with job := 0, push := [] } ∧
          OnlyRegs [fKey Pg.fwu F.FWU_STAT_STATE] s { u with fwu := s.fwu }) ∧
      (∀ j, s.fwu.job = 3 → s.start.job = some j → j.fwu = 1 → ∃ u, exec (.fwuAbort who 4#32) s = .next (settle u) ∧
        getF u Pg.fwu F.FWU_STAT_STATE = 3 ∧ getF u Pg.fwu F.FWU_STAT_LAST = 6 ∧ u.fwu = { s.fwu with job := 0 } ∧ u.start = { s.start with job := none } ∧
          getF u Pg.drw F.DRW_STAT_PHASE = 0 ∧ getF u Pg.drw F.DRW_STAT_LAST_RESULT = 3) ∧
      (s.fwu.job = 0 → ∃ u, exec (.fwuAbort who 4#32) s = .next (settle u) ∧ OnlyRegs [] s u))

/-- FWU_ACTIVATE, FWU_APPROVE, FWU_CONFIRM, CONFIRM_TIMEOUT and FALLBACK_RETRY (R434 to R437): an activation with the same code goes through a drawer
switch, any other restarts the hub under a trial commit; a trial is confirmed by the right key once the host has approved it where it must, or the
hub falls back to the image before it, which a switch in hand holds up. -/
def Obligations.FirmwareTrials : Prop :=
  ∀ (s : State),
    (∀ who, writeTaken s who Pg.fwu 0x44 2#32 = true →
      (∀ c, activateRefusal s = some c → ∃ u, exec (.fwuActivate who 2#32) s = .next (settle u) ∧
        getF u Pg.fwu F.FWU_STAT_LAST = 5 ∧ getF u Pg.fwu F.FWU_REFUSE_CAUSE = c % 256 ∧ u.fwu = s.fwu ∧ u.start = s.start ∧ OnlyPages [Pg.fwu] s u) ∧
      (activateRefusal s = none → getB s Pg.fwu F.FWU_STAT_CODE_SAME = true → getF s Pg.drw F.DRW_STAT_PHASE = 0 → ∃ u, exec (.fwuActivate who 2#32) s = .next (settle u) ∧
        getF u Pg.fwu F.FWU_STAT_STATE = 4 ∧ u.fwu = { s.fwu with job := 3 } ∧ SwitchStarts s u (inactiveSlot s) 1) ∧
      (activateRefusal s = none → getB s Pg.fwu F.FWU_STAT_CODE_SAME = true → getF s Pg.drw F.DRW_STAT_PHASE ≠ 0 → ∃ u, exec (.fwuActivate who 2#32) s = .next (settle u) ∧
        getF u Pg.fwu F.FWU_STAT_LAST = 6 ∧ getF u Pg.fwu F.FWU_REFUSE_CAUSE = 0x41 ∧ u.fwu = s.fwu ∧ u.start.job = s.start.job) ∧
      (activateRefusal s = none → getB s Pg.fwu F.FWU_STAT_CODE_SAME = false → s.pwr.run = true → ∃ u, exec (.fwuActivate who 2#32) s = .next (settle u) ∧
        getF u Pg.rst F.RST_STAT_STEP = 4 ∧ u.start.service = false ∧ u.seq = State.reset.seq ∧ ∃ c, u.start.commits.getLast? = some c ∧ c.trial = true ∧ c.started = false ∧
          c.slot = inactiveSlot s ∧ c.prev = activeSet s)) ∧
    (∀ v, writeTaken s .host Pg.fwu 0x74 v = true → v.getLsbD 0 = true →
      (getF s Pg.fwu F.FWU_STAT_STATE = 5 → ∃ u, exec (.fwuApprove .host v) s = .next (settle u) ∧ u.fwu = { s.fwu with approved := true } ∧ u.regs = s.regs) ∧
      (getF s Pg.fwu F.FWU_STAT_STATE ≠ 5 → ∃ u, exec (.fwuApprove .host v) s = .next (settle u) ∧ u.fwu = s.fwu ∧ u.regs = s.regs)) ∧
    (∀ v, writeTaken s .core Pg.fwu 0x70 v = true →
      (wordBits v 0 16 = 0xC0F1 → getF s Pg.fwu F.FWU_STAT_STATE = 5 → fallingBack s = false → getB s Pg.fwu F.FWU_CTL_HOST_GATE = false ∨ s.fwu.approved = true →
        ∃ u, exec (.fwuConfirm .core v) s = .next (settle u) ∧
          getF u Pg.fwu F.FWU_STAT_STATE = 0 ∧ getF u Pg.fwu F.FWU_STAT_LAST = 1 ∧ (getW u Pg.fwu 0x10).getLsbD 6 = true ∧ OnlyPages [Pg.fwu] s u ∧
            ∃ c, u.start.commits.getLast? = some c ∧ c.trial = false ∧ c.slot = (commitNow s).slot ∧ c.secCnt = max (commitNow s).secCnt (commitNow s).slotSec) ∧
      (wordBits v 0 16 ≠ 0xC0F1 ∨ getF s Pg.fwu F.FWU_STAT_STATE ≠ 5 ∨ (getB s Pg.fwu F.FWU_CTL_HOST_GATE = true ∧ s.fwu.approved = false) →
        ∃ u, exec (.fwuConfirm .core v) s = .next (settle u) ∧ u.fwu = s.fwu ∧ u.start = s.start ∧ u.regs = s.regs)) ∧
    (alive s = true → getF s Pg.fwu F.FWU_STAT_STATE = 5 → fallingBack s = false →
      (s.fwu.hitless = true → getF s Pg.drw F.DRW_STAT_PHASE = 0 → ∃ u, exec .confirmTimeout s = .next (settle u) ∧ SwitchStarts s u (commitNow s).prev 2) ∧
      (s.fwu.hitless = true → getF s Pg.drw F.DRW_STAT_PHASE ≠ 0 → ∃ u, exec .confirmTimeout s = .next (settle u) ∧
        u.fwu = { s.fwu with soakBad := true } ∧ u.start = s.start ∧ u.regs = s.regs) ∧
      (s.fwu.hitless = false → s.pwr.run = true → ∃ u, exec .confirmTimeout s = .next (settle u) ∧
        getF u Pg.rst F.RST_STAT_STEP = 4 ∧ u.start.service = false ∧ getF u Pg.fwu F.FWU_FALLBACKS = 1 ∧ (getW u Pg.fwu 0x10).getLsbD 5 = true ∧
          ∃ c, u.start.commits.getLast? = some c ∧ c.trial = false ∧ c.slot = (commitNow s).prev)) ∧
    (alive s = true → s.fwu.soakBad = true →
      (getF s Pg.drw F.DRW_STAT_PHASE = 0 → ∃ u, exec .fallbackRetry s = .next (settle u) ∧ u.fwu = { s.fwu with soakBad := false } ∧ SwitchStarts s u (commitNow s).prev 2) ∧
      (getF s Pg.drw F.DRW_STAT_PHASE ≠ 0 → ∃ u, exec .fallbackRetry s = .next (settle u) ∧ u.fwu = s.fwu ∧ u.start = s.start ∧ u.regs = s.regs))

/-- UNLOCK_PAGE, SET_OWNER_LOCK, CLEAR_OWNER_LOCK and ENROLL (R439): a command whose signature verifies has its effect and RESULT 1; any other has none
but RESULT 2 and its count; either way the nonce is replaced by a fresh value. -/
def Obligations.OwnerCommands : Prop :=
  ∀ (s : State) (who : Agent) (sig : List Byte),
    (∀ arg, writeTaken (ownerFill s 1 arg sig []) who Pg.fwu 0xCC 1#32 = true →
      (ownerOk (ownerFill s 1 arg sig []) = true → pageAssigned arg = true → ∃ u, exec (.unlockPage who arg sig) s = .next (settle u) ∧
        OwnerResult s u 1 ∧ getB u arg F.LOCK_LOCKED = false ∧ OnlyPages [arg, Pg.fwu] s u) ∧
      (ownerOk (ownerFill s 1 arg sig []) = false → ∃ u, exec (.unlockPage who arg sig) s = .next (settle u) ∧ OwnerRefused s u)) ∧
    (writeTaken (ownerFill s 2 0 sig []) who Pg.fwu 0xCC 1#32 = true →
      (ownerOk (ownerFill s 2 0 sig []) = true → ∃ u, exec (.setOwnerLock who sig) s = .next (settle u) ∧
        OwnerResult s u 1 ∧ getB u Pg.fwu F.FWU_STAT_OWNER_LOCK = true ∧ OnlyPages [Pg.fwu] s u ∧ ∃ k, u.start.commits.getLast? = some k ∧ k.ownerLock = true) ∧
      (ownerOk (ownerFill s 2 0 sig []) = false → ∃ u, exec (.setOwnerLock who sig) s = .next (settle u) ∧ OwnerRefused s u)) ∧
    (writeTaken (ownerFill s 3 0 sig []) who Pg.fwu 0xCC 1#32 = true →
      (ownerOk (ownerFill s 3 0 sig []) = true → ∃ u, exec (.clearOwnerLock who sig) s = .next (settle u) ∧
        OwnerResult s u 1 ∧ getB u Pg.fwu F.FWU_STAT_OWNER_LOCK = false ∧ OnlyPages [Pg.fwu] s u ∧ ∃ k, u.start.commits.getLast? = some k ∧ k.ownerLock = false) ∧
      (ownerOk (ownerFill s 3 0 sig []) = false → ∃ u, exec (.clearOwnerLock who sig) s = .next (settle u) ∧ OwnerRefused s u)) ∧
    (∀ key, writeTaken (ownerFill s 4 0 sig key) who Pg.fwu 0xCC 1#32 = true →
      (ownerOk (ownerFill s 4 0 sig key) = true → key.length = 32 → ∃ u, exec (.enroll who sig key) s = .next (settle u) ∧
        OwnerResult s u 1 ∧ u.test = { s.test with ownerKey := some key, ownerBad := false } ∧ getB u Pg.fwu F.FWU_STAT_OWNER_KEY = true ∧ OnlyPages [Pg.fwu] s u) ∧
      (ownerOk (ownerFill s 4 0 sig key) = false → ∃ u, exec (.enroll who sig key) s = .next (settle u) ∧ OwnerRefused s u))

/-- SELFTEST_RUN, SELFTEST_PASS_DONE, OFFLINE_TEST, OFFLINE_TEST_DONE and FAULT_LOG_POP (R442 to R450): a pass shows the outcome of each selected test
when it ends, and cells that failed retire; the offline test stops the hub and ends with a restart from step 4 that keeps its results; a read of the
fault log takes its oldest record. TEST_UNLOCK_SET, TEST_UNLOCK_CLEAR, TEST_UNLOCK_EXPIRE, PERTURB_WRITE, TEST_PIN_CHANGE, SCAN_GO and ZEROISE_DONE
(R451 to R458): PERTURB takes a value only under test unlock, whose end clears every PERTURB; scan entry needs the pin and a signed answer to a
challenge that is never used twice, and no secret outlives it; a fall of the pin in the meantime halts the hub. -/
def Obligations.SelfTestsAndTestAccess : Prop :=
  (∀ (s : State),
    (∀ who, writeTaken s who Pg.bst 0x44 1#32 = true →
      (s.test.pass = none → ∃ u, exec (.selftestRun (some who)) s = .next (settle u) ∧
        u.test = { s.test with pass := some false, passAt := s.watchNs } ∧ getB u Pg.bst F.BST_STAT_BUSY = true ∧ OnlyRegs [fKey Pg.bst F.BST_STAT_BUSY] s { u with test := s.test }) ∧
      (s.test.pass ≠ none → ∃ u, exec (.selftestRun (some who)) s = .next (settle u) ∧ u.test = s.test ∧ u.regs = s.regs)) ∧
    (alive s = true → getF s Pg.bst F.BST_CTL_PERIOD_MIN ≠ 0 → s.test.pass = none → ∃ u, exec (.selftestRun none) s = .next (settle u) ∧
      u.test = { s.test with pass := some false, passAt := s.watchNs } ∧ getB u Pg.bst F.BST_STAT_BUSY = true ∧ OnlyRegs [fKey Pg.bst F.BST_STAT_BUSY] s { u with test := s.test }) ∧
    (∀ outs x, alive s = true → s.test.pass = some x → ∃ u, exec (.selftestPassDone outs []) s = .next (settle u) ∧
      u.test.pass = none ∧ getB u Pg.bst F.BST_STAT_BUSY = false ∧ getF u Pg.bst F.BST_PASSES = (getF s Pg.bst F.BST_PASSES + 1) % 2 ^ 32 ∧ (getW u Pg.bst 0x10).getLsbD 2 = true ∧
        (∀ t, t < 8 → getF u Pg.bst F.BST_RESULT_TEST / 4 ^ t % 4 = if (getF s Pg.bst F.BST_CTL_EN).testBit t then testResult s outs t else 0) ∧
        getF u Pg.bst F.BST_STAT_LAST = (if (List.range 8).any fun t => (getF s Pg.bst F.BST_CTL_EN).testBit t && testResult s outs t == 2 then 2 else 1)) ∧
    (∀ outs x c, alive s = true → s.test.pass = some x → (getF s Pg.bst F.BST_CTL_EN).testBit 0 = true → testMayRun s 0 0 = true → (cellsHeld s).contains c = false →
      ∃ u, exec (.selftestPassDone outs [c]) s = .next (settle u) ∧ u.sw = { s.sw with retired := s.sw.retired ++ [c] } ∧ u.test.pass = none) ∧
    (∀ who v, writeTaken s who Pg.bst 0x48 v = true →
      (wordBits v 0 16 = 0x5E1F → offlineBad s = false → ∃ u, exec (.offlineTest who v) s = .next (settle u) ∧
        u.test.offline = true ∧ u.seq.running = false ∧ alive u = false ∧ u.cul.permitLive = false ∧ getF u Pg.jrn F.JRN_STAT_STATE = 3) ∧
      (wordBits v 0 16 = 0x5E1F → offlineBad s = true → ∃ u, exec (.offlineTest who v) s = .next (settle u) ∧ u.test = s.test ∧ u.seq = s.seq ∧ OnlyRegs (errKeys Pg.bst) s u) ∧
      (wordBits v 0 16 ≠ 0x5E1F → ∃ u, exec (.offlineTest who v) s = .next (settle u) ∧ u.test = s.test ∧ u.seq = s.seq ∧ OnlyRegs (errKeys Pg.bst) s u ∧ (getW u Pg.bst 0x10).getLsbD 1 = true)) ∧
    (∀ ringFail fieldFail a b, s.test.offline = true → s.start.inReset = false → s.pwr.run = true → getB s Pg.pwr F.PWR_STAT_GATE_CYCLED = false →
      ∃ u, exec (.offlineTestDone ringFail fieldFail a b) s = .next (settle u) ∧
        u.test.offline = false ∧ getF u Pg.rst F.RST_STAT_STEP = 4 ∧ getF u Pg.bst F.BST_OFF_RESULT_RING = (if ringFail then 2 else 1) ∧
          getF u Pg.bst F.BST_OFF_RESULT_FIELD = (if fieldFail then 2 else 1) ∧ u.test.offFail = (if ringFail then [0] else []) ++ (if fieldFail then [1] else []) ∧
          getW u Pg.bst 0x5C = a ∧ getW u Pg.bst 0x60 = b ∧ u.seq = State.reset.seq) ∧
    (∀ who, accReaches s who Pg.bst 0x70 = true →
      (∀ r rest, s.test.flog = r :: rest → ∃ u, exec (.faultLogPop who) s = .next (settle u) ∧
        u.test = { s.test with flog := rest } ∧ getW u Pg.bst 0x74 = BitVec.ofNat 32 r.stamp ∧ getW u Pg.bst 0x78 = BitVec.ofNat 32 r.sec ∧
          getW u Pg.bst 0x7C = BitVec.ofNat 32 r.detail ∧ Answers s u who Pg.bst 0x70 (flogPop s).1) ∧
      (s.test.flog = [] → ∃ u, exec (.faultLogPop who) s = .next (settle u) ∧ u.test = s.test ∧ getW u Pg.bst 0x74 = 0#32 ∧ Answers s u who Pg.bst 0x70 0#32))) ∧
  (∀ (s : State) (who : Agent),
    (writeTaken s who Pg.prt 0x44 0x7E57#32 = true → testUnlocked s = false →
      (getB s Pg.prt F.PRT_CTL_ALLOW = true → ∃ u, exec (.testUnlockSet who) s = .next (settle u) ∧
        testUnlocked u = true ∧ u.test = { s.test with unlockAt := s.watchNs } ∧ (getW u Pg.prt 0x10).getLsbD 2 = true ∧
          OnlyRegs (fKey Pg.prt F.PRT_STAT_TEST_UNLOCK :: irqKeys Pg.prt) s { u with test := s.test }) ∧
      (getB s Pg.prt F.PRT_CTL_ALLOW = false → ∃ u, exec (.testUnlockSet who) s = .next (settle u) ∧
        testUnlocked u = false ∧ (getW u Pg.prt 0x10).getLsbD 1 = true ∧ OnlyRegs (errKeys Pg.prt) s u)) ∧
    (writeTaken s who Pg.prt 0x44 0#32 = true → testUnlocked s = true → ∃ u, exec (.testUnlockClear who) s = .next (settle u) ∧
      testUnlocked u = false ∧ (getW u Pg.prt 0x10).getLsbD 2 = true ∧ (∀ p, tabGet u.regs (regKey p 0x24) = none) ∧
        ∀ k, k % 1024 ≠ 9 → k ∉ fKey Pg.prt F.PRT_STAT_TEST_UNLOCK :: irqKeys Pg.prt → tabGet u.regs k = tabGet s.regs k) ∧
    (alive s = true → testUnlocked s = true → ∃ u, exec .testUnlockExpire s = .next (settle u) ∧
      testUnlocked u = false ∧ (getW u Pg.prt 0x10).getLsbD 2 = true ∧ (∀ p, tabGet u.regs (regKey p 0x24) = none) ∧
        ∀ k, k % 1024 ≠ 9 → k ∉ fKey Pg.prt F.PRT_STAT_TEST_UNLOCK :: irqKeys Pg.prt → tabGet u.regs k = tabGet s.regs k) ∧
    (∀ p v, writeReaches s who p 0x24 = true →
      (testUnlocked s = true → v &&& ~~~(BitVec.ofNat 32 (perturbMask p)) = 0#32 → ∃ u, exec (.perturbWrite who p v) s = .next (settle u) ∧
        getW u p 0x24 = v ∧ OnlyRegs [regKey p 0x24] s { u with test := s.test }) ∧
      (testUnlocked s = false ∨ v &&& ~~~(BitVec.ofNat 32 (perturbMask p)) ≠ 0#32 → ∃ u, exec (.perturbWrite who p v) s = .next (settle u) ∧
        (getW u p 0x10).getLsbD 1 = true ∧ OnlyRegs (errKeys p) s u)) ∧
    (∀ level, s.start.inReset = false → getB s Pg.prt F.PRT_STAT_TEST_PIN ≠ level → ∃ u, exec (.testPinChange level) s = .next (settle u) ∧
      getB u Pg.prt F.PRT_STAT_TEST_PIN = level ∧ u.test = { s.test with chal := s.fresh, scanCut := s.test.scanCut || (scanState s == 1 && !level) } ∧ u.fresh = s.fresh + 2 ∧
        (getW u Pg.prt 0x10).getLsbD 3 = true ∧ OnlyRegs (fKey Pg.prt F.PRT_STAT_TEST_PIN :: irqKeys Pg.prt) s { u with test := s.test, fresh := s.fresh }) ∧
    (∀ v, writeTaken s who Pg.prt 0xC0 v = true → v.getLsbD 0 = true → s.test.goAt = none →
      (getB s Pg.prt F.PRT_STAT_TEST_PIN = true → getB s Pg.par F.PAR_CTL_EN = false → scanAuth s = true → ∃ u, exec (.scanGo who v) s = .next (settle u) ∧
        u.test.chal = s.fresh ∧ u.fresh = s.fresh + 2 ∧ scanState u = 1 ∧ alive u = false ∧ u.seq.running = false ∧ u.start.service = false ∧ u.cul.permitLive = false) ∧
      (getB s Pg.prt F.PRT_STAT_TEST_PIN = false ∨ scanAuth s = false → ∃ u, exec (.scanGo who v) s = .next (settle u) ∧
        u.test.chal = s.fresh ∧ u.fresh = s.fresh + 2 ∧ scanState u = scanState s ∧ u.test.goAt = some s.watchNs ∧
          getF u Pg.prt F.PRT_SCAN_REFUSED = (getF s Pg.prt F.PRT_SCAN_REFUSED + 1) % 2 ^ 32 ∧ u.seq = s.seq ∧ OnlyPages [Pg.prt] s u)) ∧
    (s.start.inReset = false → scanState s = 1 → ∃ u, exec .zeroiseDone s = .next (settle u) ∧
      scanState u = (if s.test.scanCut then 3 else 2) ∧ u.test = { s.test with devKey := 0, ownerKey := none, ownerBad := false, pairKeys := false } ∧
        getB u Pg.prt F.PRT_STAT_OTP_BLOCKED = true ∧ getB u Pg.fwu F.FWU_STAT_OWNER_KEY = false ∧ ∀ k, k < 16 → getW u Pg.prt (0x80 + 4 * k) = 0#32))
end

