-- ==== Sys2Proof/Laws/Tab.lean ====
section
/-! SUPPORT. Laws of the sparse tables and of memory: read after write, other keys, and the canonical form that every write keeps. -/

namespace Sys2Proof.Machine

variable {α : Type}

@[simp] theorem tabGet_tabSet_same (t : Tab α) (k : Nat) (v : α) : tabGet (tabSet t k v) k = some v := by
  induction t with
  | nil => simp [tabSet, tabGet]
  | cons e t ih =>
    obtain ⟨k', v'⟩ := e
    simp only [tabSet]
    split
    · simp [tabGet]
    · split
      · simp [tabGet]
      · simp [tabGet, *]

theorem tabGet_tabSet_ne (t : Tab α) {k j : Nat} (v : α) (h : j ≠ k) : tabGet (tabSet t k v) j = tabGet t j := by
  induction t with
  | nil => simp [tabSet, tabGet, h]
  | cons e t ih =>
    obtain ⟨k', v'⟩ := e
    simp only [tabSet]
    split
    · simp [tabGet, h]
    · split
      · rename_i h1 h2
        subst h2
        simp [tabGet, h]
      · simp [tabGet, ih]

theorem tabWfFrom_mono {t : Tab α} {a b : Nat} (h : a ≤ b) (w : tabWfFrom b t = true) : tabWfFrom a t = true := by
  cases t with
  | nil => rfl
  | cons e t =>
    simp only [tabWfFrom, Bool.and_eq_true, decide_eq_true_eq] at w ⊢
    exact ⟨by omega, w.2⟩

theorem tabWfFrom_tabSet {t : Tab α} {lo k : Nat} (v : α) (h : lo ≤ k) (w : tabWfFrom lo t = true) :
    tabWfFrom lo (tabSet t k v) = true := by
  induction t generalizing lo with
  | nil => simp [tabSet, tabWfFrom, h]
  | cons e t ih =>
    obtain ⟨k', v'⟩ := e
    simp only [tabWfFrom, Bool.and_eq_true, decide_eq_true_eq] at w
    simp only [tabSet]
    split
    · simp only [tabWfFrom, Bool.and_eq_true, decide_eq_true_eq]
      exact ⟨h, by omega, w.2⟩
    · split
      · rename_i _ h2
        simp only [tabWfFrom, Bool.and_eq_true, decide_eq_true_eq]
        exact ⟨h, h2 ▸ w.2⟩
      · simp only [tabWfFrom, Bool.and_eq_true, decide_eq_true_eq]
        exact ⟨w.1, ih (by omega) w.2⟩

/-- Every write keeps a table in its canonical form. -/
theorem tabWf_tabSet {t : Tab α} (k : Nat) (v : α) (w : tabWf t = true) : tabWf (tabSet t k v) = true :=
  tabWfFrom_tabSet v (Nat.zero_le k) w

theorem tabWfFrom_tabDel {t : Tab α} {lo : Nat} (k : Nat) (w : tabWfFrom lo t = true) : tabWfFrom lo (tabDel t k) = true := by
  induction t generalizing lo with
  | nil => rfl
  | cons e t ih =>
    obtain ⟨k', v'⟩ := e
    simp only [tabWfFrom, Bool.and_eq_true, decide_eq_true_eq] at w
    simp only [tabDel]
    split
    · exact tabWfFrom_mono (by omega) (ih w.2)
    · simp only [tabWfFrom, Bool.and_eq_true, decide_eq_true_eq]
      exact ⟨w.1, ih w.2⟩

theorem tabWf_tabDel {t : Tab α} (k : Nat) (w : tabWf t = true) : tabWf (tabDel t k) = true := tabWfFrom_tabDel k w

theorem tabGet_none_of_lt {t : Tab α} {lo k : Nat} (w : tabWfFrom lo t = true) (h : k < lo) : tabGet t k = none := by
  induction t generalizing lo with
  | nil => rfl
  | cons e t ih =>
    obtain ⟨k', v'⟩ := e
    simp only [tabWfFrom, Bool.and_eq_true, decide_eq_true_eq] at w
    simp only [tabGet]
    rw [if_neg (by omega)]
    exact ih w.2 (by omega)

@[simp] theorem tabGet_tabDel_same (t : Tab α) (k : Nat) : tabGet (tabDel t k) k = none := by
  induction t with
  | nil => rfl
  | cons e t ih =>
    obtain ⟨k', v'⟩ := e
    simp only [tabDel]
    split
    · exact ih
    · rename_i h
      simp [tabGet, h, ih]

theorem tabGet_tabDel_ne (t : Tab α) {k j : Nat} (h : j ≠ k) : tabGet (tabDel t k) j = tabGet t j := by
  induction t with
  | nil => rfl
  | cons e t ih =>
    obtain ⟨k', v'⟩ := e
    simp only [tabDel]
    split
    · rename_i h1
      subst h1
      simp [tabGet, h, ih]
    · simp [tabGet, ih]

/-- A table whose values are mapped by key. -/
theorem tabGet_map {α : Type} (g : Nat → α → α) (t : Tab α) (k : Nat) : tabGet (t.map fun e => (e.1, g e.1 e.2)) k = (tabGet t k).map (g k) := by
  induction t with
  | nil => rfl
  | cons x t ih =>
    simp only [List.map_cons, tabGet]
    split
    · rename_i h; subst h; rfl
    · exact ih

/-! ## Memory -/

theorem all_tabSet {p : Nat × α → Bool} {t : Tab α} {k : Nat} {v : α} (h : t.all p = true) (hv : p (k, v) = true) :
    (tabSet t k v).all p = true := by
  induction t with
  | nil => simp [tabSet, hv]
  | cons e t ih =>
    obtain ⟨k', v'⟩ := e
    simp only [List.all_cons, Bool.and_eq_true] at h
    simp only [tabSet]
    split
    · simp [hv, h.1, h.2]
    · split
      · simp [hv, h.2]
      · simp [h.1, ih h.2]

theorem all_tabDel {p : Nat × α → Bool} {t : Tab α} {k : Nat} (h : t.all p = true) : (tabDel t k).all p = true := by
  induction t with
  | nil => rfl
  | cons e t ih =>
    obtain ⟨k', v'⟩ := e
    simp only [List.all_cons, Bool.and_eq_true] at h
    simp only [tabDel]
    split
    · exact ih h.2
    · simp [h.1, ih h.2]

/-- Writing a byte keeps a memory in its canonical form. -/
theorem memWf_memSet {m : List Host.Cell} (a : Nat) (v : Byte) (w : memWf m = true) : memWf (memSet m a v) = true := by
  simp only [memWf, Bool.and_eq_true] at w ⊢
  simp only [memSet]
  split
  · exact ⟨tabWf_tabDel a w.1, all_tabDel w.2⟩
  · rename_i h
    exact ⟨tabWf_tabSet a v w.1, all_tabSet w.2 (by simpa using h)⟩

/-- Writing bytes keeps a memory in its canonical form. -/
theorem memWf_memWrite {m : List Host.Cell} (a : Nat) (bs : List Byte) (w : memWf m = true) : memWf (memWrite m a bs) = true := by
  induction bs generalizing m a with
  | nil => exact w
  | cons b bs ih => exact ih (a + 1) (memWf_memSet a b w)

/-- A byte reads as it was written. -/
theorem memGet_memSet_same (m : List Host.Cell) (a : Nat) (v : Byte) : memGet (memSet m a v) a = v := by
  simp only [memGet, memSet]
  split
  · rename_i h
    rw [tabGet_tabDel_same]
    exact h.symm
  · simp

/-- A write leaves every other byte alone. -/
theorem memGet_memSet_ne (m : List Host.Cell) {a b : Nat} (v : Byte) (h : b ≠ a) : memGet (memSet m a v) b = memGet m b := by
  simp only [memGet, memSet]
  split
  · rw [tabGet_tabDel_ne m h]
  · rw [tabGet_tabSet_ne m v h]

/-- Bytes written outside a range leave the range alone. -/
theorem memGet_memWrite_out (m : List Host.Cell) (a b : Nat) (bs : List Byte) (h : b < a ∨ a + bs.length ≤ b) :
    memGet (memWrite m a bs) b = memGet m b := by
  induction bs generalizing m a with
  | nil => rfl
  | cons x bs ih =>
    simp only [memWrite, List.length_cons] at h ⊢
    rw [ih (memSet m a x) (a + 1) (by omega), memGet_memSet_ne m x (by omega)]

/-- Bytes read as they were written. -/
theorem memRead_memWrite_same (m : List Host.Cell) (a : Nat) (bs : List Byte) : memRead (memWrite m a bs) a bs.length = bs := by
  induction bs generalizing m a with
  | nil => rfl
  | cons x bs ih =>
    simp only [memWrite, List.length_cons, memRead]
    rw [memGet_memWrite_out _ _ _ _ (by omega), memGet_memSet_same m a x, ih (memSet m a x) (a + 1)]

end Sys2Proof.Machine
end

