-- ==== Sys2Proof/Laws/Word.lean ====
section
/-! SUPPORT. Laws of the bit fields of a register value: what a field reads after a field is put. -/

namespace Sys2Proof.Machine

theorem testBit_wordBits (v : Word) (lo w i : Nat) : (wordBits v lo w).testBit i = (decide (i < w) && v.getLsbD (lo + i)) := by
  simp [wordBits, Nat.testBit_mod_two_pow, Nat.testBit_div_two_pow, BitVec.testBit_toNat, Nat.add_comm]

theorem fieldMask_getLsbD (lo w i : Nat) :
    (BitVec.ofNat 32 ((2 ^ w - 1) * 2 ^ lo)).getLsbD i = (decide (i < 32) && (decide (lo ≤ i) && decide (i - lo < w))) := by
  simp [BitVec.getLsbD_ofNat, Nat.testBit_mul_two_pow, Nat.testBit_two_pow_sub_one]

theorem wordPut_getLsbD (v : Word) (lo w x i : Nat) (h : i < 32) :
    (wordPut v lo w x).getLsbD i = if lo ≤ i ∧ i < lo + w then x.testBit (i - lo) else v.getLsbD i := by
  simp only [wordPut, BitVec.getLsbD_or, BitVec.getLsbD_and, BitVec.getLsbD_not, fieldMask_getLsbD, h, decide_true, Bool.true_and]
  split
  · rename_i c
    have e : decide (i - lo < w) = true := decide_eq_true (by omega)
    rw [BitVec.getLsbD_ofNat, Nat.testBit_mul_two_pow]
    simp [-BitVec.getLsbD_eq_getElem, h, c.1, e]
  · rename_i c
    have e : (decide (lo ≤ i) && decide (i - lo < w)) = false := by
      simp only [Bool.and_eq_false_iff, decide_eq_false_iff_not]
      omega
    rw [e]
    simp

/-- A field reads as it was put. -/
theorem wordBits_wordPut_same (v : Word) (lo w x : Nat) (h : lo + w ≤ 32) : wordBits (wordPut v lo w x) lo w = x % 2 ^ w := by
  apply Nat.eq_of_testBit_eq
  intro i
  rw [testBit_wordBits, Nat.testBit_mod_two_pow]
  by_cases c : i < w
  · rw [wordPut_getLsbD _ _ _ _ _ (by omega), if_pos ⟨by omega, by omega⟩]
    simp [c]
  · simp [c]

/-- A field that lies apart from the one put keeps its value. -/
theorem wordBits_wordPut_apart (v : Word) (lo w x lo' w' : Nat) (h : lo + w ≤ lo' ∨ lo' + w' ≤ lo) (h' : lo' + w' ≤ 32) :
    wordBits (wordPut v lo w x) lo' w' = wordBits v lo' w' := by
  apply Nat.eq_of_testBit_eq
  intro i
  rw [testBit_wordBits, testBit_wordBits]
  by_cases c : i < w'
  · rw [wordPut_getLsbD _ _ _ _ _ (by omega), if_neg (by omega)]
  · simp [c]

end Sys2Proof.Machine
end

