-- ==== Sys2Proof/Laws/Reg.lean ====
section
/-! SUPPORT. Laws of the registers: what a register and a field read after a register or a field is written. -/

namespace Sys2Proof.Machine

theorem getW_setW_same (s : State) (p off : Nat) (v : Word) : getW (setW s p off v) p off = v := by
  simp [getW, setW]

theorem getW_setW_ne (s : State) {p off q o : Nat} (v : Word) (h : regKey q o ≠ regKey p off) :
    getW (setW s p off v) q o = getW s q o := by
  simp [getW, setW, tabGet_tabSet_ne _ _ h]

/-- A register after a write of a register. -/
theorem getW_setW (s : State) (p off q o : Nat) (v : Word) : getW (setW s p off v) q o = if regKey q o = regKey p off then v else getW s q o := by
  split
  · rename_i h
    unfold getW setW
    rw [h]; simp
  · rename_i h; exact getW_setW_ne s v h

/-- Registers of one page are told apart by their word numbers. -/
theorem regKey_inj (p a b : Nat) : (regKey p a = regKey p b) = (a / 4 = b / 4) := by
  unfold regKey
  simp

/-- Registers at offsets of one page whose word numbers differ are different registers. -/
theorem regKey_off_ne {p off o : Nat} (h : o / 4 ≠ off / 4) : regKey p o ≠ regKey p off := by
  simp only [regKey]
  omega

/-- Registers of different pages are different registers. -/
theorem regKey_page_ne {p q off o : Nat} (h : q ≠ p) (h1 : off < 4096) (h2 : o < 4096) : regKey q o ≠ regKey p off := by
  simp only [regKey]
  omega

/-- A field reads as it was set. -/
theorem getF_setF_same (s : State) (p : Nat) (f : FieldD) (v i : Nat) (h : f.lo + f.w ≤ 32) :
    getF (setF s p f v i) p f i = v % 2 ^ f.w := by
  simp only [getF, setF, getW_setW_same]
  exact wordBits_wordPut_same _ _ _ _ h

/-- A field of the same register that lies apart keeps its value. -/
theorem getF_setF_apart (s : State) (p : Nat) (f g : FieldD) (v i j : Nat) (hr : g.off + g.stride * j = f.off + f.stride * i)
    (h : f.lo + f.w ≤ g.lo ∨ g.lo + g.w ≤ f.lo) (h' : g.lo + g.w ≤ 32) :
    getF (setF s p f v i) p g j = getF s p g j := by
  simp only [getF, setF, hr, getW_setW_same]
  exact wordBits_wordPut_apart _ _ _ _ _ _ h h'

/-- A field of another register keeps its value. -/
theorem getF_setF_ne (s : State) {p q : Nat} (f g : FieldD) (v i j : Nat)
    (h : regKey q (g.off + g.stride * j) ≠ regKey p (f.off + f.stride * i)) : getF (setF s p f v i) q g j = getF s q g j := by
  simp only [getF, setF, getW_setW_ne _ _ h]

theorem getF_setW_ne (s : State) {p off q : Nat} (g : FieldD) (v : Word) (j : Nat)
    (h : regKey q (g.off + g.stride * j) ≠ regKey p off) : getF (setW s p off v) q g j = getF s q g j := by
  simp only [getF, getW_setW_ne _ _ h]

theorem getB_setB_same (s : State) (p : Nat) (f : FieldD) (v : Bool) (i : Nat) (h : f.lo + f.w ≤ 32) (h1 : f.w = 1) :
    getB (setB s p f v i) p f i = v := by
  simp only [getB, setB, getF_setF_same _ _ _ _ _ h, h1]
  cases v <;> rfl

/-- An event of a source changes no register but IRQ_RAW and IRQ_PEND of its page. -/
theorem getW_irqEvent_ne (s : State) {p b q o : Nat} (h1 : regKey q o ≠ regKey p 0x10) (h2 : regKey q o ≠ regKey p 0x18) :
    getW (irqEvent s p b) q o = getW s q o := by
  simp only [irqEvent]
  split
  · exact getW_setW_ne _ _ h1
  · rw [getW_setW_ne _ _ h2, getW_setW_ne _ _ h1]

/-- A register after an interrupt event. -/
theorem getW_irqEvent (s : State) (p b q o : Nat) : getW (irqEvent s p b) q o =
    if regKey q o = regKey p 0x10 then getW s p 0x10 ||| BitVec.ofNat 32 (2 ^ b)
    else if regKey q o = regKey p 0x18 ∧ getW s p 0x14 &&& BitVec.ofNat 32 (2 ^ b) ≠ 0#32 then getW s p 0x18 ||| BitVec.ofNat 32 (2 ^ b)
    else getW s q o := by
  have k : regKey p 0x18 ≠ regKey p 0x10 := regKey_off_ne (by decide)
  generalize hm : BitVec.ofNat 32 (2 ^ b) = m
  unfold irqEvent
  simp only [hm]
  split
  · rename_i h
    rw [getW_setW]
    split
    · rfl
    · rw [if_neg]
      rintro ⟨_, x⟩
      exact x h
  · rename_i h
    simp only [getW_setW, k, if_false]
    by_cases h1 : regKey q o = regKey p 0x18
    · have h2 : regKey q o ≠ regKey p 0x10 := h1 ▸ k
      rw [if_pos h1, if_neg h2, if_pos ⟨h1, h⟩]
    · rw [if_neg h1]
      split
      · rfl
      · rw [if_neg fun x => h1 x.1]

/-- An event of a source sets its bit of IRQ_RAW (R57). -/
theorem getW_irqEvent_raw (s : State) (p b : Nat) : getW (irqEvent s p b) p 0x10 = getW s p 0x10 ||| BitVec.ofNat 32 (2 ^ b) := by
  simp only [irqEvent]
  split
  · exact getW_setW_same _ _ _ _
  · rw [getW_setW_ne _ _ (regKey_off_ne (by decide)), getW_setW_same]

theorem getF_irqEvent_ne (s : State) {p b q : Nat} (g : FieldD) (j : Nat) (h1 : regKey q (g.off + g.stride * j) ≠ regKey p 0x10)
    (h2 : regKey q (g.off + g.stride * j) ≠ regKey p 0x18) : getF (irqEvent s p b) q g j = getF s q g j := by
  simp only [getF, getW_irqEvent_ne s h1 h2]

end Sys2Proof.Machine
end

