-- ==== Sys2Proof/Laws/Settle.lean ====
section
/-! SUPPORT. What a command can be: an effect at a hub that is there, an effect that reaches it always, or nothing. -/

namespace Sys2Proof.Machine

/-- At a hub that takes commands, a command is its effect and then the step's end. -/
theorem during_alive {s : State} (h : alive s = true) (f : State → State) : during s f = settle (f (cleared s)) := by
  simp [during, h, cleared]

/-- A hub that takes no commands is left as it was. -/
theorem during_dead {s : State} (h : alive s = false) (f : State → State) : during s f = cleared s := by
  simp [during, h, cleared]

/-- Everything a command can do. -/
theorem exec_cases (c : Instr) (s : State) : ∃ f : State → State,
    exec c s = .next (during s f) ∨ exec c s = .next (anytime s f) ∨ exec c s = .next (cleared s) := by
  cases c
  case offlineTestDone r f rs fs =>
    simp only [exec, execOfflineTestDone]
    split
    · exact ⟨_, .inr (.inl rfl)⟩
    · exact ⟨id, .inr (.inr rfl)⟩
  case testPinChange l =>
    simp only [exec, execTestPinChange]
    split
    · exact ⟨id, .inr (.inr rfl)⟩
    · exact ⟨_, .inr (.inl rfl)⟩
  case zeroiseDone =>
    simp only [exec, execZeroiseDone]
    split
    · exact ⟨id, .inr (.inr rfl)⟩
    · exact ⟨_, .inr (.inl rfl)⟩
  all_goals first
    | exact ⟨_, .inl rfl⟩
    | exact ⟨_, .inr (.inl rfl)⟩

end Sys2Proof.Machine
end

