-- ==== Sys2Proof/Laws/State.lean ====
section
/-! SUPPORT. What each named update leaves alone, field by field: no later proof unfolds a record update. -/

namespace Sys2Proof.Machine

/-! ## setW -/

@[simp] theorem setW_pending (s : State) (p o : Nat) (v : Word) : (setW s p o v).pending = s.pending := rfl
@[simp] theorem setW_out (s : State) (p o : Nat) (v : Word) : (setW s p o v).out = s.out := rfl
@[simp] theorem setW_fresh (s : State) (p o : Nat) (v : Word) : (setW s p o v).fresh = s.fresh := rfl
@[simp] theorem setW_frozen (s : State) (p o : Nat) (v : Word) : (setW s p o v).frozen = s.frozen := rfl
@[simp] theorem setW_dev (s : State) (p o : Nat) (v : Word) : (setW s p o v).dev = s.dev := rfl
@[simp] theorem setW_intr (s : State) (p o : Nat) (v : Word) : (setW s p o v).intr = s.intr := rfl
@[simp] theorem setW_ring (s : State) (p o : Nat) (v : Word) : (setW s p o v).ring = s.ring := rfl
@[simp] theorem setW_seq (s : State) (p o : Nat) (v : Word) : (setW s p o v).seq = s.seq := rfl
@[simp] theorem setW_sw (s : State) (p o : Nat) (v : Word) : (setW s p o v).sw = s.sw := rfl
@[simp] theorem setW_meter (s : State) (p o : Nat) (v : Word) : (setW s p o v).meter = s.meter := rfl
@[simp] theorem setW_pair (s : State) (p o : Nat) (v : Word) : (setW s p o v).pair = s.pair := rfl
@[simp] theorem setW_time (s : State) (p o : Nat) (v : Word) : (setW s p o v).time = s.time := rfl
@[simp] theorem setW_cul (s : State) (p o : Nat) (v : Word) : (setW s p o v).cul = s.cul := rfl
@[simp] theorem setW_brg (s : State) (p o : Nat) (v : Word) : (setW s p o v).brg = s.brg := rfl
@[simp] theorem setW_fld (s : State) (p o : Nat) (v : Word) : (setW s p o v).fld = s.fld := rfl
@[simp] theorem setW_usb (s : State) (p o : Nat) (v : Word) : (setW s p o v).usb = s.usb := rfl
@[simp] theorem setW_pwr (s : State) (p o : Nat) (v : Word) : (setW s p o v).pwr = s.pwr := rfl
@[simp] theorem setW_start (s : State) (p o : Nat) (v : Word) : (setW s p o v).start = s.start := rfl
@[simp] theorem setW_fwu (s : State) (p o : Nat) (v : Word) : (setW s p o v).fwu = s.fwu := rfl
@[simp] theorem setW_test (s : State) (p o : Nat) (v : Word) : (setW s p o v).test = s.test := rfl
@[simp] theorem setW_jmem (s : State) (p o : Nat) (v : Word) : (setW s p o v).jmem = s.jmem := rfl
@[simp] theorem setW_watchNs (s : State) (p o : Nat) (v : Word) : (setW s p o v).watchNs = s.watchNs := rfl

/-! ## setF -/

@[simp] theorem setF_pending (s : State) (p : Nat) (f : FieldD) (v i : Nat) : (setF s p f v i).pending = s.pending := rfl
@[simp] theorem setF_out (s : State) (p : Nat) (f : FieldD) (v i : Nat) : (setF s p f v i).out = s.out := rfl
@[simp] theorem setF_fresh (s : State) (p : Nat) (f : FieldD) (v i : Nat) : (setF s p f v i).fresh = s.fresh := rfl
@[simp] theorem setF_frozen (s : State) (p : Nat) (f : FieldD) (v i : Nat) : (setF s p f v i).frozen = s.frozen := rfl
@[simp] theorem setF_dev (s : State) (p : Nat) (f : FieldD) (v i : Nat) : (setF s p f v i).dev = s.dev := rfl
@[simp] theorem setF_intr (s : State) (p : Nat) (f : FieldD) (v i : Nat) : (setF s p f v i).intr = s.intr := rfl
@[simp] theorem setF_ring (s : State) (p : Nat) (f : FieldD) (v i : Nat) : (setF s p f v i).ring = s.ring := rfl
@[simp] theorem setF_seq (s : State) (p : Nat) (f : FieldD) (v i : Nat) : (setF s p f v i).seq = s.seq := rfl
@[simp] theorem setF_sw (s : State) (p : Nat) (f : FieldD) (v i : Nat) : (setF s p f v i).sw = s.sw := rfl
@[simp] theorem setF_meter (s : State) (p : Nat) (f : FieldD) (v i : Nat) : (setF s p f v i).meter = s.meter := rfl
@[simp] theorem setF_pair (s : State) (p : Nat) (f : FieldD) (v i : Nat) : (setF s p f v i).pair = s.pair := rfl
@[simp] theorem setF_time (s : State) (p : Nat) (f : FieldD) (v i : Nat) : (setF s p f v i).time = s.time := rfl
@[simp] theorem setF_cul (s : State) (p : Nat) (f : FieldD) (v i : Nat) : (setF s p f v i).cul = s.cul := rfl
@[simp] theorem setF_brg (s : State) (p : Nat) (f : FieldD) (v i : Nat) : (setF s p f v i).brg = s.brg := rfl
@[simp] theorem setF_fld (s : State) (p : Nat) (f : FieldD) (v i : Nat) : (setF s p f v i).fld = s.fld := rfl
@[simp] theorem setF_usb (s : State) (p : Nat) (f : FieldD) (v i : Nat) : (setF s p f v i).usb = s.usb := rfl
@[simp] theorem setF_pwr (s : State) (p : Nat) (f : FieldD) (v i : Nat) : (setF s p f v i).pwr = s.pwr := rfl
@[simp] theorem setF_start (s : State) (p : Nat) (f : FieldD) (v i : Nat) : (setF s p f v i).start = s.start := rfl
@[simp] theorem setF_fwu (s : State) (p : Nat) (f : FieldD) (v i : Nat) : (setF s p f v i).fwu = s.fwu := rfl
@[simp] theorem setF_test (s : State) (p : Nat) (f : FieldD) (v i : Nat) : (setF s p f v i).test = s.test := rfl
@[simp] theorem setF_jmem (s : State) (p : Nat) (f : FieldD) (v i : Nat) : (setF s p f v i).jmem = s.jmem := rfl
@[simp] theorem setF_watchNs (s : State) (p : Nat) (f : FieldD) (v i : Nat) : (setF s p f v i).watchNs = s.watchNs := rfl

/-! ## setB -/

@[simp] theorem setB_pending (s : State) (p : Nat) (f : FieldD) (b : Bool) (i : Nat) : (setB s p f b i).pending = s.pending := rfl
@[simp] theorem setB_out (s : State) (p : Nat) (f : FieldD) (b : Bool) (i : Nat) : (setB s p f b i).out = s.out := rfl
@[simp] theorem setB_fresh (s : State) (p : Nat) (f : FieldD) (b : Bool) (i : Nat) : (setB s p f b i).fresh = s.fresh := rfl
@[simp] theorem setB_frozen (s : State) (p : Nat) (f : FieldD) (b : Bool) (i : Nat) : (setB s p f b i).frozen = s.frozen := rfl
@[simp] theorem setB_dev (s : State) (p : Nat) (f : FieldD) (b : Bool) (i : Nat) : (setB s p f b i).dev = s.dev := rfl
@[simp] theorem setB_intr (s : State) (p : Nat) (f : FieldD) (b : Bool) (i : Nat) : (setB s p f b i).intr = s.intr := rfl
@[simp] theorem setB_ring (s : State) (p : Nat) (f : FieldD) (b : Bool) (i : Nat) : (setB s p f b i).ring = s.ring := rfl
@[simp] theorem setB_seq (s : State) (p : Nat) (f : FieldD) (b : Bool) (i : Nat) : (setB s p f b i).seq = s.seq := rfl
@[simp] theorem setB_sw (s : State) (p : Nat) (f : FieldD) (b : Bool) (i : Nat) : (setB s p f b i).sw = s.sw := rfl
@[simp] theorem setB_meter (s : State) (p : Nat) (f : FieldD) (b : Bool) (i : Nat) : (setB s p f b i).meter = s.meter := rfl
@[simp] theorem setB_pair (s : State) (p : Nat) (f : FieldD) (b : Bool) (i : Nat) : (setB s p f b i).pair = s.pair := rfl
@[simp] theorem setB_time (s : State) (p : Nat) (f : FieldD) (b : Bool) (i : Nat) : (setB s p f b i).time = s.time := rfl
@[simp] theorem setB_cul (s : State) (p : Nat) (f : FieldD) (b : Bool) (i : Nat) : (setB s p f b i).cul = s.cul := rfl
@[simp] theorem setB_brg (s : State) (p : Nat) (f : FieldD) (b : Bool) (i : Nat) : (setB s p f b i).brg = s.brg := rfl
@[simp] theorem setB_fld (s : State) (p : Nat) (f : FieldD) (b : Bool) (i : Nat) : (setB s p f b i).fld = s.fld := rfl
@[simp] theorem setB_usb (s : State) (p : Nat) (f : FieldD) (b : Bool) (i : Nat) : (setB s p f b i).usb = s.usb := rfl
@[simp] theorem setB_pwr (s : State) (p : Nat) (f : FieldD) (b : Bool) (i : Nat) : (setB s p f b i).pwr = s.pwr := rfl
@[simp] theorem setB_start (s : State) (p : Nat) (f : FieldD) (b : Bool) (i : Nat) : (setB s p f b i).start = s.start := rfl
@[simp] theorem setB_fwu (s : State) (p : Nat) (f : FieldD) (b : Bool) (i : Nat) : (setB s p f b i).fwu = s.fwu := rfl
@[simp] theorem setB_test (s : State) (p : Nat) (f : FieldD) (b : Bool) (i : Nat) : (setB s p f b i).test = s.test := rfl
@[simp] theorem setB_jmem (s : State) (p : Nat) (f : FieldD) (b : Bool) (i : Nat) : (setB s p f b i).jmem = s.jmem := rfl
@[simp] theorem setB_watchNs (s : State) (p : Nat) (f : FieldD) (b : Bool) (i : Nat) : (setB s p f b i).watchNs = s.watchNs := rfl

/-! ## bump -/

@[simp] theorem bump_pending (s : State) (p : Nat) (f : FieldD) (n i : Nat) : (bump s p f n i).pending = s.pending := rfl
@[simp] theorem bump_out (s : State) (p : Nat) (f : FieldD) (n i : Nat) : (bump s p f n i).out = s.out := rfl
@[simp] theorem bump_fresh (s : State) (p : Nat) (f : FieldD) (n i : Nat) : (bump s p f n i).fresh = s.fresh := rfl
@[simp] theorem bump_frozen (s : State) (p : Nat) (f : FieldD) (n i : Nat) : (bump s p f n i).frozen = s.frozen := rfl
@[simp] theorem bump_dev (s : State) (p : Nat) (f : FieldD) (n i : Nat) : (bump s p f n i).dev = s.dev := rfl
@[simp] theorem bump_intr (s : State) (p : Nat) (f : FieldD) (n i : Nat) : (bump s p f n i).intr = s.intr := rfl
@[simp] theorem bump_ring (s : State) (p : Nat) (f : FieldD) (n i : Nat) : (bump s p f n i).ring = s.ring := rfl
@[simp] theorem bump_seq (s : State) (p : Nat) (f : FieldD) (n i : Nat) : (bump s p f n i).seq = s.seq := rfl
@[simp] theorem bump_sw (s : State) (p : Nat) (f : FieldD) (n i : Nat) : (bump s p f n i).sw = s.sw := rfl
@[simp] theorem bump_meter (s : State) (p : Nat) (f : FieldD) (n i : Nat) : (bump s p f n i).meter = s.meter := rfl
@[simp] theorem bump_pair (s : State) (p : Nat) (f : FieldD) (n i : Nat) : (bump s p f n i).pair = s.pair := rfl
@[simp] theorem bump_time (s : State) (p : Nat) (f : FieldD) (n i : Nat) : (bump s p f n i).time = s.time := rfl
@[simp] theorem bump_cul (s : State) (p : Nat) (f : FieldD) (n i : Nat) : (bump s p f n i).cul = s.cul := rfl
@[simp] theorem bump_brg (s : State) (p : Nat) (f : FieldD) (n i : Nat) : (bump s p f n i).brg = s.brg := rfl
@[simp] theorem bump_fld (s : State) (p : Nat) (f : FieldD) (n i : Nat) : (bump s p f n i).fld = s.fld := rfl
@[simp] theorem bump_usb (s : State) (p : Nat) (f : FieldD) (n i : Nat) : (bump s p f n i).usb = s.usb := rfl
@[simp] theorem bump_pwr (s : State) (p : Nat) (f : FieldD) (n i : Nat) : (bump s p f n i).pwr = s.pwr := rfl
@[simp] theorem bump_start (s : State) (p : Nat) (f : FieldD) (n i : Nat) : (bump s p f n i).start = s.start := rfl
@[simp] theorem bump_fwu (s : State) (p : Nat) (f : FieldD) (n i : Nat) : (bump s p f n i).fwu = s.fwu := rfl
@[simp] theorem bump_test (s : State) (p : Nat) (f : FieldD) (n i : Nat) : (bump s p f n i).test = s.test := rfl
@[simp] theorem bump_jmem (s : State) (p : Nat) (f : FieldD) (n i : Nat) : (bump s p f n i).jmem = s.jmem := rfl
@[simp] theorem bump_watchNs (s : State) (p : Nat) (f : FieldD) (n i : Nat) : (bump s p f n i).watchNs = s.watchNs := rfl

/-! ## bumpSat -/

@[simp] theorem bumpSat_pending (s : State) (p : Nat) (f : FieldD) (n i : Nat) : (bumpSat s p f n i).pending = s.pending := rfl
@[simp] theorem bumpSat_out (s : State) (p : Nat) (f : FieldD) (n i : Nat) : (bumpSat s p f n i).out = s.out := rfl
@[simp] theorem bumpSat_fresh (s : State) (p : Nat) (f : FieldD) (n i : Nat) : (bumpSat s p f n i).fresh = s.fresh := rfl
@[simp] theorem bumpSat_frozen (s : State) (p : Nat) (f : FieldD) (n i : Nat) : (bumpSat s p f n i).frozen = s.frozen := rfl
@[simp] theorem bumpSat_dev (s : State) (p : Nat) (f : FieldD) (n i : Nat) : (bumpSat s p f n i).dev = s.dev := rfl
@[simp] theorem bumpSat_intr (s : State) (p : Nat) (f : FieldD) (n i : Nat) : (bumpSat s p f n i).intr = s.intr := rfl
@[simp] theorem bumpSat_ring (s : State) (p : Nat) (f : FieldD) (n i : Nat) : (bumpSat s p f n i).ring = s.ring := rfl
@[simp] theorem bumpSat_seq (s : State) (p : Nat) (f : FieldD) (n i : Nat) : (bumpSat s p f n i).seq = s.seq := rfl
@[simp] theorem bumpSat_sw (s : State) (p : Nat) (f : FieldD) (n i : Nat) : (bumpSat s p f n i).sw = s.sw := rfl
@[simp] theorem bumpSat_meter (s : State) (p : Nat) (f : FieldD) (n i : Nat) : (bumpSat s p f n i).meter = s.meter := rfl
@[simp] theorem bumpSat_pair (s : State) (p : Nat) (f : FieldD) (n i : Nat) : (bumpSat s p f n i).pair = s.pair := rfl
@[simp] theorem bumpSat_time (s : State) (p : Nat) (f : FieldD) (n i : Nat) : (bumpSat s p f n i).time = s.time := rfl
@[simp] theorem bumpSat_cul (s : State) (p : Nat) (f : FieldD) (n i : Nat) : (bumpSat s p f n i).cul = s.cul := rfl
@[simp] theorem bumpSat_brg (s : State) (p : Nat) (f : FieldD) (n i : Nat) : (bumpSat s p f n i).brg = s.brg := rfl
@[simp] theorem bumpSat_fld (s : State) (p : Nat) (f : FieldD) (n i : Nat) : (bumpSat s p f n i).fld = s.fld := rfl
@[simp] theorem bumpSat_usb (s : State) (p : Nat) (f : FieldD) (n i : Nat) : (bumpSat s p f n i).usb = s.usb := rfl
@[simp] theorem bumpSat_pwr (s : State) (p : Nat) (f : FieldD) (n i : Nat) : (bumpSat s p f n i).pwr = s.pwr := rfl
@[simp] theorem bumpSat_start (s : State) (p : Nat) (f : FieldD) (n i : Nat) : (bumpSat s p f n i).start = s.start := rfl
@[simp] theorem bumpSat_fwu (s : State) (p : Nat) (f : FieldD) (n i : Nat) : (bumpSat s p f n i).fwu = s.fwu := rfl
@[simp] theorem bumpSat_test (s : State) (p : Nat) (f : FieldD) (n i : Nat) : (bumpSat s p f n i).test = s.test := rfl
@[simp] theorem bumpSat_jmem (s : State) (p : Nat) (f : FieldD) (n i : Nat) : (bumpSat s p f n i).jmem = s.jmem := rfl
@[simp] theorem bumpSat_watchNs (s : State) (p : Nat) (f : FieldD) (n i : Nat) : (bumpSat s p f n i).watchNs = s.watchNs := rfl

/-! ## emit -/

@[simp] theorem emit_pending (s : State) (o : Out) : (emit s o).pending = s.pending := rfl
@[simp] theorem emit_fresh (s : State) (o : Out) : (emit s o).fresh = s.fresh := rfl
@[simp] theorem emit_regs (s : State) (o : Out) : (emit s o).regs = s.regs := rfl
@[simp] theorem emit_frozen (s : State) (o : Out) : (emit s o).frozen = s.frozen := rfl
@[simp] theorem emit_dev (s : State) (o : Out) : (emit s o).dev = s.dev := rfl
@[simp] theorem emit_intr (s : State) (o : Out) : (emit s o).intr = s.intr := rfl
@[simp] theorem emit_ring (s : State) (o : Out) : (emit s o).ring = s.ring := rfl
@[simp] theorem emit_seq (s : State) (o : Out) : (emit s o).seq = s.seq := rfl
@[simp] theorem emit_sw (s : State) (o : Out) : (emit s o).sw = s.sw := rfl
@[simp] theorem emit_meter (s : State) (o : Out) : (emit s o).meter = s.meter := rfl
@[simp] theorem emit_pair (s : State) (o : Out) : (emit s o).pair = s.pair := rfl
@[simp] theorem emit_time (s : State) (o : Out) : (emit s o).time = s.time := rfl
@[simp] theorem emit_cul (s : State) (o : Out) : (emit s o).cul = s.cul := rfl
@[simp] theorem emit_brg (s : State) (o : Out) : (emit s o).brg = s.brg := rfl
@[simp] theorem emit_fld (s : State) (o : Out) : (emit s o).fld = s.fld := rfl
@[simp] theorem emit_usb (s : State) (o : Out) : (emit s o).usb = s.usb := rfl
@[simp] theorem emit_pwr (s : State) (o : Out) : (emit s o).pwr = s.pwr := rfl
@[simp] theorem emit_start (s : State) (o : Out) : (emit s o).start = s.start := rfl
@[simp] theorem emit_fwu (s : State) (o : Out) : (emit s o).fwu = s.fwu := rfl
@[simp] theorem emit_test (s : State) (o : Out) : (emit s o).test = s.test := rfl
@[simp] theorem emit_jmem (s : State) (o : Out) : (emit s o).jmem = s.jmem := rfl
@[simp] theorem emit_watchNs (s : State) (o : Out) : (emit s o).watchNs = s.watchNs := rfl

/-! ## setFlow -/

@[simp] theorem setFlow_pending (s : State) (k : Nat) (x : IFlow) : (setFlow s k x).pending = s.pending := rfl
@[simp] theorem setFlow_out (s : State) (k : Nat) (x : IFlow) : (setFlow s k x).out = s.out := rfl
@[simp] theorem setFlow_fresh (s : State) (k : Nat) (x : IFlow) : (setFlow s k x).fresh = s.fresh := rfl
@[simp] theorem setFlow_regs (s : State) (k : Nat) (x : IFlow) : (setFlow s k x).regs = s.regs := rfl
@[simp] theorem setFlow_frozen (s : State) (k : Nat) (x : IFlow) : (setFlow s k x).frozen = s.frozen := rfl
@[simp] theorem setFlow_dev (s : State) (k : Nat) (x : IFlow) : (setFlow s k x).dev = s.dev := rfl
@[simp] theorem setFlow_intr (s : State) (k : Nat) (x : IFlow) : (setFlow s k x).intr = s.intr := rfl
@[simp] theorem setFlow_ring (s : State) (k : Nat) (x : IFlow) : (setFlow s k x).ring = s.ring := rfl
@[simp] theorem setFlow_sw (s : State) (k : Nat) (x : IFlow) : (setFlow s k x).sw = s.sw := rfl
@[simp] theorem setFlow_meter (s : State) (k : Nat) (x : IFlow) : (setFlow s k x).meter = s.meter := rfl
@[simp] theorem setFlow_pair (s : State) (k : Nat) (x : IFlow) : (setFlow s k x).pair = s.pair := rfl
@[simp] theorem setFlow_time (s : State) (k : Nat) (x : IFlow) : (setFlow s k x).time = s.time := rfl
@[simp] theorem setFlow_cul (s : State) (k : Nat) (x : IFlow) : (setFlow s k x).cul = s.cul := rfl
@[simp] theorem setFlow_brg (s : State) (k : Nat) (x : IFlow) : (setFlow s k x).brg = s.brg := rfl
@[simp] theorem setFlow_fld (s : State) (k : Nat) (x : IFlow) : (setFlow s k x).fld = s.fld := rfl
@[simp] theorem setFlow_usb (s : State) (k : Nat) (x : IFlow) : (setFlow s k x).usb = s.usb := rfl
@[simp] theorem setFlow_pwr (s : State) (k : Nat) (x : IFlow) : (setFlow s k x).pwr = s.pwr := rfl
@[simp] theorem setFlow_start (s : State) (k : Nat) (x : IFlow) : (setFlow s k x).start = s.start := rfl
@[simp] theorem setFlow_fwu (s : State) (k : Nat) (x : IFlow) : (setFlow s k x).fwu = s.fwu := rfl
@[simp] theorem setFlow_test (s : State) (k : Nat) (x : IFlow) : (setFlow s k x).test = s.test := rfl
@[simp] theorem setFlow_jmem (s : State) (k : Nat) (x : IFlow) : (setFlow s k x).jmem = s.jmem := rfl
@[simp] theorem setFlow_watchNs (s : State) (k : Nat) (x : IFlow) : (setFlow s k x).watchNs = s.watchNs := rfl

/-! ## setCtx -/

@[simp] theorem setCtx_pending (s : State) (k : Nat) (x : TCtx) : (setCtx s k x).pending = s.pending := rfl
@[simp] theorem setCtx_out (s : State) (k : Nat) (x : TCtx) : (setCtx s k x).out = s.out := rfl
@[simp] theorem setCtx_fresh (s : State) (k : Nat) (x : TCtx) : (setCtx s k x).fresh = s.fresh := rfl
@[simp] theorem setCtx_regs (s : State) (k : Nat) (x : TCtx) : (setCtx s k x).regs = s.regs := rfl
@[simp] theorem setCtx_frozen (s : State) (k : Nat) (x : TCtx) : (setCtx s k x).frozen = s.frozen := rfl
@[simp] theorem setCtx_dev (s : State) (k : Nat) (x : TCtx) : (setCtx s k x).dev = s.dev := rfl
@[simp] theorem setCtx_intr (s : State) (k : Nat) (x : TCtx) : (setCtx s k x).intr = s.intr := rfl
@[simp] theorem setCtx_ring (s : State) (k : Nat) (x : TCtx) : (setCtx s k x).ring = s.ring := rfl
@[simp] theorem setCtx_sw (s : State) (k : Nat) (x : TCtx) : (setCtx s k x).sw = s.sw := rfl
@[simp] theorem setCtx_meter (s : State) (k : Nat) (x : TCtx) : (setCtx s k x).meter = s.meter := rfl
@[simp] theorem setCtx_pair (s : State) (k : Nat) (x : TCtx) : (setCtx s k x).pair = s.pair := rfl
@[simp] theorem setCtx_time (s : State) (k : Nat) (x : TCtx) : (setCtx s k x).time = s.time := rfl
@[simp] theorem setCtx_cul (s : State) (k : Nat) (x : TCtx) : (setCtx s k x).cul = s.cul := rfl
@[simp] theorem setCtx_brg (s : State) (k : Nat) (x : TCtx) : (setCtx s k x).brg = s.brg := rfl
@[simp] theorem setCtx_fld (s : State) (k : Nat) (x : TCtx) : (setCtx s k x).fld = s.fld := rfl
@[simp] theorem setCtx_usb (s : State) (k : Nat) (x : TCtx) : (setCtx s k x).usb = s.usb := rfl
@[simp] theorem setCtx_pwr (s : State) (k : Nat) (x : TCtx) : (setCtx s k x).pwr = s.pwr := rfl
@[simp] theorem setCtx_start (s : State) (k : Nat) (x : TCtx) : (setCtx s k x).start = s.start := rfl
@[simp] theorem setCtx_fwu (s : State) (k : Nat) (x : TCtx) : (setCtx s k x).fwu = s.fwu := rfl
@[simp] theorem setCtx_test (s : State) (k : Nat) (x : TCtx) : (setCtx s k x).test = s.test := rfl
@[simp] theorem setCtx_jmem (s : State) (k : Nat) (x : TCtx) : (setCtx s k x).jmem = s.jmem := rfl
@[simp] theorem setCtx_watchNs (s : State) (k : Nat) (x : TCtx) : (setCtx s k x).watchNs = s.watchNs := rfl

/-! ## setPair -/

@[simp] theorem setPair_pending (s : State) (x : PairSt) : (setPair s x).pending = s.pending := rfl
@[simp] theorem setPair_out (s : State) (x : PairSt) : (setPair s x).out = s.out := rfl
@[simp] theorem setPair_fresh (s : State) (x : PairSt) : (setPair s x).fresh = s.fresh := rfl
@[simp] theorem setPair_regs (s : State) (x : PairSt) : (setPair s x).regs = s.regs := rfl
@[simp] theorem setPair_frozen (s : State) (x : PairSt) : (setPair s x).frozen = s.frozen := rfl
@[simp] theorem setPair_dev (s : State) (x : PairSt) : (setPair s x).dev = s.dev := rfl
@[simp] theorem setPair_intr (s : State) (x : PairSt) : (setPair s x).intr = s.intr := rfl
@[simp] theorem setPair_ring (s : State) (x : PairSt) : (setPair s x).ring = s.ring := rfl
@[simp] theorem setPair_seq (s : State) (x : PairSt) : (setPair s x).seq = s.seq := rfl
@[simp] theorem setPair_sw (s : State) (x : PairSt) : (setPair s x).sw = s.sw := rfl
@[simp] theorem setPair_meter (s : State) (x : PairSt) : (setPair s x).meter = s.meter := rfl
@[simp] theorem setPair_time (s : State) (x : PairSt) : (setPair s x).time = s.time := rfl
@[simp] theorem setPair_cul (s : State) (x : PairSt) : (setPair s x).cul = s.cul := rfl
@[simp] theorem setPair_brg (s : State) (x : PairSt) : (setPair s x).brg = s.brg := rfl
@[simp] theorem setPair_fld (s : State) (x : PairSt) : (setPair s x).fld = s.fld := rfl
@[simp] theorem setPair_usb (s : State) (x : PairSt) : (setPair s x).usb = s.usb := rfl
@[simp] theorem setPair_pwr (s : State) (x : PairSt) : (setPair s x).pwr = s.pwr := rfl
@[simp] theorem setPair_start (s : State) (x : PairSt) : (setPair s x).start = s.start := rfl
@[simp] theorem setPair_fwu (s : State) (x : PairSt) : (setPair s x).fwu = s.fwu := rfl
@[simp] theorem setPair_test (s : State) (x : PairSt) : (setPair s x).test = s.test := rfl
@[simp] theorem setPair_jmem (s : State) (x : PairSt) : (setPair s x).jmem = s.jmem := rfl
@[simp] theorem setPair_watchNs (s : State) (x : PairSt) : (setPair s x).watchNs = s.watchNs := rfl

/-! ## setCul -/

@[simp] theorem setCul_pending (s : State) (x : CulSt) : (setCul s x).pending = s.pending := rfl
@[simp] theorem setCul_out (s : State) (x : CulSt) : (setCul s x).out = s.out := rfl
@[simp] theorem setCul_fresh (s : State) (x : CulSt) : (setCul s x).fresh = s.fresh := rfl
@[simp] theorem setCul_regs (s : State) (x : CulSt) : (setCul s x).regs = s.regs := rfl
@[simp] theorem setCul_frozen (s : State) (x : CulSt) : (setCul s x).frozen = s.frozen := rfl
@[simp] theorem setCul_dev (s : State) (x : CulSt) : (setCul s x).dev = s.dev := rfl
@[simp] theorem setCul_intr (s : State) (x : CulSt) : (setCul s x).intr = s.intr := rfl
@[simp] theorem setCul_ring (s : State) (x : CulSt) : (setCul s x).ring = s.ring := rfl
@[simp] theorem setCul_seq (s : State) (x : CulSt) : (setCul s x).seq = s.seq := rfl
@[simp] theorem setCul_sw (s : State) (x : CulSt) : (setCul s x).sw = s.sw := rfl
@[simp] theorem setCul_meter (s : State) (x : CulSt) : (setCul s x).meter = s.meter := rfl
@[simp] theorem setCul_pair (s : State) (x : CulSt) : (setCul s x).pair = s.pair := rfl
@[simp] theorem setCul_time (s : State) (x : CulSt) : (setCul s x).time = s.time := rfl
@[simp] theorem setCul_brg (s : State) (x : CulSt) : (setCul s x).brg = s.brg := rfl
@[simp] theorem setCul_fld (s : State) (x : CulSt) : (setCul s x).fld = s.fld := rfl
@[simp] theorem setCul_usb (s : State) (x : CulSt) : (setCul s x).usb = s.usb := rfl
@[simp] theorem setCul_pwr (s : State) (x : CulSt) : (setCul s x).pwr = s.pwr := rfl
@[simp] theorem setCul_start (s : State) (x : CulSt) : (setCul s x).start = s.start := rfl
@[simp] theorem setCul_fwu (s : State) (x : CulSt) : (setCul s x).fwu = s.fwu := rfl
@[simp] theorem setCul_test (s : State) (x : CulSt) : (setCul s x).test = s.test := rfl
@[simp] theorem setCul_jmem (s : State) (x : CulSt) : (setCul s x).jmem = s.jmem := rfl
@[simp] theorem setCul_watchNs (s : State) (x : CulSt) : (setCul s x).watchNs = s.watchNs := rfl

/-! ## setBrg -/

@[simp] theorem setBrg_pending (s : State) (x : BridgeSt) : (setBrg s x).pending = s.pending := rfl
@[simp] theorem setBrg_out (s : State) (x : BridgeSt) : (setBrg s x).out = s.out := rfl
@[simp] theorem setBrg_fresh (s : State) (x : BridgeSt) : (setBrg s x).fresh = s.fresh := rfl
@[simp] theorem setBrg_regs (s : State) (x : BridgeSt) : (setBrg s x).regs = s.regs := rfl
@[simp] theorem setBrg_frozen (s : State) (x : BridgeSt) : (setBrg s x).frozen = s.frozen := rfl
@[simp] theorem setBrg_dev (s : State) (x : BridgeSt) : (setBrg s x).dev = s.dev := rfl
@[simp] theorem setBrg_intr (s : State) (x : BridgeSt) : (setBrg s x).intr = s.intr := rfl
@[simp] theorem setBrg_ring (s : State) (x : BridgeSt) : (setBrg s x).ring = s.ring := rfl
@[simp] theorem setBrg_seq (s : State) (x : BridgeSt) : (setBrg s x).seq = s.seq := rfl
@[simp] theorem setBrg_sw (s : State) (x : BridgeSt) : (setBrg s x).sw = s.sw := rfl
@[simp] theorem setBrg_meter (s : State) (x : BridgeSt) : (setBrg s x).meter = s.meter := rfl
@[simp] theorem setBrg_pair (s : State) (x : BridgeSt) : (setBrg s x).pair = s.pair := rfl
@[simp] theorem setBrg_time (s : State) (x : BridgeSt) : (setBrg s x).time = s.time := rfl
@[simp] theorem setBrg_cul (s : State) (x : BridgeSt) : (setBrg s x).cul = s.cul := rfl
@[simp] theorem setBrg_fld (s : State) (x : BridgeSt) : (setBrg s x).fld = s.fld := rfl
@[simp] theorem setBrg_usb (s : State) (x : BridgeSt) : (setBrg s x).usb = s.usb := rfl
@[simp] theorem setBrg_pwr (s : State) (x : BridgeSt) : (setBrg s x).pwr = s.pwr := rfl
@[simp] theorem setBrg_start (s : State) (x : BridgeSt) : (setBrg s x).start = s.start := rfl
@[simp] theorem setBrg_fwu (s : State) (x : BridgeSt) : (setBrg s x).fwu = s.fwu := rfl
@[simp] theorem setBrg_test (s : State) (x : BridgeSt) : (setBrg s x).test = s.test := rfl
@[simp] theorem setBrg_jmem (s : State) (x : BridgeSt) : (setBrg s x).jmem = s.jmem := rfl
@[simp] theorem setBrg_watchNs (s : State) (x : BridgeSt) : (setBrg s x).watchNs = s.watchNs := rfl

/-! ## setUsb -/

@[simp] theorem setUsb_pending (s : State) (x : UsbSt) : (setUsb s x).pending = s.pending := rfl
@[simp] theorem setUsb_out (s : State) (x : UsbSt) : (setUsb s x).out = s.out := rfl
@[simp] theorem setUsb_fresh (s : State) (x : UsbSt) : (setUsb s x).fresh = s.fresh := rfl
@[simp] theorem setUsb_regs (s : State) (x : UsbSt) : (setUsb s x).regs = s.regs := rfl
@[simp] theorem setUsb_frozen (s : State) (x : UsbSt) : (setUsb s x).frozen = s.frozen := rfl
@[simp] theorem setUsb_dev (s : State) (x : UsbSt) : (setUsb s x).dev = s.dev := rfl
@[simp] theorem setUsb_intr (s : State) (x : UsbSt) : (setUsb s x).intr = s.intr := rfl
@[simp] theorem setUsb_ring (s : State) (x : UsbSt) : (setUsb s x).ring = s.ring := rfl
@[simp] theorem setUsb_seq (s : State) (x : UsbSt) : (setUsb s x).seq = s.seq := rfl
@[simp] theorem setUsb_sw (s : State) (x : UsbSt) : (setUsb s x).sw = s.sw := rfl
@[simp] theorem setUsb_meter (s : State) (x : UsbSt) : (setUsb s x).meter = s.meter := rfl
@[simp] theorem setUsb_pair (s : State) (x : UsbSt) : (setUsb s x).pair = s.pair := rfl
@[simp] theorem setUsb_time (s : State) (x : UsbSt) : (setUsb s x).time = s.time := rfl
@[simp] theorem setUsb_cul (s : State) (x : UsbSt) : (setUsb s x).cul = s.cul := rfl
@[simp] theorem setUsb_brg (s : State) (x : UsbSt) : (setUsb s x).brg = s.brg := rfl
@[simp] theorem setUsb_fld (s : State) (x : UsbSt) : (setUsb s x).fld = s.fld := rfl
@[simp] theorem setUsb_pwr (s : State) (x : UsbSt) : (setUsb s x).pwr = s.pwr := rfl
@[simp] theorem setUsb_start (s : State) (x : UsbSt) : (setUsb s x).start = s.start := rfl
@[simp] theorem setUsb_fwu (s : State) (x : UsbSt) : (setUsb s x).fwu = s.fwu := rfl
@[simp] theorem setUsb_test (s : State) (x : UsbSt) : (setUsb s x).test = s.test := rfl
@[simp] theorem setUsb_jmem (s : State) (x : UsbSt) : (setUsb s x).jmem = s.jmem := rfl
@[simp] theorem setUsb_watchNs (s : State) (x : UsbSt) : (setUsb s x).watchNs = s.watchNs := rfl

/-! ## setPwr -/

@[simp] theorem setPwr_pending (s : State) (x : PwrSt) : (setPwr s x).pending = s.pending := rfl
@[simp] theorem setPwr_out (s : State) (x : PwrSt) : (setPwr s x).out = s.out := rfl
@[simp] theorem setPwr_fresh (s : State) (x : PwrSt) : (setPwr s x).fresh = s.fresh := rfl
@[simp] theorem setPwr_regs (s : State) (x : PwrSt) : (setPwr s x).regs = s.regs := rfl
@[simp] theorem setPwr_frozen (s : State) (x : PwrSt) : (setPwr s x).frozen = s.frozen := rfl
@[simp] theorem setPwr_dev (s : State) (x : PwrSt) : (setPwr s x).dev = s.dev := rfl
@[simp] theorem setPwr_intr (s : State) (x : PwrSt) : (setPwr s x).intr = s.intr := rfl
@[simp] theorem setPwr_ring (s : State) (x : PwrSt) : (setPwr s x).ring = s.ring := rfl
@[simp] theorem setPwr_seq (s : State) (x : PwrSt) : (setPwr s x).seq = s.seq := rfl
@[simp] theorem setPwr_sw (s : State) (x : PwrSt) : (setPwr s x).sw = s.sw := rfl
@[simp] theorem setPwr_meter (s : State) (x : PwrSt) : (setPwr s x).meter = s.meter := rfl
@[simp] theorem setPwr_pair (s : State) (x : PwrSt) : (setPwr s x).pair = s.pair := rfl
@[simp] theorem setPwr_time (s : State) (x : PwrSt) : (setPwr s x).time = s.time := rfl
@[simp] theorem setPwr_cul (s : State) (x : PwrSt) : (setPwr s x).cul = s.cul := rfl
@[simp] theorem setPwr_brg (s : State) (x : PwrSt) : (setPwr s x).brg = s.brg := rfl
@[simp] theorem setPwr_fld (s : State) (x : PwrSt) : (setPwr s x).fld = s.fld := rfl
@[simp] theorem setPwr_usb (s : State) (x : PwrSt) : (setPwr s x).usb = s.usb := rfl
@[simp] theorem setPwr_start (s : State) (x : PwrSt) : (setPwr s x).start = s.start := rfl
@[simp] theorem setPwr_fwu (s : State) (x : PwrSt) : (setPwr s x).fwu = s.fwu := rfl
@[simp] theorem setPwr_test (s : State) (x : PwrSt) : (setPwr s x).test = s.test := rfl
@[simp] theorem setPwr_jmem (s : State) (x : PwrSt) : (setPwr s x).jmem = s.jmem := rfl
@[simp] theorem setPwr_watchNs (s : State) (x : PwrSt) : (setPwr s x).watchNs = s.watchNs := rfl

/-! ## setFifo -/

@[simp] theorem setFifo_pending (s : State) (k : Nat) (x : FifoSt) : (setFifo s k x).pending = s.pending := rfl
@[simp] theorem setFifo_out (s : State) (k : Nat) (x : FifoSt) : (setFifo s k x).out = s.out := rfl
@[simp] theorem setFifo_fresh (s : State) (k : Nat) (x : FifoSt) : (setFifo s k x).fresh = s.fresh := rfl
@[simp] theorem setFifo_regs (s : State) (k : Nat) (x : FifoSt) : (setFifo s k x).regs = s.regs := rfl
@[simp] theorem setFifo_frozen (s : State) (k : Nat) (x : FifoSt) : (setFifo s k x).frozen = s.frozen := rfl
@[simp] theorem setFifo_dev (s : State) (k : Nat) (x : FifoSt) : (setFifo s k x).dev = s.dev := rfl
@[simp] theorem setFifo_intr (s : State) (k : Nat) (x : FifoSt) : (setFifo s k x).intr = s.intr := rfl
@[simp] theorem setFifo_ring (s : State) (k : Nat) (x : FifoSt) : (setFifo s k x).ring = s.ring := rfl
@[simp] theorem setFifo_seq (s : State) (k : Nat) (x : FifoSt) : (setFifo s k x).seq = s.seq := rfl
@[simp] theorem setFifo_sw (s : State) (k : Nat) (x : FifoSt) : (setFifo s k x).sw = s.sw := rfl
@[simp] theorem setFifo_meter (s : State) (k : Nat) (x : FifoSt) : (setFifo s k x).meter = s.meter := rfl
@[simp] theorem setFifo_pair (s : State) (k : Nat) (x : FifoSt) : (setFifo s k x).pair = s.pair := rfl
@[simp] theorem setFifo_time (s : State) (k : Nat) (x : FifoSt) : (setFifo s k x).time = s.time := rfl
@[simp] theorem setFifo_cul (s : State) (k : Nat) (x : FifoSt) : (setFifo s k x).cul = s.cul := rfl
@[simp] theorem setFifo_brg (s : State) (k : Nat) (x : FifoSt) : (setFifo s k x).brg = s.brg := rfl
@[simp] theorem setFifo_usb (s : State) (k : Nat) (x : FifoSt) : (setFifo s k x).usb = s.usb := rfl
@[simp] theorem setFifo_pwr (s : State) (k : Nat) (x : FifoSt) : (setFifo s k x).pwr = s.pwr := rfl
@[simp] theorem setFifo_start (s : State) (k : Nat) (x : FifoSt) : (setFifo s k x).start = s.start := rfl
@[simp] theorem setFifo_fwu (s : State) (k : Nat) (x : FifoSt) : (setFifo s k x).fwu = s.fwu := rfl
@[simp] theorem setFifo_test (s : State) (k : Nat) (x : FifoSt) : (setFifo s k x).test = s.test := rfl
@[simp] theorem setFifo_jmem (s : State) (k : Nat) (x : FifoSt) : (setFifo s k x).jmem = s.jmem := rfl
@[simp] theorem setFifo_watchNs (s : State) (k : Nat) (x : FifoSt) : (setFifo s k x).watchNs = s.watchNs := rfl

/-! ## setSer -/

@[simp] theorem setSer_pending (s : State) (k : Nat) (x : SerSt) : (setSer s k x).pending = s.pending := rfl
@[simp] theorem setSer_out (s : State) (k : Nat) (x : SerSt) : (setSer s k x).out = s.out := rfl
@[simp] theorem setSer_fresh (s : State) (k : Nat) (x : SerSt) : (setSer s k x).fresh = s.fresh := rfl
@[simp] theorem setSer_regs (s : State) (k : Nat) (x : SerSt) : (setSer s k x).regs = s.regs := rfl
@[simp] theorem setSer_frozen (s : State) (k : Nat) (x : SerSt) : (setSer s k x).frozen = s.frozen := rfl
@[simp] theorem setSer_dev (s : State) (k : Nat) (x : SerSt) : (setSer s k x).dev = s.dev := rfl
@[simp] theorem setSer_intr (s : State) (k : Nat) (x : SerSt) : (setSer s k x).intr = s.intr := rfl
@[simp] theorem setSer_ring (s : State) (k : Nat) (x : SerSt) : (setSer s k x).ring = s.ring := rfl
@[simp] theorem setSer_seq (s : State) (k : Nat) (x : SerSt) : (setSer s k x).seq = s.seq := rfl
@[simp] theorem setSer_sw (s : State) (k : Nat) (x : SerSt) : (setSer s k x).sw = s.sw := rfl
@[simp] theorem setSer_meter (s : State) (k : Nat) (x : SerSt) : (setSer s k x).meter = s.meter := rfl
@[simp] theorem setSer_pair (s : State) (k : Nat) (x : SerSt) : (setSer s k x).pair = s.pair := rfl
@[simp] theorem setSer_time (s : State) (k : Nat) (x : SerSt) : (setSer s k x).time = s.time := rfl
@[simp] theorem setSer_cul (s : State) (k : Nat) (x : SerSt) : (setSer s k x).cul = s.cul := rfl
@[simp] theorem setSer_brg (s : State) (k : Nat) (x : SerSt) : (setSer s k x).brg = s.brg := rfl
@[simp] theorem setSer_usb (s : State) (k : Nat) (x : SerSt) : (setSer s k x).usb = s.usb := rfl
@[simp] theorem setSer_pwr (s : State) (k : Nat) (x : SerSt) : (setSer s k x).pwr = s.pwr := rfl
@[simp] theorem setSer_start (s : State) (k : Nat) (x : SerSt) : (setSer s k x).start = s.start := rfl
@[simp] theorem setSer_fwu (s : State) (k : Nat) (x : SerSt) : (setSer s k x).fwu = s.fwu := rfl
@[simp] theorem setSer_test (s : State) (k : Nat) (x : SerSt) : (setSer s k x).test = s.test := rfl
@[simp] theorem setSer_jmem (s : State) (k : Nat) (x : SerSt) : (setSer s k x).jmem = s.jmem := rfl
@[simp] theorem setSer_watchNs (s : State) (k : Nat) (x : SerSt) : (setSer s k x).watchNs = s.watchNs := rfl

/-! ## setBen -/

@[simp] theorem setBen_pending (s : State) (k : Nat) (x : BenSt) : (setBen s k x).pending = s.pending := rfl
@[simp] theorem setBen_out (s : State) (k : Nat) (x : BenSt) : (setBen s k x).out = s.out := rfl
@[simp] theorem setBen_fresh (s : State) (k : Nat) (x : BenSt) : (setBen s k x).fresh = s.fresh := rfl
@[simp] theorem setBen_regs (s : State) (k : Nat) (x : BenSt) : (setBen s k x).regs = s.regs := rfl
@[simp] theorem setBen_frozen (s : State) (k : Nat) (x : BenSt) : (setBen s k x).frozen = s.frozen := rfl
@[simp] theorem setBen_dev (s : State) (k : Nat) (x : BenSt) : (setBen s k x).dev = s.dev := rfl
@[simp] theorem setBen_intr (s : State) (k : Nat) (x : BenSt) : (setBen s k x).intr = s.intr := rfl
@[simp] theorem setBen_ring (s : State) (k : Nat) (x : BenSt) : (setBen s k x).ring = s.ring := rfl
@[simp] theorem setBen_seq (s : State) (k : Nat) (x : BenSt) : (setBen s k x).seq = s.seq := rfl
@[simp] theorem setBen_sw (s : State) (k : Nat) (x : BenSt) : (setBen s k x).sw = s.sw := rfl
@[simp] theorem setBen_meter (s : State) (k : Nat) (x : BenSt) : (setBen s k x).meter = s.meter := rfl
@[simp] theorem setBen_pair (s : State) (k : Nat) (x : BenSt) : (setBen s k x).pair = s.pair := rfl
@[simp] theorem setBen_time (s : State) (k : Nat) (x : BenSt) : (setBen s k x).time = s.time := rfl
@[simp] theorem setBen_cul (s : State) (k : Nat) (x : BenSt) : (setBen s k x).cul = s.cul := rfl
@[simp] theorem setBen_brg (s : State) (k : Nat) (x : BenSt) : (setBen s k x).brg = s.brg := rfl
@[simp] theorem setBen_usb (s : State) (k : Nat) (x : BenSt) : (setBen s k x).usb = s.usb := rfl
@[simp] theorem setBen_pwr (s : State) (k : Nat) (x : BenSt) : (setBen s k x).pwr = s.pwr := rfl
@[simp] theorem setBen_start (s : State) (k : Nat) (x : BenSt) : (setBen s k x).start = s.start := rfl
@[simp] theorem setBen_fwu (s : State) (k : Nat) (x : BenSt) : (setBen s k x).fwu = s.fwu := rfl
@[simp] theorem setBen_test (s : State) (k : Nat) (x : BenSt) : (setBen s k x).test = s.test := rfl
@[simp] theorem setBen_jmem (s : State) (k : Nat) (x : BenSt) : (setBen s k x).jmem = s.jmem := rfl
@[simp] theorem setBen_watchNs (s : State) (k : Nat) (x : BenSt) : (setBen s k x).watchNs = s.watchNs := rfl

/-! ## setCan -/

@[simp] theorem setCan_pending (s : State) (k : Nat) (x : CanSt) : (setCan s k x).pending = s.pending := rfl
@[simp] theorem setCan_out (s : State) (k : Nat) (x : CanSt) : (setCan s k x).out = s.out := rfl
@[simp] theorem setCan_fresh (s : State) (k : Nat) (x : CanSt) : (setCan s k x).fresh = s.fresh := rfl
@[simp] theorem setCan_regs (s : State) (k : Nat) (x : CanSt) : (setCan s k x).regs = s.regs := rfl
@[simp] theorem setCan_frozen (s : State) (k : Nat) (x : CanSt) : (setCan s k x).frozen = s.frozen := rfl
@[simp] theorem setCan_dev (s : State) (k : Nat) (x : CanSt) : (setCan s k x).dev = s.dev := rfl
@[simp] theorem setCan_intr (s : State) (k : Nat) (x : CanSt) : (setCan s k x).intr = s.intr := rfl
@[simp] theorem setCan_ring (s : State) (k : Nat) (x : CanSt) : (setCan s k x).ring = s.ring := rfl
@[simp] theorem setCan_seq (s : State) (k : Nat) (x : CanSt) : (setCan s k x).seq = s.seq := rfl
@[simp] theorem setCan_sw (s : State) (k : Nat) (x : CanSt) : (setCan s k x).sw = s.sw := rfl
@[simp] theorem setCan_meter (s : State) (k : Nat) (x : CanSt) : (setCan s k x).meter = s.meter := rfl
@[simp] theorem setCan_pair (s : State) (k : Nat) (x : CanSt) : (setCan s k x).pair = s.pair := rfl
@[simp] theorem setCan_time (s : State) (k : Nat) (x : CanSt) : (setCan s k x).time = s.time := rfl
@[simp] theorem setCan_cul (s : State) (k : Nat) (x : CanSt) : (setCan s k x).cul = s.cul := rfl
@[simp] theorem setCan_brg (s : State) (k : Nat) (x : CanSt) : (setCan s k x).brg = s.brg := rfl
@[simp] theorem setCan_usb (s : State) (k : Nat) (x : CanSt) : (setCan s k x).usb = s.usb := rfl
@[simp] theorem setCan_pwr (s : State) (k : Nat) (x : CanSt) : (setCan s k x).pwr = s.pwr := rfl
@[simp] theorem setCan_start (s : State) (k : Nat) (x : CanSt) : (setCan s k x).start = s.start := rfl
@[simp] theorem setCan_fwu (s : State) (k : Nat) (x : CanSt) : (setCan s k x).fwu = s.fwu := rfl
@[simp] theorem setCan_test (s : State) (k : Nat) (x : CanSt) : (setCan s k x).test = s.test := rfl
@[simp] theorem setCan_jmem (s : State) (k : Nat) (x : CanSt) : (setCan s k x).jmem = s.jmem := rfl
@[simp] theorem setCan_watchNs (s : State) (k : Nat) (x : CanSt) : (setCan s k x).watchNs = s.watchNs := rfl

/-! ## setDi -/

@[simp] theorem setDi_pending (s : State) (k : Nat) (x : DiSt) : (setDi s k x).pending = s.pending := rfl
@[simp] theorem setDi_out (s : State) (k : Nat) (x : DiSt) : (setDi s k x).out = s.out := rfl
@[simp] theorem setDi_fresh (s : State) (k : Nat) (x : DiSt) : (setDi s k x).fresh = s.fresh := rfl
@[simp] theorem setDi_regs (s : State) (k : Nat) (x : DiSt) : (setDi s k x).regs = s.regs := rfl
@[simp] theorem setDi_frozen (s : State) (k : Nat) (x : DiSt) : (setDi s k x).frozen = s.frozen := rfl
@[simp] theorem setDi_dev (s : State) (k : Nat) (x : DiSt) : (setDi s k x).dev = s.dev := rfl
@[simp] theorem setDi_intr (s : State) (k : Nat) (x : DiSt) : (setDi s k x).intr = s.intr := rfl
@[simp] theorem setDi_ring (s : State) (k : Nat) (x : DiSt) : (setDi s k x).ring = s.ring := rfl
@[simp] theorem setDi_seq (s : State) (k : Nat) (x : DiSt) : (setDi s k x).seq = s.seq := rfl
@[simp] theorem setDi_sw (s : State) (k : Nat) (x : DiSt) : (setDi s k x).sw = s.sw := rfl
@[simp] theorem setDi_meter (s : State) (k : Nat) (x : DiSt) : (setDi s k x).meter = s.meter := rfl
@[simp] theorem setDi_pair (s : State) (k : Nat) (x : DiSt) : (setDi s k x).pair = s.pair := rfl
@[simp] theorem setDi_time (s : State) (k : Nat) (x : DiSt) : (setDi s k x).time = s.time := rfl
@[simp] theorem setDi_cul (s : State) (k : Nat) (x : DiSt) : (setDi s k x).cul = s.cul := rfl
@[simp] theorem setDi_brg (s : State) (k : Nat) (x : DiSt) : (setDi s k x).brg = s.brg := rfl
@[simp] theorem setDi_usb (s : State) (k : Nat) (x : DiSt) : (setDi s k x).usb = s.usb := rfl
@[simp] theorem setDi_pwr (s : State) (k : Nat) (x : DiSt) : (setDi s k x).pwr = s.pwr := rfl
@[simp] theorem setDi_start (s : State) (k : Nat) (x : DiSt) : (setDi s k x).start = s.start := rfl
@[simp] theorem setDi_fwu (s : State) (k : Nat) (x : DiSt) : (setDi s k x).fwu = s.fwu := rfl
@[simp] theorem setDi_test (s : State) (k : Nat) (x : DiSt) : (setDi s k x).test = s.test := rfl
@[simp] theorem setDi_jmem (s : State) (k : Nat) (x : DiSt) : (setDi s k x).jmem = s.jmem := rfl
@[simp] theorem setDi_watchNs (s : State) (k : Nat) (x : DiSt) : (setDi s k x).watchNs = s.watchNs := rfl

/-! ## setSlot -/

@[simp] theorem setSlot_pending (s : State) (k : Nat) (x : Slot) : (setSlot s k x).pending = s.pending := rfl
@[simp] theorem setSlot_out (s : State) (k : Nat) (x : Slot) : (setSlot s k x).out = s.out := rfl
@[simp] theorem setSlot_fresh (s : State) (k : Nat) (x : Slot) : (setSlot s k x).fresh = s.fresh := rfl
@[simp] theorem setSlot_regs (s : State) (k : Nat) (x : Slot) : (setSlot s k x).regs = s.regs := rfl
@[simp] theorem setSlot_frozen (s : State) (k : Nat) (x : Slot) : (setSlot s k x).frozen = s.frozen := rfl
@[simp] theorem setSlot_dev (s : State) (k : Nat) (x : Slot) : (setSlot s k x).dev = s.dev := rfl
@[simp] theorem setSlot_intr (s : State) (k : Nat) (x : Slot) : (setSlot s k x).intr = s.intr := rfl
@[simp] theorem setSlot_ring (s : State) (k : Nat) (x : Slot) : (setSlot s k x).ring = s.ring := rfl
@[simp] theorem setSlot_seq (s : State) (k : Nat) (x : Slot) : (setSlot s k x).seq = s.seq := rfl
@[simp] theorem setSlot_sw (s : State) (k : Nat) (x : Slot) : (setSlot s k x).sw = s.sw := rfl
@[simp] theorem setSlot_meter (s : State) (k : Nat) (x : Slot) : (setSlot s k x).meter = s.meter := rfl
@[simp] theorem setSlot_pair (s : State) (k : Nat) (x : Slot) : (setSlot s k x).pair = s.pair := rfl
@[simp] theorem setSlot_time (s : State) (k : Nat) (x : Slot) : (setSlot s k x).time = s.time := rfl
@[simp] theorem setSlot_cul (s : State) (k : Nat) (x : Slot) : (setSlot s k x).cul = s.cul := rfl
@[simp] theorem setSlot_brg (s : State) (k : Nat) (x : Slot) : (setSlot s k x).brg = s.brg := rfl
@[simp] theorem setSlot_fld (s : State) (k : Nat) (x : Slot) : (setSlot s k x).fld = s.fld := rfl
@[simp] theorem setSlot_usb (s : State) (k : Nat) (x : Slot) : (setSlot s k x).usb = s.usb := rfl
@[simp] theorem setSlot_pwr (s : State) (k : Nat) (x : Slot) : (setSlot s k x).pwr = s.pwr := rfl
@[simp] theorem setSlot_start (s : State) (k : Nat) (x : Slot) : (setSlot s k x).start = s.start := rfl
@[simp] theorem setSlot_test (s : State) (k : Nat) (x : Slot) : (setSlot s k x).test = s.test := rfl
@[simp] theorem setSlot_jmem (s : State) (k : Nat) (x : Slot) : (setSlot s k x).jmem = s.jmem := rfl
@[simp] theorem setSlot_watchNs (s : State) (k : Nat) (x : Slot) : (setSlot s k x).watchNs = s.watchNs := rfl

/-! ## setWit -/

@[simp] theorem setWit_pending (s : State) (k : Nat) (x : WitSlot) : (setWit s k x).pending = s.pending := rfl
@[simp] theorem setWit_out (s : State) (k : Nat) (x : WitSlot) : (setWit s k x).out = s.out := rfl
@[simp] theorem setWit_fresh (s : State) (k : Nat) (x : WitSlot) : (setWit s k x).fresh = s.fresh := rfl
@[simp] theorem setWit_regs (s : State) (k : Nat) (x : WitSlot) : (setWit s k x).regs = s.regs := rfl
@[simp] theorem setWit_frozen (s : State) (k : Nat) (x : WitSlot) : (setWit s k x).frozen = s.frozen := rfl
@[simp] theorem setWit_dev (s : State) (k : Nat) (x : WitSlot) : (setWit s k x).dev = s.dev := rfl
@[simp] theorem setWit_intr (s : State) (k : Nat) (x : WitSlot) : (setWit s k x).intr = s.intr := rfl
@[simp] theorem setWit_ring (s : State) (k : Nat) (x : WitSlot) : (setWit s k x).ring = s.ring := rfl
@[simp] theorem setWit_seq (s : State) (k : Nat) (x : WitSlot) : (setWit s k x).seq = s.seq := rfl
@[simp] theorem setWit_sw (s : State) (k : Nat) (x : WitSlot) : (setWit s k x).sw = s.sw := rfl
@[simp] theorem setWit_meter (s : State) (k : Nat) (x : WitSlot) : (setWit s k x).meter = s.meter := rfl
@[simp] theorem setWit_time (s : State) (k : Nat) (x : WitSlot) : (setWit s k x).time = s.time := rfl
@[simp] theorem setWit_cul (s : State) (k : Nat) (x : WitSlot) : (setWit s k x).cul = s.cul := rfl
@[simp] theorem setWit_brg (s : State) (k : Nat) (x : WitSlot) : (setWit s k x).brg = s.brg := rfl
@[simp] theorem setWit_fld (s : State) (k : Nat) (x : WitSlot) : (setWit s k x).fld = s.fld := rfl
@[simp] theorem setWit_usb (s : State) (k : Nat) (x : WitSlot) : (setWit s k x).usb = s.usb := rfl
@[simp] theorem setWit_pwr (s : State) (k : Nat) (x : WitSlot) : (setWit s k x).pwr = s.pwr := rfl
@[simp] theorem setWit_start (s : State) (k : Nat) (x : WitSlot) : (setWit s k x).start = s.start := rfl
@[simp] theorem setWit_fwu (s : State) (k : Nat) (x : WitSlot) : (setWit s k x).fwu = s.fwu := rfl
@[simp] theorem setWit_test (s : State) (k : Nat) (x : WitSlot) : (setWit s k x).test = s.test := rfl
@[simp] theorem setWit_jmem (s : State) (k : Nat) (x : WitSlot) : (setWit s k x).jmem = s.jmem := rfl
@[simp] theorem setWit_watchNs (s : State) (k : Nat) (x : WitSlot) : (setWit s k x).watchNs = s.watchNs := rfl

/-! ## irqEvent -/

@[simp] theorem irqEvent_pending (s : State) (p b : Nat) : (irqEvent s p b).pending = s.pending := by unfold irqEvent; dsimp only; split <;> rfl
@[simp] theorem irqEvent_out (s : State) (p b : Nat) : (irqEvent s p b).out = s.out := by unfold irqEvent; dsimp only; split <;> rfl
@[simp] theorem irqEvent_fresh (s : State) (p b : Nat) : (irqEvent s p b).fresh = s.fresh := by unfold irqEvent; dsimp only; split <;> rfl
@[simp] theorem irqEvent_frozen (s : State) (p b : Nat) : (irqEvent s p b).frozen = s.frozen := by unfold irqEvent; dsimp only; split <;> rfl
@[simp] theorem irqEvent_dev (s : State) (p b : Nat) : (irqEvent s p b).dev = s.dev := by unfold irqEvent; dsimp only; split <;> rfl
@[simp] theorem irqEvent_intr (s : State) (p b : Nat) : (irqEvent s p b).intr = s.intr := by unfold irqEvent; dsimp only; split <;> rfl
@[simp] theorem irqEvent_ring (s : State) (p b : Nat) : (irqEvent s p b).ring = s.ring := by unfold irqEvent; dsimp only; split <;> rfl
@[simp] theorem irqEvent_seq (s : State) (p b : Nat) : (irqEvent s p b).seq = s.seq := by unfold irqEvent; dsimp only; split <;> rfl
@[simp] theorem irqEvent_sw (s : State) (p b : Nat) : (irqEvent s p b).sw = s.sw := by unfold irqEvent; dsimp only; split <;> rfl
@[simp] theorem irqEvent_meter (s : State) (p b : Nat) : (irqEvent s p b).meter = s.meter := by unfold irqEvent; dsimp only; split <;> rfl
@[simp] theorem irqEvent_pair (s : State) (p b : Nat) : (irqEvent s p b).pair = s.pair := by unfold irqEvent; dsimp only; split <;> rfl
@[simp] theorem irqEvent_time (s : State) (p b : Nat) : (irqEvent s p b).time = s.time := by unfold irqEvent; dsimp only; split <;> rfl
@[simp] theorem irqEvent_cul (s : State) (p b : Nat) : (irqEvent s p b).cul = s.cul := by unfold irqEvent; dsimp only; split <;> rfl
@[simp] theorem irqEvent_brg (s : State) (p b : Nat) : (irqEvent s p b).brg = s.brg := by unfold irqEvent; dsimp only; split <;> rfl
@[simp] theorem irqEvent_fld (s : State) (p b : Nat) : (irqEvent s p b).fld = s.fld := by unfold irqEvent; dsimp only; split <;> rfl
@[simp] theorem irqEvent_usb (s : State) (p b : Nat) : (irqEvent s p b).usb = s.usb := by unfold irqEvent; dsimp only; split <;> rfl
@[simp] theorem irqEvent_pwr (s : State) (p b : Nat) : (irqEvent s p b).pwr = s.pwr := by unfold irqEvent; dsimp only; split <;> rfl
@[simp] theorem irqEvent_start (s : State) (p b : Nat) : (irqEvent s p b).start = s.start := by unfold irqEvent; dsimp only; split <;> rfl
@[simp] theorem irqEvent_fwu (s : State) (p b : Nat) : (irqEvent s p b).fwu = s.fwu := by unfold irqEvent; dsimp only; split <;> rfl
@[simp] theorem irqEvent_test (s : State) (p b : Nat) : (irqEvent s p b).test = s.test := by unfold irqEvent; dsimp only; split <;> rfl
@[simp] theorem irqEvent_jmem (s : State) (p b : Nat) : (irqEvent s p b).jmem = s.jmem := by unfold irqEvent; dsimp only; split <;> rfl
@[simp] theorem irqEvent_watchNs (s : State) (p b : Nat) : (irqEvent s p b).watchNs = s.watchNs := by unfold irqEvent; dsimp only; split <;> rfl

/-! ## recordErr -/

@[simp] theorem recordErr_pending (s : State) (p : Nat) (e : ErrNote) : (recordErr s p e).pending = s.pending := by unfold recordErr; dsimp only; split <;> simp
@[simp] theorem recordErr_out (s : State) (p : Nat) (e : ErrNote) : (recordErr s p e).out = s.out := by unfold recordErr; dsimp only; split <;> simp
@[simp] theorem recordErr_fresh (s : State) (p : Nat) (e : ErrNote) : (recordErr s p e).fresh = s.fresh := by unfold recordErr; dsimp only; split <;> simp
@[simp] theorem recordErr_frozen (s : State) (p : Nat) (e : ErrNote) : (recordErr s p e).frozen = s.frozen := by unfold recordErr; dsimp only; split <;> simp
@[simp] theorem recordErr_dev (s : State) (p : Nat) (e : ErrNote) : (recordErr s p e).dev = s.dev := by unfold recordErr; dsimp only; split <;> simp
@[simp] theorem recordErr_intr (s : State) (p : Nat) (e : ErrNote) : (recordErr s p e).intr = s.intr := by unfold recordErr; dsimp only; split <;> simp
@[simp] theorem recordErr_ring (s : State) (p : Nat) (e : ErrNote) : (recordErr s p e).ring = s.ring := by unfold recordErr; dsimp only; split <;> simp
@[simp] theorem recordErr_seq (s : State) (p : Nat) (e : ErrNote) : (recordErr s p e).seq = s.seq := by unfold recordErr; dsimp only; split <;> simp
@[simp] theorem recordErr_sw (s : State) (p : Nat) (e : ErrNote) : (recordErr s p e).sw = s.sw := by unfold recordErr; dsimp only; split <;> simp
@[simp] theorem recordErr_meter (s : State) (p : Nat) (e : ErrNote) : (recordErr s p e).meter = s.meter := by unfold recordErr; dsimp only; split <;> simp
@[simp] theorem recordErr_pair (s : State) (p : Nat) (e : ErrNote) : (recordErr s p e).pair = s.pair := by unfold recordErr; dsimp only; split <;> simp
@[simp] theorem recordErr_time (s : State) (p : Nat) (e : ErrNote) : (recordErr s p e).time = s.time := by unfold recordErr; dsimp only; split <;> simp
@[simp] theorem recordErr_cul (s : State) (p : Nat) (e : ErrNote) : (recordErr s p e).cul = s.cul := by unfold recordErr; dsimp only; split <;> simp
@[simp] theorem recordErr_brg (s : State) (p : Nat) (e : ErrNote) : (recordErr s p e).brg = s.brg := by unfold recordErr; dsimp only; split <;> simp
@[simp] theorem recordErr_fld (s : State) (p : Nat) (e : ErrNote) : (recordErr s p e).fld = s.fld := by unfold recordErr; dsimp only; split <;> simp
@[simp] theorem recordErr_usb (s : State) (p : Nat) (e : ErrNote) : (recordErr s p e).usb = s.usb := by unfold recordErr; dsimp only; split <;> simp
@[simp] theorem recordErr_pwr (s : State) (p : Nat) (e : ErrNote) : (recordErr s p e).pwr = s.pwr := by unfold recordErr; dsimp only; split <;> simp
@[simp] theorem recordErr_start (s : State) (p : Nat) (e : ErrNote) : (recordErr s p e).start = s.start := by unfold recordErr; dsimp only; split <;> simp
@[simp] theorem recordErr_fwu (s : State) (p : Nat) (e : ErrNote) : (recordErr s p e).fwu = s.fwu := by unfold recordErr; dsimp only; split <;> simp
@[simp] theorem recordErr_test (s : State) (p : Nat) (e : ErrNote) : (recordErr s p e).test = s.test := by unfold recordErr; dsimp only; split <;> simp
@[simp] theorem recordErr_jmem (s : State) (p : Nat) (e : ErrNote) : (recordErr s p e).jmem = s.jmem := by unfold recordErr; dsimp only; split <;> simp
@[simp] theorem recordErr_watchNs (s : State) (p : Nat) (e : ErrNote) : (recordErr s p e).watchNs = s.watchNs := by unfold recordErr; dsimp only; split <;> simp

/-! ## noteErr -/

@[simp] theorem noteErr_pending (s : State) (p st c r : Nat) : (noteErr s p st c r).pending = s.pending := by simp [noteErr]
@[simp] theorem noteErr_out (s : State) (p st c r : Nat) : (noteErr s p st c r).out = s.out := by simp [noteErr]
@[simp] theorem noteErr_fresh (s : State) (p st c r : Nat) : (noteErr s p st c r).fresh = s.fresh := by simp [noteErr]
@[simp] theorem noteErr_frozen (s : State) (p st c r : Nat) : (noteErr s p st c r).frozen = s.frozen := by simp [noteErr]
@[simp] theorem noteErr_dev (s : State) (p st c r : Nat) : (noteErr s p st c r).dev = s.dev := by simp [noteErr]
@[simp] theorem noteErr_intr (s : State) (p st c r : Nat) : (noteErr s p st c r).intr = s.intr := by simp [noteErr]
@[simp] theorem noteErr_ring (s : State) (p st c r : Nat) : (noteErr s p st c r).ring = s.ring := by simp [noteErr]
@[simp] theorem noteErr_seq (s : State) (p st c r : Nat) : (noteErr s p st c r).seq = s.seq := by simp [noteErr]
@[simp] theorem noteErr_sw (s : State) (p st c r : Nat) : (noteErr s p st c r).sw = s.sw := by simp [noteErr]
@[simp] theorem noteErr_meter (s : State) (p st c r : Nat) : (noteErr s p st c r).meter = s.meter := by simp [noteErr]
@[simp] theorem noteErr_pair (s : State) (p st c r : Nat) : (noteErr s p st c r).pair = s.pair := by simp [noteErr]
@[simp] theorem noteErr_time (s : State) (p st c r : Nat) : (noteErr s p st c r).time = s.time := by simp [noteErr]
@[simp] theorem noteErr_cul (s : State) (p st c r : Nat) : (noteErr s p st c r).cul = s.cul := by simp [noteErr]
@[simp] theorem noteErr_brg (s : State) (p st c r : Nat) : (noteErr s p st c r).brg = s.brg := by simp [noteErr]
@[simp] theorem noteErr_fld (s : State) (p st c r : Nat) : (noteErr s p st c r).fld = s.fld := by simp [noteErr]
@[simp] theorem noteErr_usb (s : State) (p st c r : Nat) : (noteErr s p st c r).usb = s.usb := by simp [noteErr]
@[simp] theorem noteErr_pwr (s : State) (p st c r : Nat) : (noteErr s p st c r).pwr = s.pwr := by simp [noteErr]
@[simp] theorem noteErr_start (s : State) (p st c r : Nat) : (noteErr s p st c r).start = s.start := by simp [noteErr]
@[simp] theorem noteErr_fwu (s : State) (p st c r : Nat) : (noteErr s p st c r).fwu = s.fwu := by simp [noteErr]
@[simp] theorem noteErr_test (s : State) (p st c r : Nat) : (noteErr s p st c r).test = s.test := by simp [noteErr]
@[simp] theorem noteErr_jmem (s : State) (p st c r : Nat) : (noteErr s p st c r).jmem = s.jmem := by simp [noteErr]
@[simp] theorem noteErr_watchNs (s : State) (p st c r : Nat) : (noteErr s p st c r).watchNs = s.watchNs := by simp [noteErr]

/-! ## irqWhile -/

@[simp] theorem irqWhile_pending (s : State) (c : Bool) (p b : Nat) : (irqWhile s c p b).pending = s.pending := by unfold irqWhile; split <;> simp
@[simp] theorem irqWhile_out (s : State) (c : Bool) (p b : Nat) : (irqWhile s c p b).out = s.out := by unfold irqWhile; split <;> simp
@[simp] theorem irqWhile_fresh (s : State) (c : Bool) (p b : Nat) : (irqWhile s c p b).fresh = s.fresh := by unfold irqWhile; split <;> simp
@[simp] theorem irqWhile_frozen (s : State) (c : Bool) (p b : Nat) : (irqWhile s c p b).frozen = s.frozen := by unfold irqWhile; split <;> simp
@[simp] theorem irqWhile_dev (s : State) (c : Bool) (p b : Nat) : (irqWhile s c p b).dev = s.dev := by unfold irqWhile; split <;> simp
@[simp] theorem irqWhile_intr (s : State) (c : Bool) (p b : Nat) : (irqWhile s c p b).intr = s.intr := by unfold irqWhile; split <;> simp
@[simp] theorem irqWhile_ring (s : State) (c : Bool) (p b : Nat) : (irqWhile s c p b).ring = s.ring := by unfold irqWhile; split <;> simp
@[simp] theorem irqWhile_seq (s : State) (c : Bool) (p b : Nat) : (irqWhile s c p b).seq = s.seq := by unfold irqWhile; split <;> simp
@[simp] theorem irqWhile_sw (s : State) (c : Bool) (p b : Nat) : (irqWhile s c p b).sw = s.sw := by unfold irqWhile; split <;> simp
@[simp] theorem irqWhile_meter (s : State) (c : Bool) (p b : Nat) : (irqWhile s c p b).meter = s.meter := by unfold irqWhile; split <;> simp
@[simp] theorem irqWhile_pair (s : State) (c : Bool) (p b : Nat) : (irqWhile s c p b).pair = s.pair := by unfold irqWhile; split <;> simp
@[simp] theorem irqWhile_time (s : State) (c : Bool) (p b : Nat) : (irqWhile s c p b).time = s.time := by unfold irqWhile; split <;> simp
@[simp] theorem irqWhile_cul (s : State) (c : Bool) (p b : Nat) : (irqWhile s c p b).cul = s.cul := by unfold irqWhile; split <;> simp
@[simp] theorem irqWhile_brg (s : State) (c : Bool) (p b : Nat) : (irqWhile s c p b).brg = s.brg := by unfold irqWhile; split <;> simp
@[simp] theorem irqWhile_fld (s : State) (c : Bool) (p b : Nat) : (irqWhile s c p b).fld = s.fld := by unfold irqWhile; split <;> simp
@[simp] theorem irqWhile_usb (s : State) (c : Bool) (p b : Nat) : (irqWhile s c p b).usb = s.usb := by unfold irqWhile; split <;> simp
@[simp] theorem irqWhile_pwr (s : State) (c : Bool) (p b : Nat) : (irqWhile s c p b).pwr = s.pwr := by unfold irqWhile; split <;> simp
@[simp] theorem irqWhile_start (s : State) (c : Bool) (p b : Nat) : (irqWhile s c p b).start = s.start := by unfold irqWhile; split <;> simp
@[simp] theorem irqWhile_fwu (s : State) (c : Bool) (p b : Nat) : (irqWhile s c p b).fwu = s.fwu := by unfold irqWhile; split <;> simp
@[simp] theorem irqWhile_test (s : State) (c : Bool) (p b : Nat) : (irqWhile s c p b).test = s.test := by unfold irqWhile; split <;> simp
@[simp] theorem irqWhile_jmem (s : State) (c : Bool) (p b : Nat) : (irqWhile s c p b).jmem = s.jmem := by unfold irqWhile; split <;> simp
@[simp] theorem irqWhile_watchNs (s : State) (c : Bool) (p b : Nat) : (irqWhile s c p b).watchNs = s.watchNs := by unfold irqWhile; split <;> simp

end Sys2Proof.Machine
end

