-- ==== Sys2Proof/Laws/Frame.lean ====
section
/-! SUPPORT. Laws of what an update leaves alone: registers by key, and everything beside the registers. -/

namespace Sys2Proof.Machine

theorem SameRegs.refl (ks : List Nat) (s : State) : SameRegs ks s s := fun _ _ => rfl

theorem SameRegs.trans {ks : List Nat} {s t u : State} (a : SameRegs ks s t) (b : SameRegs ks t u) : SameRegs ks s u :=
  fun k hk => (b k hk).trans (a k hk)

theorem SameRegs.mono {ks ls : List Nat} {s u : State} (a : SameRegs ks s u) (h : ∀ k ∈ ks, k ∈ ls) : SameRegs ls s u :=
  fun k hk => a k fun x => hk (h k x)

/-- A state with the registers of another one agrees with it on all of them. -/
theorem SameRegs.of_eq {ks : List Nat} {s t u : State} (a : SameRegs ks s t) (h : u.regs = t.regs) : SameRegs ks s u :=
  fun k hk => by rw [h]; exact a k hk

theorem SameRegs.from_eq {ks : List Nat} {s t u : State} (a : SameRegs ks s u) (h : t.regs = s.regs) : SameRegs ks t u :=
  fun k hk => by rw [h]; exact a k hk

theorem SameRegs.setW {ks : List Nat} {s t : State} {p o : Nat} {v : Word} (a : SameRegs ks s t) (h : regKey p o ∈ ks) :
    SameRegs ks s (setW t p o v) := fun k hk => by
  show tabGet (tabSet t.regs (regKey p o) v) k = _
  rw [tabGet_tabSet_ne _ _ (by rintro rfl; exact hk h)]
  exact a k hk

theorem SameRegs.setF {ks : List Nat} {s t : State} {p : Nat} {f : FieldD} {v i : Nat} (a : SameRegs ks s t) (h : fKey p f i ∈ ks) :
    SameRegs ks s (setF t p f v i) := a.setW h

theorem SameRegs.setB {ks : List Nat} {s t : State} {p : Nat} {f : FieldD} {b : Bool} {i : Nat} (a : SameRegs ks s t) (h : fKey p f i ∈ ks) :
    SameRegs ks s (setB t p f b i) := a.setW h

theorem SameRegs.bump {ks : List Nat} {s t : State} {p : Nat} {f : FieldD} {n i : Nat} (a : SameRegs ks s t) (h : fKey p f i ∈ ks) :
    SameRegs ks s (bump t p f n i) := a.setW h

theorem SameRegs.bumpSat {ks : List Nat} {s t : State} {p : Nat} {f : FieldD} {n i : Nat} (a : SameRegs ks s t) (h : fKey p f i ∈ ks) :
    SameRegs ks s (bumpSat t p f n i) := a.setW h

theorem SameRegs.irqEvent {ks : List Nat} {s t : State} {p b : Nat} (a : SameRegs ks s t) (h1 : regKey p 0x10 ∈ ks) (h2 : regKey p 0x18 ∈ ks) :
    SameRegs ks s (irqEvent t p b) := by
  unfold Machine.irqEvent
  dsimp only
  split
  · exact a.setW h1
  · exact (a.setW h1).setW h2

theorem SameRegs.noteErr {ks : List Nat} {s t : State} {p st c r : Nat} (a : SameRegs ks s t) (h : ∀ k ∈ errKeys p, k ∈ ks) :
    SameRegs ks s (noteErr t p st c r) := by
  have h1 : regKey p 0x10 ∈ ks := h _ (by simp [errKeys])
  have h2 : regKey p 0x18 ∈ ks := h _ (by simp [errKeys])
  have h3 : regKey p 0x1C ∈ ks := h _ (by simp [errKeys])
  have h4 : fKey p F.ERR_COUNT_COUNT 0 ∈ ks := h _ (by simp [errKeys, fKey, F.ERR_COUNT_COUNT])
  unfold Machine.noteErr recordErr
  dsimp only
  split
  · exact (a.bumpSat h4).irqEvent h1 h2
  · exact ((a.bumpSat h4).irqEvent h1 h2).setW h3

/-- Registers that read alike by key read alike. -/
theorem SameRegs.getW {ks : List Nat} {s u : State} (a : SameRegs ks s u) {p o : Nat} (h : regKey p o ∉ ks) : getW u p o = getW s p o := by
  simp only [Machine.getW, a _ h]

theorem SameRegs.getF {ks : List Nat} {s u : State} (a : SameRegs ks s u) {p : Nat} {f : FieldD} {i : Nat} (h : fKey p f i ∉ ks) :
    getF u p f i = getF s p f i := by
  simp only [Machine.getF, a.getW h]

@[simp] theorem beside_setW (s : State) (p o : Nat) (v : Word) : beside (setW s p o v) = beside s := rfl
@[simp] theorem beside_setF (s : State) (p : Nat) (f : FieldD) (v i : Nat) : beside (setF s p f v i) = beside s := rfl
@[simp] theorem beside_setB (s : State) (p : Nat) (f : FieldD) (b : Bool) (i : Nat) : beside (setB s p f b i) = beside s := rfl
@[simp] theorem beside_bump (s : State) (p : Nat) (f : FieldD) (n i : Nat) : beside (bump s p f n i) = beside s := rfl
@[simp] theorem beside_bumpSat (s : State) (p : Nat) (f : FieldD) (n i : Nat) : beside (bumpSat s p f n i) = beside s := rfl
@[simp] theorem beside_emit (s : State) (o : Out) : beside (emit s o) = beside s := rfl
@[simp] theorem beside_cleared (s : State) : beside (cleared s) = beside s := rfl
@[simp] theorem beside_irqEvent (s : State) (p b : Nat) : beside (irqEvent s p b) = beside s := by
  unfold irqEvent; dsimp only; split <;> rfl
@[simp] theorem beside_noteErr (s : State) (p st c r : Nat) : beside (noteErr s p st c r) = beside s := by
  unfold noteErr recordErr; dsimp only; split <;> simp

theorem cleared_regs (s : State) : (cleared s).regs = s.regs := rfl

@[simp] theorem getW_cleared (s : State) (p o : Nat) : getW (cleared s) p o = getW s p o := rfl
@[simp] theorem getF_cleared (s : State) (p : Nat) (f : FieldD) (i : Nat) : getF (cleared s) p f i = getF s p f i := rfl
@[simp] theorem getB_cleared (s : State) (p : Nat) (f : FieldD) (i : Nat) : getB (cleared s) p f i = getB s p f i := rfl
@[simp] theorem alive_cleared (s : State) : alive (cleared s) = alive s := rfl

/-- Only-register effects compose. -/
theorem OnlyRegs.trans {ks : List Nat} {s t u : State} (a : OnlyRegs ks s t) (b : OnlyRegs ks t u) : OnlyRegs ks s u :=
  ⟨a.1.trans b.1, b.2.trans a.2⟩

/-- A command that is an effect at a hub that is there completes with that effect. -/
theorem completes_during {c : Instr} {s : State} {f : State → State} {P : State → Prop} (h : alive s = true)
    (e : exec c s = .next (during s f)) (p : P (f (cleared s))) : Completes c s P :=
  ⟨f (cleared s), by rw [e, during_alive h], p⟩

/-- A command that also reaches a hub that is not there completes with its effect. -/
theorem completes_anytime {c : Instr} {s : State} {f : State → State} {P : State → Prop}
    (e : exec c s = .next (anytime s f)) (p : P (f (cleared s))) : Completes c s P :=
  ⟨f (cleared s), e, p⟩

end Sys2Proof.Machine
end

