-- ==== Sys2Proof/Laws/Access.lean ====
section
/-! SUPPORT. Laws of register accesses: what a write does at its page once it reaches it. -/

namespace Sys2Proof.Machine

/-- The state in which an access is judged: it has taken its identifier. -/
def accNext (s : State) : State := setCul s { s.cul with accId := s.cul.accId + 1 }

@[simp] theorem getW_accNext (s : State) (p o : Nat) : getW (accNext s) p o = getW s p o := rfl
@[simp] theorem beside_accNext (s : State) : beside (accNext s) = beside s := rfl

theorem getW_of_regs {s t : State} (h : s.regs = t.regs) (p o : Nat) : getW s p o = getW t p o := by simp only [getW, h]
theorem getF_of_regs {s t : State} (h : s.regs = t.regs) (p : Nat) (f : FieldD) (i : Nat) : getF s p f i = getF t p f i := by
  simp only [getF, getW_of_regs h]
theorem getB_of_regs {s t : State} (h : s.regs = t.regs) (p : Nat) (f : FieldD) (i : Nat) : getB s p f i = getB t p f i := by
  simp only [getB, getF_of_regs h]

/-- A register that a write has left with this value, or that held it. -/
theorem setIf_getW (s : State) (p off : Nat) (v : Word) : getW (if v = getW s p off then s else setW s p off v) p off = v := by
  split
  · rename_i h; exact h.symm
  · exact getW_setW_same _ _ _ _

theorem setIf_only (s : State) (p off : Nat) (v : Word) : OnlyRegs [regKey p off] s (if v = getW s p off then s else setW s p off v) := by
  split
  · exact ⟨SameRegs.refl _ _, rfl⟩
  · exact ⟨(SameRegs.refl _ _).setW (by simp), rfl⟩

theorem getF_of_getW {u : State} {p : Nat} {f : FieldD} {i : Nat} {w : Word} (h : getW u p (f.off + f.stride * i) = w) :
    getF u p f i = wordBits w f.lo f.w := by rw [getF, h]

/-- A flag put into a one-bit field reads back. -/
theorem wordBits_flag (w : Word) (on : Bool) (lo : Nat) (h : lo < 32) : (wordBits (wordPut w lo 1 (if on then 1 else 0)) lo 1 != 0) = on := by
  rw [wordBits_wordPut_same _ _ _ _ (by omega)]; cases on <;> rfl

theorem leBytes_four (v : Word) : leNat (leBytes 4 v.toNat) = v.toNat := by
  have := v.isLt
  simp only [leBytes, leNat, BitVec.toNat_ofNat]
  omega

/-- A whole word written replaces the register. -/
theorem mergeBytes_four (old v : Word) : mergeBytes old 0 (leBytes 4 v.toNat) = v := by
  have e : (leBytes 4 old.toNat).take 0 ++ leBytes 4 v.toNat ++ (leBytes 4 old.toNat).drop (0 + (leBytes 4 v.toNat).length) = leBytes 4 v.toNat := by
    simp [leBytes]
  simp only [mergeBytes, e, leBytes_four, BitVec.ofNat_toNat, BitVec.setWidth_eq]

theorem leBytes_length (n v : Nat) : (leBytes n v).length = n := by
  induction n generalizing v with
  | zero => rfl
  | succ n ih => simp [leBytes, ih]

theorem carriedMask_four : carriedMask 0 4 = 0xFFFFFFFF#32 := by decide

/-- A completed access changes its bookkeeping and outputs only. -/
theorem accEnd_ok (s : State) (who : Agent) (id cause : Nat) (d : List Byte) (e : Exec) :
    ∃ b o, accEnd s who id St.ok cause d e = { s with brg := { s.brg with accs := b }, out := s.out ++ o } := by
  unfold accEnd
  split
  · exact ⟨_, _, rfl⟩
  · dsimp only
    split
    · exact ⟨s.brg.accs, _, by simp only [emit, List.append_assoc]; rfl⟩
    · split
      · rename_i h; exact absurd rfl h.2.2
      · exact ⟨s.brg.accs, _, rfl⟩

/-- A write that is stored: the register holds what its access codes make of it, and what follows from it comes. -/
theorem storeWrite_spec (s : State) {p off : Nat} (v w : Word) (h : off ≠ 0x1C) (h2 : off ≠ 0x14) :
    ∃ t, storeWrite s p off v w = afterWrite t p off (getW s p off) ∧ getW t p off = storedWord p off (getW s p off) v w ∧
      OnlyRegs [regKey p off] s t :=
  ⟨_, by simp only [storeWrite, h, false_and, if_false, if_neg h2], setIf_getW _ _ _ _, setIf_only _ _ _ _⟩

/-- The same of IRQ_EN, whose new bits make raw sources pending (R57). -/
theorem storeWrite_en (s : State) (p : Nat) (v w : Word) :
    ∃ t, storeWrite s p 0x14 v w = irqEnNote t p (w &&& irqMask p) ∧ getW t p 0x14 = storedWord p 0x14 (getW s p 0x14) v w ∧
      OnlyRegs [regKey p 0x14] s t :=
  ⟨_, by simp [storeWrite, afterWrite], setIf_getW _ _ _ _, setIf_only _ _ _ _⟩

/-- What reaching a page says of an access. -/
theorem accReaches_spec {s : State} {who : Agent} {p off : Nat} (h : accReaches s who p off = true) :
    alive s = true ∧ pageAssigned p = true ∧ testDeaf s who p = false ∧ accBad p off 4 = false ∧ hungRefuses s p off = false := by
  simp only [accReaches, Bool.and_eq_true, Bool.not_eq_true'] at h
  exact ⟨h.1.1.1.1, h.1.1.1.2, h.1.1.2, h.1.2, h.2⟩

/-- An aligned access of one register starts at a multiple of 4. -/
theorem accBad_spec {p off : Nat} (h : accBad p off 4 = false) : off % 4 = 0 ∧ off + 4 ≤ 4096 := by
  simp only [accBad, regAccessOk, Bool.or_eq_false_iff, Bool.not_eq_false', Bool.and_eq_true, beq_iff_eq, decide_eq_false_iff_not, Nat.not_lt] at h
  exact ⟨h.1.1.2, h.1.2⟩

/-- The write of one register at its page: the status it completes with, and the state. -/
def judged (s : State) (who : Agent) (p off : Nat) (v : Word) : Ack × State :=
  if off = 0x28 then lockWrite s p 0xFFFFFFFF#32 v
  else if off = 0x24 then perturbStore s p v
  else if lockRefuses s p off (getW s p off) v then refuseWrite s p off St.accessDenied Cause.locked
  else if servoOwns s p off then refuseWrite s p off St.targetErr 0x40
  else
    match if isFieldPage p then fieldCmd s p off v else ringCmd s who p off v (leBytes 4 v.toNat) false with
    | some r => r
    | none =>
      match valueBad s p off (candWord p off (getW s p off) v) with
      | some c => refuseWrite s p off St.targetErr c
      | none =>
        if off = 0x08 ∧ v.getLsbD 1 then (ackOk, blockReset (storeWrite s p off v v) p)
        else (ackOk, storeWrite s p off v v)

theorem candWord_eq (old v m n : Word) :
    (old &&& m &&& ~~~(0xFFFFFFFF#32)) ||| (v &&& n) ||| (old &&& ~~~n) = (v &&& n) ||| (old &&& ~~~n) := by
  have e : ~~~(0xFFFFFFFF#32) = 0#32 := by decide
  rw [e]; simp

/-- A write of a whole register at its page. -/
theorem regWrite_four {s : State} {who : Agent} {p off : Nat} {v : Word} (hp : pageAssigned p = true)
    (hb : ¬(pageBusyState s p = 2 ∧ 0x40 ≤ off)) (hf : fieldBits p off ≠ 0#32) :
    regWrite s who p off 0 (leBytes 4 v.toNat) false = judged s who p off v := by
  have e : (0xFFFFFFFF#32 : Word) &&& fieldBits p off ≠ 0#32 := by
    rw [show (0xFFFFFFFF#32 : Word) = BitVec.allOnes 32 by decide, BitVec.allOnes_and]; exact hf
  unfold regWrite judged
  rw [if_neg (by simp [hp]), if_neg hb, leBytes_length, carriedMask_four, if_neg e]
  simp only [mergeBytes_four, writeCand, candWord_eq, candWord] <;> rfl

theorem writeReaches_page {s : State} {who : Agent} {p off : Nat} (h : writeReaches s who p off = true) : pageAssigned p = true := by
  simp only [writeReaches, Bool.and_eq_true] at h
  exact (accReaches_spec h.1.1.1.1).2.1

/-- The write that a row of its own brings, where it reaches its page. -/
theorem ownWrite_reaches {s : State} {who : Agent} {p off : Nat} {v : Word} (h : writeReaches s who p off = true) :
    ownWrite (cleared s) who p off v =
      accEnd (judged (accNext (cleared s)) who p off v).2 who s.cul.accId (judged (accNext (cleared s)) who p off v).1.1
        (judged (accNext (cleared s)) who p off v).1.2 [] (accExec 2 p off 4 (leBytes 4 v.toNat)) := by
  simp only [writeReaches, Bool.and_eq_true, Bool.not_eq_true'] at h
  obtain ⟨⟨⟨⟨h1, hf⟩, h2⟩, h3⟩, h4⟩ := h
  obtain ⟨ha, hp, ht, hb, hh⟩ := accReaches_spec h1
  obtain ⟨hm, hl⟩ := accBad_spec hb
  have e1 : testDeaf (accNext (cleared s)) who p = false := ht
  have e2 : standbyRefuses (accNext (cleared s)) p off = false := h2
  have e3 : mirrorsWrite (accNext (cleared s)) who p off (leBytes 4 v.toNat) = false := by
    have k : (mirroring (accNext (cleared s)) && who != .fabric && mirroredReg (accNext (cleared s)) p off) = false := h3
    unfold mirrorsWrite
    rw [hp, Bool.and_true, k]; rfl
  have e4 : hungRefuses (accNext (cleared s)) p off = false := hh
  have e5 : ¬(pageBusyState (accNext (cleared s)) p = 2 ∧ 0x40 ≤ off) := by
    rintro ⟨x, y⟩
    have x' : pageBusyState s p = 2 := x
    simp [x', y] at h4
  have hq : off / 4 * 4 = off := by omega
  show accWrite (accNext (cleared s)) who s.cul.accId p off (leBytes 4 v.toNat) .none false = _
  have e6 : ∀ t : State, meetEvent t p off .none = t := fun t => by unfold meetEvent; split <;> rfl
  simp only [accWrite, e1, leBytes_length, hb, e2, e3, sendWrite, pageAccess, e4, e6, bytesWrite, hm, hq, Bool.false_eq_true, if_false, Bool.false_and,
    show ¬ (2 = 1) by decide, show ¬ (4 = 8) by decide, regWrite_four hp e5 (by simpa using hf)]

/-- An access's bookkeeping bears on no check. -/
@[simp] theorem valueOk_accNext (s : State) (p off : Nat) (v : Word) : valueOk (accNext (cleared s)) p off v = valueOk s p off v := rfl
@[simp] theorem lockAllows_accNext (s : State) (p off : Nat) (v : Word) : lockAllows (accNext (cleared s)) p off v = lockAllows s p off v := rfl

/-- Of a register without a lock field, neither the lock nor the servo refuses a write. -/
theorem lockAllows_of {s : State} {p off : Nat} {v : Word} (h : accMask p off (fun a => a == .rwl) = 0#32) (h2 : p ≠ Pg.tmk ∨ off ≠ 0x8C) :
    lockAllows s p off v = true := by
  simp only [lockAllows, lockRefuses, h, servoOwns]
  rcases h2 with h2 | h2 <;> simp [h2]

/-- A command that is a write of a register of its own completes with what the page makes of the write. -/
theorem completes_write {c : Instr} {s : State} {who : Agent} {p off : Nat} {v : Word} {cause : Nat} {t : State} {P : State → Prop}
    {f : State → State} (h : writeReaches s who p off = true) (e : exec c s = .next (during s f))
    (w : f (cleared s) = ownWrite (cleared s) who p off v)
    (j : judged (accNext (cleared s)) who p off v = ((St.ok, cause), t))
    (hP : ∀ u, u.regs = t.regs → beside u = beside t → (∀ x ∈ t.out, x ∈ u.out) → P u) : Completes c s P := by
  have ha : alive s = true := (accReaches_spec (by
    simp only [writeReaches, Bool.and_eq_true] at h; exact h.1.1.1.1)).1
  refine completes_during ha e ?_
  rw [w, ownWrite_reaches h, j]
  obtain ⟨b, o, x⟩ := accEnd_ok t who s.cul.accId cause [] (accExec 2 p off 4 (leBytes 4 v.toNat))
  exact x ▸ hP _ rfl rfl fun _ m => List.mem_append_left _ m

/-- A write that its page takes and that is no command: the register is stored, and what follows from it comes. -/
theorem judged_stored {s : State} {who : Agent} {p off : Nat} {v : Word} (h1 : off ≠ 0x28) (h2 : off ≠ 0x24)
    (hl : lockAllows s p off v = true) (hv : valueOk s p off v = true)
    (hc : (if isFieldPage p then fieldCmd s p off v else ringCmd s who p off v (leBytes 4 v.toNat) false) = none) (hr : off = 0x08 → v.getLsbD 1 = false) :
    judged s who p off v = (ackOk, storeWrite s p off v v) := by
  simp only [lockAllows, Bool.and_eq_true, Bool.not_eq_true'] at hl
  simp only [valueOk, beq_iff_eq] at hv
  unfold judged
  rw [if_neg h1, if_neg h2, hl.1, hl.2, hc, hv]
  simp only [Bool.false_eq_true, if_false]
  rw [if_neg]
  rintro ⟨a, b⟩
  rw [hr a] at b
  exact Bool.noConfusion b

/-- A write of a register whose write is a command. -/
theorem judged_command {s : State} {who : Agent} {p off : Nat} {v : Word} {r : Ack × State} (h1 : off ≠ 0x28) (h2 : off ≠ 0x24)
    (hl : lockAllows s p off v = true)
    (hc : (if isFieldPage p then fieldCmd s p off v else ringCmd s who p off v (leBytes 4 v.toNat) false) = some r) :
    judged s who p off v = r := by
  simp only [lockAllows, Bool.and_eq_true, Bool.not_eq_true'] at hl
  unfold judged
  rw [if_neg h1, if_neg h2, hl.1, hl.2, hc]
  simp

/-- A completed read answers its data where no host access holds its identifier. -/
theorem accEnd_read (s : State) (who : Agent) (id : Nat) (d : List Byte) (e : Exec) (he : e.op = 1) :
    ∃ b o, accEnd s who id St.ok 0 d e = { s with brg := { s.brg with accs := b }, out := o } ∧
      (tabGet s.brg.accs id = none → Out.read who (e.off / 0x1000) (e.off % 0x1000) d ∈ o) := by
  unfold accEnd
  split
  · rename_i h; exact ⟨_, _, rfl, by simp [h]⟩
  · dsimp only
    rw [if_pos ⟨he, rfl⟩]
    exact ⟨s.brg.accs, _, rfl, fun _ => List.mem_append_right _ (by simp)⟩

/-- The read that a row of its own brings, where it reaches its page. -/
theorem ownRead_reaches {s : State} {who : Agent} {p off : Nat} (h : accReaches s who p off = true) :
    ownRead (cleared s) who p off =
      accEnd (regRead (accNext (cleared s)) p off).2 who s.cul.accId St.ok 0 (leBytes 4 (regRead (accNext (cleared s)) p off).1.toNat)
        (accExec 1 p off 4 []) := by
  obtain ⟨_, _, ht, hb, hh⟩ := accReaches_spec h
  obtain ⟨hm, _⟩ := accBad_spec hb
  have e1 : testDeaf (accNext (cleared s)) who p = false := ht
  have e4 : hungRefuses (accNext (cleared s)) p off = false := hh
  have q1 : 4 * (off / 4 + 0) = off := by omega
  have q2 : (off + 4 - 1) / 4 - off / 4 + 1 = 1 := by omega
  have br : bytesRead (accNext (cleared s)) p off 4 =
      (leBytes 4 (regRead (accNext (cleared s)) p off).1.toNat, (regRead (accNext (cleared s)) p off).2) := by
    simp only [bytesRead, q2, hm, List.range_one, List.foldl_cons, List.foldl_nil, q1, List.nil_append, List.drop_zero]
    rw [List.take_of_length_le (by simp [leBytes_length])]
  show accRead (accNext (cleared s)) who s.cul.accId p off 4 false = _
  simp only [accRead, e1, hb, pageAccess, e4, Bool.false_eq_true, if_false, Bool.false_and, if_true, br]

/-- A command that is a read of a register of its own completes with what the read leaves, and answers the word read. -/
theorem completes_read {c : Instr} {s : State} {who : Agent} {p off : Nat} {w : Word} {t : State} {P : State → Prop} {f : State → State}
    (h : accReaches s who p off = true) (e : exec c s = .next (during s f)) (hf : f (cleared s) = ownRead (cleared s) who p off)
    (j : regRead (accNext (cleared s)) p off = (w, t)) (ja : t.brg.accs = s.brg.accs)
    (hP : ∀ u, u.regs = t.regs → beside u = beside t →
      Answers s u who p off w → P u) : Completes c s P := by
  obtain ⟨ha, _, _, hb, _⟩ := accReaches_spec h
  obtain ⟨_, hl⟩ := accBad_spec hb
  refine completes_during ha e ?_
  rw [hf, ownRead_reaches h, j]
  obtain ⟨b, o, x, y⟩ := accEnd_read t who s.cul.accId (leBytes 4 w.toNat) (accExec 1 p off 4 []) rfl
  have q1 : (accExec 1 p off 4 []).off / 0x1000 = p := by simp only [accExec]; omega
  have q2 : (accExec 1 p off 4 []).off % 0x1000 = off := by simp only [accExec]; omega
  rw [q1, q2, ja] at y
  exact x ▸ hP _ rfl rfl y

end Sys2Proof.Machine
end

