-- ==== Sys2Proof/Laws/Buffer.lean ====
section
/-! SUPPORT. Laws of the shared buffer and of frames that leave: what storing and sending a frame changes. -/

namespace Sys2Proof.Machine

/-- The states differ in the switch core, the registers and the marks of spoiled units only. -/
def SwOnly (s t : State) : Prop := ∃ x r k, t = { s with sw := x, regs := r, test := k }

theorem SwOnly.refl (s : State) : SwOnly s s := ⟨s.sw, s.regs, s.test, rfl⟩
theorem SwOnly.trans {s t u : State} (a : SwOnly s t) (b : SwOnly t u) : SwOnly s u := by
  obtain ⟨x, r, k, rfl⟩ := a
  obtain ⟨y, q, j, rfl⟩ := b
  exact ⟨y, q, j, rfl⟩
theorem SwOnly.setW (s : State) (p o : Nat) (v : Word) : SwOnly s (setW s p o v) := ⟨s.sw, _, s.test, rfl⟩
theorem SwOnly.bump (s : State) (p : Nat) (f : FieldD) (n i : Nat) : SwOnly s (bump s p f n i) := ⟨s.sw, _, s.test, rfl⟩
theorem SwOnly.setQueue (s : State) (p : Port) (c : Nat) (q : List Nat) : SwOnly s (setQueue s p c q) := ⟨_, s.regs, s.test, rfl⟩
theorem SwOnly.foldl {α : Type} {f : State → α → State} (h : ∀ s a, SwOnly s (f s a)) (l : List α) (s : State) : SwOnly s (l.foldl f s) := by
  induction l generalizing s with
  | nil => exact SwOnly.refl s
  | cons x l ih => exact (h s x).trans (ih _)

/-- A unit that leaves its block may be the one whose check is spoiled; nothing but its count and its mark is changed. -/
theorem spoilUnit_only (s : State) (p : Nat) : SwOnly s (spoilUnit s p).2 := by
  unfold spoilUnit
  dsimp only
  split
  · exact SwOnly.refl s
  · split
    · exact ⟨s.sw, s.regs, _, rfl⟩
    · have a : SwOnly s { s with test := { s.test with pert := tabDel s.test.pert p } } := ⟨s.sw, s.regs, _, rfl⟩
      have b := a.trans (SwOnly.bump _ Pg.prt F.PRT_INJECTED 1 0)
      split
      · exact b.trans (SwOnly.setW _ _ _ _)
      · exact b

theorem spoilMarks_only (s : State) (p : Nat) (ws : List Nat) (bad : List (Nat × Bool)) : SwOnly s (spoilMarks s p ws bad).2 := by
  unfold spoilMarks
  generalize hg : (fun (a : List (Nat × Bool) × State) (w : Nat) => _) = g
  have k : ∀ a w, SwOnly a.2 (g a w).2 := fun a w => by rw [← hg]; exact spoilUnit_only a.2 p
  have l : ∀ (ws : List Nat) (a : List (Nat × Bool) × State), SwOnly a.2 (ws.foldl g a).2 := by
    intro ws
    induction ws with
    | nil => exact fun a => SwOnly.refl a.2
    | cons w ws ih => exact fun a => (k a w).trans (ih _)
  exact l ws (bad, s)

theorem cellsWritten_only (s : State) (cs : List Nat) : SwOnly s (cellsWritten s cs) := by
  obtain ⟨x, r, k, e⟩ := spoilMarks_only s Pg.buf cs s.test.badCells
  unfold cellsWritten
  dsimp only
  rw [e]
  exact ⟨x, r, _, rfl⟩

/-- Forming a frame changes the buffer, the drop counters and the marks of spoiled cells. -/
theorem formFrame_only {s : State} {d : Desc} {ports : List Port} {r : Nat × State} (h : formFrame s d ports = some r) : SwOnly s r.2 := by
  have a := SwOnly.foldl (fun a p => SwOnly.bump a Pg.swc F.SWC_DOWN_DROP 1 (portIdx p)) (ports.filter fun p => !portTakes s p) s
  unfold formFrame at h
  dsimp only at h
  split at h
  · cases h; exact a
  · split at h
    · cases h
    · split at h
      · cases h
      · cases h
        exact a.trans (SwOnly.trans ⟨_, _, _, rfl⟩ (cellsWritten_only _ _))

/-- Storing a frame changes the buffer, its queues, the drop counters and the marks of spoiled cells. -/
theorem storeFrame_only {s t : State} {d : Desc} {ports : List Port} (h : storeFrame s d ports = some t) : SwOnly s t := by
  unfold storeFrame at h
  rw [Option.map_eq_some_iff] at h
  obtain ⟨r, h, rfl⟩ := h
  exact (formFrame_only h).trans (SwOnly.foldl (fun a p => SwOnly.setQueue a p d.cls _) _ _)

/-- The states differ in the switch core, the registers, the marks of spoiled units and the HSR counters only. -/
def SendOnly (s t : State) : Prop :=
  ∃ x r k m n, t = { s with sw := x, regs := r, test := k, ring := { s.ring with hsrSeq := m }, pair := { s.pair with hsr := n } }

theorem SendOnly.refl (s : State) : SendOnly s s := ⟨s.sw, s.regs, s.test, s.ring.hsrSeq, s.pair.hsr, rfl⟩
theorem SwOnly.send {s t : State} (a : SwOnly s t) : SendOnly s t := by
  obtain ⟨x, r, k, rfl⟩ := a
  exact ⟨x, r, k, s.ring.hsrSeq, s.pair.hsr, rfl⟩
theorem SendOnly.trans {s t u : State} (a : SendOnly s t) (b : SendOnly t u) : SendOnly s u := by
  obtain ⟨x, r, k, m, n, rfl⟩ := a
  obtain ⟨x', r', k', m', n', rfl⟩ := b
  exact ⟨x', r', k', m', n', rfl⟩
theorem SendOnly.foldl {α : Type} {f : State → α → State} (h : ∀ s a, SendOnly s (f s a)) (l : List α) (s : State) : SendOnly s (l.foldl f s) := by
  induction l generalizing s with
  | nil => exact SendOnly.refl s
  | cons x l ih => exact (h s x).trans (ih _)

theorem nextHsr_only (s : State) (m : Nat) : SendOnly s (nextHsr s m).2 := by
  unfold nextHsr
  split
  · exact ⟨s.sw, s.regs, s.test, s.ring.hsrSeq, _, rfl⟩
  · exact ⟨s.sw, s.regs, s.test, _, s.pair.hsr, rfl⟩

/-- Sending a frame as an HSR pair changes the buffer, its counters and an HSR counter. -/
theorem sendHsr_only {s t : State} {d : Desc} {ports : List Port} (h : sendHsr s d ports = some t) : SendOnly s t :=
  (nextHsr_only s _).trans (storeFrame_only h).send

/-- A frame of this hub joins its queues or waits for cells, and nothing else comes of it. -/
theorem sendOwnFrame_only (s : State) (o : OwnFrame) : SendOnly s (sendOwnFrame s o) := by
  have w : SendOnly s { s with sw := { s.sw with ownWait := s.sw.ownWait ++ [o] } } := ⟨_, s.regs, s.test, s.ring.hsrSeq, s.pair.hsr, rfl⟩
  unfold sendOwnFrame
  dsimp only
  split
  · exact w
  · split
    · rename_i h
      unfold formOwn at h
      dsimp only at h
      split at h
      · exact sendHsr_only h
      · exact (storeFrame_only h).send
    · exact w

theorem sendOwn_only (s : State) (f : Frame) (c : Nat) (sub : Bool) : SendOnly s (sendOwn s f c sub) := sendOwnFrame_only s _

/-- Setting a class queue leaves the frames that wait for this hub as they were. -/
theorem joinQueues_localQ (s : State) (id c : Nat) (ports : List Port) : (joinQueues s id c ports).sw.localQ = s.sw.localQ := by
  unfold joinQueues
  induction ports generalizing s with
  | nil => rfl
  | cons p ps ih => rw [List.foldl_cons, ih]; rfl

end Sys2Proof.Machine
end

