-- ==== Sys2Proof/Laws/Header.lean ====
section
/-! SUPPORT. Laws of the header registers: no lock, no command, no rule and no range refuses a write of one. -/

namespace Sys2Proof.Machine

/-- The fields of a header register are those of fieldsHDR. -/
theorem fieldsAt_header {p off : Nat} (hp : pageAssigned p = true) (h : off < 0x40) :
    fieldsAt p off = fieldsHDR.filterMap fun f => (fieldAt f off).map fun i => (f, i) := by
  unfold pageAssigned at hp
  unfold fieldsAt
  split
  · rename_i e; simp [e] at hp
  · rw [if_pos h]

theorem accMask_none {p off : Nat} {ok : Acc → Bool} (h : ∀ fi ∈ fieldsAt p off, ok fi.1.acc = false) : accMask p off ok = 0#32 := by
  unfold accMask
  generalize fieldsAt p off = l at h
  have : ∀ (l : List (FieldD × Nat)) (a : Word), (∀ fi ∈ l, ok fi.1.acc = false) →
      l.foldl (fun a fi => if ok fi.1.acc then a ||| BitVec.ofNat 32 ((2 ^ fi.1.w - 1) * 2 ^ fi.1.lo) else a) a = a := by
    intro l
    induction l with
    | nil => intro a _; rfl
    | cons x xs ih =>
      intro a hx
      rw [List.foldl_cons, hx x List.mem_cons_self]
      exact ih a fun y hy => hx y (List.mem_cons_of_mem _ hy)
  exact this l _ h

theorem fieldsHDR_not_rwl : ∀ f ∈ fieldsHDR, f.acc ≠ .rwl := by decide

theorem mem_header {p off : Nat} (hp : pageAssigned p = true) (h : off < 0x40) {fi : FieldD × Nat} (m : fi ∈ fieldsAt p off) : fi.1 ∈ fieldsHDR := by
  rw [fieldsAt_header hp h, List.mem_filterMap] at m
  obtain ⟨f, hf, e⟩ := m
  rw [Option.map_eq_some_iff] at e
  obtain ⟨i, _, rfl⟩ := e
  exact hf

/-- The lock covers no header register (R486). -/
theorem lockAllows_header {s : State} {p off : Nat} {v : Word} (hp : pageAssigned p = true) (h : off < 0x40) : lockAllows s p off v = true := by
  have e : accMask p off (fun a => a == .rwl) = 0#32 := accMask_none fun fi m => by
    have := fieldsHDR_not_rwl _ (mem_header hp h m)
    simpa using this
  simp only [lockAllows, lockRefuses, e, servoOwns]
  have : (off == 140) = false := by simp; omega
  simp [this]

/-- No header register is a command. -/
theorem noCommand_header {s : State} {who : Agent} {p off : Nat} {v : Word} {bs : List Byte} {hi : Bool} (h : off < 0x40) :
    (if isFieldPage p then fieldCmd s p off v else ringCmd s who p off v bs hi) = none := by
  have n : ∀ k, 0x40 ≤ k → ¬ off = k := fun k hk e => by omega
  have hb : benProgReg off = false := by
    unfold benProgReg; simp; omega
  split
  · simp [fieldCmd, n, hb]
  · simp [ringCmd, fwuWrite, testWrite, tmkCmd, n]

/-- No rule between fields and no use of a block refuses a header register. -/
theorem busyBad_header {s : State} {p off : Nat} {v : Word} (h : off < 0x40) : busyBad s p off v = none := by
  have n : ∀ k, 0x40 ≤ k → ¬ off = k := fun k hk e => by omega
  have m : ∀ k, 0x40 ≤ k → ¬ k ≤ off := fun k hk e => by omega
  simp [busyBad, n, m]

theorem crossBad_header {s : State} {p off : Nat} (h : off < 0x40) : crossBad s p off = none := by
  have n : ∀ k, 0x40 ≤ k → ¬ off = k := fun k hk e => by omega
  have m : ∀ k, 0x40 ≤ k → ¬ k ≤ off := fun k hk e => by omega
  have nb : ∀ k, 0x40 ≤ k → (off == k) = false := fun k hk => by simp; omega
  have mb : ∀ k, 0x40 ≤ k → decide (k ≤ off) = false := fun k hk => by simp; omega
  have f : fieldAt F.MON_WIN_LO off = none := by
    unfold fieldAt
    rw [if_neg (by decide), if_pos (show off < F.MON_WIN_LO.off by have : F.MON_WIN_LO.off = 0xC0 := rfl; omega)]
  unfold crossBad
  simp only [n, m, f, nb, decide_false, or_self, Nat.reduceLeDiff, if_false, Bool.false_and, Bool.or_false, Option.isSome_none, false_and, ite_self, Bool.and_false, Bool.false_eq_true]
  
/-- No value is out of range in a header register. -/
theorem rangeBad_header {p off : Nat} {v : Word} (hp : pageAssigned p = true) (h : off < 0x40) : rangeBad p off v = false := by
  have k : ∀ f ∈ fieldsHDR, f.least = 0 ∧ 2 ^ f.w - 1 ≤ f.greatest := by decide
  unfold rangeBad
  rw [List.any_eq_false]
  intro fi m
  obtain ⟨a, b⟩ := k _ (mem_header hp h m)
  have c : wordBits v fi.1.lo fi.1.w < 2 ^ fi.1.w := Nat.mod_lt _ (by positivity)
  have d : ¬ fi.1.greatest < wordBits v fi.1.lo fi.1.w := by omega
  simp [a, d]

theorem valueOk_header {s : State} {p off : Nat} {v : Word} (hp : pageAssigned p = true) (h : off < 0x40) : valueOk s p off v = true := by
  simp [valueOk, valueBad, rangeBad_header hp h, busyBad_header h, crossBad_header h]

/-- A write of a header register that is no lock, no PERTURB and no block reset is stored by its access codes (R9). -/
theorem judged_header {s : State} {who : Agent} {p off : Nat} {v : Word} (hp : pageAssigned p = true) (h : off < 0x40) (h1 : off ≠ 0x28)
    (h2 : off ≠ 0x24) (hr : off = 0x08 → v.getLsbD 1 = false) : judged s who p off v = (ackOk, storeWrite s p off v v) :=
  judged_stored h1 h2 (lockAllows_header hp h) (valueOk_header hp h) (noCommand_header h) hr

theorem accMask_ctl {p : Nat} (hp : pageAssigned p = true) (ok : Acc → Bool) :
    accMask p 8 ok = (if ok .rw then 5#32 else 0#32) ||| (if ok .wo then 2#32 else 0#32) := by
  unfold accMask
  rw [fieldsAt_header hp (by decide)]
  have e : (fieldsHDR.filterMap fun f => (fieldAt f 8).map fun i => (f, i)) =
      [(F.PAGE_CTL_ENABLE, 0), (F.PAGE_CTL_BLOCK_RESET, 0), (F.PAGE_CTL_FREEZE, 0)] := by decide
  rw [e]
  simp only [F.PAGE_CTL_ENABLE, F.PAGE_CTL_BLOCK_RESET, F.PAGE_CTL_FREEZE, List.foldl_cons, List.foldl_nil]
  split <;> split <;> rfl

/-- What follows from PAGE_CTL. -/
theorem afterWrite_ctl (s : State) (p : Nat) (old : Word) : afterWrite s p 8 old = pageCtlNote s p old (getW s p 8) := by
  simp [afterWrite]

/-- PAGE_CTL takes ENABLE and FREEZE from a write. -/
theorem storedWord_ctl {p : Nat} (hp : pageAssigned p = true) (old v w : Word) : storedWord p 8 old v w = (old &&& ~~~5#32) ||| (v &&& 5#32) := by
  have e : holdsWo p 8 = false := by simp [holdsWo]
  have a : ∀ x : Word, x &&& 0xFFFFFFFF#32 = x := fun x => by
    rw [show (0xFFFFFFFF#32 : Word) = BitVec.allOnes 32 by decide, BitVec.and_allOnes]
  have b : ~~~(0#32 : Word) = 0xFFFFFFFF#32 := by decide
  simp [storedWord, accMask_ctl hp, isWritable, e, a, b]

theorem accMask_en {p : Nat} (hp : pageAssigned p = true) (ok : Acc → Bool) : accMask p 0x14 ok = (if ok .rw then 0xFFFFFFFF#32 else 0#32) := by
  unfold accMask
  rw [fieldsAt_header hp (by decide)]
  have e : (fieldsHDR.filterMap fun f => (fieldAt f 0x14).map fun i => (f, i)) = [(F.IRQ_EN_EN, 0)] := by decide
  rw [e]
  simp only [F.IRQ_EN_EN, List.foldl_cons, List.foldl_nil]
  split <;> rfl

/-- IRQ_EN takes the bits of the page's sources (R57). -/
theorem storedWord_en {p : Nat} (hp : pageAssigned p = true) (old v w : Word) : storedWord p 0x14 old v w = v &&& irqMask p := by
  have a : ∀ x : Word, x &&& 0xFFFFFFFF#32 = x := fun x => by
    rw [show (0xFFFFFFFF#32 : Word) = BitVec.allOnes 32 by decide, BitVec.and_allOnes]
  simp [storedWord, accMask_en hp, isWritable, a]

theorem accMask_cnt {p : Nat} (hp : pageAssigned p = true) (ok : Acc → Bool) : accMask p 0x20 ok = (if ok .rc then 0xFFFFFFFF#32 else 0#32) := by
  unfold accMask
  rw [fieldsAt_header hp (by decide)]
  have e : (fieldsHDR.filterMap fun f => (fieldAt f 0x20).map fun i => (f, i)) = [(F.ERR_COUNT_COUNT, 0)] := by decide
  rw [e]
  simp only [F.ERR_COUNT_COUNT, List.foldl_cons, List.foldl_nil]
  split <;> rfl

/-- No header register pops. -/
theorem popWord_header {s : State} {p off : Nat} (h : off < 0x40) : popWord s p off = none := by
  have n : ∀ k, 0x40 ≤ k → ¬ off = k := fun k hk e => by omega
  have a : fieldAt F.TSQ_POP_ID_ID off = none := by
    unfold fieldAt; rw [if_neg (by decide), if_pos (show off < F.TSQ_POP_ID_ID.off by have : F.TSQ_POP_ID_ID.off = 0x40 := rfl; omega)]
  have b : fieldAt F.TRG_CAP_POP0_VALID off = none := by
    unfold fieldAt; rw [if_neg (by decide), if_pos (show off < F.TRG_CAP_POP0_VALID.off by have : F.TRG_CAP_POP0_VALID.off = 0x404 := rfl; omega)]
  simp [popWord, n, a, b]

/-- A read of a register that neither pops nor latches clears its RC fields and changes nothing else (R9). -/
theorem regRead_plain {s : State} {p off : Nat} (h : popWord s p off = none) (h1 : ¬(p = Pg.tmk ∧ off = 0x48)) :
    ∃ t, regRead s p off = (shownWord s p off, t) ∧ getW t p off = getW s p off &&& ~~~(accMask p off fun a => a == .rc) ∧
      OnlyRegs [regKey p off] s t ∧ t.brg = s.brg := by
  unfold regRead
  simp only [h, if_neg h1]
  refine ⟨_, rfl, ?_⟩
  split
  · rename_i e
    refine ⟨?_, ⟨SameRegs.refl _ _, rfl⟩, rfl⟩
    rw [e]; simp
    exact (BitVec.and_allOnes).symm
  · exact ⟨getW_setW_same _ _ _ _, ⟨(SameRegs.refl _ _).setW (by simp), rfl⟩, rfl⟩

/-- The plain blocks by number. -/
theorem plain_cases {p : Nat} (h : plainBlock p = true) :
    p ∈ List.range 10 ++ [0x010, 0x011, 0x012, 0x013, 0x014, 0x015, 0x017, 0x018, 0x020, 0x021, 0x02A] := by
  have a : ∀ q, q < 0x40 → plainBlock q = true → q ∈ List.range 10 ++ [0x010, 0x011, 0x012, 0x013, 0x014, 0x015, 0x017, 0x018, 0x020, 0x021, 0x02A] := by
    decide +kernel
  exact a p (by simp [plainBlock] at h; omega) h

/-- A fault record changes no register but those of page BST that it names. -/
@[simp] theorem getF_faultLog (s : State) (k c pg d p : Nat) (f : FieldD) (i : Nat)
    (h : regKey p (f.off + f.stride * i) ∉ [regKey Pg.bst 0x10, regKey Pg.bst 0x18, fKey Pg.bst F.BST_FLOG_OVF_COUNT]) : getF (faultLog s k c pg d) p f i = getF s p f i := by
  unfold faultLog
  simp at h
  split
  · rfl
  · rw [getF_irqEvent_ne _ _ _ h.1 h.2.1, bumpSat, getF_setF_ne _ _ _ _ _ _ h.2.2]

end Sys2Proof.Machine
end

