-- ==== Sys2Proof/Laws/Lines.lean ====
section
/-! SUPPORT. Laws of the interrupt lines: after a step's end at a hub that takes commands, every line stands at its level (R63, R64). -/

namespace Sys2Proof.Machine

/-- What the levels of the interrupt destinations depend on is the same in both states. -/
structure SameSrc (s t : State) : Prop where
  regs : t.regs = s.regs
  fp : t.intr.fieldPend = s.intr.fieldPend

theorem SameSrc.refl (s : State) : SameSrc s s := ⟨rfl, rfl⟩

theorem SameSrc.trans {s t u : State} (a : SameSrc s t) (b : SameSrc t u) : SameSrc s u := ⟨b.regs.trans a.regs, b.fp.trans a.fp⟩

theorem SameSrc.getF {s t : State} (h : SameSrc s t) (p : Nat) (f : FieldD) (i : Nat) : getF t p f i = getF s p f i := by
  simp [Machine.getF, getW, h.regs]

theorem SameSrc.sources {s t : State} (h : SameSrc s t) : sources t = sources s := by
  have g : getW t = getW s := by funext p o; simp [getW, h.regs]
  unfold Machine.sources pendingNow
  rw [g, h.regs, h.fp]

theorem SameSrc.dest {s t : State} (h : SameSrc s t) (f : FieldD) : destLevel t f = destLevel s f := by
  simp only [destLevel, h.sources]
  congr 1; funext p; simp [routeBit, getB, h.getF]

theorem SameSrc.vec {s t : State} (h : SameSrc s t) (v : Nat) : vecLevel t v = vecLevel s v := by
  simp only [vecLevel, h.sources]
  congr 1; funext p; simp [routeBit, getB, h.getF]

theorem intNStep_same (s : State) (n : Nat) (f : FieldD) : SameSrc s (intNStep s n f) := by
  simp only [intNStep]; split <;> exact ⟨rfl, rfl⟩

theorem coreStep_same (s : State) : SameSrc s (coreStep s) := by
  simp only [coreStep]; split <;> exact ⟨rfl, rfl⟩

theorem vecStep_same (s : State) (v : Nat) : SameSrc s (vecStep s v) := by
  simp only [vecStep, msixFire]
  split
  · exact ⟨rfl, rfl⟩
  · split
    · split <;> exact ⟨rfl, rfl⟩
    · exact ⟨rfl, rfl⟩

theorem two_pow_getLsbD (v u : Nat) : (BitVec.ofNat 64 (2 ^ v)).getLsbD u = (decide (u < 64) && decide (v = u)) := by
  rw [BitVec.getLsbD_ofNat, Nat.testBit_two_pow]

theorem bit64_getLsbD (w : DWord) (v u : Nat) (b : Bool) (h : v < 64) : (bit64 w v b).getLsbD u = if u = v then b else w.getLsbD u := by
  by_cases hu : u < 64
  · cases b <;> simp only [bit64, if_true, if_false, Bool.false_eq_true, BitVec.getLsbD_or, BitVec.getLsbD_and, BitVec.getLsbD_not, two_pow_getLsbD, hu, decide_true, Bool.true_and] <;>
      by_cases e : u = v
    · simp [-BitVec.getLsbD_eq_getElem, e]
    · simp [-BitVec.getLsbD_eq_getElem, e, Ne.symm e]
    · simp [-BitVec.getLsbD_eq_getElem, e]
    · simp [-BitVec.getLsbD_eq_getElem, e, Ne.symm e]
  · rw [BitVec.getLsbD_of_ge _ _ (by omega), BitVec.getLsbD_of_ge _ _ (by omega), if_neg (by omega)]

theorem vecStep_vec (s : State) (v : Nat) : (vecStep s v).intr.vec = if s.intr.vec.getLsbD v = vecLevel s v then s.intr.vec else bit64 s.intr.vec v (vecLevel s v) := by
  simp only [vecStep, msixFire]
  split
  · rfl
  · split
    · split <;> rfl
    · rfl

theorem vecStep_bit (s : State) (v u : Nat) (hv : v < 64) : (vecStep s v).intr.vec.getLsbD u = if u = v then vecLevel s v else s.intr.vec.getLsbD u := by
  rw [vecStep_vec]
  split
  · split
    · rename_i h1 h2; rw [h2, h1]
    · rfl
  · split
    · rename_i h2; rw [bit64_getLsbD _ _ _ _ hv, if_pos h2]
    · rename_i h2; rw [bit64_getLsbD _ _ _ _ hv, if_neg h2]

theorem vecFold (l : List Nat) (s : State) (hl : ∀ v ∈ l, v < 64) :
    SameSrc s (l.foldl vecStep s) ∧ ∀ u, (l.foldl vecStep s).intr.vec.getLsbD u = if u ∈ l then vecLevel s u else s.intr.vec.getLsbD u := by
  induction l generalizing s with
  | nil => exact ⟨SameSrc.refl s, by simp⟩
  | cons v l ih =>
    obtain ⟨a, b⟩ := ih (vecStep s v) (fun x hx => hl x (List.mem_cons_of_mem _ hx))
    refine ⟨(vecStep_same s v).trans a, fun u => ?_⟩
    rw [List.foldl_cons, b u, (vecStep_same s v).vec, vecStep_bit _ _ _ (hl v List.mem_cons_self)]
    by_cases h1 : u = v <;> by_cases h2 : u ∈ l <;> simp [h1, h2]

theorem intNStep_intN (s : State) (n : Nat) (f : FieldD) (k : Nat) (hk : k < 2) :
    (intNStep s n f).intr.intN.getD k false = if k = n then destLevel s f else s.intr.intN.getD k false := by
  simp only [intNStep]
  split
  · split
    · rename_i h1 h2; rw [h2, h1]
    · rfl
  · simp only [emit]
    interval_cases k <;> simp [List.range_succ]

theorem intNStep_core (s : State) (n : Nat) (f : FieldD) : (intNStep s n f).intr.core = s.intr.core ∧ (intNStep s n f).intr.vec = s.intr.vec := by
  simp only [intNStep]; split <;> exact ⟨rfl, rfl⟩

theorem coreStep_core (s : State) : (coreStep s).intr.core = destLevel s F.INT_ROUTE_CORE_EN ∧ (coreStep s).intr.vec = s.intr.vec ∧ (coreStep s).intr.intN = s.intr.intN := by
  simp only [coreStep]; split
  · rename_i h; exact ⟨h, rfl, rfl⟩
  · exact ⟨rfl, rfl, rfl⟩

theorem lines_follow (s : State) : LinesFollow (lines s) := by
  intro _
  have hv : ∀ v ∈ vecsOf s, v < 64 := fun v h => by simp [vecsOf] at h; exact h.1
  obtain ⟨a, b⟩ := vecFold (vecsOf s) s hv
  simp only [lines]
  set s1 := (vecsOf s).foldl vecStep s with e1
  have c := intNStep_same s1 0 F.INT_ROUTE_INTN0_EN
  set s2 := intNStep s1 0 F.INT_ROUTE_INTN0_EN with e2
  have d := intNStep_same s2 1 F.INT_ROUTE_INTN1_EN
  set s3 := intNStep s2 1 F.INT_ROUTE_INTN1_EN with e3
  have e := coreStep_same s3
  obtain ⟨k1, k2, k3⟩ := coreStep_core s3
  refine ⟨?_, ?_, ?_, fun v h => ?_⟩
  · rw [k3, e.dest, d.dest, c.dest, e3, intNStep_intN _ _ _ _ (by omega), if_neg (by omega), e2, intNStep_intN _ _ _ _ (by omega), if_pos rfl]
  · rw [k3, e.dest, d.dest, e3, intNStep_intN _ _ _ _ (by omega), if_pos rfl]
  · rw [k1, e.dest]
  · rw [k2, e.vec, d.vec, c.vec, a.vec, e3, (intNStep_core _ _ _).2, e2, (intNStep_core _ _ _).2, b v]
    split
    · rfl
    · rename_i hm
      simp only [vecsOf, List.mem_filter, List.mem_range, not_and, Bool.or_eq_true, not_or, Bool.not_eq_true] at hm
      obtain ⟨h1, h2⟩ := hm h
      rw [h1]; symm
      rw [vecLevel, List.any_eq_false]
      intro p hp
      have h3 := (List.any_eq_false.mp h2) p hp
      simp at h3 ⊢
      intro _; exact h3

theorem alive_setW_ne (s : State) {p off : Nat} (v : Word) (h : regKey Pg.prt 0x48 ≠ regKey p off) : alive (setW s p off v) = alive s := by
  have e : scanState (setW s p off v) = scanState s := by
    simp only [scanState]
    exact getF_setW_ne s _ v 0 h
  simp only [alive, e]
  rfl

theorem ballLevel_alive (s : State) (p : Nat) (r : Bool) : alive (ballLevel s p r) = alive s := by
  have key : alive (setBank s Pg.pin F.PIN_LEVEL_LEVEL p (r != pinInv s p)) = alive s := by
    simp only [setBank, setF]
    apply alive_setW_ne
    simp only [regKey, F.PIN_LEVEL_LEVEL, Pg.pin, Pg.prt]
    omega
  simp only [ballLevel]
  repeat' split
  all_goals first | rfl | exact key

theorem pinRefresh_alive (s : State) (p : Nat) : alive (pinRefresh s p) = alive s := by
  simp only [pinRefresh]
  split
  · rfl
  · split
    · rw [ballLevel_alive]; rfl
    · rfl

theorem pinsRefresh_alive (s : State) : alive (pinsRefresh s) = alive s := by
  simp only [pinsRefresh]
  generalize (assignedPins s ++ _) = l
  induction l generalizing s with
  | nil => rfl
  | cons x l ih => rw [List.foldl_cons, ih, pinRefresh_alive]

theorem settle_follow (s : State) : LinesFollow (settle s) := by
  simp only [settle]
  split
  · exact lines_follow _
  · rename_i h
    intro h2; rw [pinsRefresh_alive] at h2; exact absurd h2 h

/-- A vector that fires changes its pending bit only. -/
theorem msixFire_fires (s : State) (v : Nat) (h : v < 64) :
    Fires s (msixFire s v) v ∧ (msixFire s v).regs = s.regs ∧ beside { (msixFire s v) with intr := s.intr } = beside s := by
  unfold Fires msixFire
  split
  · exact ⟨⟨by simp [emit], by simp only [emit]; rw [bit64_getLsbD _ _ _ _ h]; simp⟩, rfl, rfl⟩
  · exact ⟨by dsimp only; rw [bit64_getLsbD _ _ _ _ h]; simp, rfl, rfl⟩

/-- INT.EOI fires the vector where its level is 1, and does nothing where it is 0 (R64). -/
theorem eoi_spec (s : State) (v : Nat) (h : v < 64) (m : Option (Nat × Nat)) (s1 : State)
    (e : s1 = match m with | some (p, b) => irqEvent s p b | none => s) :
    (if vecLevel s1 v then Fires s1 (eoi s v m) v else (eoi s v m) = s1) ∧ (eoi s v m).regs = s1.regs ∧
      beside { (eoi s v m) with intr := s1.intr } = beside s1 := by
  have e2 : eoi s v m = if vecLevel s1 v then msixFire { s1 with intr := { s1.intr with vec := bit64 s1.intr.vec v true } } v else s1 := by
    subst e; rfl
  rw [e2]
  split
  · obtain ⟨a, b, c⟩ := msixFire_fires { s1 with intr := { s1.intr with vec := bit64 s1.intr.vec v true } } v h
    exact ⟨a, b, congrArg (fun x : State => { x with intr := s1.intr }) c⟩
  · exact ⟨rfl, rfl, rfl⟩

end Sys2Proof.Machine
end

