-- ==== Sys2Proof/Laws/Rest.lean ====
section
/-! SUPPORT. The end of a step at a hub where nothing waits for it. -/

namespace Sys2Proof.Machine

theorem AtRest.round {s : State} (h : AtRest s) : settleRound s = s := by
  have e1 : regWaitGo s.pair.regWait s = s := by rw [h.pair.2]; rfl
  have e2 : mirrorAccepts s = s := by
    unfold mirrorAccepts
    have k : ∀ (l : Tab IFlow), (∀ e ∈ l, ∀ o ∈ e.2.opens, o.wait = .none ∨ o.wait = .chest) →
        l.foldl (fun a e => (e.2.opens.filter fun o => o.wait != .none && o.wait != .chest).foldl (fun b o => acceptWaiting b e.1 o) a) s = s := by
      intro l hl
      induction l with
      | nil => rfl
      | cons x l ih =>
        have z : (x.2.opens.filter fun o => o.wait != .none && o.wait != .chest) = [] := by
          rw [List.filter_eq_nil_iff]
          intro o ho
          rcases hl x List.mem_cons_self o ho with w | w <;> simp [w]
        rw [List.foldl_cons, z]
        exact ih fun e he => hl e (List.mem_cons_of_mem _ he)
    exact k _ h.flows
  have e3 : intentsGo s = s := by
    unfold intentsGo
    have k : ∀ (l : Tab TCtx), (∀ e ∈ l, headHeld s e.1 = none) → l.foldl (fun a e => match headHeld a e.1 with
        | some h => (match h.st with
          | .intent m => if mirAcked a m || !mirroring a then runLater a e.1 else a
          | .held => if e.2.pairCtx then runLater a e.1 else a
          | _ => a)
        | none => a) s = s := by
      intro l hl
      induction l with
      | nil => rfl
      | cons x l ih =>
        rw [List.foldl_cons, hl x List.mem_cons_self]
        exact ih fun e he => hl e (List.mem_cons_of_mem _ he)
    exact k _ h.ctxs
  have u := h.engine.1
  simp only [unsettled, Bool.or_eq_false_iff, Bool.and_eq_false_iff, Bool.not_eq_false', List.isEmpty_iff] at u
  have e4 : ∀ n, (if s.seq.running = true then runContexts n none s else s) = s := by
    intro n
    split
    · rename_i r
      have q : s.seq.runQ = [] := by rcases u.1.1 with w | w <;> simp_all
      cases n with
      | zero => rfl
      | succ n => simp [runContexts, r, q]
    · rfl
  have e5 : streamGo s.cul.execs [] s = s := by rw [h.culvert.1]; rfl
  have e6 : acceptsOut s = s := by
    unfold acceptsOut
    simp only [u.1.2, List.foldl]
    rw [← u.1.2]
  have e7 : closingsOut s = s := by
    unfold closingsOut
    simp only [u.2, List.foldl]
    rw [← u.2]
  have e8 : drainTagWait s = s := by
    unfold drainTagWait
    simp only [h.engine.2.1, List.foldl]
    rw [← h.engine.2.1]
    split <;> rfl
  have e9 : ibPump s = s := by
    unfold ibPump
    rw [h.bridge.2.1]; rfl
  have e10 : brgPump s = s := by
    have c : linesCame s = s := by simp [linesCame, h.bridge.2.2.1]
    have f : pumpFlush s = s := by unfold pumpFlush; rw [h.bridge.2.2.1]; rfl
    have k : brgTurn s = s := by
      unfold brgTurn
      rw [c]
      simp only [h.bridge.1, pumpOffers, setBrg]
      rw [← h.bridge.1]
      exact f
    unfold brgPump
    rw [h.bridge.2.2.1]
    simp [k]
  have e12 : usfPump 200 s = s := by
    rw [usfPump]
    split
    · rfl
    · rfl
    · rename_i a b
      rw [h.usb a] at b
      cases b
  have e13 : barGo s = s := by
    unfold barGo
    simp only [h.bridge.2.2.2, List.foldl, setBrg]
    rw [← h.bridge.2.2.2]
  have e11 : rspCheck s = s := by simp [rspCheck, h.culvert.2.2.2]
  simp only [settleRound, e1, e2, e3, e4, e5, e6, e7, e8, e9, e10, e11, e12, e13]

/-- At rest the step's end lets the pins and the interrupt lines follow, and does nothing else. -/
theorem AtRest.settle {s : State} (h : AtRest s) : settle s = lines (spoilOuts (pinsRefresh s)) := by
  have hr := h.round
  obtain ⟨h1, ⟨h2, -, h14, h15⟩, -, -, ⟨⟨h5, h23⟩, -⟩, -, ⟨-, h16, h17, -⟩, h3, h4, h6, ⟨h7, h8, h9⟩, ⟨h10, h11⟩, ⟨h19, h20⟩, h12, h13, h21, -, h18, h22⟩ := h
  have a12 : syncNote s = s := by
    unfold syncNote
    simp only [h19, h20, List.filter_nil, if_true]
    have e : ({ s.time with syncWas := s.time.syncWas, syncLog := [] } : TimeSt) = s.time := by
      rw [← h20]
    exact congrArg (fun x : TimeSt => { s with time := x }) e
  have a13 : drainOwn s = s := by
    unfold drainOwn
    simp only [h21, List.foldl]
    rw [← h21]
  have a14 : spoilLocal s = s := by simp [spoilLocal, h22]
  have a1 : pfwFollow s = s := by simp [pfwFollow, h4]
  have a2 : fwuCheck s = s := by simp [fwuCheck, h3]
  have a3 : healthHandover s = s := by simp [healthHandover, h5]
  have a4 : settleAll s = s := by
    have k : ∀ n, settleLoop n s = s := fun n => by cases n <;> simp [settleLoop, h2]
    rw [settleAll, hr, k]
  have a5 : flwRelease s = s := by simp [flwRelease, h6]
  have a6 : irqConditions s = s := by
    have q : s.time.cap.any (fun e => !e.2.isEmpty) = false := by
      rw [List.any_eq_false]; intro e he; simp [h11 e he]
    have q' : ∀ p, p < 4 → irqWhile s (!(tsqOf s p).isEmpty) Pg.tsq (2 + p) = s := fun p hp => by rw [h10 p hp]; rfl
    have q4 : (List.range 4).foldl (fun a p => irqWhile a (!(tsqOf s p).isEmpty) Pg.tsq (2 + p)) s = s := by
      rw [show List.range 4 = [0, 1, 2, 3] from rfl]
      simp only [List.foldl]
      rw [q' 0 (by omega), q' 1 (by omega), q' 2 (by omega), q' 3 (by omega)]
    unfold irqConditions
    simp only [h7, h8, h9, List.isEmpty_nil, Bool.not_true]
    have w : ∀ p b, irqWhile s false p b = s := fun _ _ => rfl
    simp only [w]
    rw [q4, q]
    rfl
  have a7 : pendReports s = s := by
    unfold pendReports
    rw [← h12]
    have e : s.cul.fpend.filter (fun p => !s.cul.fpend.contains p) = [] := by
      rw [List.filter_eq_nil_iff]; intro a ha; simp [ha]
    simp only [e, List.foldl]
  have a8 : fabricStep s = s := by simp [fabricStep, h13]
  have a9 : cplsOut s = s := by
    unfold cplsOut flushAnswers
    simp only [h14, gatherAnswers, List.foldl, h15, drainCpl]
    have e : ∀ (x y : SeqSt), x = s.seq → y = s.seq → ({ s with seq := { x with cplOut := y.cplOut } } : State) = s := by
      rintro x y rfl rfl; rfl
    cases s with | mk => simp_all
  have a10 : txBegins s = s := by simp [txBegins, mirroring, h5, h23]
  have a11 : culPump s = s := by
    unfold culPump
    split
    · have k : ({ s with cul := { s.cul with ringW := [], fieldW := [] } } : State) = s := by
        have e : ({ s.cul with ringW := [], fieldW := [] } : CulSt) = s.cul := by
          cases hc : s.cul with | mk => simp_all
        rw [e]
      simp only [h16, ringPump, setCul, h17, fieldPump]
      split <;> exact k
    · rfl
  unfold Machine.settle settleLive
  rw [if_pos h1]
  simp only [a1, a2, a3, a4, a5, interrupts, a6, a7, a8, a9, a10, a11, a12, a13, a14]

end Sys2Proof.Machine
end

