-- ==== Sys2Proof/Laws/Signature.lean ====
section
/-! SUPPORT. The signature check can pass: under the key that encodes the neutral point, one signature verifies for every message. Commands
that a fresh challenge protects have their effect in some state, whatever the challenge is. -/

namespace Sys2Proof.Machine

/-- The encoding of the neutral point. -/
def neutralKey : List Byte := 1#8 :: List.replicate 31 0#8

/-- The signature with that point and the scalar 0. -/
def neutralSig : List Byte := neutralKey ++ List.replicate 32 0#8

/-- The neutral point, in some coordinates. -/
def IsNeutral (q : EdPoint) : Prop := q.1 = 0 ∧ q.2.1 = q.2.2.1 ∧ q.2.2.2 = 0

theorem edSub_zero (y : Nat) : edSub y 0 % edP = y % edP := by
  simp [edSub]

theorem edSub_self (b : Nat) : edSub (b % edP) (b % edP) = 0 := by
  have h : b % edP < edP := Nat.mod_lt _ (by decide)
  simp only [edSub, Nat.mod_mod]
  rw [Nat.add_sub_cancel' h.le, Nat.mod_self]

theorem edAdd_neutral {q r : EdPoint} (hq : IsNeutral q) (hr : IsNeutral r) : IsNeutral (edAdd q r) := by
  obtain ⟨x1, y1, z1, t1⟩ := q
  obtain ⟨x2, y2, z2, t2⟩ := r
  obtain ⟨h1, h2, h3⟩ := hq
  obtain ⟨h4, h5, h6⟩ := hr
  simp only at h1 h2 h3 h4 h5 h6
  subst h1 h2 h3 h4 h5 h6
  have e : edSub y1 0 * edSub y2 0 % edP = y1 * y2 % edP := by
    rw [Nat.mul_mod, edSub_zero, edSub_zero, ← Nat.mul_mod]
  have d : edSub (y1 * 2 * y2 % edP) 0 = y1 * 2 * y2 % edP := by
    simp [edSub]
  refine ⟨?_, ?_, ?_⟩ <;> simp only [edAdd, e, edSub_self, Nat.zero_mul, Nat.zero_mod, Nat.add_zero, d]
  rw [show y1 * 2 * y2 = y1 * y2 + y1 * y2 by ring]
  simp [Nat.mul_comm]

theorem edMul_neutral (k : Nat) {q : EdPoint} (hq : IsNeutral q) (n : Nat) (acc : EdPoint) (ha : IsNeutral acc) : IsNeutral (edMul k q n acc) := by
  induction n generalizing acc with
  | zero => exact ha
  | succ n ih =>
    have h2 := edAdd_neutral ha ha
    rw [edMul]
    split
    · exact ih _ (edAdd_neutral h2 hq)
    · exact ih _ h2

/-- The factor 0 gives the neutral point. -/
theorem edMul_zero (q : EdPoint) (n : Nat) (acc : EdPoint) (ha : IsNeutral acc) : IsNeutral (edMul 0 q n acc) := by
  induction n generalizing acc with
  | zero => exact ha
  | succ n ih =>
    rw [edMul, Nat.zero_testBit]
    exact ih _ (edAdd_neutral ha ha)

theorem edSame_neutral {q r : EdPoint} (hq : IsNeutral q) (hr : IsNeutral r) : edSame q r = true := by
  obtain ⟨x1, y1, z1, t1⟩ := q
  obtain ⟨x2, y2, z2, t2⟩ := r
  obtain ⟨h1, h2, _⟩ := hq
  obtain ⟨h4, h5, _⟩ := hr
  simp only at h1 h2 h4 h5
  subst h1 h2 h4 h5
  simp [edSame, Nat.mul_comm]

theorem edZero_neutral : IsNeutral edZero := ⟨rfl, rfl, rfl⟩

/-- The neutral key verifies its signature for every message. -/
theorem edVerify_neutral (msg : List Byte) : edVerify neutralKey msg neutralSig = true := by
  have hk : edPoint neutralKey = some edZero := by decide +kernel
  have hr : edPoint (neutralSig.take 32) = some edZero := by decide +kernel
  have hs : leNat (neutralSig.drop 32) = 0 := by decide +kernel
  have hl : neutralSig.length = 64 := by decide +kernel
  have hz := edZero_neutral
  simp only [edVerify, hk, hr, hs, hl, Bool.and_eq_true, beq_iff_eq, decide_eq_true_eq]
  exact ⟨⟨trivial, by decide⟩, edSame_neutral (edMul_neutral _ (edMul_zero _ _ _ hz) _ _ hz)
    (edMul_neutral _ (edAdd_neutral hz (edMul_neutral _ hz _ _ hz)) _ _ hz)⟩

/-- An owner command passes its check where the neutral key is enrolled and its signature written. -/
theorem ownerOk_neutral (s : State) (hc : 1 ≤ getF s Pg.fwu F.FWU_OCMD_CODE ∧ getF s Pg.fwu F.FWU_OCMD_CODE ≤ 4)
    (hk : s.test.ownerKey = some neutralKey) (hb : s.test.ownerBad = false) (hs : regBytes s Pg.fwu 0x100 16 = neutralSig) : ownerOk s = true := by
  simp [ownerOk, hc, hk, hb, hs, edVerify_neutral]

/-- ENROLL passes its check where the neutral key is the one to enrol. -/
theorem ownerOk_enroll (s : State) (hc : getF s Pg.fwu F.FWU_OCMD_CODE = 4) (hn : s.test.ownerKey = none)
    (hk : regBytes s Pg.fwu 0x140 8 = neutralKey) (hs : regBytes s Pg.fwu 0x100 16 = neutralSig) : ownerOk s = true := by
  simp [ownerOk, hc, hn, hk, hs, edVerify_neutral]

/-- A scan request passes its check likewise. -/
theorem scanAuth_neutral (s : State) (hk : s.test.ownerKey = some neutralKey) (hb : s.test.ownerBad = false)
    (hs : regBytes s Pg.prt 0x80 16 = neutralSig) : scanAuth s = true := by
  simp [scanAuth, scanKey, hk, hb, hs, edVerify_neutral]

end Sys2Proof.Machine
end

