-- ==== Sys2Proof/WellFormed.lean ====
section
/-! DEFINITION. Which commands are well formed: every operand lies in the range that the spec gives what it names. A command that is not
well formed has its effect as far as its operands name something the hub has, and none otherwise. -/

namespace Sys2Proof

/-- A frame's addresses, tags and type fit their places (R79). -/
def frameOk (f : Frame) : Bool :=
  decide (f.dmac < 2 ^ 48) && decide (f.smac < 2 ^ 48) && decide (f.etype < 65536) && decide (f.payload.length ≤ 9216) &&
  (match f.hsr with | some h => decide (h.path < 16) && decide (h.seq < 65536) | none => true) &&
  (match f.vlan with | some v => decide (v < 65536) | none => true)

/-- A transaction names an operation of R100, a flow of R102 and 1 to 256 bytes, with its data where the operation carries data. -/
def txnOk (t : TxnReq) : Bool :=
  decide (t.init < 65536) && decide (t.flow < 4096) && decide (0 < t.op) && decide (t.op < 7) && decide (t.len < 257) &&
  decide (t.data.length < 257)

/-- A write carries 1 to 256 bytes. -/
def sizeOk (bs : List Byte) : Bool := !bs.isEmpty && decide (bs.length < 257)

/-- An error of the buffer lies in a cell, the link RAM or the descriptor RAM (R133, R134). -/
def eccOk (e : Option EccFault) : Bool :=
  match e with
  | some x => decide (x.place < 3) && decide (x.index < 65536) && decide (x.word < 4)
  | none => true

/-- An error of journal memory lies within its 16 GiB (R158). -/
def jeccOk (e : Option JEcc) : Bool :=
  match e with
  | some x => decide (x.addr < 2 ^ 34)
  | none => true

/-- A host read request in BAR2 names one of its tags, an offset in BAR2 and 1 to 4096 bytes. -/
def hostReqOk (r : HostReq) : Bool :=
  decide (r.ptag < 1024) && decide (r.off < 2 ^ 36) && decide (r.enables.length < 4097) && !r.enables.isEmpty

/-- A host completion names a read tag (R185) and carries at most 4096 bytes. -/
def hostCplOk (c : HostCpl) : Bool := decide (c.tag < 64) && decide (c.status < 8) && decide (c.data.length < 4097)

/-- A configuration request lies within its register, its table or its space (R186, R187). -/
def cfgOk (w : CfgWrite) : Bool :=
  match w with
  | .command _ _ | .msixCtl _ _ | .power _ => true
  | .devCtl mps mrrs => decide (mps < 8) && decide (mrrs < 8)
  | .table entry word _ => decide (entry < 64) && decide (word < 4)
  | .bar n _ => decide (n < 6)
  | .read ptag off => decide (ptag < 1024) && decide (off < 4096)
  | .tableRead ptag off => decide (ptag < 1024) && decide (off < 8192)

/-- The operands of a command lie in their ranges. -/
def Instr.wellFormed (i : Instr) : Bool :=
  match i with
  | .registerWrite _ page off bytes _ => decide (page < 0x1000) && decide (off < 0x1000) && sizeOk bytes
  | .errCountRead _ page meet => decide (page < 0x1000) && (meet.all fun e => decide (e.status < 256) && decide (e.cause < 256) && decide (e.reg < 1024))
  | .rcCounterRead _ page off => decide (page < 0x1000) && decide (off < 0x1000)
  | .blockReset _ page => decide (page < 0x1000)
  | .blockResetDone page => decide (page < 0x1000)
  | .pageEnableWrite _ page _ => decide (page < 0x1000)
  | .freezeWrite _ page _ => decide (page < 0x1000)
  | .irqEnWrite _ page _ => decide (page < 0x1000)
  | .intEoi _ vector meet => decide (vector < 64) && (match meet with | some m => decide (m.1 < 0x1000) && decide (m.2 < 32) | none => true)
  | .msixPendingSend vector => decide (vector < 64)
  | .watchMeasure .. => true
  | .handshakeTimeout page _ _ => decide (page < 0x1000)
  | .lateAcknowledge page data => decide (page < 0x1000) && decide (data.length < 257)
  | .portCfgWrite _ port _ => decide (port < 4)
  | .signalLockChange _ _ _ _ speed => decide (speed < 4)
  | .linkUp .. | .linkDown .. | .walkDone | .leakSweep .. => true
  | .hsrFrameRx _ frame _ => frameOk frame
  | .ddEntryExpire smac seq _ => decide (smac < 2 ^ 48) && decide (seq < 65536)
  | .redboxFrameRx _ frame => frameOk frame
  | .proxyExpire mac => decide (mac < 2 ^ 48)
  | .hsrSupervisionSend | .helloSend => true
  | .helloRx _ frame => frameOk frame
  | .helloTimeout .. | .verEnWrite .. | .announceSend | .announceRx => true
  | .nodeLoss _ node => decide (node < 64)
  | .chgPop .. | .nodeNumberWrite .. => true
  | .rbCtlWrite _ k _ => decide (k < 16)
  | .couplerForward => true
  | .transactionIssue t => txnOk t
  | .sequenceAssign flow => decide (flow < 4096)
  | .durabilityDone tag ecc => decide (tag < 1024) && (match ecc with | some i => decide (i < 0x400000) | none => true)
  | .furrowRelease flow => decide (flow < 4096)
  | .portSelect _ ecc => eccOk ecc
  | .bucketRefill => true
  | .bucketCtlWrite _ page k _ => (decide (0x080 ≤ page) && decide (page ≤ 0x0D0)) && decide (k < 64)
  | .retransmitTimeout flow ecc => decide (flow < 4096) && jeccOk ecc
  | .cplRx | .abortGo .. => true
  | .reqRx ecc => jeccOk ecc
  | .broadcastEventRx => true
  | .deferredExecute ctx => decide (ctx < 4096)
  | .streamWaitExpire .. => true
  | .contextRelease ctx => decide (ctx < 4096)
  | .nopSend flow => decide (flow < 4096)
  | .seqLogPop .. | .ageSweep => true
  | .bufferScrub corrected fault _ => decide (corrected < 2 ^ 32) && eccOk fault
  | .journalPatrolScrub corrected fault => decide (corrected < 2 ^ 32) && jeccOk fault
  | .bar0Access ptag off len data => decide (ptag < 1024) && decide (off < 2 ^ 24) && (decide (0 < len) && decide (len < 9)) && (match data with | some bs => decide (bs.length = len) | none => true)
  | .hostWrite off bytes => decide (off < 2 ^ 36) && decide (bytes.length < 257) && !bytes.isEmpty
  | .hostRead ptag off enables => hostReqOk ⟨ptag, off, enables⟩
  | .hostFlushRead ptag off => decide (ptag < 1024) && decide (off < 2 ^ 36)
  | .hostReadTimeout ptag _ => decide (ptag < 1024)
  | .prefetchLineExpire win start meet => decide (win < 16) && decide (start < 2 ^ 64) && meet.all hostReqOk
  | .obCtlWrite _ w _ => decide (w < 16)
  | .ibCtlWrite _ k _ => decide (k < 8)
  | .hostCompletionRx tag status data poisoned => hostCplOk ⟨tag, status, data, poisoned⟩
  | .inboundCplTimeout ctx meet => decide (ctx < 4096) && meet.all hostCplOk
  | .inboundCreditTimeout ctx => decide (ctx < 4096)
  | .errlogPop .. | .speclossPop .. => true
  | .pcieLinkChange ev => (match ev with | .up speed width => decide (0 < speed) && decide (speed < 4) && decide (0 < width) && decide (width < 3) | _ => true)
  | .pciePerst .. => true
  | .pcieConfigWrite w => cfgOk w
  | .nowLatch _ len => (len == 4 || len == 8)
  | .refLoss | .refReturn | .residenceExpire => true
  | .pdelayReqRx _ frame => frameOk frame
  | .managementFrameSend frame _ _ tsReq => frameOk frame && (match tsReq with | some i => decide (i < 65536) | none => true)
  | .tsqPop _ p => decide (p < 4)
  | .timeSet .. | .timeAdjust .. | .servoSample .. | .ppsInEdge .. | .servoHoldover .. | .ppsOutPulse => true
  | .triggerCommit _ t _ => decide (t < 8)
  | .triggerEdge t => decide (t < 8)
  | .captureEdge c _ => decide (c < 8)
  | .capturePop _ c => decide (c < 8)
  | .execItem | .doneItem | .cfgItem | .offerItem | .acceptItem | .fieldCplItem | .fieldPendItem | .fieldRecordItem => true
  | .creditReturn _ vc => decide (vc < 4)
  | .keepSend .. | .permitRenew | .permitItem | .permitExpire | .markSend | .markRx | .markReplyRx => true
  | .freqItem | .stepItem | .culvertSymbolTimeout .. | .culvertSilenceTimeout | .culvertCreditTimeout | .culvertCheckFail | .culvertAbortPattern => true
  | .culvertRetrain .. | .culvertRspWaitExpire => true
  | .culvertTrainingFail why => decide (why < 5)
  | .culvertTrainingRetry => true
  | .culvertUp fieldEn fieldRev => decide (fieldEn < 256) && decide (fieldRev < 256)
  | .ringDieLost | .wakePattern => true
  | .serialCharRx n data _ _ start _ => decide (n < 32) && decide (data < 512) && decide (start < 2 ^ 64)
  | .serialBreak n _ => decide (n < 32)
  | .serialCharTimeout n _ => decide (n < 32)
  | .serialIdle n => decide (n < 32)
  | .serialSealedEnter n => decide (n < 32)
  | .serialFlush _ n => decide (n < 32)
  | .serialTxBreak _ n => decide (n < 32)
  | .serialRxClear _ n => decide (n < 32)
  | .serialTxClear _ n => decide (n < 32)
  | .serialTxStart n _ => decide (n < 32)
  | .serialCharTxEnd n => decide (n < 32)
  | .serialDeRelease n => decide (n < 32)
  | .serialCtsChange n _ => decide (n < 32)
  | .pushHoldExpire ep => decide (ep < 48)
  | .pushForm ep => decide (ep < 48)
  | .benchTick n upset => decide (n < 16) && (match upset with | some i => decide (i < 1024) | none => true)
  | .benchStallTimeout n => decide (n < 16)
  | .benchRun _ n => decide (n < 16)
  | .benchStop _ n => decide (n < 16)
  | .benchFlush _ n => decide (n < 16)
  | .benchRxClear _ n => decide (n < 16)
  | .benchTxClear _ n => decide (n < 16)
  | .benchTxd _ n _ => decide (n < 16)
  | .benchProgramWrite _ n _ off bytes _ => decide (n < 16) && decide (off < 0x1000) && sizeOk bytes
  | .benchRunMask .. | .benchStopMask .. | .tableCrcGo .. | .tableCrcDone => true
  | .canIntegrated n => decide (n < 8)
  | .canFrameRx n idWord dlc _ _ _ data => decide (n < 8) && decide (idWord < 2 ^ 32) && decide (dlc < 16) && decide (data.length < 65)
  | .canRxRdWrite _ n _ => decide (n < 8)
  | .canTxReq _ n _ => decide (n < 8)
  | .canTxCancel _ n _ => decide (n < 8)
  | .canSof n => decide (n < 8)
  | .canArbitrationLost n => decide (n < 8)
  | .canTxEnd n tdcv => decide (n < 8) && decide (tdcv < 256)
  | .canBusError n lec weight _ => decide (n < 8) && decide (lec < 8) && decide (weight < 9)
  | .canRecover _ n => decide (n < 8)
  | .canRecovered n => decide (n < 8)
  | .canRefLate n => decide (n < 8)
  | .canTtWindowOpen n j => decide (n < 8) && decide (j < 32)
  | .canTtWindowClose n j => decide (n < 8) && decide (j < 32)
  | .usbPortDisable .. => true
  | .usbOvercurrent k => (decide (0 < k) && decide (k < 4))
  | .usbBabble k => (decide (0 < k) && decide (k < 4))
  | .usbDeviceConnect k _ speed => (decide (0 < k) && decide (k < 4)) && decide (speed < 4)
  | .usfEnableChange .. => true
  | .usfOutPacket _ data => decide (data.length < 513)
  | .usfInToken | .usfInAck .. | .usfStatePoll | .usfAbort | .usfGetState => true
  | .usbSetup _ bytes => decide (bytes.length = 8)
  | .setConfiguration _ value => decide (value < 256)
  | .setInterface => true
  | .clearFeatureEndpointHalt ep => decide (ep < 256)
  | .usbBusReset .. => true
  | .usbSuspend k => decide (k < 5)
  | .usbResume k _ => decide (k < 5)
  | .usfRemoteWakeup => true
  | .usbPortReset k => (decide (0 < k) && decide (k < 5))
  | .pinCfgWrite _ p _ => decide (p < 192)
  | .diRawEdge p _ => decide (p < 192)
  | .diGlitchPass p => decide (p < 192)
  | .diDebounceAccept p => decide (p < 192)
  | .diStampDiscard p => decide (p < 192)
  | .chatterRelease p => decide (p < 192)
  | .chatterWindowLeave p => decide (p < 192)
  | .doWrite _ k _ => decide (k < 6)
  | .rbMismatch p => decide (p < 192)
  | .soeRdWrite .. | .leaseRenew | .leaseLapse | .leaseRequest | .consentPromiseEnd | .grantRx .. | .renewedRx => true
  | .denyRx | .witnessRequestRx | .witnessRenewRx | .witnessReleaseRx => true
  | .witnessLeaseExpire slot => decide (slot < 64)
  | .witnessSlotFree slot => decide (slot < 64)
  | .witnessStartHoldEnd | .mirrorSend => true
  | .mirrorFrameRx frame _ => frameOk frame
  | .mirrorLostTimeout | .mirrorCopyDone | .mirrorFieldTimer | .mirrorTokenTimer | .pairHandover .. | .handoverRelease | .revertHoldoff => true
  | .pairProve .. | .proveDone .. | .vinDomainStart | .vinUvlo | .gateRampStart | .currentLimitEnter | .currentLimitExit => true
  | .faultTimerTrip | .fastTrip | .retryOffEnd | .retriesRestore | .overVoltage | .overVoltageEnd | .thermalGateOff => true
  | .thermalRecover | .gateFault | .gateWeak | .dsShort | .pgAssert | .pfwAssert | .checkpointDone => true
  | .pfwRelease | .pwrBurn .. => true
  | .monitorScan values => decide (values.length = 12) && values.all (fun v => decide (v < 4096))
  | .pinReset => true
  | .resetRelease prof => decide (prof < 4)
  | .startupStepDone _ errs corrected _ => (errs.all fun e => decide (e.addr < 0x400000)) && decide (corrected < 2 ^ 32)
  | .serviceStart | .warmReset .. | .drawerSwitch .. => true
  | .drawerLoadDone ecc => (match ecc with | some i => decide (i < 0x400000) | none => true)
  | .drawerCommit | .quiesceTimeout | .drawerSave .. | .drawerSaveDone | .fwuStage .. => true
  | .fwuPush _ off bytes => (off == 0x80 || off == 0x84) && sizeOk bytes
  | .fwuPushEnd .. => true
  | .fwuStagingDone _ readBack => (match readBack with | some i => decide (i < 4096) | none => true)
  | .fwuActivate .. | .fwuAbort .. | .fwuApprove .. | .fwuConfirm .. | .confirmTimeout | .fallbackRetry => true
  | .unlockPage _ arg sig => decide (arg < 65536) && decide (sig.length = 64)
  | .setOwnerLock _ sig => decide (sig.length = 64)
  | .clearOwnerLock _ sig => decide (sig.length = 64)
  | .enroll _ sig key => decide (sig.length = 64) && decide (key.length = 32)
  | .selftestRun .. => true
  | .selftestPassDone outs cells => (outs.all fun o => decide (o.test < 8) && decide (o.port < 48)) && (cells.all fun c => decide (c < 49152))
  | .offlineTest .. | .offlineTestDone .. | .faultLogPop .. | .testUnlockSet .. | .testUnlockClear .. | .testUnlockExpire => true
  | .perturbWrite _ page _ => decide (page < 0x1000)
  | .testPinChange .. | .scanGo .. | .zeroiseDone => true
  | .reachExpire _ node _ => decide (node < 64)
  | .triggerPulseEnd t => decide (t < 8)
  | .usbVbusChange .. | .pairAnnounceSend => true
  | .hostCreditUpdate posted postedData nonPosted => decide (posted < 128) && decide (postedData < 2048) && decide (nonPosted < 128)

end Sys2Proof
end

