-- ==== Sys2Proof/Tests/Slice0.lean ====
section
/-! SUPPORT. The model's own tests: ill-formed commands that WellFormed refuses, results that the spec's examples state, and for each
statement states and operands that meet its hypotheses. -/

open Sys2Proof Sys2Proof.Machine

set_option maxRecDepth 100000
set_option Elab.async false

/-! ## Hubs to test on -/

/-- A hub in service: reset is over, records may execute. -/
def hub : State :=
  { State.reset with
    start := { State.reset.start with inReset := false, service := true }
    seq := { State.reset.seq with running := true } }

/-- The hub with a field of a register page set. -/
def hubF (p : Nat) (f : FieldD) (v : Nat) (i : Nat := 0) : State := setF hub p f v i

/-- The hub with its culvert UP. -/
def hubC : State := hubF Pg.cul F.CUL_STAT_STATE 2

/-- The hub with its PCIe link up and its BARs open. -/
def hubP : State := setB (setB hub Pg.brg F.BRG_LINK_STAT_UP true) Pg.brg F.BRG_LINK_STAT_MSE true

/-- The hub with port E UP as an HSR port. -/
def hubE : State := setF (setF hub (portPage .e) F.PORT_STAT_LINK 2) (portPage .e) F.PORT_CFG_MODE 1

/-- Its two ring ports UP as HSR ports. -/
def hubEW : State := setF (setF hubE (portPage .w) F.PORT_STAT_LINK 2) (portPage .w) F.PORT_CFG_MODE 1

/-- What a good reception says. -/
def rxg : RxMeta := { late := false, linkLost := false, fecCorr := 0, fecUncorr := 0 }

/-- The hub with 4 GiB of journal memory. -/
def hubJ : State := hubF Pg.jrn F.JRN_STAT_SIZE_GIB 4

/-- A node-table entry that both sides reach. -/
def nent : NodeEnt :=
  { state := 1, coupler := false, uplink := false, reachE := true, reachW := true, verSet := 1, negVer := 1, period := 10, mac := 0x020000000002,
    groupGen := 0, epoch := 0 }

/-- A frame of another station. -/
def frm : Frame := { dmac := 0x020000000009, smac := 0x020000000008, hsr := none, vlan := none, etype := 0x0800, payload := [1#8, 2#8], fcs := .good }

/-- A KVL header. -/
def kv (type seq count len : Nat) : Kvl :=
  { ver := 1, type := type, cls := 5, dup := false, rewrites := 0, dst := mkRoute 0 [1], src := mkRoute 0 [2], initiator := 0x2000, srcFlow := 3,
    baseSeq := seq, count := count, bodyLen := len, srcEpoch := 0, dstEpoch := 0 }

/-- A KVL frame of another hub with this header and body. -/
def kf (s : State) (k : Kvl) (body : List Byte) : Frame := kvlFrame s (ownMac s) 0x020000000002 k body

/-- The state with one local frame from port E. -/
def loc (s : State) (f : Frame) : State :=
  { s with sw := { s.sw with localQ := [0], frames := [(0, { ownDesc s f 5 with ingress := some .e, loc := some 0, shared := 1 })] } }

/-- A transaction of the management core. -/
def txq (op len : Nat) : TxnReq := { init := 0x2000, flow := 1, op := op, addr := 0#64, len := len, data := [], spec := false }

/-- An open record of flow 1 with number 0. -/
def orec : OpenRec := { seq := 0, txn := txnOf (txq 1 4) 512, first := true, sent := true, fill := none, wait := .none, nop := false }

/-- The state with a valid flow 1 that holds this. -/
def withFlow (s : State) (f : IFlow) : State := setFlow (setW s 0x040 0x120 0x20000009#32) 1 f

/-- A record of a REQ that writes four journal bytes. -/
def wrec : ReqRec := { op := 2, spec := false, first := true, len := 4, tag := 5, off := 0x140000000, reason := 0, data := [1#8, 2#8, 3#8, 4#8] }

/-- A record held at number 0. -/
def heldRec (r : ReqRec) : Held := { seq := 0, req := r, st := .held, port := some .e, hdr := kv tyReq 0 1 0, smac := 0x020000000002, repeats := [] }

/-- A target context that holds this. -/
def tctx (h : List Held) : TCtx :=
  { srcRoute := mkRoute 0 [2], srcFlow := 3, cls := 5, pairCtx := false, ne := 0, ackFloor := 0, srcEpoch := 0, lastAt := 0, held := h, cache := [],
    deferred := false }

/-- An outbound window of 4 KiB over page 0. -/
def obw : ObWin :=
  { en := true, lane := 0, unit := 4, prefetch := 0, split := true, order := false, sizeLog2 := 12, flow := 1, host := 0, fab := 0, timeout := 10,
    pfLife := 10 }

/-- The hub with its PCIe link up, page BRG enabled and that window in force. -/
def hubW : State := { setB hubP Pg.brg F.PAGE_CTL_ENABLE true with brg := { hubP.brg with ob := [(15, obw)] } }

/-- A host read. -/
def hrd : HostRd := { rid := 0, ptag := 9, win := 15, off := 0, len := 4, pieces := [], done := [], sent := true, lines := [], needWr := [], flush := false, abandoned := false }

/-- A host read of an inbound transaction. -/
def ibr : IbRd := { tag := 3, place := 0, len := 4, got := [] }

/-- An inbound transaction of context 4095. -/
def ibx : IbTxn := { ctx := 4095, op := 1, win := 0, todo := [], begun := true, reads := [ibr], data := [], total := 4, attr := 0 }

/-- The hub with that transaction in the bridge. -/
def hubI (x : IbTxn) : State := setCtx { hub with brg := { hub.brg with ibTxns := [x] } } 4095 (tctx [{ heldRec wrec with st := .waitHost }])

/-- A trigger that pulses once at time 0. -/
def trg : Trig :=
  { prog := { mode := 1, t0 := 0, phase := 0, period := 0, frac := 0, count := 1, pol := true, lateSkip := false, canEn := false, canPort := 0, width := 10 },
    k := 0, used := 0, armed := true, pulse := false }

/-- An EXEC of the management core that reads IRQ_RAW of SER00. -/
def exq : Exec := { id := 7, org := .acc .core 3, op := 1, spec := false, off := 0x100010, len := 4, data := [], meet := .none, full := false }

/-- The state with these items in the field die's slots. -/
def ringS (s : State) (i : List Item) : State := { s with cul := { s.cul with ringS := i } }

/-- The state with these items in the ring die's slots. -/
def fieldS (s : State) (i : List Item) : State := { s with cul := { s.cul with fieldS := i } }

/-- A push of serial port 0. -/
def psh : Push := { ep := 0, tag := 704, gen := 1, words := 1, pos := 0, req := { txq 2 16 with init := 0x4000 }, accepted := false, orphan := false }

/-- A FIFO word. -/
def fw (b : Byte) : FWord := { data := [b], last := true, gap := false }

/-- The hub with the servo enabled and a threshold of 100 ns. -/
def hubS : State := setF (setB hub Pg.tmk F.TMK_SERVO_CTL_EN true) Pg.tmk F.TMK_SERVO_STEP_THRESH 100

/-- A Pdelay_Req. -/
def pdq : Frame := { frm with dmac := 0x0180C200000E, etype := 0x88F7, payload := 2#8 :: 2#8 :: List.replicate 52 0#8 }

/-- The hub with this page's block enabled. -/
def hubOn (p : Nat) : State := setB hub p F.PAGE_CTL_ENABLE true

/-- Serial port 31 runs, with this FIFO. -/
def hubSer (f : FifoSt) : State := setFifo (hubOn (Pg.ser 31)) 31 f

/-- Serial port 31 runs, with this port state. -/
def hubSp (p : SerSt) : State := setSer (hubOn (Pg.ser 31)) 31 p

/-- Bench 15 in this run state. -/
def hubBen (r : Nat) : State := setF (hubOn (Pg.ben 15)) (Pg.ben 15) F.BEN_STAT_RUN_STATE r

/-- CAN port 7 integrated, with a frame of this kind in hand. -/
def hubCan (c : Option CanTx) : State := setCan (setB (hubOn (Pg.can 7)) (Pg.can 7) F.CAN_STAT_SYNC true) 7 { canNew with cur := c }

/-- A USB port of the hub, powered, with a device on it. -/
def hubUsb (f : FieldD) : State := setUsbPort hub 3 f true

/-- The USB service function enabled and configured. -/
def hubUsf : State := setB (setB hub Pg.usf F.USF_STAT_ENABLED true) Pg.usf F.USF_STAT_CONFIGURED true

/-- Pin 191 as a discrete input, in this state. -/
def hubDi (d : DiSt) : State := setDi (hubF Pg.pin F.PIN_CFG_FUNC 1 191) 191 d

/-- A board whose supply runs, with this power state besides. -/
def pwrOn : PwrSt := { hub.pwr with run := true, gate := true, lim := false, ov := false, tsd := false, off := false, latched := false, dsOff := false }
def hubPwr (p : PwrSt) : State := { hub with pwr := p }

/-- A pair member in this role. -/
def hubRole (r : Nat) : State := hubF Pg.par F.PAR_STAT_ROLE r

/-- A lease frame's content. -/
def lse (kind id : Nat) : Lease :=
  { kind := kind, flags := 0, leaseMs := 100, epoch := 1, pairMac := 0, pairNode := 5, reason := 0, reqId := id, remainUs := 0, successor := 0 }

/-- The state with this lease frame local. -/
def leaseIn (s : State) (l : Lease) : State := loc s (kf s (kv tyLease 0 0 32) (leaseBytes l))

/-- A witness slot of the pair with MAC address 0. -/
def wsl : WitSlot := { pairMac := 0, pairNode := 5, holder := 0x020000000007, epoch := 1, sync := false, held := true, ends := 100, pend := none }

/-- A hub that serves as a witness, with this slot. -/
def hubWit (w : WitSlot) : State :=
  { setB hub Pg.par F.PAR_CTL_WITNESS_EN true with pair := { hub.pair with slots := [(15, w)], startHold := false } }

/-- A member whose mirror link runs on port C1. -/
def hubMir (r : Nat) : State :=
  setF (setF (setF (hubRole r) (portPage .c1) F.PORT_CFG_ROLE 3) (portPage .c1) F.PORT_STAT_LINK 2) (portPage .c1) F.PORT_STAT_HELLO 1

/-- A drawer switch in hand, in this phase. -/
def swj : SwitchJob := { drawer := 0, set := 0, fwu := 0, flows := [], benches := [] }
def hubSw (ph : Nat) : State := { hubF Pg.drw F.DRW_STAT_PHASE ph with start := { hub.start with job := some swj } }

/-- A staging in hand: 1 from the journal, 2 from push. -/
def hubFwu (j st : Nat) : State := { hubF Pg.fwu F.FWU_STAT_STATE st with fwu := { hub.fwu with job := j } }

/-- A standby that is well: its culvert, journal and mirror run, and the witness is a node of its ring. -/
def hubWell : State :=
  setF (setF (setB (setB (setF (setF (setF { hubE with ring := { hubE.ring with nt := [(2, nent)] } } Pg.par F.PAR_STAT_ROLE 3) Pg.par F.PAR_WITNESS_PATH (2 * 2 ^ 18))
    Pg.cul F.CUL_STAT_STATE 2) Pg.par F.PAR_CTL_REVERT true) Pg.par F.PAR_CTL_PREFERRED true) Pg.mir F.MIR_STAT_STATE 3) Pg.jrn F.JRN_STAT_STATE 2

/-- A holder of a pair node, with an address of its own. -/
def hubAnn : State := { hubRole 2 with dev := { hub.dev with mac := 0x020000000001 } }

/-- A drawer with no records: the magic, version 1, length 64 and its CRC. -/
def drw0 : List Byte :=
  [0x17#8, 0x0D#8, 0xC4#8, 0x7E#8, 1#8, 0#8, 0#8, 0#8, 64#8] ++ List.replicate 51 0#8 ++ [0x0A#8, 0x86#8, 0xAD#8, 0x7E#8]

/-- A switch to drawer 0, which has no records, waits for its commit. -/
def hubDrw : State := drawerPut (setF (hubSw 2) Pg.cul F.CUL_STAT_STATE 2) 0 0 0 drw0

/-- The same switch of a holder that mirrors: it changes the rate of sluice entry 0 back to its default. -/
def hubDrwM : State := setF (setF (setF hubDrw Pg.par F.PAR_STAT_ROLE 2) Pg.mir F.MIR_STAT_STATE 3) Pg.slu40 F.SLU40_RATE_RATE 5000

/-- An update is staged and the board's power is good. -/
def hubAct : State :=
  { setB (setB (hubF Pg.fwu F.FWU_STAT_STATE 3) Pg.pwr F.PWR_STAT_HOLDUP_OK true) Pg.pwr F.PWR_STAT_PFW false with pwr := pwrOn }

/-- A coupler, node 4 of its ring, with node 2 on its subring. -/
def hubQ : State :=
  setF (setF (setF { hub with ring := { hub.ring with st := [(2, nent)] } } (portPage .c1) F.PORT_CFG_ROLE 2) (portPage .c2) F.PORT_CFG_ROLE 2)
    Pg.nod F.NOD_SELF_NODE 4

/-- A CPL for node 2 of that subring. -/
def kq : Kvl := { kv tyCpl 0 1 24 with dst := mkRoute 0 [4, 2] }
def fq : Frame := kf hubQ kq (List.replicate 24 0#8)

/-- A broadcast EVENT to journal memory. -/
def erec : ReqRec := { wrec with op := 6, len := 8, data := [1#8, 2#8, 3#8, 4#8, 5#8, 6#8, 7#8, 8#8] }
def fe : Frame := { kf hubJ (kv tyReq 0 1 32) (reqBody 0 [erec]) with dmac := macBroadcast }

/-- A STREAM of context 4095 that waits for FIFO room. -/
def xst : Exec := { exq with org := .ofCtx 4095 0 }
def hubX : State := setCtx { hub with cul := { hub.cul with execs := [xst] } } 4095 (tctx [{ heldRec wrec with st := .stream }])

/-- A flow with one burst to release. -/
def hubFur : State :=
  withFlow hub { iflowNew with nextSeq := 1, peerEpoch := 1, opens := [orec], furrow := [{ seqs := [0], stamp := 0 }], sentOnce := true }

/-- The same with node 2 behind port E. -/
def hubFurE : State :=
  setF { hubFur with ring := { hub.ring with nt := [(2, nent)] }, regs := (setF (setF hubFur (portPage .e) F.PORT_STAT_LINK 2) (portPage .e) F.PORT_CFG_MODE 1).regs }
    0x040 F.FLW_DST_PATH (2 * 2 ^ 18) 1

/-- A flow that is open, and the CPL that closes its record. -/
def orec3 : OpenRec := { orec with txn := { orec.txn with flow := 3 } }
def cplOk : CplRec := { status := 0, late := false, effectful := false, filled := false, tag := 512, cause := 0, data := [] }
def cplF : Frame := kf hub (kv tyCpl 0 1 16) (cplBody 1 [cplOk])
def hubCpl : State := loc (setFlow (setW hub 0x040 0x160 9#32) 3 { iflowNew with nextSeq := 1, opens := [orec3] }) cplF
def cplTaken (s : State) : State := ((takeLocal s (fun _ _ k => k.type == tyCpl)).getD ((.e, frm, kv 0 0 0 0), s)).2
def reqTaken (b : Bool) (s : State) : State := ((takeLocal s (isReqFor b)).getD ((.e, frm, kv 0 0 0 0), s)).2

/-- A receiver that has executed this number of the broadcast flow last. -/
def hubBc (q : Nat) : State := { hubJ with seq := { hubJ.seq with bcast := [{ srcRoute := mkRoute 0 [2], srcFlow := 3, cls := 5, last := q }] } }

/-- A record of the sequencing log. -/
def slg : SeqLog := { status := 0x10, cause := 0x43, flow := 3, seq := 7, offLo := 8, offHi := 0, tag := 512, op := 2, orphan := false }

/-- A held line of window 15, and records of the bridge's logs. -/
def pfl : PfPart :=
  { win := 15, start := 0, len := 256, tag := 192, isOpen := false, dropped := false, status := 0, effectful := false, unknown := false, data := [],
    given := [] }
def erc : ErrRec := { status := 0x10, cause := 0x43, kind := 0, discarded := true, win := 15, addr := 8, len := 4, tag := 3 }
def lrc : LossRec := { win := 15, unknown := true, firstUnused := 255, tag := 511, addr := 256 }

/-- A member in this role that knows its witness, node 2. -/
def hubWn (r : Nat) : State :=
  setF (setF { hubEW with ring := { hubEW.ring with nt := [(2, nent)] } } Pg.par F.PAR_STAT_ROLE r) Pg.par F.PAR_WITNESS_PATH (2 * 2 ^ 18)

/-- The same, fit to ask for the lease. -/
def hubRq (r : Nat) : State := setF (setF (hubWn r) Pg.cul F.CUL_STAT_STATE 2) Pg.jrn F.JRN_STAT_STATE 3

/-- Its frame to the witness. -/
def wnF (s : State) (kind flags successor : Nat) : Frame :=
  leaseFrame s 0x020000000002 (witnessRoute s) (memberLease s kind flags successor)

/-- A lease frame that hands the lease to this hub. -/
def lhd : Lease := { lse 2 9 with flags := 8, successor := ownMac hub }

/-- A CLOSE record of the mirror stream. -/
def mrc : MirRec := { msn := 7, kind := 2, wait := false, key := 3, seq := 4, body := [] }

/-- A MIRROR frame of the partner with this body, as it arrives at a standby. -/
def mirBody (s : State) (rs : List MirRec) : List Byte :=
  beBytes 4 0 ++ beBytes 1 2 ++ beBytes 1 0xFF ++ beBytes 1 0 ++ beBytes 1 0 ++ beBytes 4 0 ++ beBytes 2 0 ++ beBytes 2 0 ++ beBytes 4 (pairCrc s) ++
    (rs.map mirRecBytes).flatten

/-- A standby in sync whose mirror log is at this number. -/
def hubSt (n : Nat) : State :=
  let s := setF (hubMir 3) Pg.mir F.MIR_STAT_STATE 3
  { s with pair := { s.pair with logNext := n } }

/-- The same member with the mirror port UP as a port of the switch. -/
def hubMt (r : Nat) : State := setF (hubMir r) (portPage .c1) F.PORT_CFG_MODE 1


/-- A hub in start-up, at this step. -/
def hubStep (n : Nat) : State := hubF Pg.rst F.RST_STAT_STEP n

/-- A commit record, its image in slot 1. -/
def cmt : Commit :=
  { seq := 1, slot := 1, trial := true, started := true, ownerLock := false, prev := 0, secCnt := 0, slotSec := 0, slotVer := 0 }

/-- What a checkpoint or the journal holds of flow 1. -/
def fimg : FlowImg := { flows := [(1, { iflowNew with nextSeq := 1, opens := [orec] })], ctxs := [], log := [], regs := [] }

/-- Start-up at this step with these start records besides. -/
def hubStart (n : Nat) (st : StartSt → StartSt) : State := { hubStep n with start := st hub.start }

/-- A block of 4096 bytes whose CRC does not match. -/
def badBlock : List Byte := if blockOk (List.replicate 4096 0#8) then List.replicate 4095 0#8 ++ [1#8] else List.replicate 4096 0#8

theorem badBlock_bad : blockOk badBlock = false := by
  unfold badBlock
  split
  · rename_i h
    simp only [blockOk, Bool.and_eq_true, beq_iff_eq] at h
    have e : (List.replicate 4095 0#8 ++ [1#8]).take 4092 = (List.replicate 4096 0#8).take 4092 := by
      rw [List.take_append_of_le_length (by rw [List.length_replicate]; decide), List.take_replicate, List.take_replicate]
      rfl
    simp only [blockOk, e, h.2, Bool.and_eq_false_iff]
    exact .inr (by decide +kernel)
  · rename_i h
    exact Bool.eq_false_iff.mpr h

theorem badBlock_length : badBlock.length = 4096 := by
  unfold badBlock
  split
  · rw [List.length_append, List.length_replicate]; rfl
  · rw [List.length_replicate]

/-- These bytes have been pushed. -/
def hubPush (l : List Byte) : State := { hubFwu 2 2 with fwu := { hub.fwu with job := 2, push := l } }

theorem hubPush_source (l : List Byte) : stageSource (hubPush l) = l := rfl

theorem hubPush_bad : (blocksOf ((stageSource (hubPush badBlock)).length / 4096) (stageSource (hubPush badBlock))).findIdx? (fun b => !blockOk b) = some 0 := by
  have e : ∀ l : List Byte, l.length = 4096 → blockOk l = false → (blocksOf (l.length / 4096) l).findIdx? (fun b => !blockOk b) = some 0 := by
    intro l hl hb
    rw [hl]
    simp [blocksOf, List.take_of_length_le hl.le, hb]
  rw [hubPush_source]
  exact e _ badBlock_length badBlock_bad

/-- The neutral key is enrolled at this hub. -/
def hubOwn : State := { hub with test := { hub.test with ownerKey := some neutralKey } }

/-- The same hub with TEST high and the response to a scan challenge written. -/
def hubScan : State :=
  (List.range 16).foldl (fun a k => setW a Pg.prt (0x80 + 4 * k) (BitVec.ofNat 32 (leAt neutralSig (4 * k) 4)))
    (setB hubOwn Pg.prt F.PRT_STAT_TEST_PIN true)

/-- Operands to start from. -/
def rxm : RxMeta := { late := false, linkLost := false, fecCorr := 0, fecUncorr := 0 }
def ecf : EccFault := { place := 0, index := 0, word := 0, single := true }
def jef : JEcc := { addr := 0, single := true }
def cer : ChestErr := { addr := 0, ecc := true, hit := .other }
def tou : TestOut := { test := 0, port := 0, fail := true }


/-! ## Well-formed and ill-formed commands -/

/-- Each of these commands has one operand out of its range and is refused. -/
theorem test_ill_formed_1 :
    ([
      .registerWrite .core 0x1000 0 [0#8] .none,
      .registerWrite .core 0 0x1000 [0#8] .none,
      .registerWrite .core 0 0 [] .none,
      .registerWrite .core 0 0 (List.replicate 257 0#8) .none,
      .errCountRead .core 0x1000 [],
      .rcCounterRead .core 0x1000 0,
      .rcCounterRead .core 0 0x1000,
      .blockReset .core 0x1000,
      .blockResetDone 0x1000,
      .pageEnableWrite .core 0x1000 true,
      .freezeWrite .core 0x1000 true,
      .irqEnWrite .core 0x1000 0#32,
      .intEoi .core 64 none,
      .msixPendingSend 64,
      .handshakeTimeout 0x1000 .datapath true,
      .lateAcknowledge 0x1000 [0#8],
      .portCfgWrite .core 4 0#32,
      .signalLockChange .e true true true 4,
      .hsrFrameRx .e { frm with dmac := 2 ^ 48 } rxm,
      .hsrFrameRx .e { frm with smac := 2 ^ 48 } rxm] : List Instr).all (fun c => !c.wellFormed) = true := by decide +kernel

/-- Each of these commands has one operand out of its range and is refused. -/
theorem test_ill_formed_2 :
    ([
      .hsrFrameRx .e { frm with etype := 65536 } rxm,
      .hsrFrameRx .e { frm with payload := List.replicate 9217 0#8 } rxm,
      .hsrFrameRx .e { frm with hsr := some { path := 16, seq := 0 } } rxm,
      .hsrFrameRx .e { frm with hsr := some { path := 0, seq := 65536 } } rxm,
      .hsrFrameRx .e { frm with vlan := some 65536 } rxm,
      .ddEntryExpire (2 ^ 48) 0 true,
      .ddEntryExpire 0 65536 true,
      .redboxFrameRx .e { frm with dmac := 2 ^ 48 },
      .proxyExpire (2 ^ 48),
      .helloRx .e { frm with dmac := 2 ^ 48 },
      .nodeLoss true 64,
      .rbCtlWrite .core 16 0#32,
      .transactionIssue { txq 1 4 with init := 65536 },
      .transactionIssue { txq 1 4 with flow := 4096 },
      .transactionIssue { txq 1 4 with op := 0 },
      .transactionIssue { txq 1 4 with op := 7 },
      .transactionIssue { txq 1 4 with len := 257 },
      .transactionIssue { txq 1 4 with data := List.replicate 257 0#8 },
      .sequenceAssign 4096,
      .durabilityDone 1024 none] : List Instr).all (fun c => !c.wellFormed) = true := by decide +kernel

/-- Each of these commands has one operand out of its range and is refused. -/
theorem test_ill_formed_3 :
    ([
      .furrowRelease 4096,
      .portSelect .e (some { ecf with place := 3 }),
      .portSelect .e (some { ecf with index := 65536 }),
      .portSelect .e (some { ecf with word := 4 }),
      .bucketCtlWrite .core 0x080 64 0#32,
      .retransmitTimeout 4096 none,
      .retransmitTimeout 0 (some { jef with addr := 2 ^ 34 }),
      .reqRx (some { jef with addr := 2 ^ 34 }),
      .deferredExecute 4096,
      .contextRelease 4096,
      .nopSend 4096,
      .bufferScrub (2 ^ 32) none true,
      .bufferScrub 0 (some { ecf with place := 3 }) true,
      .bufferScrub 0 (some { ecf with index := 65536 }) true,
      .bufferScrub 0 (some { ecf with word := 4 }) true,
      .journalPatrolScrub (2 ^ 32) none,
      .journalPatrolScrub 0 (some { jef with addr := 2 ^ 34 }),
      .bar0Access 1024 0 4 none,
      .bar0Access 0 (2 ^ 24) 4 none,
      .bar0Access 0 0 9 none] : List Instr).all (fun c => !c.wellFormed) = true := by decide +kernel

/-- Each of these commands has one operand out of its range and is refused. -/
theorem test_ill_formed_4 :
    ([
      .bar0Access 0 0 0 none,
      .hostWrite (2 ^ 36) [none],
      .hostFlushRead 1024 0,
      .hostFlushRead 0 (2 ^ 36),
      .obCtlWrite .core 16 0#32,
      .ibCtlWrite .core 8 0#32,
      .inboundCreditTimeout 4096,
      .pdelayReqRx .e { frm with dmac := 2 ^ 48 },
      .managementFrameSend { frm with dmac := 2 ^ 48 } [] true none,
      .tsqPop .core 4,
      .triggerCommit .core 8 0#32,
      .triggerEdge 8,
      .captureEdge 8 true,
      .capturePop .core 8,
      .creditReturn true 4,
      .culvertTrainingFail 5,
      .culvertUp 256 0,
      .culvertUp 0 256,
      .serialCharRx 32 0 true true 0 true,
      .serialCharRx 0 512 true true 0 true] : List Instr).all (fun c => !c.wellFormed) = true := by decide +kernel

/-- Each of these commands has one operand out of its range and is refused. -/
theorem test_ill_formed_5 :
    ([
      .serialCharRx 0 0 true true (2 ^ 64) true,
      .serialBreak 32 true,
      .serialCharTimeout 32 true,
      .serialIdle 32,
      .serialSealedEnter 32,
      .serialFlush .core 32,
      .serialTxBreak .core 32,
      .serialRxClear .core 32,
      .serialTxClear .core 32,
      .serialTxStart 32 true,
      .serialCharTxEnd 32,
      .serialDeRelease 32,
      .serialCtsChange 32 true,
      .pushHoldExpire 48,
      .pushForm 48,
      .benchTick 16 none,
      .benchStallTimeout 16,
      .benchRun .core 16,
      .benchStop .core 16,
      .benchFlush .core 16] : List Instr).all (fun c => !c.wellFormed) = true := by decide +kernel

/-- Each of these commands has one operand out of its range and is refused. -/
theorem test_ill_formed_6 :
    ([
      .benchRxClear .core 16,
      .benchTxClear .core 16,
      .benchTxd .core 16 0#32,
      .benchProgramWrite .core 16 true 0 [0#8] true,
      .benchProgramWrite .core 0 true 0x1000 [0#8] true,
      .benchProgramWrite .core 0 true 0 [] true,
      .benchProgramWrite .core 0 true 0 (List.replicate 257 0#8) true,
      .canIntegrated 8,
      .canFrameRx 8 0 0 true true true [0#8],
      .canFrameRx 0 (2 ^ 32) 0 true true true [0#8],
      .canFrameRx 0 0 16 true true true [0#8],
      .canRxRdWrite .core 8 0#32,
      .canTxReq .core 8 0#32,
      .canTxCancel .core 8 0#32,
      .canSof 8,
      .canArbitrationLost 8,
      .canTxEnd 8 0,
      .canTxEnd 0 256,
      .canBusError 8 0 0 true,
      .canBusError 0 8 0 true] : List Instr).all (fun c => !c.wellFormed) = true := by decide +kernel

/-- Each of these commands has one operand out of its range and is refused. -/
theorem test_ill_formed_7 :
    ([
      .canBusError 0 0 9 true,
      .canRecover .core 8,
      .canRecovered 8,
      .canRefLate 8,
      .canTtWindowOpen 8 0,
      .canTtWindowOpen 0 32,
      .canTtWindowClose 8 0,
      .canTtWindowClose 0 32,
      .usbOvercurrent 4,
      .usbOvercurrent 0,
      .usbBabble 4,
      .usbBabble 0,
      .usbDeviceConnect 4 true 0,
      .usbDeviceConnect 1 true 4,
      .usbDeviceConnect 0 true 0,
      .setConfiguration true 256,
      .clearFeatureEndpointHalt 256,
      .usbSuspend 5,
      .usbResume 5 .none,
      .usbPortReset 5] : List Instr).all (fun c => !c.wellFormed) = true := by decide +kernel

/-- Each of these commands has one operand out of its range and is refused. -/
theorem test_ill_formed_8 :
    ([
      .usbPortReset 0,
      .pinCfgWrite .core 192 0#32,
      .diRawEdge 192 true,
      .diGlitchPass 192,
      .diDebounceAccept 192,
      .diStampDiscard 192,
      .chatterRelease 192,
      .chatterWindowLeave 192,
      .doWrite .core 6 0#32,
      .rbMismatch 192,
      .witnessLeaseExpire 64,
      .witnessSlotFree 64,
      .mirrorFrameRx { frm with dmac := 2 ^ 48 } true,
      .resetRelease 4,
      .fwuPush .core 0x80 [],
      .fwuPush .core 0x80 (List.replicate 257 0#8),
      .unlockPage .core 65536 (List.replicate 64 0#8),
      .perturbWrite .core 0x1000 0#32,
      .reachExpire true 64 .e,
      .triggerPulseEnd 8] : List Instr).all (fun c => !c.wellFormed) = true := by decide +kernel

/-- Each of these commands has one operand out of its range and is refused. -/
theorem test_ill_formed_9 :
    ([
      .hostCreditUpdate 128 0 0,
      .hostCreditUpdate 0 2048 0,
      .hostCreditUpdate 0 0 128,
      .errCountRead .core 0 [{ status := 256, cause := 0, reg := 0 }],
      .errCountRead .core 0 [{ status := 0, cause := 256, reg := 0 }],
      .errCountRead .core 0 [{ status := 0, cause := 0, reg := 1024 }],
      .intEoi .core 0 (some (0x1000, 0)),
      .intEoi .core 0 (some (0, 32)),
      .lateAcknowledge 0 (List.replicate 257 0#8),
      .durabilityDone 0 (some 0x400000),
      .bucketCtlWrite .core 0x07F 0 0#32,
      .bucketCtlWrite .core 0x0D1 0 0#32,
      .bar0Access 0 0 4 (some [0#8]),
      .hostWrite 0 [],
      .hostWrite 0 (List.replicate 257 none),
      .hostRead 0 0 [],
      .hostRead 0 0 (List.replicate 4097 true),
      .hostCompletionRx 0 0 (List.replicate 4097 0#8) false,
      .pcieLinkChange (.up 0 1),
      .pcieLinkChange (.up 4 1)] : List Instr).all (fun c => !c.wellFormed) = true := by decide +kernel

/-- Each of these commands has one operand out of its range and is refused. -/
theorem test_ill_formed_10 :
    ([
      .pcieLinkChange (.up 1 0),
      .pcieLinkChange (.up 1 3),
      .pcieConfigWrite (.table 64 0 0#32),
      .pcieConfigWrite (.table 0 4 0#32),
      .pcieConfigWrite (.devCtl 8 0),
      .pcieConfigWrite (.devCtl 0 8),
      .pcieConfigWrite (.bar 6 0#32),
      .pcieConfigWrite (.read 1024 0),
      .pcieConfigWrite (.read 0 4096),
      .pcieConfigWrite (.tableRead 1024 0),
      .pcieConfigWrite (.tableRead 0 8192),
      .hostCompletionRx 64 0 [] false,
      .hostCompletionRx 0 8 [] false,
      .hostRead 1024 0 [true],
      .hostRead 0 (2 ^ 36) [true],
      .inboundCplTimeout 0 (some { tag := 64, status := 0, data := [], poisoned := false }),
      .prefetchLineExpire 0 0 (some { ptag := 1024, off := 0, enables := [true] }),
      .nowLatch .core 6,
      .managementFrameSend frm [] false (some 65536),
      .benchTick 0 (some 1024)] : List Instr).all (fun c => !c.wellFormed) = true := by decide +kernel

/-- Each of these commands has one operand out of its range and is refused. -/
theorem test_ill_formed_11 :
    ([
      .canFrameRx 0 0 0 false false false (List.replicate 65 0#8),
      .usfOutPacket true (List.replicate 513 0#8),
      .usbSetup true [],
      .monitorScan [0],
      .monitorScan (List.replicate 12 4096),
      .startupStepDone true [{ cer with addr := 0x400000 }] 0 [],
      .startupStepDone true [] (2 ^ 32) [],
      .drawerLoadDone (some 0x400000),
      .fwuPush .core 0x88 [0#8],
      .fwuStagingDone true (some 4096),
      .unlockPage .core 0 [],
      .setOwnerLock .core [],
      .clearOwnerLock .core [],
      .enroll .core [] (List.replicate 32 0#8),
      .enroll .core (List.replicate 64 0#8) [],
      .selftestPassDone [{ tou with test := 8 }] [],
      .selftestPassDone [{ tou with port := 48 }] [],
      .selftestPassDone [] [49152]] : List Instr).all (fun c => !c.wellFormed) = true := by decide +kernel

/-- Each of these commands has one operand at the end of its range. -/
theorem test_well_formed_1 :
    ([
      .registerWrite .core 4095 0 [0#8] .none,
      .registerWrite .core 0 4095 [0#8] .none,
      .errCountRead .core 4095 [],
      .rcCounterRead .core 4095 0,
      .rcCounterRead .core 0 4095,
      .blockReset .core 4095,
      .blockResetDone 4095,
      .pageEnableWrite .core 4095 true,
      .freezeWrite .core 4095 true,
      .irqEnWrite .core 4095 0#32,
      .intEoi .core 63 none,
      .msixPendingSend 63,
      .handshakeTimeout 4095 .datapath true,
      .lateAcknowledge 4095 [0#8],
      .portCfgWrite .core 3 0#32,
      .signalLockChange .e true true true 3,
      .ddEntryExpire 281474976710655 0 true,
      .ddEntryExpire 0 65535 true,
      .proxyExpire 281474976710655,
      .nodeLoss true 63] : List Instr).all (fun c => c.wellFormed) = true := by decide +kernel

/-- Each of these commands has one operand at the end of its range. -/
theorem test_well_formed_2 :
    ([
      .rbCtlWrite .core 15 0#32,
      .sequenceAssign 4095,
      .durabilityDone 1023 none,
      .furrowRelease 4095,
      .bucketCtlWrite .core 0x080 63 0#32,
      .retransmitTimeout 4095 none,
      .deferredExecute 4095,
      .contextRelease 4095,
      .nopSend 4095,
      .bufferScrub 4294967295 none true,
      .journalPatrolScrub 4294967295 none,
      .bar0Access 1023 0 4 none,
      .bar0Access 0 16777215 4 none,
      .bar0Access 0 0 8 none,
      .hostWrite 68719476735 [none],
      .hostFlushRead 1023 0,
      .hostFlushRead 0 68719476735,
      .obCtlWrite .core 15 0#32,
      .ibCtlWrite .core 7 0#32,
      .inboundCreditTimeout 4095] : List Instr).all (fun c => c.wellFormed) = true := by decide +kernel

/-- Each of these commands has one operand at the end of its range. -/
theorem test_well_formed_3 :
    ([
      .tsqPop .core 3,
      .triggerCommit .core 7 0#32,
      .triggerEdge 7,
      .captureEdge 7 true,
      .capturePop .core 7,
      .creditReturn true 3,
      .culvertTrainingFail 4,
      .culvertUp 255 0,
      .culvertUp 0 255,
      .serialCharRx 31 0 true true 0 true,
      .serialCharRx 0 511 true true 0 true,
      .serialCharRx 0 0 true true 18446744073709551615 true,
      .serialBreak 31 true,
      .serialCharTimeout 31 true,
      .serialIdle 31,
      .serialSealedEnter 31,
      .serialFlush .core 31,
      .serialTxBreak .core 31,
      .serialRxClear .core 31,
      .serialTxClear .core 31] : List Instr).all (fun c => c.wellFormed) = true := by decide +kernel

/-- Each of these commands has one operand at the end of its range. -/
theorem test_well_formed_4 :
    ([
      .serialTxStart 31 true,
      .serialCharTxEnd 31,
      .serialDeRelease 31,
      .serialCtsChange 31 true,
      .pushHoldExpire 47,
      .pushForm 47,
      .benchTick 15 none,
      .benchStallTimeout 15,
      .benchRun .core 15,
      .benchStop .core 15,
      .benchFlush .core 15,
      .benchRxClear .core 15,
      .benchTxClear .core 15,
      .benchTxd .core 15 0#32,
      .benchProgramWrite .core 15 true 0 [0#8] true,
      .benchProgramWrite .core 0 true 4095 [0#8] true,
      .canIntegrated 7,
      .canFrameRx 7 0 0 true true true [0#8],
      .canFrameRx 0 4294967295 0 true true true [0#8],
      .canFrameRx 0 0 15 true true true [0#8]] : List Instr).all (fun c => c.wellFormed) = true := by decide +kernel

/-- Each of these commands has one operand at the end of its range. -/
theorem test_well_formed_5 :
    ([
      .canRxRdWrite .core 7 0#32,
      .canTxReq .core 7 0#32,
      .canTxCancel .core 7 0#32,
      .canSof 7,
      .canArbitrationLost 7,
      .canTxEnd 7 0,
      .canTxEnd 0 255,
      .canBusError 7 0 0 true,
      .canBusError 0 7 0 true,
      .canBusError 0 0 8 true,
      .canRecover .core 7,
      .canRecovered 7,
      .canRefLate 7,
      .canTtWindowOpen 7 0,
      .canTtWindowOpen 0 31,
      .canTtWindowClose 7 0,
      .canTtWindowClose 0 31,
      .usbOvercurrent 3,
      .usbBabble 3,
      .usbDeviceConnect 3 true 0] : List Instr).all (fun c => c.wellFormed) = true := by decide +kernel

/-- Each of these commands has one operand at the end of its range. -/
theorem test_well_formed_6 :
    ([
      .usbDeviceConnect 1 true 3,
      .setConfiguration true 255,
      .clearFeatureEndpointHalt 255,
      .usbSuspend 4,
      .usbResume 4 .none,
      .usbPortReset 4,
      .pinCfgWrite .core 191 0#32,
      .diRawEdge 191 true,
      .diGlitchPass 191,
      .diDebounceAccept 191,
      .diStampDiscard 191,
      .chatterRelease 191,
      .chatterWindowLeave 191,
      .doWrite .core 5 0#32,
      .rbMismatch 191,
      .witnessLeaseExpire 63,
      .witnessSlotFree 63,
      .resetRelease 3,
      .unlockPage .core 65535 (List.replicate 64 0#8),
      .perturbWrite .core 4095 0#32] : List Instr).all (fun c => c.wellFormed) = true := by decide +kernel

/-- Each of these commands has one operand at the end of its range. -/
theorem test_well_formed_7 :
    ([
      .reachExpire true 63 .e,
      .triggerPulseEnd 7,
      .hostCreditUpdate 127 0 0,
      .hostCreditUpdate 0 2047 0,
      .hostCreditUpdate 0 0 127] : List Instr).all (fun c => c.wellFormed) = true := by decide +kernel

/-! ## Results that the spec's own examples and tables state -/

/-- What a command leaves, as a check on the next state. -/
def after (c : Instr) (s : State) (p : State → Bool) : Bool :=
  match exec c s with
  | .next t => p t
  | _ => false

/-- spec/02, the example after R45: PATH 12.17.0.0 and OFFSET 0x00_0104_0000, the receive half of SER4; the window of entry 3. -/
theorem test_address_of_ser4 :
    addrPath 0x3110000001040000 = [12, 17, 0, 0] ∧ addrOffset 0x3110000001040000 = 0x01040000 ∧ regionOf 0x01040000 = .fifo 4 false ∧
      addrOffset 0x3000009801040000 = 0x9801040000 ∧ regionOf 0x9801040000 = .rebase 3 := by decide +kernel

/-- spec/06, the example of R166: a WRITE of 256 bytes is charged 272, an 8-byte READ 24 and a CSWAP 32. -/
theorem test_charges : txnCharge 2 256 = 272 ∧ txnCharge 1 8 = 24 ∧ txnCharge 3 8 = 32 := by decide +kernel

/-- spec/06, worked example: a frame of 8776 bytes with OVERHEAD 20 takes 3000 tokens to -5796. -/
theorem test_sluice_charge :
    sluTokens (sluCharge (setF (setF (setB hub (Pg.slu 0) F.SLU_CTL_EN true 5) (Pg.slu 0) F.SLU_CTL_OVERHEAD 20 5) (Pg.slu 0) F.SLU_TOKENS_TOKENS 3000 5)
      (Pg.slu 0) 5 8776) (Pg.slu 0) 5 = -5796 := by decide +kernel

/-- spec/09, the example after R259, in sixteenths of a nanosecond: the offset is +10.25 ns. -/
theorem test_mark_offset : markOffset 16000 16196 24000 23868 = 164 := by decide +kernel

/-- spec/08, the example of R237: 4800 edges per second fall at 0, 208 333, 416 667 and 625 000 ns into a second. -/
theorem test_rate_edges :
    (List.range 4).map (edgeTime { trg.prog with mode := 3, period := 4800 }) = [0, 208333, 416667, 625000] := by decide +kernel

/-- spec/02, the example after R64: a source of page 0x104 raises PEND08 bit 4 and, with ROUTE 0x49, vector 9. -/
theorem test_vector_nine :
    let s := setW hub Pg.int (0x800 + 4 * 0x104) 0x49#32
    let t := { s with intr := { s.intr with fieldPend := [0x104] } }
    vecLevel s 9 = false ∧ vecLevel t 9 = true ∧ (shownWord t Pg.int 0x120).getLsbD 4 = true := by decide +kernel

/-- spec/13, the example: +1.00 % and -2.00 % read 0xFF38_0064 in GEN.WATCH. -/
theorem test_watch_word : after (.watchMeasure 100 (-200)) hub (fun t => getW t Pg.gen 0xC0 == 0xFF380064#32) = true := by decide +kernel

/-- spec/13, the example: the response block of a 4-byte READ with TAG 5 and sequence number 0x1A40. -/
theorem test_response_block :
    after .usfInToken { hubUsf with usb := { hubUsf.usb with
        resp := [{ tag := 5, status := 0, cause := 0, orphan := false, seq := 0x1A40, data := [0x64#8, 0x00#8, 0x38#8, 0xFF#8] }] } } (fun t =>
      t.usb.inFlight.map (·.1) == some [0x00#8, 0x00#8, 0x05#8, 0x00#8, 0x04#8, 0x00#8, 0x00#8, 0x00#8, 0x40#8, 0x1A#8, 0x00#8, 0x00#8, 0x00#8, 0x00#8,
        0x00#8, 0x00#8, 0x64#8, 0x00#8, 0x38#8, 0xFF#8]) = true := by decide +kernel

/-- spec/10, worked example: seven bytes and CHAR_TO close the word 0x0078_5634_1204_030A with tag 0x17. -/
theorem test_char_timeout :
    after (.serialCharTimeout 31 false) (hubSer { fifoNew with opened := [0x0A#8, 0x03#8, 0x04#8, 0x12#8, 0x34#8, 0x56#8, 0x78#8] }) (fun t =>
      match (fifoOf t 31).rx with
      | [w] => leNat (wordBytes w) == 0x007856341204030A && wordTag w == 0x17
      | _ => false) = true := by decide +kernel

/-- spec/11, the example's table: at IDLE with the trigger the bench goes to SELECT with divisor B. -/
theorem test_bench_idle :
    after (.benchTick 15 none)
      (setW (setW (setBen (setF (hubBen 1) (Pg.ben 15) F.BEN_DIV_B_DIV 0x88) 15 { benNew with table := [(1, 0x08010000#32)] }) (Pg.ben 15) 0x50 0xFEFEFEFF#32)
        (Pg.ben 15) 0x54 4#32)
      (fun t => getF t (Pg.ben 15) F.BEN_STATE_STATE == 1 && (benOf t 15).divisor == 0x88) = true := by decide +kernel

/-- spec/11, the example's table: CLOCK with the word done pushes the bytes 0x5C and 0x0A and clears COUNT. -/
theorem test_bench_push :
    after (.benchTick 15 none)
      (setW (setF (setF (setF (setF (setBen (hubBen 1) 15 { benNew with table := [(66, 0x01050101#32)] }) (Pg.ben 15) F.BEN_STATE_STATE 4) (Pg.ben 15) F.BEN_SR_SR 0xA5C)
        (Pg.ben 15) F.BEN_SHIFT_CFG_WIDTH 12) (Pg.ben 15) F.BEN_COUNT_COUNT 12) (Pg.ben 15) 0x50 0xFEFEFFFE#32)
      (fun t => (fifoOf t 47).opened == [0x5C#8, 0x0A#8] && getF t (Pg.ben 15) F.BEN_STATE_STATE == 5 && getF t (Pg.ben 15) F.BEN_COUNT_COUNT == 0 &&
        benSlots t 15 == 1) = true := by decide +kernel

/-- spec/12, the example: the first error of a transmitter takes TEC to 8; the one that takes it past 255 is BUS_OFF. -/
theorem test_can_errors :
    after (.canBusError 7 4 8 true) (hubCan none) (fun t => getF t (Pg.can 7) F.CAN_ERRCNT_TEC == 8 && canState t 7 == 0) = true ∧
    after (.canBusError 7 4 8 true) (setF (hubCan none) (Pg.can 7) F.CAN_ERRCNT_TEC 248) (fun t =>
      canState t 7 == 2 && getF t (Pg.can 7) F.CAN_BUS_OFFS == 1) = true := by decide +kernel

/-- spec/14, the example, with the levels exchanged: at the first raw edge away from the accepted level the stamp is held. -/
theorem test_first_edge_is_stamped :
    after (.diRawEdge 17 true) (setDi (setF (hubOn Pg.dis) Pg.pin F.PIN_CFG_FUNC 1 17) 17 diNew) (fun t =>
      (diOf t 17).stamp.isSome && !(diOf t 17).deb) = true := by decide +kernel

/-- spec/07, the example of R195: with LANE 2 and UNIT 4, host bytes 02 80 00 80 become the fabric bytes 80 00 80 02. -/
theorem test_lane_two :
    after (.hostWrite 0xFC8 [some 0x02#8, some 0x80#8, some 0x00#8, some 0x80#8])
      (setW { hubW with brg := { hubW.brg with ob := [(15, { obw with lane := 2 })] } } 0x040 0x120 0x100F0009#32)
      (fun t => (t.seq.flows.flatMap fun e => e.2.waiting.map (·.data) ++ e.2.opens.map (·.txn.data)) == [[0x80#8, 0x00#8, 0x80#8, 0x02#8]] ||
        t.brg.offers.map (·.data) == [[0x80#8, 0x00#8, 0x80#8, 0x02#8]]) = true := by decide +kernel

/-- R57: enabling raw source 2 makes it pending. -/
theorem test_irq_enable :
    after (.irqEnWrite .core Pg.gen 4#32) (setW hub Pg.gen 0x10 4#32) (fun t => getW t Pg.gen 0x18 == 4#32) = true := by decide +kernel

/-- R407: a warm reset takes the key 0xA5C3 only. -/
theorem test_warm_reset_key :
    after (.warmReset .core 0xA5C3#32) hub (fun t => getB t Pg.rst F.RST_CAUSE_WARM) = true ∧
    after (.warmReset .core 0xA5C2#32) hub (fun t => !getB t Pg.rst F.RST_CAUSE_WARM) = true := by decide +kernel

/-- A step takes the command at the front and leaves the rest. -/
theorem test_step_takes_the_front :
    (match step { hub with pending := [.irqEnWrite .core Pg.gen 4#32, .walkDone] } with
     | .next t => decide (t.pending = [.walkDone]) && getW t Pg.gen 0x14 == 4#32
     | _ => false) = true := by decide +kernel

/-- A byte of journal memory reads as it was written, its neighbour as before, and the canonical form stays; 0 leaves no entry. -/
theorem test_journal_bytes :
    let m := memWrite State.reset.jmem 0x40000000 [0xAB#8]
    memRead m 0x3FFFFFFF 3 = [0#8, 0xAB#8, 0#8] ∧ memWf m = true ∧ memWf State.reset.jmem = true ∧ memWrite m 0x40000000 [0#8] = [] := by decide +kernel

/-- The table of rows gives no command a word of bits. -/
theorem test_no_words : decodeTableWord 32 0 = none ∧ (State.reset.withFetchWord 32 0) = State.reset := by decide +kernel

/-- FIPS 180-4, the one-block example of SHA-512: the message "abc". -/
theorem test_sha512_abc :
    beAt (sha512 [0x61#8, 0x62#8, 0x63#8]) 0 64 =
      0xddaf35a193617abacc417349ae20413112e6fa4e89a97ea20a9eeee64b55d39a2192992a274fc1a836ba3c23a3feebbd454d4423643ce80e2a9ac94fa54ca49f := by
  decide +kernel

/-- RFC 8032, section 7.1, the first vector of Ed25519: the empty message. -/
theorem test_ed25519_vector :
    edVerify (beBytes 32 0xd75a980182b10ab7d54bfed3c964073a0ee172f3daa62325af021a68f707511a) []
      (beBytes 32 0xe5564300c360ac729086e2cc806e828a84877f1eb8e5d974d873e06522490155 ++
       beBytes 32 0x5fb8821590a33bacc61e39701cf9b46bd25bf5f0595bbe24655141438e7a100b) = true := by decide +kernel

/-- spec/19, R452: under test unlock PERTURB of page BUF takes its D, X and DOUBLE bits. -/
theorem test_perturb_write :
    after (.perturbWrite .core Pg.buf 0x03FF00FF#32) (setB hub Pg.prt F.PRT_STAT_TEST_UNLOCK true) (fun t => getW t Pg.buf 0x24 == 0x03FF00FF#32) = true := by
  decide +kernel

/-! ## The hypotheses of the statements can be met -/

/-- States and operands that meet the hypotheses of EmptyQueueTicks. -/
theorem test_meets_EmptyQueueTicks :
    (∃ (s : State), (s.pending = [])) :=
    ⟨hub, by decide +kernel⟩

/-- States and operands that meet the hypotheses of LinesFollowKept. -/
theorem test_meets_LinesFollowKept :
    (∃ (s : State), ∃ (t : State), (LinesFollow s) ∧ (step s = .next t)) :=
    ⟨State.reset, timeTick (cleared State.reset), (by unfold LinesFollow; decide +kernel), rfl⟩

/-- States and operands that meet the hypotheses of DownHubIgnores. -/
theorem test_meets_DownHubIgnores :
    (∃ (c : Instr), ∃ (s : State), (alive s = false) ∧ (worksWhileDown c = false)) :=
    ⟨.helloSend, { hub with start := { hub.start with inReset := true } }, by decide +kernel⟩

/-- States and operands that meet the hypotheses of StepEndAtRest, clause by clause. -/
theorem test_meets_StepEndAtRest :
    (∃ (s : State), ∃ k, (AtRest s) ∧ ((∀ i, k ≠ fKey Pg.pin F.PIN_LEVEL_LEVEL i))) ∧
    (∃ (s : State), (AtRest s)) :=
    ⟨⟨hub, 0, (by constructor <;> decide +kernel), (by intro i; simp only [fKey, regKey]; have h : Pg.pin ≠ 0 := (by decide); omega)⟩,
    ⟨hub, (by constructor <;> decide +kernel)⟩⟩

/-- States and operands that meet the hypotheses of AcknowledgeWinsOrIsLate. -/
theorem test_meets_AcknowledgeWinsOrIsLate :
    (∃ (s : State), (alive s = true)) :=
    ⟨hub, by decide +kernel⟩

/-- States and operands that meet the hypotheses of PendingPagesShow, clause by clause. -/
theorem test_meets_PendingPagesShow :
    (∃ p, (p < 0x200)) ∧
    (∃ nn, (nn < 16)) ∧
    (∃ (s : State), ∃ q, ∃ p, ∃ v, ∃ rest, (alive s = true) ∧ (culUp s = true) ∧ (s.cul.fieldS = .pend q p v :: rest) ∧ (evtOld s q = false)) :=
    ⟨⟨0x1FF, by decide +kernel⟩,
    ⟨15, by decide +kernel⟩,
    ⟨{ hubC with cul := { hubC.cul with fieldS := [.pend 0 0x100 true] } }, 0, 0x100, true, [], by decide +kernel⟩⟩

/-- States and operands that meet the hypotheses of BenchEventsLatch, clause by clause. -/
theorem test_meets_BenchEventsLatch :
    (∃ (s : State), ∃ (n : Nat), ∃ (idx : Nat), ∃ (e : Word), (alive s = true) ∧ (n < 16) ∧ ((benRun s n = 1 ∧ idx = tickIndex s n ∧ e = benEntry s n idx ∧ (benOf s n).badParity.contains idx = false ∨ benRun s n = 2 ∧ idx = getF s (Pg.ben n) F.BEN_STAT_INDEX ∧ e = (benOf s n).heldEntry)) ∧ (benBlocked s n e = 0) ∧ (e.getLsbD 28 = true)) ∧
    (∃ (s : State), ∃ (n : Nat), ∃ (idx : Nat), ∃ (e : Word), (alive s = true) ∧ (n < 16) ∧ ((benRun s n = 1 ∧ idx = tickIndex s n ∧ e = benEntry s n idx ∧ (benOf s n).badParity.contains idx = false ∨ benRun s n = 2 ∧ idx = getF s (Pg.ben n) F.BEN_STAT_INDEX ∧ e = (benOf s n).heldEntry)) ∧ (benBlocked s n e = 0) ∧ (e.getLsbD 28 = false)) :=
    ⟨⟨setBen (hubF (Pg.ben 15) F.BEN_STAT_RUN_STATE 1) 15 { benNew with table := (List.range 16).map fun i => (i, BitVec.ofNat 32 (2 ^ 28)) }, 15, tickIndex (setBen (hubF (Pg.ben 15) F.BEN_STAT_RUN_STATE 1) 15 { benNew with table := (List.range 16).map fun i => (i, BitVec.ofNat 32 (2 ^ 28)) }) 15, BitVec.ofNat 32 (2 ^ 28), by decide +kernel⟩,
    ⟨setBen (hubF (Pg.ben 0) F.BEN_STAT_RUN_STATE 2) 0 benNew, 0, 0, 0#32, by decide +kernel⟩⟩

/-- States and operands that meet the hypotheses of PageControlAndResets, clause by clause. -/
theorem test_meets_PageControlAndResets_1 :
    (∃ (s : State), ∃ (who : Agent), ∃ (p : Nat), ∃ on, (writeReaches s who p 0x08 = true) ∧ (enableQuiet s p on = true)) ∧
    (∃ (s : State), ∃ (who : Agent), ∃ (p : Nat), ∃ n, ∃ on, (n < 8) ∧ (p = Pg.can n) ∧ (writeReaches s who p 0x08 = true) ∧ (on ≠ pageEnabled s p)) ∧
    (∃ (s : State), ∃ (who : Agent), ∃ (p : Nat), ∃ n, (n < 32) ∧ (p = Pg.ser n) ∧ (writeReaches s who p 0x08 = true) ∧ (pageEnabled s p = false)) ∧
    (∃ (s : State), ∃ (who : Agent), ∃ (p : Nat), ∃ n, (n < 16) ∧ (p = Pg.ben n) ∧ (writeReaches s who p 0x08 = true) ∧ (pageEnabled s p = true) ∧ (benRun s n ≠ 0)) ∧
    (∃ (s : State), ∃ (who : Agent), ∃ (p : Nat), (writeReaches s who p 0x08 = true)) ∧
    (∃ (s : State), ∃ (who : Agent), ∃ (p : Nat), (writeReaches s who p 0x14 = true)) ∧
    (∃ (s : State), ∃ (who : Agent), ∃ (p : Nat), (resetQuiet s p = true) ∧ (writeReaches s who p 0x08 = true)) ∧
    (∃ (s : State), ∃ (p : Nat), (alive s = true) ∧ (plainBlock p = true) ∧ (pageBusyState s p = 2)) :=
    ⟨⟨hub, .core, Pg.gen, true, by decide +kernel⟩,
    ⟨setB hub (Pg.can 7) F.CAN_STAT_SYNC true, .core, Pg.can 7, 7, false, by decide +kernel⟩,
    ⟨setB hub (Pg.ser 31) F.PAGE_CTL_ENABLE false, .core, Pg.ser 31, 31, by decide +kernel⟩,
    ⟨hubBen 1, .core, Pg.ben 15, 15, by decide +kernel⟩,
    ⟨hub, .core, Pg.gen, by decide +kernel⟩,
    ⟨hub, .core, Pg.gen, by decide +kernel⟩,
    ⟨hub, .core, Pg.prt, by decide +kernel⟩,
    ⟨hubF Pg.chs F.PAGE_STAT_STATE 2, Pg.chs, by decide +kernel⟩⟩

/-- States and operands that meet the hypotheses of PageControlAndResets, clause by clause. -/
theorem test_meets_PageControlAndResets_2 :
    (∃ (s : State), (alive s = true)) :=
    ⟨hub, by decide +kernel⟩

/-- States and operands that meet the hypotheses of RegistersStoreAndReadsClear, clause by clause. -/
theorem test_meets_RegistersStoreAndReadsClear :
    (∃ (s : State), ∃ (who : Agent), ∃ (p : Nat), ∃ (off : Nat), ∃ (v : Word), (writeTaken s who p off v = true) ∧ (0x40 ≤ off) ∧ (isFieldPage p = false) ∧ ((∀ t, ringCmd t who p off v (leBytes 4 v.toNat) false = none)) ∧ ((∀ t o, afterWrite t p off o = t)) ∧ ((who = .host → hostFirst s = true))) ∧
    (∃ (s : State), ∃ (who : Agent), ∃ (p : Nat), ∃ (off : Nat), ∃ (v : Word), (writeTaken s who p off v = true) ∧ (0x40 ≤ off) ∧ (isFieldPage p = false) ∧ ((∀ t, ringCmd t who p off v (leBytes 4 v.toNat) false = none)) ∧ ((∀ t o, afterWrite t p off o = t)) ∧ ((who = .host → hostFirst s = true))) ∧
    (∃ (s : State), ∃ (who : Agent), ∃ (p : Nat), ∃ (meet : List ErrNote), (accReaches s who p 0x20 = true) ∧ (meet.length < 2 ^ 32)) ∧
    (∃ (s : State), ∃ (who : Agent), ∃ (p : Nat), ∃ off, (accReaches s who p off = true) ∧ ((∀ t, popWord t p off = none)) ∧ (¬(p = Pg.tmk ∧ off = 0x48))) :=
    ⟨⟨hub, .core, Pg.kvl, 0x40, 0x88B5#32, by decide +kernel, by decide +kernel, by decide +kernel, (fun _ => rfl), (fun _ _ => rfl), by decide +kernel⟩,
    ⟨hub, .core, Pg.kvl, 0x40, 0x88B5#32, by decide +kernel, by decide +kernel, by decide +kernel, (fun _ => rfl), (fun _ _ => rfl), by decide +kernel⟩,
    ⟨hub, .core, 0x13F, [], by decide +kernel⟩,
    ⟨hub, .core, Pg.gen, 0x20, by decide +kernel, (fun _ => rfl), by decide +kernel⟩⟩

/-- States and operands that meet the hypotheses of VectorsWatchAndHandshakes, clause by clause. -/
theorem test_meets_VectorsWatchAndHandshakes :
    (∃ (s : State), ∃ (who : Agent), ∃ (v : Nat), (v < 64) ∧ (writeReaches s who Pg.int 0x44 = true)) ∧
    (∃ (s : State), ∃ (v : Nat), ∃ p, ∃ b, (v < 64) ∧ (alive s = true) ∧ (pageAssigned p = true) ∧ (b < irqCount p)) ∧
    (∃ (s : State), ∃ (v : Nat), (v < 64) ∧ (alive s = true)) ∧
    (∃ (s : State), (alive s = true) ∧ (getB s Pg.tmk F.TMK_STAT_REF_OK = true)) ∧
    (∃ (s : State), (alive s = true) ∧ (getB s Pg.tmk F.TMK_STAT_REF_OK = false)) ∧
    (∃ (s : State), ∃ (p : Nat), (alive s = true) ∧ (hangQuiet s p = true) ∧ (getB s Pg.gen F.GEN_WATCH_CTL_AUTO_RESET = false)) ∧
    (∃ (s : State), ∃ (p : Nat), (alive s = true) ∧ (hangQuiet s p = true) ∧ (resetQuiet s p = true) ∧ (getB s Pg.gen F.GEN_WATCH_CTL_AUTO_RESET = true)) ∧
    (∃ (s : State), (alive s = true)) :=
    ⟨⟨hub, .core, 63, by decide +kernel⟩,
    ⟨hub, 63, Pg.brg, 6, by decide +kernel⟩,
    ⟨hub, 63, by decide +kernel⟩,
    ⟨hub, by decide +kernel⟩,
    ⟨setB hub Pg.tmk F.TMK_STAT_REF_OK false, by decide +kernel⟩,
    ⟨hubF Pg.gen F.GEN_WATCH_CTL_AUTO_RESET 0, Pg.cul, by decide +kernel⟩,
    ⟨hubF Pg.gen F.GEN_WATCH_CTL_AUTO_RESET 1, Pg.seq, by decide +kernel⟩,
    ⟨hub, by decide +kernel⟩⟩

/-- States and operands that meet the hypotheses of LinksPortsAndWalker, clause by clause. -/
theorem test_meets_LinksPortsAndWalker :
    (∃ (s : State), ∃ (p : Port), (alive s = true) ∧ (isEthPort p = true)) ∧
    (∃ (s : State), ∃ (p : Port), (alive s = true) ∧ (isEthPort p = true) ∧ (10 ≤ getF s Pg.rst F.RST_STAT_STEP) ∧ (portLocked s p = true) ∧ (getF s (portPage p) F.PORT_STAT_LINK ≠ 2)) ∧
    (∃ (s : State), ∃ (p : Port), (alive s = true) ∧ (isEthPort p = true) ∧ (portLocked s p = false) ∧ (getF s (portPage p) F.PORT_STAT_LINK = 2) ∧ (tabGet s.sw.onWire (portIdx p) = none) ∧ ((∀ c, c < 8 → queueOf s p c = []))) ∧
    (∃ (s : State), ∃ (who : Agent), ∃ (n : Nat), ∃ (v : Word), ∃ (w : Word), (n < 4) ∧ (writeTaken s who (Pg.port n) 0x40 v = true) ∧ (w = storedWord (Pg.port n) 0x40 (getW s (Pg.port n) 0x40) v v) ∧ (wordBits w 0 10 = wordBits (getW s (Pg.port n) 0x40) 0 10)) ∧
    (∃ (s : State), ∃ (who : Agent), ∃ (n : Nat), ∃ (v : Word), ∃ (w : Word), (n < 4) ∧ (writeTaken s who (Pg.port n) 0x40 v = true) ∧ (w = storedWord (Pg.port n) 0x40 (getW s (Pg.port n) 0x40) v v) ∧ (wordBits w 0 10 ≠ wordBits (getW s (Pg.port n) 0x40) 0 10) ∧ (getF s (Pg.port n) F.PORT_STAT_LINK ≠ 2)) ∧
    (∃ (s : State), ∃ (who : Agent), ∃ (n : Nat), ∃ (v : Word), ∃ (w : Word), (n < 4) ∧ (writeTaken s who (Pg.port n) 0x40 v = true) ∧ (w = storedWord (Pg.port n) 0x40 (getW s (Pg.port n) 0x40) v v) ∧ (wordBits w 0 10 ≠ wordBits (getW s (Pg.port n) 0x40) 0 10) ∧ (getF s (Pg.port n) F.PORT_STAT_LINK = 2) ∧ (tabGet s.sw.onWire n = none) ∧ ((∀ c, c < 8 → queueOf s (portOf n) c = []))) ∧
    (∃ (s : State), ∃ w, ∃ ws, (alive s = true) ∧ (s.sw.walk = w :: ws)) ∧
    (∃ (s : State), ∃ (who : Agent), (writeReaches s who Pg.buf 0x78 = true)) :=
    ⟨⟨hub, .c2, by decide +kernel⟩,
    ⟨setF (setF (setF hub Pg.rst F.RST_STAT_STEP 10) (portPage .e) F.PORT_CFG_MODE 1) (portPage .e) F.PORT_STAT_PCS_LOCK 1, .e, by decide +kernel⟩,
    ⟨hubE, .e, by refine ⟨?_, ?_, ?_, ?_, ?_, (fun _ _ => rfl)⟩ <;> decide +kernel⟩,
    ⟨hub, .core, 3, 0#32, 0#32, by decide +kernel⟩,
    ⟨hubF (Pg.port 0) F.PORT_CFG_MODE 1, .core, 0, 0#32, 0#32, by decide +kernel⟩,
    ⟨hubE, .core, 0, 0#32, 0#32, by refine ⟨?_, ?_, ?_, ?_, ?_, ?_, (fun _ _ => rfl)⟩ <;> decide +kernel⟩,
    ⟨{ hub with sw := { hub.sw with walk := [7] } }, 7, [], by decide +kernel⟩,
    ⟨hub, .core, by decide +kernel⟩⟩

/-- States and operands that meet the hypotheses of RingFramesAndProxies, clause by clause. -/
theorem test_meets_RingFramesAndProxies :
    (∃ (s : State), ∃ (p : Port), ∃ (f : Frame), ∃ (rx : RxMeta), ∃ (h : HsrTag), (alive s = true) ∧ (isHsrPort s p = true) ∧ (portUp s p = true) ∧ (rxGood f rx = true) ∧ (f.hsr = some h) ∧ (rx.fecCorr = 0) ∧ (rx.fecUncorr = 0) ∧ (isPdelay f = false) ∧ (ingressShut s p = false) ∧ (isKvlType s f = false) ∧ (f.smac = ownMac s)) ∧
    (∃ (s : State), ∃ (p : Port), ∃ (f : Frame), ∃ (rx : RxMeta), ∃ (h : HsrTag), (alive s = true) ∧ (isHsrPort s p = true) ∧ (portUp s p = true) ∧ (rxGood f rx = true) ∧ (f.hsr = some h) ∧ (rx.fecCorr = 0) ∧ (rx.fecUncorr = 0) ∧ (isPdelay f = false) ∧ (ingressShut s p = false) ∧ (isKvlType s f = false) ∧ (f.smac ≠ ownMac s) ∧ (isProxied s f.smac = false) ∧ (isProxied s f.dmac = false) ∧ (pairAnswers s = false) ∧ (isCoupler s = false) ∧ (f.dmac ≠ ownMac s) ∧ (isGroup f.dmac = false) ∧ (ddGet s (isSubPort p) f.smac h.seq = none) ∧ (s.ring.dd.length < 8192) ∧ (portTakes s (otherPort p) = true) ∧ (poolRoom s 0 f [otherPort p] = true)) ∧
    (∃ (s : State), ∃ (p : Port), ∃ (f : Frame), ∃ (rx : RxMeta), ∃ (h : HsrTag), ∃ e, (alive s = true) ∧ (isHsrPort s p = true) ∧ (portUp s p = true) ∧ (rxGood f rx = true) ∧ (f.hsr = some h) ∧ (rx.fecCorr = 0) ∧ (rx.fecUncorr = 0) ∧ (isPdelay f = false) ∧ (ingressShut s p = false) ∧ (isKvlType s f = false) ∧ (f.smac ≠ ownMac s) ∧ (isProxied s f.smac = false) ∧ (isProxied s f.dmac = false) ∧ (pairAnswers s = false) ∧ (isCoupler s = false) ∧ (f.dmac ≠ ownMac s) ∧ (isGroup f.dmac = false) ∧ (ddGet s (isSubPort p) f.smac h.seq = some e) ∧ (e.fwd.contains (otherPort p) = true)) ∧
    (∃ (s : State), ∃ (p : Port), ∃ (f : Frame), ∃ (rx : RxMeta), ∃ (h : HsrTag), (alive s = true) ∧ (isHsrPort s p = true) ∧ (portUp s p = true) ∧ (rxGood f rx = true) ∧ (f.hsr = some h) ∧ (rx.fecCorr = 0) ∧ (rx.fecUncorr = 0) ∧ (isPdelay f = false) ∧ (ingressShut s p = false) ∧ (isKvlType s f = false)) ∧
    (∃ (s : State), ∃ (p : Port), ∃ (f : Frame), (alive s = true) ∧ (isSubPort p = true) ∧ (portRole s p = 1) ∧ (portUp s p = true) ∧ (f.fcs = .good) ∧ (frameLen f ≤ 9216) ∧ (f.hsr = none) ∧ (isKvlType s f = false) ∧ (ingressShut s p = false) ∧ (s.ring.proxies.length < 512)) ∧
    (∃ (s : State), (alive s = true)) :=
    ⟨⟨hubEW, .e, { frm with smac := ownMac hub, hsr := some { path := 0, seq := 5 } }, rxg, { path := 0, seq := 5 }, by decide +kernel⟩,
    ⟨hubEW, .e, { frm with hsr := some { path := 0, seq := 5 } }, rxg, { path := 0, seq := 5 }, by decide +kernel⟩,
    ⟨{ hubEW with ring := { hubEW.ring with dd := [{ smac := 0x020000000008, seq := 5, sub := false, delivered := false, fwd := [.w] }] } }, .e, { frm with hsr := some { path := 0, seq := 5 } }, rxg, { path := 0, seq := 5 }, { smac := 0x020000000008, seq := 5, sub := false, delivered := false, fwd := [.w] }, by decide +kernel⟩,
    ⟨hubEW, .e, { frm with hsr := some { path := 0, seq := 5 } }, rxg, { path := 0, seq := 5 }, by decide +kernel⟩,
    ⟨setF (setF hubEW (portPage .c1) F.PORT_STAT_LINK 2) (portPage .c1) F.PORT_CFG_ROLE 1, .c1, frm, by decide +kernel⟩,
    ⟨hub, by decide +kernel⟩⟩

/-- States and operands that meet the hypotheses of HelloAndSupervision, clause by clause. -/
theorem test_meets_HelloAndSupervision :
    (∃ (s : State), ∃ (p : Port), ∃ ps, ∃ f, (alive s = true) ∧ (helloPorts s = p :: ps) ∧ (portTakes s p = true) ∧ (f = { kvlFrame s macHello (ownMac s) (plainHdr s tyHello 7) (beBytes 1 (getF s Pg.kvl F.KVL_VER_EN)) with hsr := none }) ∧ (hasRoom s f 7 [p] = true)) ∧
    (∃ (s : State), ∃ (p : Port), ∃ f, ∃ k, (alive s = true) ∧ (p ∈ helloPorts s) ∧ (f.fcs = .good) ∧ (frameLen f ≤ 9216) ∧ (ingressShut s p = false) ∧ (isHello s f = true) ∧ (kvlParse f.payload = some k) ∧ (verOk s k = true) ∧ (bodyOk k f = true) ∧ (topVer (linkEn s &&& beAt (kvlBody f.payload k) 0 1) = 0)) ∧
    (∃ (s : State), ∃ (p : Port), ∃ f, ∃ k, (alive s = true) ∧ (p ∈ helloPorts s) ∧ (f.fcs = .good) ∧ (frameLen f ≤ 9216) ∧ (ingressShut s p = false) ∧ (isHello s f = true) ∧ (kvlParse f.payload = some k) ∧ (verOk s k = true) ∧ (bodyOk k f = true) ∧ (topVer (linkEn s &&& beAt (kvlBody f.payload k) 0 1) ≠ 0)) ∧
    (∃ (s : State), ∃ (p : Port), (alive s = true) ∧ (isEthPort p = true)) ∧
    (∃ (s : State), ∃ (f : Frame), ∃ (c : Nat), (alive s = true) ∧ (isCoupler s = false) ∧ (hasRoom s (tagged s f) c [.e, .w] = true) ∧ (f = kvlFrame s macAnnounce (ownMac s) { plainHdr s tyAnnounce 7 with dup := true } (annBody (ownNode s) false false (getB s Pg.nod F.NOD_SELF_STAT_CONFLICT) (getF s Pg.kvl F.KVL_VER_EN) (getF s Pg.kvl F.KVL_SUPV_PERIOD) (ownEpoch s) 0)) ∧ (c = 7) ∧ (s.ring.verOld = none)) ∧
    (∃ (s : State), ∃ (f : Frame), ∃ (c : Nat), (alive s = true) ∧ (isCoupler s = false) ∧ (hasRoom s (tagged s f) c [.e, .w] = true) ∧ (s.ring.proxies = []) ∧ (portRole s .c1 ≠ 1) ∧ (portRole s .c2 ≠ 1) ∧ (f = supervision s s.ring.hsrSeq (ownMac s) true) ∧ (c = frameClass s f)) :=
    ⟨⟨hubE, .e, [], { kvlFrame hubE macHello (ownMac hubE) (plainHdr hubE tyHello 7) (beBytes 1 (getF hubE Pg.kvl F.KVL_VER_EN)) with hsr := none }, by decide +kernel⟩,
    ⟨hubE, .e, { kf hubE (kv tyHello 0 0 1) [8#8] with hsr := none, dmac := macHello }, kv tyHello 0 0 1, by decide +kernel⟩,
    ⟨hubE, .e, { kf hubE (kv tyHello 0 0 1) [1#8] with hsr := none, dmac := macHello }, kv tyHello 0 0 1, by decide +kernel⟩,
    ⟨hub, .c2, by decide +kernel⟩,
    ⟨hubEW, kvlFrame hubEW macAnnounce (ownMac hubEW) { plainHdr hubEW tyAnnounce 7 with dup := true } (annBody (ownNode hubEW) false false (getB hubEW Pg.nod F.NOD_SELF_STAT_CONFLICT) (getF hubEW Pg.kvl F.KVL_VER_EN) (getF hubEW Pg.kvl F.KVL_SUPV_PERIOD) (ownEpoch hubEW) 0), 7, by decide +kernel⟩,
    ⟨hubEW, supervision hubEW hubEW.ring.hsrSeq (ownMac hubEW) true, frameClass hubEW (supervision hubEW hubEW.ring.hsrSeq (ownMac hubEW) true), by decide +kernel⟩⟩

/-- States and operands that meet the hypotheses of NodesAndCouplers, clause by clause. -/
theorem test_meets_NodesAndCouplers_1 :
    (∃ (s : State), ∃ p, ∃ f, ∃ k, ∃ s1, (alive s = true) ∧ (isCoupler s = false) ∧ (takeLocal s (fun _ _ k => k.type == tyAnnounce) = some ((p, f, k), s1)) ∧ ((annOf f k).conflict = false) ∧ ((isSubPort p = true ∨ (annOf f k).node ≠ ownNode s)) ∧ ((judgeEntry s (isSubPort p) (annOf f k).node (annOf f k).verSet).1 = 1) ∧ (nodeEnt s (isSubPort p) (annOf f k).node = none) ∧ (s.ring.chg.length < 64)) ∧
    (∃ (s : State), ∃ p, ∃ f, ∃ k, ∃ s1, ∃ e, (alive s = true) ∧ (isCoupler s = false) ∧ (takeLocal s (fun _ _ k => k.type == tyAnnounce) = some ((p, f, k), s1)) ∧ ((annOf f k).conflict = false) ∧ ((isSubPort p = true ∨ (annOf f k).node ≠ ownNode s)) ∧ ((judgeEntry s (isSubPort p) (annOf f k).node (annOf f k).verSet).1 = 1) ∧ (nodeEnt s (isSubPort p) (annOf f k).node = some e) ∧ (e.state = 1) ∧ (e.mac = (annOf f k).mac) ∧ (e.epoch = (annOf f k).epoch) ∧ (e.groupGen = (annOf f k).groupGen) ∧ (e.verSet = (annOf f k).verSet) ∧ (e.negVer = topVer (verEn s &&& (annOf f k).verSet))) ∧
    (∃ (s : State), ∃ sub, ∃ n, ∃ e, (alive s = true) ∧ (isCoupler s = false) ∧ (nodeEnt s sub n = some e) ∧ ((e.state = 1 ∨ e.state = 3 ∨ e.state = 4)) ∧ (announceWaits s sub e.mac = false) ∧ (s.ring.chg.length < 64)) ∧
    (∃ (s : State), ∃ sub, ∃ n, ∃ e, (alive s = true) ∧ (isCoupler s = false) ∧ (nodeEnt s sub n = some e) ∧ ((e.state = 1 ∨ e.state = 3 ∨ e.state = 4)) ∧ (announceWaits s sub e.mac = true)) ∧
    (∃ (s : State), ∃ n, ∃ e, (alive s = true) ∧ (isCoupler s = false) ∧ (nodeEnt s false n = some e) ∧ ((e.state = 1 ∨ e.state = 3 ∨ e.state = 4)) ∧ (e.reachE = true) ∧ (e.reachW = true)) ∧
    (∃ (s : State), ∃ n, ∃ e, (alive s = true) ∧ (isCoupler s = false) ∧ (nodeEnt s false n = some e) ∧ ((e.state = 1 ∨ e.state = 3 ∨ e.state = 4)) ∧ (e.reachE = true) ∧ (e.reachW = true)) ∧
    (∃ (s : State), ∃ (who : Agent), (accReaches s who Pg.nod 0x64 = true) ∧ (s.ring.chg = [])) ∧
    (∃ (s : State), ∃ (who : Agent), ∃ r, ∃ rs, (accReaches s who Pg.nod 0x64 = true) ∧ (s.ring.chg = r :: rs)) :=
    ⟨⟨loc (hubF Pg.kvl F.KVL_VER_EN 1) (kf hub (kv tyAnnounce 0 0 16) (annBody 2 false false false 1 10 0 0)), .e, kf hub (kv tyAnnounce 0 0 16) (annBody 2 false false false 1 10 0 0), kv tyAnnounce 0 0 16, ((takeLocal (loc (hubF Pg.kvl F.KVL_VER_EN 1) (kf hub (kv tyAnnounce 0 0 16) (annBody 2 false false false 1 10 0 0))) (fun _ _ k => k.type == tyAnnounce)).getD ((.e, frm, kv 0 0 0 0), hub)).2, by decide +kernel⟩,
    ⟨loc { hubF Pg.kvl F.KVL_VER_EN 1 with ring := { hub.ring with nt := [(2, nent)] } } (kf hub (kv tyAnnounce 0 0 16) (annBody 2 false false false 1 10 0 0)), .e, kf hub (kv tyAnnounce 0 0 16) (annBody 2 false false false 1 10 0 0), kv tyAnnounce 0 0 16, ((takeLocal (loc { hubF Pg.kvl F.KVL_VER_EN 1 with ring := { hub.ring with nt := [(2, nent)] } } (kf hub (kv tyAnnounce 0 0 16) (annBody 2 false false false 1 10 0 0))) (fun _ _ k => k.type == tyAnnounce)).getD ((.e, frm, kv 0 0 0 0), hub)).2, nent, by decide +kernel⟩,
    ⟨{ hub with ring := { hub.ring with nt := [(2, nent)] } }, false, 2, nent, by decide +kernel⟩,
    ⟨loc { hubF Pg.kvl F.KVL_VER_EN 1 with ring := { hub.ring with nt := [(2, nent)] } } (kf hub (kv tyAnnounce 0 0 16) (annBody 2 false false false 1 10 0 0)), false, 2, nent, by decide +kernel⟩,
    ⟨{ hub with ring := { hub.ring with nt := [(2, nent)] } }, 2, nent, by decide +kernel⟩,
    ⟨{ hub with ring := { hub.ring with nt := [(63, nent)] } }, 63, nent, by decide +kernel⟩,
    ⟨hub, .core, by decide +kernel⟩,
    ⟨{ hub with ring := { hub.ring with chg := [{ node := 2, sub := true, state := 2, reason := 2, gen := 3 }] } }, .core, { node := 2, sub := true, state := 2, reason := 2, gen := 3 }, [], by decide +kernel⟩⟩

/-- States and operands that meet the hypotheses of NodesAndCouplers, clause by clause. -/
theorem test_meets_NodesAndCouplers_2 :
    (∃ (s : State), ∃ (who : Agent), ∃ (v : Word), (writeTaken s who Pg.nod 0x40 v = true) ∧ ((∀ n, nodeEnt s false n = none))) ∧
    (∃ (s : State), ∃ (who : Agent), ∃ (v : Word), (writeTaken s who Pg.kvl 0x44 v = true)) ∧
    (∃ (s : State), ∃ (who : Agent), ∃ (v : Word), ∃ k, (k < 16) ∧ (writeTaken s who Pg.nod (0x104 + 8 * k) v = true)) ∧
    (∃ (s : State), ∃ (s1 : State), ∃ (p : Port), ∃ (f : Frame), ∃ (k : Kvl), ∃ (mac : Nat), ∃ (g : Frame), (alive s = true) ∧ (isCoupler s = true) ∧ ((p = .e ∨ p = .w)) ∧ (takeLocal s (forForward s) = some ((p, f, k), s1)) ∧ (k.type = tyCpl) ∧ (getB s Pg.nod F.NOD_SELF_STAT_UPLINK_CONFLICT = false) ∧ (routeUp k.dst = 0) ∧ (routeL1 k.dst = ownNode s) ∧ (routeL2 k.dst ≠ 0) ∧ (routeUp k.src = 0) ∧ (routeL1 k.src ≠ ownNode s) ∧ (onwardMac s { sub := true, dst := mkRoute 0 ((routeLevels k.dst).drop 1), rewrite := false } = .inr mac) ∧ (g = kvlFrame s mac (ownMac s) { k with dst := mkRoute 0 ((routeLevels k.dst).drop 1), src := mkRoute 1 (routeLevels k.src) } (kvlBody f.payload k)) ∧ (hasRoom s1 (tagged s g) k.cls [.c1, .c2] = true)) :=
    ⟨⟨hubF Pg.nod F.LOCK_LOCKED 0, .core, 0x101#32, by decide +kernel, (fun _ => rfl)⟩,
    ⟨hub, .core, 3#32, by decide +kernel⟩,
    ⟨hub, .core, 0#32, 15, by decide +kernel⟩,
    ⟨loc hubQ fq, ((takeLocal (loc hubQ fq) (forForward hubQ)).getD ((.e, frm, kv 0 0 0 0), hub)).2, .e, fq, kq, 0x020000000002, kvlFrame hubQ 0x020000000002 (ownMac hubQ) { kq with dst := mkRoute 0 ((routeLevels kq.dst).drop 1), src := mkRoute 1 (routeLevels kq.src) } (kvlBody fq.payload kq), by decide +kernel⟩⟩

/-- States and operands that meet the hypotheses of TransactionsAreAccepted, clause by clause. -/
theorem test_meets_TransactionsAreAccepted :
    (∃ (s : State), ∃ (x : TxnReq), ∃ tag, (alive s = true) ∧ (s.seq.running = true) ∧ (opIssued x.op = true) ∧ (lowestFree s.seq.tags (tagRange x.init x.op).1 (tagRange x.init x.op).2 = some tag) ∧ (issueRefusal s (txnOf x tag) = none) ∧ (flowHeadgate s x.flow = none)) ∧
    (∃ (s : State), ∃ (x : TxnReq), (alive s = true) ∧ (opIssued x.op = true) ∧ ((s.seq.running = false ∨ lowestFree s.seq.tags (tagRange x.init x.op).1 (tagRange x.init x.op).2 = none))) ∧
    (∃ (s : State), ∃ (x : TxnReq), (alive s = true) ∧ ((x.op = 7 ∨ x.op = 8))) ∧
    (∃ (s : State), ∃ fl, ∃ t, ∃ ts, (alive s = true) ∧ ((flowOf s fl).waiting = t :: ts) ∧ (mayAssign s fl = true) ∧ (isPairFlow s fl = false) ∧ ((∀ o ∈ (flowOf s fl).opens, o.seq ≠ (flowOf s fl).nextSeq))) ∧
    (∃ (s : State), ∃ tag, ∃ fl, ∃ q, ∃ o, (alive s = true) ∧ (s.seq.running = true) ∧ (tagHolder s tag = some (fl, q)) ∧ (openAt (flowOf s fl) q = some o) ∧ (o.wait = .chest)) ∧
    (∃ (s : State), (alive s = true)) :=
    ⟨⟨withFlow hub iflowNew, txq 1 4, 512, by decide +kernel⟩,
    ⟨{ hub with seq := { hub.seq with tags := List.range' 512 128 } }, txq 1 4, by decide +kernel⟩,
    ⟨hub, txq 7 0, by decide +kernel⟩,
    ⟨withFlow hub { iflowNew with waiting := [txnOf (txq 1 4) 512] }, 1, txnOf (txq 1 4) 512, [], by decide +kernel⟩,
    ⟨withFlow { hub with seq := { hub.seq with tags := [512] } } { iflowNew with nextSeq := 1, opens := [{ orec with wait := .chest }] }, 512, 1, 0, { orec with wait := .chest }, by decide +kernel⟩,
    ⟨hub, by decide +kernel⟩⟩

/-- States and operands that meet the hypotheses of FramesLeave, clause by clause. -/
theorem test_meets_FramesLeave :
    (∃ (s : State), ∃ fl, ∃ q, ∃ st, ∃ o, ∃ g, (alive s = true) ∧ ((flowOf s fl).furrow = [{ seqs := [q], stamp := st }]) ∧ (openAt (flowOf s fl) q = some o) ∧ ((flowOf s fl).pathFence = false) ∧ (isAged s (flowCls s fl) st = false) ∧ ((flowOf s fl).sentOnce = true) ∧ ((flowOf s fl).peerEpoch ≠ 0) ∧ (isBcast o.txn = false) ∧ (isPairFlow s fl = false) ∧ (sluOpen s (Pg.slu (fl / 64)) (fl % 64) = true) ∧ ((∀ p ∈ flowPorts s fl, portTakes s p = true → sluOpen s Pg.slu40 (svcSluice p (flowCls s fl)) = true)) ∧ (g = kvlFrame s (flowDmac s fl) (ownMac s) (reqHdr s fl [q]) (beBytes 4 (oldestOpen (flowOf s fl)) ++ beBytes 4 0 ++ openRecBytes o)) ∧ (poolRoom s (poolOf false (flowCls s fl)) g (flowPorts s fl) = true) ∧ (flowP1 s fl = 0)) ∧
    (∃ (s : State), ∃ fl, ∃ q, ∃ st, ∃ o, ∃ g, (alive s = true) ∧ ((flowOf s fl).furrow = [{ seqs := [q], stamp := st }]) ∧ (openAt (flowOf s fl) q = some o) ∧ ((flowOf s fl).pathFence = false) ∧ (isAged s (flowCls s fl) st = false) ∧ ((flowOf s fl).sentOnce = true) ∧ ((flowOf s fl).peerEpoch ≠ 0) ∧ (isBcast o.txn = false) ∧ (isPairFlow s fl = false) ∧ (sluOpen s (Pg.slu (fl / 64)) (fl % 64) = true) ∧ ((∀ p ∈ flowPorts s fl, portTakes s p = true → sluOpen s Pg.slu40 (svcSluice p (flowCls s fl)) = true)) ∧ (g = kvlFrame s (flowDmac s fl) (ownMac s) (reqHdr s fl [q]) (beBytes 4 (oldestOpen (flowOf s fl)) ++ beBytes 4 0 ++ openRecBytes o)) ∧ (poolRoom s (poolOf false (flowCls s fl)) g (flowPorts s fl) = true) ∧ (flowP1 s fl ≠ 0)) ∧
    (∃ (s : State), ∃ p, ∃ c, ∃ fid, ∃ rest, ∃ d, (alive s = true) ∧ (tabGet s.sw.onWire (portIdx p) = none) ∧ (sluOpen s Pg.slu40 (portSluice p) = true) ∧ (bpHeld s (portPage p) = false) ∧ ([7, 6, 5, 4].find? (fun k => !(queueOf s p k).isEmpty) = some c) ∧ (queueOf s p c = fid :: rest) ∧ (tabGet s.sw.frames fid = some d) ∧ (isAged s c d.stamp = false) ∧ (s.test.badCells = []) ∧ (isEthPort p = true)) ∧
    (∃ (s : State), ∃ p, ∃ c, ∃ fid, ∃ rest, ∃ d, (alive s = true) ∧ (tabGet s.sw.onWire (portIdx p) = none) ∧ (sluOpen s Pg.slu40 (portSluice p) = true) ∧ (bpHeld s (portPage p) = false) ∧ ([7, 6, 5, 4].find? (fun k => !(queueOf s p k).isEmpty) = some c) ∧ (queueOf s p c = fid :: rest) ∧ (tabGet s.sw.frames fid = some d) ∧ (isAged s c d.stamp = false) ∧ (s.test.badCells = []) ∧ (p = .m)) :=
    ⟨⟨hubFur, 1, 0, 0, orec, kvlFrame hubFur (flowDmac hubFur 1) (ownMac hubFur) (reqHdr hubFur 1 [0]) (beBytes 4 (oldestOpen (flowOf hubFur 1)) ++ beBytes 4 0 ++ openRecBytes orec), by decide +kernel⟩,
    ⟨hubFurE, 1, 0, 0, orec, kvlFrame hubFurE (flowDmac hubFurE 1) (ownMac hubFurE) (reqHdr hubFurE 1 [0]) (beBytes 4 (oldestOpen (flowOf hubFurE 1)) ++ beBytes 4 0 ++ openRecBytes orec), by decide +kernel⟩,
    ⟨{ hubE with sw := { hubE.sw with frames := [(0, ownDesc hubE frm 7)], queues := [(7, [0])] } }, .e, 7, 0, [], ownDesc hubE frm 7, by decide +kernel⟩,
    ⟨{ hubE with sw := { hubE.sw with frames := [(0, ownDesc hubE frm 7)], queues := [(8 * portIdx .m + 7, [0])] } }, .m, 7, 0, [], ownDesc hubE frm 7, by decide +kernel⟩⟩

/-- States and operands that meet the hypotheses of SweepAndBuckets, clause by clause. -/
theorem test_meets_SweepAndBuckets :
    (∃ (s : State), (alive s = true) ∧ ((∀ p c, queueOf s p c = [])) ∧ ((∀ fl ∈ allFlows s, (flowOf s fl).furrow = []))) ∧
    (∃ (s : State), ∃ fl, ∃ q, ∃ st, ∃ o, (alive s = true) ∧ ((∀ p c, queueOf s p c = [])) ∧ (allFlows s = [fl]) ∧ ((flowOf s fl).furrow = [{ seqs := [q], stamp := st }]) ∧ (isAged s (flowCls s fl) st = true) ∧ (openAt (flowOf s fl) q = some o) ∧ (o.nop = false) ∧ (o.fill = none) ∧ (isBcast o.txn = false)) ∧
    (∃ (s : State), ∃ fl, (alive s = true) ∧ (flowValid s fl = true) ∧ ((flowOf s fl).opens = []) ∧ ((flowOf s fl).furrow = []) ∧ ((flowOf s fl).waiting = []) ∧ ((flowOf s fl).st = .opened) ∧ (flowHop s fl ≠ 63) ∧ ((flowOf s fl).pathFence = false) ∧ ((flowOf s fl).verFence = false) ∧ (pairMute s fl = false) ∧ ((flowOf s fl).floorAdv ≠ (flowOf s fl).nextSeq) ∧ ((∃ q ∈ (flowOf s fl).closedNN, seqSub q (flowOf s fl).floorAdv < seqSub (flowOf s fl).nextSeq (flowOf s fl).floorAdv)) ∧ (seqBelow (flowOf s fl).nextSeq (flowOf s fl).seqLimit = true)) ∧
    (∃ (s : State), (alive s = true)) ∧
    (∃ (s : State), ∃ (who : Agent), ∃ (v : Word), ∃ p, ∃ k, (0x080 ≤ p) ∧ (p ≤ 0x08F) ∧ (k < 64) ∧ (writeTaken s who p (0x104 + 16 * k) v = true)) ∧
    (∃ (s : State), ∃ (who : Agent), ∃ (v : Word), ∃ p, ∃ k, (0x090 ≤ p) ∧ (p ≤ 0x0D0) ∧ (k < 64) ∧ (¬(p = 0x0D0 ∧ k = 63)) ∧ (writeTaken s who p (0x108 + 32 * k) v = true)) :=
    ⟨⟨hub, by decide +kernel, (fun p c => rfl), by decide +kernel⟩,
    ⟨withFlow { hub with watchNs := 10000000000 } { iflowNew with nextSeq := 1, opens := [orec], furrow := [{ seqs := [0], stamp := 0 }], sentOnce := true }, 1, 0, 0, orec, by decide +kernel, (fun p c => rfl), by decide +kernel⟩,
    ⟨withFlow hub { iflowNew with nextSeq := 2, floorAdv := 0, closedNN := [1] }, 1, by decide +kernel⟩,
    ⟨hub, by decide +kernel⟩,
    ⟨hub, .core, 0#32, 0x08F, 63, by decide +kernel⟩,
    ⟨hub, .core, 1#32, 0x0D0, 62, by decide +kernel⟩⟩

/-- States and operands that meet the hypotheses of RecordsClose, clause by clause. -/
theorem test_meets_RecordsClose :
    (∃ (s : State), ∃ (fl : Nat), (alive s = true) ∧ ((flowOf s fl).timer = true) ∧ ((flowOf s fl).opens ≠ []) ∧ (pairMute s fl = false) ∧ ((flowOf s fl).pathFence = false) ∧ ((flowOf s fl).tryCnt + 1 ≤ (flowOf s fl).retries) ∧ ((flowOf s fl).furrow = [])) ∧
    (∃ (s : State), ∃ (fl : Nat), (alive s = true) ∧ ((flowOf s fl).timer = true) ∧ ((flowOf s fl).opens ≠ []) ∧ (pairMute s fl = false) ∧ ((flowOf s fl).retries < (flowOf s fl).tryCnt + 1)) ∧
    (∃ (s : State), ∃ p, ∃ f, ∃ k, ∃ s1, ∃ x, ∃ r, ∃ o, (alive s = true) ∧ (takeLocal s (fun _ _ k => k.type == tyCpl) = some ((p, f, k), s1)) ∧ (cplBodyParse k.count (kvlBody f.payload k) = some (x, [r])) ∧ (flowValid s k.srcFlow = true) ∧ (openAt (flowOf s k.srcFlow) (seqAdd k.baseSeq 0) = some o) ∧ (o.fill = none) ∧ (o.nop = false) ∧ (o.txn.orphan = false) ∧ (isPairFlow s k.srcFlow = false) ∧ (r.status = St.ok) ∧ (k.ver ≠ 3)) ∧
    (∃ (s : State), ∃ p, ∃ f, ∃ k, ∃ s1, ∃ x, ∃ r, ∃ o, ∃ who, ∃ v, (alive s = true) ∧ (takeLocal s (fun _ _ k => k.type == tyCpl) = some ((p, f, k), s1)) ∧ (cplBodyParse k.count (kvlBody f.payload k) = some (x, [r])) ∧ (flowValid s k.srcFlow = true) ∧ (openAt (flowOf s k.srcFlow) (seqAdd k.baseSeq 0) = some o) ∧ (o.fill = none) ∧ (o.nop = false) ∧ (o.txn.orphan = false) ∧ (isPairFlow s k.srcFlow = false) ∧ (r.status = St.ok) ∧ (k.ver ≠ 3) ∧ (writeReaches s who Pg.seq 0x4C = true) ∧ (wordBits v 0 12 = k.srcFlow) ∧ ((getW s Pg.seq 0x48).toNat = seqAdd k.baseSeq 0) ∧ (r.filled = false)) ∧
    (∃ (s : State), ∃ (fl : Nat), ∃ who, ∃ v, ∃ o, (alive s = true) ∧ (writeReaches s who Pg.seq 0x4C = true) ∧ (wordBits v 0 12 = fl) ∧ (flowValid s fl = true) ∧ (openAt (flowOf s fl) (getW s Pg.seq 0x48).toNat = some o) ∧ (o.fill = none)) ∧
    (∃ (s : State), ∃ (fl : Nat), ∃ who, ∃ v, (alive s = true) ∧ (writeReaches s who Pg.seq 0x4C = true) ∧ (wordBits v 0 12 = fl) ∧ ((flowValid s fl = true → openAt (flowOf s fl) (getW s Pg.seq 0x48).toNat = none))) :=
    ⟨⟨withFlow hub { iflowNew with nextSeq := 1, opens := [orec], timer := true, retries := 7 }, 1, by decide +kernel⟩,
    ⟨withFlow hub { iflowNew with nextSeq := 1, opens := [orec], timer := true, tryCnt := 15 }, 1, by decide +kernel⟩,
    ⟨hubCpl, .e, cplF, kv tyCpl 0 1 16, cplTaken hubCpl, 1, cplOk, orec3, by decide +kernel⟩,
    ⟨hubCpl, .e, cplF, kv tyCpl 0 1 16, cplTaken hubCpl, 1, cplOk, orec3, .core, 3#32, by decide +kernel⟩,
    ⟨withFlow hub { iflowNew with nextSeq := 1, opens := [orec] }, 1, .core, 1#32, orec, by decide +kernel⟩,
    ⟨hub, 4095, .core, 4095#32, by decide +kernel⟩⟩

/-- States and operands that meet the hypotheses of TargetsExecute, clause by clause. -/
theorem test_meets_TargetsExecute :
    (∃ (s : State), ∃ p, ∃ f, ∃ k, ∃ s1, ∃ floor, ∃ r, ∃ c, (alive s = true) ∧ (s.seq.running = true) ∧ (s.seq.runQ = []) ∧ ((∀ o, ibFind s o = none)) ∧ (blockRefuses s Pg.jrn = none) ∧ (takeLocal s (isReqFor false) = some ((p, f, k), s1)) ∧ (reqBodyParse k.count (kvlBody f.payload k) = some (floor, [r])) ∧ (k.ver ≠ 3) ∧ (pairRole s = 0) ∧ (ctxLookup s k.src k.srcFlow k.cls = none) ∧ (freeCtx s = some c) ∧ (r.first = true) ∧ (floor = seqAdd k.baseSeq 0) ∧ (r.op = 2) ∧ (1 ≤ r.len) ∧ (r.len ≤ 256) ∧ (regionSpan r.off r.len = .journal) ∧ (journalRefusal s 2 (r.off - 0x100000000) r.len = none) ∧ (mustDefer s 2 = false)) ∧
    (∃ (s : State), ∃ c, ∃ t, ∃ h, (alive s = true) ∧ (s.seq.running = true) ∧ (s.seq.runQ = []) ∧ ((∀ o, ibFind s o = none)) ∧ (blockRefuses s Pg.jrn = none) ∧ (ctxOf s c = some t) ∧ (t.held = [h]) ∧ (h.seq = t.ne) ∧ (h.st = .held) ∧ (h.repeats = []) ∧ (t.pairCtx = false) ∧ (h.req.op = 2) ∧ (1 ≤ h.req.len) ∧ (h.req.len ≤ 256) ∧ (regionSpan h.req.off h.req.len = .journal) ∧ (journalRefusal s 2 (h.req.off - 0x100000000) h.req.len = none) ∧ (mustDefer s 2 = false)) ∧
    (∃ (s : State), ∃ p, ∃ f, ∃ k, ∃ s1, ∃ floor, ∃ r, (alive s = true) ∧ (s.seq.running = true) ∧ (s.seq.runQ = []) ∧ ((∀ o, ibFind s o = none)) ∧ (blockRefuses s Pg.jrn = none) ∧ (takeLocal s (isReqFor true) = some ((p, f, k), s1)) ∧ (reqBodyParse k.count (kvlBody f.payload k) = some (floor, [r])) ∧ (r.op = 6) ∧ (opMisaligned r = false) ∧ (regionSpan r.off 8 = .journal) ∧ (journalRefusal s 2 (r.off - 0x100000000) 8 = none) ∧ (s.seq.bcast.find? (fun b => b.srcRoute == k.src && b.srcFlow == k.srcFlow && b.cls == k.cls) = none)) ∧
    (∃ (s : State), ∃ p, ∃ f, ∃ k, ∃ s1, ∃ floor, ∃ r, ∃ b, (alive s = true) ∧ (s.seq.running = true) ∧ (s.seq.runQ = []) ∧ ((∀ o, ibFind s o = none)) ∧ (blockRefuses s Pg.jrn = none) ∧ (takeLocal s (isReqFor true) = some ((p, f, k), s1)) ∧ (reqBodyParse k.count (kvlBody f.payload k) = some (floor, [r])) ∧ (r.op = 6) ∧ (opMisaligned r = false) ∧ (regionSpan r.off 8 = .journal) ∧ (journalRefusal s 2 (r.off - 0x100000000) 8 = none) ∧ (s.seq.bcast.find? (fun b => b.srcRoute == k.src && b.srcFlow == k.srcFlow && b.cls == k.cls) = some b) ∧ (0 < seqSub (seqAdd k.baseSeq 0) b.last) ∧ (seqSub (seqAdd k.baseSeq 0) b.last < 2 ^ 31)) ∧
    (∃ (s : State), ∃ p, ∃ f, ∃ k, ∃ s1, ∃ floor, ∃ r, ∃ b, (alive s = true) ∧ (s.seq.running = true) ∧ (s.seq.runQ = []) ∧ ((∀ o, ibFind s o = none)) ∧ (blockRefuses s Pg.jrn = none) ∧ (takeLocal s (isReqFor true) = some ((p, f, k), s1)) ∧ (reqBodyParse k.count (kvlBody f.payload k) = some (floor, [r])) ∧ (r.op = 6) ∧ (opMisaligned r = false) ∧ (regionSpan r.off 8 = .journal) ∧ (journalRefusal s 2 (r.off - 0x100000000) 8 = none) ∧ (s.seq.bcast.find? (fun b => b.srcRoute == k.src && b.srcFlow == k.srcFlow && b.cls == k.cls) = some b) ∧ (2 ^ 31 ≤ seqSub (seqAdd k.baseSeq 0) b.last)) :=
    ⟨⟨loc hubJ (kf hubJ (kv tyReq 0 1 28) (reqBody 0 [wrec])), .e, kf hubJ (kv tyReq 0 1 28) (reqBody 0 [wrec]), kv tyReq 0 1 28, reqTaken false (loc hubJ (kf hubJ (kv tyReq 0 1 28) (reqBody 0 [wrec]))), 0, wrec, 4095, by decide +kernel, by decide +kernel, by decide +kernel, (fun _ => rfl), by decide +kernel⟩,
    ⟨setCtx hubJ 0 (tctx [heldRec wrec]), 0, tctx [heldRec wrec], heldRec wrec, by decide +kernel, by decide +kernel, by decide +kernel, (fun _ => rfl), by decide +kernel⟩,
    ⟨loc hubJ fe, .e, fe, kv tyReq 0 1 32, reqTaken true (loc hubJ fe), 0, erec, by decide +kernel, by decide +kernel, by decide +kernel, (fun _ => rfl), by decide +kernel⟩,
    ⟨loc (hubBc 4294967295) fe, .e, fe, kv tyReq 0 1 32, reqTaken true (loc (hubBc 4294967295) fe), 0, erec, { srcRoute := mkRoute 0 [2], srcFlow := 3, cls := 5, last := 4294967295 }, by decide +kernel, by decide +kernel, by decide +kernel, (fun _ => rfl), by decide +kernel⟩,
    ⟨loc (hubBc 1) fe, .e, fe, kv tyReq 0 1 32, reqTaken true (loc (hubBc 1) fe), 0, erec, { srcRoute := mkRoute 0 [2], srcFlow := 3, cls := 5, last := 1 }, by decide +kernel, by decide +kernel, by decide +kernel, (fun _ => rfl), by decide +kernel⟩⟩

/-- States and operands that meet the hypotheses of ContextsLogAndScrubs, clause by clause. -/
theorem test_meets_ContextsLogAndScrubs_1 :
    (∃ (s : State), ∃ c, ∃ t, (alive s = true) ∧ (ctxOf s c = some t) ∧ (t.held.all (·.st == .held) = true) ∧ (t.pairCtx = false)) ∧
    (∃ (s : State), ∃ c, ∃ t, (alive s = true) ∧ (ctxOf s c = some t) ∧ (t.held.all (·.st == .held) = false)) ∧
    (∃ (s : State), ∃ c, ∃ q, ∃ e, (alive s = true) ∧ (s.cul.execs.find? (fun e => streamWaits s e == some c) = some e) ∧ (e.org = .ofCtx c q)) ∧
    (∃ (s : State), ∃ (who : Agent), (accReaches s who Pg.seq 0x60 = true) ∧ (s.seq.log = [])) ∧
    (∃ (s : State), ∃ (who : Agent), ∃ r, ∃ rs, (accReaches s who Pg.seq 0x60 = true) ∧ (s.seq.log = r :: rs)) ∧
    (∃ (s : State), (alive s = true) ∧ (s.test.badCells = []) ∧ (s.test.badWords = [])) ∧
    (∃ (s : State), (alive s = true) ∧ (s.test.badCells = []) ∧ (s.test.badWords = [])) ∧
    (∃ (s : State), ∃ (e : EccFault), (alive s = true) ∧ (s.test.badCells = []) ∧ (s.test.badWords = []) ∧ (e.single = false) ∧ (cellOwner s e.index = none)) :=
    ⟨⟨setCtx hub 4095 (tctx [heldRec wrec]), 4095, tctx [heldRec wrec], by decide +kernel⟩,
    ⟨setCtx hub 4095 (tctx [{ heldRec wrec with st := .inField }]), 4095, tctx [{ heldRec wrec with st := .inField }], by decide +kernel⟩,
    ⟨hubX, 4095, 0, xst, by decide +kernel⟩,
    ⟨hub, .core, by decide +kernel⟩,
    ⟨{ hub with seq := { hub.seq with log := [slg] } }, .core, slg, [], by decide +kernel⟩,
    ⟨hub, by decide +kernel⟩,
    ⟨hub, by decide +kernel⟩,
    ⟨hub, { place := 1, index := 5, word := 0, single := false }, by decide +kernel⟩⟩

/-- States and operands that meet the hypotheses of ContextsLogAndScrubs, clause by clause. -/
theorem test_meets_ContextsLogAndScrubs_2 :
    (∃ (s : State), (alive s = true) ∧ (s.test.badCells = []) ∧ (s.test.badWords = [])) ∧
    (∃ (s : State), ∃ (j : JEcc), (alive s = true) ∧ (s.test.badCells = []) ∧ (s.test.badWords = []) ∧ (j.single = true)) ∧
    (∃ (s : State), ∃ (j : JEcc), (alive s = true) ∧ (s.test.badCells = []) ∧ (s.test.badWords = []) ∧ (j.single = false) ∧ (jrnPlace j.addr = .user)) :=
    ⟨⟨hub, by decide +kernel⟩,
    ⟨hub, { addr := 8, single := true }, by decide +kernel⟩,
    ⟨hub, { addr := 0x40000000, single := false }, by decide +kernel⟩⟩

/-- States and operands that meet the hypotheses of HostRegisterAccesses, clause by clause. -/
theorem test_meets_HostRegisterAccesses :
    (∃ (s : State), (alive s = true) ∧ (barsOpen s = false)) ∧
    (∃ (s : State), ∃ (p : Nat), ∃ (off : Nat), (alive s = true) ∧ (barsOpen s = true) ∧ (hostFirst s = true) ∧ (accReaches s .host p off = true) ∧ (readRoom s = true) ∧ (isFieldPage p = false) ∧ ((∀ t, popWord t p off = none)) ∧ (¬(p = Pg.tmk ∧ off = 0x48)) ∧ (¬(p = Pg.chs ∧ off = 0x44))) ∧
    (∃ (s : State), ∃ (p : Nat), ∃ (off : Nat), ∃ (v : Word), (alive s = true) ∧ (barsOpen s = true) ∧ (hostFirst s = true) ∧ (accReaches s .host p off = true) ∧ (postedRoom s 4 = true) ∧ (writeTaken s .host p off v = true) ∧ (0x40 ≤ off) ∧ (isFieldPage p = false) ∧ ((∀ t, ringCmd t .host p off v (leBytes 4 v.toNat) false = none)) ∧ ((∀ t o, afterWrite t p off o = t))) ∧
    (∃ (s : State), ∃ (p : Nat), ∃ (off : Nat), (alive s = true) ∧ (barsOpen s = true) ∧ (hostFirst s = true) ∧ (accReaches s .host p off = true) ∧ (readRoom s = true) ∧ (isFieldPage p = true) ∧ (culState s ≠ 4)) :=
    ⟨⟨hub, by decide +kernel⟩,
    ⟨hubP, Pg.gen, 0x20, by refine ⟨?_, ?_, ?_, ?_, ?_, ?_, (fun _ => rfl), ?_⟩ <;> decide +kernel⟩,
    ⟨hubP, Pg.kvl, 0x40, 0x88B5#32, by refine ⟨?_, ?_, ?_, ?_, ?_, ?_, ?_, ?_, (fun _ => rfl), (fun _ _ => rfl)⟩ <;> decide +kernel⟩,
    ⟨hubP, Pg.ser 3, 0x20, by decide +kernel⟩⟩

/-- States and operands that meet the hypotheses of HostRequestsAndTimeouts, clause by clause. -/
theorem test_meets_HostRequestsAndTimeouts_1 :
    (∃ (s : State), ∃ (off : Nat), ∃ (bytes : List (Option Byte)), (alive s = true) ∧ (barsOpen s = true) ∧ (postedRoom s bytes.length = true) ∧ (obFind s off bytes.length = none) ∧ (s.brg.errlog.length < 256)) ∧
    (∃ (s : State), ∃ (off : Nat), ∃ (bytes : List (Option Byte)), ∃ wi, ∃ w, (alive s = true) ∧ (barsOpen s = true) ∧ (postedRoom s bytes.length = true) ∧ (obFind s off bytes.length = some (wi, w)) ∧ (blockRefuses s Pg.brg = none) ∧ (laneAllows w (enabledRuns (off - w.host) (bytes.map Option.isSome)) = true) ∧ (formPieces w (off - w.host) (bytes.map Option.isSome) (bytes.map (·.getD 0#8)) ≠ [])) ∧
    (∃ (s : State), ∃ (off : Nat), ∃ (en : List Bool), (alive s = true) ∧ (barsOpen s = true) ∧ (readRoom s = true) ∧ (en.contains true = true) ∧ (obFind s off en.length = none)) ∧
    (∃ (s : State), ∃ (off : Nat), ∃ (en : List Bool), ∃ wi, ∃ w, (alive s = true) ∧ (barsOpen s = true) ∧ (readRoom s = true) ∧ (en.contains true = true) ∧ (en.length ≤ 4096) ∧ (obFind s off en.length = some (wi, w)) ∧ (blockRefuses s Pg.brg = none) ∧ (laneAllows w (enabledRuns (off - w.host) en) = true) ∧ (w.prefetch = 0) ∧ ((∀ x ∈ s.brg.parts, x.win ≠ wi)) ∧ ((∀ x ∈ s.brg.reads, x.rid ≠ s.brg.nextId))) ∧
    (∃ (s : State), ∃ (off : Nat), ∃ wi, ∃ w, (alive s = true) ∧ (barsOpen s = true) ∧ (readRoom s = true) ∧ (obFind s off 4 = some (wi, w)) ∧ (blockRefuses s Pg.brg = none) ∧ ((∀ x ∈ s.brg.writes, x.win ≠ wi))) ∧
    (∃ (s : State), ∃ ptag, ∃ r, (alive s = true) ∧ (s.brg.reads.find? (fun r => r.ptag == ptag && !r.abandoned && !r.flush) = some r) ∧ ((∀ o ∈ s.brg.opens, ∀ k, o.use ≠ .read r.rid k))) ∧
    (∃ (s : State), ∃ ptag, (alive s = true) ∧ ((closingsOut (cplRx (cleared s))).brg.reads.find? (fun r => r.ptag == ptag && !r.abandoned && !r.flush) = none)) ∧
    (∃ (s : State), ∃ win, ∃ start, ∃ p, (alive s = true) ∧ (s.brg.parts.filter (fun p => (p.win == win && p.start == start && !p.isOpen) && !p.dropped) = [p])) :=
    ⟨⟨hubP, 0x1000, [some 1#8], by decide +kernel⟩,
    ⟨hubW, 0xFFC, [some 1#8, some 2#8, some 3#8, some 4#8], 15, obw, by decide +kernel⟩,
    ⟨hubP, 0xFFD, [true, true, true, true], by decide +kernel⟩,
    ⟨hubW, 0xFFC, [true, true, true, true], 15, obw, by decide +kernel⟩,
    ⟨hubW, 0, 15, obw, by decide +kernel⟩,
    ⟨{ hubW with brg := { hubW.brg with reads := [hrd] } }, 9, hrd, by decide +kernel, by decide +kernel, (fun _ h => nomatch h)⟩,
    ⟨hub, 9, by decide +kernel⟩,
    ⟨{ hubW with brg := { hubW.brg with parts := [pfl] } }, 15, 0, pfl, by decide +kernel⟩⟩

/-- States and operands that meet the hypotheses of HostRequestsAndTimeouts, clause by clause. -/
theorem test_meets_HostRequestsAndTimeouts_2 :
    (∃ (s : State), ∃ off, ∃ (en : List Bool), ∃ wi, ∃ w, (alive s = true) ∧ (barsOpen s = true) ∧ (readRoom s = true) ∧ (en.contains true = true) ∧ (en.length ≤ 4096) ∧ (obFind s off en.length = some (wi, w)) ∧ (blockRefuses s Pg.brg = none) ∧ (laneAllows w (enabledRuns (off - w.host) en) = true) ∧ ((∀ x ∈ formPieces w (off - w.host) en [], ∀ j, j < x.len → (heldByte s wi (x.addr + j)).isSome = true))) :=
    ⟨{ hubW with brg := { hubW.brg with parts := [{ pfl with data := List.replicate 256 7#8 }] } }, 0, [true, true, true, true], 15, obw, by decide +kernel⟩

/-- States and operands that meet the hypotheses of WindowsAndLink, clause by clause. -/
theorem test_meets_WindowsAndLink_1 :
    (∃ (s : State), ∃ (who : Agent), ∃ (k : Nat), ∃ (v : Word), (k < 16) ∧ (writeTaken s who Pg.win (0x110 + 64 * k) v = true)) ∧
    (∃ (s : State), ∃ (who : Agent), ∃ (k : Nat), ∃ (v : Word), (k < 8) ∧ (writeTaken s who Pg.win (0x610 + 32 * k) v = true)) ∧
    (∃ (s : State), (alive s = true) ∧ (brgUp s = false) ∧ (s.brg.perst = false) ∧ (9 ≤ getF s Pg.rst F.RST_STAT_STEP)) ∧
    (∃ (s : State), ∃ (ev : LinkEvent), (alive s = true) ∧ (ev = .down ∨ ev = .hotReset)) ∧
    (∃ (s : State), (alive s = true)) ∧
    (∃ (s : State), (alive s = true)) ∧
    (∃ (s : State), (alive s = true) ∧ (brgUp s = true)) ∧
    (∃ (s : State), (alive s = true) ∧ (brgUp s = true)) :=
    ⟨⟨hub, .core, 15, 0x3000#32, by decide +kernel⟩,
    ⟨hub, .core, 7, 0xC00#32, by decide +kernel⟩,
    ⟨hubF Pg.rst F.RST_STAT_STEP 9, by decide +kernel⟩,
    ⟨hubP, .hotReset, by decide +kernel⟩,
    ⟨hubP, by decide +kernel⟩,
    ⟨hub, by decide +kernel⟩,
    ⟨hubP, by decide +kernel⟩,
    ⟨hubP, by decide +kernel⟩⟩

/-- States and operands that meet the hypotheses of WindowsAndLink, clause by clause. -/
theorem test_meets_WindowsAndLink_2 :
    (∃ (s : State), ∃ a, ∃ b, (alive s = true) ∧ (brgUp s = true) ∧ (a ≤ 1) ∧ (b ≤ 5)) ∧
    (∃ (s : State), (alive s = true) ∧ (brgUp s = true)) ∧
    (∃ (s : State), ∃ e, ∃ w, (alive s = true) ∧ (brgUp s = true) ∧ (barsOpen s = true) ∧ (postedRoom s 4 = true) ∧ (e < 64) ∧ (w < 4)) ∧
    (∃ (s : State), ∃ n, (alive s = true) ∧ (brgUp s = true) ∧ (n < 6)) ∧
    (∃ (s : State), (alive s = true) ∧ (brgUp s = true)) ∧
    (∃ (s : State), (alive s = true) ∧ (brgUp s = true) ∧ (barsOpen s = true) ∧ (readRoom s = true)) ∧
    (∃ (s : State), (alive s = true) ∧ (brgUp s = true)) :=
    ⟨⟨hubP, 1, 2, by decide +kernel⟩,
    ⟨hubP, by decide +kernel⟩,
    ⟨hubP, 63, 3, by decide +kernel⟩,
    ⟨hubP, 5, by decide +kernel⟩,
    ⟨hubP, by decide +kernel⟩,
    ⟨hubP, by decide +kernel⟩,
    ⟨hubP, by decide +kernel⟩⟩

/-- States and operands that meet the hypotheses of InboundEndsAndLogs, clause by clause. -/
theorem test_meets_InboundEndsAndLogs_1 :
    (∃ (s : State), ∃ (t : IbTxn), ∃ (x : TCtx), ∃ (h : Held), ∃ tag, ∃ r, ∃ (data : List Byte), (alive s = true) ∧ (ctxOf s t.ctx = some x) ∧ (x.held = [h]) ∧ (h.seq = x.ne) ∧ (h.repeats = []) ∧ (s.brg.ibTxns.find? (fun t => t.reads.any (·.tag == tag)) = some t) ∧ (t.reads = [r]) ∧ (r.tag = tag) ∧ (t.todo = []) ∧ (r.got = []) ∧ (t.data = []) ∧ (r.place = 0) ∧ (r.len = t.total) ∧ (data.length = r.len)) ∧
    (∃ (s : State), ∃ (t : IbTxn), ∃ (x : TCtx), ∃ (h : Held), ∃ tag, ∃ r, ∃ (data : List Byte), (alive s = true) ∧ (ctxOf s t.ctx = some x) ∧ (x.held = [h]) ∧ (h.seq = x.ne) ∧ (h.repeats = []) ∧ (s.brg.ibTxns.find? (fun t => t.reads.any (·.tag == tag)) = some t) ∧ (t.reads = [r]) ∧ (r.tag = tag) ∧ (t.todo = []) ∧ (r.got = []) ∧ (t.data = []) ∧ (r.place = 0) ∧ (r.len = t.total) ∧ (data.length = r.len)) ∧
    (∃ (s : State), ∃ (t : IbTxn), ∃ (x : TCtx), ∃ (h : Held), ∃ tag, (alive s = true) ∧ (ctxOf s t.ctx = some x) ∧ (x.held = [h]) ∧ (h.seq = x.ne) ∧ (h.repeats = []) ∧ (s.brg.ibTxns.find? (fun t => t.reads.any (·.tag == tag)) = some t)) ∧
    (∃ (s : State), ∃ (t : IbTxn), ∃ (x : TCtx), ∃ (h : Held), (alive s = true) ∧ (ctxOf s t.ctx = some x) ∧ (x.held = [h]) ∧ (h.seq = x.ne) ∧ (h.repeats = []) ∧ (s.brg.ibTxns.find? (fun y => y.ctx == t.ctx) = some t) ∧ (t.reads ≠ [])) ∧
    (∃ (s : State), ∃ (t : IbTxn), ∃ (x : TCtx), ∃ (h : Held), (alive s = true) ∧ (ctxOf s t.ctx = some x) ∧ (x.held = [h]) ∧ (h.seq = x.ne) ∧ (h.repeats = []) ∧ (s.brg.ibTxns.find? (fun y => y.ctx == t.ctx) = some t) ∧ (t.begun = false)) ∧
    (∃ (s : State), ∃ (who : Agent), (accReaches s who Pg.brg 0x60 = true) ∧ (s.brg.errlog = [])) ∧
    (∃ (s : State), ∃ (who : Agent), ∃ r, ∃ rs, (accReaches s who Pg.brg 0x60 = true) ∧ (s.brg.errlog = r :: rs)) ∧
    (∃ (s : State), ∃ (who : Agent), (accReaches s who Pg.brg 0x74 = true) ∧ (s.brg.loss = [])) :=
    ⟨⟨hubI ibx, ibx, tctx [{ heldRec wrec with st := .waitHost }], { heldRec wrec with st := .waitHost }, 3, ibr, [1#8, 2#8, 3#8, 4#8], by decide +kernel⟩,
    ⟨hubI ibx, ibx, tctx [{ heldRec wrec with st := .waitHost }], { heldRec wrec with st := .waitHost }, 3, ibr, [1#8, 2#8, 3#8, 4#8], by decide +kernel⟩,
    ⟨hubI ibx, ibx, tctx [{ heldRec wrec with st := .waitHost }], { heldRec wrec with st := .waitHost }, 3, by decide +kernel⟩,
    ⟨hubI ibx, ibx, tctx [{ heldRec wrec with st := .waitHost }], { heldRec wrec with st := .waitHost }, by decide +kernel⟩,
    ⟨hubI { ibx with begun := false }, { ibx with begun := false }, tctx [{ heldRec wrec with st := .waitHost }], { heldRec wrec with st := .waitHost }, by decide +kernel⟩,
    ⟨hub, .core, by decide +kernel⟩,
    ⟨{ hub with brg := { hub.brg with errlog := [erc] } }, .core, erc, [], by decide +kernel⟩,
    ⟨hub, .core, by decide +kernel⟩⟩

/-- States and operands that meet the hypotheses of InboundEndsAndLogs, clause by clause. -/
theorem test_meets_InboundEndsAndLogs_2 :
    (∃ (s : State), ∃ (who : Agent), ∃ r, ∃ rs, (accReaches s who Pg.brg 0x74 = true) ∧ (s.brg.loss = r :: rs)) :=
    ⟨{ hub with brg := { hub.brg with loss := [lrc] } }, .core, lrc, [], by decide +kernel⟩

/-- States and operands that meet the hypotheses of TimeAndServo, clause by clause. -/
theorem test_meets_TimeAndServo_1 :
    (∃ (s : State), ∃ (who : Agent), ∃ len, ((len = 4 ∨ len = 8)) ∧ (accReaches s who Pg.tmk 0x48 = true)) ∧
    (∃ (s : State), ∃ (who : Agent), (writeReaches s who Pg.tmk 0x64 = true)) ∧
    (∃ (s : State), ∃ (who : Agent), (writeReaches s who Pg.tmk 0x68 = true)) ∧
    (∃ (s : State), (alive s = true)) ∧
    (∃ (s : State), ∃ (who : Agent), (writeReaches s who Pg.tmk 0x70 = true) ∧ (getB s Pg.tmk F.TMK_SERVO_CTL_PPS_FEED = true)) ∧
    (∃ (s : State), ∃ (who : Agent), ∃ (v : Word), (writeReaches s who Pg.tmk 0x70 = true) ∧ (getB s Pg.tmk F.TMK_SERVO_CTL_PPS_FEED = false) ∧ (getB s Pg.tmk F.TMK_SERVO_CTL_EN = true) ∧ (getF s Pg.tmk F.TMK_SERVO_STEP_THRESH * 16 ≤ v.toInt.natAbs)) ∧
    (∃ (s : State), ∃ (who : Agent), ∃ (v : Word), ∃ (lim : Int), ∃ (integ : Int), ∃ (freq : Int), (writeReaches s who Pg.tmk 0x70 = true) ∧ (getB s Pg.tmk F.TMK_SERVO_CTL_PPS_FEED = false) ∧ (getB s Pg.tmk F.TMK_SERVO_CTL_EN = true) ∧ (v.toInt.natAbs < getF s Pg.tmk F.TMK_SERVO_STEP_THRESH * 16) ∧ (lim = 256 * (getF s Pg.tmk F.TMK_SERVO_LIMIT_LIMIT : Int)) ∧ (integ = clampTo lim (roundDiv (toSigned 32 (getF s Pg.tmk F.TMK_INTEG_INTEG) * 2 ^ 20 + getF s Pg.tmk F.TMK_SERVO_KI_KI * v.toInt) (2 ^ 20))) ∧ (freq = clampTo lim (-(roundDiv (getF s Pg.tmk F.TMK_SERVO_KP_KP * v.toInt + integ * 2 ^ 12) (2 ^ 12))))) ∧
    (∃ (s : State), (alive s = true) ∧ (getB s Pg.tmk F.TMK_SERVO_CTL_EN = true)) :=
    ⟨⟨hub, .core, 8, by decide +kernel⟩,
    ⟨hub, .core, by decide +kernel⟩,
    ⟨hub, .core, by decide +kernel⟩,
    ⟨hub, by decide +kernel⟩,
    ⟨setB hub Pg.tmk F.TMK_SERVO_CTL_PPS_FEED true, .core, by decide +kernel⟩,
    ⟨setB hub Pg.tmk F.TMK_SERVO_CTL_EN true, .core, 0x7FFFFFFF#32, by decide +kernel⟩,
    ⟨hubS, .core, 16#32, 256 * (getF hubS Pg.tmk F.TMK_SERVO_LIMIT_LIMIT : Int), clampTo (256 * (getF hubS Pg.tmk F.TMK_SERVO_LIMIT_LIMIT : Int)) (roundDiv (toSigned 32 (getF hubS Pg.tmk F.TMK_INTEG_INTEG) * 2 ^ 20 + getF hubS Pg.tmk F.TMK_SERVO_KI_KI * (16#32).toInt) (2 ^ 20)), clampTo (256 * (getF hubS Pg.tmk F.TMK_SERVO_LIMIT_LIMIT : Int)) (-(roundDiv (getF hubS Pg.tmk F.TMK_SERVO_KP_KP * (16#32).toInt + clampTo (256 * (getF hubS Pg.tmk F.TMK_SERVO_LIMIT_LIMIT : Int)) (roundDiv (toSigned 32 (getF hubS Pg.tmk F.TMK_INTEG_INTEG) * 2 ^ 20 + getF hubS Pg.tmk F.TMK_SERVO_KI_KI * (16#32).toInt) (2 ^ 20)) * 2 ^ 12) (2 ^ 12))), by decide +kernel⟩,
    ⟨setB hub Pg.tmk F.TMK_SERVO_CTL_EN true, by decide +kernel⟩⟩

/-- States and operands that meet the hypotheses of TimeAndServo, clause by clause. -/
theorem test_meets_TimeAndServo_2 :
    (∃ (s : State), (alive s = true)) :=
    ⟨hub, by decide +kernel⟩

/-- States and operands that meet the hypotheses of ReferenceAndPps, clause by clause. -/
theorem test_meets_ReferenceAndPps :
    (∃ (s : State), (alive s = true) ∧ (getB s Pg.tmk F.TMK_STAT_REF_OK = true)) ∧
    (∃ (s : State), (alive s = true) ∧ (getB s Pg.tmk F.TMK_STAT_REF_OK = false)) ∧
    (∃ (s : State), (alive s = true)) ∧
    (∃ (s : State), ∃ fall, ∃ meet, (alive s = true) ∧ (getB s Pg.tmk F.TMK_PPS_IN_EN = true) ∧ (getB s Pg.tmk F.TMK_PPS_IN_EDGE = fall) ∧ ((∀ t, s.time.ppsLast = some t → t + 100000000 * unitNs ≤ s.time.mono)) ∧ ((getB s Pg.tmk F.TMK_SERVO_CTL_PPS_FEED = false ∨ meet = true))) ∧
    (∃ (s : State), ∃ fall, ∃ t, (alive s = true) ∧ (getB s Pg.tmk F.TMK_PPS_IN_EN = true) ∧ (getB s Pg.tmk F.TMK_PPS_IN_EDGE = fall) ∧ (s.time.ppsLast = some t) ∧ (s.time.mono < t + 100000000 * unitNs)) ∧
    (∃ (s : State), ∃ fall, (alive s = true) ∧ ((getB s Pg.tmk F.TMK_PPS_IN_EN = false ∨ getB s Pg.tmk F.TMK_PPS_IN_EDGE ≠ fall))) ∧
    (∃ (s : State), ∃ e, (alive s = true) ∧ (s.time.ppsEnd = some e) ∧ (e ≤ s.time.mono)) ∧
    (∃ (s : State), (alive s = true) ∧ (s.time.ppsEnd = none) ∧ (getB s Pg.tmk F.TMK_PPS_OUT_EN = true) ∧ (secondReached s = true)) :=
    ⟨⟨hub, by decide +kernel⟩,
    ⟨setB hub Pg.tmk F.TMK_STAT_REF_OK false, by decide +kernel⟩,
    ⟨hub, by decide +kernel⟩,
    ⟨setB hub Pg.tmk F.TMK_PPS_IN_EN true, false, false, by decide +kernel, by decide +kernel, by decide +kernel, (fun _ h => nomatch h), by decide +kernel⟩,
    ⟨{ setB hub Pg.tmk F.TMK_PPS_IN_EN true with time := { hub.time with ppsLast := some 0 } }, false, 0, by decide +kernel⟩,
    ⟨hub, true, by decide +kernel⟩,
    ⟨{ hub with time := { hub.time with ppsEnd := some 0 } }, 0, by decide +kernel⟩,
    ⟨setB hub Pg.tmk F.TMK_PPS_OUT_EN true, by decide +kernel⟩⟩

/-- States and operands that meet the hypotheses of TimedFrames, clause by clause. -/
theorem test_meets_TimedFrames :
    (∃ (s : State), ∃ p, ∃ f, (alive s = true) ∧ ((p = .e ∨ p = .w)) ∧ (portUp s p = true) ∧ (isPtp f = true) ∧ (f.dmac = 0x0180C200000E) ∧ (ptpType f = 2) ∧ (rxGood f { late := false, linkLost := false, fecCorr := 0, fecUncorr := 0 } = true) ∧ (ingressShut s p = false) ∧ (getB s Pg.tmk F.TMK_CTL_PDELAY_HW = true)) ∧
    (∃ (s : State), ∃ p, ∃ f, (alive s = true) ∧ ((p = .e ∨ p = .w)) ∧ (portUp s p = true) ∧ (isPtp f = true) ∧ (f.dmac = 0x0180C200000E) ∧ (ptpType f = 2) ∧ (rxGood f { late := false, linkLost := false, fecCorr := 0, fecUncorr := 0 } = true) ∧ (ingressShut s p = false) ∧ (getB s Pg.tmk F.TMK_CTL_PDELAY_HW = false)) ∧
    (∃ (s : State), ∃ f, ∃ ports, (alive s = true) ∧ (ports.Nodup) ∧ ((∀ p ∈ ports, isEthPort p = true)) ∧ ((isKvlType s f = true ∨ pointHeadgate s 2 (frameClass s f) = none)) ∧ ((∀ p ∈ ports, isHsrPort s p = false)) ∧ (hasRoom s f (frameClass s f) ports = true)) ∧
    (∃ (s : State), ∃ f, ∃ ports, (alive s = true) ∧ (ports.Nodup) ∧ ((∀ p ∈ ports, isEthPort p = true)) ∧ ((isKvlType s f = true ∨ pointHeadgate s 2 (frameClass s f) = none)) ∧ ((∃ p ∈ ports, isHsrPort s p = true)) ∧ (f.smac = ownMac s) ∧ (hasRoom s (tagged s f) (frameClass s f) ports = true)) ∧
    (∃ (s : State), ∃ who, ∃ p, (alive s = true) ∧ (p < 4) ∧ (accReaches s who Pg.tsq (0x40 + 16 * p) = true) ∧ (tsqOf s p = [])) ∧
    (∃ (s : State), ∃ who, ∃ p, ∃ e, ∃ q, (alive s = true) ∧ (p < 4) ∧ (accReaches s who Pg.tsq (0x40 + 16 * p) = true) ∧ (tsqOf s p = e :: q)) :=
    ⟨⟨setB hubE Pg.tmk F.TMK_CTL_PDELAY_HW true, .e, pdq, by decide +kernel⟩,
    ⟨setB hubE Pg.tmk F.TMK_CTL_PDELAY_HW false, .e, pdq, by decide +kernel⟩,
    ⟨hub, frm, [.c2], by decide +kernel⟩,
    ⟨hubE, { frm with smac := ownMac hub }, [.e], by decide +kernel⟩,
    ⟨hub, .core, 3, by decide +kernel⟩,
    ⟨{ hub with time := { hub.time with tsq := [(3, [{ id := 7, notSent := true, stamp := 5 }])] } }, .core, 3, { id := 7, notSent := true, stamp := 5 }, [], by decide +kernel⟩⟩

/-- States and operands that meet the hypotheses of TriggersAndCaptures, clause by clause. -/
theorem test_meets_TriggersAndCaptures :
    (∃ (s : State), ∃ (t : Nat), ∃ who, ∃ v, (t < 8) ∧ (writeTaken s who Pg.trg (0x114 + 32 * t) v = true)) ∧
    (∃ (s : State), ∃ (t : Nat), ∃ g, (alive s = true) ∧ (trigOf s t = some g) ∧ (g.armed = true) ∧ (edgeTime g.prog g.k ≤ fieldNs s) ∧ (edgeLimit g.prog = none) ∧ (g.prog.canEn = false)) ∧
    (∃ (s : State), ∃ (t : Nat), ∃ g, (alive s = true) ∧ (trigOf s t = some g)) ∧
    (∃ (s : State), ∃ (c : Nat), (c < 8) ∧ (alive s = true) ∧ (getF s Pg.trg F.TRG_CAP_CTL_EDGE c = 3) ∧ (tabGet s.time.capLast c = none) ∧ ((capOf s c).length + capWaiting s c < 16)) ∧
    (∃ (s : State), ∃ (c : Nat), (c < 8) ∧ (alive s = true) ∧ (getF s Pg.trg F.TRG_CAP_CTL_EDGE c = 3) ∧ (16 ≤ (capOf s c).length + capWaiting s c)) ∧
    (∃ (s : State), ∃ (c : Nat), (c < 8) ∧ (alive s = true) ∧ (getF s Pg.trg F.TRG_CAP_CTL_EDGE c = 0)) ∧
    (∃ (s : State), ∃ (c : Nat), ∃ who, (c < 8) ∧ (accReaches s who Pg.trg (0x404 + 16 * c) = true) ∧ (capOf s c = [])) ∧
    (∃ (s : State), ∃ (c : Nat), ∃ who, ∃ e, ∃ q, (c < 8) ∧ (accReaches s who Pg.trg (0x404 + 16 * c) = true) ∧ (capOf s c = e :: q)) :=
    ⟨⟨hub, 7, .core, 0x100#32, by decide +kernel⟩,
    ⟨setTrig hub 7 { trg with prog := { trg.prog with count := 0, mode := 2, period := 1000 } }, 7, { trg with prog := { trg.prog with count := 0, mode := 2, period := 1000 } }, by decide +kernel⟩,
    ⟨setTrig hub 7 trg, 7, trg, by decide +kernel⟩,
    ⟨setF hub Pg.trg F.TRG_CAP_CTL_EDGE 3 7, 7, by decide +kernel⟩,
    ⟨{ setF hub Pg.trg F.TRG_CAP_CTL_EDGE 3 7 with time := { hub.time with cap := [(7, List.replicate 16 { rising := true, unsync := false, stamp := 0 })] } }, 7, by decide +kernel⟩,
    ⟨setF hub Pg.trg F.TRG_CAP_CTL_EDGE 0 7, 7, by decide +kernel⟩,
    ⟨hub, 7, .core, by decide +kernel⟩,
    ⟨{ hub with time := { hub.time with cap := [(7, [{ rising := true, unsync := false, stamp := 9 }])] } }, 7, .core, { rising := true, unsync := false, stamp := 9 }, [], by decide +kernel⟩⟩

/-- States and operands that meet the hypotheses of ItemsCross, clause by clause. -/
theorem test_meets_ItemsCross_1 :
    (∃ (s : State), ∃ (i : Item), ∃ (rest : List Item), ∃ e, ∃ p, ∃ off, (alive s = true) ∧ (s.cul.ringS = i :: rest) ∧ (i = .exec e) ∧ (e.op = 1) ∧ (e.off = 0x1000 * p + off) ∧ (e.len = 4) ∧ (off % 4 = 0) ∧ (off < 0x1000) ∧ (regionOf e.off = .page p) ∧ (hungRefuses s p off = false) ∧ ((∀ t, popWord t p off = none)) ∧ (p ≠ Pg.tmk) ∧ (p ≠ Pg.chs)) ∧
    (∃ (s : State), ∃ (i : Item), ∃ (rest : List Item), ∃ id, ∃ p, ∃ off, ∃ v, (alive s = true) ∧ (s.cul.ringS = i :: rest) ∧ (i = .cfg id (.reg p off v))) ∧
    (∃ (s : State), ∃ (i : Item), ∃ (rest : List Item), ∃ id, ∃ f, ∃ y, (alive s = true) ∧ (s.cul.ringS = i :: rest) ∧ (i = .cfg id (.bounds f y))) ∧
    (∃ (s : State), ∃ (i : Item), ∃ (rest : List Item), ∃ tag, ∃ gen, ∃ p, (alive s = true) ∧ (s.cul.ringS = i :: rest) ∧ (i = .accept tag gen) ∧ (pushAt s tag gen = some p) ∧ (p.orphan = false) ∧ (p.accepted = false)) ∧
    (∃ (s : State), ∃ (i : Item), ∃ (rest : List Item), ∃ tag, ∃ gen, ∃ cause, ∃ p, (alive s = true) ∧ (s.cul.ringS = i :: rest) ∧ (i = .cpl tag gen St.ok cause) ∧ (pushAt s tag gen = some p) ∧ (p.accepted = true)) ∧
    (∃ (s : State), ∃ (i : Item), ∃ (rest : List Item), ∃ id, ∃ st, ∃ cause, ∃ data, ∃ e, ∃ who, ∃ a, (alive s = true) ∧ (culUp s = true) ∧ (s.cul.fieldS = i :: rest) ∧ (i = .done id st cause data) ∧ (s.cul.execs.find? (·.id == id) = some e) ∧ (e.org = .acc who a) ∧ (tabGet s.brg.accs a = none)) ∧
    (∃ (s : State), ∃ (i : Item), ∃ (rest : List Item), ∃ id, ∃ st, ∃ cause, ∃ data, (alive s = true) ∧ (culUp s = true) ∧ (s.cul.fieldS = i :: rest) ∧ (i = .done id st cause data) ∧ (s.cul.execs.find? (·.id == id) = none)) ∧
    (∃ (s : State), ∃ (i : Item), ∃ (rest : List Item), ∃ tag, ∃ gen, ∃ t, (alive s = true) ∧ (culUp s = true) ∧ (s.cul.fieldS = i :: rest) ∧ (i = .offer tag gen t) ∧ (s.seq.running = true) ∧ (s.cul.offers.find? (fun o => o.tag == tag && o.gen == gen) = none) ∧ (s.cul.refusedEp.find? (·.1 == t.init) = none) ∧ (issueRefusal s (txnOf t tag) = none) ∧ (flowHeadgate s t.flow = none)) :=
    ⟨⟨ringS hubC [.exec exq], .exec exq, [], exq, 0x100, 0x10, by refine ⟨?_, ?_, ?_, ?_, ?_, ?_, ?_, ?_, ?_, ?_, (fun _ => popWord_header (by decide)), ?_⟩ <;> decide +kernel⟩,
    ⟨ringS hubC [.cfg 3 (.reg 0x13F 0x40 1)], .cfg 3 (.reg 0x13F 0x40 1), [], 3, 0x13F, 0x40, 1, by decide +kernel⟩,
    ⟨ringS hubC [.cfg 3 (.bounds 1 2)], .cfg 3 (.bounds 1 2), [], 3, 1, 2, by decide +kernel⟩,
    ⟨ringS { hubC with fld := { hub.fld with pushes := [psh] } } [.accept 704 1], .accept 704 1, [], 704, 1, psh, by decide +kernel⟩,
    ⟨ringS { hubC with fld := { hub.fld with pushes := [{ psh with accepted := true }] } } [.cpl 704 1 0 0], .cpl 704 1 0 0, [], 704, 1, 0, { psh with accepted := true }, by decide +kernel⟩,
    ⟨{ fieldS hubC [.done 7 0 0 [0#8, 0#8, 0#8, 0#8]] with cul := { (fieldS hubC [.done 7 0 0 [0#8, 0#8, 0#8, 0#8]]).cul with execs := [{ exq with op := 2 }] } }, .done 7 0 0 [0#8, 0#8, 0#8, 0#8], [], 7, 0, 0, [0#8, 0#8, 0#8, 0#8], { exq with op := 2 }, .core, 3, by decide +kernel⟩,
    ⟨fieldS hubC [.done 7 0 0 []], .done 7 0 0 [], [], 7, 0, 0, [], by decide +kernel⟩,
    ⟨setFlow (setW (fieldS hubC [.offer 704 1 { txq 2 16 with init := 0x4000 }]) 0x040 0x120 0x40000009#32) 1 iflowNew, .offer 704 1 { txq 2 16 with init := 0x4000 }, [], 704, 1, { txq 2 16 with init := 0x4000 }, by decide +kernel⟩⟩

/-- States and operands that meet the hypotheses of ItemsCross, clause by clause. -/
theorem test_meets_ItemsCross_2 :
    (∃ (s : State), ∃ (i : Item), ∃ (rest : List Item), ∃ tag, ∃ gen, ∃ t, ∃ o, (alive s = true) ∧ (culUp s = true) ∧ (s.cul.fieldS = i :: rest) ∧ (i = .offer tag gen t) ∧ (s.seq.running = true) ∧ (s.cul.offers.find? (fun o => o.tag == tag && o.gen == gen) = some o) ∧ (o.taken = true)) ∧
    (∃ (s : State), ∃ (i : Item), ∃ (rest : List Item), ∃ q, ∃ p, ∃ v, (alive s = true) ∧ (culUp s = true) ∧ (s.cul.fieldS = i :: rest) ∧ (i = .pend q p v) ∧ (evtOld s q = false)) ∧
    (∃ (s : State), ∃ (i : Item), ∃ (rest : List Item), ∃ q, ∃ p, ∃ v, (alive s = true) ∧ (culUp s = true) ∧ (s.cul.fieldS = i :: rest) ∧ (i = .pend q p v) ∧ (evtOld s q = true)) ∧
    (∃ (s : State), ∃ (i : Item), ∃ (rest : List Item), ∃ q, ∃ c, ∃ e, (alive s = true) ∧ (culUp s = true) ∧ (s.cul.fieldS = i :: rest) ∧ (i = .record q (.cap c e)) ∧ (evtOld s q = false) ∧ ((capOf s c).length < 16)) ∧
    (∃ (s : State), ∃ (i : Item), ∃ (rest : List Item), ∃ q, ∃ r, (alive s = true) ∧ (culUp s = true) ∧ (s.cul.fieldS = i :: rest) ∧ (i = .record q r) ∧ (evtOld s q = true)) :=
    ⟨⟨{ fieldS hubC [.offer 704 1 (txq 2 16)] with cul := { (fieldS hubC [.offer 704 1 (txq 2 16)]).cul with offers := [{ tag := 704, gen := 1, init := 0x4000, taken := true }] } }, .offer 704 1 (txq 2 16), [], 704, 1, txq 2 16, { tag := 704, gen := 1, init := 0x4000, taken := true }, by decide +kernel⟩,
    ⟨fieldS hubC [.pend 0 0x13F true], .pend 0 0x13F true, [], 0, 0x13F, true, by decide +kernel⟩,
    ⟨fieldS hubC [.pend 65535 0x100 true], .pend 65535 0x100 true, [], 65535, 0x100, true, by decide +kernel⟩,
    ⟨fieldS hubC [.record 0 (.cap 7 { rising := true, unsync := false, stamp := 0 })], .record 0 (.cap 7 { rising := true, unsync := false, stamp := 0 }), [], 0, 7, { rising := true, unsync := false, stamp := 0 }, by decide +kernel⟩,
    ⟨fieldS hubC [.record 65535 (.loss 0)], .record 65535 (.loss 0), [], 65535, .loss 0, by decide +kernel⟩⟩

/-- States and operands that meet the hypotheses of CreditsPermitsAndTime, clause by clause. -/
theorem test_meets_CreditsPermitsAndTime_1 :
    (∃ (s : State), ∃ vc, (alive s = true) ∧ (culUp s = true) ∧ (vc < 4) ∧ (creditHeld s Pg.cul = 0)) ∧
    (∃ (s : State), ∃ vc, (alive s = true) ∧ (culUp s = true) ∧ (vc < 4) ∧ (creditHeld s Pg.cul = 0)) ∧
    (∃ (s : State), (alive s = true) ∧ (culUp s = true)) ∧
    (∃ (s : State), (alive s = true) ∧ (culUp s = true) ∧ (pairRole s = 0)) ∧
    (∃ (s : State), (alive s = true) ∧ (culUp s = false)) ∧
    (∃ (s : State), ∃ n, ∃ rest, (alive s = true) ∧ (s.cul.ringS = .permit n :: rest)) ∧
    (∃ (s : State), (alive s = true)) ∧
    (∃ (s : State), ∃ (rest : List Item), ∃ f, (alive s = true) ∧ (s.cul.ringS = .freq f :: rest)) :=
    ⟨⟨hubC, 3, by decide +kernel⟩,
    ⟨hubC, 3, by decide +kernel⟩,
    ⟨hubC, by decide +kernel⟩,
    ⟨hubC, by decide +kernel⟩,
    ⟨hub, by decide +kernel⟩,
    ⟨ringS hubC [.permit 5], 5, [], by decide +kernel⟩,
    ⟨hub, by decide +kernel⟩,
    ⟨ringS hubC [.freq (-3)], [], -3, by decide +kernel⟩⟩

/-- States and operands that meet the hypotheses of CreditsPermitsAndTime, clause by clause. -/
theorem test_meets_CreditsPermitsAndTime_2 :
    (∃ (s : State), ∃ (rest : List Item), ∃ d, (alive s = true) ∧ (s.cul.ringS = .step d :: rest)) ∧
    (∃ (s : State), (alive s = true) ∧ (culUp s = true)) ∧
    (∃ (s : State), ∃ (rest : List Item), ∃ x, ∃ t, (alive s = true) ∧ (s.cul.ringS = .mark x t :: rest)) ∧
    (∃ (s : State), ∃ (rest : List Item), ∃ x, ∃ t1, ∃ t2, ∃ t3, ∃ o, (alive s = true) ∧ (culUp s = true) ∧ (s.cul.fieldS = .markReply x t1 t2 t3 :: rest) ∧ (x = s.cul.markX) ∧ (s.cul.stepWait = 0) ∧ (o = markOffset t1 t2 t3 (now16 s))) :=
    ⟨⟨ringS hubC [.step 3], [], 3, by decide +kernel⟩,
    ⟨hubC, by decide +kernel⟩,
    ⟨ringS hubC [.mark 1 2], [], 1, 2, by decide +kernel⟩,
    ⟨fieldS hubC [.markReply 0 1 2 3], [], 0, 1, 2, 3, markOffset 1 2 3 (now16 (fieldS hubC [.markReply 0 1 2 3])), by decide +kernel⟩⟩

/-- States and operands that meet the hypotheses of CulvertResetsAndTraining, clause by clause. -/
theorem test_meets_CulvertResetsAndTraining_1 :
    (∃ (s : State), ∃ (c : Instr), (alive s = true) ∧ (((culUp s = true ∧ ((∃ b, c = .culvertSymbolTimeout b) ∨ c = .culvertSilenceTimeout ∨ c = .culvertCreditTimeout ∨ c = .culvertCheckFail ∨ c = .culvertAbortPattern)) ∨ (∃ who, c = .culvertRetrain who ∧ writeReaches s who Pg.cul 0x60 = true ∧ culState s ≠ 0) ∨ (c = .culvertRspWaitExpire ∧ s.cul.rspWait = true)))) ∧
    (∃ (s : State), ∃ id, ∃ st, ∃ cause, ∃ data, ∃ e, ∃ who, ∃ a, ∃ rest, (alive s = true) ∧ (culUp s = true) ∧ (s.cul.fieldS = .done id st cause data :: rest) ∧ (s.cul.execs.find? (·.id == id) = some e) ∧ (e.org = .acc who a) ∧ (tabGet s.brg.accs a = none)) ∧
    (∃ (s : State), (alive s = true) ∧ (culState s = 1) ∧ (s.cul.attempt < getF s Pg.cul F.CUL_CTL_RETRIES)) ∧
    (∃ (s : State), (alive s = true) ∧ (culState s = 1) ∧ (getF s Pg.cul F.CUL_CTL_RETRIES ≤ s.cul.attempt)) ∧
    (∃ (s : State), (alive s = true) ∧ (culState s = 1)) ∧
    (∃ (s : State), ∃ en, ∃ n, (alive s = true) ∧ (culState s = 1) ∧ ((getF s Pg.cul F.CUL_VER_EN &&& en) % 4 ≠ 0) ∧ (n = (if (getF s Pg.cul F.CUL_VER_EN &&& en).testBit 1 then 2 else 1))) ∧
    (∃ (s : State), ∃ en, ∃ rev, (alive s = true) ∧ (culState s = 1) ∧ (((getF s Pg.cul F.CUL_VER_EN &&& en) % 4 = 0 ∨ rev ≠ s.dev.fieldRev)) ∧ (s.cul.attempt < getF s Pg.cul F.CUL_CTL_RETRIES)) ∧
    (∃ (s : State), (alive s = true) ∧ (culState s = 1)) :=
    ⟨⟨hubC, .culvertCheckFail, by decide +kernel, .inl ⟨by decide +kernel, .inr (.inr (.inr (.inl rfl)))⟩⟩,
    ⟨{ fieldS hubC [.done 7 0 0 [0#8, 0#8, 0#8, 0#8]] with cul := { (fieldS hubC [.done 7 0 0 [0#8, 0#8, 0#8, 0#8]]).cul with execs := [{ exq with op := 2 }] } }, 7, 0, 0, [0#8, 0#8, 0#8, 0#8], { exq with op := 2 }, .core, 3, [], by decide +kernel⟩,
    ⟨hubF Pg.cul F.CUL_STAT_STATE 1, by decide +kernel⟩,
    ⟨setF (hubF Pg.cul F.CUL_STAT_STATE 1) Pg.cul F.CUL_CTL_RETRIES 0, by decide +kernel⟩,
    ⟨hubF Pg.cul F.CUL_STAT_STATE 1, by decide +kernel⟩,
    ⟨hubF Pg.cul F.CUL_STAT_STATE 1, 3, 2, by decide +kernel⟩,
    ⟨hubF Pg.cul F.CUL_STAT_STATE 1, 0, 0, by decide +kernel⟩,
    ⟨hubF Pg.cul F.CUL_STAT_STATE 1, by decide +kernel⟩⟩

/-- States and operands that meet the hypotheses of CulvertResetsAndTraining, clause by clause. -/
theorem test_meets_CulvertResetsAndTraining_2 :
    (∃ (s : State), (alive s = true)) :=
    ⟨hub, by decide +kernel⟩

/-- States and operands that meet the hypotheses of SerialReceives, clause by clause. -/
theorem test_meets_SerialReceives_1 :
    (∃ (s : State), ∃ (n : Nat), ∃ st, (alive s = true) ∧ (n < 32) ∧ (serOn s n = true) ∧ (markSeen s n st = false)) ∧
    (∃ (s : State), ∃ (n : Nat), ∃ st, (alive s = true) ∧ (n < 32) ∧ (serOn s n = true) ∧ (markSeen s n st = true) ∧ (serDeaf s n = true)) ∧
    (∃ (s : State), ∃ (n : Nat), ∃ data, ∃ st, (alive s = true) ∧ (n < 32) ∧ (serOn s n = true) ∧ (markSeen s n st = true) ∧ (serDeaf s n = false) ∧ ((fifoOf s n).sealed = none) ∧ ((fifoOf s n).opened.length + (charBytes s n data).length ≤ 8)) ∧
    (∃ (s : State), ∃ (n : Nat), ∃ st, (alive s = true) ∧ (n < 32) ∧ (serOn s n = true) ∧ (markSeen s n st = true) ∧ (serDeaf s n = false) ∧ ((fifoOf s n).sealed = none) ∧ ((fifoOf s n).opened.length = 8) ∧ ((fifoOf s n).rx.length < 128)) ∧
    (∃ (s : State), ∃ (n : Nat), ∃ st, (alive s = true) ∧ (n < 32) ∧ (serOn s n = true) ∧ (markSeen s n st = true) ∧ (serDeaf s n = false) ∧ (getB s (Pg.ser n) F.SER_CFG_ERR_ACT = true)) ∧
    (∃ (s : State), ∃ (n : Nat), (alive s = true) ∧ (n < 32) ∧ (serOn s n = true) ∧ (serDeaf s n = false)) ∧
    (∃ (s : State), ∃ (n : Nat), (alive s = true) ∧ (n < 32) ∧ (serOn s n = true) ∧ ((fifoOf s n).opened ≠ []) ∧ ((fifoOf s n).sealed = none) ∧ ((fifoOf s n).rx.length < 128)) ∧
    (∃ (s : State), ∃ (n : Nat), (alive s = true) ∧ (n < 32) ∧ (serOn s n = true)) :=
    ⟨⟨hubSp { serNew with markFrom := some 100 }, 31, 0, by decide +kernel⟩,
    ⟨setF (setF (hubSp { serNew with phase := .active }) (Pg.ser 31) F.SER_CFG_MODE 1) (Pg.ser 31) F.SER_CFG_ECHO_SUPPRESS 1, 31, 0, by decide +kernel⟩,
    ⟨hubSer fifoNew, 31, 65, 0, by decide +kernel⟩,
    ⟨hubSer { fifoNew with opened := List.replicate 8 0#8 }, 31, 0, by decide +kernel⟩,
    ⟨setB (hubSer fifoNew) (Pg.ser 31) F.SER_CFG_ERR_ACT true, 31, 0, by decide +kernel⟩,
    ⟨hubSer fifoNew, 31, by decide +kernel⟩,
    ⟨hubSer { fifoNew with opened := [1#8] }, 31, by decide +kernel⟩,
    ⟨hubSer fifoNew, 31, by decide +kernel⟩⟩

/-- States and operands that meet the hypotheses of SerialReceives, clause by clause. -/
theorem test_meets_SerialReceives_2 :
    (∃ (s : State), ∃ (n : Nat), (alive s = true) ∧ (n < 32) ∧ (serOn s n = true) ∧ ((serOf s n).idleArmed = true)) ∧
    (∃ (s : State), ∃ (n : Nat), ∃ w, (alive s = true) ∧ (n < 32) ∧ (serOn s n = true) ∧ ((fifoOf s n).sealed = some w) ∧ ((fifoOf s n).rx.length < 128)) :=
    ⟨⟨hubSp { serNew with idleArmed := true }, 31, by decide +kernel⟩,
    ⟨hubSer { fifoNew with sealed := some (fw 1#8) }, 31, fw 1#8, by decide +kernel⟩⟩

/-- States and operands that meet the hypotheses of SerialCommandsAndSends, clause by clause. -/
theorem test_meets_SerialCommandsAndSends_1 :
    (∃ (s : State), ∃ (who : Agent), ∃ (n : Nat), (n < 32) ∧ (writeTaken s who (Pg.ser n) 0x58 1#32 = true) ∧ ((fifoOf s n).sealed = none) ∧ ((fifoOf s n).rx.length < 128) ∧ ((fifoOf s n).opened ≠ [])) ∧
    (∃ (s : State), ∃ (who : Agent), ∃ (n : Nat), (n < 32) ∧ (writeTaken s who (Pg.ser n) 0x58 2#32 = true) ∧ (serOn s n = true) ∧ ((serOf s n).breaking = false)) ∧
    (∃ (s : State), ∃ (who : Agent), ∃ (n : Nat), (n < 32) ∧ (writeTaken s who (Pg.ser n) 0x58 4#32 = true)) ∧
    (∃ (s : State), ∃ (who : Agent), ∃ (n : Nat), (n < 32) ∧ (writeTaken s who (Pg.ser n) 0x58 8#32 = true) ∧ ((fifoOf s n).txTaken = 0)) ∧
    (∃ (s : State), ∃ (n : Nat), ∃ w, ∃ ws, ∃ b, ∃ more, ∃ lead, (alive s = true) ∧ (n < 32) ∧ ((fifoOf s n).tx = w :: ws) ∧ (w.data.drop (fifoOf s n).txTaken = b :: more) ∧ (txGate s n = true) ∧ ((serOf s n).inChar = none) ∧ ((serOf s n).breaking = false) ∧ ((serOf s n).breakReq = false) ∧ (serMayStart s n = true) ∧ (getF s (Pg.ser n) F.SER_CFG_DATA_BITS = 1) ∧ (((serOf s n).phase = .active ∨ (serMode s n = 0 ∧ (serOf s n).phase = .idle) ∨ ((serOf s n).phase = .lead ∧ lead = true)))) ∧
    (∃ (s : State), ∃ (n : Nat), (alive s = true) ∧ (n < 32) ∧ ((fifoOf s n).tx ≠ []) ∧ (txGate s n = true) ∧ ((serOf s n).inChar = none) ∧ ((serOf s n).breaking = false) ∧ ((serOf s n).breakReq = false) ∧ (serMayStart s n = true) ∧ (serMode s n ≠ 0) ∧ ((serOf s n).phase = .idle)) ∧
    (∃ (s : State), ∃ (n : Nat), ∃ l, (alive s = true) ∧ (n < 32) ∧ ((serOf s n).inChar = some l) ∧ ((serOf s n).breakReq = false) ∧ ((fifoOf s n).tx = [])) ∧
    (∃ (s : State), ∃ (n : Nat), (alive s = true) ∧ (n < 32) ∧ ((serOf s n).phase = .lag)) :=
    ⟨⟨hubSer { fifoNew with opened := [1#8] }, .core, 31, by decide +kernel⟩,
    ⟨hubSer fifoNew, .core, 31, by decide +kernel⟩,
    ⟨hubSer fifoNew, .core, 31, by decide +kernel⟩,
    ⟨hubSer fifoNew, .core, 31, by decide +kernel⟩,
    ⟨setF (hubSer { fifoNew with tx := [fw 65#8] }) (Pg.ser 31) F.SER_CFG_DATA_BITS 1, 31, fw 65#8, [], 65#8, [], false, by refine ⟨?_, ?_, ?_, ?_, ?_, ?_, ?_, ?_, ?_, ?_, .inr (.inl ⟨by decide +kernel, by decide +kernel⟩)⟩ <;> decide +kernel⟩,
    ⟨setF (hubSer { fifoNew with tx := [fw 65#8] }) (Pg.ser 31) F.SER_CFG_MODE 1, 31, by decide +kernel⟩,
    ⟨hubSp { serNew with phase := .active, inChar := some true }, 31, true, by decide +kernel⟩,
    ⟨hubSp { serNew with phase := .lag }, 31, by decide +kernel⟩⟩

/-- States and operands that meet the hypotheses of SerialCommandsAndSends, clause by clause. -/
theorem test_meets_SerialCommandsAndSends_2 :
    (∃ (s : State), ∃ (n : Nat), (alive s = true) ∧ (n < 32) ∧ (((serOf s n).phase = .active → (serOf s n).inChar ≠ none))) ∧
    (∃ (s : State), ∃ (n : Nat), ∃ w, ∃ ws, ∃ b, ∃ more, (alive s = true) ∧ (n < 32) ∧ ((fifoOf s n).tx = w :: ws) ∧ (w.data.drop (fifoOf s n).txTaken = b :: more) ∧ (txGate s n = true) ∧ (serOn s n = true) ∧ ((serOf s n).phase = .active) ∧ ((serOf s n).inChar = none) ∧ ((serOf s n).breaking = false) ∧ (getF s (Pg.ser n) F.SER_CFG_DATA_BITS = 1)) :=
    ⟨⟨hubSp serNew, 31, by decide +kernel⟩,
    ⟨setSer (setF (hubSer { fifoNew with tx := [fw 65#8] }) (Pg.ser 31) F.SER_CFG_DATA_BITS 1) 31 { serNew with phase := .active }, 31, fw 65#8, [], 65#8, [], by decide +kernel⟩⟩

/-- States and operands that meet the hypotheses of PushesForm, clause by clause. -/
theorem test_meets_PushesForm :
    (∃ (s : State), ∃ (ep : Nat), ∃ (tag : Nat), (alive s = true) ∧ (ep < 48) ∧ (pushOn s ep = true) ∧ ((openPushes s ep).length < getF s (epPage ep) (epFld ep F.SER_PUSH_CFG_DEPTH F.BEN_PUSH_CFG_DEPTH)) ∧ (lowestFree (s.fld.pushes.map (·.tag)) 704 1024 = some tag) ∧ (pushDue s ep = true)) ∧
    (∃ (s : State), ∃ (ep : Nat), ∃ (tag : Nat), (alive s = true) ∧ (ep < 48) ∧ (pushOn s ep = true) ∧ ((openPushes s ep).length < getF s (epPage ep) (epFld ep F.SER_PUSH_CFG_DEPTH F.BEN_PUSH_CFG_DEPTH)) ∧ (lowestFree (s.fld.pushes.map (·.tag)) 704 1024 = some tag) ∧ (freeWords s ep ≠ [])) :=
    ⟨⟨setF (setF (setF (hubSer { fifoNew with rx := [fw 1#8] }) (Pg.ser 31) F.SER_PUSH_CFG_EN 1) (Pg.ser 31) F.SER_PUSH_CFG_DEPTH 1) (Pg.ser 31) F.SER_PUSH_CFG_MAX_WORDS 1, 31, 704, by decide +kernel⟩,
    ⟨setF (setF (setF (hubSer { fifoNew with rx := [{ fw 1#8 with last := false }] }) (Pg.ser 31) F.SER_PUSH_CFG_EN 1) (Pg.ser 31) F.SER_PUSH_CFG_DEPTH 1) (Pg.ser 31) F.SER_PUSH_CFG_MAX_WORDS 2, 31, 704, by decide +kernel⟩⟩

/-- States and operands that meet the hypotheses of BenchTicks, clause by clause. -/
theorem test_meets_BenchTicks :
    (∃ (s : State), ∃ (n : Nat), (alive s = true) ∧ (n < 16) ∧ (benRun s n = 0)) ∧
    (∃ (s : State), ∃ (n : Nat), ∃ (idx : Nat), ∃ e, (alive s = true) ∧ (n < 16) ∧ (benRun s n = 1) ∧ (e = benEntry s n idx) ∧ (idx = tickIndex s n) ∧ ((benOf s n).badParity.contains idx = false) ∧ (wordBits e 22 8 = 0)) ∧
    (∃ (s : State), ∃ (n : Nat), ∃ (idx : Nat), ∃ e, (alive s = true) ∧ (n < 16) ∧ (benRun s n = 1) ∧ (e = benEntry s n idx) ∧ (idx = tickIndex s n) ∧ ((benOf s n).badParity.contains idx = false) ∧ (wordBits e 24 2 = 2) ∧ ((fifoOf s (32 + n)).tx = [])) ∧
    (∃ (s : State), ∃ (n : Nat), ∃ (idx : Nat), ∃ e, (alive s = true) ∧ (n < 16) ∧ (benRun s n = 1) ∧ (e = benEntry s n idx) ∧ (idx = tickIndex s n) ∧ ((benOf s n).badParity.contains idx = true)) ∧
    (∃ (s : State), ∃ (n : Nat), ∃ (idx : Nat), ∃ e, ∃ k, (alive s = true) ∧ (n < 16) ∧ (benRun s n = 1) ∧ (e = benEntry s n idx) ∧ (idx = tickIndex s n) ∧ (k < 1024) ∧ (k = idx)) ∧
    (∃ (s : State), ∃ (n : Nat), (alive s = true) ∧ (n < 16) ∧ (benRun s n = 2) ∧ (benBlocked s n (benOf s n).heldEntry = 0)) ∧
    (∃ (s : State), ∃ (n : Nat), (alive s = true) ∧ (n < 16) ∧ (benRun s n = 2) ∧ (benBlocked s n (benOf s n).heldEntry ≠ 0)) :=
    ⟨⟨hub, 15, by decide +kernel⟩,
    ⟨hubBen 1, 15, tickIndex (hubBen 1) 15, benEntry (hubBen 1) 15 (tickIndex (hubBen 1) 15), by decide +kernel⟩,
    ⟨setBen (hubBen 1) 15 { benNew with table := (List.range 16).map fun i => (i, BitVec.ofNat 32 (2 ^ 25)) }, 15, tickIndex (setBen (hubBen 1) 15 { benNew with table := (List.range 16).map fun i => (i, BitVec.ofNat 32 (2 ^ 25)) }) 15, BitVec.ofNat 32 (2 ^ 25), by decide +kernel⟩,
    ⟨setBen (hubBen 1) 15 { benNew with badParity := List.range 16 }, 15, tickIndex (setBen (hubBen 1) 15 { benNew with badParity := List.range 16 }) 15, benEntry (hubBen 1) 15 0, by decide +kernel⟩,
    ⟨hubBen 1, 15, tickIndex (hubBen 1) 15, benEntry (hubBen 1) 15 (tickIndex (hubBen 1) 15), tickIndex (hubBen 1) 15, by decide +kernel⟩,
    ⟨hubBen 2, 15, by decide +kernel⟩,
    ⟨setBen (hubBen 2) 15 { benNew with heldEntry := BitVec.ofNat 32 (2 ^ 25) }, 15, by decide +kernel⟩⟩

/-- States and operands that meet the hypotheses of BenchControlAndFifos, clause by clause. -/
theorem test_meets_BenchControlAndFifos :
    (∃ (s : State), ∃ (who : Agent), ∃ n, (n < 16) ∧ (writeTaken s who (Pg.ben n) 0x44 1#32 = true) ∧ (benRun s n = 0) ∧ (pageEnabled s (Pg.ben n) = true) ∧ (pairSilent s = false)) ∧
    (∃ (s : State), ∃ (who : Agent), ∃ n, (n < 16) ∧ (writeTaken s who (Pg.ben n) 0x44 2#32 = true) ∧ (benRun s n ≠ 0)) ∧
    (∃ (s : State), ∃ (who : Agent), ∃ v, (writeTaken s who Pg.btb 0x40 v = true)) ∧
    (∃ (s : State), ∃ (who : Agent), ∃ v, (writeTaken s who Pg.btb 0x44 v = true)) ∧
    (∃ (s : State), ∃ (who : Agent), ∃ (n : Nat), (n < 16) ∧ (writeTaken s who (Pg.ben n) 0x44 4#32 = true) ∧ ((fifoOf s (32 + n)).sealed = none) ∧ ((fifoOf s (32 + n)).rx.length < 256) ∧ ((fifoOf s (32 + n)).opened ≠ [])) ∧
    (∃ (s : State), ∃ (who : Agent), ∃ (n : Nat), (n < 16) ∧ (writeTaken s who (Pg.ben n) 0x44 8#32 = true)) ∧
    (∃ (s : State), ∃ (who : Agent), ∃ (n : Nat), (n < 16) ∧ (writeTaken s who (Pg.ben n) 0x44 16#32 = true) ∧ ((fifoOf s (32 + n)).txTaken = 0)) ∧
    (∃ (s : State), ∃ (who : Agent), ∃ (n : Nat), ∃ v, (n < 16) ∧ (writeTaken s who (Pg.ben n) 0x7C v = true) ∧ ((fifoOf s (32 + n)).tx.length < 256)) :=
    ⟨⟨hubBen 0, .core, 15, by decide +kernel⟩,
    ⟨hubBen 1, .core, 15, by decide +kernel⟩,
    ⟨hub, .core, 0x8001#32, by decide +kernel⟩,
    ⟨hub, .core, 0x8001#32, by decide +kernel⟩,
    ⟨setFifo (hubBen 0) 47 { fifoNew with opened := [1#8] }, .core, 15, by decide +kernel⟩,
    ⟨hubBen 0, .core, 15, by decide +kernel⟩,
    ⟨hubBen 0, .core, 15, by decide +kernel⟩,
    ⟨hubBen 0, .core, 15, 65#32, by decide +kernel⟩⟩

/-- States and operands that meet the hypotheses of BenchPrograms, clause by clause. -/
theorem test_meets_BenchPrograms :
    (∃ (s : State), ∃ (n : Nat), ∃ i, (alive s = true) ∧ (n < 16) ∧ (i < 1024) ∧ (benRun s n = 0) ∧ (blockRefuses s (Pg.ben n) = none)) ∧
    (∃ (s : State), ∃ (n : Nat), ∃ i, ∃ meet, (alive s = true) ∧ (n < 16) ∧ (i < 1024) ∧ (benRun s n ≠ 0 ∨ meet = true) ∧ (blockRefuses s (Pg.ben n) = none)) ∧
    (∃ (s : State), ∃ (who : Agent), ∃ (n : Nat), ∃ (v : Word), (alive s = true) ∧ (n < 16) ∧ (writeTaken s who (Pg.ben n) 0x64 v = true) ∧ (benRun s n = 0)) ∧
    (∃ (s : State), ∃ (who : Agent), ∃ (n : Nat), ∃ off, (alive s = true) ∧ (n < 16) ∧ (writeReaches s who (Pg.ben n) off = true) ∧ (pageEnabled s (Pg.ben n) = true) ∧ (benProgReg off = true) ∧ (off % 4 = 0)) ∧
    (∃ (s : State), ∃ (who : Agent), ∃ (n : Nat), ∃ (v : Word), (alive s = true) ∧ (n < 16) ∧ (writeTaken s who Pg.btb 0x4C v = true) ∧ (v.getLsbD 4 = true) ∧ (getB s Pg.btb F.BTB_CRC_STAT_BUSY = false)) ∧
    (∃ (s : State), ∃ (n : Nat), (alive s = true) ∧ (n < 16) ∧ (getB s Pg.btb F.BTB_CRC_STAT_BUSY = true)) :=
    ⟨⟨hubBen 0, 15, 1023, by decide +kernel⟩,
    ⟨hubBen 1, 15, 1023, false, by decide +kernel, by decide +kernel, by decide +kernel, .inl (by decide +kernel), by decide +kernel⟩,
    ⟨hubBen 0, .core, 15, 5#32, by decide +kernel⟩,
    ⟨hubBen 0, .core, 15, 0x50, by decide +kernel⟩,
    ⟨hub, .core, 15, 0x10#32, by decide +kernel⟩,
    ⟨setB hub Pg.btb F.BTB_CRC_STAT_BUSY true, 15, by decide +kernel⟩⟩

/-- States and operands that meet the hypotheses of CanReceives, clause by clause. -/
theorem test_meets_CanReceives :
    (∃ (s : State), ∃ (n : Nat), ∃ fdf, (alive s = true) ∧ (n < 8) ∧ (canLive s n = true) ∧ (pageEnabled s (Pg.can n) = true) ∧ ((fdf = true → getB s (Pg.can n) F.CAN_CFG_FD_EN = true)) ∧ (canMode s n ≠ 2)) ∧
    (∃ (s : State), ∃ (n : Nat), ∃ who, ∃ v, (alive s = true) ∧ (n < 8) ∧ (writeTaken s who (Pg.can n) 0x68 v = true)) ∧
    (∃ (s : State), ∃ (n : Nat), (alive s = true) ∧ (n < 8) ∧ (pageEnabled s (Pg.can n) = true) ∧ (getB s (Pg.can n) F.CAN_STAT_SYNC = false)) ∧
    (∃ (s : State), ∃ (n : Nat), (alive s = true) ∧ (n < 8) ∧ (canLive s n = true) ∧ ((canOf s n).cur = none) ∧ ((canOf s n).ending = false)) ∧
    (∃ (s : State), ∃ (n : Nat), (alive s = true) ∧ (n < 8) ∧ (canLive s n = true) ∧ ((canOf s n).cur = none) ∧ ((canOf s n).ending = false)) ∧
    (∃ (s : State), ∃ (n : Nat), ∃ weight, ∃ b, (alive s = true) ∧ (n < 8) ∧ ((canOf s n).cur = some (.buffer b)) ∧ (b < 32) ∧ ((canOf s n).ending = false) ∧ (canCancel s n b = false) ∧ (getB s (Pg.can n) F.CAN_BUF_FMT_TT b = false) ∧ (getF s (Pg.can n) F.CAN_ERRCNT_TEC + weight ≤ 255) ∧ (canReq s n b = true)) :=
    ⟨⟨hubCan none, 7, false, by decide +kernel⟩,
    ⟨hub, 7, .core, 0#32, by decide +kernel⟩,
    ⟨hubOn (Pg.can 7), 7, by decide +kernel⟩,
    ⟨hubCan none, 7, by decide +kernel⟩,
    ⟨hubCan none, 7, by decide +kernel⟩,
    ⟨setF (hubCan (some (.buffer 31))) (Pg.can 7) F.CAN_TX_REQ_REQ (2 ^ 31), 7, 8, 31, by decide +kernel⟩⟩

/-- States and operands that meet the hypotheses of CanSendsAndRecovers, clause by clause. -/
theorem test_meets_CanSendsAndRecovers_1 :
    (∃ (s : State), ∃ (n : Nat), ∃ who, ∃ v, (n < 8) ∧ (writeTaken s who (Pg.can n) 0x58 v = true) ∧ (canState s n ≤ 1) ∧ (pairSilent s = false) ∧ ((∀ b, b < 32 → v.getLsbD b = true → canFormatBad s n b = false))) ∧
    (∃ (s : State), ∃ (n : Nat), ∃ who, ∃ b, (n < 8) ∧ (b < 32) ∧ (writeTaken s who (Pg.can n) 0x5C (BitVec.ofNat 32 (2 ^ b)) = true) ∧ (canReq s n b = true)) ∧
    (∃ (s : State), ∃ (n : Nat), (n < 8) ∧ (alive s = true) ∧ (canLive s n = true) ∧ (canMode s n = 1)) ∧
    (∃ (s : State), ∃ (n : Nat), (n < 8) ∧ (alive s = true) ∧ (canLive s n = true) ∧ (canMode s n ≠ 1) ∧ (pageEnabled s (Pg.can n) = true) ∧ (getB s (Pg.can n) F.CAN_TT_STAT_REF_PENDING = true)) ∧
    (∃ (s : State), ∃ (n : Nat), ∃ j, (n < 8) ∧ (alive s = true) ∧ (canLive s n = true) ∧ (canMode s n ≠ 1) ∧ (pageEnabled s (Pg.can n) = true) ∧ (getB s (Pg.can n) F.CAN_TT_STAT_REF_PENDING = false) ∧ (canWindow s n = some j)) ∧
    (∃ (s : State), ∃ (n : Nat), ∃ b, (n < 8) ∧ (alive s = true) ∧ (canLive s n = true) ∧ (canMode s n ≠ 1) ∧ (pageEnabled s (Pg.can n) = true) ∧ (getB s (Pg.can n) F.CAN_TT_STAT_REF_PENDING = false) ∧ ((canOf s n).windows = []) ∧ (canBest s n = some b)) ∧
    (∃ (s : State), ∃ (n : Nat), (n < 8) ∧ (alive s = true) ∧ (canLive s n = true) ∧ (canMode s n ≠ 1) ∧ (pageEnabled s (Pg.can n) = true) ∧ (getB s (Pg.can n) F.CAN_TT_STAT_REF_PENDING = false) ∧ ((canOf s n).windows = []) ∧ (canBest s n = none)) ∧
    (∃ (s : State), ∃ (n : Nat), ∃ b, (n < 8) ∧ (alive s = true) ∧ (b < 32) ∧ ((canOf s n).cur = some (.buffer b)) ∧ ((canOf s n).ending = false) ∧ (canReq s n b = true) ∧ (canCancel s n b = false) ∧ (getB s (Pg.can n) F.CAN_BUF_FMT_TT b = false) ∧ (getB s (Pg.can n) F.CAN_BUF_FMT_ONE_SHOT b = false)) :=
    ⟨⟨hubCan none, 7, .core, 0x80000001#32, by decide +kernel⟩,
    ⟨setF (hubCan none) (Pg.can 7) F.CAN_TX_REQ_REQ (2 ^ 31), 7, .core, 31, by decide +kernel⟩,
    ⟨setF (hubCan none) (Pg.can 7) F.CAN_CFG_MODE 1, 7, by decide +kernel⟩,
    ⟨setB (hubCan none) (Pg.can 7) F.CAN_TT_STAT_REF_PENDING true, 7, by decide +kernel⟩,
    ⟨setF (setB (setCan (hubCan none) 7 { canNew with refStarted := true, sched := [0x4000#32], windows := [0] }) (Pg.can 7) F.CAN_BUF_FMT_TT true) (Pg.can 7) F.CAN_TX_REQ_REQ 1, 7, 0, by decide +kernel⟩,
    ⟨setF (hubCan none) (Pg.can 7) F.CAN_TX_REQ_REQ (2 ^ 31), 7, 31, by decide +kernel⟩,
    ⟨hubCan none, 7, by decide +kernel⟩,
    ⟨setF (hubCan (some (.buffer 31))) (Pg.can 7) F.CAN_TX_REQ_REQ (2 ^ 31), 7, 31, by decide +kernel⟩⟩

/-- States and operands that meet the hypotheses of CanSendsAndRecovers, clause by clause. -/
theorem test_meets_CanSendsAndRecovers_2 :
    (∃ (s : State), ∃ (n : Nat), ∃ b, (n < 8) ∧ (alive s = true) ∧ (b < 32) ∧ ((canOf s n).cur = some (.buffer b)) ∧ ((canOf s n).ending = false) ∧ (canReq s n b = true) ∧ (canCancel s n b = false) ∧ (getB s (Pg.can n) F.CAN_BUF_FMT_TT b = false) ∧ (getB s (Pg.can n) F.CAN_BUF_FMT_ONE_SHOT b = true)) ∧
    (∃ (s : State), ∃ (n : Nat), ∃ b, ∃ tdcv, (n < 8) ∧ (alive s = true) ∧ (b < 32) ∧ ((canOf s n).cur = some (.buffer b)) ∧ ((canOf s n).ending = false) ∧ (canReq s n b = true) ∧ (canCancel s n b = false) ∧ (getB s (Pg.can n) F.CAN_BUF_FMT_TT b = false) ∧ (tdcv ≤ 127) ∧ (canMode s n ≠ 2) ∧ (getB s (Pg.can n) F.CAN_CFG_ECHO_EN = false)) ∧
    (∃ (s : State), ∃ (n : Nat), ∃ b, ∃ tdcv, (n < 8) ∧ (alive s = true) ∧ (b < 32) ∧ ((canOf s n).cur = some (.buffer b)) ∧ ((canOf s n).ending = false) ∧ (canReq s n b = true) ∧ (canCancel s n b = false) ∧ (getB s (Pg.can n) F.CAN_BUF_FMT_TT b = false) ∧ (tdcv ≤ 127) ∧ (canMode s n ≠ 2) ∧ (getB s (Pg.can n) F.CAN_CFG_ECHO_EN = true) ∧ (canWaiting s n < 64)) ∧
    (∃ (s : State), ∃ (n : Nat), ∃ b, ∃ tdcv, (n < 8) ∧ (alive s = true) ∧ (b < 32) ∧ ((canOf s n).cur = some (.buffer b)) ∧ ((canOf s n).ending = false) ∧ (canReq s n b = true) ∧ (canCancel s n b = false) ∧ (getB s (Pg.can n) F.CAN_BUF_FMT_TT b = false) ∧ (127 < tdcv) ∧ (getB s (Pg.can n) F.CAN_CFG_TDC_EN = true) ∧ (getB s (Pg.can n) F.CAN_BUF_FMT_BRS b = true)) ∧
    (∃ (s : State), ∃ (n : Nat), (n < 8) ∧ (alive s = true) ∧ ((canOf s n).cur = some .ref) ∧ (canMode s n ≠ 2) ∧ (getB s (Pg.can n) F.CAN_CFG_ECHO_EN = false)) ∧
    (∃ (s : State), ∃ (n : Nat), ∃ who, (alive s = true) ∧ (n < 8) ∧ (writeTaken s who (Pg.can n) 0x54 1#32 = true) ∧ (canState s n = 2)) ∧
    (∃ (s : State), ∃ (n : Nat), (alive s = true) ∧ (n < 8) ∧ (canState s n = 3)) ∧
    (∃ (s : State), ∃ (n : Nat), (alive s = true) ∧ (n < 8) ∧ (getB s (Pg.can n) F.CAN_TT_STAT_REF_PENDING = true) ∧ ((canOf s n).refStarted = false)) :=
    ⟨⟨setF (setF (hubCan (some (.buffer 31))) (Pg.can 7) F.CAN_TX_REQ_REQ (2 ^ 31)) (Pg.can 7) F.CAN_BUF_FMT_ONE_SHOT 1 31, 7, 31, by decide +kernel⟩,
    ⟨setF (hubCan (some (.buffer 31))) (Pg.can 7) F.CAN_TX_REQ_REQ (2 ^ 31), 7, 31, 127, by decide +kernel⟩,
    ⟨setB (setF (hubCan (some (.buffer 31))) (Pg.can 7) F.CAN_TX_REQ_REQ (2 ^ 31)) (Pg.can 7) F.CAN_CFG_ECHO_EN true, 7, 31, 3, by decide +kernel⟩,
    ⟨setB (setF (setF (hubCan (some (.buffer 31))) (Pg.can 7) F.CAN_TX_REQ_REQ (2 ^ 31)) (Pg.can 7) F.CAN_BUF_FMT_BRS 1 31) (Pg.can 7) F.CAN_CFG_TDC_EN true, 7, 31, 128, by decide +kernel⟩,
    ⟨hubCan (some .ref), 7, by decide +kernel⟩,
    ⟨setF (hubCan none) (Pg.can 7) F.CAN_STAT_STATE 2, 7, .core, by decide +kernel⟩,
    ⟨setF (hubCan none) (Pg.can 7) F.CAN_STAT_STATE 3, 7, by decide +kernel⟩,
    ⟨setB (hubCan none) (Pg.can 7) F.CAN_TT_STAT_REF_PENDING true, 7, by decide +kernel⟩⟩

/-- States and operands that meet the hypotheses of CanSendsAndRecovers, clause by clause. -/
theorem test_meets_CanSendsAndRecovers_3 :
    (∃ (s : State), ∃ (n : Nat), ∃ j, ∃ e, (alive s = true) ∧ (n < 8) ∧ (e = (canOf s n).sched.getD j 0#32) ∧ (getB s (Pg.can n) F.CAN_CFG_TT_MASTER = true) ∧ ((canOf s n).refStarted = true) ∧ (e.getLsbD 14 = true) ∧ ((canOf s n).windows.contains j = false) ∧ (getF s (Pg.can n) F.CAN_TT_STAT_CYCLE % 2 ^ wordBits e 6 3 = wordBits e 0 6)) ∧
    (∃ (s : State), ∃ (n : Nat), ∃ j, (alive s = true) ∧ (n < 8) ∧ ((canOf s n).windows.contains j = true) ∧ (canReq s n (canSchedBuf s n j) = true) ∧ (getB s (Pg.can n) F.CAN_BUF_FMT_TT (canSchedBuf s n j) = true)) ∧
    (∃ (s : State), ∃ (n : Nat), ∃ j, (alive s = true) ∧ (n < 8) ∧ ((canOf s n).windows.contains j = true) ∧ (canTimed s n (canSchedBuf s n j) = false)) :=
    ⟨⟨setB (setCan (hubCan none) 7 { canNew with refStarted := true, sched := [0x4000#32] }) (Pg.can 7) F.CAN_CFG_TT_MASTER true, 7, 0, 0x4000#32, by decide +kernel⟩,
    ⟨setB (setF (setCan (hubCan none) 7 { canNew with sched := [0x4000#32], windows := [0] }) (Pg.can 7) F.CAN_TX_REQ_REQ 1) (Pg.can 7) F.CAN_BUF_FMT_TT true, 7, 0, by decide +kernel⟩,
    ⟨setCan (hubCan none) 7 { canNew with sched := [0x4000#32], windows := [0] }, 7, 0, by decide +kernel⟩⟩

/-- States and operands that meet the hypotheses of UsbPorts, clause by clause. -/
theorem test_meets_UsbPorts_1 :
    (∃ (s : State), ∃ (k : Nat), ∃ who, ∃ v, (alive s = true) ∧ (1 ≤ k) ∧ (k ≤ 3) ∧ (writeTaken s who Pg.usb 0x40 v = true) ∧ (v.getLsbD (k - 1) = true)) ∧
    (∃ (s : State), ∃ (k : Nat), (alive s = true) ∧ (1 ≤ k) ∧ (k ≤ 3) ∧ (s.usb.hubWake = false)) ∧
    (∃ (s : State), ∃ (k : Nat), (alive s = true) ∧ (1 ≤ k) ∧ (k ≤ 3) ∧ (usbPort s k F.USB_PORT_ENABLE = true)) ∧
    (∃ (s : State), ∃ (k : Nat), (alive s = true) ∧ (1 ≤ k) ∧ (k ≤ 3) ∧ (usbDis s k = true)) ∧
    (∃ (s : State), ∃ (k : Nat), (alive s = true) ∧ (1 ≤ k) ∧ (k ≤ 3) ∧ (usbDis s k = false) ∧ (usbPort s k F.USB_PORT_POWER = true) ∧ (s.usb.hubWake = true) ∧ (getF s Pg.usb F.USB_STAT_UP_STATE = 3)) ∧
    (∃ (s : State), ∃ (k : Nat), (alive s = true) ∧ (1 ≤ k) ∧ (k ≤ 3) ∧ (usbDis s k = false) ∧ (usbPort s k F.USB_PORT_POWER = true) ∧ (usbPort s k F.USB_PORT_CONNECT = false) ∧ (s.usb.hubWake = false)) ∧
    (∃ (s : State), ∃ (k : Nat), (alive s = true) ∧ (1 ≤ k) ∧ (k ≤ 3) ∧ (usbPort s k F.USB_PORT_CONNECT = true) ∧ (s.usb.hubWake = false)) ∧
    (∃ (s : State), ∃ (k : Nat), (alive s = true) ∧ (1 ≤ k) ∧ (k ≤ 3) ∧ (usbPort s k F.USB_PORT_CONNECT = true)) :=
    ⟨⟨hub, 3, .core, 4#32, by decide +kernel⟩,
    ⟨hub, 3, by decide +kernel⟩,
    ⟨hubUsb F.USB_PORT_ENABLE, 3, by decide +kernel⟩,
    ⟨hubF Pg.usb F.USB_CTL_PORT_DIS 4, 3, by decide +kernel⟩,
    ⟨{ setF (hubUsb F.USB_PORT_POWER) Pg.usb F.USB_STAT_UP_STATE 3 with usb := { hub.usb with hubWake := true } }, 3, by decide +kernel⟩,
    ⟨hubUsb F.USB_PORT_POWER, 3, by decide +kernel⟩,
    ⟨hubUsb F.USB_PORT_CONNECT, 3, by decide +kernel⟩,
    ⟨hubUsb F.USB_PORT_CONNECT, 3, by decide +kernel⟩⟩

/-- States and operands that meet the hypotheses of UsbPorts, clause by clause. -/
theorem test_meets_UsbPorts_2 :
    (∃ (s : State), ∃ (k : Nat), (alive s = true) ∧ (1 ≤ k) ∧ (k ≤ 3) ∧ (usbPort s 4 F.USB_PORT_CONNECT = true)) ∧
    (∃ (s : State), ∃ (k : Nat), (alive s = true) ∧ (1 ≤ k) ∧ (k ≤ 3) ∧ (s.usb.ready = false)) ∧
    (∃ (s : State), ∃ (k : Nat), (alive s = true) ∧ (1 ≤ k) ∧ (k ≤ 3) ∧ (s.usb.ready = true) ∧ (getF s Pg.usb F.USB_STAT_UP_STATE = 0)) ∧
    (∃ (s : State), ∃ (k : Nat), (alive s = true) ∧ (1 ≤ k) ∧ (k ≤ 3)) :=
    ⟨⟨setUsbPort hub 4 F.USB_PORT_CONNECT true, 3, by decide +kernel⟩,
    ⟨{ hub with usb := { hub.usb with ready := false } }, 1, by decide +kernel⟩,
    ⟨{ hub with usb := { hub.usb with ready := true } }, 1, by decide +kernel⟩,
    ⟨hub, 1, by decide +kernel⟩⟩

/-- States and operands that meet the hypotheses of UsfTransfers, clause by clause. -/
theorem test_meets_UsfTransfers_1 :
    (∃ (s : State), (alive s = true) ∧ (usfOn s = false)) ∧
    (∃ (s : State), (alive s = true) ∧ (usfOn s = true) ∧ (getB s Pg.usf F.USF_CTL_OWNER_EN = false)) ∧
    (∃ (s : State), (alive s = true) ∧ (usfOn s = true) ∧ (getB s Pg.usf F.USF_STAT_CONFIGURED = true) ∧ (getB s Pg.usf F.USF_STAT_SUSPENDED = false) ∧ (getB s Pg.usf F.USF_STAT_EP1_OUT_HALT = true)) ∧
    (∃ (s : State), ∃ d1, (alive s = true) ∧ (usfOn s = true) ∧ (getB s Pg.usf F.USF_STAT_CONFIGURED = true) ∧ (getB s Pg.usf F.USF_STAT_SUSPENDED = false) ∧ (getB s Pg.usf F.USF_STAT_EP1_OUT_HALT = false) ∧ (s.usb.togOut ≠ d1)) ∧
    (∃ (s : State), ∃ (data : List Byte), ∃ c, (alive s = true) ∧ (usfOn s = true) ∧ (getB s Pg.usf F.USF_STAT_CONFIGURED = true) ∧ (getB s Pg.usf F.USF_STAT_SUSPENDED = false) ∧ (getB s Pg.usf F.USF_STAT_EP1_OUT_HALT = false) ∧ (s.cul.ringLost = false) ∧ (s.usb.xfers = []) ∧ (s.usb.inHand = none) ∧ (16 ≤ data.length) ∧ (data.length ≤ 512) ∧ (usfBlockBad s data (decide (data.length < 512)) = some c)) ∧
    (∃ (s : State), (alive s = true) ∧ (usfOn s = true) ∧ (getB s Pg.usf F.USF_STAT_CONFIGURED = true) ∧ (getB s Pg.usf F.USF_STAT_SUSPENDED = false) ∧ (getB s Pg.usf F.USF_STAT_EP1_OUT_HALT = false) ∧ (s.cul.ringLost = true)) ∧
    (∃ (s : State), ∃ (data : List Byte), (alive s = true) ∧ (usfOn s = true) ∧ (getB s Pg.usf F.USF_STAT_CONFIGURED = true) ∧ (getB s Pg.usf F.USF_STAT_SUSPENDED = false) ∧ (getB s Pg.usf F.USF_STAT_EP1_OUT_HALT = false) ∧ (s.cul.ringLost = false) ∧ (s.usb.inHand ≠ none) ∧ (s.usb.xfers = []) ∧ (data.length ≤ 512)) ∧
    (∃ (s : State), (alive s = true) ∧ (usfOn s = true) ∧ (getB s Pg.usf F.USF_STAT_CONFIGURED = true) ∧ (getB s Pg.usf F.USF_STAT_SUSPENDED = false) ∧ (getB s Pg.usf F.USF_STAT_EP1_IN_HALT = true)) :=
    ⟨⟨hub, by decide +kernel⟩,
    ⟨hubUsf, by decide +kernel⟩,
    ⟨setB hubUsf Pg.usf F.USF_STAT_EP1_OUT_HALT true, by decide +kernel⟩,
    ⟨hubUsf, true, by decide +kernel⟩,
    ⟨hubUsf, List.replicate 16 0#8, (usfBlockBad hubUsf (List.replicate 16 0#8) true).getD 0, by decide +kernel⟩,
    ⟨{ hubUsf with cul := { hubUsf.cul with ringLost := true } }, by decide +kernel⟩,
    ⟨{ hubUsf with usb := { hubUsf.usb with inHand := some 5 } }, List.replicate 16 1#8, by decide +kernel⟩,
    ⟨setB hubUsf Pg.usf F.USF_STAT_EP1_IN_HALT true, by decide +kernel⟩⟩

/-- States and operands that meet the hypotheses of UsfTransfers, clause by clause. -/
theorem test_meets_UsfTransfers_2 :
    (∃ (s : State), ∃ r, ∃ rest, (alive s = true) ∧ (usfOn s = true) ∧ (getB s Pg.usf F.USF_STAT_CONFIGURED = true) ∧ (getB s Pg.usf F.USF_STAT_SUSPENDED = false) ∧ (getB s Pg.usf F.USF_STAT_EP1_IN_HALT = false) ∧ (s.usb.inFlight = none) ∧ (s.usb.resp = r :: rest)) ∧
    (∃ (s : State), ∃ p, ∃ b, (alive s = true) ∧ (usfOn s = true) ∧ (getB s Pg.usf F.USF_STAT_CONFIGURED = true) ∧ (getB s Pg.usf F.USF_STAT_SUSPENDED = false) ∧ (getB s Pg.usf F.USF_STAT_EP1_IN_HALT = false) ∧ (s.usb.inFlight = some (p, b))) ∧
    (∃ (s : State), (alive s = true) ∧ (usfOn s = true) ∧ (getB s Pg.usf F.USF_STAT_CONFIGURED = true) ∧ (getB s Pg.usf F.USF_STAT_SUSPENDED = false) ∧ (getB s Pg.usf F.USF_STAT_EP1_IN_HALT = false) ∧ (s.usb.inFlight = none) ∧ (s.usb.resp = []) ∧ (getB s Pg.usf F.USF_CTL_POLL_MODE = true)) ∧
    (∃ (s : State), (alive s = true) ∧ (usfOn s = true) ∧ (getB s Pg.usf F.USF_STAT_CONFIGURED = true) ∧ (getB s Pg.usf F.USF_STAT_SUSPENDED = false) ∧ (getB s Pg.usf F.USF_STAT_EP1_IN_HALT = false) ∧ (s.usb.inFlight = none) ∧ (s.usb.resp = []) ∧ (getB s Pg.usf F.USF_CTL_POLL_MODE = false)) ∧
    (∃ (s : State), ∃ p, (alive s = true) ∧ (usfOn s = true) ∧ (getB s Pg.usf F.USF_STAT_CONFIGURED = true) ∧ (getB s Pg.usf F.USF_STAT_SUSPENDED = false) ∧ (getB s Pg.usf F.USF_STAT_EP2_HALT = false) ∧ (s.usb.repFlight = some p)) ∧
    (∃ (s : State), (alive s = true) ∧ (usfOn s = true) ∧ (getB s Pg.usf F.USF_STAT_CONFIGURED = true) ∧ (getB s Pg.usf F.USF_STAT_SUSPENDED = false) ∧ (getB s Pg.usf F.USF_STAT_EP2_HALT = false) ∧ (s.usb.repFlight = none) ∧ (usfFields s ≠ s.usb.report)) ∧
    (∃ (s : State), (alive s = true) ∧ (usfOn s = true) ∧ (getB s Pg.usf F.USF_STAT_CONFIGURED = true) ∧ (getB s Pg.usf F.USF_STAT_SUSPENDED = false) ∧ (getB s Pg.usf F.USF_STAT_EP2_HALT = false) ∧ (s.usb.repFlight = none) ∧ (usfFields s = s.usb.report)) ∧
    (∃ (s : State), ∃ p, (alive s = true) ∧ (s.usb.ackDue = true) ∧ (s.usb.inFlight = some (p, true))) :=
    ⟨⟨{ hubUsf with usb := { hubUsf.usb with resp := [{ tag := 1, status := 0, cause := 0, orphan := false, seq := 0, data := [] }] } }, { tag := 1, status := 0, cause := 0, orphan := false, seq := 0, data := [] }, [], by decide +kernel⟩,
    ⟨{ hubUsf with usb := { hubUsf.usb with inFlight := some ([1#8], true) } }, [1#8], true, by decide +kernel⟩,
    ⟨setB hubUsf Pg.usf F.USF_CTL_POLL_MODE true, by decide +kernel⟩,
    ⟨setB hubUsf Pg.usf F.USF_CTL_POLL_MODE false, by decide +kernel⟩,
    ⟨{ hubUsf with usb := { hubUsf.usb with repFlight := some [1#8] } }, [1#8], by decide +kernel⟩,
    ⟨{ hubUsf with usb := { hubUsf.usb with report := [1] } }, by decide +kernel⟩,
    ⟨{ hubUsf with usb := { hubUsf.usb with report := usfFields hubUsf } }, by decide +kernel⟩,
    ⟨{ hubUsf with usb := { hubUsf.usb with inFlight := some ([1#8], true), ackDue := true } }, [1#8], by decide +kernel⟩⟩

/-- States and operands that meet the hypotheses of UsfTransfers, clause by clause. -/
theorem test_meets_UsfTransfers_3 :
    (∃ (s : State), ∃ p, (alive s = true) ∧ (s.usb.ackDue = true) ∧ (s.usb.inFlight = some (p, false))) ∧
    (∃ (s : State), ∃ p, (alive s = true) ∧ (s.usb.repDue = true) ∧ (s.usb.repFlight = some p)) ∧
    (∃ (s : State), ∃ (report : Bool), (alive s = true) ∧ ((if report then s.usb.repDue else s.usb.ackDue) = false)) :=
    ⟨⟨{ hubUsf with usb := { hubUsf.usb with inFlight := some ([1#8], false), ackDue := true } }, [1#8], by decide +kernel⟩,
    ⟨{ hubUsf with usb := { hubUsf.usb with repFlight := some [1#8], repDue := true } }, [1#8], by decide +kernel⟩,
    ⟨hubUsf, true, by decide +kernel⟩⟩

/-- States and operands that meet the hypotheses of UsbControlAndBus, clause by clause. -/
theorem test_meets_UsbControlAndBus_1 :
    (∃ (s : State), ∃ bytes, (alive s = true) ∧ (beAt bytes 0 1 = 0) ∧ (beAt bytes 1 1 = 5)) ∧
    (∃ (s : State), ∃ bytes, (alive s = true) ∧ (usfOn s = true) ∧ (s.usb.ctrl = none) ∧ (beAt bytes 0 1 = 0x41) ∧ (beAt bytes 1 1 = 1)) ∧
    (∃ (s : State), ∃ bytes, (alive s = true) ∧ (usfOn s = true) ∧ (s.usb.ctrl = none) ∧ (beAt bytes 0 1 = 0x41) ∧ (beAt bytes 1 1 ≠ 1)) ∧
    (∃ (s : State), ∃ bytes, (alive s = true) ∧ (usfOn s = true) ∧ (s.usb.ctrl = none) ∧ (beAt bytes 0 1 = 0) ∧ (beAt bytes 1 1 = 3) ∧ (leAt bytes 2 2 = 1)) ∧
    (∃ (s : State), ∃ bytes, ∃ old, (alive s = true) ∧ (usfOn s = true) ∧ (s.usb.ctrl = some old) ∧ (beAt bytes 0 1 = 0xC1) ∧ (beAt bytes 1 1 = 2)) ∧
    (∃ (s : State), ∃ st, (alive s = true) ∧ (s.usb.ctrl = some st) ∧ (beAt st 0 1 = 0x41) ∧ (beAt st 1 1 = 1) ∧ ((leAt st 2 2 < 64 → tagHolder s (640 + leAt st 2 2) = none))) ∧
    (∃ (s : State), ∃ st, ∃ fl, ∃ q, ∃ o, (alive s = true) ∧ (s.usb.ctrl = some st) ∧ (beAt st 0 1 = 0x41) ∧ (beAt st 1 1 = 1) ∧ (leAt st 2 2 < 64) ∧ (tagHolder s (640 + leAt st 2 2) = some (fl, q)) ∧ (flowValid s fl = true) ∧ (openAt (flowOf s fl) q = some o) ∧ (o.fill = none)) ∧
    (∃ (s : State), ∃ st, (alive s = true) ∧ (s.usb.ctrl = some st) ∧ (beAt st 0 1 = 0xC1) ∧ (beAt st 1 1 = 2)) :=
    ⟨⟨hub, [0#8, 5#8, 127#8, 0#8, 0#8, 0#8, 0#8, 0#8], by decide +kernel⟩,
    ⟨hubUsf, [0x41#8, 1#8, 2#8, 0#8, 0#8, 0#8, 0#8, 0#8], by decide +kernel⟩,
    ⟨hubUsf, [0x41#8, 3#8, 2#8, 0#8, 0#8, 0#8, 0#8, 0#8], by decide +kernel⟩,
    ⟨hubUsf, [0#8, 3#8, 1#8, 0#8, 0#8, 0#8, 0#8, 0#8], by decide +kernel⟩,
    ⟨{ hubUsf with usb := { hubUsf.usb with ctrl := some [0xC1#8, 2#8] } }, [0xC1#8, 2#8, 0#8, 0#8, 0#8, 0#8, 4#8, 0#8], [0xC1#8, 2#8], by decide +kernel⟩,
    ⟨{ hubUsf with usb := { hubUsf.usb with ctrl := some [0x41#8, 1#8, 2#8, 0#8, 0#8, 0#8, 0#8, 0#8] } }, [0x41#8, 1#8, 2#8, 0#8, 0#8, 0#8, 0#8, 0#8], by decide +kernel⟩,
    ⟨withFlow { hubUsf with usb := { hubUsf.usb with ctrl := some [0x41#8, 1#8, 2#8, 0#8, 0#8, 0#8, 0#8, 0#8] } } { iflowNew with nextSeq := 1, opens := [{ orec with txn := txnOf (txq 1 4) 642 }] }, [0x41#8, 1#8, 2#8, 0#8, 0#8, 0#8, 0#8, 0#8], 1, 0, { orec with txn := txnOf (txq 1 4) 642 }, by decide +kernel⟩,
    ⟨{ hubUsf with usb := { hubUsf.usb with ctrl := some [0xC1#8, 2#8, 0#8, 0#8, 0#8, 0#8, 4#8, 0#8] } }, [0xC1#8, 2#8, 0#8, 0#8, 0#8, 0#8, 4#8, 0#8], by decide +kernel⟩⟩

/-- States and operands that meet the hypotheses of UsbControlAndBus, clause by clause. -/
theorem test_meets_UsbControlAndBus_2 :
    (∃ (s : State), (alive s = true) ∧ (getF s Pg.usb F.USB_STAT_UP_STATE ≠ 0)) ∧
    (∃ (s : State), (alive s = true)) ∧
    (∃ (s : State), (alive s = true)) ∧
    (∃ (s : State), (alive s = true)) ∧
    (∃ (s : State), (alive s = true) ∧ (getF s Pg.usb F.USB_STAT_UP_STATE ≠ 0)) ∧
    (∃ (s : State), (alive s = true)) ∧
    (∃ (s : State), (alive s = true) ∧ (getF s Pg.usb F.USB_STAT_UP_STATE = 1 ∨ getF s Pg.usb F.USB_STAT_UP_STATE = 2)) ∧
    (∃ (s : State), ∃ k, (alive s = true) ∧ (1 ≤ k) ∧ (k ≤ 3) ∧ (usbPort s k F.USB_PORT_ENABLE = true)) :=
    ⟨⟨hubF Pg.usb F.USB_STAT_UP_STATE 2, by decide +kernel⟩,
    ⟨hubUsf, by decide +kernel⟩,
    ⟨hubUsf, by decide +kernel⟩,
    ⟨hubUsf, by decide +kernel⟩,
    ⟨hubF Pg.usb F.USB_STAT_UP_STATE 1, by decide +kernel⟩,
    ⟨hubUsf, by decide +kernel⟩,
    ⟨hubF Pg.usb F.USB_STAT_UP_STATE 2, by decide +kernel⟩,
    ⟨hubUsb F.USB_PORT_ENABLE, 3, by decide +kernel⟩⟩

/-- States and operands that meet the hypotheses of UsbControlAndBus, clause by clause. -/
theorem test_meets_UsbControlAndBus_3 :
    (∃ (s : State), (alive s = true) ∧ (getF s Pg.usb F.USB_STAT_UP_STATE = 3)) ∧
    (∃ (s : State), ∃ k, (alive s = true) ∧ (1 ≤ k) ∧ (k ≤ 3) ∧ (usbPort s k F.USB_PORT_SUSPEND = true)) ∧
    (∃ (s : State), (alive s = true) ∧ (getF s Pg.usb F.USB_STAT_UP_STATE = 3)) ∧
    (∃ (s : State), ∃ k, (alive s = true) ∧ (1 ≤ k) ∧ (k ≤ 3) ∧ (usbPort s k F.USB_PORT_CONNECT = true)) ∧
    (∃ (s : State), ∃ k, (alive s = true) ∧ (1 ≤ k) ∧ (k ≤ 3) ∧ (usbPort s k F.USB_PORT_SUSPEND = true)) ∧
    (∃ (s : State), (alive s = true) ∧ (getB s Pg.usf F.USF_STAT_SUSPENDED = true) ∧ (getB s Pg.usf F.USF_STAT_REMOTE_WAKE_EN = true) ∧ (getB s Pg.usf F.USF_CTL_WAKE_ON_RESP = true) ∧ (s.usb.woken = false) ∧ (s.usb.suspAt + 5000000 ≤ s.watchNs) ∧ (s.usb.resp ≠ [] ∨ usfFields s ≠ s.usb.report)) :=
    ⟨⟨hubF Pg.usb F.USB_STAT_UP_STATE 3, by decide +kernel⟩,
    ⟨hubUsb F.USB_PORT_SUSPEND, 3, by decide +kernel⟩,
    ⟨hubF Pg.usb F.USB_STAT_UP_STATE 3, by decide +kernel⟩,
    ⟨setUsbPort (hubUsb F.USB_PORT_SUSPEND) 3 F.USB_PORT_CONNECT true, 3, by decide +kernel⟩,
    ⟨hubUsb F.USB_PORT_SUSPEND, 3, by decide +kernel⟩,
    ⟨{ setB (setB (setB hubUsf Pg.usf F.USF_STAT_SUSPENDED true) Pg.usf F.USF_STAT_REMOTE_WAKE_EN true) Pg.usf F.USF_CTL_WAKE_ON_RESP true with usb := { hub.usb with report := [1] }, watchNs := 5000000 }, by refine ⟨?_, ?_, ?_, ?_, ?_, ?_, .inr (by decide +kernel)⟩ <;> decide +kernel⟩⟩

/-- States and operands that meet the hypotheses of InputsPinsAndOutputs, clause by clause. -/
theorem test_meets_InputsPinsAndOutputs_1 :
    (∃ (s : State), ∃ (p : Nat), ∃ raw, (alive s = true) ∧ (p < 192) ∧ (pinFunc s p = 1) ∧ (pinLevel s p ≠ (raw != pinInv s p)) ∧ ((diOf s p).stamp = none) ∧ ((raw != pinInv s p) ≠ (diOf s p).deb)) ∧
    (∃ (s : State), ∃ (p : Nat), ∃ raw, (alive s = true) ∧ (p < 192) ∧ (pinFunc s p = 1) ∧ (pinLevel s p ≠ (raw != pinInv s p)) ∧ ((diOf s p).stamp = none) ∧ ((raw != pinInv s p) = (diOf s p).deb)) ∧
    (∃ (s : State), ∃ (p : Nat), ∃ raw, ∃ x, (alive s = true) ∧ (p < 192) ∧ (pinFunc s p = 1) ∧ (pinLevel s p ≠ (raw != pinInv s p)) ∧ ((diOf s p).stamp = some x)) ∧
    (∃ (s : State), ∃ (p : Nat), (alive s = true) ∧ (p < 192) ∧ (pinFunc s p = 1)) ∧
    (∃ (s : State), ∃ (p : Nat), (alive s = true) ∧ (p < 192) ∧ (pinFunc s p = 1) ∧ ((diOf s p).started = false) ∧ (s.fld.permitSeen = false)) ∧
    (∃ (s : State), ∃ (p : Nat), (alive s = true) ∧ (p < 192) ∧ (pinFunc s p = 1) ∧ ((diOf s p).started = false) ∧ (s.fld.permitSeen = true) ∧ ((diOf s p).initial = false) ∧ (getF s Pg.dis F.DIS_CFG_EDGES p ≠ 0) ∧ (pageEnabled s Pg.dis = true) ∧ (soeWaiting s < 256)) ∧
    (∃ (s : State), ∃ (p : Nat), (alive s = true) ∧ (p < 192) ∧ (pinFunc s p = 1) ∧ ((diOf s p).started = true) ∧ ((diOf s p).filt ≠ (diOf s p).deb) ∧ (bankBit s Pg.dis F.DIS_LOCKED_LOCKED p = true)) ∧
    (∃ (s : State), ∃ (p : Nat), (alive s = true) ∧ (p < 192) ∧ (pinFunc s p = 1) ∧ ((diOf s p).started = true) ∧ ((diOf s p).filt ≠ (diOf s p).deb) ∧ (bankBit s Pg.dis F.DIS_LOCKED_LOCKED p = false) ∧ (getF s Pg.dis F.DIS_CFG_CHAT p = 0) ∧ (edgeCovers s p (diOf s p).filt = false)) :=
    ⟨⟨hubDi diNew, 191, true, by decide +kernel⟩,
    ⟨hubDi { diNew with deb := true }, 191, true, by decide +kernel⟩,
    ⟨hubDi { diNew with stamp := some (1, 1, false) }, 191, true, (1, 1, false), by decide +kernel⟩,
    ⟨hubDi diNew, 191, by decide +kernel⟩,
    ⟨hubDi diNew, 191, by decide +kernel⟩,
    ⟨setF (setB { hubDi diNew with fld := { (hubDi diNew).fld with permitSeen := true } } Pg.dis F.PAGE_CTL_ENABLE true) Pg.dis F.DIS_CFG_EDGES 3 191, 191, by decide +kernel⟩,
    ⟨setBank (hubDi { diNew with started := true, filt := true }) Pg.dis F.DIS_LOCKED_LOCKED 191 true, 191, by decide +kernel⟩,
    ⟨hubDi { diNew with started := true, filt := true }, 191, by decide +kernel⟩⟩

/-- States and operands that meet the hypotheses of InputsPinsAndOutputs, clause by clause. -/
theorem test_meets_InputsPinsAndOutputs_2 :
    (∃ (s : State), ∃ (p : Nat), ∃ x, (alive s = true) ∧ (p < 192) ∧ (pinFunc s p = 1) ∧ ((diOf s p).started = true) ∧ ((diOf s p).filt ≠ (diOf s p).deb) ∧ (bankBit s Pg.dis F.DIS_LOCKED_LOCKED p = false) ∧ (getF s Pg.dis F.DIS_CFG_CHAT p = 0) ∧ (edgeCovers s p (diOf s p).filt = true) ∧ (pageEnabled s Pg.dis = true) ∧ (soeWaiting s < 256) ∧ ((diOf s p).stamp = some x)) ∧
    (∃ (s : State), ∃ (p : Nat), (alive s = true) ∧ (p < 192) ∧ (pinFunc s p = 1) ∧ ((diOf s p).started = true) ∧ ((diOf s p).filt ≠ (diOf s p).deb) ∧ (bankBit s Pg.dis F.DIS_LOCKED_LOCKED p = false) ∧ (diChat s p = true) ∧ (getF s Pg.dis F.DIS_CHAT_N (getF s Pg.dis F.DIS_CFG_CHAT p - 1) ≤ (diOf s p).inWindow + 1)) ∧
    (∃ (s : State), ∃ (p : Nat), (alive s = true) ∧ (p < 192) ∧ (pinFunc s p = 1) ∧ (pinLevel s p = (diOf s p).deb)) ∧
    (∃ (s : State), ∃ (who : Agent), ∃ (p : Nat), ∃ v, (p < 192) ∧ (writeTaken s who Pg.pin (0x100 + 4 * p) v = true)) ∧
    (∃ (s : State), ∃ (who : Agent), ∃ (p : Nat), ∃ k, ∃ v, (p < 192) ∧ (k < 6) ∧ (writeTaken s who Pg.dis (0xA0 + 4 * k) v = true) ∧ ((∀ b, b < 32 → pinFunc s (32 * k + b) ≠ 2))) ∧
    (∃ (s : State), ∃ (who : Agent), ∃ (p : Nat), ∃ k, ∃ b, (p < 192) ∧ (k < 6) ∧ (b < 32) ∧ (writeTaken s who Pg.dis (0xA0 + 4 * k) (getW s Pg.dis (0xA0 + 4 * k) ^^^ BitVec.ofNat 32 (2 ^ b)) = true) ∧ (pinFunc s (32 * k + b) = 2) ∧ (edgeCovers s (32 * k + b) (!(getW s Pg.dis (0xA0 + 4 * k)).getLsbD b) = true) ∧ (pageEnabled s Pg.dis = true) ∧ (soeWaiting s < 256)) ∧
    (∃ (s : State), ∃ (who : Agent), ∃ (p : Nat), ∃ v, (p < 192) ∧ (writeTaken s who Pg.soe 0x44 v = true)) ∧
    (∃ (s : State), ∃ (p : Nat), (p < 192) ∧ (alive s = true) ∧ (bankBit s Pg.dis F.DIS_LOCKED_LOCKED p = true)) :=
    ⟨⟨setF (setB (hubDi { diNew with started := true, filt := true, stamp := some (1, 1, false) }) Pg.dis F.PAGE_CTL_ENABLE true) Pg.dis F.DIS_CFG_EDGES 3 191, 191, (1, 1, false), by decide +kernel⟩,
    ⟨setF (setF (hubDi { diNew with started := true, filt := true, inWindow := 3 }) Pg.dis F.DIS_CFG_CHAT 1 191) Pg.dis F.DIS_CHAT_N 4 0, 191, by decide +kernel⟩,
    ⟨hubDi diNew, 191, by decide +kernel⟩,
    ⟨hub, .core, 191, 1#32, by decide +kernel⟩,
    ⟨hub, .core, 191, 5, 3#32, by decide +kernel⟩,
    ⟨setF (setF (hubOn Pg.dis) Pg.pin F.PIN_CFG_FUNC 2 191) Pg.dis F.DIS_CFG_EDGES 3 191, .core, 191, 5, 31, by decide +kernel⟩,
    ⟨hub, .core, 191, 0#32, by decide +kernel⟩,
    ⟨setBank hub Pg.dis F.DIS_LOCKED_LOCKED 191 true, 191, by decide +kernel⟩⟩

/-- States and operands that meet the hypotheses of InputsPinsAndOutputs, clause by clause. -/
theorem test_meets_InputsPinsAndOutputs_3 :
    (∃ (s : State), ∃ (p : Nat), (p < 192) ∧ (alive s = true) ∧ (bankBit s Pg.dis F.DIS_LOCKED_LOCKED p = false)) ∧
    (∃ (s : State), ∃ (p : Nat), ∃ l, (p < 192) ∧ (alive s = true) ∧ ((tabGet s.fld.drive p).getD none = some l) ∧ (getB s Pg.dis F.DIS_CFG_RB_EN p = true) ∧ ((pinLevel s p != pinInv s p) ≠ l) ∧ (pageEnabled s Pg.dis = false)) ∧
    (∃ (s : State), ∃ (p : Nat), ∃ l, (p < 192) ∧ (alive s = true) ∧ ((tabGet s.fld.drive p).getD none = some l) ∧ (getB s Pg.dis F.DIS_CFG_RB_EN p = true) ∧ ((pinLevel s p != pinInv s p) ≠ l) ∧ (pageEnabled s Pg.dis = true) ∧ (soeWaiting s < 256)) :=
    ⟨⟨hub, 191, by decide +kernel⟩,
    ⟨setB (setB { hub with fld := { hub.fld with drive := [(191, some true)] } } Pg.dis F.DIS_CFG_RB_EN true 191) Pg.dis F.PAGE_CTL_ENABLE false, 191, true, by decide +kernel⟩,
    ⟨setB { hubOn Pg.dis with fld := { hub.fld with drive := [(191, some true)] } } Pg.dis F.DIS_CFG_RB_EN true 191, 191, true, by decide +kernel⟩⟩

/-- States and operands that meet the hypotheses of PowerComesUp, clause by clause. -/
theorem test_meets_PowerComesUp_1 :
    (∃ (s : State), (s.pwr.run = false)) ∧
    (∃ (s : State), (s.pwr.run = true)) ∧
    (∃ (s : State), (gateFree s = true)) ∧
    (∃ (s : State), (s.pwr.off = true) ∧ (gateFree { s with pwr := { s.pwr with off := false } } = true)) ∧
    (∃ (s : State), (s.pwr.off = true) ∧ (gateFree { s with pwr := { s.pwr with off := false } } = false)) ∧
    (∃ (s : State), (s.pwr.ov = true) ∧ (gateFree { s with pwr := { s.pwr with ov := false } } = true) ∧ (s.pwr.retryDue = false)) ∧
    (∃ (s : State), (s.pwr.tsd = true) ∧ (diesCool s = true) ∧ (gateFree { s with pwr := { s.pwr with tsd := false } } = true) ∧ (s.pwr.retryDue = false)) ∧
    (∃ (s : State), (pwrPg s = true)) :=
    ⟨⟨hubPwr { pwrOn with run := false }, by decide +kernel⟩,
    ⟨hubPwr pwrOn, by decide +kernel⟩,
    ⟨hubPwr { pwrOn with gate := false }, by decide +kernel⟩,
    ⟨hubPwr { pwrOn with gate := false, off := true }, by decide +kernel⟩,
    ⟨hubPwr { pwrOn with gate := false, off := true, ov := true }, by decide +kernel⟩,
    ⟨hubPwr { pwrOn with gate := false, ov := true }, by decide +kernel⟩,
    ⟨hubPwr { pwrOn with gate := false, tsd := true }, by decide +kernel⟩,
    ⟨setB (hubPwr pwrOn) Pg.pwr F.PWR_STAT_PG true, by decide +kernel⟩⟩

/-- States and operands that meet the hypotheses of PowerComesUp, clause by clause. -/
theorem test_meets_PowerComesUp_2 :
    (∃ (s : State), (s.pwr.run = true) ∧ (s.pwr.gate = true) ∧ (s.pwr.lim = false) ∧ (s.pwr.ov = false) ∧ (s.pwr.latched = false) ∧ (s.pwr.off = false) ∧ (pwrPg s = false)) ∧
    (∃ (s : State), (s.pwr.run = true) ∧ (s.pwr.gate = true) ∧ (s.pwr.lim = false) ∧ (s.pwr.ov = false) ∧ (s.pwr.latched = false) ∧ (s.pwr.off = false) ∧ (pwrPg s = true)) :=
    ⟨⟨setB (hubPwr pwrOn) Pg.pwr F.PWR_STAT_PG false, by decide +kernel⟩,
    ⟨setB (hubPwr pwrOn) Pg.pwr F.PWR_STAT_PG true, by decide +kernel⟩⟩

/-- States and operands that meet the hypotheses of PowerTrips, clause by clause. -/
theorem test_meets_PowerTrips :
    (∃ (s : State), (s.pwr.gate = true) ∧ (s.pwr.lim = false) ∧ (s.pwr.latched = false)) ∧
    (∃ (s : State), (s.pwr.lim = true)) ∧
    (∃ (s : State), (s.pwr.lim = true)) ∧
    (∃ (s : State), (s.pwr.gate = true)) ∧
    (∃ (s : State), (s.pwr.gate = true) ∧ (s.pwr.lim = false) ∧ (pwrPg s = false) ∧ (pwrEnhanced s = false)) ∧
    (∃ (s : State), (s.pwr.run = true) ∧ (s.pwr.ov = false)) ∧
    (∃ (s : State), (s.pwr.tsd = true) ∧ (s.pwr.gate = true)) :=
    ⟨⟨hubPwr pwrOn, by decide +kernel⟩,
    ⟨hubPwr { pwrOn with lim := true }, by decide +kernel⟩,
    ⟨hubPwr { pwrOn with lim := true }, by decide +kernel⟩,
    ⟨hubPwr pwrOn, by decide +kernel⟩,
    ⟨setB (setB (hubPwr pwrOn) Pg.pwr F.PWR_STAT_PG false) Pg.pwr F.PWR_STAT_ENHANCED false, by decide +kernel⟩,
    ⟨hubPwr pwrOn, by decide +kernel⟩,
    ⟨hubPwr { pwrOn with tsd := true }, by decide +kernel⟩⟩

/-- States and operands that meet the hypotheses of PowerWarnsAndMeasures, clause by clause. -/
theorem test_meets_PowerWarnsAndMeasures_1 :
    (∃ (s : State), (s.pwr.gate = true) ∧ (s.pwr.lim = false) ∧ (pwrEnhanced s = false)) ∧
    (∃ (s : State), (s.pwr.run = true) ∧ (s.pwr.gate = false) ∧ (getB s Pg.pwr F.PWR_CFG_DS_RUN = true) ∧ (s.pwr.ov = false) ∧ (s.pwr.tsd = false) ∧ (s.pwr.latched = false)) ∧
    (∃ (s : State), (s.pwr.run = true) ∧ (s.pwr.gate = false) ∧ (getB s Pg.pwr F.PWR_CFG_DS_RUN = false)) ∧
    (∃ (s : State), (s.pwr.run = true) ∧ (pwrPfw s = false)) ∧
    (∃ (s : State), (s.pwr.run = true) ∧ (pwrPfw s = true)) ∧
    (∃ (s : State), (s.pwr.run = true) ∧ (pwrPfw s = true) ∧ (pfwCause { s with pwr := { s.pwr with low := false } } = false)) ∧
    (∃ (s : State), (alive s = true) ∧ (getF s Pg.chs F.CHS_STAT_CKPT = 3)) ∧
    (∃ (s : State), ∃ who, ∃ v, (writeTaken s who Pg.pwr 0x5C v = true) ∧ (v.getLsbD 0 = true) ∧ (s.pwr.otp = none)) :=
    ⟨⟨setB (hubPwr pwrOn) Pg.pwr F.PWR_STAT_ENHANCED false, by decide +kernel⟩,
    ⟨setB (hubPwr { pwrOn with gate := false }) Pg.pwr F.PWR_CFG_DS_RUN true, by decide +kernel⟩,
    ⟨setB (hubPwr { pwrOn with gate := false }) Pg.pwr F.PWR_CFG_DS_RUN false, by decide +kernel⟩,
    ⟨setB (hubPwr pwrOn) Pg.pwr F.PWR_STAT_PFW false, by decide +kernel⟩,
    ⟨setB (hubPwr pwrOn) Pg.pwr F.PWR_STAT_PFW true, by decide +kernel⟩,
    ⟨setB (setB (hubPwr { pwrOn with low := true }) Pg.pwr F.PWR_STAT_PG true) Pg.pwr F.PWR_STAT_PFW true, by decide +kernel⟩,
    ⟨hubF Pg.chs F.CHS_STAT_CKPT 3, by decide +kernel⟩,
    ⟨hub, .core, 1#32, by decide +kernel⟩⟩

/-- States and operands that meet the hypotheses of PowerWarnsAndMeasures, clause by clause. -/
theorem test_meets_PowerWarnsAndMeasures_2 :
    (∃ (s : State), ∃ who, ∃ v, (writeReaches s who Pg.pwr 0x5C = true) ∧ (lockAllows s Pg.pwr 0x5C v = true) ∧ (v = 1#32) ∧ (s.pwr.otp ≠ none)) ∧
    (∃ (s : State), ∃ (values : List Nat), (s.pwr.run = true) ∧ (s.pwr.hotRing = true) ∧ (s.pwr.tsd = false) ∧ (2000 ≤ values.getD 9 0 % 4096)) ∧
    (∃ (s : State), (s.pwr.run = true)) :=
    ⟨⟨{ hub with pwr := { hub.pwr with otp := some (0#32, 0#32, 0#32, 0#32) } }, .core, 1#32, by decide +kernel⟩,
    ⟨hubPwr { pwrOn with hotRing := true, tsd := false }, List.replicate 12 2000, by decide +kernel⟩,
    ⟨hubPwr pwrOn, by decide +kernel⟩⟩

/-- States and operands that meet the hypotheses of LeaseAtTheMember, clause by clause. -/
theorem test_meets_LeaseAtTheMember_1 :
    (∃ (s : State), (alive s = true) ∧ (pairRole s = 2 ∨ pairRole s = 5) ∧ (mirrorOn s = false) ∧ (nodeEnt s false (witnessHop s) = none)) ∧
    (∃ (s : State), ∃ e, ∃ f, (alive s = true) ∧ (pairRole s = 2 ∨ pairRole s = 5) ∧ (mirrorOn s = false) ∧ (nodeEnt s false (witnessHop s) = some e) ∧ (f = leaseFrame s e.mac (witnessRoute s) (memberLease s 3 (memberFlags s + 4) 0)) ∧ (hasRoom s f 7 [.e, .w] = true)) ∧
    (∃ (s : State), ∃ (p : Port), (alive s = true) ∧ (pairRole s = 2 ∨ pairRole s = 5) ∧ (mirrorOn s = true) ∧ (mirrorPort s = some p) ∧ (nodeEnt s false (witnessHop s) = none)) ∧
    (∃ (s : State), (alive s = true) ∧ (pairRole s = 2 ∨ pairRole s = 5)) ∧
    (∃ (s : State), ∃ e, ∃ f, (alive s = true) ∧ (pairRole s = 3 ∨ pairRole s = 4 ∨ (pairRole s = 1 ∧ getB s Pg.par F.PAR_CTL_PREFERRED = true)) ∧ (watchOk s = true) ∧ (culvertOk s = true) ∧ (journalOk s = true) ∧ (s.pair.promise = none) ∧ (partnerServes s = false) ∧ (nodeEnt s false (witnessHop s) = some e) ∧ (f = leaseFrame s e.mac (witnessRoute s) (memberLease s 1 (memberFlags s) 0)) ∧ (hasRoom s f 7 [.e, .w] = true)) ∧
    (∃ (s : State), (alive s = true) ∧ (s.pair.promise ≠ none)) ∧
    (∃ (s : State), (alive s = true)) ∧
    (∃ (s : State), ∃ (p : Port), ∃ f, ∃ k, ∃ l, ∃ t, (alive s = true) ∧ (takeLease s [2] = some ((p, f, k, l), t)) ∧ (leaseMatches s l = true) ∧ (pairRole s = 2 ∨ pairRole s = 5)) :=
    ⟨⟨hubRole 2, by decide +kernel, .inl (by decide +kernel), by decide +kernel⟩,
    ⟨hubWn 2, nent, wnF (hubWn 2) 3 (memberFlags (hubWn 2) + 4) 0, by decide +kernel, .inl (by decide +kernel), by decide +kernel⟩,
    ⟨setF (hubMir 2) Pg.mir F.MIR_STAT_STATE 3, .c1, by decide +kernel, .inl (by decide +kernel), by decide +kernel⟩,
    ⟨hubRole 5, by decide +kernel⟩,
    ⟨hubRq 4, nent, wnF (hubRq 4) 1 (memberFlags (hubRq 4)) 0, by decide +kernel⟩,
    ⟨{ hubRole 4 with pair := { hub.pair with promise := some 5 } }, by decide +kernel⟩,
    ⟨hub, by decide +kernel⟩,
    ⟨leaseIn (hubRole 2) (lse 2 0), .e, kf (hubRole 2) (kv tyLease 0 0 32) (leaseBytes (lse 2 0)), kv tyLease 0 0 32, lse 2 0, hubRole 2, by decide +kernel⟩⟩

/-- States and operands that meet the hypotheses of LeaseAtTheMember, clause by clause. -/
theorem test_meets_LeaseAtTheMember_2 :
    (∃ (s : State), ∃ (p : Port), ∃ f, ∃ k, ∃ l, ∃ t, (alive s = true) ∧ (takeLease s [2] = some ((p, f, k, l), t)) ∧ (leaseMatches s l = true) ∧ (pairRole s = 1 ∨ pairRole s = 4)) ∧
    (∃ (s : State), ∃ (p : Port), ∃ f, ∃ k, ∃ l, ∃ t, (alive s = true) ∧ (takeLease s [2] = some ((p, f, k, l), t)) ∧ (leaseMatches s l = true) ∧ (pairRole s = 3)) ∧
    (∃ (s : State), ∃ (p : Port), ∃ f, ∃ k, ∃ l, ∃ t, (alive s = true) ∧ (takeLease s [2] = some ((p, f, k, l), t)) ∧ (leaseMatches s l = false) ∧ (leaseHanded s l = true)) ∧
    (∃ (s : State), ∃ (p : Port), ∃ f, ∃ k, ∃ l, ∃ t, (alive s = true) ∧ (takeLease s [2] = some ((p, f, k, l), t)) ∧ (leaseMatches s l = false) ∧ (leaseHanded s l = false)) ∧
    (∃ (s : State), ∃ (p : Port), ∃ f, ∃ k, ∃ l, ∃ t, (alive s = true) ∧ (takeLease s [4] = some ((p, f, k, l), t)) ∧ (leaseMatches s l = true) ∧ (pairRole s = 2 ∨ pairRole s = 5)) ∧
    (∃ (s : State), ∃ (p : Port), ∃ f, ∃ k, ∃ l, ∃ t, (alive s = true) ∧ (takeLease s [4] = some ((p, f, k, l), t)) ∧ (leaseMatches s l = false)) ∧
    (∃ (s : State), ∃ (p : Port), ∃ f, ∃ k, ∃ l, ∃ t, (alive s = true) ∧ (takeLease s [5] = some ((p, f, k, l), t)) ∧ (leaseMatches s l = true)) ∧
    (∃ (s : State), ∃ (p : Port), ∃ f, ∃ k, ∃ l, ∃ t, (alive s = true) ∧ (takeLease s [5] = some ((p, f, k, l), t)) ∧ (leaseMatches s l = false)) :=
    ⟨⟨leaseIn (hubRole 4) (lse 2 0), .e, kf (hubRole 4) (kv tyLease 0 0 32) (leaseBytes (lse 2 0)), kv tyLease 0 0 32, lse 2 0, hubRole 4, by decide +kernel⟩,
    ⟨leaseIn (hubRole 3) (lse 2 0), .e, kf (hubRole 3) (kv tyLease 0 0 32) (leaseBytes (lse 2 0)), kv tyLease 0 0 32, lse 2 0, hubRole 3, by decide +kernel⟩,
    ⟨leaseIn (hubRole 3) lhd, .e, kf (hubRole 3) (kv tyLease 0 0 32) (leaseBytes lhd), kv tyLease 0 0 32, lhd, hubRole 3, by decide +kernel⟩,
    ⟨leaseIn (hubRole 4) (lse 2 9), .e, kf (hubRole 4) (kv tyLease 0 0 32) (leaseBytes (lse 2 9)), kv tyLease 0 0 32, lse 2 9, hubRole 4, by decide +kernel⟩,
    ⟨leaseIn (hubRole 5) (lse 4 0), .e, kf (hubRole 5) (kv tyLease 0 0 32) (leaseBytes (lse 4 0)), kv tyLease 0 0 32, lse 4 0, hubRole 5, by decide +kernel⟩,
    ⟨leaseIn (hubRole 5) (lse 4 9), .e, kf (hubRole 5) (kv tyLease 0 0 32) (leaseBytes (lse 4 9)), kv tyLease 0 0 32, lse 4 9, hubRole 5, by decide +kernel⟩,
    ⟨leaseIn (hubRole 4) (lse 5 0), .e, kf (hubRole 4) (kv tyLease 0 0 32) (leaseBytes (lse 5 0)), kv tyLease 0 0 32, lse 5 0, hubRole 4, by decide +kernel⟩,
    ⟨leaseIn (hubRole 4) (lse 5 9), .e, kf (hubRole 4) (kv tyLease 0 0 32) (leaseBytes (lse 5 9)), kv tyLease 0 0 32, lse 5 9, hubRole 4, by decide +kernel⟩⟩

/-- States and operands that meet the hypotheses of WitnessServes, clause by clause. -/
theorem test_meets_WitnessServes_1 :
    (∃ (s : State), ∃ p, ∃ f, ∃ k, ∃ l, ∃ t, (alive s = true) ∧ (takeLease s [1] = some ((p, f, k, l), t)) ∧ (getB s Pg.par F.PAR_CTL_WITNESS_EN = false)) ∧
    (∃ (s : State), ∃ p, ∃ f, ∃ k, ∃ l, ∃ t, (alive s = true) ∧ (takeLease s [1] = some ((p, f, k, l), t)) ∧ (getB s Pg.par F.PAR_CTL_WITNESS_EN = true) ∧ (takeLocal t (fun _ f k => k.type == tyLease && (leaseParse (kvlBody f.payload k)).kind == 3 && (leaseParse (kvlBody f.payload k)).pairMac == l.pairMac) = none) ∧ (s.pair.startHold = true)) ∧
    (∃ (s : State), ∃ p, ∃ f, ∃ k, ∃ l, ∃ t, ∃ i, ∃ w, (alive s = true) ∧ (takeLease s [1] = some ((p, f, k, l), t)) ∧ (getB s Pg.par F.PAR_CTL_WITNESS_EN = true) ∧ (takeLocal t (fun _ f k => k.type == tyLease && (leaseParse (kvlBody f.payload k)).kind == 3 && (leaseParse (kvlBody f.payload k)).pairMac == l.pairMac) = none) ∧ (s.pair.startHold = false) ∧ (watchOk s = true) ∧ (witFind s l.pairMac = some (i, some w)) ∧ (w.held = true) ∧ (w.holder ≠ f.smac)) ∧
    (∃ (s : State), ∃ p, ∃ f, ∃ k, ∃ l, ∃ t, ∃ i, ∃ w, (alive s = true) ∧ (takeLease s [1] = some ((p, f, k, l), t)) ∧ (getB s Pg.par F.PAR_CTL_WITNESS_EN = true) ∧ (takeLocal t (fun _ f k => k.type == tyLease && (leaseParse (kvlBody f.payload k)).kind == 3 && (leaseParse (kvlBody f.payload k)).pairMac == l.pairMac) = none) ∧ (s.pair.startHold = false) ∧ (watchOk s = true) ∧ (witFind s l.pairMac = some (i, some w)) ∧ (w.held = false ∨ w.holder = f.smac)) ∧
    (∃ (s : State), ∃ p, ∃ f, ∃ k, ∃ l, ∃ t, ∃ i, (alive s = true) ∧ (takeLease s [1] = some ((p, f, k, l), t)) ∧ (getB s Pg.par F.PAR_CTL_WITNESS_EN = true) ∧ (takeLocal t (fun _ f k => k.type == tyLease && (leaseParse (kvlBody f.payload k)).kind == 3 && (leaseParse (kvlBody f.payload k)).pairMac == l.pairMac) = none) ∧ (s.pair.startHold = false) ∧ (watchOk s = true) ∧ (witFind s l.pairMac = some (i, none))) ∧
    (∃ (s : State), ∃ p, ∃ f, ∃ k, ∃ l, ∃ t, ∃ i, ∃ w, (alive s = true) ∧ (takeLease s [3] = some ((p, f, k, l), t)) ∧ (getB s Pg.par F.PAR_CTL_WITNESS_EN = true) ∧ (witFind s l.pairMac = some (i, some w)) ∧ (w.holder ≠ f.smac)) ∧
    (∃ (s : State), ∃ p, ∃ f, ∃ k, ∃ l, ∃ t, ∃ i, ∃ w, (alive s = true) ∧ (takeLease s [3] = some ((p, f, k, l), t)) ∧ (getB s Pg.par F.PAR_CTL_WITNESS_EN = true) ∧ (witFind s l.pairMac = some (i, some w)) ∧ (w.holder = f.smac) ∧ (w.held = true)) ∧
    (∃ (s : State), ∃ p, ∃ f, ∃ k, ∃ l, ∃ t, ∃ i, ∃ w, (alive s = true) ∧ (takeLease s [6] = some ((p, f, k, l), t)) ∧ (getB s Pg.par F.PAR_CTL_WITNESS_EN = true) ∧ (witFind s l.pairMac = some (i, some w)) ∧ (w.holder = f.smac) ∧ (w.held = true) ∧ (l.flags.testBit 3 = false) ∧ (w.pend = none)) :=
    ⟨⟨leaseIn (setB hub Pg.par F.PAR_CTL_WITNESS_EN false) (lse 1 1), .e, kf hub (kv tyLease 0 0 32) (leaseBytes (lse 1 1)), kv tyLease 0 0 32, lse 1 1, setB hub Pg.par F.PAR_CTL_WITNESS_EN false, by decide +kernel⟩,
    ⟨leaseIn (setB hub Pg.par F.PAR_CTL_WITNESS_EN true) (lse 1 1), .e, kf hub (kv tyLease 0 0 32) (leaseBytes (lse 1 1)), kv tyLease 0 0 32, lse 1 1, setB hub Pg.par F.PAR_CTL_WITNESS_EN true, by decide +kernel⟩,
    ⟨leaseIn (hubWit wsl) (lse 1 1), .e, kf hub (kv tyLease 0 0 32) (leaseBytes (lse 1 1)), kv tyLease 0 0 32, lse 1 1, hubWit wsl, 15, wsl, by decide +kernel⟩,
    ⟨leaseIn (hubWit { wsl with held := false }) (lse 1 1), .e, kf hub (kv tyLease 0 0 32) (leaseBytes (lse 1 1)), kv tyLease 0 0 32, lse 1 1, hubWit { wsl with held := false }, 15, { wsl with held := false }, by decide +kernel⟩,
    ⟨leaseIn (hubWit { wsl with pairMac := 77 }) (lse 1 1), .e, kf hub (kv tyLease 0 0 32) (leaseBytes (lse 1 1)), kv tyLease 0 0 32, lse 1 1, hubWit { wsl with pairMac := 77 }, 0, by decide +kernel⟩,
    ⟨leaseIn (hubWit wsl) (lse 3 1), .e, kf hub (kv tyLease 0 0 32) (leaseBytes (lse 3 1)), kv tyLease 0 0 32, lse 3 1, hubWit wsl, 15, wsl, by decide +kernel⟩,
    ⟨leaseIn (hubWit { wsl with holder := 0x020000000002 }) (lse 3 1), .e, kf hub (kv tyLease 0 0 32) (leaseBytes (lse 3 1)), kv tyLease 0 0 32, lse 3 1, hubWit { wsl with holder := 0x020000000002 }, 15, { wsl with holder := 0x020000000002 }, by decide +kernel⟩,
    ⟨leaseIn (hubWit { wsl with holder := 0x020000000002 }) (lse 6 1), .e, kf hub (kv tyLease 0 0 32) (leaseBytes (lse 6 1)), kv tyLease 0 0 32, lse 6 1, hubWit { wsl with holder := 0x020000000002 }, 15, { wsl with holder := 0x020000000002 }, by decide +kernel⟩⟩

/-- States and operands that meet the hypotheses of WitnessServes, clause by clause. -/
theorem test_meets_WitnessServes_2 :
    (∃ (s : State), ∃ p, ∃ f, ∃ k, ∃ l, ∃ t, ∃ i, ∃ w, (alive s = true) ∧ (takeLease s [6] = some ((p, f, k, l), t)) ∧ (getB s Pg.par F.PAR_CTL_WITNESS_EN = true) ∧ (witFind s l.pairMac = some (i, some w)) ∧ (w.holder = f.smac) ∧ (w.held = true) ∧ (l.flags.testBit 3 = true)) ∧
    (∃ (s : State), ∃ i, ∃ w, (alive s = true) ∧ (witOf s i = some w) ∧ (w.held = true) ∧ (takeLocal s (fun _ f k => k.type == tyLease && (leaseParse (kvlBody f.payload k)).kind == 6 && (leaseParse (kvlBody f.payload k)).pairMac == w.pairMac) = none) ∧ (w.pend = none)) ∧
    (∃ (s : State), ∃ i, ∃ w, ∃ q, (alive s = true) ∧ (witOf s i = some w) ∧ (w.held = true) ∧ (takeLocal s (fun _ f k => k.type == tyLease && (leaseParse (kvlBody f.payload k)).kind == 6 && (leaseParse (kvlBody f.payload k)).pairMac == w.pairMac) = none) ∧ (w.pend = some q)) ∧
    (∃ (s : State), ∃ i, ∃ w, (alive s = true) ∧ (witOf s i = some w) ∧ (w.held = false) ∧ (w.pend = none)) ∧
    (∃ (s : State), (alive s = true)) :=
    ⟨⟨leaseIn (hubWit { wsl with holder := 0x020000000002 }) { lse 6 1 with flags := 8, successor := 9 }, .e, kf hub (kv tyLease 0 0 32) (leaseBytes { lse 6 1 with flags := 8, successor := 9 }), kv tyLease 0 0 32, { lse 6 1 with flags := 8, successor := 9 }, hubWit { wsl with holder := 0x020000000002 }, 15, { wsl with holder := 0x020000000002 }, by decide +kernel⟩,
    ⟨hubWit wsl, 15, wsl, by decide +kernel⟩,
    ⟨hubWit { wsl with pend := some (witReq hub (kf hub (kv tyLease 0 0 32) []) (kv tyLease 0 0 32) (lse 1 1)) }, 15, { wsl with pend := some (witReq hub (kf hub (kv tyLease 0 0 32) []) (kv tyLease 0 0 32) (lse 1 1)) }, witReq hub (kf hub (kv tyLease 0 0 32) []) (kv tyLease 0 0 32) (lse 1 1), by decide +kernel⟩,
    ⟨hubWit { wsl with held := false }, 15, { wsl with held := false }, by decide +kernel⟩,
    ⟨hub, by decide +kernel⟩⟩

/-- States and operands that meet the hypotheses of MirrorLink, clause by clause. -/
theorem test_meets_MirrorLink_1 :
    (∃ (s : State), ∃ (p : Port), (alive s = true) ∧ (pairRole s ≠ 0) ∧ (mirrorPort s = some p) ∧ (hasRoom s (mirrorFrame s p false) 4 [p] = true)) ∧
    (∃ (s : State), ∃ (p : Port), ∃ f, ∃ k, (alive s = true) ∧ (pairRole s ≠ 0) ∧ (mirrorPort s = some p) ∧ (f.fcs = .good) ∧ (frameLen f ≤ 9216) ∧ (f.hsr ≠ none) ∧ (ingressShut s p = false) ∧ (isHello s f = false) ∧ (frameKvl s f = some k) ∧ (k.type = tyMirror) ∧ (verOk s k = true) ∧ (bodyOk k f = true) ∧ ((f.dmac = ownMac s → dstServed s false k = true)) ∧ (beAt (kvlBody f.payload k) 6 1 < 16) ∧ (beAt (kvlBody f.payload k) 7 1 = 0) ∧ (beAt (kvlBody f.payload k) 14 2 = 0) ∧ (beAt (kvlBody f.payload k) 16 4 ≠ pairCrc s) ∧ (mirRecsParse (kvlBody f.payload k).length ((kvlBody f.payload k).drop 20) = some [])) ∧
    (∃ (s : State), ∃ (p : Port), ∃ f, ∃ k, (alive s = true) ∧ (pairRole s ≠ 0) ∧ (mirrorPort s = some p) ∧ (f.fcs = .good) ∧ (frameLen f ≤ 9216) ∧ (f.hsr ≠ none) ∧ (ingressShut s p = false) ∧ (isHello s f = false) ∧ (frameKvl s f = some k) ∧ (k.type = tyMirror) ∧ (verOk s k = true) ∧ (bodyOk k f = true) ∧ ((f.dmac = ownMac s → dstServed s false k = true)) ∧ (beAt (kvlBody f.payload k) 6 1 < 16) ∧ (beAt (kvlBody f.payload k) 7 1 = 0) ∧ (beAt (kvlBody f.payload k) 14 2 = 0) ∧ (beAt (kvlBody f.payload k) 16 4 = pairCrc s) ∧ (mirRecsParse (kvlBody f.payload k).length ((kvlBody f.payload k).drop 20) = some [])) ∧
    (∃ (s : State), ∃ (p : Port), ∃ f, ∃ k, ∃ ecc, ∃ r, (alive s = true) ∧ (pairRole s ≠ 0) ∧ (mirrorPort s = some p) ∧ (f.fcs = .good) ∧ (frameLen f ≤ 9216) ∧ (f.hsr ≠ none) ∧ (ingressShut s p = false) ∧ (isHello s f = false) ∧ (frameKvl s f = some k) ∧ (k.type = tyMirror) ∧ (verOk s k = true) ∧ (bodyOk k f = true) ∧ ((f.dmac = ownMac s → dstServed s false k = true)) ∧ (beAt (kvlBody f.payload k) 6 1 < 16) ∧ (beAt (kvlBody f.payload k) 7 1 = 0) ∧ (beAt (kvlBody f.payload k) 14 2 = 0) ∧ (beAt (kvlBody f.payload k) 16 4 = pairCrc s) ∧ (mirRecsParse (kvlBody f.payload k).length ((kvlBody f.payload k).drop 20) = some [r]) ∧ (pairRole s = 3) ∧ (mirState s = 3) ∧ (ecc = false) ∧ (r.kind = 2) ∧ (r.msn = s.pair.logNext)) ∧
    (∃ (s : State), ∃ (p : Port), ∃ f, ∃ k, ∃ ecc, ∃ r, (alive s = true) ∧ (pairRole s ≠ 0) ∧ (mirrorPort s = some p) ∧ (f.fcs = .good) ∧ (frameLen f ≤ 9216) ∧ (f.hsr ≠ none) ∧ (ingressShut s p = false) ∧ (isHello s f = false) ∧ (frameKvl s f = some k) ∧ (k.type = tyMirror) ∧ (verOk s k = true) ∧ (bodyOk k f = true) ∧ ((f.dmac = ownMac s → dstServed s false k = true)) ∧ (beAt (kvlBody f.payload k) 6 1 < 16) ∧ (beAt (kvlBody f.payload k) 7 1 = 0) ∧ (beAt (kvlBody f.payload k) 14 2 = 0) ∧ (beAt (kvlBody f.payload k) 16 4 = pairCrc s) ∧ (mirRecsParse (kvlBody f.payload k).length ((kvlBody f.payload k).drop 20) = some [r]) ∧ (pairRole s = 3) ∧ (mirState s = 3) ∧ (ecc = false) ∧ (s.pair.logNext ≠ 2 ^ 32) ∧ (r.msn ≠ s.pair.logNext)) ∧
    (∃ (s : State), (alive s = true) ∧ (pairRole s ≠ 0) ∧ (1 ≤ mirState s) ∧ (mirState s ≤ 3)) ∧
    (∃ (s : State), (alive s = true) ∧ (mirState s = 2) ∧ (pairRole s = 3 ∨ mirAcked s s.pair.copyEnd = true)) ∧
    (∃ (s : State), (alive s = true) ∧ (mirroring s = true)) :=
    ⟨⟨hubMt 2, .c1, by decide +kernel⟩,
    ⟨hubMir 3, .c1, kf (hubMir 3) (kv tyMirror 0 0 20) (List.replicate 20 0#8), kv tyMirror 0 0 20, by decide +kernel⟩,
    ⟨hubMir 3, .c1, kf (hubMir 3) (kv tyMirror 0 0 20) (mirBody (hubMir 3) []), kv tyMirror 0 0 20, by decide +kernel⟩,
    ⟨hubSt 7, .c1, kf (hubSt 7) (kv tyMirror 0 0 36) (mirBody (hubSt 7) [mrc]), kv tyMirror 0 0 36, false, mrc, by decide +kernel⟩,
    ⟨hubSt 6, .c1, kf (hubSt 6) (kv tyMirror 0 0 36) (mirBody (hubSt 6) [mrc]), kv tyMirror 0 0 36, false, mrc, by decide +kernel⟩,
    ⟨setF (hubMir 3) Pg.mir F.MIR_STAT_STATE 3, by decide +kernel⟩,
    ⟨setF (hubMir 3) Pg.mir F.MIR_STAT_STATE 2, by decide +kernel⟩,
    ⟨setF (hubMir 2) Pg.mir F.MIR_STAT_STATE 3, by decide +kernel⟩⟩

/-- States and operands that meet the hypotheses of MirrorLink, clause by clause. -/
theorem test_meets_MirrorLink_2 :
    (∃ (s : State), (alive s = true) ∧ (mirroring s = true)) :=
    ⟨setF (hubMir 2) Pg.mir F.MIR_STAT_STATE 2, by decide +kernel⟩

/-- States and operands that meet the hypotheses of HandoverAndProving, clause by clause. -/
theorem test_meets_HandoverAndProving_1 :
    (∃ (s : State), ∃ who, (alive s = true) ∧ (writeTaken s who Pg.par 0x60 1#32 = true) ∧ (pairRole s = 2) ∧ (mirState s = 3)) ∧
    (∃ (s : State), (alive s = true) ∧ (pairRole s = 5) ∧ (s.pair.pfw = true)) ∧
    (∃ (s : State), ∃ e, ∃ f, (alive s = true) ∧ (pairRole s = 5) ∧ (s.pair.pfw = false) ∧ (allAcked (fieldNotes s) = true) ∧ (pairIdle (fieldNotes s) = true) ∧ (serQuiet (fieldNotes s) = true) ∧ (nodeEnt s false (witnessHop s) = some e) ∧ (f = leaseFrame s e.mac (witnessRoute s) (memberLease s 6 8 s.pair.partnerMac)) ∧ (hasRoom s f 7 [.e, .w] = true)) ∧
    (∃ (s : State), (alive s = true) ∧ (pairRole s = 5) ∧ (s.pair.pfw = false) ∧ (serQuiet (fieldNotes s) = false)) ∧
    (∃ (s : State), (alive s = true) ∧ (pairRole s = 3) ∧ (getB s Pg.par F.PAR_CTL_REVERT = true) ∧ (getB s Pg.par F.PAR_CTL_PREFERRED = true) ∧ (mirState s = 3) ∧ (ownHealthy s = true) ∧ (mirrorPort s = none)) ∧
    (∃ (s : State), ∃ p, ∃ f, (alive s = true) ∧ (pairRole s = 3) ∧ (getB s Pg.par F.PAR_CTL_REVERT = true) ∧ (getB s Pg.par F.PAR_CTL_PREFERRED = true) ∧ (mirState s = 3) ∧ (ownHealthy s = true) ∧ (mirrorPort s = some p) ∧ (f = mirrorFrame { s with pair := { s.pair with handReq := true } } p false) ∧ (hasRoom s f 4 [p] = true)) ∧
    (∃ (s : State), ∃ who, (alive s = true) ∧ (writeTaken s who Pg.par 0x60 2#32 = true) ∧ (pairRole s = 3) ∧ (s.test.pass = none)) ∧
    (∃ (s : State), (alive s = true) ∧ (pairRole s = 3) ∧ (s.test.pass = none)) :=
    ⟨⟨setF (hubMir 2) Pg.mir F.MIR_STAT_STATE 3, .core, by decide +kernel⟩,
    ⟨{ hubRole 5 with pair := { hub.pair with pfw := true } }, by decide +kernel⟩,
    ⟨hubWn 5, nent, wnF (hubWn 5) 6 8 (hubWn 5).pair.partnerMac, by decide +kernel⟩,
    ⟨setSer (hubRole 5) 3 { serNew with inChar := some true }, by decide +kernel⟩,
    ⟨hubWell, by decide +kernel⟩,
    ⟨setF (setF (setF (setF hubWell (portPage .c1) F.PORT_CFG_ROLE 3) (portPage .c1) F.PORT_STAT_LINK 2) (portPage .c1) F.PORT_STAT_HELLO 1) (portPage .c1) F.PORT_CFG_MODE 1, .c1, mirrorFrame { setF (setF (setF (setF hubWell (portPage .c1) F.PORT_CFG_ROLE 3) (portPage .c1) F.PORT_STAT_LINK 2) (portPage .c1) F.PORT_STAT_HELLO 1) (portPage .c1) F.PORT_CFG_MODE 1 with pair := { hubWell.pair with handReq := true } } .c1 false, by decide +kernel⟩,
    ⟨hubRole 3, .core, by decide +kernel⟩,
    ⟨hubRole 3, by decide +kernel⟩⟩

/-- States and operands that meet the hypotheses of HandoverAndProving, clause by clause. -/
theorem test_meets_HandoverAndProving_2 :
    (∃ (s : State), ∃ who, (alive s = true) ∧ (writeTaken s who Pg.par 0x60 2#32 = true) ∧ (mirroring s = true)) ∧
    (∃ (s : State), (alive s = true) ∧ (s.pair.proving = true)) ∧
    (∃ (s : State), ∃ g, (alive s = true) ∧ (pairRole s = 2) ∧ (pairMac s ≠ ownMac s) ∧ (g = { pairFrame s with hsr := some { path := 0, seq := s.pair.hsr } }) ∧ (hasRoom s g 7 [.e, .w] = true)) :=
    ⟨⟨setF (hubMir 2) Pg.mir F.MIR_STAT_STATE 3, .core, by decide +kernel⟩,
    ⟨{ hubRole 3 with pair := { hub.pair with proving := true } }, by decide +kernel⟩,
    ⟨hubAnn, { pairFrame hubAnn with hsr := some { path := 0, seq := hubAnn.pair.hsr } }, by decide +kernel⟩⟩

/-- States and operands that meet the hypotheses of StartUpSteps, clause by clause. -/
theorem test_meets_StartUpSteps_1 :
    (∃ (s : State), (s.start.inReset = false)) ∧
    (∃ (s : State), (s.start.inReset = true) ∧ (s.pwr.run = true)) ∧
    (∃ (s : State), (alive s = true) ∧ (getB s Pg.rst F.RST_STAT_STOPPED = false) ∧ (getB s Pg.rst F.RST_STAT_SAFE = false) ∧ (getF s Pg.rst F.RST_STAT_STEP = 4)) ∧
    (∃ (s : State), (alive s = true) ∧ (getB s Pg.rst F.RST_STAT_STOPPED = false) ∧ (getB s Pg.rst F.RST_STAT_SAFE = false) ∧ (getF s Pg.rst F.RST_STAT_STEP = 4)) ∧
    (∃ (s : State), (alive s = true) ∧ (getB s Pg.rst F.RST_STAT_STOPPED = false) ∧ (getB s Pg.rst F.RST_STAT_SAFE = false) ∧ (getF s Pg.rst F.RST_STAT_STEP = 5) ∧ (culUp s = true)) ∧
    (∃ (s : State), (alive s = true) ∧ (getB s Pg.rst F.RST_STAT_STOPPED = false) ∧ (getB s Pg.rst F.RST_STAT_SAFE = false) ∧ (getF s Pg.rst F.RST_STAT_STEP = 5) ∧ (culState s = 4)) ∧
    (∃ (s : State), ∃ (errs : List ChestErr), (alive s = true) ∧ (getB s Pg.rst F.RST_STAT_STOPPED = false) ∧ (getB s Pg.rst F.RST_STAT_SAFE = false) ∧ (getF s Pg.rst F.RST_STAT_STEP = 6) ∧ (epochRead s errs = none)) ∧
    (∃ (s : State), (alive s = true) ∧ (getB s Pg.rst F.RST_STAT_STOPPED = false) ∧ (getB s Pg.rst F.RST_STAT_SAFE = false) ∧ (getF s Pg.rst F.RST_STAT_STEP = 9)) :=
    ⟨⟨hub, by decide +kernel⟩,
    ⟨{ hub with start := { hub.start with inReset := true }, pwr := pwrOn }, by decide +kernel⟩,
    ⟨hubStep 4, by decide +kernel⟩,
    ⟨hubStep 4, by decide +kernel⟩,
    ⟨setF (hubStep 5) Pg.cul F.CUL_STAT_STATE 2, by decide +kernel⟩,
    ⟨setF (hubStep 5) Pg.cul F.CUL_STAT_STATE 4, by decide +kernel⟩,
    ⟨hubStart 6 fun t => { t with epoch := 0 }, [{ addr := 0, ecc := false, hit := .epoch 0 }], by decide +kernel⟩,
    ⟨hubStep 9, by decide +kernel⟩⟩

/-- States and operands that meet the hypotheses of StartUpSteps, clause by clause. -/
theorem test_meets_StartUpSteps_2 :
    (∃ (s : State), (alive s = true) ∧ (getB s Pg.rst F.RST_STAT_STOPPED = false) ∧ (getB s Pg.rst F.RST_STAT_SAFE = false) ∧ (getF s Pg.rst F.RST_STAT_STEP = 10 ∨ getF s Pg.rst F.RST_STAT_STEP = 11)) ∧
    (∃ (s : State), (alive s = true) ∧ (getB s Pg.rst F.RST_STAT_STOPPED = false) ∧ (getB s Pg.rst F.RST_STAT_SAFE = false) ∧ (getF s Pg.rst F.RST_STAT_STEP = 12)) ∧
    (∃ (s : State), (alive s = true) ∧ (getB s Pg.rst F.RST_STAT_STOPPED = false) ∧ (getB s Pg.rst F.RST_STAT_SAFE = false) ∧ (getF s Pg.rst F.RST_STAT_STEP = 6) ∧ (getB s Pg.pwr F.PWR_STAT_GATE_CYCLED = true) ∧ (getF s Pg.chs F.CHS_STAT_CKPT ≠ 1 ∨ s.start.ckpt = none)) ∧
    (∃ (s : State), (alive s = true) ∧ (getB s Pg.rst F.RST_STAT_STOPPED = false) ∧ (getB s Pg.rst F.RST_STAT_SAFE = false) ∧ (getF s Pg.rst F.RST_STAT_STEP = 6) ∧ (getB s Pg.pwr F.PWR_STAT_GATE_CYCLED = true) ∧ (getF s Pg.chs F.CHS_STAT_CKPT = 1) ∧ (s.start.ckpt ≠ none)) ∧
    (∃ (s : State), (alive s = true) ∧ (getB s Pg.rst F.RST_STAT_STOPPED = false) ∧ (getB s Pg.rst F.RST_STAT_SAFE = false) ∧ (getF s Pg.rst F.RST_STAT_STEP = 6) ∧ (getB s Pg.pwr F.PWR_STAT_GATE_CYCLED = false)) ∧
    (∃ (s : State), ∃ r, (alive s = true) ∧ (getB s Pg.rst F.RST_STAT_STOPPED = false) ∧ (getB s Pg.rst F.RST_STAT_SAFE = false) ∧ (getF s Pg.rst F.RST_STAT_STEP = 6) ∧ (s.start.commits.getLast? = some r) ∧ (r.trial = true) ∧ (r.started = true)) ∧
    (∃ (s : State), ∃ (ws : List DrawerWord), (alive s = true) ∧ (getB s Pg.rst F.RST_STAT_STOPPED = false) ∧ (getB s Pg.rst F.RST_STAT_SAFE = false) ∧ (getF s Pg.rst F.RST_STAT_STEP = 7) ∧ (drawerCheck (cleared s) (activeSet s) (getF s Pg.rst F.RST_STAT_PROF) false = .ok ws)) ∧
    (∃ (s : State), ∃ e, (alive s = true) ∧ (getB s Pg.rst F.RST_STAT_STOPPED = false) ∧ (getB s Pg.rst F.RST_STAT_SAFE = false) ∧ (getF s Pg.rst F.RST_STAT_STEP = 7) ∧ (drawerCheck (cleared s) (activeSet s) (getF s Pg.rst F.RST_STAT_PROF) false = .error e)) :=
    ⟨⟨hubStep 11, by decide +kernel, by decide +kernel, by decide +kernel, .inr (by decide +kernel)⟩,
    ⟨setB (hubStep 12) Pg.par F.PAR_CTL_EN true, by decide +kernel⟩,
    ⟨setB (hubStart 6 fun t => { t with epoch := 0xFFFFFFFF, ckpt := none }) Pg.pwr F.PWR_STAT_GATE_CYCLED true, by refine ⟨?_, ?_, ?_, ?_, ?_, .inr (by decide +kernel)⟩ <;> decide +kernel⟩,
    ⟨setF (setB (hubStart 6 fun t => { t with ckpt := some fimg }) Pg.pwr F.PWR_STAT_GATE_CYCLED true) Pg.chs F.CHS_STAT_CKPT 1, by decide +kernel⟩,
    ⟨setB (hubStep 6) Pg.pwr F.PWR_STAT_GATE_CYCLED false, by decide +kernel⟩,
    ⟨hubStart 6 fun t => { t with commits := [cmt] }, cmt, by decide +kernel⟩,
    ⟨drawerPut (hubStep 7) 0 0 0 drw0, [], by decide +kernel⟩,
    ⟨hubStep 7, (8, 0, 0), by decide +kernel⟩⟩

/-- States and operands that meet the hypotheses of StartUpSteps, clause by clause. -/
theorem test_meets_StartUpSteps_3 :
    (∃ (s : State), (alive s = true) ∧ (getB s Pg.rst F.RST_STAT_STOPPED = false) ∧ (getB s Pg.rst F.RST_STAT_SAFE = false) ∧ (getF s Pg.rst F.RST_STAT_STEP = 8) ∧ (s.start.commits = [])) ∧
    (∃ (s : State), ∃ r, (alive s = true) ∧ (getB s Pg.rst F.RST_STAT_STOPPED = false) ∧ (getB s Pg.rst F.RST_STAT_SAFE = false) ∧ (getF s Pg.rst F.RST_STAT_STEP = 8) ∧ (s.start.commits.getLast? = some r)) ∧
    (∃ (s : State), (alive s = true) ∧ (getB s Pg.rst F.RST_STAT_STOPPED = false) ∧ (getB s Pg.rst F.RST_STAT_SAFE = false) ∧ (getF s Pg.rst F.RST_STAT_STEP = 9) ∧ (getF s Pg.rst F.RST_STAT_KIND = 0)) ∧
    (∃ (s : State), ∃ img, (alive s = true) ∧ (getB s Pg.rst F.RST_STAT_STOPPED = false) ∧ (getB s Pg.rst F.RST_STAT_SAFE = false) ∧ (getF s Pg.rst F.RST_STAT_STEP = 9) ∧ (getF s Pg.rst F.RST_STAT_KIND = 1) ∧ (s.start.journal = some img)) ∧
    (∃ (s : State), ∃ img, (alive s = true) ∧ (getB s Pg.rst F.RST_STAT_STOPPED = false) ∧ (getB s Pg.rst F.RST_STAT_SAFE = false) ∧ (getF s Pg.rst F.RST_STAT_STEP = 9) ∧ (getF s Pg.rst F.RST_STAT_KIND = 3) ∧ (s.start.ckpt = some img)) ∧
    (∃ (s : State), (alive s = true) ∧ (getF s Pg.rst F.RST_STAT_STEP = 13) ∧ (s.start.service = false) ∧ (getB s Pg.rst F.RST_STAT_STOPPED = false) ∧ (pwrPfw s = true)) ∧
    (∃ (s : State), (alive s = true) ∧ (getF s Pg.rst F.RST_STAT_STEP = 13) ∧ (s.start.service = false) ∧ (getB s Pg.rst F.RST_STAT_STOPPED = false) ∧ (pwrPfw s = false) ∧ (getF s Pg.rst F.RST_STAT_KIND ≠ 2)) ∧
    (∃ (s : State), (alive s = true) ∧ (getF s Pg.rst F.RST_STAT_STEP = 13) ∧ (s.start.service = false) ∧ (getB s Pg.rst F.RST_STAT_STOPPED = false) ∧ (pwrPfw s = false) ∧ (getF s Pg.rst F.RST_STAT_KIND = 2)) :=
    ⟨⟨hubStep 8, by decide +kernel⟩,
    ⟨hubStart 8 fun t => { t with commits := [cmt] }, cmt, by decide +kernel⟩,
    ⟨setF (hubStart 9 fun t => { t with limits := [(3, 65536)] }) Pg.rst F.RST_STAT_KIND 0, by decide +kernel⟩,
    ⟨setF (hubStart 9 fun t => { t with journal := some fimg }) Pg.rst F.RST_STAT_KIND 1, fimg, by decide +kernel⟩,
    ⟨setF (hubStart 9 fun t => { t with ckpt := some fimg }) Pg.rst F.RST_STAT_KIND 3, fimg, by decide +kernel⟩,
    ⟨setB (hubStart 13 fun t => { t with service := false }) Pg.pwr F.PWR_STAT_PFW true, by decide +kernel⟩,
    ⟨{ hubStart 13 fun t => { t with service := false } with pwr := pwrOn }, by decide +kernel⟩,
    ⟨{ setF (hubStart 13 fun t => { t with service := false }) Pg.rst F.RST_STAT_KIND 2 with pwr := pwrOn }, by decide +kernel⟩⟩

/-- States and operands that meet the hypotheses of DrawersSwitch, clause by clause. -/
theorem test_meets_DrawersSwitch_1 :
    (∃ (s : State), ∃ who, ∃ v, (writeTaken s who Pg.gen 0xE0 v = true) ∧ (wordBits v 0 16 = 0xA5C3)) ∧
    (∃ (s : State), ∃ who, ∃ v, (writeTaken s who Pg.drw 0x44 v = true) ∧ (v.getLsbD 2 = true) ∧ (getF s Pg.drw F.DRW_STAT_PHASE = 0) ∧ (getF s Pg.fwu F.FWU_STAT_STATE ≠ 4)) ∧
    (∃ (s : State), ∃ who, ∃ v, (writeTaken s who Pg.drw 0x44 v = true) ∧ (v.getLsbD 2 = true) ∧ (getF s Pg.drw F.DRW_STAT_PHASE ≠ 0 ∨ getF s Pg.fwu F.FWU_STAT_STATE = 4)) ∧
    (∃ (s : State), ∃ who, ∃ v, (writeTaken s who Pg.drw 0x44 v = true) ∧ (v.getLsbD 2 = false) ∧ (v.getLsbD 3 = true) ∧ (getF s Pg.drw F.DRW_STAT_PHASE = 0) ∧ (getF s Pg.fwu F.FWU_STAT_STATE ≠ 4)) ∧
    (∃ (s : State), ∃ who, ∃ v, (writeTaken s who Pg.drw 0x44 v = true) ∧ (v.getLsbD 2 = false) ∧ (v.getLsbD 3 = true) ∧ (getF s Pg.drw F.DRW_STAT_PHASE ≠ 0 ∨ getF s Pg.fwu F.FWU_STAT_STATE = 4)) ∧
    (∃ (s : State), ∃ j, ∃ e, (alive s = true) ∧ (s.start.job = some j) ∧ (j.fwu = 0) ∧ (getF s Pg.drw F.DRW_STAT_PHASE = 1) ∧ (drawerCheck (cleared s) j.set j.drawer false = .error e)) ∧
    (∃ (s : State), ∃ j, ∃ (ws : List DrawerWord), (alive s = true) ∧ (s.start.job = some j) ∧ (j.fwu = 0) ∧ (getF s Pg.drw F.DRW_STAT_PHASE = 1) ∧ (drawerCheck (cleared s) j.set j.drawer false = .ok ws) ∧ (getB s Pg.par F.PAR_CTL_EN = false)) ∧
    (∃ (s : State), ∃ j, ∃ (ws : List DrawerWord), (alive s = true) ∧ (s.start.job = some j) ∧ (j.fwu = 0) ∧ (getF s Pg.drw F.DRW_STAT_PHASE = 2) ∧ (switchIdle s j = true) ∧ (culUp s = true) ∧ (drawerCheck (cleared s) j.set j.drawer false = .ok ws) ∧ (switchSent (cleared s) j (switchChanges (cleared s) ws) = true)) :=
    ⟨⟨hub, .core, 0xA5C3#32, by decide +kernel⟩,
    ⟨hubF Pg.drw F.LOCK_LOCKED 0, .core, 6#32, by decide +kernel⟩,
    ⟨setF (hubF Pg.drw F.LOCK_LOCKED 0) Pg.drw F.DRW_STAT_PHASE 4, .core, 6#32, by decide +kernel, by decide +kernel, .inl (by decide +kernel)⟩,
    ⟨hubF Pg.drw F.LOCK_LOCKED 0, .core, 11#32, by decide +kernel⟩,
    ⟨setF (hubF Pg.drw F.LOCK_LOCKED 0) Pg.fwu F.FWU_STAT_STATE 4, .core, 11#32, by decide +kernel, by decide +kernel, by decide +kernel, .inr (by decide +kernel)⟩,
    ⟨hubSw 1, swj, (8, 0, 0), by decide +kernel⟩,
    ⟨drawerPut (hubSw 1) 0 0 0 drw0, swj, [], by decide +kernel⟩,
    ⟨hubDrw, swj, [], by decide +kernel⟩⟩

/-- States and operands that meet the hypotheses of DrawersSwitch, clause by clause. -/
theorem test_meets_DrawersSwitch_2 :
    (∃ (s : State), ∃ j, ∃ (ws : List DrawerWord), (alive s = true) ∧ (s.start.job = some j) ∧ (j.fwu = 0) ∧ (getF s Pg.drw F.DRW_STAT_PHASE = 2) ∧ (switchIdle s j = true) ∧ (culUp s = true) ∧ (drawerCheck (cleared s) j.set j.drawer false = .ok ws) ∧ (j.sent = none) ∧ (switchSent (cleared s) j (switchChanges (cleared s) ws) = false)) ∧
    (∃ (s : State), ∃ j, (alive s = true) ∧ (s.start.job = some j) ∧ (j.fwu = 0) ∧ (getF s Pg.drw F.DRW_STAT_PHASE = 2) ∧ (j.sent = none)) ∧
    (∃ (s : State), (alive s = true) ∧ (getF s Pg.drw F.DRW_STAT_PHASE = 4)) :=
    ⟨⟨hubDrwM, swj, [], by decide +kernel⟩,
    ⟨hubSw 2, swj, by decide +kernel⟩,
    ⟨hubF Pg.drw F.DRW_STAT_PHASE 4, by decide +kernel⟩⟩

/-- States and operands that meet the hypotheses of FirmwareStages, clause by clause. -/
theorem test_meets_FirmwareStages_1 :
    (∃ (s : State), ∃ (who : Agent), ∃ (push : Bool), ∃ v, (v = (if push then 9#32 else 1#32)) ∧ (writeTaken s who Pg.fwu 0x44 v = true) ∧ (stageRefusal s push = none)) ∧
    (∃ (s : State), ∃ (who : Agent), ∃ (push : Bool), ∃ v, ∃ c, (v = (if push then 9#32 else 1#32)) ∧ (writeTaken s who Pg.fwu 0x44 v = true) ∧ (stageRefusal s push = some c)) ∧
    (∃ (s : State), ∃ (who : Agent), ∃ v, (writeTaken s who Pg.fwu 0x80 v = true) ∧ (s.fwu.job = 2) ∧ (getF s Pg.fwu F.FWU_STAT_STATE = 1)) ∧
    (∃ (s : State), ∃ (who : Agent), ∃ v, (writeTaken s who Pg.fwu 0x80 v = true) ∧ (s.fwu.job ≠ 2 ∨ getF s Pg.fwu F.FWU_STAT_STATE ≠ 1)) ∧
    (∃ (s : State), ∃ (who : Agent), ∃ v, (writeTaken s who Pg.fwu 0x88 v = true) ∧ (v.getLsbD 0 = true) ∧ (s.fwu.job = 2) ∧ (getF s Pg.fwu F.FWU_STAT_STATE = 1)) ∧
    (∃ (s : State), ∃ (who : Agent), ∃ v, (writeTaken s who Pg.fwu 0x88 v = true) ∧ (v.getLsbD 0 = true) ∧ (s.fwu.job ≠ 2 ∨ getF s Pg.fwu F.FWU_STAT_STATE ≠ 1)) ∧
    (∃ (s : State), (alive s = true) ∧ (s.fwu.job = 1 ∨ (s.fwu.job = 2 ∧ getF s Pg.fwu F.FWU_STAT_STATE = 2))) ∧
    (∃ (s : State), ∃ i, (alive s = true) ∧ (s.fwu.job = 1 ∨ (s.fwu.job = 2 ∧ getF s Pg.fwu F.FWU_STAT_STATE = 2)) ∧ ((blocksOf ((stageSource s).length / 4096) (stageSource s)).findIdx? (fun b => !blockOk b) = some i)) :=
    ⟨⟨setB (hubPwr pwrOn) Pg.pwr F.PWR_STAT_HOLDUP_OK true, .core, true, 9#32, by decide +kernel⟩,
    ⟨hub, .core, true, 9#32, 0x42, by decide +kernel⟩,
    ⟨hubFwu 2 1, .core, 5#32, by decide +kernel⟩,
    ⟨hubFwu 2 2, .core, 5#32, by decide +kernel, .inr (by decide +kernel)⟩,
    ⟨hubFwu 2 1, .core, 1#32, by decide +kernel⟩,
    ⟨hubFwu 1 1, .core, 1#32, by decide +kernel, by decide +kernel, .inl (by decide +kernel)⟩,
    ⟨hubFwu 1 1, by decide +kernel, .inl (by decide +kernel)⟩,
    ⟨hubPush badBlock, 0, by decide +kernel, .inr (by decide +kernel), hubPush_bad⟩⟩

/-- States and operands that meet the hypotheses of FirmwareStages, clause by clause. -/
theorem test_meets_FirmwareStages_2 :
    (∃ (s : State), (alive s = true) ∧ (s.fwu.job = 1 ∨ (s.fwu.job = 2 ∧ getF s Pg.fwu F.FWU_STAT_STATE = 2)) ∧ ((∀ x ∈ blocksOf ((stageSource s).length / 4096) (stageSource s), blockOk x = true))) ∧
    (∃ (s : State), (alive s = true) ∧ (s.fwu.job = 1 ∨ (s.fwu.job = 2 ∧ getF s Pg.fwu F.FWU_STAT_STATE = 2)) ∧ ((∀ x ∈ blocksOf ((stageSource s).length / 4096) (stageSource s), blockOk x = true)) ∧ ((stageSource s).length % 4096 ≠ 0)) ∧
    (∃ (s : State), ∃ (b : List Byte), (alive s = true) ∧ (s.fwu.job = 1 ∨ (s.fwu.job = 2 ∧ getF s Pg.fwu F.FWU_STAT_STATE = 2)) ∧ ((∀ x ∈ blocksOf ((stageSource s).length / 4096) (stageSource s), blockOk x = true)) ∧ ((stageSource s).length % 4096 = 0) ∧ (b = (blocksOf ((stageSource s).length / 4096) (stageSource s)).flatMap (fun x => x.take 4092))) ∧
    (∃ (s : State), ∃ (who : Agent), (writeTaken s who Pg.fwu 0x44 4#32 = true) ∧ (s.fwu.job = 1 ∨ s.fwu.job = 2)) ∧
    (∃ (s : State), ∃ (who : Agent), ∃ j, (writeTaken s who Pg.fwu 0x44 4#32 = true) ∧ (s.fwu.job = 3) ∧ (s.start.job = some j) ∧ (j.fwu = 1)) ∧
    (∃ (s : State), ∃ (who : Agent), (writeTaken s who Pg.fwu 0x44 4#32 = true) ∧ (s.fwu.job = 0)) :=
    ⟨⟨hubFwu 1 1, by decide +kernel, .inl (by decide +kernel), by decide +kernel⟩,
    ⟨hubPush [1#8], by decide +kernel, .inr (by decide +kernel), by decide +kernel⟩,
    ⟨hubFwu 2 2, [], by decide +kernel, .inr (by decide +kernel), by decide +kernel⟩,
    ⟨hubFwu 2 1, .core, by decide +kernel, .inr (by decide +kernel)⟩,
    ⟨{ hubFwu 3 4 with start := { hub.start with job := some { swj with fwu := 1 } } }, .core, { swj with fwu := 1 }, by decide +kernel⟩,
    ⟨hubFwu 0 3, .core, by decide +kernel⟩⟩

/-- States and operands that meet the hypotheses of FirmwareTrials, clause by clause. -/
theorem test_meets_FirmwareTrials_1 :
    (∃ (s : State), ∃ who, ∃ c, (writeTaken s who Pg.fwu 0x44 2#32 = true) ∧ (activateRefusal s = some c)) ∧
    (∃ (s : State), ∃ who, (writeTaken s who Pg.fwu 0x44 2#32 = true) ∧ (activateRefusal s = none) ∧ (getB s Pg.fwu F.FWU_STAT_CODE_SAME = true) ∧ (getF s Pg.drw F.DRW_STAT_PHASE = 0)) ∧
    (∃ (s : State), ∃ who, (writeTaken s who Pg.fwu 0x44 2#32 = true) ∧ (activateRefusal s = none) ∧ (getB s Pg.fwu F.FWU_STAT_CODE_SAME = true) ∧ (getF s Pg.drw F.DRW_STAT_PHASE ≠ 0)) ∧
    (∃ (s : State), ∃ who, (writeTaken s who Pg.fwu 0x44 2#32 = true) ∧ (activateRefusal s = none) ∧ (getB s Pg.fwu F.FWU_STAT_CODE_SAME = false) ∧ (s.pwr.run = true)) ∧
    (∃ (s : State), ∃ v, (writeTaken s .host Pg.fwu 0x74 v = true) ∧ (v.getLsbD 0 = true) ∧ (getF s Pg.fwu F.FWU_STAT_STATE = 5)) ∧
    (∃ (s : State), ∃ v, (writeTaken s .host Pg.fwu 0x74 v = true) ∧ (v.getLsbD 0 = true) ∧ (getF s Pg.fwu F.FWU_STAT_STATE ≠ 5)) ∧
    (∃ (s : State), ∃ v, (writeTaken s .core Pg.fwu 0x70 v = true) ∧ (wordBits v 0 16 = 0xC0F1) ∧ (getF s Pg.fwu F.FWU_STAT_STATE = 5) ∧ (fallingBack s = false) ∧ (getB s Pg.fwu F.FWU_CTL_HOST_GATE = false ∨ s.fwu.approved = true)) ∧
    (∃ (s : State), ∃ v, (writeTaken s .core Pg.fwu 0x70 v = true) ∧ (wordBits v 0 16 ≠ 0xC0F1 ∨ getF s Pg.fwu F.FWU_STAT_STATE ≠ 5 ∨ (getB s Pg.fwu F.FWU_CTL_HOST_GATE = true ∧ s.fwu.approved = false))) :=
    ⟨⟨hub, .core, (activateRefusal hub).getD 0, by decide +kernel⟩,
    ⟨setB hubAct Pg.fwu F.FWU_STAT_CODE_SAME true, .core, by decide +kernel⟩,
    ⟨setF (setB hubAct Pg.fwu F.FWU_STAT_CODE_SAME true) Pg.drw F.DRW_STAT_PHASE 4, .core, by decide +kernel⟩,
    ⟨hubAct, .core, by decide +kernel⟩,
    ⟨hubFwu 0 5, 1#32, by decide +kernel⟩,
    ⟨hubFwu 0 3, 1#32, by decide +kernel⟩,
    ⟨hubFwu 0 5, 0xC0F1#32, by refine ⟨?_, ?_, ?_, ?_, .inl (by decide +kernel)⟩ <;> decide +kernel⟩,
    ⟨hubFwu 0 5, 0xC0F2#32, by decide +kernel, .inl (by decide +kernel)⟩⟩

/-- States and operands that meet the hypotheses of FirmwareTrials, clause by clause. -/
theorem test_meets_FirmwareTrials_2 :
    (∃ (s : State), (alive s = true) ∧ (getF s Pg.fwu F.FWU_STAT_STATE = 5) ∧ (fallingBack s = false) ∧ (s.fwu.hitless = true) ∧ (getF s Pg.drw F.DRW_STAT_PHASE = 0)) ∧
    (∃ (s : State), (alive s = true) ∧ (getF s Pg.fwu F.FWU_STAT_STATE = 5) ∧ (fallingBack s = false) ∧ (s.fwu.hitless = true) ∧ (getF s Pg.drw F.DRW_STAT_PHASE ≠ 0)) ∧
    (∃ (s : State), (alive s = true) ∧ (getF s Pg.fwu F.FWU_STAT_STATE = 5) ∧ (fallingBack s = false) ∧ (s.fwu.hitless = false) ∧ (s.pwr.run = true)) ∧
    (∃ (s : State), (alive s = true) ∧ (s.fwu.soakBad = true) ∧ (getF s Pg.drw F.DRW_STAT_PHASE = 0)) ∧
    (∃ (s : State), (alive s = true) ∧ (s.fwu.soakBad = true) ∧ (getF s Pg.drw F.DRW_STAT_PHASE ≠ 0)) :=
    ⟨⟨{ hubFwu 0 5 with fwu := { hub.fwu with hitless := true } }, by decide +kernel⟩,
    ⟨{ setF (hubFwu 0 5) Pg.drw F.DRW_STAT_PHASE 4 with fwu := { hub.fwu with hitless := true } }, by decide +kernel⟩,
    ⟨{ hubFwu 0 5 with pwr := pwrOn }, by decide +kernel⟩,
    ⟨{ hub with fwu := { hub.fwu with soakBad := true } }, by decide +kernel⟩,
    ⟨{ hubF Pg.drw F.DRW_STAT_PHASE 2 with fwu := { hub.fwu with soakBad := true } }, by decide +kernel⟩⟩

/-- States and operands that meet the hypotheses of OwnerCommands, clause by clause. -/
theorem test_meets_OwnerCommands :
    (∃ (s : State), ∃ (who : Agent), ∃ (sig : List Byte), ∃ arg, (writeTaken (ownerFill s 1 arg sig []) who Pg.fwu 0xCC 1#32 = true) ∧ (ownerOk (ownerFill s 1 arg sig []) = true) ∧ (pageAssigned arg = true)) ∧
    (∃ (s : State), ∃ (who : Agent), ∃ (sig : List Byte), ∃ arg, (writeTaken (ownerFill s 1 arg sig []) who Pg.fwu 0xCC 1#32 = true) ∧ (ownerOk (ownerFill s 1 arg sig []) = false)) ∧
    (∃ (s : State), ∃ (who : Agent), ∃ (sig : List Byte), (writeTaken (ownerFill s 2 0 sig []) who Pg.fwu 0xCC 1#32 = true) ∧ (ownerOk (ownerFill s 2 0 sig []) = true)) ∧
    (∃ (s : State), ∃ (who : Agent), ∃ (sig : List Byte), (writeTaken (ownerFill s 2 0 sig []) who Pg.fwu 0xCC 1#32 = true) ∧ (ownerOk (ownerFill s 2 0 sig []) = false)) ∧
    (∃ (s : State), ∃ (who : Agent), ∃ (sig : List Byte), (writeTaken (ownerFill s 3 0 sig []) who Pg.fwu 0xCC 1#32 = true) ∧ (ownerOk (ownerFill s 3 0 sig []) = true)) ∧
    (∃ (s : State), ∃ (who : Agent), ∃ (sig : List Byte), (writeTaken (ownerFill s 3 0 sig []) who Pg.fwu 0xCC 1#32 = true) ∧ (ownerOk (ownerFill s 3 0 sig []) = false)) ∧
    (∃ (s : State), ∃ (who : Agent), ∃ (sig : List Byte), ∃ key, (writeTaken (ownerFill s 4 0 sig key) who Pg.fwu 0xCC 1#32 = true) ∧ (ownerOk (ownerFill s 4 0 sig key) = true) ∧ (key.length = 32)) ∧
    (∃ (s : State), ∃ (who : Agent), ∃ (sig : List Byte), ∃ key, (writeTaken (ownerFill s 4 0 sig key) who Pg.fwu 0xCC 1#32 = true) ∧ (ownerOk (ownerFill s 4 0 sig key) = false)) :=
    ⟨⟨hubOwn, .core, neutralSig, Pg.prt, by decide +kernel, ownerOk_neutral _ (by decide +kernel) (by decide +kernel) (by decide +kernel) (by decide +kernel), by decide +kernel⟩,
    ⟨hub, .core, [], Pg.prt, by decide +kernel⟩,
    ⟨hubOwn, .core, neutralSig, by decide +kernel, ownerOk_neutral _ (by decide +kernel) (by decide +kernel) (by decide +kernel) (by decide +kernel)⟩,
    ⟨hub, .core, [], by decide +kernel⟩,
    ⟨hubOwn, .core, neutralSig, by decide +kernel, ownerOk_neutral _ (by decide +kernel) (by decide +kernel) (by decide +kernel) (by decide +kernel)⟩,
    ⟨hub, .core, [], by decide +kernel⟩,
    ⟨hub, .core, neutralSig, neutralKey, by decide +kernel, ownerOk_enroll _ (by decide +kernel) (by decide +kernel) (by decide +kernel) (by decide +kernel), by decide +kernel⟩,
    ⟨hubOwn, .core, List.replicate 64 255#8, [], by decide +kernel⟩⟩

/-- States and operands that meet the hypotheses of SelfTestsAndTestAccess, clause by clause. -/
theorem test_meets_SelfTestsAndTestAccess_1 :
    (∃ (s : State), ∃ who, (writeTaken s who Pg.bst 0x44 1#32 = true) ∧ (s.test.pass = none)) ∧
    (∃ (s : State), ∃ who, (writeTaken s who Pg.bst 0x44 1#32 = true) ∧ (s.test.pass ≠ none)) ∧
    (∃ (s : State), (alive s = true) ∧ (getF s Pg.bst F.BST_CTL_PERIOD_MIN ≠ 0) ∧ (s.test.pass = none)) ∧
    (∃ (s : State), ∃ x, (alive s = true) ∧ (s.test.pass = some x)) ∧
    (∃ (s : State), ∃ x, ∃ c, (alive s = true) ∧ (s.test.pass = some x) ∧ ((getF s Pg.bst F.BST_CTL_EN).testBit 0 = true) ∧ (testMayRun s 0 0 = true) ∧ ((cellsHeld s).contains c = false)) ∧
    (∃ (s : State), ∃ who, ∃ v, (writeTaken s who Pg.bst 0x48 v = true) ∧ (wordBits v 0 16 = 0x5E1F) ∧ (offlineBad s = false)) ∧
    (∃ (s : State), ∃ who, ∃ v, (writeTaken s who Pg.bst 0x48 v = true) ∧ (wordBits v 0 16 = 0x5E1F) ∧ (offlineBad s = true)) ∧
    (∃ (s : State), ∃ who, ∃ v, (writeTaken s who Pg.bst 0x48 v = true) ∧ (wordBits v 0 16 ≠ 0x5E1F)) :=
    ⟨⟨hub, .core, by decide +kernel⟩,
    ⟨{ hub with test := { hub.test with pass := some false } }, .core, by decide +kernel⟩,
    ⟨hubF Pg.bst F.BST_CTL_PERIOD_MIN 1, by decide +kernel⟩,
    ⟨{ hub with test := { hub.test with pass := some false } }, false, by decide +kernel⟩,
    ⟨{ hubF Pg.bst F.BST_CTL_EN 1 with test := { hub.test with pass := some false } }, false, 77, by decide +kernel⟩,
    ⟨hub, .core, 0x5E1F#32, by decide +kernel⟩,
    ⟨hubF Pg.drw F.DRW_STAT_PHASE 1, .core, 0x5E1F#32, by decide +kernel⟩,
    ⟨hub, .core, 0#32, by decide +kernel⟩⟩

/-- States and operands that meet the hypotheses of SelfTestsAndTestAccess, clause by clause. -/
theorem test_meets_SelfTestsAndTestAccess_2 :
    (∃ (s : State), (s.test.offline = true) ∧ (s.start.inReset = false) ∧ (s.pwr.run = true) ∧ (getB s Pg.pwr F.PWR_STAT_GATE_CYCLED = false)) ∧
    (∃ (s : State), ∃ who, ∃ r, ∃ rest, (accReaches s who Pg.bst 0x70 = true) ∧ (s.test.flog = r :: rest)) ∧
    (∃ (s : State), ∃ who, (accReaches s who Pg.bst 0x70 = true) ∧ (s.test.flog = [])) ∧
    (∃ (s : State), ∃ (who : Agent), (writeTaken s who Pg.prt 0x44 0x7E57#32 = true) ∧ (testUnlocked s = false) ∧ (getB s Pg.prt F.PRT_CTL_ALLOW = true)) ∧
    (∃ (s : State), ∃ (who : Agent), (writeTaken s who Pg.prt 0x44 0x7E57#32 = true) ∧ (testUnlocked s = false) ∧ (getB s Pg.prt F.PRT_CTL_ALLOW = false)) ∧
    (∃ (s : State), ∃ (who : Agent), (writeTaken s who Pg.prt 0x44 0#32 = true) ∧ (testUnlocked s = true)) ∧
    (∃ (s : State), (alive s = true) ∧ (testUnlocked s = true)) ∧
    (∃ (s : State), ∃ (who : Agent), ∃ p, ∃ v, (writeReaches s who p 0x24 = true) ∧ (testUnlocked s = true) ∧ (v &&& ~~~(BitVec.ofNat 32 (perturbMask p)) = 0#32)) :=
    ⟨⟨setB { hub with test := { hub.test with offline := true }, pwr := pwrOn } Pg.pwr F.PWR_STAT_GATE_CYCLED false, by decide +kernel⟩,
    ⟨{ hub with test := { hub.test with flog := [{ kind := 1, injected := false, cls := 0, page := 0, stamp := 7, sec := 8, detail := 9 }] } }, .core, { kind := 1, injected := false, cls := 0, page := 0, stamp := 7, sec := 8, detail := 9 }, [], by decide +kernel⟩,
    ⟨hub, .core, by decide +kernel⟩,
    ⟨setB hub Pg.prt F.PRT_CTL_ALLOW true, .core, by decide +kernel⟩,
    ⟨setB hub Pg.prt F.PRT_CTL_ALLOW false, .core, by decide +kernel⟩,
    ⟨setW (setB hub Pg.prt F.PRT_STAT_TEST_UNLOCK true) Pg.buf 0x24 5#32, .core, by decide +kernel⟩,
    ⟨setW (setB hub Pg.prt F.PRT_STAT_TEST_UNLOCK true) Pg.buf 0x24 5#32, by decide +kernel⟩,
    ⟨setB hub Pg.prt F.PRT_STAT_TEST_UNLOCK true, .core, Pg.buf, 0x2FF00FF#32, by decide +kernel⟩⟩

/-- States and operands that meet the hypotheses of SelfTestsAndTestAccess, clause by clause. -/
theorem test_meets_SelfTestsAndTestAccess_3 :
    (∃ (s : State), ∃ (who : Agent), ∃ p, ∃ v, (writeReaches s who p 0x24 = true) ∧ (testUnlocked s = false ∨ v &&& ~~~(BitVec.ofNat 32 (perturbMask p)) ≠ 0#32)) ∧
    (∃ (s : State), ∃ level, (s.start.inReset = false) ∧ (getB s Pg.prt F.PRT_STAT_TEST_PIN ≠ level)) ∧
    (∃ (s : State), ∃ (who : Agent), ∃ v, (writeTaken s who Pg.prt 0xC0 v = true) ∧ (v.getLsbD 0 = true) ∧ (s.test.goAt = none) ∧ (getB s Pg.prt F.PRT_STAT_TEST_PIN = true) ∧ (getB s Pg.par F.PAR_CTL_EN = false) ∧ (scanAuth s = true)) ∧
    (∃ (s : State), ∃ (who : Agent), ∃ v, (writeTaken s who Pg.prt 0xC0 v = true) ∧ (v.getLsbD 0 = true) ∧ (s.test.goAt = none) ∧ (getB s Pg.prt F.PRT_STAT_TEST_PIN = false ∨ scanAuth s = false)) ∧
    (∃ (s : State), (s.start.inReset = false) ∧ (scanState s = 1)) :=
    ⟨⟨setB hub Pg.prt F.PRT_STAT_TEST_UNLOCK true, .core, Pg.buf, 0x100#32, by decide +kernel, .inr (by decide +kernel)⟩,
    ⟨hub, true, by decide +kernel⟩,
    ⟨hubScan, .core, 1#32, by refine ⟨?_, ?_, ?_, ?_, ?_, scanAuth_neutral _ (by decide +kernel) (by decide +kernel) (by decide +kernel)⟩ <;> decide +kernel⟩,
    ⟨hub, .core, 1#32, by decide +kernel, by decide +kernel, by decide +kernel, .inl (by decide +kernel)⟩,
    ⟨{ hubF Pg.prt F.PRT_STAT_SCAN_STATE 1 with test := { hub.test with scanCut := true } }, by decide +kernel⟩⟩
end

section
/-! PROOFS. The reset state, register accesses of the ring die and of the host, page control and block resets. -/

namespace Sys2Proof.Machine

/-! ## The reset state -/

/-- A key that a table does not list reads as nothing. -/
theorem tabGet_eq_none {α : Type} {t : Tab α} {k : Nat} (h : k ∉ t.map Prod.fst) : tabGet t k = none := by
  induction t with
  | nil => rfl
  | cons e t ih =>
    simp only [List.map_cons, List.mem_cons, not_or] at h
    obtain ⟨hne, hrest⟩ := h
    simp only [tabGet, if_neg hne, ih hrest]

/-- A register that has not been stored reads its reset value. -/
theorem getW_unlisted {s : State} {p off : Nat} (h : regKey p off ∉ s.regs.map Prod.fst) : getW s p off = resetWord p off := by
  simp only [getW, tabGet_eq_none h, Option.getD_none]

/-- Settles O4: only five registers are listed at reset, and an unlisted register reads its reset value. -/
theorem resetLeavesDefaults : Obligations.ResetLeavesDefaults :=
  ⟨rfl, rfl, rfl, rfl, by decide, rfl, rfl, rfl, rfl, rfl, fun _ _ h => getW_unlisted h⟩

/-! ## Ends of accesses -/

/-- An access that completes OK leaves every register as it was. -/
@[simp] theorem accEnd_ok_regs (s : State) (who : Agent) (id cause : Nat) (d : List Byte) (e : Exec) :
    (accEnd s who id St.ok cause d e).regs = s.regs := by
  obtain ⟨b, o, h⟩ := accEnd_ok s who id cause d e
  rw [h]

/-- An access that completes OK leaves everything beside the registers, the outputs and its own bookkeeping as it was. -/
@[simp] theorem beside_accEnd_ok (s : State) (who : Agent) (id cause : Nat) (d : List Byte) (e : Exec) :
    beside (accEnd s who id St.ok cause d e) = beside s := by
  obtain ⟨b, o, h⟩ := accEnd_ok s who id cause d e
  rw [h]; rfl

@[simp] theorem getW_accEnd_ok (s : State) (who : Agent) (id cause : Nat) (d : List Byte) (e : Exec) (p off : Nat) :
    getW (accEnd s who id St.ok cause d e) p off = getW s p off := getW_of_regs (accEnd_ok_regs ..) p off

/-- Its end adds nothing to what an access has changed. -/
theorem OnlyRegs.accEnd_ok {ks : List Nat} {s t : State} (a : OnlyRegs ks s t) (who : Agent) (id cause : Nat) (d : List Byte) (e : Exec) :
    OnlyRegs ks s (accEnd t who id St.ok cause d e) :=
  ⟨a.1.of_eq (accEnd_ok_regs ..), (beside_accEnd_ok ..).trans a.2⟩

/-- A host read through BAR0 that completes OK is answered with its data (R189). -/
theorem accEnd_host_answers {s : State} {who : Agent} {id ptag cause : Nat} (d : List Byte) (e : Exec) (h : tabGet s.brg.accs id = some ptag) :
    Out.cpl ptag 0 d ∈ (accEnd s who id St.ok cause d e).out := by
  simp [accEnd, h, emit]

/-! ## Reads of one register -/

/-- A BAR0 offset names its page and the offset in it (R187). -/
theorem hostAddr {p off : Nat} (h : off < 0x1000) : (0x1000 * p + off) / 0x1000 = p ∧ (0x1000 * p + off) % 0x1000 = off := by omega

/-- A read that its row or the host brings: it leaves the register without its RC fields, and ends with the word shown (R9). -/
theorem ownRead_plain {s : State} {who : Agent} {p off : Nat} (h : accReaches s who p off = true) (hpop : ∀ t, popWord t p off = none)
    (hnow : ¬(p = Pg.tmk ∧ off = 0x48)) :
    ∃ t, ownRead (cleared s) who p off =
        accEnd t who s.cul.accId St.ok 0 (leBytes 4 (shownWord s p off).toNat) (accExec 1 p off 4 []) ∧
      getW t p off = getW s p off &&& ~~~(accMask p off fun a => a == .rc) ∧ OnlyRegs [regKey p off] s t ∧ t.brg = s.brg := by
  obtain ⟨t, hr, hw, ho, hb⟩ := regRead_plain (s := accNext (cleared s)) (hpop _) hnow
  refine ⟨t, ?_, hw, ho, hb⟩
  rw [ownRead_reaches h, hr]
  rfl

/-- The same read, with its answer to an agent whose access is no host read. -/
theorem ownRead_spec {s : State} {who : Agent} {p off : Nat} (h : accReaches s who p off = true) (hpop : ∀ t, popWord t p off = none)
    (hnow : ¬(p = Pg.tmk ∧ off = 0x48)) :
    getW (ownRead (cleared s) who p off) p off = getW s p off &&& ~~~(accMask p off fun a => a == .rc) ∧
      OnlyRegs [regKey p off] s (ownRead (cleared s) who p off) ∧
      Answers s (ownRead (cleared s) who p off) who p off (shownWord s p off) := by
  obtain ⟨t, hr, hw, ho, hb⟩ := ownRead_plain h hpop hnow
  obtain ⟨_, _, _, hbad, _⟩ := accReaches_spec h
  obtain ⟨_, hl⟩ := accBad_spec hbad
  rw [hr]
  refine ⟨by rw [getW_accEnd_ok, hw], ho.accEnd_ok .., fun hn => ?_⟩
  obtain ⟨b, o, x, y⟩ := accEnd_read t who s.cul.accId (leBytes 4 (shownWord s p off).toNat) (accExec 1 p off 4 []) rfl
  obtain ⟨hpage, hoff⟩ := hostAddr (p := p) (off := off) (by omega)
  rw [hb, show (accExec 1 p off 4 []).off = 0x1000 * p + off from rfl, hpage, hoff] at y
  rw [x]
  exact y hn

/-! ## Errors that meet a read of ERR_COUNT -/

/-- An error record counts in ERR_COUNT, which saturates (R58). -/
theorem getF_recordErr_count (s : State) (p : Nat) (e : ErrNote) :
    getF (recordErr s p e) p F.ERR_COUNT_COUNT = min (getF s p F.ERR_COUNT_COUNT + 1) 0xFFFFFFFF := by
  have hb : getF (bumpSat s p F.ERR_COUNT_COUNT) p F.ERR_COUNT_COUNT = min (getF s p F.ERR_COUNT_COUNT + 1) 0xFFFFFFFF := by
    rw [bumpSat, getF_setF_same _ _ _ _ _ (by decide)]
    exact Nat.mod_eq_of_lt (by change _ < 2 ^ 32; omega)
  have hi : getF (irqEvent (bumpSat s p F.ERR_COUNT_COUNT) p 1) p F.ERR_COUNT_COUNT = min (getF s p F.ERR_COUNT_COUNT + 1) 0xFFFFFFFF := by
    rw [getF_irqEvent_ne _ _ _ (regKey_off_ne (by decide)) (regKey_off_ne (by decide)), hb]
  simp only [recordErr]
  split
  · exact hi
  · rw [getF_setW_ne _ _ _ _ (regKey_off_ne (by decide)), hi]

/-- Errors that come one after the other all count. -/
theorem getF_foldl_recordErr_count (p : Nat) (meet : List ErrNote) (s : State) (h : getF s p F.ERR_COUNT_COUNT + meet.length < 2 ^ 32) :
    getF (meet.foldl (fun b e => recordErr b p e) s) p F.ERR_COUNT_COUNT = getF s p F.ERR_COUNT_COUNT + meet.length := by
  induction meet generalizing s with
  | nil => rfl
  | cons e es ih =>
    simp only [List.length_cons] at h
    have hc : getF (recordErr s p e) p F.ERR_COUNT_COUNT = getF s p F.ERR_COUNT_COUNT + 1 := by
      rw [getF_recordErr_count]; omega
    rw [List.foldl_cons, ih _ (by omega), hc, List.length_cons]
    omega

/-- ERR_COUNT without its RC field is 0. -/
theorem getF_errCount_cleared {s t : State} {p : Nat} (hp : pageAssigned p = true)
    (h : getW t p 0x20 = getW s p 0x20 &&& ~~~(accMask p 0x20 fun a => a == .rc)) : getF t p F.ERR_COUNT_COUNT = 0 := by
  rw [accMask_cnt hp, if_pos (by decide), show ~~~(0xFFFFFFFF#32 : Word) = 0#32 by decide, BitVec.and_zero] at h
  rw [getF_of_getW (f := F.ERR_COUNT_COUNT) (i := 0) h]
  rfl

/-! ## Writes of one register of the ring die -/

@[simp] theorem meetEvent_none (s : State) (p off : Nat) : meetEvent s p off .none = s := by
  unfold meetEvent; split <;> rfl

/-- Hardware sets W1C and W1S bits of a register past the header, after the write that they meet (R9). -/
theorem meetEvent_bits {s : State} {p off : Nat} (b : Word) (hp : pageAssigned p = true) (hal : off % 4 = 0) (hoff : 0x40 ≤ off) :
    getW (meetEvent s p off (.bits b)) p off = getW s p off ||| (b &&& accMask p off fun a => a == .w1s || a == .w1c) ∧
      OnlyRegs [regKey p off] s (meetEvent s p off (.bits b)) := by
  have e : off / 4 * 4 = off := by omega
  have h : ¬(off = 0x10 ∨ off = 0x18) := by omega
  simp only [meetEvent, hp, Bool.not_true, Bool.false_eq_true, if_false, e, meetBits, if_neg h]
  split
  · rename_i hz
    exact ⟨by rw [hz, BitVec.or_zero], SameRegs.refl _ _, rfl⟩
  · exact ⟨getW_setW_same .., (SameRegs.refl _ _).setW (by simp), rfl⟩

/-- A write of one register of the ring die that reaches its page is judged there at once; the event it meets comes after it. -/
theorem accWrite_ring {s : State} {who : Agent} {p off : Nat} {v : Word} (id : Nat) (meet : RegMeet) (via : Bool)
    (h : writeReaches s who p off = true) (hf : isFieldPage p = false) :
    accWrite s who id p off (leBytes 4 v.toNat) meet via =
      accEnd (meetEvent (judged s who p off v).2 p off meet) who id (judged s who p off v).1.1 (judged s who p off v).1.2 []
        (accExec 2 p off 4 (leBytes 4 v.toNat)) := by
  simp only [writeReaches, Bool.and_eq_true, Bool.not_eq_true'] at h
  obtain ⟨⟨⟨⟨hreach, hbits⟩, hstand⟩, hmir⟩, hreset⟩ := h
  obtain ⟨_, hp, hdeaf, hbad, hhung⟩ := accReaches_spec hreach
  obtain ⟨hal, _⟩ := accBad_spec hbad
  have hm : mirrorsWrite s who p off (leBytes 4 v.toNat) = false := by
    unfold mirrorsWrite
    rw [hp, Bool.and_true, hmir, Bool.false_and, Bool.false_and]
  have hr : ¬(pageBusyState s p = 2 ∧ 0x40 ≤ off) := by
    rintro ⟨x, y⟩
    simp [x, y] at hreset
  have hw : bytesWrite s who p off (leBytes 4 v.toNat) = judged s who p off v := by
    have e : off / 4 * 4 = off := by omega
    rw [bytesWrite, leBytes_length, if_neg (by decide), hal, e, regWrite_four hp hr (by simpa using hbits)]
  simp only [accWrite, hdeaf, leBytes_length, hbad, hstand, hm, sendWrite, hf, pageAccess, hhung, hw, Bool.and_false, Bool.false_eq_true,
    if_false, show ¬ (2 = 1) by decide]

/-- A write that its page takes, that is no command and that nothing follows from stores what the access codes make of it (R9). -/
theorem judged_plain {s : State} {who : Agent} {p off : Nat} {v : Word} (h : writeTaken s who p off v = true) (hoff : 0x40 ≤ off)
    (hf : isFieldPage p = false) (hcmd : ∀ t, ringCmd t who p off v (leBytes 4 v.toNat) false = none) (hafter : ∀ t o, afterWrite t p off o = t) :
    ∃ t, judged s who p off v = (ackOk, t) ∧ getW t p off = storedWord p off (getW s p off) v v ∧ OnlyRegs [regKey p off] s t := by
  simp only [writeTaken, Bool.and_eq_true] at h
  obtain ⟨⟨_, hlock⟩, hval⟩ := h
  obtain ⟨t, hs, hw, ho⟩ := storeWrite_spec s (p := p) (off := off) v v (by omega) (by omega)
  rw [hafter] at hs
  have hj := judged_stored (who := who) (by omega) (by omega) hlock hval (by rw [hf]; exact hcmd s) (fun e => by omega)
  exact ⟨t, by rw [hj, hs], hw, ho⟩

/-- Where no host access waits, the next one goes to its page at once (R189). -/
theorem barTake_first {s : State} (a : BarAcc) (h : hostFirst s = true) : barTake s a = barRun s a := by
  simp only [hostFirst, Bool.and_eq_true, Bool.not_eq_true'] at h
  obtain ⟨⟨hq, hw⟩, he⟩ := h
  have hgo : barMayGo s a = true := by simp [barMayGo, hw, he]
  rw [barTake, hq, hgo]
  rfl

/-- A write by any agent is an access at its page; a host's goes in the order of the host's accesses (R189). -/
theorem busWrite_eq_accWrite {s : State} {who : Agent} {p off : Nat} (bs : List Byte) (meet : RegMeet) (hoff : off < 0x1000)
    (hhost : who = .host → hostFirst s = true) :
    busWrite (cleared s) who p off bs meet = accWrite (accNext (cleared s)) who s.cul.accId p off bs meet true := by
  unfold busWrite
  split
  · rename_i hw
    have hfirst : hostFirst (accNext (cleared s)) = true := hhost hw
    rw [hw]
    refine (barTake_first _ hfirst).trans ?_
    simp only [barRun, if_true, Nat.mod_eq_of_lt hoff, hostAddr hoff]
    rfl
  · rfl

theorem writeTaken_bounds {s : State} {who : Agent} {p off : Nat} {v : Word} (h : writeTaken s who p off v = true) :
    alive s = true ∧ pageAssigned p = true ∧ writeReaches s who p off = true ∧ off % 4 = 0 ∧ off < 0x1000 := by
  simp only [writeTaken, Bool.and_eq_true] at h
  obtain ⟨⟨hr, _⟩, _⟩ := h
  have hr' := hr
  simp only [writeReaches, Bool.and_eq_true] at hr'
  obtain ⟨⟨⟨⟨hacc, _⟩, _⟩, _⟩, _⟩ := hr'
  obtain ⟨ha, hp, _, hbad, _⟩ := accReaches_spec hacc
  obtain ⟨hal, hl⟩ := accBad_spec hbad
  exact ⟨ha, hp, hr, hal, by omega⟩

/-- A plain register write of the ring die: the register is stored, the event it meets comes after it, and the access completes OK. -/
theorem busWrite_plain {s : State} {who : Agent} {p off : Nat} {v : Word} (meet : RegMeet) (h : writeTaken s who p off v = true)
    (hoff : 0x40 ≤ off) (hf : isFieldPage p = false) (hcmd : ∀ t, ringCmd t who p off v (leBytes 4 v.toNat) false = none)
    (hafter : ∀ t o, afterWrite t p off o = t) (hhost : who = .host → hostFirst s = true) :
    ∃ t e, busWrite (cleared s) who p off (leBytes 4 v.toNat) meet = accEnd (meetEvent t p off meet) who s.cul.accId St.ok 0 [] e ∧
      getW t p off = storedWord p off (getW s p off) v v ∧ OnlyRegs [regKey p off] s t := by
  obtain ⟨_, _, hr, _, hlt⟩ := writeTaken_bounds h
  have h' : writeTaken (accNext (cleared s)) who p off v = true := h
  have hr' : writeReaches (accNext (cleared s)) who p off = true := hr
  obtain ⟨t, hj, hw, ho⟩ := judged_plain h' hoff hf hcmd hafter
  refine ⟨t, accExec 2 p off 4 (leBytes 4 v.toNat), ?_, hw, ho⟩
  rw [busWrite_eq_accWrite _ _ hlt hhost, accWrite_ring _ _ _ hr' hf, hj]
  rfl

/-- Settles O13: a plain write is stored by its access codes and the event it meets comes after it; a read clears its RC fields. -/
theorem registersStoreAndReadsClear : Obligations.RegistersStoreAndReadsClear := by
  unfold Obligations.RegistersStoreAndReadsClear
  refine ⟨fun s who p off v b h hoff hf hcmd hafter hhost => ?_, fun s who p => ⟨fun meet h hlen => ?_, fun off h hpop hnow => ?_⟩⟩
  · obtain ⟨ha, hp, _, hal, _⟩ := writeTaken_bounds h
    constructor
    · obtain ⟨t, e, hb, hw, ho⟩ := busWrite_plain .none h hoff hf hcmd hafter hhost
      refine completes_during ha rfl ?_
      rw [hb, meetEvent_none]
      exact ⟨by rw [getW_accEnd_ok, hw], ho.accEnd_ok ..⟩
    · obtain ⟨t, e, hb, hw, ho⟩ := busWrite_plain (.bits b) h hoff hf hcmd hafter hhost
      obtain ⟨hset, honly⟩ := meetEvent_bits (s := t) b hp hal hoff
      refine completes_during ha rfl ?_
      rw [hb]
      exact ⟨by rw [getW_accEnd_ok, hset, hw], (ho.trans honly).accEnd_ok ..⟩
  · obtain ⟨ha, hp, _⟩ := accReaches_spec h
    obtain ⟨hw, ho, hans⟩ := ownRead_spec h (fun _ => popWord_header (by decide)) (by simp)
    have hz := getF_errCount_cleared hp hw
    refine completes_during ha rfl ?_
    rw [if_pos hp]
    refine ⟨?_, ?_⟩
    · rw [getF_foldl_recordErr_count _ _ _ (by omega), hz, Nat.zero_add]
    · rintro rfl
      exact ⟨ho, hans⟩
  · obtain ⟨ha, _⟩ := accReaches_spec h
    exact completes_during ha rfl (ownRead_spec h hpop hnow)

/-! ## Host accesses through BAR0 -/

/-- While the BARs are closed a host access reaches no block (R187). -/
theorem bar0_closed {s : State} (ptag off len : Nat) (d : Option (List Byte)) (h : barsOpen s = false) : bar0 s ptag off len d = s := by
  simp [bar0, h]

/-- A host write that finds its credits is a register write by the host. -/
theorem bar0_write {s : State} (ptag p off : Nat) (v : Word) (ho : barsOpen s = true) (hc : postedRoom s 4 = true) (hoff : off < 0x1000) :
    bar0 s ptag (0x1000 * p + off) 4 (some (leBytes 4 v.toNat)) = busWrite s .host p off (leBytes 4 v.toNat) .none := by
  simp only [bar0, ho, hc, Option.isSome_some, if_true, Bool.not_true, Bool.or_self, Bool.false_eq_true, if_false, busWrite, leBytes_length,
    Nat.mod_eq_of_lt hoff]

/-- The hub with a host read under way: the identifier of the next access answers to this PCIe tag. -/
def readTagged (s : State) (ptag : Nat) : State := setBrg s { s.brg with accs := tabSet s.brg.accs s.cul.accId ptag }

/-- A host read that finds its credit and no access before it is a read under its PCIe tag. -/
theorem bar0_read {s : State} (ptag p off : Nat) (ho : barsOpen s = true) (hc : readRoom s = true) (hfirst : hostFirst s = true)
    (hoff : off < 0x1000) :
    bar0 (cleared s) ptag (0x1000 * p + off) 4 none = accRead (accNext (cleared (readTagged s ptag))) .host s.cul.accId p off 4 true := by
  have ho' : barsOpen (cleared s) = true := ho
  have hc' : readRoom (cleared s) = true := hc
  have hf' : hostFirst (accNext (cleared (readTagged s ptag))) = true := hfirst
  simp only [bar0, ho', hc', Option.isSome_none, Bool.not_true, Bool.or_self, Bool.false_eq_true, if_false]
  refine (barTake_first _ hf').trans ?_
  simp only [barRun, Bool.false_eq_true, if_false, hostAddr hoff]
  rfl

/-- At a page of the ring die it makes no difference to a read whether it comes over BAR0 or from a row of its own. -/
theorem accRead_via_ring (s : State) (who : Agent) (id p off len : Nat) (hf : isFieldPage p = false) :
    accRead s who id p off len true = accRead s who id p off len false := by
  simp only [accRead, hf, Bool.and_false]

/-- A read of a page of the field die goes there as an EXEC (R250). -/
theorem accRead_field {s : State} {who : Agent} {p off : Nat} (id : Nat) (h : accReaches s who p off = true) (hf : isFieldPage p = true) :
    accRead s who id p off 4 true = execSend s (.acc who id) 1 (0x1000 * p + off) 4 [] false := by
  obtain ⟨_, _, hdeaf, hbad, _⟩ := accReaches_spec h
  simp only [accRead, hdeaf, hbad, hf, Bool.and_true, Bool.false_eq_true, if_false, if_true]

/-- An EXEC waits for the culvert unless the culvert is FAILED (R250, R261). -/
theorem execSend_waits {s : State} (org : ExecOrg) (op off len : Nat) (d : List Byte) (spec : Bool) (h : culState s ≠ 4) :
    ∃ e : Exec, (execSend s org op off len d spec).cul.ringW = s.cul.ringW ++ [.exec e] ∧ e.op = op ∧ e.off = off ∧ e.len = len ∧ e.org = org ∧
      (execSend s org op off len d spec).brg = s.brg ∧ (execSend s org op off len d spec).regs = s.regs := by
  unfold execSend
  simp only [if_neg h]
  exact ⟨_, rfl, rfl, rfl, rfl, rfl, rfl, rfl⟩

/-- A host read of a ring-die register answers the word shown and clears its RC fields. -/
theorem bar0_read_ring {s : State} {p off : Nat} (ptag : Nat) (ho : barsOpen s = true) (hc : readRoom s = true) (hfirst : hostFirst s = true)
    (h : accReaches s .host p off = true) (hf : isFieldPage p = false) (hpop : ∀ t, popWord t p off = none) (hnow : ¬(p = Pg.tmk ∧ off = 0x48)) :
    Out.cpl ptag 0 (leBytes 4 (shownWord s p off).toNat) ∈ (bar0 (cleared s) ptag (0x1000 * p + off) 4 none).out ∧
      getW (bar0 (cleared s) ptag (0x1000 * p + off) 4 none) p off = getW s p off &&& ~~~(accMask p off fun a => a == .rc) ∧
      OnlyRegs [regKey p off] s (bar0 (cleared s) ptag (0x1000 * p + off) 4 none) := by
  obtain ⟨_, _, _, hbad, _⟩ := accReaches_spec h
  obtain ⟨_, hl⟩ := accBad_spec hbad
  have h' : accReaches (readTagged s ptag) .host p off = true := h
  obtain ⟨t, hr, hw, honly, hb⟩ := ownRead_plain h' hpop hnow
  have heq : bar0 (cleared s) ptag (0x1000 * p + off) 4 none = ownRead (cleared (readTagged s ptag)) .host p off := by
    rw [bar0_read _ _ _ ho hc hfirst (by omega), accRead_via_ring _ _ _ _ _ _ hf]
    rfl
  have htag : tabGet t.brg.accs s.cul.accId = some ptag := by
    rw [hb]; exact tabGet_tabSet_same _ _ _
  have hend : ownRead (cleared (readTagged s ptag)) .host p off =
      accEnd t .host s.cul.accId St.ok 0 (leBytes 4 (shownWord s p off).toNat) (accExec 1 p off 4 []) := hr
  have honly' : OnlyRegs [regKey p off] s t := honly
  rw [heq, hend]
  exact ⟨accEnd_host_answers _ _ htag, (getW_accEnd_ok ..).trans hw, honly'.accEnd_ok ..⟩

/-- A host read of a field-die page waits for the culvert as an EXEC under its PCIe tag. -/
theorem bar0_read_field {s : State} {p off : Nat} (ptag : Nat) (ho : barsOpen s = true) (hc : readRoom s = true) (hfirst : hostFirst s = true)
    (h : accReaches s .host p off = true) (hf : isFieldPage p = true) (hcul : culState s ≠ 4) :
    (∃ e : Exec, (bar0 (cleared s) ptag (0x1000 * p + off) 4 none).cul.ringW = s.cul.ringW ++ [.exec e] ∧ e.op = 1 ∧ e.off = 0x1000 * p + off ∧
        e.len = 4 ∧ e.org = .acc .host s.cul.accId) ∧
      tabGet (bar0 (cleared s) ptag (0x1000 * p + off) 4 none).brg.accs s.cul.accId = some ptag ∧
      (bar0 (cleared s) ptag (0x1000 * p + off) 4 none).regs = s.regs := by
  obtain ⟨_, _, _, hbad, _⟩ := accReaches_spec h
  obtain ⟨_, hl⟩ := accBad_spec hbad
  have h' : accReaches (accNext (cleared (readTagged s ptag))) .host p off = true := h
  have hcul' : culState (accNext (cleared (readTagged s ptag))) ≠ 4 := hcul
  obtain ⟨e, hring, hop, hoff, hlen, horg, hbrg, hregs⟩ := execSend_waits (.acc .host s.cul.accId) 1 (0x1000 * p + off) 4 [] false hcul'
  rw [bar0_read _ _ _ ho hc hfirst (by omega), accRead_field _ h' hf]
  refine ⟨⟨e, hring, hop, hoff, hlen, horg⟩, ?_, hregs⟩
  rw [hbrg]
  exact tabGet_tabSet_same _ _ _

/-- Settles O25: a host access is a register access by the host, under its PCIe tag where it reads. -/
theorem hostRegisterAccesses : Obligations.HostRegisterAccesses := by
  unfold Obligations.HostRegisterAccesses
  refine fun s ptag p off v ha => ⟨fun o n d hclosed => ?_, fun hopen hfirst hreach => ⟨fun hroom hf hpop hnow _ => ?_,
    fun hroom htaken hoff hf hcmd hafter => ?_, fun hroom hf hcul => ?_⟩⟩
  · exact completes_during ha rfl (bar0_closed (s := cleared s) ptag o n d hclosed)
  · exact completes_during ha rfl (bar0_read_ring ptag hopen hroom hfirst hreach hf hpop hnow)
  · obtain ⟨_, _, _, _, hlt⟩ := writeTaken_bounds htaken
    obtain ⟨t, e, hb, hw, ho⟩ := busWrite_plain .none htaken hoff hf hcmd hafter fun _ => hfirst
    refine completes_during ha rfl ?_
    rw [bar0_write ptag p off v (s := cleared s) hopen hroom hlt, hb, meetEvent_none]
    exact ⟨by rw [getW_accEnd_ok, hw], ho.accEnd_ok ..⟩
  · exact completes_during ha rfl (bar0_read_field ptag hopen hroom hfirst hreach hf hcul)

/-! ## PAGE_CTL -/

/-- A one-bit field reads as its bit. -/
theorem wordBits_one_ne_zero (v : Word) (lo : Nat) : (wordBits v lo 1 != 0) = v.getLsbD lo := by
  have h : (wordBits v lo 1).testBit 0 = v.getLsbD lo := by rw [testBit_wordBits]; rfl
  have hlt : wordBits v lo 1 < 2 := Nat.mod_lt _ (by decide)
  rw [← h]
  generalize wordBits v lo 1 = n at hlt
  interval_cases n <;> rfl

theorem pageEnabled_eq (s : State) (p : Nat) : pageEnabled s p = (getW s p 0x08).getLsbD 0 := wordBits_one_ne_zero _ 0
theorem getB_freeze_eq (s : State) (p : Nat) : getB s p F.PAGE_CTL_FREEZE = (getW s p 0x08).getLsbD 2 := wordBits_one_ne_zero _ 2

/-- What PAGE_CTL holds once `v` has been written over `old`: ENABLE and FREEZE alone are stored. -/
def ctlStored (old v : Word) : Word := (old &&& ~~~5#32) ||| (v &&& 5#32)

/-- ENABLE and FREEZE are what is written. -/
theorem ctlStored_getLsbD {i : Nat} (old v : Word) (h : i = 0 ∨ i = 2) : (ctlStored old v).getLsbD i = v.getLsbD i := by
  have h5 : (5#32 : Word).getLsbD i = true := by rcases h with rfl | rfl <;> rfl
  simp only [ctlStored, BitVec.getLsbD_or, BitVec.getLsbD_and, BitVec.getLsbD_not, h5, Bool.not_true, Bool.and_false, Bool.false_or, Bool.and_true]

/-- A write of BLOCK_RESET with ENABLE and FREEZE as they stand stores nothing new. -/
theorem ctlStored_blockReset (w : Word) : ctlStored w (w ||| 2#32) = w := by
  refine BitVec.eq_of_getLsbD_eq fun i hi => ?_
  have h25 : ((2#32 : Word).getLsbD i && (5#32 : Word).getLsbD i) = false := by
    rw [← BitVec.getLsbD_and, show (2#32 : Word) &&& 5#32 = 0#32 by decide, BitVec.getLsbD_zero]
  simp only [ctlStored, BitVec.getLsbD_or, BitVec.getLsbD_and, BitVec.getLsbD_not, hi, decide_true, Bool.true_and, Bool.and_or_distrib_right, h25,
    Bool.or_false]
  rw [← Bool.and_or_distrib_left, Bool.not_or_self, Bool.and_true]

/-- ENABLE and FREEZE of a word that a row writes: the bit of the row, and the other as it stood. -/
theorem pageCtlWith_getLsbD (s : State) (p bit : Nat) (b : Bool) {i : Nat} (h : i = 0 ∨ i = 2) :
    (pageCtlWith s p bit b).getLsbD i = if i = bit then b else (getW s p 0x08).getLsbD i := by
  have h2 : (2#32 : Word).getLsbD i = false := by rcases h with rfl | rfl <;> rfl
  have hi : i < 32 := by omega
  rw [pageCtlWith, wordPut_getLsbD _ _ _ _ _ hi]
  by_cases hb : i = bit
  · subst hb
    rw [if_pos ⟨le_refl _, by omega⟩, if_pos rfl, Nat.sub_self]
    cases b <;> rfl
  · rw [if_neg (by omega), if_neg hb, BitVec.getLsbD_and, BitVec.getLsbD_not, h2]
    simp [-BitVec.getLsbD_eq_getElem, hi]

/-- A row of PAGE_CTL resets no block. -/
theorem pageCtlWith_noReset (s : State) (p bit : Nat) (b : Bool) (h : bit ≠ 1) : (pageCtlWith s p bit b).getLsbD 1 = false := by
  rw [pageCtlWith, wordPut_getLsbD _ _ _ _ _ (by decide), if_neg (by omega)]
  simp

/-- What follows from PAGE_CTL where FREEZE stays and ENABLE takes the value `on`. -/
theorem pageCtlNote_enable {s : State} {p : Nat} {old new : Word} {on : Bool} (hf : new.getLsbD 2 = old.getLsbD 2) (he : new.getLsbD 0 = on) :
    pageCtlNote s p old new =
      if on == old.getLsbD 0 then s
      else if 0x138 ≤ p ∧ p ≤ 0x13F then setB s p F.CAN_STAT_SYNC false
      else if 0x100 ≤ p ∧ p ≤ 0x11F then serEnableNote s (p - 0x100) on
      else if 0x120 ≤ p ∧ p ≤ 0x12F ∧ on = false then benStop s (p - 0x120) 5
      else if p = Pg.usf then usfEval s
      else s := by
  simp only [pageCtlNote, hf, he, Bool.and_not_self, Bool.false_eq_true, if_false]

/-- What follows from PAGE_CTL where ENABLE stays: the snapshot of a page that is frozen. -/
theorem pageCtlNote_freeze {s : State} {p : Nat} {old new : Word} (he : new.getLsbD 0 = old.getLsbD 0) :
    pageCtlNote s p old new = if new.getLsbD 2 && !old.getLsbD 2 then freezePage s p else s := by
  simp only [pageCtlNote, he, beq_self_eq_true, if_true]

/-- A write of PAGE_CTL without BLOCK_RESET: ENABLE and FREEZE are stored, and what follows from them comes. -/
theorem judged_ctl {s : State} {who : Agent} {p : Nat} {v : Word} (hp : pageAssigned p = true) (hr : v.getLsbD 1 = false) :
    ∃ t, judged s who p 0x08 v = (ackOk, pageCtlNote t p (getW s p 0x08) (getW t p 0x08)) ∧ getW t p 0x08 = ctlStored (getW s p 0x08) v ∧
      OnlyRegs [regKey p 0x08] s t := by
  obtain ⟨t, hs, hw, ho⟩ := storeWrite_spec s (p := p) (off := 0x08) v v (by decide) (by decide)
  refine ⟨t, ?_, hw.trans (storedWord_ctl hp _ _ _), ho⟩
  rw [judged_header hp (by decide) (by decide) (by decide) (fun _ => hr), hs, afterWrite_ctl]

/-- A row that writes one of ENABLE and FREEZE completes: `t` holds the new PAGE_CTL, and what follows from it comes. -/
theorem completes_ctl {c : Instr} {s : State} {who : Agent} {p bit : Nat} {b : Bool} {P : State → Prop} (h : writeReaches s who p 0x08 = true)
    (hb : bit = 0 ∨ bit = 2) (e : exec c s = .next (during s fun a => ownWrite a who p 0x08 (pageCtlWith a p bit b)))
    (hP : ∀ t u, OnlyRegs [regKey p 0x08] s t →
      (∀ i, i = 0 ∨ i = 2 → (getW t p 0x08).getLsbD i = if i = bit then b else (getW s p 0x08).getLsbD i) →
      u.regs = (pageCtlNote t p (getW s p 0x08) (getW t p 0x08)).regs →
      beside u = beside (pageCtlNote t p (getW s p 0x08) (getW t p 0x08)) → P u) : Completes c s P := by
  have hp := writeReaches_page h
  obtain ⟨t, hj, hw, ho⟩ := judged_ctl (s := accNext (cleared s)) (who := who) (v := pageCtlWith (cleared s) p bit b) hp
    (pageCtlWith_noReset _ _ _ _ (by omega))
  refine completes_write h e rfl hj fun u hr hbs _ => hP t u ho (fun i hi => ?_) hr hbs
  rw [hw, ctlStored_getLsbD _ _ hi, pageCtlWith_getLsbD _ _ _ _ hi, getW_cleared]


/-! ## ENABLE -/

/-- A bench that stands still is not stopped again. -/
theorem benStop_idle {s : State} {n : Nat} (why : Nat) (h : benRun s n = 0) : benStop s n why = s := by
  simp only [benStop, h, if_true]

/-- The service function that stands as R328 wants it changes nothing. -/
theorem usfEval_settled {s : State} (h : usfOn s = (getB s Pg.usf F.USF_CTL_OWNER_EN || getB s Pg.usf F.USF_STAT_PIN)) : usfEval s = s := by
  rw [usfEval, if_pos (.inl h.symm)]

/-- Where nothing but PAGE_CTL follows from ENABLE, nothing does (R54, R268, R290, R303, R328). -/
theorem pageCtlNote_quiet {s t : State} {p : Nat} {on : Bool} {new : Word} (hq : enableQuiet s p on = true) (ht : OnlyRegs [regKey p 0x08] s t)
    (hf : new.getLsbD 2 = (getW s p 0x08).getLsbD 2) (he : new.getLsbD 0 = on) : pageCtlNote t p (getW s p 0x08) new = t := by
  rw [pageCtlNote_enable hf he, ← pageEnabled_eq]
  by_cases hsame : (on == pageEnabled s p) = true
  · rw [if_pos hsame]
  have hport : ¬((0x100 ≤ p ∧ p ≤ 0x11F) ∨ (0x138 ≤ p ∧ p ≤ 0x13F)) := fun h => by
    rw [enableQuiet, if_pos h] at hq
    exact hsame hq
  obtain ⟨hser, hcan⟩ := not_or.mp hport
  rw [enableQuiet, if_neg hport] at hq
  rw [if_neg hsame, if_neg hcan, if_neg hser]
  by_cases hben : 0x120 ≤ p ∧ p ≤ 0x12F
  · rw [if_pos hben] at hq
    split
    · rename_i hoff
      have hrun : benRun t (p - 0x120) = benRun s (p - 0x120) :=
        ht.1.getF (by simp only [fKey, List.mem_singleton, regKey, Pg.ben, F.BEN_STAT_RUN_STATE]; omega)
      refine benStop_idle _ (hrun.trans ?_)
      obtain ⟨_, _, rfl⟩ := hoff
      simpa using hq
    · rw [if_neg (by simp only [Pg.usf]; omega)]
  · rw [if_neg hben] at hq
    rw [if_neg fun h => hben ⟨h.1, h.2.1⟩]
    split
    · rename_i hp
      subst hp
      have hkeep : ∀ f : FieldD, fKey Pg.usf f ∉ [regKey Pg.usf 0x08] → getB t Pg.usf f = getB s Pg.usf f := fun f hk => by
        simp only [getB, ht.1.getF hk]
      have hon : usfOn t = usfOn s := hkeep _ (by decide)
      refine usfEval_settled ?_
      rw [hon, hkeep _ (by decide), hkeep _ (by decide)]
      simpa using hq
    · rfl

/-- A row that writes ENABLE: FREEZE stays. -/
theorem completes_enable {s : State} {who : Agent} {p : Nat} {on : Bool} {P : State → Prop} (h : writeReaches s who p 0x08 = true)
    (hP : ∀ t u new, OnlyRegs [regKey p 0x08] s t → pageEnabled t p = on → getB t p F.PAGE_CTL_FREEZE = getB s p F.PAGE_CTL_FREEZE →
      new.getLsbD 0 = on → new.getLsbD 2 = (getW s p 0x08).getLsbD 2 →
      u.regs = (pageCtlNote t p (getW s p 0x08) new).regs → beside u = beside (pageCtlNote t p (getW s p 0x08) new) → P u) :
    Completes (.pageEnableWrite who p on) s P := by
  refine completes_ctl h (.inl rfl) rfl fun t u ho hbits hr hbs => ?_
  have he := hbits 0 (.inl rfl)
  have hf := hbits 2 (.inr rfl)
  exact hP t u _ ho ((pageEnabled_eq t p).trans he) (by rw [getB_freeze_eq, getB_freeze_eq]; exact hf) he hf hr hbs

/-- ENABLE of a page where nothing more comes of it. -/
theorem completes_enable_quiet {s : State} {who : Agent} {p : Nat} {on : Bool} (h : writeReaches s who p 0x08 = true) (hq : enableQuiet s p on = true) :
    Completes (.pageEnableWrite who p on) s fun u =>
      pageEnabled u p = on ∧ getB u p F.PAGE_CTL_FREEZE = getB s p F.PAGE_CTL_FREEZE ∧ OnlyRegs [regKey p 0x08] s u := by
  refine completes_enable h fun t u new ho he hf hnew hkeep hr hbs => ?_
  rw [pageCtlNote_quiet hq ho hkeep hnew] at hr hbs
  exact ⟨(getB_of_regs hr ..).trans he, (getB_of_regs hr ..).trans hf, ho.1.of_eq hr, hbs.trans ho.2⟩

/-- ENABLE of a CAN port that changes: the port integrates first (R303). -/
theorem completes_enable_can {s : State} {who : Agent} {n : Nat} {on : Bool} (hn : n < 8) (h : writeReaches s who (Pg.can n) 0x08 = true)
    (hch : on ≠ pageEnabled s (Pg.can n)) : Completes (.pageEnableWrite who (Pg.can n) on) s fun u =>
      pageEnabled u (Pg.can n) = on ∧ getB u (Pg.can n) F.PAGE_CTL_FREEZE = getB s (Pg.can n) F.PAGE_CTL_FREEZE ∧
        getB u (Pg.can n) F.CAN_STAT_SYNC = false ∧ OnlyRegs [regKey (Pg.can n) 0x08, fKey (Pg.can n) F.CAN_STAT_SYNC] s u := by
  refine completes_enable h fun t u new ho he hf hnew hkeep hr hbs => ?_
  have hnote : pageCtlNote t (Pg.can n) (getW s (Pg.can n) 0x08) new = setB t (Pg.can n) F.CAN_STAT_SYNC false := by
    rw [pageCtlNote_enable hkeep hnew, ← pageEnabled_eq, if_neg (by simpa using hch), if_pos (by simp only [Pg.can]; omega)]
  rw [hnote] at hr hbs
  have hctl : getW u (Pg.can n) 0x08 = getW t (Pg.can n) 0x08 := (getW_of_regs hr ..).trans (getW_setW_ne _ _ (regKey_off_ne (by decide)))
  rw [pageEnabled_eq] at he ⊢
  rw [getB_freeze_eq] at hf ⊢
  refine ⟨by rw [hctl, he], by rw [hctl, hf], (getB_of_regs hr ..).trans (getB_setB_same _ _ _ _ _ (by decide) rfl), ?_, ?_⟩
  · exact SameRegs.of_eq ((ho.1.mono (by simp)).setB (by simp)) hr
  · exact hbs.trans ho.2

theorem fld_of_beside {s t : State} (h : beside s = beside t) : s.fld = t.fld :=
  show (beside s).fld = (beside t).fld by rw [h]

theorem time_of_beside {s t : State} (h : beside s = beside t) : s.time = t.time :=
  show (beside s).time = (beside t).time by rw [h]

/-- ENABLE of a serial port that is off: the port waits for mark from now on (R268). -/
theorem completes_enable_ser {s : State} {who : Agent} {n : Nat} (hn : n < 32) (h : writeReaches s who (Pg.ser n) 0x08 = true)
    (hoff : pageEnabled s (Pg.ser n) = false) : Completes (.pageEnableWrite who (Pg.ser n) true) s fun u =>
      pageEnabled u (Pg.ser n) = true ∧ getB u (Pg.ser n) F.PAGE_CTL_FREEZE = getB s (Pg.ser n) F.PAGE_CTL_FREEZE ∧
        u.fld = (setSer s n { serOf s n with markFrom := some (fieldNs s) }).fld ∧ SameRegs [regKey (Pg.ser n) 0x08] s u ∧
        beside { u with fld := s.fld } = beside s := by
  refine completes_enable h fun t u new ho he hf hnew hkeep hr hbs => ?_
  have hnote : pageCtlNote t (Pg.ser n) (getW s (Pg.ser n) 0x08) new = setSer t n { serOf t n with markFrom := some (fieldNs t) } := by
    rw [pageCtlNote_enable hkeep hnew, ← pageEnabled_eq, hoff, if_neg (by decide), if_neg (by simp only [Pg.ser]; omega),
      if_pos (by simp only [Pg.ser]; omega), Pg.ser, Nat.add_sub_cancel_left, serEnableNote, if_pos rfl]
  rw [hnote] at hr hbs
  have hfld : t.fld = s.fld := fld_of_beside ho.2
  have htime : t.time = s.time := time_of_beside ho.2
  refine ⟨(getB_of_regs hr ..).trans he, (getB_of_regs hr ..).trans hf, ?_, ho.1.of_eq hr, ?_⟩
  · rw [fld_of_beside hbs]
    simp only [setSer, serOf, fieldNs, hfld, htime]
  · calc beside { u with fld := s.fld } = { beside u with fld := s.fld } := rfl
      _ = { beside t with fld := s.fld } := by rw [hbs]; rfl
      _ = beside s := by rw [ho.2]; rfl

/-- What a running bench's stop leaves (R290, R291). -/
theorem benStop_spec {s : State} {n why : Nat} (hrun : benRun s n ≠ 0) (hwhy : why < 8) :
    benRun (benStop s n why) n = 0 ∧ getF (benStop s n why) (Pg.ben n) F.BEN_STAT_STOP_WHY = why ∧
      (getW (benStop s n why) (Pg.ben n) 0x10).getLsbD 3 = true ∧
      OnlyRegs [regKey (Pg.ben n) 0x10, regKey (Pg.ben n) 0x18, fKey (Pg.ben n) F.BEN_STAT_RUN_STATE, fKey (Pg.ben n) F.BEN_STAT_STALL_ON,
        fKey (Pg.ben n) F.BEN_STAT_STOP_WHY] s (benStop s n why) := by
  have hstat : ∀ f : FieldD, fKey (Pg.ben n) f = regKey (Pg.ben n) 0x48 → ∀ t : State, getF (irqEvent t (Pg.ben n) 3) (Pg.ben n) f = getF t (Pg.ben n) f :=
    fun f hk t => getF_irqEvent_ne t f 0 (by rw [show regKey _ _ = _ from hk]; exact regKey_off_ne (by decide))
      (by rw [show regKey _ _ = _ from hk]; exact regKey_off_ne (by decide))
  rw [benStop, if_neg hrun]
  refine ⟨?_, ?_, ?_, ?_, ?_⟩
  · rw [benRun, hstat _ rfl, getF_setF_apart _ _ F.BEN_STAT_STOP_WHY F.BEN_STAT_RUN_STATE _ 0 0 rfl (by decide) (by decide),
      getF_setF_apart _ _ F.BEN_STAT_STALL_ON F.BEN_STAT_RUN_STATE _ 0 0 rfl (by decide) (by decide), getF_setF_same _ _ _ _ _ (by decide)]
    rfl
  · rw [hstat _ rfl, getF_setF_same _ _ _ _ _ (by decide)]
    exact Nat.mod_eq_of_lt hwhy
  · rw [getW_irqEvent_raw, BitVec.getLsbD_or]
    exact Bool.or_eq_true_iff.mpr (.inr (by decide))
  · exact ((((SameRegs.refl _ s).setF (by simp)).setF (by simp)).setF (by simp)).irqEvent (by simp) (by simp)
  · simp

/-- ENABLE of a running bench going to 0: the bench stops with cause 5 (R290). -/
theorem completes_enable_ben {s : State} {who : Agent} {n : Nat} (hn : n < 16) (h : writeReaches s who (Pg.ben n) 0x08 = true)
    (hon : pageEnabled s (Pg.ben n) = true) (hrun : benRun s n ≠ 0) : Completes (.pageEnableWrite who (Pg.ben n) false) s fun u =>
      pageEnabled u (Pg.ben n) = false ∧ benRun u n = 0 ∧ getF u (Pg.ben n) F.BEN_STAT_STOP_WHY = 5 ∧ (getW u (Pg.ben n) 0x10).getLsbD 3 = true ∧
        OnlyRegs [regKey (Pg.ben n) 0x08, regKey (Pg.ben n) 0x10, regKey (Pg.ben n) 0x18, fKey (Pg.ben n) F.BEN_STAT_RUN_STATE,
          fKey (Pg.ben n) F.BEN_STAT_STALL_ON, fKey (Pg.ben n) F.BEN_STAT_STOP_WHY] s u := by
  refine completes_enable h fun t u new ho he hf hnew hkeep hr hbs => ?_
  have hnote : pageCtlNote t (Pg.ben n) (getW s (Pg.ben n) 0x08) new = benStop t n 5 := by
    rw [pageCtlNote_enable hkeep hnew, ← pageEnabled_eq, hon, if_neg (by decide), if_neg (by simp only [Pg.ben]; omega),
      if_neg (by simp only [Pg.ben]; omega), if_pos ⟨by simp only [Pg.ben]; omega, by simp only [Pg.ben]; omega, rfl⟩, Pg.ben, Nat.add_sub_cancel_left]
  rw [hnote] at hr hbs
  have hrun' : benRun t n ≠ 0 := by
    rwa [benRun, ho.1.getF (by simp [fKey, regKey_inj, F.BEN_STAT_RUN_STATE])]
  obtain ⟨hstop, hwhy, hirq, honly⟩ := benStop_spec hrun' (show 5 < 8 by decide)
  have hctl : getB (benStop t n 5) (Pg.ben n) F.PAGE_CTL_ENABLE = pageEnabled t (Pg.ben n) := by
    rw [getB, honly.1.getF (by simp [fKey, regKey_inj, F.BEN_STAT_RUN_STATE, F.BEN_STAT_STALL_ON, F.BEN_STAT_STOP_WHY, F.PAGE_CTL_ENABLE])]
    rfl
  refine ⟨(getB_of_regs hr ..).trans (hctl.trans he), (getF_of_regs hr ..).trans hstop, (getF_of_regs hr ..).trans hwhy, ?_, ?_, ?_⟩
  · rw [getW_of_regs hr, hirq]
  · exact ((ho.1.mono (by simp)).trans (honly.1.mono (by simp +contextual))).of_eq hr
  · exact hbs.trans (honly.2.trans ho.2)

/-! ## FREEZE and IRQ_EN -/

/-- A write of FREEZE takes the bit; a page that is frozen has its counters copied, and no other register changes (R56). -/
theorem completes_freeze {s : State} {who : Agent} {p : Nat} {on : Bool} (h : writeReaches s who p 0x08 = true) :
    Completes (.freezeWrite who p on) s fun u =>
      getB u p F.PAGE_CTL_FREEZE = on ∧ pageEnabled u p = pageEnabled s p ∧ SameRegs [regKey p 0x08] s u ∧
        beside { u with frozen := s.frozen } = beside s := by
  refine completes_ctl h (.inr rfl) rfl fun t u ho hbits hr hbs => ?_
  have he : (getW t p 0x08).getLsbD 0 = (getW s p 0x08).getLsbD 0 := hbits 0 (.inl rfl)
  have hf : (getW t p 0x08).getLsbD 2 = on := hbits 2 (.inr rfl)
  have hnote : ∃ z, pageCtlNote t p (getW s p 0x08) (getW t p 0x08) = { t with frozen := z } := by
    rw [pageCtlNote_freeze he]
    split
    · exact ⟨_, rfl⟩
    · exact ⟨t.frozen, rfl⟩
  obtain ⟨z, hz⟩ := hnote
  rw [hz] at hr hbs
  have hctl : getW u p 0x08 = getW t p 0x08 := getW_of_regs hr ..
  refine ⟨by rw [getB_freeze_eq, hctl, hf], by rw [pageEnabled_eq, pageEnabled_eq, hctl, he], ho.1.of_eq hr, ?_⟩
  calc beside { u with frozen := s.frozen } = { beside u with frozen := s.frozen } := rfl
    _ = { beside t with frozen := s.frozen } := by rw [hbs]; rfl
    _ = beside s := by rw [ho.2]; rfl

/-- A write of IRQ_EN takes the bits of the page's sources, and raw sources that it enables become pending (R57). -/
theorem completes_irqEn {s : State} {who : Agent} {p : Nat} {v : Word} (h : writeReaches s who p 0x14 = true) :
    Completes (.irqEnWrite who p v) s fun u =>
      getW u p 0x14 = v &&& irqMask p ∧ getW u p 0x18 = getW s p 0x18 ||| (getW s p 0x10 &&& (v &&& irqMask p)) ∧
        OnlyRegs [regKey p 0x14, regKey p 0x18] s u := by
  have hp := writeReaches_page h
  obtain ⟨t, hs, hw, ho⟩ := storeWrite_en (accNext (cleared s)) p v v
  have hj := judged_header (s := accNext (cleared s)) (who := who) (v := v) hp (show 0x14 < 0x40 by decide) (by decide) (by decide) (by simp)
  rw [hs] at hj
  rw [storedWord_en hp] at hw
  have hkeep : ∀ o, o / 4 ≠ 5 → getW t p o = getW s p o := fun o hne => ho.1.getW (by simpa [regKey_inj] using hne)
  refine completes_write h rfl rfl hj fun u hr hbs _ => ⟨?_, ?_, ?_, ?_⟩
  · rw [getW_of_regs hr, irqEnNote, getW_setW_ne _ _ (regKey_off_ne (by decide)), hw]
  · rw [getW_of_regs hr, irqEnNote, getW_setW_same, hkeep _ (by decide), hkeep _ (by decide)]
  · exact SameRegs.of_eq (SameRegs.setW (SameRegs.mono ho.1 (by simp)) (by simp)) hr
  · exact hbs.trans ho.2

/-! ## Block resets -/

/-- A write of BLOCK_RESET with ENABLE and FREEZE as they stand is a block reset and stores nothing else (R55). -/
theorem judged_blockReset {s : State} {who : Agent} {p : Nat} (hp : pageAssigned p = true) :
    judged s who p 0x08 (getW s p 0x08 ||| 2#32) = (ackOk, blockReset s p) := by
  have hstore : storeWrite s p 0x08 (getW s p 0x08 ||| 2#32) (getW s p 0x08 ||| 2#32) = s := by
    have hkept : storedWord p 0x08 (getW s p 0x08) (getW s p 0x08 ||| 2#32) (getW s p 0x08 ||| 2#32) = getW s p 0x08 :=
      (storedWord_ctl hp _ _ _).trans (ctlStored_blockReset _)
    simp only [storeWrite, show ¬(0x08 = 0x1C) by decide, show ¬(0x08 = 0x14) by decide, false_and, if_false, hkept, if_true]
    rw [afterWrite_ctl, pageCtlNote_enable rfl rfl, beq_self_eq_true, if_pos rfl]
  have hbit : (getW s p 0x08 ||| 2#32).getLsbD 1 = true := by
    rw [BitVec.getLsbD_or]
    exact Bool.or_eq_true_iff.mpr (.inr (by decide))
  have hlock : lockAllows s p 0x08 (getW s p 0x08 ||| 2#32) = true := lockAllows_header hp (by decide)
  have hval : valueOk s p 0x08 (getW s p 0x08 ||| 2#32) = true := valueOk_header hp (by decide)
  simp only [lockAllows, Bool.and_eq_true, Bool.not_eq_true'] at hlock
  obtain ⟨hrwl, hservo⟩ := hlock
  simp only [valueOk, beq_iff_eq] at hval
  unfold judged
  rw [if_neg (by decide), if_neg (by decide), hrwl, hservo, noCommand_header (by decide), hval, hstore]
  simp only [Bool.false_eq_true, if_false, hbit, and_self, if_true]

/-- No page of the ring die lies in the range of the field die's ports. -/
theorem ringPage_outside {p : Nat} (h : isFieldPage p = false) : ¬(0x100 ≤ p ∧ p ≤ 0x141) := by
  simp only [isFieldPage, Bool.or_eq_false_iff, Bool.and_eq_false_iff, decide_eq_false_iff_not] at h
  omega

/-- Outside the field die and the host bridge a block reset ends no item (R55). -/
theorem endItems_ring (s : State) {p : Nat} (cause : Nat) (hf : isFieldPage p = false) (hb : p ≠ Pg.brg) (hw : p ≠ Pg.win) :
    endItems s p St.aborted cause = s := by
  have hout := ringPage_outside hf
  have hser : ¬(0x100 ≤ p ∧ p ≤ 0x12F) := by omega
  have husb : ¬(p = Pg.usf ∨ p = Pg.usb) := by simp only [Pg.usf, Pg.usb]; omega
  simp only [endItems, hf, Bool.false_eq_true, if_false, hb, hw, or_self, hser, husb, show ¬(St.aborted = St.hang) by decide]

/-- A block with nothing in hand only holds STATE at RESETTING (R55). -/
theorem blockReset_quiet {s : State} {p : Nat} (h : resetQuiet s p = true) : blockReset s p = setF s p F.PAGE_STAT_STATE 2 := by
  simp only [resetQuiet, Bool.and_eq_true, Bool.or_eq_true, bne_iff_ne, beq_iff_eq, Bool.not_eq_true', Option.isNone_iff_eq_none] at h
  obtain ⟨⟨⟨⟨⟨⟨_, hf⟩, hbridge⟩, hdrw⟩, hfwu⟩, hbst⟩, hprt⟩ := h
  simp only [List.contains_eq_mem, decide_eq_false_iff_not, List.mem_cons, List.not_mem_nil, or_false, not_or] at hbridge
  obtain ⟨hb, hw, hc⟩ := hbridge
  have hout := ringPage_outside hf
  unfold blockReset
  rw [endItems_ring _ _ hf hb hw, if_neg hc, if_neg (by simp only [Pg.usf]; omega), if_neg (by simp only [Pg.usb]; omega), if_neg (by omega)]
  split
  · rename_i hp
    have hjob : s.fwu.job = 0 := hfwu.resolve_left (not_not_intro hp)
    simp only [fwuAbandon, setF_fwu, hjob, if_true]
  split
  · rename_i hp
    have hjob : s.start.job = none := hdrw.resolve_left (not_not_intro hp)
    simp only [switchAbandon, setF_start, hjob]
  rw [if_neg (by omega)]
  split
  · rename_i hp
    have hpass : s.test.pass = none := hbst.resolve_left (not_not_intro hp)
    simp only [passAbort, setF_test, hpass]
  split
  · rename_i hp
    subst hp
    have hlock : getB (setF s Pg.prt F.PAGE_STAT_STATE 2) Pg.prt F.PRT_STAT_TEST_UNLOCK = false := by
      rw [getB, getF_setF_ne _ _ _ _ _ _ (by decide)]
      exact hprt.resolve_left (not_not_intro rfl)
    simp only [testUnlockEnd, hlock, Bool.false_eq_true, if_false]
  · rfl

/-- A block reset of a block with nothing in hand (R55). -/
theorem completes_blockReset {s : State} {who : Agent} {p : Nat} (hq : resetQuiet s p = true) (h : writeReaches s who p 0x08 = true) :
    Completes (.blockReset who p) s fun u => pageBusyState u p = 2 ∧ OnlyRegs [regKey p 0x0C] s u := by
  have hj := judged_blockReset (s := accNext (cleared s)) (who := who) (writeReaches_page h)
  rw [blockReset_quiet (s := accNext (cleared s)) hq] at hj
  refine completes_write h rfl rfl hj fun u hr hbs _ => ⟨?_, ?_, ?_⟩
  · rw [pageBusyState, getF_of_regs hr, getF_setF_same _ _ _ _ _ (by decide)]
    rfl
  · exact SameRegs.of_eq (SameRegs.setF (SameRegs.refl _ _) (by simp [fKey, F.PAGE_STAT_STATE])) hr
  · exact hbs

/-- The registers of a page by their Warm column, and no others (R10). -/
theorem tabGet_warmRegs (s : State) (sel : Nat → Bool) (k : Nat) :
    tabGet (warmRegs s sel).regs k =
      if sel (k / 1024) then (tabGet s.regs k).map (warmWord (k / 1024) (4 * (k % 1024))) else tabGet s.regs k := by
  have hmap : (warmRegs s sel).regs = s.regs.map fun e => (e.1, (if sel (e.1 / 1024) then warmWord (e.1 / 1024) (4 * (e.1 % 1024)) e.2 else e.2)) := by
    unfold warmRegs
    exact List.map_congr_left fun e _ => by split <;> rfl
  rw [hmap, tabGet_map fun k v => if sel (k / 1024) then warmWord (k / 1024) (4 * (k % 1024)) v else v]
  split
  · rfl
  · exact Option.map_id'

/-- A register's key gives its page and its word number back. -/
theorem regKey_split {p o : Nat} (h : o < 0x1000) : regKey p o / 1024 = p ∧ regKey p o % 1024 = o / 4 := by
  unfold regKey; omega

/-- A plain block has no state of its own beside its registers (R10). -/
theorem blockResetEnd_plain {s : State} {p : Nat} (hp : plainBlock p = true) (hs : pageBusyState s p = 2) :
    blockResetEnd s p = setF (warmRegs s (· == p)) p F.PAGE_STAT_STATE 0 := by
  simp only [plainBlock, Bool.and_eq_true, decide_eq_true_eq, Bool.not_eq_true', List.contains_eq_mem, decide_eq_false_iff_not, List.mem_cons,
    List.not_mem_nil, or_false, not_or] at hp
  obtain ⟨⟨_, hlow⟩, hseq, hjrn, htmk, htsq, htrg, hpar, hmir⟩ := hp
  have hhigh : ∀ q, 0x40 ≤ q → p ≠ q ∧ ¬ q ≤ p := fun q hq => by omega
  have hblock : ∀ t : State, blockState t p = t := fun t => by
    simp [blockState, hseq, hjrn, htmk, htsq, htrg, hpar, hmir, hhigh, Pg.slu40, Pg.pin, Pg.dis, Pg.soe]
  rw [blockResetEnd, if_pos hs, hblock]
  simp only [(hhigh Pg.usf (by decide)).1, (hhigh Pg.usb (by decide)).1, if_false]

/-- A block reset of a plain block ends: STATE returns to 0, and every register is treated by its Warm column (R10, R55). -/
theorem blockResetEnd_spec {s : State} {p : Nat} (hp : plainBlock p = true) (hs : pageBusyState s p = 2) :
    pageBusyState (blockResetEnd s p) p = 0 ∧ beside (blockResetEnd s p) = beside s ∧
      (∀ q o, q ≠ p → o < 0x1000 → getW (blockResetEnd s p) q o = getW s q o) ∧
      ∀ o, o < 0x1000 → o / 4 ≠ 3 → tabGet (blockResetEnd s p).regs (regKey p o) = (tabGet s.regs (regKey p o)).map (warmWord p (o / 4 * 4)) := by
  rw [blockResetEnd_plain hp hs]
  have hsame : SameRegs [regKey p 0x0C] (warmRegs s (· == p)) (setF (warmRegs s (· == p)) p F.PAGE_STAT_STATE 0) :=
    (SameRegs.refl _ _).setF (by simp [fKey, F.PAGE_STAT_STATE])
  refine ⟨?_, rfl, fun q o hq ho => ?_, fun o ho hne => ?_⟩
  · rw [pageBusyState, getF_setF_same _ _ _ _ _ (by decide)]
    rfl
  · obtain ⟨hpage, _⟩ := regKey_split (p := q) ho
    rw [hsame.getW (by simpa using regKey_page_ne hq (by decide) ho), getW, tabGet_warmRegs, hpage, if_neg (by simpa using hq), getW]
  · obtain ⟨hpage, hword⟩ := regKey_split (p := p) ho
    rw [hsame _ (by simpa [regKey_inj] using hne), tabGet_warmRegs, hpage, hword, if_pos (by simp), Nat.mul_comm]

/-- Settles O12: what each row of page control does at its page, the block resets, and the late acknowledge. -/
theorem pageControlAndResets : Obligations.PageControlAndResets := by
  unfold Obligations.PageControlAndResets
  refine ⟨fun s who p => ⟨fun on h hq => completes_enable_quiet h hq, ?_, ?_, ?_, fun on h => completes_freeze h, fun v h => completes_irqEn h⟩,
    fun s who p => ⟨completes_blockReset, fun ha hp hs => ?_, fun data ha => completes_during ha rfl rfl⟩⟩
  · rintro n on hn rfl h hch
    exact completes_enable_can hn h hch
  · rintro n hn rfl h hoff
    exact completes_enable_ser hn h hoff
  · rintro n hn rfl h hon hrun
    exact completes_enable_ben hn h hon hrun
  · refine completes_during ha rfl ?_
    have hs' : pageBusyState (cleared s) p = 2 := hs
    rw [if_pos hs']
    exact blockResetEnd_spec hp hs'

end Sys2Proof.Machine
end

section
/-! PROOFS. Handshake bounds, interrupt vectors and the watch measurement (R27 to R30, R64, R213). -/

namespace Sys2Proof.Machine

/-! ## Acknowledges (R30) -/

/-- An acknowledge in the same step leaves nothing of the bound's expiry. -/
theorem handshakeExpire_ack (s : State) (p : Nat) (cls : HsClass) : handshakeExpire s p cls true = s := by
  rw [handshakeExpire, Bool.true_or, if_pos rfl]

/-- A bound that the acknowledge meets expires without an effect (R30). -/
theorem exec_handshakeTimeout_ack {s : State} (h : alive s = true) (p : Nat) (cls : HsClass) :
    exec (.handshakeTimeout p cls true) s = .next (settle (cleared s)) :=
  congrArg _ ((during_alive h _).trans (congrArg settle (handshakeExpire_ack ..)))

/-- An acknowledge that comes late is discarded (R30). -/
theorem exec_lateAcknowledge {s : State} (h : alive s = true) (p : Nat) (data : List Byte) :
    exec (.lateAcknowledge p data) s = .next (settle (cleared s)) :=
  congrArg _ (during_alive h _)

/-- Settles O9: both commands are the end of a step on the state as it was. -/
theorem acknowledgeWinsOrIsLate : Obligations.AcknowledgeWinsOrIsLate :=
  fun _ p cls data h => ⟨exec_handshakeTimeout_ack h p cls, exec_lateAcknowledge h p data, fun _ => ⟨rfl, rfl⟩⟩

/-! ## Interrupt vectors -/

theorem intr_of_beside {s t : State} (h : beside s = beside t) : s.intr = t.intr :=
  show (beside s).intr = (beside t).intr by rw [h]

/-- An interrupt event and the bookkeeping of an access do not meet. -/
theorem irqEvent_accNext (s : State) (p b : Nat) : irqEvent (accNext (cleared s)) p b = accNext (cleared (irqEvent s p b)) := by
  by_cases h : getW s p 0x14 &&& BitVec.ofNat 32 (2 ^ b) = 0#32
  · have h' : getW (accNext (cleared s)) p 0x14 &&& BitVec.ofNat 32 (2 ^ b) = 0#32 := h
    rw [irqEvent, irqEvent, if_pos h, if_pos h']
    rfl
  · have h' : ¬(getW (accNext (cleared s)) p 0x14 &&& BitVec.ofNat 32 (2 ^ b) = 0#32) := h
    rw [irqEvent, irqEvent, if_neg h, if_neg h']
    rfl

/-- The state in which INT.EOI judges its vector: a source that meets the write has come (R64). -/
def eoiSource (s : State) : Option (Nat × Nat) → State
  | none => s
  | some m => irqEvent s m.1 m.2

theorem beside_eoiSource (s : State) (meet : Option (Nat × Nat)) : beside (eoiSource s meet) = beside s := by
  cases meet with
  | none => rfl
  | some m => exact beside_irqEvent ..

theorem eoiSource_accNext (s : State) (meet : Option (Nat × Nat)) : eoiSource (accNext (cleared s)) meet = accNext (cleared (eoiSource s meet)) := by
  cases meet with
  | none => rfl
  | some m => exact irqEvent_accNext ..

/-- A vector that has fired has fired, whatever else has gone out besides (R213). -/
theorem Fires.transfer {s t u w : State} {v : Nat} (h : Fires s u v) (hfree : msixFree t v = msixFree s v) (hintr : w.intr = u.intr)
    (hout : ∀ x ∈ u.out, x ∈ w.out) : Fires t w v := by
  unfold Fires at h ⊢
  rw [hfree, hintr]
  split
  · rw [if_pos ‹_›] at h
    exact ⟨hout _ h.1, h.2⟩
  · rwa [if_neg ‹_›] at h

/-- What an access that ends INT.EOI leaves (R64). -/
theorem eoi_completed {s u : State} {v : Nat} {meet : Option (Nat × Nat)} (hv : v < 64) (hr : u.regs = (eoi (accNext (cleared s)) v meet).regs)
    (hbs : beside u = beside (eoi (accNext (cleared s)) v meet)) (hout : ∀ x ∈ (eoi (accNext (cleared s)) v meet).out, x ∈ u.out) :
    (if vecLevel (eoiSource s meet) v then Fires (eoiSource s meet) u v else u.intr = s.intr) ∧ u.regs = (eoiSource s meet).regs ∧
      beside { u with intr := s.intr } = beside s := by
  have hside := beside_eoiSource s meet
  obtain ⟨hfire, hregs, hrest⟩ := eoi_spec (accNext (cleared s)) v hv meet (eoiSource (accNext (cleared s)) meet) (by cases meet <;> rfl)
  rw [eoiSource_accNext] at hfire hregs hrest
  generalize eoiSource s meet = src at hside hfire hregs hrest ⊢
  have hintr : u.intr = (eoi (accNext (cleared s)) v meet).intr := intr_of_beside hbs
  refine ⟨?_, hr.trans hregs, ?_⟩
  · have hlevel : vecLevel (accNext (cleared src)) v = vecLevel src v := rfl
    rw [hlevel] at hfire
    split
    · rw [if_pos ‹_›] at hfire
      exact hfire.transfer rfl hintr hout
    · rw [if_neg ‹_›] at hfire
      rw [hintr, hfire]
      exact intr_of_beside hside
  · calc beside { u with intr := s.intr } = { beside u with intr := s.intr } := rfl
      _ = { beside { eoi (accNext (cleared s)) v meet with intr := src.intr } with intr := s.intr } := by rw [hbs]; rfl
      _ = { beside src with intr := s.intr } := by rw [show src.intr = (accNext (cleared src)).intr from rfl, hrest]; rfl
      _ = beside s := by rw [hside]; rfl

/-- A write of INT.EOI is the EOI of its vector. -/
theorem judged_eoi (s : State) (who : Agent) {v : Nat} (hv : v < 64) :
    judged s who Pg.int 0x44 (BitVec.ofNat 32 (v % 64)) = (ackOk, eoi s v none) := by
  have hw : wordBits (BitVec.ofNat 32 (v % 64)) 0 6 = v := by
    simp only [wordBits, BitVec.toNat_ofNat]
    omega
  refine judged_command (by decide) (by decide) (lockAllows_of (by decide) (.inl (by decide))) ?_
  rw [if_neg (by decide), ringCmd, if_neg (by decide), if_pos rfl, if_pos rfl, hw]

/-- A write of INT.EOI fires its vector where the level is 1 (R64). -/
theorem completes_eoi {s : State} {who : Agent} {v : Nat} (hv : v < 64) (h : writeReaches s who Pg.int 0x44 = true) :
    Completes (.intEoi who v none) s fun u =>
      (if vecLevel s v then Fires s u v else u.intr = s.intr) ∧ u.regs = s.regs ∧ beside { u with intr := s.intr } = beside s :=
  completes_write h rfl rfl (judged_eoi _ who hv) fun _ hr hbs hout => eoi_completed hv hr hbs hout

/-- A source that becomes pending in the same step counts before the write (R64). -/
theorem completes_eoi_meet {s : State} {who : Agent} {v p b : Nat} (hv : v < 64) (ha : alive s = true) (hp : pageAssigned p = true)
    (hb : b < irqCount p) : Completes (.intEoi who v (some (p, b))) s fun u =>
      (if vecLevel (irqEvent s p b) v then Fires (irqEvent s p b) u v else u.intr = s.intr) ∧ u.regs = (irqEvent s p b).regs ∧
        beside { u with intr := s.intr } = beside s := by
  refine completes_during ha rfl ?_
  have hmeet : (if pageAssigned p && decide (b < irqCount p) then some (p, b) else none) = some (p, b) := if_pos (by simp [hp, hb])
  obtain ⟨accs, o, hend⟩ := accEnd_ok (eoi (accNext (cleared s)) v (some (p, b))) who s.cul.accId 0 [] (accExec 2 Pg.int 0x44 4 [])
  dsimp only
  rw [hmeet, Nat.mod_eq_of_lt hv]
  refine eoi_completed (s := s) (meet := some (p, b)) hv (accEnd_ok_regs ..) (beside_accEnd_ok ..) fun x hx => ?_
  rw [show nextAcc (cleared s) = (s.cul.accId, accNext (cleared s)) from rfl, hend]
  exact List.mem_append_left _ hx

/-- A held vector that nothing holds back any more is no longer pending, and goes out where its level is still 1 (R213). -/
theorem msixHeld_spec (s : State) {v : Nat} (hv : v < 64) :
    (if s.intr.pba.getLsbD v ∧ msixFree s v then
      (msixHeld s v).intr.pba.getLsbD v = false ∧ (s.intr.vec.getLsbD v → Out.msix v ∈ (msixHeld s v).out)
      else (msixHeld s v).intr = s.intr) ∧ (msixHeld s v).regs = s.regs ∧ beside { msixHeld s v with intr := s.intr } = beside s := by
  by_cases hsend : s.intr.pba.getLsbD v ∧ msixFree s v
  · rw [if_pos hsend, msixHeld, if_pos (by simpa using hsend)]
    split
    · obtain ⟨hfire, hregs, hrest⟩ := msixFire_fires s v hv
      rw [Fires, if_pos hsend.2] at hfire
      exact ⟨⟨hfire.2, fun _ => hfire.1⟩, hregs, hrest⟩
    · refine ⟨⟨?_, fun hlevel => absurd hlevel ‹_›⟩, rfl, rfl⟩
      rw [bit64_getLsbD _ _ _ _ hv, if_pos rfl]
  · rw [if_neg hsend, msixHeld, if_neg (by simpa using hsend)]
    exact ⟨rfl, rfl, rfl⟩

/-- MSIX_PENDING_SEND (R213). -/
theorem completes_msixHeld {s : State} {v : Nat} (hv : v < 64) (ha : alive s = true) : Completes (.msixPendingSend v) s fun u =>
    (if s.intr.pba.getLsbD v ∧ msixFree s v then u.intr.pba.getLsbD v = false ∧ (s.intr.vec.getLsbD v → Out.msix v ∈ u.out) else u.intr = s.intr) ∧
      u.regs = s.regs ∧ beside { u with intr := s.intr } = beside s := by
  refine completes_during ha rfl ?_
  rw [if_pos hv]
  exact msixHeld_spec (cleared s) hv

/-! ## Fault records -/

/-- The registers that a fault record may change: the count of lost records and the interrupt source of page BST (R450). -/
def flogKeys : List Nat := [regKey Pg.bst 0x10, regKey Pg.bst 0x18, fKey Pg.bst F.BST_FLOG_OVF_COUNT]

/-- A fault record changes no register but those that tell of its loss. -/
theorem sameRegs_faultLog (s : State) (k c pg d : Nat) : SameRegs flogKeys s (faultLog s k c pg d) := by
  unfold faultLog
  split
  · exact SameRegs.refl _ _
  · exact ((SameRegs.refl _ _).bumpSat (by simp [flogKeys])).irqEvent (by simp [flogKeys]) (by simp [flogKeys])

/-- A fault record joins the log while it has room (R450). -/
theorem faultLog_room {s : State} (k c pg d : Nat) (h : s.test.flog.length < 128) :
    (faultLog s k c pg d).test.flog.length = s.test.flog.length + 1 := by
  rw [faultLog, if_pos h, List.length_append, List.length_singleton]

/-! ## The watch measurement (R27) -/

/-- A deviation within ±5 % is stored. -/
theorem watchOne_within {s : State} {dev : Int} (die : Nat) (f oot : FieldD) (h1 : dev ≤ 500) (h2 : -500 ≤ dev) :
    watchOne s dev die f oot = setF s Pg.gen f (ofSigned 16 dev) := by
  rw [watchOne, if_neg (by simp only [Bool.or_eq_true, decide_eq_true_eq]; omega)]

/-- The registers of page GEN past the header, once one oscillator has been measured: its deviation is stored, and one beyond ±5 % sets its
out-of-tolerance bit. -/
theorem getF_watchOne (s : State) (dev : Int) (die : Nat) (f oot : FieldD) {g : FieldD} (hg : g.off = 0xC0 ∨ g.off = 0xC4) :
    getF (watchOne s dev die f oot) Pg.gen g =
      getF (if 500 < dev ∨ dev < -500 then setB (setF s Pg.gen f (ofSigned 16 dev)) Pg.gen oot true
        else setF s Pg.gen f (ofSigned 16 dev)) Pg.gen g := by
  have hkey : ∀ k ∈ flogKeys ++ irqKeys Pg.gen, fKey Pg.gen g ≠ k := by
    rcases hg with h | h <;> simp [fKey, h, flogKeys, irqKeys, regKey, Pg.gen, Pg.bst, F.BST_FLOG_OVF_COUNT]
  have hlog : fKey Pg.gen g ∉ flogKeys := fun hm => hkey _ (List.mem_append_left _ hm) rfl
  have hraw : fKey Pg.gen g ≠ regKey Pg.gen 0x10 := hkey _ (by simp [irqKeys])
  have hpend : fKey Pg.gen g ≠ regKey Pg.gen 0x18 := hkey _ (by simp [irqKeys])
  simp only [watchOne, Bool.or_eq_true, decide_eq_true_eq]
  split
  · rw [(sameRegs_faultLog _ _ _ _ _).getF hlog, getF_irqEvent_ne _ _ _ hraw hpend]
  · rfl

section
variable (s : State) (dev : Int) (die : Nat) {f oot g : FieldD} (hf : f.off = 0xC0) (ho : oot.off = 0xC4)
include hf ho

/-- Deviations and out-of-tolerance bits lie in different registers. -/
theorem watch_keys : fKey Pg.gen f ≠ fKey Pg.gen oot ∧ fKey Pg.gen oot ≠ fKey Pg.gen f := by
  simp [fKey, hf, ho, regKey_inj]

/-- A deviation that is measured is stored (R27). -/
theorem getF_watchOne_dev (hw : f.lo + f.w ≤ 32) : getF (watchOne s dev die f oot) Pg.gen f = ofSigned 16 dev % 2 ^ f.w := by
  rw [getF_watchOne _ _ _ _ _ (.inl hf)]
  split
  · rw [setB, getF_setF_ne _ _ _ _ _ _ (watch_keys hf ho).1, getF_setF_same _ _ _ _ _ hw]
  · rw [getF_setF_same _ _ _ _ _ hw]

/-- The other oscillator's deviation stays. -/
theorem getF_watchOne_otherDev (hg : g.off = 0xC0) (ha : f.lo + f.w ≤ g.lo ∨ g.lo + g.w ≤ f.lo) (hw : g.lo + g.w ≤ 32) :
    getF (watchOne s dev die f oot) Pg.gen g = getF s Pg.gen g := by
  have hset : getF (setF s Pg.gen f (ofSigned 16 dev)) Pg.gen g = getF s Pg.gen g := getF_setF_apart _ _ _ _ _ _ _ (hg.trans hf.symm) ha hw
  rw [getF_watchOne _ _ _ _ _ (.inl hg)]
  split
  · rw [setB, getF_setF_ne _ _ _ _ _ _ (watch_keys hg ho).1, hset]
  · exact hset

/-- An out-of-tolerance bit is set by a deviation beyond ±5 %, and stays set (R27). -/
theorem getB_watchOne_oot (h1 : oot.w = 1) (hw : oot.lo + oot.w ≤ 32) :
    getB (watchOne s dev die f oot) Pg.gen oot = (getB s Pg.gen oot || decide (500 < dev ∨ dev < -500)) := by
  rw [getB, getF_watchOne _ _ _ _ _ (.inr ho)]
  split
  · rw [decide_eq_true ‹_›, Bool.or_true]
    exact getB_setB_same _ _ _ _ _ hw h1
  · rw [decide_eq_false ‹_›, Bool.or_false, getF_setF_ne _ _ _ _ _ _ (watch_keys hf ho).2, getB]

/-- The other oscillator's out-of-tolerance bit stays. -/
theorem getB_watchOne_otherOot (hg : g.off = 0xC4) (ha : oot.lo + oot.w ≤ g.lo ∨ g.lo + g.w ≤ oot.lo) (hw : g.lo + g.w ≤ 32) :
    getB (watchOne s dev die f oot) Pg.gen g = getB s Pg.gen g := by
  have hset : getF (setF s Pg.gen f (ofSigned 16 dev)) Pg.gen g = getF s Pg.gen g := getF_setF_ne _ _ _ _ _ _ (watch_keys hf hg).2
  rw [getB, getB, getF_watchOne _ _ _ _ _ (.inr hg)]
  split
  · rw [setB, getF_setF_apart _ Pg.gen oot g _ 0 0 (hg.trans ho.symm) ha hw, hset]
  · rw [hset]

end

/-- WATCH_MEASURE while the reference is there (R27). -/
theorem watchMeasure_spec {s : State} (r f : Int) (h : getB s Pg.tmk F.TMK_STAT_REF_OK = true) :
    getF (watchMeasure s r f) Pg.gen F.GEN_WATCH_RING_DEV = ofSigned 16 r % 65536 ∧
      getF (watchMeasure s r f) Pg.gen F.GEN_WATCH_FIELD_DEV = ofSigned 16 f % 65536 ∧
      getB (watchMeasure s r f) Pg.gen F.GEN_WATCH_STAT_RING_OOT = (getB s Pg.gen F.GEN_WATCH_STAT_RING_OOT || decide (500 < r ∨ r < -500)) ∧
      getB (watchMeasure s r f) Pg.gen F.GEN_WATCH_STAT_FIELD_OOT = (getB s Pg.gen F.GEN_WATCH_STAT_FIELD_OOT || decide (500 < f ∨ f < -500)) ∧
      (r ≤ 500 → -500 ≤ r → f ≤ 500 → -500 ≤ f → OnlyRegs [fKey Pg.gen F.GEN_WATCH_RING_DEV] s (watchMeasure s r f)) := by
  rw [watchMeasure, if_pos h]
  refine ⟨?_, ?_, ?_, ?_, fun h1 h2 h3 h4 => ?_⟩
  · rw [getF_watchOne_otherDev _ _ _ rfl rfl rfl (by decide) (by decide), getF_watchOne_dev _ _ _ rfl rfl (by decide)]
    rfl
  · rw [getF_watchOne_dev _ _ _ rfl rfl (by decide)]
    rfl
  · rw [getB_watchOne_otherOot _ _ _ rfl rfl rfl (by decide) (by decide), getB_watchOne_oot _ _ _ rfl rfl rfl (by decide)]
  · rw [getB_watchOne_oot _ _ _ rfl rfl rfl (by decide), getB_watchOne_otherOot _ _ _ rfl rfl rfl (by decide) (by decide)]
  · rw [watchOne_within _ _ _ h3 h4, watchOne_within _ _ _ h1 h2]
    exact ⟨((SameRegs.refl _ _).setF (by simp)).setF (by simp [fKey, F.GEN_WATCH_RING_DEV, F.GEN_WATCH_FIELD_DEV]), rfl⟩

/-! ## Handshake bounds (R29) -/

/-- A HANG ends nothing at a block of the ring die that holds no items (R29). -/
theorem endItems_hang_quiet {s : State} {p : Nat} (cause : Nat) (h : hangQuiet s p = true) : endItems s p St.hang cause = s := by
  simp only [hangQuiet, Bool.and_eq_true, Bool.or_eq_true, Bool.not_eq_true', Bool.or_eq_false_iff, List.contains_eq_mem, decide_eq_false_iff_not,
    List.mem_cons, List.not_mem_nil, or_false, not_or, List.isEmpty_iff, bne_iff_ne] at h
  obtain ⟨⟨⟨⟨⟨_, hf⟩, hbrg, hwin⟩, _⟩, hflows⟩, hcul⟩ := h
  have hout := ringPage_outside hf
  have hnone : ∀ sel, s.seq.flows = [] → endUnaccepted s sel St.hang cause p = s := fun sel hz => by
    have hmap : ∀ g, mapFlows s g = s := fun g => by
      rw [mapFlows, hz, List.map_nil, ← hz]
    simp only [endUnaccepted, unaccepted, hmap, hz, List.flatMap_nil, List.foldl_nil]
  rw [endItems, hf, if_neg Bool.false_ne_true, if_neg (by simp only [hbrg, hwin, or_self, not_false_eq_true]), if_neg (by omega),
    if_neg (by simp only [Pg.usf, Pg.usb]; omega), if_pos rfl]
  split
  · rename_i hp
    obtain ⟨hz, hw⟩ : s.seq.flows = [] ∧ s.seq.tagWait = [] := hflows.resolve_left fun hno => by simp [hp] at hno
    rw [hnone _ hz, endTagWait, hw, List.foldl_nil, ← hw]
  split
  · rename_i hp
    obtain ⟨hz, _⟩ : s.seq.flows = [] ∧ s.seq.tagWait = [] := hflows.resolve_left fun hno => by simp [hp] at hno
    exact hnone _ hz
  split
  · rename_i hp
    have hw : s.cul.ringW = [] := hcul.resolve_left (not_not_intro hp)
    rw [hangExecs, hw, List.filterMap_nil, List.filter_nil, List.foldl_nil, ← hw, setCul]
  · rfl

/-- The page of a block in HANG: its state, its HANG bit and source, and its error record (R29, R58). -/
def hangMarked (s : State) (p : Nat) : State :=
  noteErr (irqEvent (setF (setB s p F.PAGE_STAT_HANG true) p F.PAGE_STAT_STATE 3) p 0) p (if framePage p then 0 else St.hang) Cause.hang 0

/-- A HANG is told by PAGE_STAT, the interrupt registers and the error registers of its page alone. -/
theorem hangMarked_only (s : State) (p : Nat) : OnlyRegs (regKey p 0x0C :: errKeys p) s (hangMarked s p) := by
  refine ⟨SameRegs.noteErr (SameRegs.irqEvent (((SameRegs.refl _ _).setB ?_).setF ?_) ?_ ?_) fun k hk => List.mem_cons_of_mem _ hk, ?_⟩
  · simp [fKey, F.PAGE_STAT_HANG]
  · simp [fKey, F.PAGE_STAT_STATE]
  · simp [errKeys]
  · simp [errKeys]
  · simp [hangMarked]

/-- PAGE_STAT of a block in HANG (R29). -/
theorem hangMarked_stat (s : State) (p : Nat) : pageBusyState (hangMarked s p) p = 3 ∧ getB (hangMarked s p) p F.PAGE_STAT_HANG = true := by
  have hkeep : ∀ t : State, getW (noteErr (irqEvent t p 0) p (if framePage p then 0 else St.hang) Cause.hang 0) p 0x0C = getW t p 0x0C := fun t =>
    ((((SameRegs.refl (errKeys p) t).irqEvent (by simp [errKeys]) (by simp [errKeys])).noteErr fun _ hk => hk).getW
      (by simp [errKeys, regKey_inj]))
  constructor
  · rw [pageBusyState, hangMarked, getF_of_getW (f := F.PAGE_STAT_STATE) (i := 0) (hkeep _)]
    exact getF_setF_same _ _ _ _ _ (by decide)
  · have hapart : getF (setF (setB s p F.PAGE_STAT_HANG true) p F.PAGE_STAT_STATE 3) p F.PAGE_STAT_HANG =
        getF (setB s p F.PAGE_STAT_HANG true) p F.PAGE_STAT_HANG :=
      getF_setF_apart _ _ _ _ _ _ _ rfl (by decide) (by decide)
    have hb : getB (setB s p F.PAGE_STAT_HANG true) p F.PAGE_STAT_HANG = true := getB_setB_same _ _ _ _ _ (by decide) rfl
    rw [getB, hangMarked, getF_of_getW (f := F.PAGE_STAT_HANG) (i := 0) (hkeep _)]
    rw [getB, ← hapart] at hb
    exact hb

/-- A HANG bears on nothing that a block may hold. -/
theorem hangQuiet_hangMarked (s : State) (p q : Nat) : hangQuiet (hangMarked s p) q = hangQuiet s q := by
  simp only [hangQuiet, hangMarked, noteErr_seq, noteErr_cul, irqEvent_seq, irqEvent_cul, setF_seq, setF_cul, setB_seq, setB_cul]

theorem test_of_beside {s t : State} (h : beside s = beside t) : s.test = t.test :=
  show (beside s).test = (beside t).test by rw [h]

/-- A field of another register than those in which a HANG shows stays. -/
theorem getB_hangMarked (s : State) {p q : Nat} {g : FieldD} (h : fKey q g % 1024 ∉ [3, 4, 6, 7, 8]) : getB (hangMarked s p) q g = getB s q g := by
  have hkey : fKey q g ∉ regKey p 0x0C :: errKeys p := fun hm => h (by
    simp only [errKeys, List.mem_cons, List.not_mem_nil, or_false, regKey] at hm ⊢
    omega)
  rw [getB, (hangMarked_only s p).1.getF hkey, getB]

/-- A HANG of a block with nothing in hand, while AUTO_RESET is as `auto` says (R29). -/
theorem handshakeExpire_quiet {s : State} {p : Nat} {auto : Bool} (cls : HsClass) (h : hangQuiet s p = true)
    (hauto : getB s Pg.gen F.GEN_WATCH_CTL_AUTO_RESET = auto) : handshakeExpire s p cls false =
      faultLog (if auto then blockReset (hangMarked s p) p else hangMarked s p) 1 (hsNumber cls) p 0 := by
  have hend := endItems_hang_quiet Cause.hang ((hangQuiet_hangMarked s p p).trans h)
  have hkeep : getB (hangMarked s p) Pg.gen F.GEN_WATCH_CTL_AUTO_RESET = auto := (getB_hangMarked s (by decide)).trans hauto
  simp only [hangQuiet, Bool.and_eq_true, Bool.not_eq_true', Bool.and_eq_false_iff, decide_eq_false_iff_not] at h
  obtain ⟨⟨⟨⟨⟨hp, _⟩, _⟩, hring⟩, _⟩, _⟩ := h
  have hports : ¬(0x010 ≤ p ∧ p ≤ 0x013) := by omega
  rw [hangMarked] at hend hkeep ⊢
  simp only [handshakeExpire, hp, Bool.not_true, Bool.or_self, Bool.false_eq_true, if_false, hend, if_neg hports, hkeep]

/-- PAGE_STAT after a fault record. -/
theorem pageStat_faultLog (s : State) (k c pg d p : Nat) :
    pageBusyState (faultLog s k c pg d) p = pageBusyState s p ∧ getB (faultLog s k c pg d) p F.PAGE_STAT_HANG = getB s p F.PAGE_STAT_HANG := by
  have hkey : regKey p 0x0C ∉ flogKeys := by
    simp only [flogKeys, fKey, regKey, Pg.bst, F.BST_FLOG_OVF_COUNT, List.mem_cons, List.not_mem_nil, or_false]
    omega
  have hkey' : fKey p F.PAGE_STAT_HANG ∉ flogKeys := hkey
  exact ⟨(sameRegs_faultLog _ _ _ _ _).getF hkey, by rw [getB, (sameRegs_faultLog _ _ _ _ _).getF hkey', getB]⟩

/-- A bound's expiry that ends with its fault record completes with PAGE_STAT as it stood before the record (R450). -/
theorem completes_timeout {s t : State} {p n : Nat} {cls : HsClass} (ha : alive s = true)
    (he : handshakeExpire (cleared s) p cls false = faultLog t 1 (hsNumber cls) p 0) (hstate : pageBusyState t p = n)
    (hhang : getB t p F.PAGE_STAT_HANG = true) (htest : t.test = s.test) : Completes (.handshakeTimeout p cls false) s fun u =>
      pageBusyState u p = n ∧ getB u p F.PAGE_STAT_HANG = true ∧ (s.test.flog.length < 128 → u.test.flog.length = s.test.flog.length + 1) := by
  obtain ⟨hs, hh⟩ := pageStat_faultLog t 1 (hsNumber cls) p 0 p
  refine completes_during ha rfl ?_
  rw [he, ← htest]
  exact ⟨hs.trans hstate, hh.trans hhang, faultLog_room _ _ _ _⟩

theorem hangMarked_test (s : State) (p : Nat) : (hangMarked s p).test = s.test := test_of_beside (hangMarked_only s p).2

/-- HANDSHAKE_TIMEOUT without the acknowledge and without AUTO_RESET (R29). -/
theorem completes_hang {s : State} {p : Nat} (cls : HsClass) (ha : alive s = true) (hq : hangQuiet s p = true)
    (hauto : getB s Pg.gen F.GEN_WATCH_CTL_AUTO_RESET = false) : Completes (.handshakeTimeout p cls false) s fun u =>
      pageBusyState u p = 3 ∧ getB u p F.PAGE_STAT_HANG = true ∧ (s.test.flog.length < 128 → u.test.flog.length = s.test.flog.length + 1) := by
  obtain ⟨hstate, hhang⟩ := hangMarked_stat (cleared s) p
  have hq' : hangQuiet (cleared s) p = true := hq
  exact completes_timeout ha (by rw [handshakeExpire_quiet cls hq' hauto, if_neg Bool.false_ne_true]) hstate hhang (hangMarked_test (cleared s) p)

/-- What a block reset would end is not there after a HANG of a block that had nothing in hand. -/
theorem resetQuiet_hangMarked {s : State} {p : Nat} (q : Nat) (h : resetQuiet s q = true) : resetQuiet (hangMarked s p) q = true := by
  rw [resetQuiet] at h ⊢
  rw [getB_hangMarked s (by decide), hangMarked_test]
  simpa only [hangMarked, noteErr_start, noteErr_fwu, irqEvent_start, irqEvent_fwu, setF_start, setF_fwu, setB_start, setB_fwu] using h

/-- HANDSHAKE_TIMEOUT without the acknowledge and with AUTO_RESET: the block is in its reset (R29, R55). -/
theorem completes_hang_reset {s : State} {p : Nat} (cls : HsClass) (ha : alive s = true) (hq : hangQuiet s p = true) (hr : resetQuiet s p = true)
    (hauto : getB s Pg.gen F.GEN_WATCH_CTL_AUTO_RESET = true) : Completes (.handshakeTimeout p cls false) s fun u =>
      pageBusyState u p = 2 ∧ getB u p F.PAGE_STAT_HANG = true ∧ (s.test.flog.length < 128 → u.test.flog.length = s.test.flog.length + 1) := by
  obtain ⟨_, hhang⟩ := hangMarked_stat (cleared s) p
  have hq' : hangQuiet (cleared s) p = true := hq
  have hr' : resetQuiet (cleared s) p = true := hr
  refine completes_timeout (t := setF (hangMarked (cleared s) p) p F.PAGE_STAT_STATE 2) ha
    (by rw [handshakeExpire_quiet cls hq' hauto, if_pos rfl, blockReset_quiet (resetQuiet_hangMarked p hr')])
    (getF_setF_same _ _ _ _ _ (by decide)) ?_ (hangMarked_test (cleared s) p)
  rw [getB, getF_setF_apart _ p F.PAGE_STAT_STATE F.PAGE_STAT_HANG _ 0 0 rfl (by decide) (by decide)]
  exact hhang

/-- Settles O14: EOI and held vectors, the watch measurement, and HANG of a block of the ring die that holds no items. -/
theorem vectorsWatchAndHandshakes : Obligations.VectorsWatchAndHandshakes := by
  unfold Obligations.VectorsWatchAndHandshakes
  refine ⟨fun s who v hv => ⟨completes_eoi hv, fun p b => completes_eoi_meet hv, completes_msixHeld hv⟩,
    fun s r f ha => ⟨fun href => ?_, fun href => ?_⟩,
    fun s p cls ha => ⟨completes_hang cls ha, completes_hang_reset cls ha, cleared s, exec_handshakeTimeout_ack ha p cls, rfl⟩⟩
  · exact completes_during ha rfl (watchMeasure_spec (s := cleared s) r f href)
  · refine completes_during ha rfl ?_
    have hno : getB (cleared s) Pg.tmk F.TMK_STAT_REF_OK = false := href
    rw [watchMeasure, hno, if_neg Bool.false_ne_true]

end Sys2Proof.Machine
end

section
/-! PROOFS. What the end of frames and records changes: the fabric's own pages, and neither links nor the local time. -/

namespace Sys2Proof.Machine

/-- The pages whose registers the end of a frame or of a record may change: sequencer, switch core, buffer, stamp queues, mirror, and the pages of
flows. -/
def fabricPage (p : Nat) : Prop := p ∈ [Pg.seq, Pg.swc, Pg.buf, Pg.tsq, Pg.mir] ∨ 0x40 ≤ p

/-- The registers of other pages and the local time stand. -/
structure FabricOnly (s t : State) : Prop where
  regs : ∀ k, ¬ fabricPage (k / 1024) → tabGet t.regs k = tabGet s.regs k
  acc : t.time.acc = s.time.acc

theorem fabricPage_flw (flow : Nat) : fabricPage (flwPg flow) := .inr (Nat.le_add_right ..)
theorem fabricPage_seq : fabricPage Pg.seq := .inl (by decide)
theorem fabricPage_swc : fabricPage Pg.swc := .inl (by decide)
theorem fabricPage_buf : fabricPage Pg.buf := .inl (by decide)
theorem fabricPage_tsq : fabricPage Pg.tsq := .inl (by decide)
theorem fabricPage_mir : fabricPage Pg.mir := .inl (by decide)

/-! ## Single updates -/

theorem FabricOnly.refl (s : State) : FabricOnly s s := ⟨fun _ _ => rfl, rfl⟩

theorem FabricOnly.trans {s t u : State} (a : FabricOnly s t) (b : FabricOnly t u) : FabricOnly s u :=
  ⟨fun k hk => (b.regs k hk).trans (a.regs k hk), b.acc.trans a.acc⟩

/-- An update beside the registers and the local time. -/
theorem FabricOnly.of_eq {s t u : State} (a : FabricOnly s t) (hr : u.regs = t.regs) (hacc : u.time.acc = t.time.acc) : FabricOnly s u :=
  a.trans ⟨fun k _ => by rw [hr], hacc⟩

theorem FabricOnly.setW {s t : State} {p o : Nat} {v : Word} (a : FabricOnly s t) (hp : fabricPage p) (ho : o < 0x1000) :
    FabricOnly s (setW t p o v) := by
  refine a.trans ⟨fun k hk => tabGet_tabSet_ne _ _ ?_, rfl⟩
  rintro rfl
  rw [(regKey_split ho).1] at hk
  exact hk hp

theorem FabricOnly.setF {s t : State} {p : Nat} {f : FieldD} {v i : Nat} (a : FabricOnly s t) (hp : fabricPage p)
    (ho : f.off + f.stride * i < 0x1000) : FabricOnly s (setF t p f v i) := a.setW hp ho

theorem FabricOnly.bump {s t : State} {p : Nat} {f : FieldD} {n i : Nat} (a : FabricOnly s t) (hp : fabricPage p)
    (ho : f.off + f.stride * i < 0x1000) : FabricOnly s (bump t p f n i) := a.setW hp ho

theorem FabricOnly.bumpSat {s t : State} {p : Nat} {f : FieldD} {n i : Nat} (a : FabricOnly s t) (hp : fabricPage p)
    (ho : f.off + f.stride * i < 0x1000) : FabricOnly s (bumpSat t p f n i) := a.setW hp ho

theorem FabricOnly.irqEvent {s t : State} {p b : Nat} (a : FabricOnly s t) (hp : fabricPage p) : FabricOnly s (irqEvent t p b) := by
  unfold Machine.irqEvent
  dsimp only
  split
  · exact a.setW hp (by decide)
  · exact (a.setW hp (by decide)).setW hp (by decide)

theorem FabricOnly.noteErr {s t : State} {p st c r : Nat} (a : FabricOnly s t) (hp : fabricPage p) : FabricOnly s (noteErr t p st c r) := by
  unfold Machine.noteErr recordErr
  dsimp only
  split
  · exact (a.bumpSat hp (by decide)).irqEvent hp
  · exact ((a.bumpSat hp (by decide)).irqEvent hp).setW hp (by decide)

theorem FabricOnly.setFlow {s t : State} {flow : Nat} {f : IFlow} (a : FabricOnly s t) : FabricOnly s (setFlow t flow f) := a.of_eq rfl rfl
theorem FabricOnly.seq {s t : State} {x : SeqSt} (a : FabricOnly s t) : FabricOnly s { t with seq := x } := a.of_eq rfl rfl
theorem FabricOnly.sw {s t : State} {x : SwitchSt} (a : FabricOnly s t) : FabricOnly s { t with sw := x } := a.of_eq rfl rfl

/-- What each step of a fold keeps, the fold keeps. -/
theorem FabricOnly.foldl {α : Type} {s t : State} {f : State → α → State} (a : FabricOnly s t) (h : ∀ b x, FabricOnly b (f b x)) (l : List α) :
    FabricOnly s (l.foldl f t) := by
  induction l generalizing t with
  | nil => exact a
  | cons x l ih => exact ih (a.trans (h t x))

/-! ## Records -/

theorem fabricOnly_mirrorNote (s : State) (kind key seq : Nat) (body : List Byte) : FabricOnly s (mirrorNote s kind key seq body) := by
  unfold mirrorNote mirrorPush
  split
  · exact .bump (.setF (.of_eq (.refl s) rfl rfl) fabricPage_mir (by decide)) fabricPage_mir (by decide)
  · exact .refl s

theorem fabricOnly_seqLog (s : State) (r : SeqLog) : FabricOnly s (seqLog s r) := by
  unfold seqLog
  split
  · exact ⟨fun _ _ => rfl, rfl⟩
  · exact ((FabricOnly.refl s).bumpSat fabricPage_seq (by decide)).irqEvent fabricPage_seq

theorem fabricOnly_enterResync (s : State) (flow : Nat) : FabricOnly s (enterResync s flow) := by
  unfold enterResync
  dsimp only
  split
  · exact ⟨fun _ _ => rfl, rfl⟩
  · exact ((FabricOnly.refl s).irqEvent (fabricPage_flw flow)).of_eq rfl rfl

theorem fabricOnly_slotFree (s : State) (flow q : Nat) : FabricOnly s (slotFree s flow q) := ⟨fun _ _ => rfl, rfl⟩

/-- A record that closes is logged, mirrored and told to its initiator, and may bring its flow into resynchronization. -/
theorem fabricOnly_closeRec (s : State) (flow q status cause : Nat) (effectful own : Bool) (data : List Byte) :
    FabricOnly s (closeRec s flow q status cause effectful own data) := by
  unfold closeRec
  extract_lets f oldest
  split
  · exact .refl s
  · extract_lets f1 s1 s2 s3 s4
    have h1 : FabricOnly s s1 := .trans (.setFlow (.refl s)) (fabricOnly_slotFree ..)
    have h2 : FabricOnly s s2 := by
      simp only [s2]
      split
      · exact h1.trans (fabricOnly_seqLog ..)
      · exact h1
    have h3 : FabricOnly s s3 := by
      simp only [s3]
      split
      · exact h2.trans (fabricOnly_mirrorNote ..)
      · exact h2
    have h4 : FabricOnly s s4 := h3.seq
    split
    · exact h1
    · split
      · exact h4.trans (fabricOnly_enterResync ..)
      · exact h4

theorem fabricOnly_requeueSent (s : State) (flow : Nat) : FabricOnly s (requeueSent s flow) :=
  FabricOnly.bump ⟨fun _ _ => rfl, rfl⟩ fabricPage_seq (by decide)

theorem fabricOnly_fenceLift (s : State) (flow : Nat) : FabricOnly s (fenceLift s flow) := by
  unfold fenceLift
  dsimp only
  split
  · exact .trans (.setFlow (.refl s)) (fabricOnly_requeueSent _ flow)
  · exact .refl s

theorem fabricOnly_fenceStart (s : State) (flow : Nat) : FabricOnly s (fenceStart s flow) := by
  have hmark : ∀ f, FabricOnly s (irqEvent (bump (setFlow s flow f) Pg.swc F.SWC_FENCES) (flwPg flow) 2) := fun f =>
    .irqEvent (.bump (.setFlow (.refl s)) fabricPage_swc (by decide)) (fabricPage_flw flow)
  unfold fenceStart
  dsimp only
  split
  · exact hmark _
  · exact (hmark _).trans (fabricOnly_fenceLift _ flow)

theorem fabricOnly_afterClose (s : State) (flow : Nat) : FabricOnly s (afterClose s flow) := by
  unfold afterClose
  extract_lets f s1 f1
  have h1 : FabricOnly s s1 := by
    simp only [s1]
    split
    · exact fabricOnly_fenceLift s flow
    · exact .refl s
  split
  · exact h1.setFlow
  · exact h1

/-- The paths of a flow are judged anew (R147). -/
theorem fabricOnly_pathRecheck (s : State) (flow : Nat) : FabricOnly s (pathRecheck s flow) := by
  unfold pathRecheck
  dsimp only
  split
  · split
    · split
      · exact ⟨fun _ _ => rfl, rfl⟩
      · exact .refl s
    · split
      · split
        · exact ⟨fun _ _ => rfl, rfl⟩
        · exact fabricOnly_fenceStart s flow
      · exact .refl s
  · exact .refl s

theorem fabricOnly_pathRecheckAll (s : State) : FabricOnly s (pathRecheckAll s) := (FabricOnly.refl s).foldl fabricOnly_pathRecheck _

/-! ## Frames -/

/-- The end of a broadcast at a port closes its record (R122). -/
theorem fabricOnly_bcastEnd (s : State) (tag : Nat) (sent : Bool) : FabricOnly s (bcastEnd s tag sent) := by
  unfold bcastEnd
  split
  · exact .refl s
  · dsimp only
    split
    · exact (fabricOnly_closeRec ..).trans (fabricOnly_afterClose ..)
    · exact ((((FabricOnly.refl s).noteErr fabricPage_swc).irqEvent fabricPage_swc).trans (fabricOnly_closeRec ..)).trans (fabricOnly_afterClose ..)

theorem fabricOnly_agedRec (s : State) (flow q : Nat) : FabricOnly s (agedRec s flow q) := by
  have hfill : ∀ reason, FabricOnly s (startFill s flow q reason) := fun reason => by
    unfold startFill
    dsimp only
    split
    · exact ⟨fun _ _ => rfl, rfl⟩
    · exact ⟨fun _ _ => rfl, rfl⟩
  unfold agedRec
  split
  · exact .refl s
  · split
    · exact .refl s
    · exact hfill _

theorem fabricOnly_sendCpl (s : State) (k : Kvl) (smac : Nat) (port : Option Port) (base nextExp : Nat) (recs : List CplRec) (keep : Option Nat)
    (aged : Bool) : FabricOnly s (sendCpl s k smac port base nextExp recs keep aged) := by
  unfold sendCpl
  split
  · refine FabricOnly.foldl ?_ (fun b _ => (FabricOnly.refl b).noteErr fabricPage_seq) recs
    cases keep with
    | none => exact .refl s
    | some fid => exact ⟨fun _ _ => rfl, rfl⟩
  · exact ⟨fun _ _ => rfl, rfl⟩

/-- A REQ that has aged in a queue: its records are filled where this hub sent them, and completed with AGED where not (R154). -/
theorem fabricOnly_agedReq (s : State) (fid : Nat) (d : Desc) : FabricOnly s (agedReq s fid d) := by
  have hcount : FabricOnly s (irqEvent (bump s Pg.swc F.SWC_AGED_CPL) Pg.swc 3) :=
    ((FabricOnly.refl s).bump fabricPage_swc (by decide)).irqEvent fabricPage_swc
  unfold agedReq
  split
  · exact .refl s
  · dsimp only
    split
    · exact .refl s
    · split
      · exact hcount.foldl (fun b _ => fabricOnly_agedRec b _ _) _
      · exact hcount.sw.trans (fabricOnly_sendCpl ..)

theorem fabricOnly_frameEnded (s : State) (fid : Nat) (d : Desc) : FabricOnly s (frameEnded s fid d) := by
  unfold frameEnded
  dsimp only
  split
  · exact fabricOnly_agedReq ..
  · exact .refl s

theorem portIdx_le (p : Port) : portIdx p ≤ 6 := by cases p <;> decide

/-- The TX stamp of a frame that ends joins its port's queue, or is counted as lost (R229). -/
theorem fabricOnly_tsqPush (s : State) (p : Port) (e : TsqEnt) : FabricOnly s (tsqPush s p e) := by
  have hp := portIdx_le p
  unfold tsqPush
  split
  · exact .refl s
  · split
    · exact FabricOnly.setF ⟨fun _ _ => rfl, rfl⟩ fabricPage_tsq (by simp only [F.TSQ_LEVEL_LEVEL]; omega)
    · exact ((FabricOnly.refl s).bumpSat fabricPage_tsq (by simp only [F.TSQ_OVF_COUNT]; omega)).irqEvent fabricPage_tsq

/-- A reference of a frame ends: what waited for the frame is told (R151). -/
theorem fabricOnly_finishRef (s : State) (fid : Nat) (p : Port) (outcome t : Nat) : FabricOnly s (finishRef s fid p outcome t) := by
  have hp := portIdx_le p
  unfold finishRef
  split
  · exact .refl s
  · extract_lets d1 s1 s2 s3 s4
    have h1 : FabricOnly s s1 := (FabricOnly.refl s).sw
    have h2 : FabricOnly s s2 := by
      simp only [s2]
      split
      · exact h1
      · exact h1.bump fabricPage_swc (by simp only [F.SWC_DOWN_DROP]; omega)
    have h3 : FabricOnly s s3 := by
      simp only [s3]
      split
      · exact h2
      · exact h2.trans (fabricOnly_tsqPush ..)
    have h4 : FabricOnly s s4 := by
      simp only [s4]
      split
      · exact h3.foldl (fun b tag => fabricOnly_bcastEnd b tag _) _
      · exact h3
    exact h4.trans (fabricOnly_frameEnded ..)

/-- A frame on the wire of a port that goes ends without having been sent. -/
theorem fabricOnly_wireEnd (s : State) (p : Port) {outcome : Nat} (h : outcome ≠ 1) : FabricOnly s (wireEnd s p outcome) := by
  have htc : ∀ f, FabricOnly s (tcEnd s p f false) := fun f => by
    simp only [tcEnd, Bool.false_and, Bool.false_eq_true, if_false]
    split
    · exact ⟨fun _ _ => rfl, rfl⟩
    · exact ⟨fun _ _ => rfl, rfl⟩
  have hoff : FabricOnly s (wireOff s p false) := by
    unfold wireOff
    split
    · exact .refl s
    · extract_lets s1
      have h1 : FabricOnly s s1 := by
        simp only [s1]
        split
        · exact htc _
        · exact .refl s
      exact h1.sw
  unfold wireEnd
  split
  · exact .refl s
  · rw [beq_false_of_ne h]
    exact hoff.trans (fabricOnly_finishRef ..)

/-- The reclaim walker takes a port that goes (R156). -/
theorem fabricOnly_reclaimPort (s : State) (p : Port) {outcome : Nat} (h : outcome ≠ 1) : FabricOnly s (reclaimPort s p outcome) := by
  have hclass : ∀ (a : State) (c : Nat), FabricOnly a ((queueOf a p c).foldl (fun b fid => finishRef b fid p outcome 0) (setQueue a p c [])) :=
    fun a c => (FabricOnly.sw (.refl a)).foldl (fun b fid => fabricOnly_finishRef b fid p outcome 0) _
  unfold reclaimPort
  extract_lets used s1 any s2 s3
  have h1 : FabricOnly s s1 := fabricOnly_wireEnd s p h
  have h2 : FabricOnly s s2 := h1.foldl hclass _
  have h3 : FabricOnly s s3 := h2.bump fabricPage_buf (by decide)
  split
  · exact h3.sw
  · exact h3

end Sys2Proof.Machine
end

section
/-! PROOFS. Loss and return of the 25 MHz reference, and PPS in and out (R27, R68, R219, R225, R234, R235). -/

namespace Sys2Proof.Machine

/-! ## Ports that leave UP -/

theorem FabricOnly.getW {s t : State} (a : FabricOnly s t) {p o : Nat} (hp : ¬ fabricPage p) (ho : o < 0x1000) : getW t p o = getW s p o := by
  rw [Machine.getW, a.regs _ (by rw [(regKey_split ho).1]; exact hp), Machine.getW]

theorem FabricOnly.getB {s t : State} (a : FabricOnly s t) {p : Nat} {f : FieldD} {i : Nat} (hp : ¬ fabricPage p)
    (ho : f.off + f.stride * i < 0x1000) : getB t p f i = getB s p f i := by
  rw [Machine.getB, Machine.getF, a.getW hp ho, ← Machine.getF, ← Machine.getB]

/-- The page of an Ethernet port is none of the fabric's. -/
theorem not_fabricPage_port {p : Port} (h : isEthPort p = true) : ¬ fabricPage (portPage p) := by
  cases p <;> simp [isEthPort] at h <;> simp [fabricPage, portPage, portIdx, Pg.port, Pg.seq, Pg.swc, Pg.buf, Pg.tsq, Pg.mir]

theorem portOf_portIdx (p : Port) : portOf (portIdx p) = p := by cases p <;> rfl

/-- Ports are told apart by their pages. -/
theorem portPage_inj {p q : Port} (h : portPage p = portPage q) : p = q := by
  have hidx : portIdx p = portIdx q := Nat.add_left_cancel h
  rw [← portOf_portIdx p, hidx, portOf_portIdx]

/-- The locks of a port in PORT.STAT. -/
def lockFields : List FieldD := [F.PORT_STAT_PCS_LOCK, F.PORT_STAT_FEC_LOCK]

/-- Where the locks lie in PORT.STAT. -/
theorem lockFields_bits : ∀ f ∈ lockFields, f.off + f.stride * 0 = 0x44 ∧ 2 ≤ f.lo ∧ f.lo + f.w ≤ 4 ∧ f.w = 1 := by decide

/-- A port without its locks. -/
def LocksOff (s : State) (p : Port) : Prop := ∀ f ∈ lockFields, getB s (portPage p) f = false

/-- A field of PORT.STAT beside the locks leaves them as they are. -/
theorem getB_setF_lock (s : State) (pg v : Nat) {f g : FieldD} (hf : f ∈ lockFields) (hg : g.off = 0x44) (ha : g.lo + g.w ≤ 2 ∨ 4 ≤ g.lo) :
    getB (setF s pg g v) pg f = getB s pg f := by
  obtain ⟨hoff, hlo, hhi, _⟩ := lockFields_bits f hf
  rw [getB, getF_setF_apart _ pg g f _ 0 0 (hoff.trans hg.symm) (by omega) (by omega), ← getB]

/-- The registers that a change of LINK writes. -/
def linkKeys (p : Port) : List Nat := regKey (portPage p) 0x44 :: irqKeys (portPage p)

/-- What a port that goes DOWN or retrains leaves alone: every register but LINK's, the port's interrupt registers and the fabric's, the port's locks,
and the local time. -/
structure LinkOnly (p : Port) (s t : State) : Prop where
  regs : ∀ k, ¬ fabricPage (k / 1024) → k ∉ linkKeys p → tabGet t.regs k = tabGet s.regs k
  locks : ∀ f ∈ lockFields, getB t (portPage p) f = getB s (portPage p) f
  acc : t.time.acc = s.time.acc

theorem LinkOnly.refl (p : Port) (s : State) : LinkOnly p s s := ⟨fun _ _ _ => rfl, fun _ _ => rfl, rfl⟩

theorem LinkOnly.trans {p : Port} {s t u : State} (a : LinkOnly p s t) (b : LinkOnly p t u) : LinkOnly p s u :=
  ⟨fun k hk hl => (b.regs k hk hl).trans (a.regs k hk hl), fun f hf => (b.locks f hf).trans (a.locks f hf), b.acc.trans a.acc⟩

theorem linkOnly_setStat (p : Port) (s : State) (v : Nat) {g : FieldD} (hg : g.off = 0x44) (ha : g.lo + g.w ≤ 2 ∨ 4 ≤ g.lo) :
    LinkOnly p s (setF s (portPage p) g v) :=
  ⟨fun k _ hl => ((SameRegs.refl (linkKeys p) s).setF (by simp [linkKeys, fKey, hg])) k hl, fun _ hf => getB_setF_lock s _ v hf hg ha, rfl⟩

theorem linkOnly_setLink (p : Port) (s : State) (l : Nat) : LinkOnly p s (setLink s p l) := by
  have hirq : ∀ t, LinkOnly p t (irqEvent t (portPage p) 2) := fun t => by
    have hregs : SameRegs (linkKeys p) t (irqEvent t (portPage p) 2) :=
      (SameRegs.refl _ t).irqEvent (by simp [linkKeys, irqKeys]) (by simp [linkKeys, irqKeys])
    refine ⟨fun k _ hl => hregs k hl, fun f hf => ?_, ?_⟩
    · obtain ⟨hoff, _⟩ := lockFields_bits f hf
      rw [getB, getF_irqEvent_ne _ _ _ (by rw [hoff]; exact regKey_off_ne (by decide)) (by rw [hoff]; exact regKey_off_ne (by decide)), ← getB]
    · rw [irqEvent_time]
  unfold setLink
  split
  · exact .refl p s
  · exact (linkOnly_setStat p s l rfl (by decide)).trans (hirq _)

/-- A port leaves UP (R68, R77, R147, R151). -/
theorem linkOnly_linkGone {p : Port} (s : State) (hp : isEthPort p = true) : LinkOnly p s (linkGone s p) := by
  have hfab : ∀ {t u}, FabricOnly t u → LinkOnly p t u := fun a => by
    refine ⟨fun k hk _ => a.regs k hk, fun f hf => a.getB (not_fabricPage_port hp) ?_, a.acc⟩
    rw [(lockFields_bits f hf).1]
    decide
  unfold linkGone
  extract_lets s1 s2
  have h1 : LinkOnly p s s1 := linkOnly_setLink ..
  have h2 : LinkOnly p s s2 := (h1.trans (linkOnly_setStat p _ 0 rfl (by decide))).trans (linkOnly_setStat p _ 0 rfl (by decide))
  exact h2.trans (hfab ((fabricOnly_reclaimPort s2 p (by decide)).trans (fabricOnly_pathRecheckAll _)))

/-! ## Loss of the reference (R219) -/

/-- A port whose PCS clock is gone loses its locks, and leaves UP. -/
def dropLocks (s : State) (p : Port) : State :=
  if portMode s p = 0 then s
  else
    let b := setB (setB s (portPage p) F.PORT_STAT_PCS_LOCK false) (portPage p) F.PORT_STAT_FEC_LOCK false
    if getF b (portPage p) F.PORT_STAT_LINK = 2 then linkGone b p else setLink b p (restingLink b p)

/-- The loss of the reference, told by TMK and GEN. -/
def refMarked (s : State) : State := irqEvent (setB (setB s Pg.tmk F.TMK_STAT_REF_OK false) Pg.gen F.GEN_WATCH_STAT_UNCHECKED true) Pg.tmk 4

/-- The reference fails: the servo holds, and port after port loses its locks. -/
theorem refGone_eq {s : State} (h : getB s Pg.tmk F.TMK_STAT_REF_OK = true) : refGone s = ethPorts.foldl dropLocks (servoHold (refMarked s)) := by
  rw [refGone, h, Bool.not_true, if_neg Bool.false_ne_true]
  rfl

theorem locksOff_cleared (s : State) (p : Port) :
    LocksOff (setB (setB s (portPage p) F.PORT_STAT_PCS_LOCK false) (portPage p) F.PORT_STAT_FEC_LOCK false) p := by
  intro f hf
  simp only [lockFields, List.mem_cons, List.not_mem_nil, or_false] at hf
  rcases hf with rfl | rfl
  · rw [getB, setB, getF_setF_apart _ _ F.PORT_STAT_FEC_LOCK F.PORT_STAT_PCS_LOCK _ 0 0 rfl (by decide) (by decide), ← getB]
    exact getB_setB_same _ _ _ _ _ (by decide) rfl
  · exact getB_setB_same _ _ _ _ _ (by decide) rfl

/-- What follows of one port leaves the registers of other pages, and its own but PORT.STAT and the interrupt registers, as they are. -/
theorem dropLocks_regs {p : Port} (s : State) (hp : isEthPort p = true) {k : Nat} (hk : ¬ fabricPage (k / 1024)) (hl : k ∉ linkKeys p) :
    tabGet (dropLocks s p).regs k = tabGet s.regs k := by
  have hclear : tabGet (setB (setB s (portPage p) F.PORT_STAT_PCS_LOCK false) (portPage p) F.PORT_STAT_FEC_LOCK false).regs k = tabGet s.regs k :=
    (((SameRegs.refl (linkKeys p) s).setB (List.mem_cons_self ..)).setB (List.mem_cons_self ..)) k hl
  unfold dropLocks
  dsimp only
  split
  · rfl
  split
  · exact ((linkOnly_linkGone _ hp).regs k hk hl).trans hclear
  · exact ((linkOnly_setLink ..).regs k hk hl).trans hclear

/-- A port that has a mode loses its locks. -/
theorem dropLocks_locks {p : Port} {s : State} (hp : isEthPort p = true) (hm : portMode s p ≠ 0) : LocksOff (dropLocks s p) p := by
  have hclear := locksOff_cleared s p
  unfold dropLocks
  rw [if_neg hm]
  dsimp only
  split
  · exact fun f hf => ((linkOnly_linkGone _ hp).locks f hf).trans (hclear f hf)
  · exact fun f hf => ((linkOnly_setLink ..).locks f hf).trans (hclear f hf)

theorem dropLocks_acc {p : Port} (s : State) (hp : isEthPort p = true) : (dropLocks s p).time.acc = s.time.acc := by
  unfold dropLocks
  dsimp only
  split
  · rfl
  split
  · exact (linkOnly_linkGone _ hp).acc
  · exact (linkOnly_setLink ..).acc

/-- What the loss of the reference at the ports keeps: registers of pages that are neither a port's nor the fabric's, the ports' modes, locks that are
gone, and the local time. -/
structure LossKept (s t : State) : Prop where
  regs : ∀ q o, ¬ fabricPage q → (∀ p, isEthPort p = true → q ≠ portPage p) → o < 0x1000 → getW t q o = getW s q o
  mode : ∀ q, isEthPort q = true → portMode t q = portMode s q
  locks : ∀ q, isEthPort q = true → LocksOff s q → LocksOff t q
  acc : t.time.acc = s.time.acc

/-- A register of a port that a change of its LINK leaves, or of another page. -/
theorem not_mem_linkKeys {p : Port} {q o : Nat} (ho : o < 0x1000) (h : q ≠ portPage p ∨ o = 0x40) : regKey q o ∉ linkKeys p := by
  simp only [linkKeys, irqKeys, List.mem_cons, List.not_mem_nil, or_false, regKey]
  omega

theorem getW_dropLocks {p : Port} (s : State) (hp : isEthPort p = true) {q o : Nat} (hq : ¬ fabricPage q) (ho : o < 0x1000)
    (h : q ≠ portPage p ∨ o = 0x40) : getW (dropLocks s p) q o = getW s q o := by
  rw [getW, dropLocks_regs s hp (by rw [(regKey_split ho).1]; exact hq) (not_mem_linkKeys ho h), ← getW]

theorem lossKept_dropLocks {p : Port} (s : State) (hp : isEthPort p = true) : LossKept s (dropLocks s p) := by
  refine ⟨fun q o hq hports ho => getW_dropLocks s hp hq ho (.inl (hports p hp)), fun q hq => ?_, fun q hq hoff => ?_, dropLocks_acc s hp⟩
  · exact getF_of_getW (f := F.PORT_CFG_MODE) (i := 0) (getW_dropLocks s hp (not_fabricPage_port hq) (by decide) (.inr rfl))
  · by_cases hpq : q = p
    · subst hpq
      by_cases hm : portMode s q = 0
      · rwa [dropLocks, if_pos hm]
      · exact dropLocks_locks hp hm
    · intro f hf
      obtain ⟨hbits, _⟩ := lockFields_bits f hf
      rw [getB, getF, getW_dropLocks s hp (not_fabricPage_port hq) (by rw [hbits]; decide) (.inl fun h => hpq (portPage_inj h)), ← getF, ← getB]
      exact hoff f hf

/-- Port after port: what is kept, and that every port that has a mode has lost its locks. -/
theorem foldl_dropLocks {ps : List Port} (h : ∀ p ∈ ps, isEthPort p = true) (s : State) :
    LossKept s (ps.foldl dropLocks s) ∧ ∀ p ∈ ps, portMode s p ≠ 0 → LocksOff (ps.foldl dropLocks s) p := by
  induction ps generalizing s with
  | nil => exact ⟨⟨fun _ _ _ _ _ => rfl, fun _ _ => rfl, fun _ _ h => h, rfl⟩, fun p hp => absurd hp List.not_mem_nil⟩
  | cons x ps ih =>
    have hx : isEthPort x = true := h x List.mem_cons_self
    obtain ⟨hrest, hoff⟩ := ih (fun p hp => h p (List.mem_cons_of_mem _ hp)) (dropLocks s x)
    have hone := lossKept_dropLocks s hx
    rw [List.foldl_cons]
    refine ⟨⟨fun q o hq hports ho => (hrest.regs q o hq hports ho).trans (hone.regs q o hq hports ho),
      fun q hq => (hrest.mode q hq).trans (hone.mode q hq), fun q hq hl => hrest.locks q hq (hone.locks q hq hl), hrest.acc.trans hone.acc⟩,
      fun p hp hm => ?_⟩
    rcases List.mem_cons.mp hp with rfl | hps
    · exact hrest.locks p hx (dropLocks_locks hx hm)
    · exact hoff p hps (by rwa [hone.mode p (h p hp)])

/-! ## The servo in holdover (R232) -/

/-- An interrupt source that is set stays set through an event of its page. -/
theorem irqEvent_raw_mono {s : State} {p i : Nat} (b : Nat) (h : (getW s p 0x10).getLsbD i = true) :
    (getW (irqEvent s p b) p 0x10).getLsbD i = true := by
  rw [getW_irqEvent_raw, BitVec.getLsbD_or, h, Bool.true_or]

/-- What holdover leaves alone: the reference bit, interrupt sources that are set, the local time, and every register but four of page TMK. -/
structure HoldKept (s t : State) : Prop where
  refOk : getB t Pg.tmk F.TMK_STAT_REF_OK = getB s Pg.tmk F.TMK_STAT_REF_OK
  raw : ∀ i, (getW s Pg.tmk 0x10).getLsbD i = true → (getW t Pg.tmk 0x10).getLsbD i = true
  time : t.time = s.time
  regs : SameRegs (fKey Pg.tmk F.TMK_FREQ_FREQ :: fKey Pg.tmk F.TMK_STAT_SERVO_STATE :: irqKeys Pg.tmk) s t

theorem HoldKept.refl (s : State) : HoldKept s s := ⟨rfl, fun _ h => h, rfl, SameRegs.refl _ _⟩

theorem HoldKept.trans {s t u : State} (a : HoldKept s t) (b : HoldKept t u) : HoldKept s u :=
  ⟨b.refOk.trans a.refOk, fun i h => b.raw i (a.raw i h), b.time.trans a.time, a.regs.trans b.regs⟩

theorem holdKept_setFreq (s : State) (f : Int) : HoldKept s (setFreq s f) := by
  unfold setFreq
  split
  · exact .refl s
  · have honly : SameRegs [fKey Pg.tmk F.TMK_FREQ_FREQ] s (ringItem (setF s Pg.tmk F.TMK_FREQ_FREQ (ofSigned 32 f)) (.freq f)) :=
      ((SameRegs.refl _ s).setF (List.mem_singleton_self _)).of_eq rfl
    refine ⟨?_, fun i h => ?_, rfl, honly.mono (by simp)⟩
    · rw [getB, honly.getF (by decide), ← getB]
    · rwa [honly.getW (by decide)]

theorem holdKept_servoState (s : State) (st : Nat) : HoldKept s (servoState s st) := by
  unfold servoState
  split
  · exact .refl s
  · refine ⟨?_, fun i h => irqEvent_raw_mono 3 ?_, ?_, ?_⟩
    · rw [getB, getF_irqEvent_ne _ _ _ (by decide) (by decide),
        getF_setF_apart _ _ F.TMK_STAT_SERVO_STATE F.TMK_STAT_REF_OK _ 0 0 rfl (by decide) (by decide), ← getB]
    · rwa [setF, getW_setW_ne _ _ (by decide)]
    · rw [irqEvent_time, setF_time]
    · exact ((SameRegs.refl _ s).setF (by simp)).irqEvent (by simp [irqKeys]) (by simp [irqKeys])

theorem holdKept_servoHold (s : State) : HoldKept s (servoHold s) := by
  unfold servoHold
  dsimp only
  split
  · exact .refl s
  · exact (holdKept_setFreq ..).trans (holdKept_servoState ..)

/-! ## REF_LOSS and REF_RETURN -/

/-- What TMK and GEN say of the loss. -/
theorem refMarked_spec (s : State) : getB (refMarked s) Pg.tmk F.TMK_STAT_REF_OK = false ∧ getB (refMarked s) Pg.gen F.GEN_WATCH_STAT_UNCHECKED = true ∧
    (getW (refMarked s) Pg.tmk 0x10).getLsbD 4 = true ∧ (refMarked s).time = s.time ∧ ∀ p, portMode (refMarked s) p = portMode s p := by
  have hregs : SameRegs (fKey Pg.tmk F.TMK_STAT_REF_OK :: fKey Pg.gen F.GEN_WATCH_STAT_UNCHECKED :: irqKeys Pg.tmk) s (refMarked s) :=
    (((SameRegs.refl _ s).setB (by simp)).setB (by simp)).irqEvent (by simp [irqKeys]) (by simp [irqKeys])
  refine ⟨?_, ?_, ?_, ?_, fun p => ?_⟩
  · rw [getB, refMarked, getF_irqEvent_ne _ _ _ (by decide) (by decide), setB, getF_setF_ne _ _ _ _ _ _ (by decide), ← getB]
    exact getB_setB_same _ _ _ _ _ (by decide) rfl
  · rw [getB, refMarked, getF_irqEvent_ne _ _ _ (by decide) (by decide), ← getB]
    exact getB_setB_same _ _ _ _ _ (by decide) rfl
  · rw [refMarked, getW_irqEvent_raw, BitVec.getLsbD_or]
    exact Bool.or_eq_true_iff.mpr (.inr (by decide))
  · rw [refMarked, irqEvent_time, setB_time, setB_time]
  · exact hregs.getF (by cases p <;> decide)

/-- The reference fails (R27, R219). -/
theorem refGone_spec {s : State} (h : getB s Pg.tmk F.TMK_STAT_REF_OK = true) :
    getB (refGone s) Pg.tmk F.TMK_STAT_REF_OK = false ∧ getB (refGone s) Pg.gen F.GEN_WATCH_STAT_UNCHECKED = true ∧
      (getW (refGone s) Pg.tmk 0x10).getLsbD 4 = true ∧ (refGone s).time.acc = s.time.acc ∧
      ∀ p ∈ ethPorts, portMode s p ≠ 0 → LocksOff (refGone s) p := by
  obtain ⟨href, hun, hraw, htime, hmode⟩ := refMarked_spec s
  have hhold := holdKept_servoHold (refMarked s)
  obtain ⟨hkept, hoff⟩ := foldl_dropLocks (ps := ethPorts) (by decide) (servoHold (refMarked s))
  have htmk : ∀ o, o < 0x1000 → getW (refGone s) Pg.tmk o = getW (servoHold (refMarked s)) Pg.tmk o := by
    rw [refGone_eq h]
    exact fun o ho => hkept.regs _ o (by simp [fabricPage, Pg.tmk, Pg.seq, Pg.swc, Pg.buf, Pg.tsq, Pg.mir]) (fun p _ => by cases p <;> decide) ho
  have hgen : getW (refGone s) Pg.gen 0xC4 = getW (servoHold (refMarked s)) Pg.gen 0xC4 := by
    rw [refGone_eq h]
    exact hkept.regs _ _ (by simp [fabricPage, Pg.gen, Pg.seq, Pg.swc, Pg.buf, Pg.tsq, Pg.mir]) (fun p _ => by cases p <;> decide) (by decide)
  refine ⟨?_, ?_, ?_, ?_, fun p hp hm => ?_⟩
  · rw [getB, getF_of_getW (f := F.TMK_STAT_REF_OK) (i := 0) (htmk 0x44 (by decide))]
    exact hhold.refOk.trans href
  · rw [getB, getF_of_getW (f := F.GEN_WATCH_STAT_UNCHECKED) (i := 0) hgen]
    have hkeep : getB (servoHold (refMarked s)) Pg.gen F.GEN_WATCH_STAT_UNCHECKED = getB (refMarked s) Pg.gen F.GEN_WATCH_STAT_UNCHECKED := by
      rw [getB, hhold.regs.getF (by decide), ← getB]
    exact hkeep.trans hun
  · rw [htmk 0x10 (by decide)]
    exact hhold.raw 4 hraw
  · rw [refGone_eq h, hkept.acc, hhold.time, htime]
  · rw [refGone_eq h]
    refine hoff p hp ?_
    rwa [portMode, hhold.regs.getF (by cases p <;> decide), ← portMode, hmode]

/-- The reference returns: REF_OK and UNCHECKED follow, and nothing else does (R219). -/
theorem refBack_spec {s : State} (h : getB s Pg.tmk F.TMK_STAT_REF_OK = false) :
    getB (refBack s) Pg.tmk F.TMK_STAT_REF_OK = true ∧ getB (refBack s) Pg.gen F.GEN_WATCH_STAT_UNCHECKED = false ∧
      OnlyRegs [fKey Pg.tmk F.TMK_STAT_REF_OK, fKey Pg.gen F.GEN_WATCH_STAT_UNCHECKED] s (refBack s) := by
  rw [refBack, h, if_neg Bool.false_ne_true]
  refine ⟨?_, getB_setB_same _ _ _ _ _ (by decide) rfl, ((SameRegs.refl _ s).setB (by simp)).setB (by simp), rfl⟩
  rw [getB, setB, getF_setF_ne _ _ _ _ _ _ (by decide), ← getB]
  exact getB_setB_same _ _ _ _ _ (by decide) rfl

/-! ## PPS (R234, R235) -/

/-- An edge that PPS_IN does not take changes nothing. -/
theorem ppsEdge_untaken {s : State} {fall : Bool} (meet : Bool)
    (h : getB s Pg.tmk F.TMK_PPS_IN_EN = false ∨ getB s Pg.tmk F.TMK_PPS_IN_EDGE ≠ fall) :
    ppsEdge s fall meet = s := by
  rw [ppsEdge, if_pos]
  rcases h with h | h <;> simp [h]

/-- The stamp of an edge of PPS_IN, and its source. -/
def ppsStamped (s : State) : State :=
  irqEvent (setF (setF (setF { s with time := { s.time with ppsLast := some s.time.mono } } Pg.tmk F.TMK_PPS_IN_NS_NS (nowNs s)) Pg.tmk
    F.TMK_PPS_IN_SEC_LO_SEC_LO (nowSec s)) Pg.tmk F.TMK_PPS_IN_FRAC_FRAC (now16 s % 16)) Pg.tmk 6

/-- An edge less than 100 ms after the last is rejected and counted. -/
theorem ppsEdge_rejected {s : State} {fall : Bool} {t : Nat} (meet : Bool) (hen : getB s Pg.tmk F.TMK_PPS_IN_EN = true)
    (hedge : getB s Pg.tmk F.TMK_PPS_IN_EDGE = fall) (hlast : s.time.ppsLast = some t) (h : s.time.mono < t + 100000000 * unitNs) :
    ppsEdge s fall meet = bump s Pg.tmk F.TMK_PPS_IN_REJECT := by
  rw [ppsEdge, if_neg (by simp [hen, hedge])]
  extract_lets early
  have hearly : early = true := by
    simp only [early, hlast]
    exact decide_eq_true h
  rw [if_pos hearly]

/-- An edge that PPS_IN takes is stamped; its sample is discarded where it would go to the servo but meets a step. -/
theorem ppsEdge_taken {s : State} {fall meet : Bool} (hen : getB s Pg.tmk F.TMK_PPS_IN_EN = true) (hedge : getB s Pg.tmk F.TMK_PPS_IN_EDGE = fall)
    (hlate : ∀ t, s.time.ppsLast = some t → t + 100000000 * unitNs ≤ s.time.mono) (hfeed : getB s Pg.tmk F.TMK_SERVO_CTL_PPS_FEED = false ∨ meet = true) :
    ppsEdge s fall meet =
      if getB s Pg.tmk F.TMK_SERVO_CTL_PPS_FEED then bump (ppsStamped s) Pg.tmk F.TMK_SERVO_DISCARD else ppsStamped s := by
  rw [ppsEdge, if_neg (by simp [hen, hedge])]
  extract_lets early time s1 q s2 s3
  have hearly : ¬ early = true := by
    simp only [early]
    split
    · rename_i t hlast
      rw [decide_eq_true_eq]
      exact Nat.not_lt_of_le (hlate t hlast)
    · exact Bool.false_ne_true
  have hstamp : s3 = ppsStamped s := rfl
  rw [if_neg hearly, hstamp]
  rcases hfeed with hoff | rfl
  · rw [hoff, Bool.false_and, if_neg Bool.false_ne_true, if_neg Bool.false_ne_true, if_neg Bool.false_ne_true]
  · rw [Bool.and_true]
    split
    · rfl
    · rfl

/-- The stamp's registers. -/
theorem ppsStamped_spec (s : State) : getF (ppsStamped s) Pg.tmk F.TMK_PPS_IN_NS_NS = nowNs s ∧
    getF (ppsStamped s) Pg.tmk F.TMK_PPS_IN_SEC_LO_SEC_LO = nowSec s % 2 ^ 32 ∧ getF (ppsStamped s) Pg.tmk F.TMK_PPS_IN_FRAC_FRAC = now16 s % 16 ∧
    getW (ppsStamped s) Pg.tmk 0x10 = getW s Pg.tmk 0x10 ||| 64#32 ∧
    getF (ppsStamped s) Pg.tmk F.TMK_SERVO_DISCARD = getF s Pg.tmk F.TMK_SERVO_DISCARD ∧
    (ppsStamped s).time = { s.time with ppsLast := some s.time.mono } := by
  have hns : nowNs s % 2 ^ 30 = nowNs s := Nat.mod_eq_of_lt (lt_trans (Nat.mod_lt _ (by decide)) (by decide))
  unfold ppsStamped
  refine ⟨?_, ?_, ?_, ?_, ?_, ?_⟩
  · rw [getF_irqEvent_ne _ _ _ (by decide) (by decide), getF_setF_ne _ _ _ _ _ _ (by decide), getF_setF_ne _ _ _ _ _ _ (by decide),
      getF_setF_same _ _ _ _ _ (by decide)]
    exact hns
  · rw [getF_irqEvent_ne _ _ _ (by decide) (by decide), getF_setF_ne _ _ _ _ _ _ (by decide), getF_setF_same _ _ _ _ _ (by decide)]
    rfl
  · rw [getF_irqEvent_ne _ _ _ (by decide) (by decide), getF_setF_same _ _ _ _ _ (by decide)]
    exact Nat.mod_mod _ _
  · rw [getW_irqEvent_raw, setF, getW_setW_ne _ _ (by decide), setF, getW_setW_ne _ _ (by decide), setF, getW_setW_ne _ _ (by decide)]
    rfl
  · rw [getF_irqEvent_ne _ _ _ (by decide) (by decide), getF_setF_ne _ _ _ _ _ _ (by decide), getF_setF_ne _ _ _ _ _ _ (by decide),
      getF_setF_ne _ _ _ _ _ _ (by decide)]
    rfl
  · rw [irqEvent_time, setF_time, setF_time, setF_time]

/-- What an edge that PPS_IN takes leaves. -/
theorem ppsEdge_spec {s : State} {fall meet : Bool} (hen : getB s Pg.tmk F.TMK_PPS_IN_EN = true) (hedge : getB s Pg.tmk F.TMK_PPS_IN_EDGE = fall)
    (hlate : ∀ t, s.time.ppsLast = some t → t + 100000000 * unitNs ≤ s.time.mono) (hfeed : getB s Pg.tmk F.TMK_SERVO_CTL_PPS_FEED = false ∨ meet = true) :
    getF (ppsEdge s fall meet) Pg.tmk F.TMK_PPS_IN_NS_NS = nowNs s ∧
      getF (ppsEdge s fall meet) Pg.tmk F.TMK_PPS_IN_SEC_LO_SEC_LO = nowSec s % 2 ^ 32 ∧
      getF (ppsEdge s fall meet) Pg.tmk F.TMK_PPS_IN_FRAC_FRAC = now16 s % 16 ∧
      getW (ppsEdge s fall meet) Pg.tmk 0x10 = getW s Pg.tmk 0x10 ||| 64#32 ∧
      getF (ppsEdge s fall meet) Pg.tmk F.TMK_SERVO_DISCARD =
        (getF s Pg.tmk F.TMK_SERVO_DISCARD + (if getB s Pg.tmk F.TMK_SERVO_CTL_PPS_FEED then 1 else 0)) % 2 ^ 32 ∧
      (ppsEdge s fall meet).time = { s.time with ppsLast := some s.time.mono } := by
  obtain ⟨hns, hsec, hfrac, hraw, hdis, htime⟩ := ppsStamped_spec s
  rw [ppsEdge_taken hen hedge hlate hfeed]
  split
  · refine ⟨?_, ?_, ?_, ?_, ?_, htime⟩
    · rw [bump, getF_setF_ne _ _ _ _ _ _ (by decide), hns]
    · rw [bump, getF_setF_ne _ _ _ _ _ _ (by decide), hsec]
    · rw [bump, getF_setF_ne _ _ _ _ _ _ (by decide), hfrac]
    · rw [bump, setF, getW_setW_ne _ _ (by decide), hraw]
    · rw [bump, getF_setF_same _ _ _ _ _ (by decide), hdis]
      rfl
  · have hlt : getF s Pg.tmk F.TMK_SERVO_DISCARD < 2 ^ 32 := Nat.mod_lt _ (by decide)
    exact ⟨hns, hsec, hfrac, hraw, by rw [hdis, Nat.add_zero, Nat.mod_eq_of_lt hlt], htime⟩

/-- PPS_OUT falls after its width. -/
theorem ppsPulse_fall {s : State} {e : Nat} (h : s.time.ppsEnd = some e) (he : e ≤ s.time.mono) :
    ppsPulse s = emit { s with time := { s.time with ppsEnd := none } } (.ball "PPS_OUT" false) := by
  simp only [ppsPulse, h, if_pos he]

/-- PPS_OUT goes high at a whole second. -/
theorem ppsPulse_rise {s : State} (h : s.time.ppsEnd = none) (hen : getB s Pg.tmk F.TMK_PPS_OUT_EN = true) (hsec : secondReached s = true) :
    ppsPulse s =
      emit { s with time := { s.time with ppsEnd := some (s.time.mono + getF s Pg.tmk F.TMK_PPS_WIDTH * 1000 * unitNs) } } (.ball "PPS_OUT" true) := by
  simp only [ppsPulse, h, hen, hsec, Bool.and_self, if_true]

theorem mem_emit (s : State) (o : Out) : o ∈ (emit s o).out := List.mem_append_right _ (List.mem_singleton_self o)

/-- Settles O30: the reference goes and comes back, residence entries expire, and PPS is stamped and sent. -/
theorem referenceAndPps : Obligations.ReferenceAndPps := by
  unfold Obligations.ReferenceAndPps
  refine ⟨fun s ha => ⟨fun href => ?_, fun href => completes_during ha rfl (refBack_spec (s := cleared s) href),
      completes_during ha rfl ⟨rfl, rfl, rfl⟩⟩,
    fun s ha => ⟨fun fall meet hen hedge => ⟨fun hlate hfeed => completes_during ha rfl (ppsEdge_spec (s := cleared s) hen hedge hlate hfeed),
        fun t hlast hearly => ?_⟩, fun fall meet hno => completes_during ha rfl (ppsEdge_untaken (s := cleared s) meet hno),
      fun e hend he => ?_, fun hend hen hsec => ?_⟩⟩
  · refine completes_during ha rfl ?_
    obtain ⟨hoff, hun, hraw, hacc, hlocks⟩ := refGone_spec (s := cleared s) href
    exact ⟨hoff, hun, hraw, hacc, fun p hp hm => ⟨hlocks p hp hm _ (by simp [lockFields]), hlocks p hp hm _ (by simp [lockFields])⟩⟩
  · refine completes_during ha rfl ?_
    rw [ppsEdge_rejected (s := cleared s) meet hen hedge hlast hearly]
    exact ⟨getF_setF_same _ _ _ _ _ (by decide), (SameRegs.refl _ _).bump (List.mem_singleton_self _), rfl⟩
  · refine completes_during ha rfl ?_
    rw [ppsPulse_fall (s := cleared s) hend he]
    exact ⟨mem_emit .., rfl, rfl⟩
  · refine completes_during ha rfl ?_
    rw [ppsPulse_rise (s := cleared s) hend hen hsec]
    exact ⟨mem_emit .., rfl, rfl⟩

end Sys2Proof.Machine
end

section
/-! PROOFS. The interrupt lines, the end of a step at rest, and the pending pages. -/

namespace Sys2Proof.Machine

/-! ## Interrupt lines (R63, R64) -/

/-- A hub with no pending source, all of whose lines are inactive, has its lines at their levels. -/
theorem LinesFollow.of_quiet {s : State} (h : sources s = []) (h0 : s.intr.intN.getD 0 false = false)
    (h1 : s.intr.intN.getD 1 false = false) (hc : s.intr.core = false) (hv : s.intr.vec = 0#64) : LinesFollow s := by
  have hdest : ∀ f, destLevel s f = false := fun f => by rw [destLevel, h]; rfl
  have hvec : ∀ v, vecLevel s v = false := fun v => by rw [vecLevel, h]; rfl
  exact fun _ => ⟨by rw [hdest, h0], by rw [hdest, h1], by rw [hdest, hc], fun v _ => by rw [hvec, hv, BitVec.getLsbD_zero]⟩

/-- Settles O5: no page is pending at reset, and no line is active. -/
theorem linesFollowAtReset : Obligations.LinesFollowAtReset :=
  LinesFollow.of_quiet (by decide) rfl rfl rfl rfl

/-- Lines that stood at their levels do so while neither they nor the sources change. -/
theorem LinesFollow.of_same {s t : State} (h : LinesFollow s) (hs : SameSrc s t) (hi : t.intr = s.intr) (ha : alive t = alive s) : LinesFollow t := by
  intro hup
  obtain ⟨h0, h1, hc, hv⟩ := h (ha ▸ hup)
  rw [hi]
  exact ⟨h0.trans (hs.dest _).symm, h1.trans (hs.dest _).symm, hc.trans (hs.dest _).symm, fun v hlt => (hv v hlt).trans (hs.vec v).symm⟩

/-- Every command ends with the interrupt lines at their levels: its step's end puts them there, and where the step has no end, nothing has
changed that they depend on. -/
theorem exec_linesFollow {c : Instr} {s t : State} (h : LinesFollow s) (e : exec c s = .next t) : LinesFollow t := by
  have hcleared : LinesFollow (cleared s) := h.of_same ⟨rfl, rfl⟩ rfl rfl
  obtain ⟨f, hf | hf | hf⟩ := exec_cases c s <;> obtain rfl := Host.Outcome.next.inj (e.symm.trans hf)
  · cases ha : alive s with
    | true => rw [during_alive ha]; exact settle_follow _
    | false => rwa [during_dead ha]
  · exact settle_follow _
  · exact hcleared

/-- Settles O6: a command keeps the lines at their levels, and a nanosecond of time changes neither them nor their sources. -/
theorem linesFollowKept : Obligations.LinesFollowKept := by
  intro s t h e
  cases hp : s.pending with
  | nil =>
    simp only [step, hp, Host.Outcome.next.injEq] at e
    subst e
    exact h.of_same ⟨rfl, rfl⟩ rfl rfl
  | cons c rest =>
    simp only [step, hp] at e
    have hrest : LinesFollow { s with pending := rest } := h.of_same ⟨rfl, rfl⟩ rfl rfl
    exact exec_linesFollow hrest e

/-! ## The end of a step at rest -/

/-- PIN.LEVEL, the driven balls, the interrupt lines and the outputs may differ, and nothing else. -/
structure EndOnly (s t : State) : Prop where
  regs : ∀ k, (∀ i, k ≠ fKey Pg.pin F.PIN_LEVEL_LEVEL i) → tabGet t.regs k = tabGet s.regs k
  rest : { t with
      regs := s.regs, out := s.out, fld := { t.fld with drive := s.fld.drive }
      intr := { t.intr with intN := s.intr.intN, core := s.intr.core, vec := s.intr.vec, pba := s.intr.pba } } = s

theorem EndOnly.refl (s : State) : EndOnly s s := ⟨fun _ _ => rfl, rfl⟩

theorem EndOnly.trans {s t u : State} (a : EndOnly s t) (b : EndOnly t u) : EndOnly s u :=
  ⟨fun k hk => (b.regs k hk).trans (a.regs k hk),
    (congrArg (fun x : State => { x with
      regs := s.regs, out := s.out, fld := { x.fld with drive := s.fld.drive }
      intr := { x.intr with intN := s.intr.intN, core := s.intr.core, vec := s.intr.vec, pba := s.intr.pba } }) b.rest).trans a.rest⟩

theorem EndOnly.foldl {α : Type} {f : State → α → State} (h : ∀ s x, EndOnly s (f s x)) (l : List α) (s : State) : EndOnly s (l.foldl f s) := by
  induction l generalizing s with
  | nil => exact .refl s
  | cons x l ih => exact (h s x).trans (ih _)

/-- A pin that carries a level is an output, and so no discrete input (R343, R350). -/
theorem pinFunc_of_drive {s : State} {p : Nat} {l : Bool} (h : pinDrive s p = some l) : pinFunc s p ≠ 1 := by
  intro hf
  simp [pinDrive, pinIsOut, hf] at h

/-- PIN.LEVEL and the pin's configuration are different registers. -/
theorem pinFunc_setLevel (s : State) (p : Nat) (v : Bool) : pinFunc (setBank s Pg.pin F.PIN_LEVEL_LEVEL p v) p = pinFunc s p := by
  refine getF_setF_ne _ _ _ _ _ _ ?_
  simp only [regKey, F.PIN_CFG_FUNC, F.PIN_LEVEL_LEVEL]
  omega

/-- The ball level of an output pin goes to PIN.LEVEL only. -/
theorem endOnly_ballLevel {s : State} {p : Nat} (raw : Bool) (h : pinFunc s p ≠ 1) : EndOnly s (ballLevel s p raw) := by
  unfold ballLevel
  extract_lets level
  split
  · exact .refl s
  · rw [if_neg (by rwa [pinFunc_setLevel])]
    exact ⟨fun k hk => tabGet_tabSet_ne _ _ (hk _), rfl⟩

theorem endOnly_pinRefresh (s : State) (p : Nat) : EndOnly s (pinRefresh s p) := by
  cases hd : pinDrive s p with
  | none =>
    simp only [pinRefresh, hd]
    split <;> exact ⟨fun _ _ => rfl, rfl⟩
  | some l =>
    simp only [pinRefresh, hd]
    split
    · exact .refl s
    · have hf : pinFunc s p ≠ 1 := pinFunc_of_drive hd
      refine EndOnly.trans ?_ (endOnly_ballLevel l hf)
      exact ⟨fun _ _ => rfl, rfl⟩

theorem endOnly_pinsRefresh (s : State) : EndOnly s (pinsRefresh s) := EndOnly.foldl endOnly_pinRefresh _ s

theorem endOnly_vecStep (s : State) (v : Nat) : EndOnly s (vecStep s v) := by
  unfold vecStep msixFire
  dsimp only
  split
  · exact .refl s
  · split
    · split <;> exact ⟨fun _ _ => rfl, rfl⟩
    · exact ⟨fun _ _ => rfl, rfl⟩

theorem endOnly_intNStep (s : State) (n : Nat) (f : FieldD) : EndOnly s (intNStep s n f) := by
  unfold intNStep
  dsimp only
  split <;> exact ⟨fun _ _ => rfl, rfl⟩

theorem endOnly_coreStep (s : State) : EndOnly s (coreStep s) := by
  unfold coreStep
  dsimp only
  split <;> exact ⟨fun _ _ => rfl, rfl⟩

theorem endOnly_lines (s : State) : EndOnly s (lines s) :=
  (((EndOnly.foldl endOnly_vecStep _ s).trans (endOnly_intNStep ..)).trans (endOnly_intNStep ..)).trans (endOnly_coreStep _)

/-- A register of another page than PIN stands. -/
theorem EndOnly.getF {s t : State} (a : EndOnly s t) {p : Nat} {f : FieldD} {i : Nat} (hp : p < Pg.pin) (ho : f.off + f.stride * i < 0x1000) :
    getF t p f i = getF s p f i := by
  have hk : ∀ j, regKey p (f.off + f.stride * i) ≠ fKey Pg.pin F.PIN_LEVEL_LEVEL j := fun j => by
    simp only [fKey, regKey, F.PIN_LEVEL_LEVEL]
    omega
  simp only [Machine.getF, getW, a.regs _ hk]

/-- Without test unlock no unit that goes out is spoiled (R452). -/
theorem spoilOuts_locked {s : State} (h : testUnlocked s = false) : spoilOuts s = s := by
  rw [spoilOuts, spoiling, h, if_neg Bool.false_ne_true]

/-- Settles O8: at rest a step ends with the balls and the lines, and neither touches anything else. -/
theorem stepEndAtRest : Obligations.StepEndAtRest := by
  intro s h
  have hpins := endOnly_pinsRefresh s
  have hlock : testUnlocked (pinsRefresh s) = false :=
    (congrArg (· != 0) (hpins.getF (by decide) (by decide))).trans h.test.1
  have hend : EndOnly s (settle s) := by
    rw [h.settle, spoilOuts_locked hlock]
    exact hpins.trans (endOnly_lines _)
  exact ⟨hend.regs, hend.rest⟩

/-! ## Pending pages (R61) -/

/-- A power of two added where its bit is clear sets that bit and no other. -/
theorem testBit_add_two_pow {a i : Nat} (j : Nat) (h : a.testBit i = false) : (a + 2 ^ i).testBit j = (a.testBit j || decide (i = j)) := by
  rcases Nat.lt_trichotomy j i with hj | rfl | hj
  · rw [Nat.add_comm, Nat.testBit_two_pow_add_gt hj, decide_eq_false (Nat.ne_of_gt hj), Bool.or_false]
  · rw [Nat.add_comm, Nat.testBit_two_pow_add_eq, h, decide_eq_true rfl]; rfl
  · obtain ⟨k, rfl⟩ := Nat.exists_eq_add_of_lt hj
    have heven : a / 2 ^ i % 2 = 0 := by
      rw [Nat.testBit_eq_decide_div_mod_eq, decide_eq_false_iff_not] at h
      omega
    have hup : (a + 2 ^ i) / 2 ^ (i + 1) = a / 2 ^ (i + 1) := by
      rw [Nat.pow_succ, ← Nat.div_div_eq_div_mul, ← Nat.div_div_eq_div_mul, Nat.add_div_right _ (Nat.two_pow_pos i)]
      omega
    rw [decide_eq_false (by omega), Bool.or_false, show i + k + 1 = k + (i + 1) by omega, ← Nat.testBit_div_two_pow,
      ← Nat.testBit_div_two_pow, hup]

/-- The bits that a fold of INT.PENDnn sets. -/
theorem testBit_foldl_setBit (l : List Nat) (a j : Nat) :
    (l.foldl (fun a p => if a.testBit (p % 32) then a else a + 2 ^ (p % 32)) a).testBit j = (a.testBit j || l.any (· % 32 == j)) := by
  induction l generalizing a with
  | nil => simp
  | cons p l ih =>
    rw [List.foldl_cons, ih, List.any_cons, ← Bool.or_assoc]
    congr 1
    split
    · rename_i hset
      by_cases e : p % 32 = j
      · rw [← e, hset, Bool.true_or]
      · rw [beq_eq_false_iff_ne.mpr e, Bool.or_false]
    · rw [testBit_add_two_pow j (Bool.eq_false_of_not_eq_true ‹_›)]
      rfl

/-- A page's bit of INT.PENDnn says whether the page is among the sources. -/
theorem pendWord_testBit (s : State) (p : Nat) : (pendWord s (p / 32)).testBit (p % 32) = (sources s).contains p := by
  rw [pendWord, testBit_foldl_setBit, Nat.zero_testBit, Bool.false_or, List.any_filter, List.contains_eq_any_beq]
  congr 1; funext q
  simp only [Bool.beq_eq_decide_eq, ← Bool.decide_and, decide_eq_decide]
  omega

/-- IRQ_PEND resets to 0 in every page. -/
theorem resetWord_pend (p : Nat) : resetWord p 0x18 = 0#32 := by
  unfold resetWord fieldsAt
  split
  · rfl
  · rw [if_pos (by decide)]; decide

/-- The pages with a pending source are those whose IRQ_PEND is not 0. -/
theorem mem_pendingNow {s : State} {p : Nat} : p ∈ pendingNow s ↔ getW s p 0x18 ≠ 0#32 := by
  unfold pendingNow
  rw [List.mem_filterMap]
  constructor
  · rintro ⟨e, -, he⟩
    split at he
    · rename_i hpend
      cases he
      exact hpend.2
    · cases he
  · intro hpend
    have hlisted : regKey p 0x18 ∈ s.regs.map Prod.fst := by
      by_contra hun
      exact hpend ((getW_unlisted hun).trans (resetWord_pend p))
    obtain ⟨e, he, hkey⟩ := List.mem_map.mp hlisted
    have hpage : e.1 / 1024 = p ∧ e.1 % 1024 = 6 := by
      rw [hkey]; simp only [regKey]; omega
    exact ⟨e, he, by rw [hpage.1, hpage.2, if_pos ⟨rfl, hpend⟩]⟩

/-- A ring-die page is a source while its IRQ_PEND is not 0, a field-die page while the field die's last report says so (R61). -/
theorem contains_sources (s : State) (p : Nat) :
    (sources s).contains p = if isFieldPage p then s.intr.fieldPend.contains p else getW s p 0x18 != 0#32 := by
  have hmem : p ∈ pendingNow s ↔ getW s p 0x18 ≠ 0#32 := mem_pendingNow
  rw [Bool.eq_iff_iff, List.contains_iff_mem, sources, List.mem_append, List.mem_filter, List.mem_filter, hmem]
  cases isFieldPage p <;> simp

theorem fieldsAt_pend : ∀ nn < 16, fieldsAt Pg.int (0x100 + 4 * nn) = [(F.INT_PEND_SRC, nn)] := by decide

/-- No access code but RO stands in INT.PENDnn. -/
theorem accMask_pend {nn : Nat} (h : nn < 16) {ok : Acc → Bool} (hro : ok .ro = false) : accMask Pg.int (0x100 + 4 * nn) ok = 0#32 :=
  accMask_none fun fi m => by
    rw [fieldsAt_pend nn h, List.mem_singleton] at m
    rw [m]; exact hro

/-- INT.PENDnn shows the pending pages. -/
theorem shownWord_pend (s : State) {nn : Nat} (h : nn < 16) : shownWord s Pg.int (0x100 + 4 * nn) = BitVec.ofNat 32 (pendWord s nn) := by
  have hside : ¬(sideOffset Pg.int ≤ 0x100 + 4 * nn ∧ 0x100 + 4 * nn < sideOffset Pg.int + 0x80) := by
    rw [show sideOffset Pg.int = 0x80 from rfl]; omega
  have hlive : liveWord s Pg.int (0x100 + 4 * nn) = BitVec.ofNat 32 (pendWord s nn) := by
    have hnn : (0x100 + 4 * nn - 0x100) / 4 = nn := by omega
    have hbody : ¬ 0x100 + 4 * nn < 0x40 := by omega
    have hpend : 0x100 ≤ 0x100 + 4 * nn ∧ 0x100 + 4 * nn < 0x140 := by omega
    simp only [liveWord, if_neg hside, if_neg hbody, liveRing, if_pos hpend, hnn]
    rfl
  have hassigned : pageAssigned Pg.int = true := rfl
  simp only [shownWord, hassigned, fieldsAt_pend nn h, accMask_pend h (ok := fun a => a == .wo) rfl, hlive, List.any_cons, List.any_nil,
    F.INT_PEND_SRC, Bool.or_self, Bool.and_false, Bool.not_true, Bool.false_eq_true, if_false]
  rw [BitVec.not_zero, BitVec.and_allOnes]

/-! ## Items leave their slots (R251) -/

/-- The ring die's slots after item `i` has left them for what `rest` lists. -/
def fieldTook (s : State) (i : Item) (rest : List Item) : State :=
  bump (setCul s { s.cul with fieldS := rest, ringFreed := atVc s.cul.ringFreed (itemVc i) (· + 1) }) Pg.cul F.CUL_ITEMS_RX

/-- The field die's slots after item `i` has left them. -/
def ringTook (s : State) (i : Item) (rest : List Item) : State :=
  setCul s { s.cul with ringS := rest, fieldFreed := atVc s.cul.fieldFreed (itemVc i) (· + 1) }

theorem takeFirst_head {α : Type} {p : α → Bool} {x : α} (xs : List α) (h : p x = true) : takeFirst p (x :: xs) = some (x, xs) := by
  rw [takeFirst, if_pos h]

/-- The oldest item of the ring die's slots leaves to whoever accepts it. -/
theorem takeField_head {s : State} {p : Item → Bool} {i : Item} {rest : List Item} (hup : culUp s = true) (hs : s.cul.fieldS = i :: rest)
    (h : p i = true) : takeField s p = some (i, fieldTook s i rest) := by
  rw [takeField, if_pos hup, hs, takeFirst_head rest h]; rfl

theorem takeRing_head {s : State} {p : Item → Bool} {i : Item} {rest : List Item} (hs : s.cul.ringS = i :: rest) (h : p i = true) :
    takeRing s p = some (i, ringTook s i rest) := by
  rw [takeRing, hs, takeFirst_head rest h]; rfl

/-! ## Reports of pending states (R61) -/

/-- The pages reported as pending after a report of page `p`. -/
def reported (l : List Nat) (p : Nat) (v : Bool) : List Nat := l.filter (· != p) ++ if v then [p] else []

theorem contains_reported (l : List Nat) (p x : Nat) (v : Bool) : (reported l p v).contains x = if x = p then v else l.contains x := by
  rw [Bool.eq_iff_iff, List.contains_iff_mem, reported, List.mem_append, List.mem_filter]
  by_cases e : x = p
  · cases v <;> simp [e]
  · cases v <;> simp [e]

/-- A report that has not been consumed takes effect. -/
theorem pendIn_new {s : State} {q p : Nat} {v : Bool} {rest : List Item} (hup : culUp s = true) (hs : s.cul.fieldS = .pend q p v :: rest)
    (hnew : evtOld s q = false) :
    (pendIn s).cul.fieldS = rest ∧ (pendIn s).cul.evtSeen = (q + 1) % 65536 ∧ (pendIn s).intr.fieldPend = reported s.intr.fieldPend p v := by
  have hn : evtOld (fieldTook s (.pend q p v) rest) q = false := hnew
  rw [pendIn, takeField_head hup hs rfl]
  simp only [hn, Bool.false_eq_true, if_false]
  refine ⟨rfl, rfl, ?_⟩
  cases v
  · exact (List.append_nil _).symm
  · rfl

/-- Settles O10: PENDnn is the word of the sources, whose field-die pages are those reported last; its fields are all RO. -/
theorem pendingPagesShow : Obligations.PendingPagesShow := by
  intro s
  refine ⟨fun p hp => ?_, fun nn old v h => ?_, fun q p v rest ha hup hs hnew => ?_⟩
  · rw [shownWord_pend s (by omega), BitVec.getLsbD_ofNat, decide_eq_true (Nat.mod_lt _ (by decide)), Bool.true_and, pendWord_testBit,
      contains_sources]
  · rw [candWord, accMask_pend h rfl, BitVec.and_zero, BitVec.zero_or, BitVec.not_zero, BitVec.and_allOnes]
  · refine completes_during ha rfl fun x => ?_
    rw [(pendIn_new (s := cleared s) hup hs hnew).2.2]
    exact contains_reported ..

end Sys2Proof.Machine
end

section
/-! PROOFS. The items of the culvert at the field die and at the ring die. -/

namespace Sys2Proof.Machine

/-! ## Items of the field die's slots (R250, R279) -/

/-- A read of one aligned register gives its word. -/
theorem bytesRead_one {s : State} {p off : Nat} (h : off % 4 = 0) :
    bytesRead s p off 4 = (leBytes 4 (regRead s p off).1.toNat, (regRead s p off).2) := by
  have hreg : 4 * (off / 4 + 0) = off := by omega
  have hone : (off + 4 - 1) / 4 - off / 4 + 1 = 1 := by omega
  simp only [bytesRead, hone, h, List.range_one, List.foldl_cons, List.foldl_nil, hreg, List.nil_append, List.drop_zero]
  rw [List.take_of_length_le (by simp [leBytes_length])]

/-- An EXEC that reads a plain register is answered with the word shown, and clears the register's RC fields (R9, R250). -/
theorem execItem_read {s : State} {e : Exec} {rest : List Item} {p off : Nat} (hs : s.cul.ringS = .exec e :: rest) (hop : e.op = 1)
    (hoff : e.off = 0x1000 * p + off) (hlen : e.len = 4) (hal : off % 4 = 0) (hin : off < 0x1000) (hpage : regionOf e.off = .page p)
    (hhung : hungRefuses s p off = false) (hpop : ∀ t, popWord t p off = none) (hnow : ¬(p = Pg.tmk ∧ off = 0x48)) :
    ∃ t, execItem s = execDone t e St.ok 0 (leBytes 4 (shownWord (ringTook s (.exec e) rest) p off).toNat) ∧
      getW t p off = getW s p off &&& ~~~(accMask p off fun a => a == .rc) ∧ OnlyRegs [regKey p off] (ringTook s (.exec e) rest) t := by
  obtain ⟨t, hread, hword, honly, -⟩ := regRead_plain (s := ringTook s (.exec e) rest) (hpop _) hnow
  refine ⟨t, ?_, hword, honly⟩
  have hpo : e.off % 0x1000 = off := by rw [hoff]; omega
  have hh : hungRefuses (ringTook s (.exec e) rest) p off = false := hhung
  rw [execItem, takeRing_head hs rfl]
  simp only [hpage, execReg, hpo, hop, hlen, pageAccess, hh, Bool.false_eq_true, if_false, if_true, bytesRead_one hal, hread]

/-- A change of registers alone leaves the culvert as it was, but for the count of accesses. -/
theorem OnlyRegs.cul {α : Type} {ks : List Nat} {s t : State} (a : OnlyRegs ks s t) (g : CulSt → α) :
    g { t.cul with accId := 0 } = g { s.cul with accId := 0 } := congrArg (fun x : State => g x.cul) a.2

theorem cfgIn_eq {s : State} {id : Nat} {c : CfgCopy} {rest : List Item} (hs : s.cul.ringS = .cfg id c :: rest) :
    cfgIn s = cfgApply (ringTook s (.cfg id c) rest) c := by
  rw [cfgIn, takeRing_head hs rfl]

theorem acceptIn_eq {s : State} {tag gen : Nat} {rest : List Item} (hs : s.cul.ringS = .accept tag gen :: rest) :
    acceptIn s = pushAccept (ringTook s (.accept tag gen) rest) tag gen := by
  rw [acceptIn, takeRing_head hs rfl]

theorem cplIn_eq {s : State} {tag gen st c : Nat} {rest : List Item} (hs : s.cul.ringS = .cpl tag gen st c :: rest) :
    cplIn s = pushCpl (ringTook s (.cpl tag gen st c) rest) tag gen st c := by
  rw [cplIn, takeRing_head hs rfl]

/-! ## Accepted pushes (R279) -/

/-- The field that counts the accepted pushes of an endpoint. -/
abbrev pushTxn (ep : Nat) : FieldD := epFld ep F.SER_PUSH_TXN F.BEN_PUSH_TXN

/-- Neither the pushes, nor the culvert's items for the field die, nor the count of accepted pushes of the endpoint change. -/
structure PushKept (ep : Nat) (s t : State) : Prop where
  pushes : t.fld.pushes = s.fld.pushes
  ringS : t.cul.ringS = s.cul.ringS
  txn : getF t (epPage ep) (pushTxn ep) = getF s (epPage ep) (pushTxn ep)

theorem PushKept.refl (ep : Nat) (s : State) : PushKept ep s s := ⟨rfl, rfl, rfl⟩

theorem PushKept.trans {ep : Nat} {s t u : State} (a : PushKept ep s t) (b : PushKept ep t u) : PushKept ep s u :=
  ⟨b.pushes.trans a.pushes, b.ringS.trans a.ringS, b.txn.trans a.txn⟩

theorem PushKept.pushAt {ep : Nat} {s t : State} (a : PushKept ep s t) {tag gen : Nat} : pushAt t tag gen = pushAt s tag gen := by
  simp only [Machine.pushAt, a.pushes]

theorem pushKept_setFifo (ep : Nat) (s : State) (f : FifoSt) : PushKept ep s (setFifo s ep f) := ⟨rfl, rfl, rfl⟩

/-- The count stands apart from the position and from the interrupt registers of its page. -/
theorem pushTxn_key_ne (ep : Nat) {o : Nat} (h : o = 0xC0 ∨ o = 0x10 ∨ o = 0x18) : fKey (epPage ep) (pushTxn ep) ≠ regKey (epPage ep) o := by
  have hoff : (pushTxn ep).off + (pushTxn ep).stride * 0 = 0xA4 ∨ (pushTxn ep).off + (pushTxn ep).stride * 0 = 0xB8 := by
    unfold pushTxn epFld
    split
    · exact .inl rfl
    · exact .inr rfl
  refine regKey_off_ne ?_
  omega

/-- The pages of endpoints lie behind page MIR. -/
theorem pushTxn_past_mir (ep : Nat) : ¬ fKey (epPage ep) (pushTxn ep) / 1024 ≤ Pg.mir := by
  have h : 0x100 ≤ epPage ep := by
    unfold epPage; split
    · exact Nat.le_add_right ..
    · exact Nat.le_trans (by decide) (Nat.le_add_right 0x120 _)
  simp only [fKey, regKey, Pg.mir]
  omega

theorem pushKept_position (ep : Nat) (s : State) (v : Nat) :
    PushKept ep s (setF s (epPage ep) (epFld ep F.SER_PUSH_STAT_POS F.BEN_PUSH_STAT_POS) v) :=
  ⟨rfl, rfl, getF_setF_ne _ _ _ _ _ _ (pushTxn_key_ne ep (.inl (by unfold epFld; split <;> rfl)))⟩

theorem pushKept_irqEvent (ep : Nat) (s : State) (b : Nat) : PushKept ep s (irqEvent s (epPage ep) b) :=
  ⟨by rw [irqEvent_fld], by rw [irqEvent_cul],
    getF_irqEvent_ne _ _ _ (pushTxn_key_ne ep (.inr (.inl rfl))) (pushTxn_key_ne ep (.inr (.inr rfl)))⟩

/-- A word that is mirrored joins the mirror stream, whose registers are page MIR's (R369). -/
theorem pushKept_wordMirror (ep : Nat) (s : State) (w : FWord) : PushKept ep s (wordMirror s ep w) := by
  unfold wordMirror mirrorNote mirrorPush
  split
  · have hmir : ∀ g : FieldD, fKey Pg.mir g / 1024 ≤ Pg.mir → fKey (epPage ep) (pushTxn ep) ≠ fKey Pg.mir g :=
      fun g hg h => pushTxn_past_mir ep (h ▸ hg)
    exact ⟨rfl, rfl, (getF_setF_ne _ _ _ _ _ _ (hmir F.MIR_RECORDS_TX (by decide))).trans
      (getF_setF_ne _ _ _ _ _ _ (hmir F.MIR_MSN_SENT_MSN (by decide)))⟩
  · exact .refl ep s

theorem pushKept_sealedEnter (ep : Nat) (s : State) : PushKept ep s (sealedEnter s ep) := by
  unfold sealedEnter
  dsimp only
  split
  · split
    · exact (pushKept_setFifo ..).trans (pushKept_wordMirror ..)
    · exact .refl ep s
  · exact .refl ep s

theorem pushKept_fcUpdate (ep : Nat) (s : State) : PushKept ep s (fcUpdate s ep) := by
  unfold fcUpdate
  dsimp only
  split
  · exact (pushKept_setFifo ..).trans (pushKept_irqEvent ..)
  · split
    · exact pushKept_setFifo ..
    · exact .refl ep s

/-- What a search finds after the elements searched for have been mapped. -/
theorem find?_mapIf {α : Type} {p : α → Bool} {f : α → α} (h : ∀ x, p (f x) = p x) (l : List α) : (mapIf p f l).find? p = (l.find? p).map f := by
  induction l with
  | nil => rfl
  | cons x l ih =>
    rw [mapIf, List.map_cons, ← mapIf]
    cases hx : p x with
    | true => simp [hx, h]
    | false => simp [hx, ih]

/-- A counter of 32 bits gains one. -/
theorem getF_bump_same (s : State) (p : Nat) {f : FieldD} (hlo : f.lo = 0) (hw : f.w = 32) : getF (bump s p f) p f = (getF s p f + 1) % 2 ^ 32 := by
  rw [bump, getF_setF_same _ _ _ _ _ (by omega), hw]

/-- Push `p` is accepted: it holds no words any more, those at the head of its FIFO have left, and it is counted. -/
def pushTaken (s : State) (tag gen : Nat) (p : Push) : State :=
  let s1 := { s with fld := { s.fld with
    pushes := mapIf (fun x => x.tag == tag && x.gen == gen) (fun x => { x with accepted := true, words := 0 }) s.fld.pushes } }
  bump (setFifo s1 p.ep { fifoOf s1 p.ep with rx := (fifoOf s1 p.ep).rx.drop p.words }) (epPage p.ep) (pushTxn p.ep)

/-- After the first ACCEPT of a push its endpoint's position, sealed word and flow control follow. -/
theorem pushAccept_new {s : State} {tag gen : Nat} {p : Push} (hp : pushAt s tag gen = some p) (ho : p.orphan = false) (ha : p.accepted = false) :
    PushKept p.ep (pushTaken s tag gen p) (pushAccept s tag gen) := by
  simp only [pushAccept, hp, ho, ha, Bool.or_self, Bool.false_eq_true, if_false]
  refine PushKept.trans ?_ ((pushKept_sealedEnter ..).trans (pushKept_fcUpdate ..))
  split
  · exact pushKept_position ..
  · exact .refl ..

theorem pushAt_pushTaken {s : State} {tag gen : Nat} {p : Push} (hp : pushAt s tag gen = some p) :
    pushAt (pushTaken s tag gen p) tag gen = some { p with accepted := true, words := 0 } := by
  have hfound : s.fld.pushes.find? (fun x => x.tag == tag && x.gen == gen) = some p := hp
  refine (find?_mapIf (p := fun x => x.tag == tag && x.gen == gen) (f := fun x => { x with accepted := true, words := 0 })
    (fun _ => rfl) s.fld.pushes).trans ?_
  rw [hfound]
  rfl

theorem getF_pushTaken (s : State) (tag gen : Nat) (p : Push) :
    getF (pushTaken s tag gen p) (epPage p.ep) (pushTxn p.ep) = (getF s (epPage p.ep) (pushTxn p.ep) + 1) % 2 ^ 32 := by
  have hf : (pushTxn p.ep).lo = 0 ∧ (pushTxn p.ep).w = 32 := by
    unfold pushTxn epFld; split <;> exact ⟨rfl, rfl⟩
  exact getF_bump_same _ _ hf.1 hf.2

/-- A push that was accepted ends with its CPL item. -/
theorem pushCpl_ok {s : State} {tag gen : Nat} (cause : Nat) {p : Push} (hp : pushAt s tag gen = some p) (ha : p.accepted = true) :
    pushCpl s tag gen St.ok cause =
      { s with fld := { s.fld with pushes := s.fld.pushes.filter fun x => !(x.tag == tag && x.gen == gen) } } := by
  simp only [pushCpl, hp, ha, true_or, if_true, ite_self]

/-! ## Items of the ring die's slots (R250, R254, R255, R279) -/

@[simp] theorem fieldTook_cul (s : State) (i : Item) (rest : List Item) :
    (fieldTook s i rest).cul = { s.cul with fieldS := rest, ringFreed := atVc s.cul.ringFreed (itemVc i) (· + 1) } := rfl

/-- An item that leaves its slot is counted, and no other register changes. -/
theorem fieldTook_regs (s : State) (i : Item) (rest : List Item) : SameRegs [fKey Pg.cul F.CUL_ITEMS_RX] s (fieldTook s i rest) :=
  SameRegs.bump (fun _ _ => rfl) (List.mem_singleton_self _)

/-- A record of the host's errors is the bridge's own (R215). -/
theorem errLog_cul (s : State) (r : ErrRec) : (errLog s r).cul = s.cul ∧ (errLog s r).out = s.out := by
  unfold errLog
  split
  · exact ⟨rfl, rfl⟩
  · exact ⟨by simp, by simp⟩

/-- An access that is no host read through BAR0 completes to its agent. -/
theorem accEnd_agent {s : State} {who : Agent} {id status cause : Nat} (data : List Byte) (e : Exec) (h : tabGet s.brg.accs id = none) :
    Out.access who status cause ∈ (accEnd s who id status cause data e).out ∧ (accEnd s who id status cause data e).cul = s.cul := by
  have hout : Out.access who status cause ∈ (emit s (.access who status cause)).out := mem_emit ..
  simp only [accEnd, h]
  split
  · exact ⟨List.mem_append_left _ hout, rfl⟩
  · split
    · obtain ⟨hc, ho⟩ := errLog_cul (emit s (.access who status cause))
        { status := status, cause := cause, kind := 2, discarded := false, win := 0, addr := e.off, len := e.len, tag := 0 }
      exact ⟨ho ▸ hout, hc⟩
    · exact ⟨hout, rfl⟩

/-- A DONE completes the access that waits for it (R250). -/
theorem doneIn_access {s : State} {id st cause : Nat} {data : List Byte} {rest : List Item} {e : Exec} {who : Agent} {a : Nat}
    (hup : culUp s = true) (hs : s.cul.fieldS = .done id st cause data :: rest) (he : s.cul.execs.find? (·.id == id) = some e)
    (horg : e.org = .acc who a) (hacc : tabGet s.brg.accs a = none) :
    Out.access who st cause ∈ (doneIn s).out ∧ (doneIn s).cul.fieldS = rest ∧ (doneIn s).cul.execs = s.cul.execs.filter (·.id != id) := by
  rw [doneIn, takeField_head hup hs rfl]
  simp only [fieldTook_cul, he, execEnd, horg]
  have hend : ∀ v : State, v.brg = s.brg → v.cul.fieldS = rest → v.cul.execs = s.cul.execs.filter (·.id != id) →
      Out.access who st cause ∈ (accEnd v who a st cause data e).out ∧ (accEnd v who a st cause data e).cul.fieldS = rest ∧
        (accEnd v who a st cause data e).cul.execs = s.cul.execs.filter (·.id != id) := fun v hb hf hx => by
    obtain ⟨hout, hcul⟩ := accEnd_agent (s := v) (who := who) (status := st) (cause := cause) data e (hb ▸ hacc)
    exact ⟨hout, hcul ▸ hf, hcul ▸ hx⟩
  exact hend _ rfl rfl rfl

/-- A DONE that nothing waits for is counted (R255). -/
theorem doneIn_late {s : State} {id st cause : Nat} {data : List Byte} {rest : List Item} (hup : culUp s = true)
    (hs : s.cul.fieldS = .done id st cause data :: rest) (he : s.cul.execs.find? (·.id == id) = none) :
    doneIn s = bump (fieldTook s (.done id st cause data) rest) Pg.cul F.CUL_LATE_RSP := by
  rw [doneIn, takeField_head hup hs rfl]
  simp only [fieldTook_cul, he]

/-- A report that has been consumed is counted and has no effect (R254). -/
theorem pendIn_old {s : State} {q p : Nat} {v : Bool} {rest : List Item} (hup : culUp s = true) (hs : s.cul.fieldS = .pend q p v :: rest)
    (hold : evtOld s q = true) : pendIn s = bump (fieldTook s (.pend q p v) rest) Pg.cul F.CUL_EVT_DUP := by
  have ho : evtOld (fieldTook s (.pend q p v) rest) q = true := hold
  rw [pendIn, takeField_head hup hs rfl]
  simp only [ho, if_true]

theorem recordIn_old {s : State} {q : Nat} {r : FieldRec} {rest : List Item} (hup : culUp s = true) (hs : s.cul.fieldS = .record q r :: rest)
    (hold : evtOld s q = true) : recordIn s = bump (fieldTook s (.record q r) rest) Pg.cul F.CUL_EVT_DUP := by
  have ho : evtOld (fieldTook s (.record q r) rest) q = true := hold
  rw [recordIn, takeField_head hup hs rfl]
  simp only [ho, if_true]

/-- A capture joins its FIFO where it has room (R242). -/
theorem recordIn_capture {s : State} {q c : Nat} {e : CapEnt} {rest : List Item} (hup : culUp s = true)
    (hs : s.cul.fieldS = .record q (.cap c e) :: rest) (hnew : evtOld s q = false) (hroom : (capOf s c).length < 16) :
    recordIn s = { evtDone (fieldTook s (.record q (.cap c e)) rest) q with
      time := { s.time with cap := tabSet s.time.cap c (capOf s c ++ [e]) } } := by
  have hn : evtOld (fieldTook s (.record q (.cap c e)) rest) q = false := hnew
  have hr : (capOf (evtDone (fieldTook s (.record q (.cap c e)) rest) q) c).length < 16 := hroom
  rw [recordIn, takeField_head hup hs rfl]
  simp only [hn, Bool.false_eq_true, if_false, capStore, if_pos hr]
  rfl

/-! ## What decides an issue (R109) -/

/-- The rings, the flows, the contexts and the registers of all pages but CUL stand. -/
structure IssueSame (s t : State) : Prop where
  regs : ∀ k, k / 1024 ≠ Pg.cul → tabGet t.regs k = tabGet s.regs k
  ring : t.ring = s.ring
  flows : t.seq.flows = s.seq.flows
  ctxs : t.seq.ctxs = s.seq.ctxs

/-- The pages of flows lie behind page CUL. -/
theorem flwPg_past (flow : Nat) : Pg.cul < flwPg flow := Nat.lt_of_lt_of_le (by decide) (Nat.le_add_right 0x040 _)

section
variable {s t : State} (h : IssueSame s t)
include h

theorem IssueSame.getF {p : Nat} {f : FieldD} {i : Nat} (hp : fKey p f i / 1024 ≠ Pg.cul) : getF t p f i = getF s p f i := by
  have hk : tabGet t.regs (regKey p (f.off + f.stride * i)) = tabGet s.regs (regKey p (f.off + f.stride * i)) := h.regs _ hp
  simp only [Machine.getF, getW, hk]

theorem IssueSame.getF_past {p : Nat} {f : FieldD} {i : Nat} (hp : Pg.cul < p) : Machine.getF t p f i = Machine.getF s p f i := by
  refine h.getF ?_
  simp only [fKey, regKey]
  omega

theorem IssueSame.getB {p : Nat} {f : FieldD} {i : Nat} (hp : fKey p f i / 1024 ≠ Pg.cul) : getB t p f i = getB s p f i :=
  congrArg (· != 0) (h.getF hp)

theorem IssueSame.getB_past {p : Nat} {f : FieldD} {i : Nat} (hp : Pg.cul < p) : Machine.getB t p f i = Machine.getB s p f i :=
  congrArg (· != 0) (h.getF_past hp)

theorem IssueSame.blockRefuses {p : Nat} (hp : p ≠ Pg.cul) : blockRefuses t p = blockRefuses s p := by
  have hstat : pageBusyState t p = pageBusyState s p := h.getF (by simp only [fKey, regKey, F.PAGE_STAT_STATE]; omega)
  have hen : pageEnabled t p = pageEnabled s p := h.getB (by simp only [fKey, regKey, F.PAGE_CTL_ENABLE]; omega)
  simp only [Machine.blockRefuses, hstat, hen]

theorem IssueSame.flowHeadgate (flow : Nat) : flowHeadgate t flow = flowHeadgate s flow := by
  have hp : Pg.cul < 0x080 + flow / 256 := Nat.lt_of_lt_of_le (by decide) (Nat.le_add_right 0x080 _)
  simp only [Machine.flowHeadgate, h.getB_past hp, h.getF_past hp]

/-- Without a headgate a transaction passes the sequencing engine and the page of its flow. -/
theorem IssueSame.issueBlocked {x : Txn} (hg : Machine.flowHeadgate s x.flow = none) : issueBlocked t x = issueBlocked s x := by
  simp only [Machine.issueBlocked, h.flowHeadgate, hg, Option.toList_none, List.map_nil, List.append_nil, List.findSome?_cons,
    List.findSome?_nil, h.blockRefuses (p := Pg.seq) (by decide), h.blockRefuses (flwPg_past x.flow).ne']

theorem IssueSame.pairRole : pairRole t = pairRole s := h.getF (by decide)

theorem IssueSame.isPairFlow (flow : Nat) : isPairFlow t flow = isPairFlow s flow := by
  have hbase : Machine.getF t Pg.par F.PAR_FLOWS_UNIT_BASE = Machine.getF s Pg.par F.PAR_FLOWS_UNIT_BASE := h.getF (by decide)
  simp only [Machine.isPairFlow, h.pairRole, hbase]

theorem IssueSame.pairGate (flow : Nat) : pairGate t flow = pairGate s flow := by
  simp only [Machine.pairGate, h.isPairFlow, h.pairRole]

theorem IssueSame.isCoupler : isCoupler t = isCoupler s := by
  have hkey : ∀ n < 4, ∀ f ∈ [F.PORT_CFG_ROLE, F.PORT_CFG_MODE], fKey (Pg.port n) f / 1024 ≠ Pg.cul := by decide
  have hcfg : ∀ n < 4, ∀ f ∈ [F.PORT_CFG_ROLE, F.PORT_CFG_MODE], Machine.getF t (Pg.port n) f = Machine.getF s (Pg.port n) f :=
    fun n hn f hf => h.getF (hkey n hn f hf)
  simp [Machine.isCoupler, hcfg]

theorem IssueSame.ownNode : ownNode t = ownNode s := h.getF (by decide)

theorem IssueSame.portUp (p : Port) : portUp t p = portUp s p := by
  have hlink : Machine.getF t (portPage p) F.PORT_STAT_LINK = Machine.getF s (portPage p) F.PORT_STAT_LINK := h.getF (by cases p <;> decide)
  simp only [Machine.portUp, hlink]

theorem IssueSame.flowPath (flow : Nat) : flowPath t flow = flowPath s flow := h.getF_past (flwPg_past flow)

theorem IssueSame.flowSub (flow : Nat) : flowSub t flow = flowSub s flow := by
  simp only [Machine.flowSub, flowP1, flowP2, h.isCoupler, h.ownNode, h.flowPath]

theorem IssueSame.flowHop (flow : Nat) : flowHop t flow = flowHop s flow := by
  simp only [Machine.flowHop, flowP1, flowP2, h.flowSub, h.flowPath]

theorem IssueSame.nodeEnt (sub : Bool) (n : Nat) : nodeEnt t sub n = nodeEnt s sub n := by
  simp only [Machine.nodeEnt, h.ring]

theorem IssueSame.pastLeaf (sub : Bool) (n next : Nat) : pastLeaf t sub n next = pastLeaf s sub n next := by
  simp only [Machine.pastLeaf, h.nodeEnt]

theorem IssueSame.flowValid (flow : Nat) : flowValid t flow = flowValid s flow := by
  simp only [Machine.flowValid, isTarget, h.getB_past (flwPg_past flow), h.ctxs]

/-- Steps 2 to 4 of R109 refuse in both states, or in neither. -/
theorem IssueSame.issueRefusal {x : Txn} (hg : Machine.flowHeadgate s x.flow = none) : issueRefusal t x = issueRefusal s x := by
  have hinit : flowInit t x.flow = flowInit s x.flow := h.getF_past (flwPg_past x.flow)
  have hconf : Machine.getB t Pg.nod F.NOD_SELF_STAT_CONFLICT = Machine.getB s Pg.nod F.NOD_SELF_STAT_CONFLICT := h.getB (by decide)
  simp only [Machine.issueRefusal, h.pastLeaf, h.issueBlocked hg, h.flowValid, hinit, h.flowPath, h.pairGate, h.isCoupler, h.ownNode, hconf, h.portUp,
    h.flowSub, h.flowHop, h.nodeEnt]

/-- A transaction that nothing refuses and that no headgate meters waits for its turn in its flow. -/
theorem IssueSame.issueTagged {x : Txn} (hr : Machine.issueRefusal s x = none) (hg : Machine.flowHeadgate s x.flow = none) :
    issueTagged t x = setFlow t x.flow { flowOf s x.flow with waiting := (flowOf s x.flow).waiting ++ [x] } := by
  have hflow : flowOf t x.flow = flowOf s x.flow := by simp only [flowOf, h.flows]
  simp only [Machine.issueTagged, h.issueRefusal hg, hr, h.flowHeadgate, hg, hflow]

end

/-! ## Offers (R254, R279) -/

/-- An item that leaves its slot bears on no issue. -/
theorem IssueSame.of_fieldTook {s t : State} {i : Item} {rest : List Item} (hr : t.regs = (fieldTook s i rest).regs) (hring : t.ring = s.ring)
    (hf : t.seq.flows = s.seq.flows) (hc : t.seq.ctxs = s.seq.ctxs) : IssueSame s t where
  regs k hk := by
    have hne : k ∉ [fKey Pg.cul F.CUL_ITEMS_RX] := fun hmem => by
      rw [List.mem_singleton] at hmem
      exact hk (hmem ▸ by decide)
    rw [hr]
    exact fieldTook_regs s i rest k hne
  ring := hring
  flows := hf
  ctxs := hc

/-- What a new OFFER adds to the culvert's and the sequencer's state before its transaction is issued. -/
def offerTaken (s : State) (tag gen : Nat) (t : TxnReq) (rest : List Item) : State :=
  takeTag (setCul (fieldTook s (.offer tag gen t) rest) { (fieldTook s (.offer tag gen t) rest).cul with
    offers := s.cul.offers ++ [{ tag := tag, gen := gen, init := t.init, taken := false }] }) tag

/-- A new OFFER is issued on its own tag (R279). -/
theorem offerIn_new {s : State} {tag gen : Nat} {t : TxnReq} {rest : List Item} (hup : culUp s = true) (hs : s.cul.fieldS = .offer tag gen t :: rest)
    (hrun : s.seq.running = true) (hnew : s.cul.offers.find? (fun o => o.tag == tag && o.gen == gen) = none)
    (hep : s.cul.refusedEp.find? (·.1 == t.init) = none) (hr : issueRefusal s (txnOf t tag) = none) (hg : flowHeadgate s t.flow = none) :
    offerIn s = setFlow (offerTaken s tag gen t rest) t.flow
      { flowOf s t.flow with waiting := (flowOf s t.flow).waiting ++ [txnOf t tag] } := by
  have hsame : IssueSame s (offerTaken s tag gen t rest) := .of_fieldTook (i := .offer tag gen t) rfl rfl rfl rfl
  rw [offerIn, hrun, takeField_head hup hs rfl]
  simp only [fieldTook_cul, hnew, hep]
  exact hsame.issueTagged hr hg

/-- An OFFER that has been accepted is answered ACCEPT again (R254). -/
theorem offerIn_again {s : State} {tag gen : Nat} {t : TxnReq} {rest : List Item} {o : OfferEnt} (hup : culUp s = true)
    (hs : s.cul.fieldS = .offer tag gen t :: rest) (hrun : s.seq.running = true)
    (ho : s.cul.offers.find? (fun o => o.tag == tag && o.gen == gen) = some o) (htaken : o.taken = true) :
    offerIn s = ringItem (fieldTook s (.offer tag gen t) rest) (.accept tag gen) := by
  rw [offerIn, hrun, takeField_head hup hs rfl]
  simp only [fieldTook_cul, ho, htaken, if_true, Bool.not_true, Bool.false_eq_true, if_false]

/-! ## The items, one by one -/

theorem flowOf_setFlow_same (s : State) (flow : Nat) (f : IFlow) : flowOf (setFlow s flow f) flow = f := by
  simp [flowOf, setFlow]

/-- What a counter of page CUL shows after an item that leaves its slot has been counted there too. -/
theorem getF_cul_counted (s : State) (i : Item) (rest : List Item) {f : FieldD} (hlo : f.lo = 0) (hw : f.w = 32)
    (hne : fKey Pg.cul f ∉ [fKey Pg.cul F.CUL_ITEMS_RX]) : getF (bump (fieldTook s i rest) Pg.cul f) Pg.cul f = (getF s Pg.cul f + 1) % 2 ^ 32 := by
  rw [getF_bump_same _ _ hlo hw, (fieldTook_regs s i rest).getF hne]

/-- Settles O33: each item is the oldest of its slots, leaves it, and has the effect of its kind on what is left. -/
theorem itemsCross : Obligations.ItemsCross := by
  refine ⟨fun s i rest ha hs => ⟨?exec, ?reg, ?bounds, ?accept, ?cpl⟩,
    fun s i rest ha hup hs => ⟨?done, ?late, ?offer, ?again, ?pend, ?pendOld, ?record, ?recordOld⟩⟩
  case exec =>
    rintro e p off rfl hop hoff hlen hal hin hpage hhung hpop htmk -
    refine completes_during ha rfl ?_
    obtain ⟨t, ht, hword, honly⟩ := execItem_read (s := cleared s) hs hop hoff hlen hal hin hpage hhung hpop fun h => htmk h.1
    have hw : t.cul.fieldW = s.cul.fieldW := honly.cul CulSt.fieldW
    rw [ht]
    refine ⟨honly.cul CulSt.ringS, honly.cul CulSt.fieldFreed, ?_, hword, honly.1.from_eq rfl⟩
    rw [← hw]
    rfl
  case reg =>
    rintro id p off v rfl
    refine completes_during ha rfl ?_
    rw [cfgIn_eq (s := cleared s) hs]
    exact ⟨getW_setW_same .., rfl, (SameRegs.refl _ s).setW (List.mem_singleton_self _)⟩
  case bounds =>
    rintro id f y rfl
    refine completes_during ha rfl ?_
    rw [cfgIn_eq (s := cleared s) hs]
    exact ⟨rfl, rfl⟩
  case accept =>
    rintro tag gen p rfl hp ho hacc
    refine completes_during ha rfl ?_
    rw [acceptIn_eq (s := cleared s) hs]
    have hp' : pushAt (ringTook (cleared s) (.accept tag gen) rest) tag gen = some p := hp
    have hkept := pushAccept_new hp' ho hacc
    exact ⟨hkept.ringS, hkept.pushAt.trans (pushAt_pushTaken hp'), hkept.txn.trans (getF_pushTaken ..)⟩
  case cpl =>
    rintro tag gen cause p rfl hp hacc
    refine completes_during ha rfl ?_
    have hp' : pushAt (ringTook (cleared s) (.cpl tag gen St.ok cause) rest) tag gen = some p := hp
    rw [cplIn_eq (s := cleared s) hs, pushCpl_ok cause hp' hacc]
    exact ⟨rfl, rfl, rfl⟩
  case done =>
    rintro id st cause data e who a rfl he horg hacc
    exact completes_during ha rfl (doneIn_access (s := cleared s) hup hs he horg hacc)
  case late =>
    rintro id st cause data rfl he
    refine completes_during ha rfl ?_
    rw [doneIn_late (s := cleared s) hup hs he]
    have hregs := (fieldTook_regs s (.done id st cause data) rest).mono (ls := [fKey Pg.cul F.CUL_LATE_RSP, fKey Pg.cul F.CUL_ITEMS_RX])
      fun _ => List.mem_cons_of_mem _
    exact ⟨getF_cul_counted _ _ _ rfl rfl (by decide), rfl, rfl, hregs.bump List.mem_cons_self⟩
  case offer =>
    rintro tag gen t rfl hrun hnew hep hr hg
    refine completes_during ha rfl ?_
    rw [offerIn_new (s := cleared s) hup hs hrun hnew hep hr hg]
    refine ⟨rfl, rfl, rfl, ?_⟩
    rw [flowOf_setFlow_same]
    rfl
  case again =>
    rintro tag gen t o rfl hrun ho htaken
    refine completes_during ha rfl ?_
    rw [offerIn_again (s := cleared s) hup hs hrun ho htaken]
    exact ⟨rfl, rfl, rfl⟩
  case pend =>
    rintro q p v rfl hnew
    exact completes_during ha rfl (pendIn_new (s := cleared s) hup hs hnew)
  case pendOld =>
    rintro q p v rfl hold
    refine completes_during ha rfl ?_
    rw [pendIn_old (s := cleared s) hup hs hold]
    exact ⟨rfl, getF_cul_counted _ _ _ rfl rfl (by decide), rfl⟩
  case record =>
    rintro q c e rfl hnew hroom
    refine completes_during ha rfl ?_
    rw [recordIn_capture (s := cleared s) hup hs hnew hroom]
    exact ⟨rfl, rfl, by rw [capOf, tabGet_tabSet_same]; rfl, fieldTook_regs s (.record q (.cap c e)) rest⟩
  case recordOld =>
    rintro q r rfl hold
    refine completes_during ha rfl ?_
    rw [recordIn_old (s := cleared s) hup hs hold]
    exact ⟨rfl, getF_cul_counted _ _ _ rfl rfl (by decide), rfl, rfl⟩

end Sys2Proof.Machine
end

section
/-! PROOFS. Registers page by page, the fields of PORT.STAT, and the links of the Ethernet ports. -/

namespace Sys2Proof.Machine

/-! ## Registers of other pages -/

theorem OnlyPages.refl (ps : List Nat) (s : State) : OnlyPages ps s s := fun _ _ => rfl

theorem OnlyPages.trans {ps : List Nat} {s t u : State} (a : OnlyPages ps s t) (b : OnlyPages ps t u) : OnlyPages ps s u :=
  fun k hk => (b k hk).trans (a k hk)

theorem OnlyPages.mono {ps qs : List Nat} {s u : State} (a : OnlyPages ps s u) (h : ps ⊆ qs) : OnlyPages qs s u :=
  fun k hk => a k fun x => hk (h x)

/-- An update beside the registers. -/
theorem OnlyPages.of_eq {ps : List Nat} {s t u : State} (a : OnlyPages ps s t) (h : u.regs = t.regs) : OnlyPages ps s u :=
  fun k hk => by rw [h]; exact a k hk

theorem OnlyPages.sw {ps : List Nat} {s t : State} {x : SwitchSt} (a : OnlyPages ps s t) : OnlyPages ps s { t with sw := x } := a.of_eq rfl

theorem OnlyPages.setW {ps : List Nat} {s t : State} {p o : Nat} {v : Word} (a : OnlyPages ps s t) (hp : p ∈ ps) (ho : o < 0x1000) :
    OnlyPages ps s (setW t p o v) := by
  refine a.trans fun k hk => tabGet_tabSet_ne _ _ ?_
  rintro rfl
  rw [(regKey_split ho).1] at hk
  exact hk hp

theorem OnlyPages.setF {ps : List Nat} {s t : State} {p : Nat} {f : FieldD} {v i : Nat} (a : OnlyPages ps s t) (hp : p ∈ ps)
    (ho : f.off + f.stride * i < 0x1000) : OnlyPages ps s (setF t p f v i) := a.setW hp ho

theorem OnlyPages.bump {ps : List Nat} {s t : State} {p : Nat} {f : FieldD} {n i : Nat} (a : OnlyPages ps s t) (hp : p ∈ ps)
    (ho : f.off + f.stride * i < 0x1000) : OnlyPages ps s (bump t p f n i) := a.setW hp ho

/-- What each step of a fold keeps, the fold keeps. -/
theorem OnlyPages.foldl {α : Type} {ps : List Nat} {s t : State} {f : State → α → State} (a : OnlyPages ps s t)
    (h : ∀ b x, OnlyPages ps b (f b x)) (l : List α) : OnlyPages ps s (l.foldl f t) := by
  induction l generalizing t with
  | nil => exact a
  | cons x l ih => exact ih (a.trans (h t x))

/-- Registers whose keys lie in these pages. -/
theorem SameRegs.onlyPages {ks ps : List Nat} {s u : State} (a : SameRegs ks s u) (h : ∀ k ∈ ks, k / 1024 ∈ ps) : OnlyPages ps s u :=
  fun k hk => a k fun hmem => hk (h k hmem)

theorem OnlyPages.getW {ps : List Nat} {s u : State} (a : OnlyPages ps s u) {p o : Nat} (hp : p ∉ ps) (ho : o < 0x1000) : getW u p o = getW s p o := by
  rw [Machine.getW, a _ (by rwa [(regKey_split ho).1]), Machine.getW]

theorem OnlyPages.getF {ps : List Nat} {s u : State} (a : OnlyPages ps s u) {p : Nat} {f : FieldD} {i : Nat} (hp : p ∉ ps)
    (ho : f.off + f.stride * i < 0x1000) : getF u p f i = getF s p f i := by
  rw [Machine.getF, a.getW hp ho, Machine.getF]

theorem OnlyPages.getB {ps : List Nat} {s u : State} (a : OnlyPages ps s u) {p : Nat} {f : FieldD} {i : Nat} (hp : p ∉ ps)
    (ho : f.off + f.stride * i < 0x1000) : getB u p f i = getB s p f i := by
  rw [Machine.getB, a.getF hp ho, Machine.getB]

/-- The page of a key of a port's link. -/
theorem linkKeys_page (p : Port) : ∀ k ∈ linkKeys p, k / 1024 = portPage p := by
  simp [linkKeys, irqKeys, regKey]
  omega

theorem ring_of_beside {s t : State} (h : beside s = beside t) : s.ring = t.ring := show (beside s).ring = (beside t).ring from h ▸ rfl
theorem sw_of_beside {s t : State} (h : beside s = beside t) : s.sw = t.sw := show (beside s).sw = (beside t).sw from h ▸ rfl
theorem seq_of_beside {s t : State} (h : beside s = beside t) : s.seq = t.seq := show (beside s).seq = (beside t).seq from h ▸ rfl

/-! ## The fields of PORT.STAT -/

/-- A field of PORT.STAT leaves the fields that lie apart from it as they are. -/
theorem getF_setF_stat (s : State) (pg v : Nat) {f g : FieldD} (hf : f.off + f.stride * 0 = 0x44) (hg : g.off + g.stride * 0 = 0x44)
    (ha : f.lo + f.w ≤ g.lo ∨ g.lo + g.w ≤ f.lo) (hw : g.lo + g.w ≤ 32) : getF (setF s pg f v) pg g = getF s pg g :=
  getF_setF_apart s pg f g v 0 0 (hg.trans hf.symm) ha hw

/-- An interrupt event leaves the registers behind the header as they are. -/
theorem getF_irqEvent_body (s : State) (p q b : Nat) {g : FieldD} (h : 0x40 ≤ g.off + g.stride * 0) (ho : g.off + g.stride * 0 < 0x1000) :
    getF (irqEvent s p b) q g = getF s q g :=
  getF_irqEvent_ne s g 0 (by simp only [regKey]; omega) (by simp only [regKey]; omega)

/-! ## LINK (R68) -/

/-- LINK takes its new value. -/
theorem getF_setLink (s : State) (p : Port) {l : Nat} (h : l < 4) : getF (setLink s p l) (portPage p) F.PORT_STAT_LINK = l := by
  unfold setLink
  split
  · assumption
  · rw [getF_irqEvent_body _ _ _ _ (by decide) (by decide), getF_setF_same _ _ _ _ _ (by decide)]
    exact Nat.mod_eq_of_lt h

/-- The other fields of PORT.STAT stand. -/
theorem getF_setLink_apart (s : State) (p : Port) (l : Nat) {g : FieldD} (hg : g.off + g.stride * 0 = 0x44) (ha : 2 ≤ g.lo) (hw : g.lo + g.w ≤ 32) :
    getF (setLink s p l) (portPage p) g = getF s (portPage p) g := by
  unfold setLink
  split
  · rfl
  · rw [getF_irqEvent_body _ _ _ _ (by omega) (by omega), getF_setF_stat (f := F.PORT_STAT_LINK) s _ l rfl hg (.inl ha) hw]

theorem onlyRegs_setLink (s : State) (p : Port) (l : Nat) : OnlyRegs (linkKeys p) s (setLink s p l) := by
  unfold setLink
  split
  · exact ⟨.refl _ s, rfl⟩
  · exact ⟨((SameRegs.refl (linkKeys p) s).setF (List.mem_cons_self ..)).irqEvent (by simp [linkKeys, irqKeys]) (by simp [linkKeys, irqKeys]), by simp⟩

/-- A change of LINK is an event of its page. -/
theorem setLink_raises {s : State} {p : Port} {l : Nat} (h : getF s (portPage p) F.PORT_STAT_LINK ≠ l) :
    (getW (setLink s p l) (portPage p) 0x10).getLsbD 2 = true := by
  rw [setLink, if_neg h, getW_irqEvent_raw, BitVec.getLsbD_or]
  exact Bool.or_eq_true_iff.mpr (.inr (by decide))

theorem restingLink_lt (s : State) (p : Port) : restingLink s p < 2 := by
  unfold restingLink
  split <;> omega

/-- Without flows no path is judged anew. -/
theorem pathRecheckAll_noFlows {s : State} (h : s.seq.flows = []) : pathRecheckAll s = s := by
  simp [pathRecheckAll, allFlows, h]

/-- Locks and LINK of a port that has left UP. -/
theorem getF_linkGone {p : Port} (s : State) (hp : isEthPort p = true) :
    getF (linkGone s p) (portPage p) F.PORT_STAT_LINK = restingLink s p ∧ getF (linkGone s p) (portPage p) F.PORT_STAT_HELLO = 0 := by
  unfold linkGone
  extract_lets s1 s2
  have hkept : ∀ {g : FieldD}, g.off + g.stride * 0 = 0x44 → getF (pathRecheckAll (reclaimPort s2 p 3)) (portPage p) g = getF s2 (portPage p) g :=
    fun hg => by
      have hfab := (fabricOnly_reclaimPort s2 p (outcome := 3) (by decide)).trans (fabricOnly_pathRecheckAll _)
      rw [getF, hfab.getW (not_fabricPage_port hp) (by omega), ← getF]
  refine ⟨?_, ?_⟩
  · rw [hkept rfl, getF_setF_stat _ _ _ rfl rfl (by decide) (by decide), getF_setF_stat _ _ _ rfl rfl (by decide) (by decide)]
    exact getF_setLink s p (Nat.lt_of_lt_of_le (restingLink_lt s p) (by decide))
  · rw [hkept rfl, getF_setF_stat _ _ _ rfl rfl (by decide) (by decide), getF_setF_same _ _ _ _ _ (by decide), Nat.zero_mod]

/-- A port at which no frame stands gives the reclaim walker nothing to do but a count (R156). -/
theorem reclaimPort_idle {s : State} {p : Port} (outcome : Nat) (hw : tabGet s.sw.onWire (portIdx p) = none) (hq : ∀ c, c < 8 → queueOf s p c = []) :
    OnlyPages [Pg.buf] s (reclaimPort s p outcome) ∧ (reclaimPort s p outcome).seq = s.seq := by
  have hempty : ∀ (a : State) (c : Nat), (∀ c, c < 8 → queueOf a p c = []) → ∀ c', c' < 8 → queueOf (setQueue a p c []) p c' = [] := fun a c ha c' hc => by
    by_cases h : c' = c
    · subst h
      simp [queueOf, setQueue]
    · have hne : 8 * portIdx p + c' ≠ 8 * portIdx p + c := by omega
      have := ha c' hc
      simpa [queueOf, setQueue, tabGet_tabDel_ne _ hne] using this
  have hwire : wireEnd s p outcome = s := by simp only [wireEnd, hw]
  unfold reclaimPort
  rw [hwire]
  extract_lets used s1 any s2 s3
  have h2 : (∀ c, c < 8 → queueOf s2 p c = []) ∧ s2.regs = s.regs ∧ s2.seq = s.seq := by
    refine List.foldlRecOn (motive := fun a => (∀ c, c < 8 → queueOf a p c = []) ∧ a.regs = s.regs ∧ a.seq = s.seq) _ _ ⟨hq, rfl, rfl⟩ ?_
    rintro a ⟨ha, hr, hs⟩ c hc
    rw [ha c (List.mem_range.mp hc)]
    exact ⟨hempty a c ha, hr, hs⟩
  obtain ⟨_, hr, hs⟩ := h2
  have h2 : OnlyPages [Pg.buf] s s2 := (OnlyPages.refl _ s).of_eq hr
  have h3 : OnlyPages [Pg.buf] s s3 := h2.bump (List.mem_singleton_self _) (by decide)
  have hs : s3.seq = s.seq := (bump_seq ..).trans hs
  clear_value s3
  split
  · exact ⟨h3.sw, hs⟩
  · exact ⟨h3, hs⟩

/-- A port at which no frame stands leaves UP: without flows, its own page and the count of page BUF are all that changes. -/
theorem linkGone_idle {s : State} {p : Port} (hw : tabGet s.sw.onWire (portIdx p) = none) (hq : ∀ c, c < 8 → queueOf s p c = [])
    (hf : s.seq.flows = []) : OnlyPages [portPage p, Pg.buf] s (linkGone s p) := by
  have honly := onlyRegs_setLink s p (restingLink s p)
  have hsw : (setLink s p (restingLink s p)).sw = s.sw := sw_of_beside honly.2
  have hseq : (setLink s p (restingLink s p)).seq = s.seq := seq_of_beside honly.2
  unfold linkGone
  extract_lets s1 s2
  have h2 : OnlyPages [portPage p, Pg.buf] s s2 :=
    ((((honly.1.onlyPages fun k hk => by rw [linkKeys_page p k hk]; exact List.mem_cons_self).setF List.mem_cons_self (by decide)).setF
      List.mem_cons_self (by decide)))
  obtain ⟨hidle, hidleSeq⟩ := reclaimPort_idle (s := s2) (p := p) 3 ((congrArg (tabGet ·.onWire (portIdx p)) hsw).trans hw)
    fun c hc => (congrArg (fun x : SwitchSt => (tabGet x.queues (8 * portIdx p + c)).getD []) hsw).trans (hq c hc)
  rw [pathRecheckAll_noFlows (by rw [hidleSeq]; exact (congrArg (·.flows) hseq).trans hf)]
  exact h2.trans (hidle.mono (by simp))

end Sys2Proof.Machine
end

section
/-! PROOFS. Port locks and links, PORT.CFG, and the reclaim walker (R68, R69, R75, R156, R219). -/

namespace Sys2Proof.Machine

/-! ## Signal detect and locks (R68, R219) -/

/-- The ring state with signal detect of a port taken over. -/
def signalTaken (s : State) (p : Port) (signal : Bool) : State :=
  { s with ring := { s.ring with signal := (s.ring.signal.filter (· != p)) ++ (if signal then [p] else []) } }

theorem hasSignal_signalTaken (s : State) (p : Port) (signal : Bool) : hasSignal (signalTaken s p signal) p = signal := by
  cases signal <;> simp [hasSignal, signalTaken]

/-- PORT.STAT takes the locks of a port and its in-band speed. -/
def statTaken (s : State) (p : Port) (pcs fec : Bool) (speed : Nat) : State :=
  setF (setB (setB s (portPage p) F.PORT_STAT_PCS_LOCK pcs) (portPage p) F.PORT_STAT_FEC_LOCK fec) (portPage p) F.PORT_STAT_SGMII_SPEED speed

theorem onlyRegs_statTaken (s : State) (p : Port) (pcs fec : Bool) (speed : Nat) : OnlyRegs (linkKeys p) s (statTaken s p pcs fec speed) :=
  ⟨(((SameRegs.refl (linkKeys p) s).setB (List.mem_cons_self ..)).setB (List.mem_cons_self ..)).setF (List.mem_cons_self ..), rfl⟩

theorem getB_statTaken (s : State) (p : Port) (pcs fec : Bool) (speed : Nat) :
    getB (statTaken s p pcs fec speed) (portPage p) F.PORT_STAT_PCS_LOCK = pcs ∧ getB (statTaken s p pcs fec speed) (portPage p) F.PORT_STAT_FEC_LOCK = fec := by
  unfold statTaken
  constructor
  · rw [getB, getF_setF_stat _ _ _ rfl rfl (by decide) (by decide), setB, getF_setF_stat _ _ _ rfl rfl (by decide) (by decide), ← getB]
    exact getB_setB_same _ _ _ _ _ (by decide) rfl
  · rw [getB, getF_setF_stat _ _ _ rfl rfl (by decide) (by decide), ← getB]
    exact getB_setB_same _ _ _ _ _ (by decide) rfl

/-- LINK of a port follows its signal while it is not UP. -/
def linkFollows (s : State) (p : Port) : State := if getF s (portPage p) F.PORT_STAT_LINK = 2 then s else setLink s p (restingLink s p)

theorem onlyRegs_linkFollows (s : State) (p : Port) : OnlyRegs (linkKeys p) s (linkFollows s p) := by
  unfold linkFollows
  split
  · exact ⟨.refl _ s, rfl⟩
  · exact onlyRegs_setLink ..

theorem getF_linkFollows_apart (s : State) (p : Port) {g : FieldD} (hg : g.off + g.stride * 0 = 0x44) (ha : 2 ≤ g.lo) (hw : g.lo + g.w ≤ 32) :
    getF (linkFollows s p) (portPage p) g = getF s (portPage p) g := by
  unfold linkFollows
  split
  · rfl
  · exact getF_setLink_apart s p _ hg ha hw

/-- PORT.CFG lies apart from what a link changes. -/
theorem getW_linkKeys_cfg {s t : State} {p : Port} (a : SameRegs (linkKeys p) s t) (q : Port) : getW t (portPage q) 0x40 = getW s (portPage q) 0x40 :=
  a.getW (by simp only [linkKeys, irqKeys, regKey, List.mem_cons, List.not_mem_nil, or_false]; omega)

theorem portMode_of_cfg {s t : State} {p : Port} (h : getW t (portPage p) 0x40 = getW s (portPage p) 0x40) : portMode t p = portMode s p := by
  rw [portMode, getF_of_getW (f := F.PORT_CFG_MODE) (i := 0) h]
  rfl

theorem signalLock_eq {s : State} {p : Port} (hp : isEthPort p = true) (signal pcs fec : Bool) (speed : Nat) :
    ∃ sp, signalLock s p signal pcs fec speed =
      linkFollows (statTaken (signalTaken s p signal) p (pcs && portMode s p != 0) (fec && portMode s p != 0 && portFec s p != 0) sp) p :=
  ⟨_, by rw [signalLock, hp, Bool.not_true, if_neg Bool.false_ne_true]; rfl⟩

theorem signalLock_spec {s : State} {p : Port} (hp : isEthPort p = true) (signal pcs fec : Bool) (speed : Nat) :
    let u := signalLock s p signal pcs fec speed
    getB u (portPage p) F.PORT_STAT_PCS_LOCK = (pcs && portMode s p != 0) ∧
      getB u (portPage p) F.PORT_STAT_FEC_LOCK = (fec && portMode s p != 0 && portFec s p != 0) ∧
      (getF s (portPage p) F.PORT_STAT_LINK ≠ 2 → getF u (portPage p) F.PORT_STAT_LINK = if portMode s p ≠ 0 ∧ signal = true then 1 else 0) ∧
      OnlyRegs (linkKeys p) (signalTaken s p signal) u := by
  obtain ⟨sp, heq⟩ := signalLock_eq hp signal pcs fec speed
  intro u
  have hu : u = _ := heq
  rw [hu]
  have hstat := onlyRegs_statTaken (signalTaken s p signal) p (pcs && portMode s p != 0) (fec && portMode s p != 0 && portFec s p != 0) sp
  obtain ⟨hpcs, hfec⟩ := getB_statTaken (signalTaken s p signal) p (pcs && portMode s p != 0) (fec && portMode s p != 0 && portFec s p != 0) sp
  generalize hx : statTaken (signalTaken s p signal) p (pcs && portMode s p != 0) (fec && portMode s p != 0 && portFec s p != 0) sp = x at *
  refine ⟨?_, ?_, fun hlink => ?_, hstat.trans (onlyRegs_linkFollows x p)⟩
  · rw [getB, getF_linkFollows_apart x p rfl (by decide) (by decide), ← getB, hpcs]
  · rw [getB, getF_linkFollows_apart x p rfl (by decide) (by decide), ← getB, hfec]
  · have hkeep : getF x (portPage p) F.PORT_STAT_LINK = getF s (portPage p) F.PORT_STAT_LINK := by
      rw [← hx, statTaken, setB, setB, getF_setF_stat _ _ _ rfl rfl (by decide) (by decide), getF_setF_stat _ _ _ rfl rfl (by decide) (by decide),
        getF_setF_stat _ _ _ rfl rfl (by decide) (by decide)]
      rfl
    have hrest : restingLink x p = if portMode s p ≠ 0 ∧ signal = true then 1 else 0 := by
      have hsig : hasSignal x p = signal := by rw [← hx]; exact hasSignal_signalTaken s p signal
      rw [restingLink, hsig, portMode_of_cfg (getW_linkKeys_cfg hstat.1 p)]
      rfl
    rw [linkFollows, if_neg (by rwa [hkeep]), getF_setLink _ _ (Nat.lt_of_lt_of_le (restingLink_lt x p) (by decide)), hrest]

/-- The latencies that a PCS lock measures stand in page TMK (R219). -/
theorem corrLock_only (s : State) (p : Port) : OnlyPages [Pg.tmk] s (corrLock s p) ∧ beside { corrLock s p with fresh := s.fresh } = beside s ∧
    (corrLock s p).ring = s.ring := by
  have hp := portIdx_le p
  unfold corrLock
  split
  refine ⟨?_, rfl, rfl⟩
  have hfresh : OnlyPages [Pg.tmk] s (freshVal (freshVal s 16).2 16).2 := fun _ _ => rfl
  exact (hfresh.setF (List.mem_singleton_self _) (by simp only [F.TMK_CORR_TX_LAT]; omega)).setF (List.mem_singleton_self _)
    (by simp only [F.TMK_CORR_RX_LAT]; omega)

theorem portPage_ne_tmk (p : Port) : portPage p ∉ [Pg.tmk] := by cases p <;> decide

/-- SIGNAL_LOCK_CHANGE (R68, R219). -/
theorem lockChange_spec {s : State} {p : Port} (hp : isEthPort p = true) (signal pcs fec : Bool) (speed : Nat) :
    let u := lockChange s p signal pcs fec speed
    u.ring = (signalTaken s p signal).ring ∧
      getB u (portPage p) F.PORT_STAT_PCS_LOCK = (pcs && getB s Pg.tmk F.TMK_STAT_REF_OK && portMode s p != 0) ∧
      getB u (portPage p) F.PORT_STAT_FEC_LOCK = (fec && getB s Pg.tmk F.TMK_STAT_REF_OK && portMode s p != 0 && portFec s p != 0) ∧
      (getF s (portPage p) F.PORT_STAT_LINK ≠ 2 → getF u (portPage p) F.PORT_STAT_LINK = if portMode s p ≠ 0 ∧ signal = true then 1 else 0) ∧
      OnlyPages [portPage p, Pg.tmk] s u ∧ beside { u with ring := s.ring, fresh := s.fresh } = beside s := by
  generalize hok : getB s Pg.tmk F.TMK_STAT_REF_OK = ok
  obtain ⟨hpcs, hfec, hlink, honly⟩ := signalLock_spec (s := s) hp signal (pcs && ok) (fec && ok) speed
  unfold lockChange
  simp only [hok]
  generalize signalLock s p signal (pcs && ok) (fec && ok) speed = x at *
  have hring : x.ring = (signalTaken s p signal).ring := ring_of_beside honly.2
  have hpages : OnlyPages [portPage p, Pg.tmk] s x :=
    (honly.1.from_eq (t := s) rfl).onlyPages fun k hk => by rw [linkKeys_page p k hk]; exact List.mem_cons_self
  have hbeside : beside { x with ring := s.ring, fresh := s.fresh } = beside s :=
    congrArg (fun b : State => { b with ring := s.ring, fresh := s.fresh }) honly.2
  split
  · obtain ⟨hcorr, hcb, hcr⟩ := corrLock_only x p
    have hkeep : ∀ {g : FieldD}, g.off + g.stride * 0 = 0x44 → getF (corrLock x p) (portPage p) g = getF x (portPage p) g :=
      fun hg => hcorr.getF (portPage_ne_tmk p) (by omega)
    refine ⟨hcr.trans hring, ?_, ?_, fun h => (hkeep rfl).trans (hlink h), hpages.trans (hcorr.mono (by simp)),
      (congrArg (fun b : State => { b with ring := s.ring, fresh := s.fresh }) hcb).trans hbeside⟩
    · rw [getB, hkeep rfl, ← getB, hpcs]
    · rw [getB, hkeep rfl, ← getB, hfec]
  · exact ⟨hring, hpcs, hfec, hlink, hpages, hbeside⟩

/-! ## Links come up and go down (R68) -/

/-- LINK_UP (R68). -/
theorem linkUp_spec {s : State} {p : Port} (hp : isEthPort p = true) (hl : portLocked s p = true) (hd : getF s (portPage p) F.PORT_STAT_LINK ≠ 2) :
    getF (linkUp s p) (portPage p) F.PORT_STAT_LINK = 2 ∧ (getW (linkUp s p) (portPage p) 0x10).getLsbD 2 = true ∧
      (s.seq.flows = [] → OnlyRegs (linkKeys p) s (linkUp s p)) := by
  have heq : linkUp s p = pathRecheckAll (setLink s p 2) := by simp [linkUp, hp, hl, hd]
  have hfab := fabricOnly_pathRecheckAll (setLink s p 2)
  rw [heq]
  refine ⟨?_, ?_, fun hf => ?_⟩
  · rw [getF, hfab.getW (not_fabricPage_port hp) (by decide), ← getF]
    exact getF_setLink s p (by decide)
  · rw [hfab.getW (not_fabricPage_port hp) (by decide)]
    exact setLink_raises hd
  · have honly := onlyRegs_setLink s p 2
    rw [pathRecheckAll_noFlows ((congrArg SeqSt.flows (seq_of_beside honly.2)).trans hf)]
    exact honly

/-- LINK_DOWN (R68) of a port at which no frame stands. -/
theorem linkDown_spec {s : State} {p : Port} (hp : isEthPort p = true) (hl : portLocked s p = false) (hu : getF s (portPage p) F.PORT_STAT_LINK = 2)
    (hw : tabGet s.sw.onWire (portIdx p) = none) (hq : ∀ c, c < 8 → queueOf s p c = []) :
    getF (linkDown s p) (portPage p) F.PORT_STAT_LINK = restingLink s p ∧ getF (linkDown s p) (portPage p) F.PORT_STAT_HELLO = 0 ∧
      (s.seq.flows = [] → OnlyPages [portPage p, Pg.buf] s (linkDown s p)) := by
  have heq : linkDown s p = linkGone s p := by simp [linkDown, hp, hl, hu]
  obtain ⟨hlink, hhello⟩ := getF_linkGone s hp
  rw [heq]
  exact ⟨hlink, hhello, fun hf => linkGone_idle hw hq hf⟩

/-! ## PORT.CFG (R69, R75) -/

/-- The keys that the QuadBox's state writes: COUPLER and the WAIT_PAIR bits. -/
def couplerKeys : List Nat := [fKey Pg.nod F.NOD_SELF_COUPLER, regKey (portPage .c1) 0x44, regKey (portPage .c2) 0x44]

theorem couplerUpdate_only (s : State) : OnlyRegs couplerKeys s (couplerUpdate s) :=
  ⟨(((SameRegs.refl couplerKeys s).setB (by simp [couplerKeys])).setB (p := portPage .c1) (by simp [couplerKeys, fKey, F.PORT_STAT_WAIT_PAIR])).setB
    (p := portPage .c2) (by simp [couplerKeys, fKey, F.PORT_STAT_WAIT_PAIR]), rfl⟩

/-- WAIT_PAIR of a port leaves the fields below it as they are, at every port. -/
theorem getF_setB_waitPair (s : State) (p q : Port) (b : Bool) {g : FieldD} (hg : g.off + g.stride * 0 = 0x44) (hw : g.lo + g.w ≤ 10) :
    getF (setB s (portPage p) F.PORT_STAT_WAIT_PAIR b) (portPage q) g = getF s (portPage q) g := by
  by_cases h : portPage q = portPage p
  · rw [h, setB, getF_setF_stat _ _ _ rfl hg (.inr hw) (by omega)]
  · exact getF_setF_ne _ _ _ _ _ _ (regKey_page_ne h (by decide) (by omega))

theorem getF_couplerUpdate (s : State) {q : Port} (hq : isEthPort q = true) {g : FieldD} (hg : g.off + g.stride * 0 = 0x44) (hw : g.lo + g.w ≤ 10) :
    getF (couplerUpdate s) (portPage q) g = getF s (portPage q) g := by
  have hnod : portPage q ≠ Pg.nod := by revert hq; cases q <;> decide
  have hself : ∀ b, getF (setB s Pg.nod F.NOD_SELF_COUPLER b) (portPage q) g = getF s (portPage q) g := fun b =>
    getF_setF_ne _ _ _ _ _ _ (regKey_page_ne hnod (by decide) (by omega))
  simp only [couplerUpdate, List.foldl_cons, List.foldl_nil, getF_setB_waitPair _ _ q _ hg hw, hself]

/-- A port whose MODE, FEC or ROLE has changed: its new setting, and no locks. -/
def cfgTaken (s : State) (p : Port) (v : Word) : State :=
  setB (setB (setW s (portPage p) 0x40 v) (portPage p) F.PORT_STAT_PCS_LOCK false) (portPage p) F.PORT_STAT_FEC_LOCK false

theorem cfgTaken_only (s : State) (p : Port) (v : Word) : OnlyRegs (regKey (portPage p) 0x40 :: linkKeys p) s (cfgTaken s p v) :=
  ⟨(((SameRegs.refl (regKey (portPage p) 0x40 :: linkKeys p) s).setW List.mem_cons_self).setB (List.mem_cons_of_mem _ List.mem_cons_self)).setB
    (List.mem_cons_of_mem _ List.mem_cons_self), rfl⟩

theorem cfgTaken_cfg (s : State) (p : Port) (v : Word) : getW (cfgTaken s p v) (portPage p) 0x40 = v := by
  have hne : regKey (portPage p) 0x40 ≠ regKey (portPage p) 0x44 := regKey_off_ne (by decide)
  exact (getW_setW_ne _ _ hne).trans ((getW_setW_ne _ _ hne).trans (getW_setW_same ..))

/-- MODE, FEC and ROLE stand: the port's link does too. -/
theorem portCfgSet_same {s : State} {p : Port} {v : Word} (h : wordBits (getW s (portPage p) 0x40) 0 10 = wordBits v 0 10) :
    portCfgSet s p v = setW s (portPage p) 0x40 v := by
  simp only [portCfgSet, h, if_true]

/-- A port that is not UP retrains with its new setting. -/
theorem portCfgSet_down {s : State} {p : Port} {v : Word} (h : wordBits (getW s (portPage p) 0x40) 0 10 ≠ wordBits v 0 10)
    (hl : getF s (portPage p) F.PORT_STAT_LINK ≠ 2) :
    portCfgSet s p v = couplerUpdate (setLink (cfgTaken s p v) p (restingLink (cfgTaken s p v) p)) := by
  simp only [portCfgSet, h, hl, if_false, false_and]
  rfl

/-- A port that was UP leaves UP with its new setting. -/
theorem portCfgSet_up {s : State} {p : Port} {v : Word} (hp : isEthPort p = true)
    (h : wordBits (getW s (portPage p) 0x40) 0 10 ≠ wordBits v 0 10) (hl : getF s (portPage p) F.PORT_STAT_LINK = 2) :
    portCfgSet s p v = couplerUpdate (linkGone (cfgTaken s p v) p) := by
  have hrest : getF (linkGone (cfgTaken s p v) p) (portPage p) F.PORT_STAT_LINK ≠ 2 := by
    have := restingLink_lt (cfgTaken s p v) p
    rw [(getF_linkGone _ hp).1]
    omega
  simp only [cfgTaken] at hrest
  simp only [portCfgSet, h, hl, if_false, if_true, true_and, if_neg hrest]
  rfl

/-- A change of MODE, FEC or ROLE: the setting, no locks, and no longer UP. -/
theorem portCfgSet_change {s : State} {p : Port} {v : Word} (hp : isEthPort p = true)
    (h : wordBits (getW s (portPage p) 0x40) 0 10 ≠ wordBits v 0 10) :
    getW (portCfgSet s p v) (portPage p) 0x40 = v ∧ LocksOff (portCfgSet s p v) p ∧ getF (portCfgSet s p v) (portPage p) F.PORT_STAT_LINK ≠ 2 ∧
      (getF s (portPage p) F.PORT_STAT_LINK ≠ 2 → OnlyRegs (regKey (portPage p) 0x40 :: linkKeys p ++ couplerKeys) s (portCfgSet s p v)) ∧
      (getF s (portPage p) F.PORT_STAT_LINK = 2 → getF (portCfgSet s p v) (portPage p) F.PORT_STAT_HELLO = 0) := by
  have hlocks : LocksOff (cfgTaken s p v) p := locksOff_cleared _ p
  have hlt := restingLink_lt (cfgTaken s p v) p
  have hend : ∀ t, LinkOnly p (cfgTaken s p v) t → getW (couplerUpdate t) (portPage p) 0x40 = v ∧ LocksOff (couplerUpdate t) p := fun t ht => by
    refine ⟨?_, fun f hf => ?_⟩
    · rw [(couplerUpdate_only t).1.getW (by revert hp; cases p <;> decide), getW,
        ht.regs _ (by rw [(regKey_split (by decide)).1]; exact not_fabricPage_port hp) (not_mem_linkKeys (by decide) (.inr rfl)), ← getW, cfgTaken_cfg]
    · obtain ⟨hoff, _, hhi, _⟩ := lockFields_bits f hf
      rw [getB, getF_couplerUpdate t hp hoff (by omega), ← getB, ht.locks f hf]
      exact hlocks f hf
  by_cases hl : getF s (portPage p) F.PORT_STAT_LINK = 2
  · rw [portCfgSet_up hp h hl]
    obtain ⟨hlink, hhello⟩ := getF_linkGone (cfgTaken s p v) hp
    obtain ⟨hw, hoff⟩ := hend _ (linkOnly_linkGone _ hp)
    refine ⟨hw, hoff, ?_, fun hn => absurd hl hn, fun _ => ?_⟩
    · rw [getF_couplerUpdate _ hp rfl (by decide), hlink]
      omega
    · rw [getF_couplerUpdate _ hp rfl (by decide), hhello]
  · rw [portCfgSet_down h hl]
    obtain ⟨hw, hoff⟩ := hend _ (linkOnly_setLink p (cfgTaken s p v) (restingLink (cfgTaken s p v) p))
    refine ⟨hw, hoff, ?_, fun _ => ?_, fun hn => absurd hn hl⟩
    · rw [getF_couplerUpdate _ hp rfl (by decide), getF_setLink _ _ (by omega)]
      omega
    · have hmono : ∀ {ks : List Nat} {a b : State}, OnlyRegs ks a b → ks ⊆ regKey (portPage p) 0x40 :: linkKeys p ++ couplerKeys →
          OnlyRegs (regKey (portPage p) 0x40 :: linkKeys p ++ couplerKeys) a b := fun ho hk => ⟨ho.1.mono fun _ hx => hk hx, ho.2⟩
      exact ((hmono (cfgTaken_only s p v) (List.subset_append_left ..)).trans (hmono (onlyRegs_setLink ..) (by simp))).trans
        (hmono (couplerUpdate_only _) (by simp))

/-! ## Writes that something follows from -/

/-- A write that its page takes and that is no command: the register is stored, and what follows from it comes. -/
theorem completes_taken {c : Instr} {s : State} {who : Agent} {p off : Nat} {v : Word} {P : State → Prop} {f : State → State}
    (h : writeTaken s who p off v = true) (hoff : 0x40 ≤ off) (hf : isFieldPage p = false)
    (hcmd : ∀ t, ringCmd t who p off v (leBytes 4 v.toNat) false = none) (e : exec c s = .next (during s f))
    (w : f (cleared s) = ownWrite (cleared s) who p off v)
    (hP : ∀ t u, getW t p off = storedWord p off (getW s p off) v v → OnlyRegs [regKey p off] s t →
      u.regs = (afterWrite t p off (getW s p off)).regs → beside u = beside (afterWrite t p off (getW s p off)) → P u) : Completes c s P := by
  obtain ⟨_, _, hr, _⟩ := writeTaken_bounds h
  simp only [writeTaken, Bool.and_eq_true] at h
  obtain ⟨⟨_, hlock⟩, hval⟩ := h
  obtain ⟨t, hs, hw, ho⟩ := storeWrite_spec (accNext (cleared s)) (p := p) (off := off) v v (by omega) (by omega)
  have hj := judged_stored (s := accNext (cleared s)) (who := who) (by omega) (by omega) hlock hval (by rw [hf]; exact hcmd _) (fun e => by omega)
  rw [hs] at hj
  exact completes_write hr e w hj fun u hu hb _ => hP t u hw ⟨fun k hk => ho.1 k hk, ho.2⟩ hu hb

/-- A write of PORT.CFG that its page takes: the port takes the setting (R69). `t` is the hub as it was, for its PORT.CFG. -/
theorem completes_portCfg {s : State} {who : Agent} {n : Nat} {v : Word} {P : State → Prop} (hn : n < 4)
    (h : writeTaken s who (Pg.port n) 0x40 v = true)
    (hP : ∀ t u, getW t (Pg.port n) 0x40 = getW s (Pg.port n) 0x40 → OnlyRegs [regKey (Pg.port n) 0x40] s t →
      u.regs = (portCfgSet t (portOf n) (storedWord (Pg.port n) 0x40 (getW s (Pg.port n) 0x40) v v)).regs →
      beside u = beside (portCfgSet t (portOf n) (storedWord (Pg.port n) 0x40 (getW s (Pg.port n) 0x40) v v)) → P u) :
    Completes (.portCfgWrite who n v) s P := by
  have hafter : ∀ t, afterWrite t (Pg.port n) 0x40 (getW s (Pg.port n) 0x40) =
      portCfgSet (setW t (Pg.port n) 0x40 (getW s (Pg.port n) 0x40)) (portOf n) (getW t (Pg.port n) 0x40) := fun t => by
    interval_cases n <;> rfl
  refine completes_taken h (by decide) (by interval_cases n <;> rfl) (fun t => by interval_cases n <;> rfl) rfl (by simp only [hn, if_true])
    fun t u hw ho hu hb => ?_
  rw [hafter, hw] at hu hb
  exact hP _ u (getW_setW_same ..) ⟨ho.1.setW (List.mem_singleton_self _), ho.2⟩ hu hb

theorem portPage_portOf {n : Nat} (hn : n < 4) : portPage (portOf n) = Pg.port n ∧ isEthPort (portOf n) = true ∧ portIdx (portOf n) = n := by
  interval_cases n <;> decide

/-- PORT_CFG_WRITE (R69). -/
theorem completes_portCfg_same {s : State} {who : Agent} {n : Nat} {v w : Word} (hn : n < 4) (h : writeTaken s who (Pg.port n) 0x40 v = true)
    (hw : w = storedWord (Pg.port n) 0x40 (getW s (Pg.port n) 0x40) v v)
    (heq : wordBits w 0 10 = wordBits (getW s (Pg.port n) 0x40) 0 10) :
    Completes (.portCfgWrite who n v) s fun u => getW u (Pg.port n) 0x40 = w ∧ OnlyRegs [regKey (Pg.port n) 0x40] s u := by
  obtain ⟨hpage, _, _⟩ := portPage_portOf hn
  refine completes_portCfg hn h fun t u ht ho hu hb => ?_
  rw [← hw, portCfgSet_same (by rw [hpage, ht, heq]), hpage] at hu hb
  refine ⟨(getW_of_regs hu ..).trans (getW_setW_same ..), ?_, hb.trans ho.2⟩
  exact (ho.1.setW (List.mem_singleton_self _)).of_eq hu

/-- What a change of MODE, FEC or ROLE leaves at the port. -/
theorem completes_portCfg_change {s : State} {who : Agent} {n : Nat} {v w : Word} {P : State → Prop} (hn : n < 4)
    (h : writeTaken s who (Pg.port n) 0x40 v = true) (hw : w = storedWord (Pg.port n) 0x40 (getW s (Pg.port n) 0x40) v v)
    (hne : wordBits w 0 10 ≠ wordBits (getW s (Pg.port n) 0x40) 0 10)
    (hP : ∀ u, getW u (Pg.port n) 0x40 = w → getB u (Pg.port n) F.PORT_STAT_PCS_LOCK = false → getB u (Pg.port n) F.PORT_STAT_FEC_LOCK = false →
      getF u (Pg.port n) F.PORT_STAT_LINK ≠ 2 →
      (getF s (Pg.port n) F.PORT_STAT_LINK ≠ 2 → OnlyPages [Pg.port n, Pg.port 2, Pg.port 3, Pg.nod] s u ∧ beside u = beside s) →
      (getF s (Pg.port n) F.PORT_STAT_LINK = 2 → getF u (Pg.port n) F.PORT_STAT_HELLO = 0) → P u) :
    Completes (.portCfgWrite who n v) s P := by
  obtain ⟨hpage, heth, _⟩ := portPage_portOf hn
  refine completes_portCfg hn h fun t u ht ho hu hb => ?_
  have hlink : getF t (Pg.port n) F.PORT_STAT_LINK = getF s (Pg.port n) F.PORT_STAT_LINK :=
    ho.1.getF (by simp [fKey, F.PORT_STAT_LINK, regKey])
  rw [← hw] at hu hb
  obtain ⟨hcfg, hlocks, hdown, honly, hhello⟩ := portCfgSet_change (s := t) (v := w) heth (by rw [hpage, ht]; exact hne.symm)
  rw [hpage] at hcfg hdown honly hhello
  have hoff : ∀ f ∈ lockFields, getB u (Pg.port n) f = false := fun f hf => by
    rw [getB_of_regs hu, ← hpage]
    exact hlocks f hf
  refine hP u ((getW_of_regs hu ..).trans hcfg) (hoff _ (by simp [lockFields])) (hoff _ (by simp [lockFields]))
    (by rwa [getF_of_regs hu]) (fun hl => ?_) (fun hl => ?_)
  · obtain ⟨hregs, hbes⟩ := honly (by rwa [hlink])
    have hkeys : ∀ k ∈ regKey (Pg.port n) 0x40 :: linkKeys (portOf n) ++ couplerKeys, k / 1024 ∈ [Pg.port n, Pg.port 2, Pg.port 3, Pg.nod] := by
      interval_cases n <;> decide
    exact ⟨((ho.1.mono (by simp)).trans hregs |>.onlyPages hkeys).of_eq hu, hb.trans (hbes.trans ho.2)⟩
  · rw [getF_of_regs hu]
    exact hhello (by rwa [hlink])

/-! ## The reclaim walker (R156) -/

/-- The walker's work without the one that ends: a leak sweep gives back the cells that are on no list. -/
def walkNext (s : State) (w : Nat) (ws : List Nat) : State := { s with sw := { s.sw with walk := ws, lost := if w = 7 then [] else s.sw.lost } }

/-- The cells that a leak sweep gives back are counted. -/
def leaksCounted (s : State) (w : Nat) : State := if w = 7 then bump s Pg.buf F.BUF_LEAKED s.sw.lost.length else s

theorem leaksCounted_only (s : State) (w : Nat) : OnlyRegs [fKey Pg.buf F.BUF_LEAKED] s (leaksCounted s w) := by
  unfold leaksCounted
  split
  · exact ⟨(SameRegs.refl _ s).bump (List.mem_singleton_self _), rfl⟩
  · exact ⟨.refl _ s, rfl⟩

theorem walkDone_eq {s : State} {w : Nat} {ws : List Nat} (h : s.sw.walk = w :: ws) :
    walkDone s = irqEvent (walkNext (leaksCounted s w) w ws) Pg.buf 4 := by
  by_cases hw : w = 7
  · simp only [walkDone, h, hw, if_true, walkNext, leaksCounted]
    rfl
  · simp only [walkDone, h, hw, if_false, walkNext, leaksCounted]

/-- WALK_DONE (R156). -/
theorem walkDone_spec {s : State} {w : Nat} {ws : List Nat} (h : s.sw.walk = w :: ws) :
    (walkDone s).sw = { s.sw with walk := ws, lost := if w = 7 then [] else s.sw.lost } ∧
      (w = 7 → getF (walkDone s) Pg.buf F.BUF_LEAKED = (getF s Pg.buf F.BUF_LEAKED + s.sw.lost.length) % 2 ^ 32) ∧
      getW (walkDone s) Pg.buf 0x10 = getW s Pg.buf 0x10 ||| 16#32 ∧
      SameRegs (fKey Pg.buf F.BUF_LEAKED :: irqKeys Pg.buf) s (walkDone s) ∧ beside { walkDone s with sw := s.sw } = beside s := by
  obtain ⟨hregs, hbes⟩ := leaksCounted_only s w
  have hraw : getW (walkNext (leaksCounted s w) w ws) Pg.buf 0x10 = getW s Pg.buf 0x10 := hregs.getW (by decide)
  have hmono : SameRegs (fKey Pg.buf F.BUF_LEAKED :: irqKeys Pg.buf) s (walkNext (leaksCounted s w) w ws) := (hregs.mono (by simp)).of_eq rfl
  rw [walkDone_eq h]
  refine ⟨?_, fun h7 => ?_, ?_, hmono.irqEvent (by simp [irqKeys]) (by simp [irqKeys]), ?_⟩
  · rw [irqEvent_sw, walkNext, sw_of_beside hbes]
  · subst h7
    rw [getF_irqEvent_body _ _ _ _ (by decide) (by decide)]
    exact getF_setF_same _ _ _ _ _ (by decide)
  · rw [getW_irqEvent_raw, hraw]
    rfl
  · have hirq : beside (irqEvent (walkNext (leaksCounted s w) w ws) Pg.buf 4) = beside (walkNext (leaksCounted s w) w ws) := beside_irqEvent ..
    exact (congrArg (fun b : State => { b with sw := s.sw }) hirq).trans (congrArg (fun b : State => { b with sw := s.sw }) hbes)

/-- LEAK_SWEEP (R156): a sweep that is asked for joins the walker's work once. -/
theorem completes_leakSweep {s : State} {who : Agent} (h : writeReaches s who Pg.buf 0x78 = true) : Completes (.leakSweep who) s fun u =>
    u.sw = { s.sw with walk := if s.sw.walk.contains 7 then s.sw.walk else s.sw.walk ++ [7] } ∧ u.regs = s.regs ∧
      beside { u with sw := s.sw } = beside s := by
  have hjudged : judged (accNext (cleared s)) who Pg.buf 0x78 1#32 = ((St.ok, 0), sweepStart (accNext (cleared s))) :=
    judged_command (by decide) (by decide) (lockAllows_of (by decide) (.inl (by decide))) rfl
  have hsweep : ∀ t, sweepStart t = { t with sw := { t.sw with walk := if t.sw.walk.contains 7 then t.sw.walk else t.sw.walk ++ [7] } } := fun t => by
    unfold sweepStart
    split <;> rfl
  rw [hsweep] at hjudged
  exact completes_write h rfl rfl hjudged fun u hu hb _ => ⟨sw_of_beside hb, hu, congrArg (fun b : State => { b with sw := s.sw }) hb⟩

/-- Settles O15: links follow their locks, PORT.CFG retrains its port, and the walker takes up its work one by one. -/
theorem linksPortsAndWalker : Obligations.LinksPortsAndWalker := by
  unfold Obligations.LinksPortsAndWalker
  refine ⟨fun s p ha hp => ⟨fun signal pcs fec speed => ?_, fun hstep hl hd => ?_, fun hl hu hw hq => ?_⟩,
    fun s who n v w hn h hw => ⟨fun heq => ?_, fun hne hl => ?_, fun hne hl _ _ => ?_⟩, fun s who => ⟨fun w ws ha h => ?_, fun h => ?_⟩⟩
  · exact completes_during ha rfl (lockChange_spec (s := cleared s) hp signal pcs fec speed)
  · refine completes_during ha rfl ?_
    rw [if_pos (by exact hstep)]
    exact linkUp_spec (s := cleared s) hp hl hd
  · exact completes_during ha rfl (linkDown_spec (s := cleared s) hp hl hu hw hq)
  · exact completes_portCfg_same hn h hw heq
  · exact completes_portCfg_change hn h hw hne fun u hcfg hpcs hfec _ honly _ => ⟨hcfg, hpcs, hfec, honly hl⟩
  · exact completes_portCfg_change hn h hw hne fun u hcfg hpcs hfec hdown _ hhello => ⟨hcfg, hdown, hpcs, hfec, hhello hl⟩
  · exact completes_during ha rfl (walkDone_spec (s := cleared s) h)
  · exact completes_leakSweep h

end Sys2Proof.Machine
end

section
/-! PROOFS. Frames that find cells: what storing one and sending one of the hub's own leaves (R70, R132, R138, R140, R142). -/

namespace Sys2Proof.Machine

/-! ## Spoiled units -/

/-- A block of page `p` that spoils units changes the marks of units and the registers of its page and of PRT only (R452, R454). -/
def SpoilOnly (p : Nat) (s t : State) : Prop := OnlyPages [p, Pg.prt] s t ∧ ∃ r k, t = { s with regs := r, test := k }

theorem SpoilOnly.refl (p : Nat) (s : State) : SpoilOnly p s s := ⟨.refl _ s, s.regs, s.test, rfl⟩

theorem SpoilOnly.trans {p : Nat} {s t u : State} (a : SpoilOnly p s t) (b : SpoilOnly p t u) : SpoilOnly p s u := by
  obtain ⟨ha, r, k, rfl⟩ := a
  obtain ⟨hb, q, j, rfl⟩ := b
  exact ⟨ha.trans hb, q, j, rfl⟩

/-- The states agree on the switch core. -/
theorem SpoilOnly.sw {p : Nat} {s t : State} (a : SpoilOnly p s t) : t.sw = s.sw := by
  obtain ⟨_, r, k, rfl⟩ := a
  rfl

theorem SpoilOnly.setW {p q o : Nat} {v : Word} {s t : State} (a : SpoilOnly p s t) (hq : q ∈ [p, Pg.prt]) (ho : o < 0x1000) :
    SpoilOnly p s (setW t q o v) := a.trans ⟨(OnlyPages.refl _ t).setW hq ho, _, t.test, rfl⟩

theorem SpoilOnly.marks {p : Nat} {s t : State} {k : TestSt} (a : SpoilOnly p s t) : SpoilOnly p s { t with test := k } :=
  a.trans ⟨(OnlyPages.refl _ t).of_eq rfl, t.regs, k, rfl⟩

theorem spoilOnly_spoilUnit (s : State) (p : Nat) : SpoilOnly p s (spoilUnit s p).2 := by
  unfold spoilUnit
  dsimp only
  split
  · exact .refl p s
  split
  · exact (SpoilOnly.refl p s).marks
  · have hcount : ∀ k, SpoilOnly p s (bump { s with test := k } Pg.prt F.PRT_INJECTED) := fun k =>
      (SpoilOnly.refl p s).marks.setW (List.mem_cons_of_mem _ List.mem_cons_self) (by decide)
    split
    · exact (hcount _).setW List.mem_cons_self (by decide)
    · exact hcount _

theorem spoilOnly_cellsWritten (s : State) (cs : List Nat) : SpoilOnly Pg.buf s (cellsWritten s cs) := by
  have hmarks : SpoilOnly Pg.buf s (spoilMarks s Pg.buf cs s.test.badCells).2 :=
    List.foldlRecOn (motive := fun a : List (Nat × Bool) × State => SpoilOnly Pg.buf s a.2) _ _ (.refl _ s)
      fun a ha _ _ => ha.trans (spoilOnly_spoilUnit a.2 Pg.buf)
  exact hmarks.trans ⟨.of_eq (.refl _ _) rfl, _, _, rfl⟩

/-! ## Cells (R132, R140) -/

/-- Whether cells can be picked does not hang on how many. -/
theorem pickCells_isEmpty (held : List Nat) (n b : Nat) : (pickCells held (n + 1) b).isEmpty = (pickCells held 1 b).isEmpty := by
  simp only [pickCells]
  split <;> rfl

/-- Reserve and shared cells are the frame's cells. -/
theorem takeCells_sum {s : State} {pool n r sh : Nat} {ports : List Port} (h : takeCells s pool n ports = some (r, sh)) : r + sh = n := by
  unfold takeCells at h
  extract_lets r0 sh0 at h
  have hle : r0 ≤ n := by
    simp only [r0]
    split <;> omega
  have hsum : r0 + sh0 = n := by omega
  clear_value r0 sh0
  split at h
  · simp at h
  split at h
  · simp only [Option.some.injEq, Prod.mk.injEq] at h
    omega
  split at h
  · simp only [Option.some.injEq, Prod.mk.injEq] at h
    omega
  · simp at h

theorem frameCells_pos (f : Frame) : ∃ n, frameCells (frameLen f) = n + 1 := by
  have : 64 ≤ frameLen f := Nat.le_max_left ..
  exact ⟨frameCells (frameLen f) - 1, by unfold frameCells; omega⟩

/-! ## Frames that are formed -/

/-- Drops at ports that take no frames are counted in page SWC (R151). -/
def downCounted (s : State) (ports : List Port) : State :=
  (ports.filter fun p => !portTakes s p).foldl (fun a p => bump a Pg.swc F.SWC_DOWN_DROP 1 (portIdx p)) s

theorem downCounted_only (s : State) (ports : List Port) : OnlyPages storePages s (downCounted s ports) ∧ (downCounted s ports).sw = s.sw := by
  have hstep : ∀ (b : State) (p : Port), OnlyPages storePages b (bump b Pg.swc F.SWC_DOWN_DROP 1 (portIdx p)) := fun b p => by
    have hp := portIdx_le p
    exact (OnlyPages.refl _ b).bump (by decide) (by simp only [F.SWC_DOWN_DROP]; omega)
  exact ⟨(OnlyPages.refl _ s).foldl hstep _, List.foldlRecOn (motive := fun a : State => a.sw = s.sw) _ _ rfl fun a ha _ _ => (bump_sw ..).trans ha⟩

/-- A frame that is formed: it has no reference at all, or it is held at its head cell. -/
theorem formFrame_cases {s t : State} {d : Desc} {ports : List Port} {id : Nat} (h : formFrame s d ports = some (id, t)) :
    (ports.any (portTakes s) = false ∧ t = downCounted s ports) ∨
    ∃ d1 cs x, d1.frame = d.frame ∧ d1.cls = d.cls ∧ x.frames = tabSet s.sw.frames id d1 ∧ x.queues = s.sw.queues ∧
      x.localQ = (if d.loc.isSome then s.sw.localQ ++ [id] else s.sw.localQ) ∧ t = cellsWritten { downCounted s ports with sw := x } cs := by
  have hsw := (downCounted_only s ports).2
  unfold formFrame at h
  rw [← downCounted] at h
  dsimp only at h
  split at h
  · rename_i hnone
    cases h
    refine .inl ⟨?_, rfl⟩
    simp only [Bool.and_eq_true, List.isEmpty_iff, List.filter_eq_nil_iff] at hnone
    simpa using hnone.1
  · split at h
    · cases h
    · split at h
      · cases h
      · rename_i r sh _ _ _ _ _
        cases h
        refine .inr ⟨{ d with refs := (ports.filter (portTakes s)).map fun p => { port := p, outcome := 0 }, reserve := r, shared := sh }, _, _,
          rfl, rfl, ?_, ?_, ?_, rfl⟩
        · exact congrArg (fun x : SwitchSt => tabSet x.frames id _) hsw
        · exact (congrArg SwitchSt.queues hsw :)
        · exact congrArg (fun x : SwitchSt => if d.loc.isSome then x.localQ ++ [id] else x.localQ) hsw

/-- What forming a frame leaves alone. -/
theorem formFrame_kept {s t : State} {d : Desc} {ports : List Port} {id : Nat} (h : formFrame s d ports = some (id, t)) :
    OnlyPages storePages s t ∧ t.sw.queues = s.sw.queues ∧ (d.loc = none → t.sw.localQ = s.sw.localQ) := by
  obtain ⟨hdown, hsw⟩ := downCounted_only s ports
  rcases formFrame_cases h with ⟨_, rfl⟩ | ⟨d1, cs, x, _, _, _, hq, hl, rfl⟩
  · exact ⟨hdown, by rw [hsw], fun _ => by rw [hsw]⟩
  · have hspoil := spoilOnly_cellsWritten { downCounted s ports with sw := x } cs
    refine ⟨(hdown.of_eq rfl).trans (hspoil.1.mono (by decide)), by rw [hspoil.sw, ← hq], fun hloc => ?_⟩
    rw [hspoil.sw]
    simpa [hloc] using hl

/-- A frame with a reference is held at the cell that names it. -/
theorem formFrame_held {s t : State} {d : Desc} {ports : List Port} {id : Nat} (h : formFrame s d ports = some (id, t))
    (hany : ports.any (portTakes s) = true) : ∃ d1, tabGet t.sw.frames id = some d1 ∧ d1.frame = d.frame ∧ d1.cls = d.cls := by
  rcases formFrame_cases h with ⟨hnone, _⟩ | ⟨d1, cs, x, hf, hc, hx, _, _, rfl⟩
  · rw [hany] at hnone; cases hnone
  · refine ⟨d1, ?_, hf, hc⟩
    rw [(spoilOnly_cellsWritten _ cs).sw]
    exact hx ▸ tabGet_tabSet_same ..

/-- Where the buffer has room, a frame is formed. -/
theorem formFrame_room {s : State} {d : Desc} {ports : List Port} (h : poolRoom s d.pool d.frame ports = true) (hlen : d.len = frameLen d.frame) :
    ∃ id t, formFrame s d ports = some (id, t) := by
  simp only [poolRoom, Bool.and_eq_true, Bool.not_eq_true', Option.isSome_iff_exists] at h
  obtain ⟨⟨hcore, ⟨r, sh⟩, htake⟩, hpick⟩ := h
  obtain ⟨n, hn⟩ := frameCells_pos d.frame
  unfold formFrame
  dsimp only
  split
  · exact ⟨_, _, rfl⟩
  · simp only [hlen, htake]
    rw [takeCells_sum htake, hn]
    have hne := pickCells_isEmpty (cellsHeld s) n 0
    split
    · rename_i hnil
      rw [hnil, hpick] at hne
      cases hne
    · exact ⟨_, _, rfl⟩

/-! ## Class queues -/

theorem portIdx_inj {p q : Port} (h : portIdx p = portIdx q) : p = q := by rw [← portOf_portIdx p, h, portOf_portIdx]

theorem queueOf_setQueue_same (s : State) (p : Port) (c : Nat) (q : List Nat) : queueOf (setQueue s p c q) p c = q := by
  cases q <;> simp [queueOf, setQueue]

theorem queueOf_setQueue_ne (s : State) {p p' : Port} (c : Nat) (q : List Nat) (h : p' ≠ p) : queueOf (setQueue s p c q) p' c = queueOf s p' c := by
  have hne : 8 * portIdx p' + c ≠ 8 * portIdx p + c := fun e => h (portIdx_inj (by omega))
  cases q <;> simp [queueOf, setQueue, tabGet_tabSet_ne _ _ hne, tabGet_tabDel_ne _ hne]

theorem joinQueues_frames (s : State) (id c : Nat) (ports : List Port) : (joinQueues s id c ports).sw.frames = s.sw.frames :=
  List.foldlRecOn (motive := fun a : State => a.sw.frames = s.sw.frames) _ _ rfl fun _ ha _ _ => ha

theorem joinQueues_regs (s : State) (id c : Nat) (ports : List Port) : (joinQueues s id c ports).regs = s.regs :=
  List.foldlRecOn (motive := fun a : State => a.regs = s.regs) _ _ rfl fun _ ha _ _ => ha

/-- A frame joins the queue of each of its ports once. -/
theorem queueOf_joinQueues (s : State) (id c : Nat) {ports : List Port} (h : ports.Nodup) (p : Port) :
    queueOf (joinQueues s id c ports) p c = if p ∈ ports then queueOf s p c ++ [id] else queueOf s p c := by
  induction ports generalizing s with
  | nil => rfl
  | cons x ports ih =>
    obtain ⟨hx, hnd⟩ := List.nodup_cons.mp h
    have hstep : joinQueues s id c (x :: ports) = joinQueues (setQueue s x c (queueOf s x c ++ [id])) id c ports := rfl
    rw [hstep, ih _ hnd]
    by_cases hp : p = x
    · subst hp
      rw [if_neg hx, if_pos List.mem_cons_self, queueOf_setQueue_same]
    · rw [queueOf_setQueue_ne _ _ _ hp]
      simp [hp]

/-- A frame that has joined the queues of the ports that take it leaves on them. -/
theorem leaves_joinQueues {s t : State} {d : Desc} {ports : List Port} {id : Nat} (h : formFrame s d ports = some (id, t)) (hnd : ports.Nodup) :
    Leaves s (joinQueues t id d.cls (ports.filter (portTakes s))) d.frame d.cls ports := fun hany => by
  obtain ⟨d1, hd, hf, hc⟩ := formFrame_held h hany
  obtain ⟨_, hq, _⟩ := formFrame_kept h
  refine ⟨id, d1, by rw [joinQueues_frames, hd], hf, hc, fun p hp ht => ?_⟩
  rw [queueOf_joinQueues _ _ _ (hnd.filter _), if_pos (List.mem_filter.mpr ⟨hp, ht⟩), queueOf, hq, ← queueOf]

/-- Where the buffer has room, a frame is stored. -/
theorem storeFrame_room {s : State} {d : Desc} {ports : List Port} (h : poolRoom s d.pool d.frame ports = true) (hlen : d.len = frameLen d.frame)
    (hnd : ports.Nodup) : ∃ t, storeFrame s d ports = some t ∧ Leaves s t d.frame d.cls ports := by
  obtain ⟨id, t, hform⟩ := formFrame_room h hlen
  exact ⟨_, by rw [storeFrame, hform, Option.map_some], leaves_joinQueues hform hnd⟩

theorem storeFrame_kept {s t : State} {d : Desc} {ports : List Port} (h : storeFrame s d ports = some t) :
    OnlyPages storePages s t ∧ (d.loc = none → t.sw.localQ = s.sw.localQ) := by
  unfold storeFrame at h
  rw [Option.map_eq_some_iff] at h
  obtain ⟨⟨id, t1⟩, h, rfl⟩ := h
  obtain ⟨hpages, _, hlocal⟩ := formFrame_kept h
  exact ⟨hpages.of_eq (joinQueues_regs ..), fun hl => (joinQueues_localQ ..).trans (hlocal hl)⟩

/-! ## What storing a frame depends on -/

/-- The key of a register of an Ethernet port behind PORT.STAT: its proxies and its counters. -/
def portCounter (k : Nat) : Prop := 0x010 ≤ k / 1024 ∧ k / 1024 ≤ 0x013 ∧ 0x12 ≤ k % 1024

/-- The switch core and every register stand, but the counters of the ports. -/
structure FrameSame (s t : State) : Prop where
  regs : ∀ k, ¬ portCounter k → tabGet t.regs k = tabGet s.regs k
  sw : t.sw = s.sw

/-- A step begins with its outputs and strobes away. -/
theorem frameSame_cleared (s : State) : FrameSame s (cleared s) := ⟨fun _ _ => rfl, rfl⟩

section
variable {s t : State} (h : FrameSame s t)
include h

theorem FrameSame.getW {p o : Nat} (ho : o < 0x1000) (hp : p < 0x010 ∨ 0x013 < p ∨ o < 0x48) : getW t p o = getW s p o := by
  obtain ⟨hq, hm⟩ := regKey_split (p := p) ho
  rw [Machine.getW, h.regs _ (by unfold portCounter; omega), Machine.getW]

theorem FrameSame.getF {p : Nat} {f : FieldD} {i : Nat} (ho : f.off + f.stride * i < 0x1000) (hp : p < 0x010 ∨ 0x013 < p ∨ f.off + f.stride * i < 0x48) :
    getF t p f i = getF s p f i := by rw [Machine.getF, h.getW ho hp, Machine.getF]

theorem FrameSame.getB {p : Nat} {f : FieldD} {i : Nat} (ho : f.off + f.stride * i < 0x1000) (hp : p < 0x010 ∨ 0x013 < p ∨ f.off + f.stride * i < 0x48) :
    getB t p f i = getB s p f i := congrArg (· != 0) (h.getF ho hp)

theorem FrameSame.blockTakes (p : Nat) : blockTakes t p = blockTakes s p := by
  have hstat : pageBusyState t p = pageBusyState s p := h.getF (by decide) (.inr (.inr (by decide)))
  have hen : pageEnabled t p = pageEnabled s p := h.getB (by decide) (.inr (.inr (by decide)))
  simp only [Machine.blockTakes, blockRefuses, hstat, hen]

theorem FrameSame.coreTakes : coreTakes t = coreTakes s := by simp only [Machine.coreTakes, h.blockTakes]

theorem FrameSame.portUp (p : Port) : portUp t p = portUp s p := by
  have hlink : Machine.getF t (portPage p) F.PORT_STAT_LINK = Machine.getF s (portPage p) F.PORT_STAT_LINK := h.getF (by decide) (.inr (.inr (by decide)))
  simp only [Machine.portUp, hlink]

theorem FrameSame.portTakes : portTakes t = portTakes s := by
  funext p
  simp only [Machine.portTakes, h.portUp, h.blockTakes, h.sw]

theorem FrameSame.cellsHeld : cellsHeld t = cellsHeld s := by
  have hchain : ∀ n c, linkChain t n c = linkChain s n c := fun n => by
    induction n with
    | zero => exact fun _ => rfl
    | succ n ih => intro c; rw [linkChain, linkChain, h.sw, ih]
  simp only [Machine.cellsHeld, cellsOf, hchain, h.sw]

theorem FrameSame.takeCells : takeCells t = takeCells s := by
  have hmin : poolMin t = poolMin s := by
    funext p
    simp only [poolMin, h.getF (p := Pg.buf) (f := F.BUF_POOL0_TRANSIT_MIN) (i := 0) (by decide) (by decide),
      h.getF (p := Pg.buf) (f := F.BUF_POOL0_RESPONSE_MIN) (i := 0) (by decide) (by decide),
      h.getF (p := Pg.buf) (f := F.BUF_POOL1_PROTECT_MIN) (i := 0) (by decide) (by decide)]
  have hcap : ∀ p, Machine.getF t Pg.buf F.BUF_PORT_CAP_CAP (portIdx p) = Machine.getF s Pg.buf F.BUF_PORT_CAP_CAP (portIdx p) := fun p => by
    have := portIdx_le p
    exact h.getF (by simp only [F.BUF_PORT_CAP_CAP]; omega) (.inr (.inl (by decide)))
  have huse : poolUse t = poolUse s := by funext p; rw [poolUse, h.sw, poolUse]
  have hshared : sharedUse t = sharedUse s := by rw [sharedUse, h.sw, sharedUse]
  have hport : portShared t = portShared s := by funext p; rw [portShared, h.sw, portShared]
  have htotal : sharedTotal t = sharedTotal s := by rw [sharedTotal, hmin, h.sw, sharedTotal]
  have hfree : freeCells t = freeCells s := by rw [freeCells, huse, hshared, h.sw, freeCells]
  funext pool n ports
  unfold Machine.takeCells
  rw [hmin, huse, hshared, hport, htotal, hfree]
  simp only [hcap]

theorem FrameSame.poolRoom (pool : Nat) (f : Frame) (ports : List Port) : poolRoom t pool f ports = poolRoom s pool f ports := by
  simp only [Machine.poolRoom, h.coreTakes, h.takeCells, h.portTakes, h.cellsHeld]

theorem FrameSame.queueOf (p : Port) (c : Nat) : queueOf t p c = queueOf s p c := by rw [Machine.queueOf, h.sw, Machine.queueOf]

theorem FrameSame.hasRoom (f : Frame) (c : Nat) (ports : List Port) : hasRoom t f c ports = hasRoom s f c ports := by
  simp only [Machine.hasRoom, h.poolRoom, h.sw]

/-- A frame leaves as well where the counters of the ports stood otherwise. -/
theorem FrameSame.leaves {u : State} {f : Frame} {c : Nat} {ports : List Port} (hl : Leaves t u f c ports) : Leaves s u f c ports := by
  simpa only [Leaves, h.portTakes, h.queueOf] using hl

end

/-! ## Frames of the hub's own (R70, R142) -/

/-- Nothing waits for cells before a frame of this hub. -/
theorem hasRoom_spec {s : State} {f : Frame} {c : Nat} {ports : List Port} (h : hasRoom s f c ports = true) :
    poolRoom s (poolOf false c) f ports = true ∧ s.sw.ownWait.any (·.desc.pool == poolOf false c) = false := by
  simpa only [hasRoom, Bool.and_eq_true, Bool.not_eq_true'] using h

/-- A frame without an HSR tag finds its cells and leaves. -/
theorem sendOwnFrame_plain {s : State} {f : Frame} {c : Nat} {ports : List Port} (h : hasRoom s f c ports = true) (hnd : ports.Nodup) :
    Leaves s (sendOwnFrame s { desc := ownDesc s f c, ports := ports, tagged := false }) f c ports := by
  obtain ⟨hroom, hfirst⟩ := hasRoom_spec h
  obtain ⟨t, hstore, hleaves⟩ := storeFrame_room (d := ownDesc s f c) hroom rfl hnd
  have hform : formOwn s { desc := ownDesc s f c, ports := ports, tagged := false } = some t := hstore
  have hwait : (s.sw.ownWait.any fun x => x.desc.pool == (ownDesc s f c).pool) = false := hfirst
  simp only [sendOwnFrame, hwait, Bool.false_eq_true, if_false, hform]
  exact hleaves

/-- A frame without an HSR tag changes the buffer, its counters and the marks of spoiled cells only, whether it finds cells or waits for them. -/
theorem sendOwnFrame_plain_kept (s : State) {o : OwnFrame} (ho : o.tagged = false) : SwOnly s (sendOwnFrame s o) ∧ OnlyPages storePages s (sendOwnFrame s o) := by
  unfold sendOwnFrame
  dsimp only
  split
  · exact ⟨⟨_, s.regs, s.test, rfl⟩, .sw (.refl _ s)⟩
  · split
    · rename_i hform
      simp only [formOwn, ho, Bool.false_eq_true, if_false] at hform
      exact ⟨storeFrame_only hform, (storeFrame_kept hform).1⟩
    · exact ⟨⟨_, s.regs, s.test, rfl⟩, .sw (.refl _ s)⟩

/-- The hub with its next HSR sequence number. -/
def hsrNext (s : State) : State := { s with ring := { s.ring with hsrSeq := (s.ring.hsrSeq + 1) % 65536 } }

/-- A frame of this hub's own MAC address takes the unit's HSR counter (R70). -/
theorem nextHsr_own (s : State) : nextHsr s (ownMac s) = (s.ring.hsrSeq, hsrNext s) := by
  simp [nextHsr, hsrNext]

/-- A frame of this hub with the next HSR sequence number finds its cells and leaves (R70). -/
theorem sendOwnFrame_tagged {s : State} {f : Frame} {c : Nat} {ports : List Port} (hmac : f.smac = ownMac s) (h : hasRoom s (tagged s f) c ports = true)
    (hnd : ports.Nodup) :
    let u := sendOwnFrame s { desc := ownDesc s f c, ports := ports, tagged := true }
    Leaves s u (tagged s f) c ports ∧ SwOnly (hsrNext s) u ∧ OnlyPages storePages s u ∧ u.sw.localQ = s.sw.localQ := by
  obtain ⟨hroom, hfirst⟩ := hasRoom_spec h
  have hsame : FrameSame s (hsrNext s) := ⟨fun _ _ => rfl, rfl⟩
  rw [← hsame.poolRoom] at hroom
  obtain ⟨t, hstore, hleaves⟩ := storeFrame_room (s := hsrNext s) (ports := ports)
    (d := descTag (ownDesc s f c) { path := 0, seq := s.ring.hsrSeq }) hroom rfl hnd
  have hsend : sendHsr s (ownDesc s f c) ports = some t := by
    have hnext : nextHsr s (ownDesc s f c).frame.smac = (s.ring.hsrSeq, hsrNext s) := (congrArg (nextHsr s) hmac).trans (nextHsr_own s)
    rw [sendHsr, hnext]
    exact hstore
  have hform : formOwn s { desc := ownDesc s f c, ports := ports, tagged := true } = some t := hsend
  have hwait : (s.sw.ownWait.any fun x => x.desc.pool == (ownDesc s f c).pool) = false := hfirst
  obtain ⟨hpages, hlocal⟩ := storeFrame_kept hstore
  simp only [sendOwnFrame, hwait, Bool.false_eq_true, if_false, hform]
  exact ⟨hsame.leaves hleaves, storeFrame_only hstore, fun k hk => hpages k hk, hlocal rfl⟩

end Sys2Proof.Machine
end

section
/-! PROOFS. HELLO, ANNOUNCE and HSR supervision: what leaves and what arrives (R70, R73, R77, R78, R82, R86, R88). -/

namespace Sys2Proof.Machine

/-! ## Counters of the ports -/

theorem FrameSame.refl (s : State) : FrameSame s s := ⟨fun _ _ => rfl, rfl⟩

theorem FrameSame.setW {s t : State} {p o : Nat} {v : Word} (a : FrameSame s t) (hp : 0x010 ≤ p ∧ p ≤ 0x013) (ho : 0x48 ≤ o) (ho' : o < 0x1000) :
    FrameSame s (setW t p o v) := by
  refine ⟨fun k hk => ?_, a.sw⟩
  rw [← a.regs k hk]
  refine tabGet_tabSet_ne _ _ ?_
  rintro rfl
  obtain ⟨hq, hm⟩ := regKey_split (p := p) ho'
  exact hk ⟨by omega, by omega, by omega⟩

/-- The page of an Ethernet port is one of four. -/
theorem portPage_eth {p : Port} (h : isEthPort p = true) : 0x010 ≤ portPage p ∧ portPage p ≤ 0x013 := by
  revert h
  cases p <;> decide

/-- A counter of a port counts. -/
theorem frameSame_bump {s : State} {p : Port} {f : FieldD} {n : Nat} (hp : isEthPort p = true) (hf : 0x48 ≤ f.off + f.stride * 0)
    (hf' : f.off + f.stride * 0 < 0x1000) : FrameSame s (bump s (portPage p) f n) := (FrameSame.refl s).setW (portPage_eth hp) hf hf'

section
variable {s t : State} (h : FrameSame s t)
include h

theorem FrameSame.isKvlType (f : Frame) : isKvlType t f = isKvlType s f := by
  simp only [Machine.isKvlType, h.getF (p := Pg.kvl) (f := F.KVL_ETYPE_ETYPE) (i := 0) (by decide) (by decide)]

theorem FrameSame.portRole (p : Port) : portRole t p = portRole s p := h.getF (by decide) (.inr (.inr (by decide)))

theorem FrameSame.helloPorts : helloPorts t = helloPorts s := by simp only [Machine.helloPorts, h.portUp, h.portRole]

theorem FrameSame.verEn (hr : t.ring = s.ring) : verEn t = verEn s := by
  simp only [Machine.verEn, hr, h.getF (p := Pg.kvl) (f := F.KVL_VER_EN) (i := 0) (by decide) (by decide)]

theorem FrameSame.linkEn (hr : t.ring = s.ring) : linkEn t = linkEn s := by
  simp only [Machine.linkEn, hr, h.getF (p := Pg.kvl) (f := F.KVL_VER_EN) (i := 0) (by decide) (by decide)]

theorem FrameSame.verOk (hr : t.ring = s.ring) (k : Kvl) : verOk t k = verOk s k := by simp only [Machine.verOk, h.verEn hr]

end

theorem helloPorts_eth {s : State} {p : Port} (h : p ∈ helloPorts s) : isEthPort p = true := by
  have hmem : p ∈ ethPorts := (List.mem_filter.mp h).1
  revert hmem
  cases p <;> decide

theorem helloPorts_nodup (s : State) : (helloPorts s).Nodup := (show ethPorts.Nodup by decide).filter _

/-! ## HELLO leaves (R77, R86) -/

/-- A frame that has left on a port stays there while copies of it go out of other ports. -/
theorem Leaves.sendCopy {s a : State} {f : Frame} {c : Nat} {p q : Port} (h : Leaves s a f c [p]) (hpq : p ≠ q) :
    Leaves s (sendOwnFrame a { desc := ownDesc a f c, ports := [q], tagged := false }) f c [p] := by
  have hstore : ∀ t, storeFrame a (ownDesc a f c) [q] = some t → Leaves s t f c [p] := fun t ht hany => by
    obtain ⟨id, d, hd, hf, hc, hq⟩ := h hany
    unfold storeFrame at ht
    rw [Option.map_eq_some_iff] at ht
    obtain ⟨⟨id1, t1⟩, hform, rfl⟩ := ht
    have hqueue : queueOf (joinQueues t1 id1 c ([q].filter (portTakes a))) p c = queueOf a p c := by
      rw [queueOf_joinQueues _ _ _ ((List.nodup_singleton q).filter _), if_neg (by simp [hpq]), queueOf, (formFrame_kept hform).2.1, ← queueOf]
    have hframes : ∃ d1, tabGet t1.sw.frames id = some d1 ∧ d1.frame = f ∧ d1.cls = c := by
      rcases formFrame_cases hform with ⟨_, rfl⟩ | ⟨d1, cs, x, hf1, hc1, hx, _, _, rfl⟩
      · exact ⟨d, by rw [(downCounted_only a [q]).2, hd], hf, hc⟩
      · rw [(spoilOnly_cellsWritten _ cs).sw]
        by_cases hid : id = id1
        · exact ⟨d1, by rw [hid]; exact hx ▸ tabGet_tabSet_same .., hf1, hc1⟩
        · exact ⟨d, by rw [show x.frames = _ from hx, tabGet_tabSet_ne _ _ hid, hd], hf, hc⟩
    obtain ⟨d1, hd1, hf1, hc1⟩ := hframes
    refine ⟨id, d1, by rw [joinQueues_frames, hd1], hf1, hc1, fun r hr ht => ?_⟩
    rw [List.mem_singleton] at hr
    subst hr
    exact hqueue.trans (hq r (List.mem_singleton_self _) ht)
  unfold sendOwnFrame
  dsimp only
  split
  · exact h
  · split
    · rename_i hform
      exact hstore _ hform
    · exact h

/-- HELLO goes out of one port after another. -/
def helloCopies (s : State) (f : Frame) (ps : List Port) : State :=
  ps.foldl (fun a p => sendOwnFrame a { desc := ownDesc a f 7, ports := [p], tagged := false }) s

theorem helloCopies_leaves {s a : State} {f : Frame} {p : Port} (h : Leaves s a f 7 [p]) {ps : List Port} (hp : p ∉ ps) :
    Leaves s (helloCopies a f ps) f 7 [p] :=
  List.foldlRecOn (motive := fun b => Leaves s b f 7 [p]) _ _ h fun _ hb _ hq => hb.sendCopy fun e => hp (e ▸ hq)

theorem helloCopies_kept (s : State) (f : Frame) (ps : List Port) : SwOnly s (helloCopies s f ps) ∧ OnlyPages storePages s (helloCopies s f ps) :=
  List.foldlRecOn (motive := fun b => SwOnly s b ∧ OnlyPages storePages s b) _ _ ⟨.refl s, .refl _ s⟩ fun b hb p _ => by
    obtain ⟨hsw, hpages⟩ := sendOwnFrame_plain_kept b (o := { desc := ownDesc b f 7, ports := [p], tagged := false }) rfl
    exact ⟨hb.1.trans hsw, hb.2.trans hpages⟩

/-- The hub once its HELLO carries the version set written (R86). -/
def helloTold (s : State) : State := { s with ring := { s.ring with helloOld := none } }

/-- What a change of the switch core, of registers and of spoiled units leaves alone. -/
theorem SwOnly.beside {s t : State} (a : SwOnly s t) : t.ring = s.ring ∧ t.pair = s.pair ∧ beside { t with sw := s.sw, test := s.test } = beside s := by
  obtain ⟨x, r, k, rfl⟩ := a
  exact ⟨rfl, rfl, rfl⟩

/-- HELLO_SEND (R77, R86): HELLO with the enabled versions leaves, untagged, on the first port that carries it. -/
theorem helloSend_spec {s : State} {p : Port} {ps : List Port} {f : Frame} (hps : helloPorts s = p :: ps)
    (hf : f = { kvlFrame s macHello (ownMac s) (plainHdr s tyHello 7) (beBytes 1 (getF s Pg.kvl F.KVL_VER_EN)) with hsr := none })
    (hroom : hasRoom s f 7 [p] = true) :
    Leaves s (helloSend s) f 7 [p] ∧ (helloSend s).ring = { s.ring with helloOld := none } ∧ OnlyPages storePages s (helloSend s) ∧
      beside { helloSend s with sw := s.sw, ring := s.ring, test := s.test } = beside s := by
  have heq : helloSend s = helloCopies (sendOwnFrame (helloTold s) { desc := ownDesc (helloTold s) f 7, ports := [p], tagged := false }) f ps := by
    have hports : helloPorts (helloTold s) = p :: ps := hps
    subst hf
    exact congrArg (helloCopies (helloTold s) _) hports
  have hsame : FrameSame s (helloTold s) := ⟨fun _ _ => rfl, rfl⟩
  have hroom1 : hasRoom (helloTold s) f 7 [p] = true := (hsame.hasRoom ..).trans hroom
  have hp : p ∉ ps := (List.nodup_cons.mp (hps ▸ helloPorts_nodup s)).1
  obtain ⟨hsw1, hpages1⟩ := sendOwnFrame_plain_kept (helloTold s) (o := { desc := ownDesc (helloTold s) f 7, ports := [p], tagged := false }) rfl
  obtain ⟨hsw, hpages⟩ := helloCopies_kept (sendOwnFrame (helloTold s) { desc := ownDesc (helloTold s) f 7, ports := [p], tagged := false }) f ps
  obtain ⟨hring, _, hbes⟩ := (hsw1.trans hsw).beside
  rw [heq]
  exact ⟨helloCopies_leaves (hsame.leaves (sendOwnFrame_plain hroom1 (List.nodup_singleton p))) hp, hring, fun k hk => (hpages1.trans hpages) k hk,
    congrArg (fun b : State => { b with ring := s.ring }) hbes⟩

/-! ## HELLO arrives (R77, R78, R82) -/

/-- The port's HELLO fields take an outcome. -/
def helloSet (s : State) (p : Port) (j : Nat × Nat) : State :=
  setF (setF (bump s Pg.kvl F.KVL_RX_KVL) (portPage p) F.PORT_STAT_HELLO j.1) (portPage p) F.PORT_STAT_LINK_VER j.2

/-- The partner's address and number, as HELLO tells them to a MIRROR port. -/
def partnerTold (s : State) (role : Nat) (f : Frame) (k : Kvl) : State :=
  if role = 3 then { s with pair := { s.pair with partnerMac := f.smac, partnerNode := routeL1 k.src } } else s

theorem partnerTold_only (s : State) (role : Nat) (f : Frame) (k : Kvl) : (partnerTold s role f k).regs = s.regs ∧
    beside { partnerTold s role f k with pair := s.pair } = beside s := by
  unfold partnerTold
  split <;> exact ⟨rfl, rfl⟩

/-- A change into MISMATCH is an event of the port's page. -/
def mismatchTold (s : State) (p : Port) (on : Bool) : State := if on then irqEvent s (portPage p) 3 else s

/-- A HELLO in order is judged by what both ends enable. -/
theorem helloTake_eq {s : State} {p : Port} {f : Frame} {k : Kvl} (hp : p ∈ helloPorts s) (hk : kvlParse f.payload = some k) (hv : verOk s k = true)
    (hb : bodyOk k f = true) :
    let j := helloJudge (linkEn s) (beAt (kvlBody f.payload k) 0 1)
    helloTake s p f = mismatchTold (partnerTold (helloSet s p j) (portRole s p) f k) p (decide (j.1 = 2 ∧ getF s (portPage p) F.PORT_STAT_HELLO ≠ 2)) := by
  have hc : (helloPorts s).contains p = true := List.contains_iff_mem.mpr hp
  intro j
  simp only [helloTake, hc, if_true, hk, hv, hb, Bool.true_eq_false, or_self, if_false, mismatchTold, partnerTold, decide_eq_true_eq]
  rfl

/-- What the port and page KVL show of an outcome. -/
theorem helloSet_spec {s : State} {p : Port} (hp : isEthPort p = true) {j : Nat × Nat} (h1 : j.1 < 4) (h2 : j.2 < 4) :
    getF (helloSet s p j) (portPage p) F.PORT_STAT_HELLO = j.1 ∧ getF (helloSet s p j) (portPage p) F.PORT_STAT_LINK_VER = j.2 ∧
      getF (helloSet s p j) Pg.kvl F.KVL_RX_KVL = (getF s Pg.kvl F.KVL_RX_KVL + 1) % 2 ^ 32 ∧ OnlyPages [portPage p, Pg.kvl] s (helloSet s p j) := by
  have hne : portPage p ∉ [Pg.kvl] ∧ Pg.kvl ∉ [portPage p] := by
    revert hp
    cases p <;> decide
  have hport : OnlyPages [portPage p] (bump s Pg.kvl F.KVL_RX_KVL) (helloSet s p j) :=
    ((OnlyPages.refl _ _).setF List.mem_cons_self (by decide)).setF List.mem_cons_self (by decide)
  refine ⟨?_, ?_, ?_, (((OnlyPages.refl _ s).bump (by simp) (by decide)).trans (hport.mono (by simp)))⟩
  · rw [helloSet, getF_setF_stat _ _ _ rfl rfl (by decide) (by decide), getF_setF_same _ _ _ _ _ (by decide)]
    exact Nat.mod_eq_of_lt h1
  · rw [helloSet, getF_setF_same _ _ _ _ _ (by decide)]
    exact Nat.mod_eq_of_lt h2
  · rw [hport.getF hne.2 (by decide)]
    exact getF_bump_same s _ rfl rfl

theorem topVer_lt (set : Nat) : topVer set < 4 := by
  unfold topVer
  split <;> try split <;> try split
  all_goals omega

theorem helloJudge_lt (a b : Nat) : (helloJudge a b).1 < 4 ∧ (helloJudge a b).2 < 4 := by
  unfold helloJudge
  split
  · exact ⟨by decide, by decide⟩
  · exact ⟨show 1 < 4 by decide, topVer_lt _⟩

/-- What a HELLO in order leaves (R77, R78, R82). -/
theorem helloTake_spec {s : State} {p : Port} {f : Frame} {k : Kvl} (hp : p ∈ helloPorts s) (hk : kvlParse f.payload = some k) (hv : verOk s k = true)
    (hb : bodyOk k f = true) :
    let j := helloJudge (linkEn s) (beAt (kvlBody f.payload k) 0 1)
    let u := helloTake s p f
    getF u (portPage p) F.PORT_STAT_HELLO = j.1 ∧ getF u (portPage p) F.PORT_STAT_LINK_VER = j.2 ∧
      (j.1 = 2 → getF s (portPage p) F.PORT_STAT_HELLO ≠ 2 → (getW u (portPage p) 0x10).getLsbD 3 = true) ∧
      getF u Pg.kvl F.KVL_RX_KVL = (getF s Pg.kvl F.KVL_RX_KVL + 1) % 2 ^ 32 ∧ OnlyPages [portPage p, Pg.kvl] s u ∧
      beside { u with pair := s.pair } = beside s := by
  have heth := helloPorts_eth hp
  have heq := helloTake_eq hp hk hv hb
  dsimp only at heq ⊢
  rw [heq]
  obtain ⟨hj1, hj2⟩ := helloJudge_lt (linkEn s) (beAt (kvlBody f.payload k) 0 1)
  generalize helloJudge (linkEn s) (beAt (kvlBody f.payload k) 0 1) = j at *
  obtain ⟨hhello, hver, hcount, hpages⟩ := helloSet_spec (s := s) heth hj1 hj2
  obtain ⟨hregs, hbes⟩ := partnerTold_only (helloSet s p j) (portRole s p) f k
  have hbes : beside { partnerTold (helloSet s p j) (portRole s p) f k with pair := s.pair } = beside s := hbes
  generalize partnerTold (helloSet s p j) (portRole s p) f k = x at *
  rw [← getF_of_regs hregs] at hhello hver hcount
  have hpages := hpages.of_eq hregs
  unfold mismatchTold
  split
  · refine ⟨?_, ?_, fun _ _ => ?_, ?_, ?_, ?_⟩
    · rw [getF_irqEvent_body _ _ _ _ (by decide) (by decide), hhello]
    · rw [getF_irqEvent_body _ _ _ _ (by decide) (by decide), hver]
    · rw [getW_irqEvent_raw, BitVec.getLsbD_or]
      exact Bool.or_eq_true_iff.mpr (.inr (by decide))
    · rw [getF_irqEvent_body _ _ _ _ (by decide) (by decide), hcount]
    · have hirq : SameRegs (irqKeys (portPage p)) x (irqEvent x (portPage p) 3) := (SameRegs.refl _ x).irqEvent (by simp [irqKeys]) (by simp [irqKeys])
      exact hpages.trans (hirq.onlyPages fun k hk => by rw [linkKeys_page p k (List.mem_cons_of_mem _ hk)]; exact List.mem_cons_self)
    · exact (congrArg (fun b : State => { b with pair := s.pair }) (beside_irqEvent x (portPage p) 3)).trans hbes
  · rename_i hno
    exact ⟨hhello, hver, fun h1 h2 => absurd (decide_eq_true ⟨h1, h2⟩) hno, hcount, hpages, hbes⟩

/-- HELLO_RX (R6, R77): a good frame at a port that carries HELLO is counted and judged. -/
theorem helloIn_eq {s : State} {p : Port} {f : Frame} (hp : p ∈ helloPorts s) (hfcs : f.fcs = .good) (hlen : frameLen f ≤ 9216)
    (hopen : ingressShut s p = false) (hh : isHello s f = true) : helloIn s p f = helloTake (bump s (portPage p) F.PORT_RX_FRAMES) p f := by
  have hsame : FrameSame s (bump s (portPage p) F.PORT_RX_FRAMES) := frameSame_bump (helloPorts_eth hp) (by decide) (by decide)
  have hh1 : isHello (bump s (portPage p) F.PORT_RX_FRAMES) f = true := by rwa [isHello, hsame.isKvlType, ← isHello]
  have hc : (helloPorts s).contains p = true := List.contains_iff_mem.mpr hp
  simp only [helloIn, hc, hfcs, hopen, hh1, maxFrame, hlen, Bool.not_true, Bool.false_eq_true, if_false, decide_true, Bool.and_true, if_true]

theorem helloIn_spec {s : State} {p : Port} {f : Frame} {k : Kvl} (hp : p ∈ helloPorts s) (hfcs : f.fcs = .good) (hlen : frameLen f ≤ 9216)
    (hopen : ingressShut s p = false) (hh : isHello s f = true) (hk : kvlParse f.payload = some k) (hv : verOk s k = true) (hb : bodyOk k f = true) :
    let j := helloJudge (linkEn s) (beAt (kvlBody f.payload k) 0 1)
    let u := helloIn s p f
    getF u (portPage p) F.PORT_STAT_HELLO = j.1 ∧ getF u (portPage p) F.PORT_STAT_LINK_VER = j.2 ∧
      (j.1 = 2 → getF s (portPage p) F.PORT_STAT_HELLO ≠ 2 → (getW u (portPage p) 0x10).getLsbD 3 = true) ∧
      getF u Pg.kvl F.KVL_RX_KVL = (getF s Pg.kvl F.KVL_RX_KVL + 1) % 2 ^ 32 ∧ OnlyPages [portPage p, Pg.kvl] s u ∧
      beside { u with pair := s.pair } = beside s := by
  have heth := helloPorts_eth hp
  have hsame : FrameSame s (bump s (portPage p) F.PORT_RX_FRAMES) := frameSame_bump heth (by decide) (by decide)
  have hpages : OnlyPages [portPage p, Pg.kvl] s (bump s (portPage p) F.PORT_RX_FRAMES) := (OnlyPages.refl _ s).bump List.mem_cons_self (by decide)
  have hold : getF (bump s (portPage p) F.PORT_RX_FRAMES) (portPage p) F.PORT_STAT_HELLO = getF s (portPage p) F.PORT_STAT_HELLO :=
    hsame.getF (by decide) (.inr (.inr (by decide)))
  have hcount : getF (bump s (portPage p) F.PORT_RX_FRAMES) Pg.kvl F.KVL_RX_KVL = getF s Pg.kvl F.KVL_RX_KVL :=
    hsame.getF (by decide) (by decide)
  have hv1 : verOk (bump s (portPage p) F.PORT_RX_FRAMES) k = true := (hsame.verOk rfl k).trans hv
  obtain ⟨h1, h2, h3, h4, h5, h6⟩ := helloTake_spec (s := bump s (portPage p) F.PORT_RX_FRAMES) (by rwa [hsame.helloPorts]) hk hv1 hb
  rw [hsame.linkEn rfl] at h1 h2 h3
  rw [hold] at h3
  dsimp only
  rw [helloIn_eq hp hfcs hlen hopen hh]
  exact ⟨h1, h2, h3, h4.trans (by rw [hcount]), hpages.trans h5, h6⟩

/-- HELLO_TIMEOUT (R77). -/
theorem helloGone_spec {s : State} {p : Port} (hp : isEthPort p = true) : getF (helloGone s p) (portPage p) F.PORT_STAT_HELLO = 0 ∧
    getF (helloGone s p) (portPage p) F.PORT_STAT_LINK_VER = 0 ∧
    OnlyRegs [fKey (portPage p) F.PORT_STAT_HELLO, fKey (portPage p) F.PORT_STAT_LINK_VER] s (helloGone s p) := by
  rw [helloGone, if_pos hp]
  refine ⟨?_, ?_, ((SameRegs.refl _ s).setF (by simp)).setF (by simp), rfl⟩
  · rw [getF_setF_stat _ _ _ rfl rfl (by decide) (by decide), getF_setF_same _ _ _ _ _ (by decide), Nat.zero_mod]
  · rw [getF_setF_same _ _ _ _ _ (by decide), Nat.zero_mod]

/-! ## ANNOUNCE and supervision leave (R70, R73, R88) -/

/-- A frame of this hub leaves as an HSR pair, and nothing else changes but the buffer and its counters. -/
theorem sendOwnFrame_pair {s : State} {f : Frame} {c : Nat} (hmac : f.smac = ownMac s) (hroom : hasRoom s (tagged s f) c [.e, .w] = true) :
    let u := sendOwnFrame s { desc := ownDesc s f c, ports := [.e, .w], tagged := true }
    Leaves s u (tagged s f) c [.e, .w] ∧ u.ring = { s.ring with hsrSeq := (s.ring.hsrSeq + 1) % 65536 } ∧
      OnlyPages storePages s u ∧ beside { u with sw := s.sw, ring := s.ring, test := s.test } = beside s := by
  obtain ⟨hleaves, hsw, hpages, _⟩ := sendOwnFrame_tagged hmac hroom (by decide)
  obtain ⟨hring, _, hbes⟩ := hsw.beside
  exact ⟨hleaves, hring, hpages, congrArg (fun b : State => { b with ring := s.ring }) hbes⟩

/-- The ANNOUNCE of a hub that is no coupler, once its version set counts (R88). -/
theorem announceOut_eq {s : State} (hc : isCoupler s = false) (hv : s.ring.verOld = none) :
    announceOut s = sendOwnFrame s {
      desc := ownDesc s (kvlFrame s macAnnounce (ownMac s) { plainHdr s tyAnnounce 7 with dup := true }
        (annBody (ownNode s) false false (getB s Pg.nod F.NOD_SELF_STAT_CONFLICT) (getF s Pg.kvl F.KVL_VER_EN) (getF s Pg.kvl F.KVL_SUPV_PERIOD) (ownEpoch s) 0)) 7
      ports := [.e, .w], tagged := true } := by
  have hset : groupFold s = getF s Pg.kvl F.KVL_VER_EN := by
    rw [groupFold, hc, if_neg Bool.false_ne_true, verEn, hv, Option.getD_none]
  simp only [announceOut, hv, Option.isSome_none, Bool.false_eq_true, if_false, hc, hset, sendOwn]

/-- The supervision frame of a hub without RedBox ports and proxies (R73). -/
theorem supervisionSend_eq {s : State} (hp : s.ring.proxies = []) (h1 : portRole s .c1 ≠ 1) (h2 : portRole s .c2 ≠ 1)
    (hroom : hasRoom s (tagged s (supervision s s.ring.hsrSeq (ownMac s) true)) (frameClass s (supervision s s.ring.hsrSeq (ownMac s) true)) [.e, .w] = true) :
    supervisionSend s = sendOwnFrame s {
      desc := ownDesc s (supervision s s.ring.hsrSeq (ownMac s) true) (frameClass s (supervision s s.ring.hsrSeq (ownMac s) true))
      ports := [.e, .w], tagged := true } := by
  obtain ⟨_, _, hpages, _⟩ := sendOwnFrame_pair rfl hroom
  generalize hx : sendOwnFrame s _ = x at hpages
  have hrole : ∀ c ∈ [Port.c1, .c2], portRole x c = portRole s c := fun c hc => hpages.getF (by revert hc; cases c <;> decide) (by decide)
  have hboxes : ([Port.c1, Port.c2].filter fun c => portRole x c == 1) = [] := by
    rw [List.filter_eq_nil_iff]
    intro c hc
    rw [hrole c hc]
    rcases List.mem_cons.mp hc with rfl | hc
    · simpa using h1
    · rw [List.mem_singleton.mp hc]
      simpa using h2
  simp only [supervisionSend, hp, List.map_nil, List.foldl_cons, List.foldl_nil, hx, hboxes, List.isEmpty_nil, if_true]

/-- Settles O17: HELLO leaves, arrives and ends; ANNOUNCE and supervision frames leave as HSR pairs. -/
theorem helloAndSupervision : Obligations.HelloAndSupervision := by
  unfold Obligations.HelloAndSupervision
  refine ⟨fun s p ha => ⟨fun ps f hps _ hf hroom => ?_, fun f k hp hfcs hlen hopen hh hk hv hb => ⟨fun h0 => ?_, fun h0 => ?_⟩, fun hp => ?_⟩,
    fun s f c ha hc hroom => ⟨fun hf h7 hv => ?_, fun hprox h1 h2 hf hcls => ?_⟩⟩
  · exact completes_during ha rfl (helloSend_spec (s := cleared s) hps hf ((frameSame_cleared s).hasRoom .. |>.trans hroom))
  · obtain ⟨h1, h2, h3, h4, h5, h6⟩ := helloIn_spec (s := cleared s) hp hfcs hlen hopen hh hk hv hb
    have hj : helloJudge (linkEn (cleared s)) (beAt (kvlBody f.payload k) 0 1) = (2, 0) := if_pos h0
    rw [hj] at h1 h2 h3
    exact completes_during ha rfl ⟨h1, h2, h3 rfl, h4, h5, h6⟩
  · obtain ⟨h1, h2, _, h4, h5, h6⟩ := helloIn_spec (s := cleared s) hp hfcs hlen hopen hh hk hv hb
    have hj : helloJudge (linkEn (cleared s)) (beAt (kvlBody f.payload k) 0 1) = (1, topVer (linkEn s &&& beAt (kvlBody f.payload k) 0 1)) := if_neg h0
    rw [hj] at h1 h2
    exact completes_during ha rfl ⟨h1, h2, h4, h5, h6⟩
  · exact completes_during ha rfl (helloGone_spec (s := cleared s) hp)
  · subst hf h7
    refine completes_during ha rfl ?_
    rw [announceOut_eq (s := cleared s) hc hv]
    exact sendOwnFrame_pair (s := cleared s) rfl ((frameSame_cleared s).hasRoom .. |>.trans hroom)
  · subst hf hcls
    refine completes_during ha rfl ?_
    have hroom := (frameSame_cleared s).hasRoom .. |>.trans hroom
    rw [supervisionSend_eq (s := cleared s) hprox h1 h2 hroom]
    exact sendOwnFrame_pair (s := cleared s) rfl hroom

end Sys2Proof.Machine
end

section
/-! PROOFS. Duplicate discard on the rings, and the proxies of a RedBox port (R70 to R72, R74). -/

namespace Sys2Proof.Machine

/-! ## What the reception of a frame depends on -/

section
variable {s t : State} (h : FrameSame s t)
include h

theorem FrameSame.trans {u : State} (b : FrameSame t u) : FrameSame s u := ⟨fun k hk => (b.regs k hk).trans (h.regs k hk), b.sw.trans h.sw⟩

theorem FrameSame.pairMac : pairMac t = pairMac s := by
  simp only [Machine.pairMac, h.getF (p := Pg.par) (f := F.PAR_PAIR_MAC_LO_MAC_LO) (i := 0) (by decide) (by decide),
    h.getF (p := Pg.par) (f := F.PAR_PAIR_MAC_HI_MAC_HI) (i := 0) (by decide) (by decide)]

theorem FrameSame.pairAnswers : pairAnswers t = pairAnswers s := by
  simp only [Machine.pairAnswers, pairRole, h.getF (p := Pg.par) (f := F.PAR_STAT_ROLE) (i := 0) (by decide) (by decide)]

theorem FrameSame.isCoupler : isCoupler t = isCoupler s := by
  simp only [Machine.isCoupler, h.getF (p := Pg.port 2) (f := F.PORT_CFG_ROLE) (i := 0) (by decide) (by decide),
    h.getF (p := Pg.port 3) (f := F.PORT_CFG_ROLE) (i := 0) (by decide) (by decide),
    h.getF (p := Pg.port 2) (f := F.PORT_CFG_MODE) (i := 0) (by decide) (by decide),
    h.getF (p := Pg.port 3) (f := F.PORT_CFG_MODE) (i := 0) (by decide) (by decide)]

theorem FrameSame.frameClass (f : Frame) : frameClass t f = frameClass s f := by
  have hen : ∀ k ∈ List.range 4, (Machine.getB t Pg.swc F.SWC_ETC_EN k && Machine.getF t Pg.swc F.SWC_ETC_ETYPE k == f.etype) =
      (Machine.getB s Pg.swc F.SWC_ETC_EN k && Machine.getF s Pg.swc F.SWC_ETC_ETYPE k == f.etype) := fun k hk => by
    have hk := List.mem_range.mp hk
    rw [h.getB (by simp only [F.SWC_ETC_EN]; omega) (.inr (.inl (by decide))), h.getF (by simp only [F.SWC_ETC_ETYPE]; omega) (.inr (.inl (by decide)))]
  unfold Machine.frameClass
  rw [h.isKvlType, List.find?_congr hen, h.getF (p := Pg.swc) (f := F.SWC_PCP_MAP_MAP) (i := 0) (by decide) (by decide),
    h.getF (p := Pg.swc) (f := F.SWC_PCP_MAP_UNTAGGED) (i := 0) (by decide) (by decide)]
  split
  · rfl
  · split
    · rename_i k hk
      have hk := List.mem_range.mp (List.mem_of_find?_eq_some hk)
      rw [h.getF (by simp only [F.SWC_ETC_CLASS]; omega) (.inr (.inl (by decide)))]
    · rfl

theorem FrameSame.portSpeed (p : Port) : portSpeed t p = portSpeed s p := by
  have hmode : portMode t p = portMode s p := h.getF (by decide) (.inr (.inr (by decide)))
  simp only [Machine.portSpeed, hmode, h.getF (p := portPage p) (f := F.PORT_STAT_SGMII_SPEED) (i := 0) (by decide) (.inr (.inr (by decide)))]

theorem FrameSame.sluOpen (p : Port) : sluOpen t Pg.slu40 (portSluice p) = sluOpen s Pg.slu40 (portSluice p) := by
  have hp := portIdx_le p
  have hen : sluEn t Pg.slu40 (portSluice p) = sluEn s Pg.slu40 (portSluice p) := by
    rw [sluEn, h.getB (by simp only [F.SLU_CTL_EN, portSluice]; omega) (.inr (.inl (by decide))), sluEn]
  have htok : sluTokens t Pg.slu40 (portSluice p) = sluTokens s Pg.slu40 (portSluice p) := by
    rw [sluTokens, h.getF (by simp only [F.SLU_TOKENS_TOKENS, portSluice]; omega) (.inr (.inl (by decide))), sluTokens]
  rw [Machine.sluOpen, hen, htok, Machine.sluOpen]

theorem FrameSame.cutOk (p o : Port) : cutOk t p o = cutOk s p o := by
  simp only [Machine.cutOk, h.getB (p := Pg.swc) (f := F.SWC_CTL_CT_EN) (i := 0) (by decide) (by decide), h.coreTakes, h.portTakes, h.sw, h.queueOf,
    h.sluOpen, h.portSpeed]

end

/-! ## A frame that starts at once (R143) -/

theorem tcEgress_kept (s : State) (i p : Port) (rx : Nat) (f : Frame) :
    OnlyPages [Pg.tmk] s (tcEgress s i p rx f).2.2 ∧ (tcEgress s i p rx f).2.2.ring = s.ring := by
  unfold tcEgress
  dsimp only
  split
  · exact ⟨.refl _ s, rfl⟩
  split
  · exact ⟨.refl _ s, rfl⟩
  split
  · exact ⟨.of_eq (.refl _ s) rfl, rfl⟩
  split
  · split
    · exact ⟨.of_eq (.refl _ s) rfl, rfl⟩
    · exact ⟨(OnlyPages.refl _ s).bump List.mem_cons_self (by decide), rfl⟩
  · exact ⟨.refl _ s, rfl⟩

/-- Correcting a frame, and inserting the time into it, leave the rest to the clock's page (R225, R227). -/
theorem egressFrame_kept (s : State) (p : Port) (d : Desc) :
    OnlyPages [Pg.tmk] s (egressFrame s p d).2 ∧ (egressFrame s p d).2.ring = s.ring := by
  have hwire : ∀ r : Frame × Bool × State, OnlyPages [Pg.tmk] s r.2.2 ∧ r.2.2.ring = s.ring →
      let s1 := if r.2.1 then { r.2.2 with sw := { r.2.2.sw with tcWire := r.2.2.sw.tcWire ++ [portIdx p] } } else r.2.2
      let e := if d.oneStep then (oneStepInsert s1 p r.1, s1) else (r.1, s1)
      OnlyPages [Pg.tmk] s e.2 ∧ e.2.ring = s.ring := fun r ⟨hpages, hring⟩ => by
    rcases hcorr : r.2.1 <;> rcases d.oneStep <;> exact ⟨hpages, hring⟩
  refine hwire _ ?_
  split
  · exact tcEgress_kept ..
  · exact ⟨.refl _ s, rfl⟩

theorem sluCharge_kept (s : State) {i : Nat} (hi : i < 64) (len : Nat) :
    OnlyPages [Pg.slu40] s (sluCharge s Pg.slu40 i len) ∧ (sluCharge s Pg.slu40 i len).ring = s.ring := by
  unfold sluCharge
  split
  · exact ⟨((OnlyPages.refl _ s).setF List.mem_cons_self (by simp only [F.SLU_TOKENS_TOKENS]; omega)).bump List.mem_cons_self
      (by simp only [F.SLU_RELEASED_COUNT]; omega), rfl⟩
  · exact ⟨.refl _ s, rfl⟩

/-- A frame that starts to leave changes the meters, the clock's count and the counter of its port. -/
theorem startFrame_kept (s : State) (p : Port) (fid : Nat) :
    OnlyPages [Pg.tmk, Pg.slu40, portPage p] s (startFrame s p fid) ∧ (startFrame s p fid).ring = s.ring := by
  unfold startFrame
  split
  · exact ⟨.refl _ s, rfl⟩
  · rename_i d _
    obtain ⟨hegress, hring⟩ := egressFrame_kept s p d
    obtain ⟨hcharge, hring2⟩ := sluCharge_kept (waitEnd (egressFrame s p d).2 (4096 + portIdx p)) (i := portSluice p)
      (by have := portIdx_le p; unfold portSluice; omega) (egressLen s p d.frame)
    have hpages : OnlyPages [Pg.tmk, Pg.slu40, portPage p] s
        (sluCharge (waitEnd (egressFrame s p d).2 (4096 + portIdx p)) Pg.slu40 (portSluice p) (egressLen s p d.frame)) :=
      ((hegress.mono (by simp)).of_eq rfl).trans (hcharge.mono (by simp))
    have hring := hring2.trans hring
    dsimp only
    split
    · exact ⟨hpages.of_eq rfl, hring⟩
    · split
      · exact ⟨(hpages.of_eq rfl).bump (by simp) (by decide), hring⟩
      · exact ⟨hpages.of_eq rfl, hring⟩

/-! ## An HSR frame arrives (R71, R72) -/

theorem isHsrPort_eth {s : State} {p : Port} (h : isHsrPort s p = true) : isEthPort p = true := by
  revert h
  cases p <;> simp [isHsrPort, isEthPort]

/-- A good tagged frame that is no peer-delay message is counted, and its HSR tag is judged. -/
theorem hsrRx_good {s : State} {p : Port} {f : Frame} {rx : RxMeta} {h : HsrTag} (hport : isHsrPort s p = true) (hup : portUp s p = true)
    (hgood : rxGood f rx = true) (hh : f.hsr = some h) (hpd : isPdelay f = false) (hopen : ingressShut s p = false) :
    hsrRx s p f rx = hsrFrame (bump s (portPage p) F.PORT_RX_FRAMES) p f h false := by
  simp only [hsrRx, hport, hup, hgood, hh, hpd, hopen, Bool.and_self, Bool.not_true, Bool.false_and, Bool.false_eq_true, if_false, if_true]

/-- A frame without FEC counts leaves the FEC counters as they are (R67). -/
theorem fecCount_none (s : State) (p : Port) {rx : RxMeta} (h1 : rx.fecCorr = 0) (h2 : rx.fecUncorr = 0) : fecCount s p rx = s := by
  simp only [fecCount, h1, h2, if_true, ite_self]

/-- Only an ANNOUNCE leaves its arrival. -/
theorem noteArrival_plain {s : State} (p : Port) {f : Frame} (h : isKvlType s f = false) : noteArrival s p f = s := by
  simp only [noteArrival, h, Bool.false_eq_true, false_and, if_false]

/-- A plain frame of this hub's own address goes no further (R71). -/
theorem hsrFrame_own {s : State} {p : Port} {f : Frame} {h : HsrTag} (hk : isKvlType s f = false) (hmac : f.smac = ownMac s) :
    hsrFrame s p f h false = bump s (portPage p) F.PORT_HSR_OWN := by
  unfold hsrFrame
  rw [if_neg Bool.false_ne_true, noteArrival_plain p hk]
  dsimp only
  rw [if_pos (.inl hmac), if_neg Bool.false_ne_true]

/-- A plain frame from another hub to another hub, where this hub is no coupler and answers for no pair. -/
structure Transit (s : State) (f : Frame) : Prop where
  plain : isKvlType s f = false
  source : f.smac ≠ ownMac s
  sourceProxy : isProxied s f.smac = false
  proxy : isProxied s f.dmac = false
  pair : pairAnswers s = false
  coupler : isCoupler s = false
  target : f.dmac ≠ ownMac s
  group : isGroup f.dmac = false

theorem Transit.notTarget {s : State} {f : Frame} (a : Transit s f) : (f.dmac == ownMac s) = false := beq_eq_false_iff_ne.mpr a.target

theorem Transit.of_same {s t : State} {f : Frame} (a : Transit s f) (h : FrameSame s t) (hring : t.ring = s.ring) (hdev : t.dev = s.dev) :
    Transit t f where
  plain := (h.isKvlType f).trans a.plain
  source := by rw [ownMac, hdev]; exact a.source
  sourceProxy := by rw [isProxied, hring]; exact a.sourceProxy
  proxy := by rw [isProxied, hring]; exact a.proxy
  pair := h.pairAnswers.trans a.pair
  coupler := h.isCoupler.trans a.coupler
  target := by rw [ownMac, hdev]; exact a.target
  group := a.group

/-- A copy of a transit frame that its entry has sent out of the other port is a duplicate. -/
theorem hsrFrame_dup {s : State} {p : Port} {f : Frame} {h : HsrTag} {e : DdEnt} (a : Transit s f) (he : ddGet s (isSubPort p) f.smac h.seq = some e)
    (hf : e.fwd.contains (otherPort p) = true) : hsrFrame s p f h false = bump s (portPage p) F.PORT_HSR_DUP := by
  have hmem : otherPort p ∈ e.fwd := List.contains_iff_mem.mp hf
  simp [hsrFrame, noteArrival_plain p a.plain, kvlBarred, crossPorts, a.plain, a.source, a.sourceProxy, a.proxy, a.pair, a.coupler, a.notTarget, a.group,
    he, hmem]

/-- The descriptor of a transit frame. -/
def transitDesc (s : State) (p : Port) (f : Frame) : Desc := { rxDesc s p f true with cut := cutOk s p (otherPort p) }

/-- A new transit frame that finds cells gets an entry, and is launched at the other port of its ring. -/
theorem hsrFrame_new {s t : State} {p : Port} {f : Frame} {h : HsrTag} {fid : Nat} (a : Transit s f)
    (he : ddGet s (isSubPort p) f.smac h.seq = none) (ho : portTakes s (otherPort p) = true)
    (hform : formFrame s (transitDesc s p f) [otherPort p] = some (fid, t)) :
    hsrFrame s p f h false = launch (ddNote t (isSubPort p) f.smac h.seq false [otherPort p]) fid (frameClass s f) [otherPort p]
      (if cutOk s p (otherPort p) then some (otherPort p) else none) := by
  have hcut : (if cutOk s p (otherPort p) then some (otherPort p) else none).isSome = cutOk s p (otherPort p) := by
    cases cutOk s p (otherPort p) <;> rfl
  have hdesc : { rxDesc s p f true with loc := none, cut := (if cutOk s p (otherPort p) then some (otherPort p) else none).isSome } = transitDesc s p f := by
    rw [hcut]; rfl
  simp [hsrFrame, noteArrival_plain p a.plain, kvlBarred, crossPorts, a.plain, a.source, a.sourceProxy, a.proxy, a.pair, a.coupler, a.notTarget, a.group,
    he, ho, hdesc, hform]

/-- The entry of a frame that has been sent out of a port. -/
def ddNew (s : State) (sub : Bool) (f : Frame) (h : HsrTag) (o : Port) : RingSt :=
  { s.ring with dd := s.ring.dd ++ [{ smac := f.smac, seq := h.seq, sub := sub, delivered := false, fwd := [o] }] }

theorem ddNote_new {s t : State} {sub : Bool} {f : Frame} {h : HsrTag} {o : Port} (hring : t.ring = s.ring) (he : ddGet s sub f.smac h.seq = none)
    (hlen : s.ring.dd.length < 8192) : ddNote t sub f.smac h.seq false [o] = { t with ring := ddNew s sub f h o } := by
  have het : ddGet t sub f.smac h.seq = none := by rw [ddGet, hring, ← ddGet, he]
  simp only [ddNote, het, hring, hlen, if_true]
  rfl

/-- Launching a frame at one port leaves the ring, and the registers of other ports. -/
theorem launch_kept (s : State) (fid c : Nat) (o : Port) (cut : Bool) :
    (launch s fid c [o] (if cut then some o else none)).ring = s.ring ∧
      OnlyPages [Pg.swc, Pg.tmk, Pg.slu40, portPage o] s (launch s fid c [o] (if cut then some o else none)) := by
  cases cut with
  | false => exact ⟨rfl, .of_eq (.refl _ s) rfl⟩
  | true =>
    have hjoin : joinQueues s fid c ([o].filter fun q => some q != some o) = s := by
      rw [List.filter_eq_nil_iff.mpr (by simp)]; rfl
    obtain ⟨hpages, hring⟩ := startFrame_kept (bump s Pg.swc F.SWC_CT_FRAMES) o fid
    simp only [launch, hjoin, if_true]
    exact ⟨hring, ((OnlyPages.refl _ s).bump (by simp) (by decide)).trans (hpages.mono (by simp))⟩

/-- What a new transit frame leaves: its entry, and the frame in its class queue or on its way. -/
theorem hsrFrame_new_spec {s : State} {p : Port} {f : Frame} {h : HsrTag} (a : Transit s f) (heth : isEthPort p = true)
    (he : ddGet s (isSubPort p) f.smac h.seq = none) (hlen : s.ring.dd.length < 8192) (ho : portTakes s (otherPort p) = true)
    (hroom : poolRoom s 0 f [otherPort p] = true) :
    (hsrFrame s p f h false).ring = ddNew s (isSubPort p) f h (otherPort p) ∧
      getF (hsrFrame s p f h false) (portPage p) F.PORT_RX_FRAMES = getF s (portPage p) F.PORT_RX_FRAMES ∧
      (cutOk s p (otherPort p) = false → Leaves s (hsrFrame s p f h false) f (frameClass s f) [otherPort p]) := by
  obtain ⟨fid, t, hform⟩ := formFrame_room (s := s) (d := transitDesc s p f) hroom rfl
  obtain ⟨hring, _, _⟩ := (formFrame_only hform).beside
  obtain ⟨hstore, _, _⟩ := formFrame_kept hform
  have hpage : portPage p ∉ storePages ∧ portPage p ∉ [Pg.swc, Pg.tmk, Pg.slu40, portPage (otherPort p)] := by
    revert heth
    cases p <;> decide
  rw [hsrFrame_new a he ho hform, ddNote_new hring he hlen]
  obtain ⟨hlring, hlpages⟩ := launch_kept { t with ring := ddNew s (isSubPort p) f h (otherPort p) } fid (frameClass s f) (otherPort p) (cutOk s p (otherPort p))
  refine ⟨hlring, ?_, fun hcut => ?_⟩
  · rw [hlpages.getF hpage.2 (by decide)]
    exact hstore.getF hpage.1 (by decide)
  · have hleaves := leaves_joinQueues hform (List.nodup_singleton _)
    rw [List.filter_singleton, ho] at hleaves
    rw [hcut]
    exact hleaves

/-- An entry that has lived for DD_FORGET is gone, and no other (R72). -/
theorem ddGet_ddExpire (s : State) (smac seq : Nat) (sub : Bool) (smac' seq' : Nat) (sub' : Bool) :
    ddGet (ddExpire s smac seq sub) sub' smac' seq' = if (smac', seq', sub') = (smac, seq, sub) then none else ddGet s sub' smac' seq' := by
  unfold ddGet ddExpire
  dsimp only
  rw [List.find?_filter]
  split
  · rename_i h
    cases h
    rw [List.find?_eq_none]
    intro e _
    cases e.smac == smac && e.seq == seq && e.sub == sub <;> simp
  · rename_i h
    refine List.find?_congr fun e _ => ?_
    have : ∀ e : DdEnt, (e.smac == smac' && e.seq == seq' && e.sub == sub') = true → (e.smac == smac && e.seq == seq && e.sub == sub) = false := by
      intro e h1
      simp only [Bool.and_eq_true, beq_iff_eq] at h1
      obtain ⟨⟨rfl, rfl⟩, rfl⟩ := h1
      simpa [Bool.and_eq_false_iff] using h
    have := this e
    cases h1 : (e.smac == smac' && e.seq == seq' && e.sub == sub')
    · simp
    · simp [this h1]

/-! ## Proxies (R70, R74) -/

/-- PROXY_USED of both ports follows the table. -/
theorem proxyCount_spec (s : State) :
    (∀ c ∈ [Port.c1, Port.c2], getF (proxyCount s) (portPage c) F.PORT_PROXY_USED_USED = (s.ring.proxies.filter (·.2 == c)).length % 2 ^ F.PORT_PROXY_USED_USED.w) ∧
      beside (proxyCount s) = beside s ∧
      SameRegs [fKey (portPage .c1) F.PORT_PROXY_USED_USED, fKey (portPage .c2) F.PORT_PROXY_USED_USED] s (proxyCount s) := by
  refine ⟨fun c hc => ?_, rfl, ((SameRegs.refl _ s).setF (by simp)).setF (by simp)⟩
  have heq : proxyCount s = setF (setF s (portPage .c1) F.PORT_PROXY_USED_USED (s.ring.proxies.filter (·.2 == .c1)).length) (portPage .c2)
      F.PORT_PROXY_USED_USED (s.ring.proxies.filter (·.2 == .c2)).length := rfl
  rw [heq]
  rcases List.mem_cons.mp hc with rfl | hc
  · rw [((SameRegs.refl [fKey (portPage .c2) F.PORT_PROXY_USED_USED] _).setF List.mem_cons_self).getF (by decide), getF_setF_same _ _ _ _ _ (by decide)]
  · rw [List.mem_singleton.mp hc, getF_setF_same _ _ _ _ _ (by decide)]

theorem frameSame_proxyCount (s : State) : FrameSame s (proxyCount s) :=
  ((FrameSame.refl s).setW (by decide) (by decide) (by decide)).setW (by decide) (by decide) (by decide)

/-- A point's headgate changes the registers of headgates only. -/
theorem pointCheck_kept (s : State) (q c len : Nat) :
    (pointCheck s q c len).2.ring = s.ring ∧ ∃ hg, OnlyPages [Pg.hdg hg] s (pointCheck s q c len).2 := by
  have hgate : ∀ hg, (headgate s hg len).2.ring = s.ring ∧ OnlyPages [Pg.hdg hg] s (headgate s hg len).2 := fun hg => by
    have hexcess : OnlyPages [Pg.hdg hg] s (bump s (Pg.hdg hg) F.HDG_EXCESS_COUNT 1 (hg % 64)) :=
      (OnlyPages.refl _ s).bump List.mem_cons_self (by simp only [F.HDG_EXCESS_COUNT]; omega)
    unfold headgate
    dsimp only
    split
    · exact ⟨rfl, .refl _ s⟩
    split
    · exact ⟨rfl, (OnlyPages.refl _ s).setF List.mem_cons_self (by simp only [F.HDG_TOKENS_TOKENS]; omega)⟩
    split
    · exact ⟨rfl, hexcess.bump List.mem_cons_self (by decide)⟩
    · exact ⟨rfl, hexcess⟩
  unfold pointCheck
  split
  · exact ⟨rfl, 0, .refl _ s⟩
  · rename_i hg _
    obtain ⟨hring, hpages⟩ := hgate hg
    dsimp only
    split
    · exact ⟨hring, hg, hpages⟩
    · exact ⟨hring, hg, hpages⟩
    · exact ⟨hring, hg, hpages.bump List.mem_cons_self (by decide)⟩

/-- A device's frame as this hub sends it on. -/
def proxyDesc (s : State) (p : Port) (f : Frame) (c : Nat) : Desc := { rxDesc s p f false with cls := c, pool := poolOf false c }

/-- The frame of a device goes on as an HSR pair, unless its headgate drops it or its cells are not there. -/
def proxySend (s : State) (p : Port) (f : Frame) : State :=
  let r := pointCheck s (portIdx p - 2) (frameClass s f) (frameLen f)
  match r.1 with
  | none => r.2
  | some c =>
    match sendHsr r.2 (proxyDesc r.2 p f c) [.e, .w] with
    | some x => x
    | none => poolDrop r.2 (proxyDesc r.2 p f c).pool

/-- The hub with a device in its table of proxies. -/
def proxyAdd (s : State) (p : Port) (mac : Nat) : State :=
  proxyCount { s with ring := { s.ring with proxies := (s.ring.proxies.filter (·.1 != mac)) ++ [(mac, p)] } }

/-- A good plain frame of a device, where the table has room (R74). -/
theorem redboxRx_plain {s : State} {p : Port} {f : Frame} (hsub : isSubPort p = true) (hrole : portRole s p = 1) (hup : portUp s p = true)
    (hfcs : f.fcs = .good) (hlen : frameLen f ≤ 9216) (hh : f.hsr = none) (hk : isKvlType s f = false) (hopen : ingressShut s p = false)
    (hroom : s.ring.proxies.length < 512) :
    redboxRx s p f = proxySend (proxyAdd (bump s (portPage p) F.PORT_RX_FRAMES) p f.smac) p f := by
  have heth : isEthPort p = true := by revert hsub; cases p <;> decide
  have hsame : FrameSame s (bump s (portPage p) F.PORT_RX_FRAMES) := frameSame_bump heth (by decide) (by decide)
  have hfull : ¬ 512 ≤ (bump s (portPage p) F.PORT_RX_FRAMES).ring.proxies.length := Nat.not_le.mpr hroom
  have hplain := (hsame.isKvlType f).trans hk
  have hfit : frameLen f ≤ maxFrame := hlen
  simp only [redboxRx, rxGood, hsub, hrole, hup, hfcs, hfit, hh, hplain, hopen, hfull, beq_self_eq_true, Bool.and_self, Bool.not_true, Bool.not_false,
    Bool.and_false, decide_true, decide_false, Bool.false_eq_true, if_false, Option.isSome_none]
  rfl

theorem sendHsr_kept {s t : State} {d : Desc} {ports : List Port} (h : sendHsr s d ports = some t) :
    t.ring.proxies = s.ring.proxies ∧ OnlyPages storePages s t := by
  have hregs : (nextHsr s d.frame.smac).2.regs = s.regs := by
    unfold nextHsr
    split <;> rfl
  obtain ⟨x, r, k, m, n, rfl⟩ := sendHsr_only h
  exact ⟨rfl, ((OnlyPages.refl _ s).of_eq hregs).trans (storeFrame_kept h).1⟩

/-- A discard for lack of cells is counted and raised in page BUF. -/
theorem poolDrop_kept (s : State) (pool : Nat) : (poolDrop s pool).ring = s.ring ∧ OnlyPages storePages s (poolDrop s pool) := by
  have hcount : ∀ f : FieldD, f.off + f.stride * 0 < 0x1000 →
      (irqEvent (bump s Pg.buf f) Pg.buf 3).ring = s.ring ∧ OnlyPages storePages s (irqEvent (bump s Pg.buf f) Pg.buf 3) := fun f hf => by
    have hirq : SameRegs (irqKeys Pg.buf) (bump s Pg.buf f) (irqEvent (bump s Pg.buf f) Pg.buf 3) :=
      (SameRegs.refl _ _).irqEvent (by simp [irqKeys]) (by simp [irqKeys])
    exact ⟨ring_of_beside (beside_irqEvent _ _ _), ((OnlyPages.refl _ s).bump (by decide) hf).trans (hirq.onlyPages (by decide))⟩
  unfold poolDrop
  refine hcount _ ?_
  split
  · decide
  split
  · decide
  split <;> decide

/-- Sending a device's frame on keeps the table of proxies, and the registers of the ports. -/
theorem proxySend_kept (s : State) {p : Port} (heth : isEthPort p = true) (f : Frame) :
    (proxySend s p f).ring.proxies = s.ring.proxies ∧ getF (proxySend s p f) (portPage p) F.PORT_RX_FRAMES = getF s (portPage p) F.PORT_RX_FRAMES := by
  obtain ⟨hlo, hhi⟩ := portPage_eth heth
  obtain ⟨hring, hg, hpages⟩ := pointCheck_kept s (portIdx p - 2) (frameClass s f) (frameLen f)
  have hgate : getF (pointCheck s (portIdx p - 2) (frameClass s f) (frameLen f)).2 (portPage p) F.PORT_RX_FRAMES = getF s (portPage p) F.PORT_RX_FRAMES :=
    hpages.getF (by simp only [List.mem_singleton, Pg.hdg]; omega) (by decide)
  have hproxies := congrArg RingSt.proxies hring
  have hstore : portPage p ∉ storePages := by
    revert heth
    cases p <;> decide
  unfold proxySend
  dsimp only
  split
  · exact ⟨hproxies, hgate⟩
  split
  · rename_i hsend
    obtain ⟨hkept, hsent⟩ := sendHsr_kept hsend
    exact ⟨hkept.trans hproxies, (hsent.getF hstore (by decide)).trans hgate⟩
  · obtain ⟨hkept, hdrop⟩ := poolDrop_kept (pointCheck s (portIdx p - 2) (frameClass s f) (frameLen f)).2 _
    exact ⟨(congrArg RingSt.proxies hkept).trans hproxies, (hdrop.getF hstore (by decide)).trans hgate⟩

/-- Where no headgate meters its point, and the buffer has room, a device's frame leaves as an HSR pair (R70). -/
theorem proxySend_leaves {s : State} {p : Port} {f : Frame} (hgate : pointHeadgate s (portIdx p - 2) (frameClass s f) = none) (hmac : f.smac ≠ pairMac s)
    (hroom : poolRoom s (poolOf false (frameClass s f)) (tagged s f) [.e, .w] = true) :
    Leaves s (proxySend s p f) (tagged s f) (frameClass s f) [.e, .w] := by
  have hsame : FrameSame s (hsrNext s) := ⟨fun _ _ => rfl, rfl⟩
  rw [← hsame.poolRoom] at hroom
  obtain ⟨t, hstore, hleaves⟩ := storeFrame_room (s := hsrNext s) (ports := [.e, .w])
    (d := descTag (proxyDesc s p f (frameClass s f)) { path := 0, seq := s.ring.hsrSeq }) hroom rfl (by decide)
  have hnext : nextHsr s f.smac = (s.ring.hsrSeq, hsrNext s) := by
    rw [nextHsr, if_neg fun h => hmac h.2.1]
    rfl
  have hsend : sendHsr s (proxyDesc s p f (frameClass s f)) [.e, .w] = some t := by
    have : nextHsr s (proxyDesc s p f (frameClass s f)).frame.smac = (s.ring.hsrSeq, hsrNext s) := hnext
    rw [sendHsr, this]
    exact hstore
  have hpass : pointCheck s (portIdx p - 2) (frameClass s f) (frameLen f) = (some (frameClass s f), s) := by rw [pointCheck, hgate]
  rw [proxySend, hpass]
  dsimp only
  rw [hsend]
  exact hsame.leaves hleaves

theorem FrameSame.pointHeadgate {s t : State} (h : FrameSame s t) (q c : Nat) : pointHeadgate t q c = pointHeadgate s q c := by
  have hword : ∀ o, Machine.getW t 0x080 o = Machine.getW s 0x080 o := fun o => by
    rw [Machine.getW, h.regs _ (by unfold portCounter regKey; omega), Machine.getW]
  have hfield : ∀ f i, Machine.getF t 0x080 f i = Machine.getF s 0x080 f i := fun f i => by rw [Machine.getF, hword, Machine.getF]
  have hbit : ∀ f i, Machine.getB t 0x080 f i = Machine.getB s 0x080 f i := fun f i => by rw [Machine.getB, hfield, Machine.getB]
  rw [Machine.pointHeadgate, hbit, hfield, Machine.pointHeadgate]

theorem frameSame_proxyAdd (s : State) (p : Port) (mac : Nat) : FrameSame s (proxyAdd s p mac) :=
  ⟨(frameSame_proxyCount { s with ring := { s.ring with proxies := (s.ring.proxies.filter (·.1 != mac)) ++ [(mac, p)] } }).regs, rfl⟩

/-- REDBOX_FRAME_RX (R70, R74). -/
theorem redboxRx_spec {s : State} {p : Port} {f : Frame} (hsub : isSubPort p = true) (hrole : portRole s p = 1) (hup : portUp s p = true)
    (hfcs : f.fcs = .good) (hlen : frameLen f ≤ 9216) (hh : f.hsr = none) (hk : isKvlType s f = false) (hopen : ingressShut s p = false)
    (hroom : s.ring.proxies.length < 512) :
    (redboxRx s p f).ring.proxies = (s.ring.proxies.filter (·.1 != f.smac)) ++ [(f.smac, p)] ∧
      getF (redboxRx s p f) (portPage p) F.PORT_RX_FRAMES = (getF s (portPage p) F.PORT_RX_FRAMES + 1) % 2 ^ 32 ∧
      (pointHeadgate s (portIdx p - 2) (frameClass s f) = none → f.smac ≠ pairMac s →
        poolRoom s (poolOf false (frameClass s f)) (tagged s f) [.e, .w] = true → Leaves s (redboxRx s p f) (tagged s f) (frameClass s f) [.e, .w]) := by
  have heth : isEthPort p = true := by revert hsub; cases p <;> decide
  rw [redboxRx_plain hsub hrole hup hfcs hlen hh hk hopen hroom]
  have hsame : FrameSame s (proxyAdd (bump s (portPage p) F.PORT_RX_FRAMES) p f.smac) :=
    (frameSame_bump (f := F.PORT_RX_FRAMES) heth (by decide) (by decide)).trans (frameSame_proxyAdd ..)
  obtain ⟨hproxies, hcount⟩ := proxySend_kept (proxyAdd (bump s (portPage p) F.PORT_RX_FRAMES) p f.smac) heth f
  refine ⟨hproxies, ?_, fun hgate hmac hcells => ?_⟩
  · obtain ⟨_, _, hused⟩ := proxyCount_spec { bump s (portPage p) F.PORT_RX_FRAMES with
      ring := { s.ring with proxies := (s.ring.proxies.filter (·.1 != f.smac)) ++ [(f.smac, p)] } }
    have hkey : fKey (portPage p) F.PORT_RX_FRAMES ∉ [fKey (portPage .c1) F.PORT_PROXY_USED_USED, fKey (portPage .c2) F.PORT_PROXY_USED_USED] := by
      cases p <;> decide
    rw [hcount]
    exact (hused.getF hkey).trans (getF_bump_same s _ rfl rfl)
  · rw [← hsame.frameClass] at hgate hcells ⊢
    rw [← hsame.pointHeadgate] at hgate
    rw [← hsame.pairMac] at hmac
    exact hsame.leaves (proxySend_leaves hgate hmac ((hsame.poolRoom ..).trans hcells))

/-- PROXY_EXPIRE (R74): a silent device is no proxy any more. -/
theorem proxyExpire_spec (s : State) (mac : Nat) :
    isProxied (proxyExpire s mac) mac = false ∧ (proxyExpire s mac).ring = { s.ring with proxies := s.ring.proxies.filter (·.1 != mac) } ∧
      (∀ c ∈ [Port.c1, Port.c2], getF (proxyExpire s mac) (portPage c) F.PORT_PROXY_USED_USED =
        ((proxyExpire s mac).ring.proxies.filter (·.2 == c)).length % 2 ^ F.PORT_PROXY_USED_USED.w) ∧
      beside { proxyExpire s mac with ring := s.ring } = beside s ∧
      SameRegs [fKey (portPage .c1) F.PORT_PROXY_USED_USED, fKey (portPage .c2) F.PORT_PROXY_USED_USED] s (proxyExpire s mac) := by
  obtain ⟨hused, _, hregs⟩ := proxyCount_spec { s with ring := { s.ring with proxies := s.ring.proxies.filter (·.1 != mac) } }
  have hring : (proxyExpire s mac).ring = { s.ring with proxies := s.ring.proxies.filter (·.1 != mac) } := rfl
  refine ⟨?_, hring, hused, rfl, hregs⟩
  rw [isProxied, hring, List.any_eq_false]
  intro x hx
  simpa using (List.mem_filter.mp hx).2

/-- HSR_FRAME_RX of a frame that came with no FEC counts: it is counted, and judged (R67, R71). -/
theorem hsrIn_good {s : State} {p : Port} {f : Frame} {rx : RxMeta} {h : HsrTag} (hport : isHsrPort s p = true) (hup : portUp s p = true)
    (hgood : rxGood f rx = true) (hh : f.hsr = some h) (h1 : rx.fecCorr = 0) (h2 : rx.fecUncorr = 0) (hpd : isPdelay f = false)
    (hopen : ingressShut s p = false) : hsrRx (fecCount s p rx) p f rx = hsrFrame (bump s (portPage p) F.PORT_RX_FRAMES) p f h false := by
  rw [fecCount_none s p h1 h2, hsrRx_good hport hup hgood hh hpd hopen]

/-- A frame that is counted as it arrives and once more as this counter's. -/
theorem twice_counted (s : State) (p : Nat) {g : FieldD} (hlo : g.lo = 0) (hw : g.w = 32) (hne : fKey p F.PORT_RX_FRAMES ≠ fKey p g) :
    let u := bump (bump s p F.PORT_RX_FRAMES) p g
    getF u p F.PORT_RX_FRAMES = (getF s p F.PORT_RX_FRAMES + 1) % 2 ^ 32 ∧ getF u p g = (getF s p g + 1) % 2 ^ 32 ∧
      OnlyRegs [fKey p F.PORT_RX_FRAMES, fKey p g] s u := by
  have hfirst : SameRegs [fKey p F.PORT_RX_FRAMES] s (bump s p F.PORT_RX_FRAMES) := (SameRegs.refl _ s).bump List.mem_cons_self
  have hsecond : SameRegs [fKey p g] (bump s p F.PORT_RX_FRAMES) (bump (bump s p F.PORT_RX_FRAMES) p g) := (SameRegs.refl _ _).bump List.mem_cons_self
  refine ⟨?_, ?_, ((SameRegs.refl _ s).bump (by simp)).bump (by simp), rfl⟩
  · rw [hsecond.getF (by simpa using hne), getF_bump_same s _ rfl rfl]
  · rw [getF_bump_same _ _ hlo hw, hfirst.getF (by simpa using hne.symm)]

/-- Settles O16: the duplicate discard of transit frames, and the table of proxies. -/
theorem ringFramesAndProxies : Obligations.RingFramesAndProxies := by
  unfold Obligations.RingFramesAndProxies
  refine ⟨fun s p f rx h ha hport hup hgood hh hc1 hc2 hpd hopen hk => ?_, fun s p f mac ha => ⟨fun hsub hrole hup hfcs hlen hh hk hopen hroom => ?_, ?_⟩⟩
  · have heth := isHsrPort_eth hport
    have hin := hsrIn_good (s := cleared s) hport hup hgood hh hc1 hc2 hpd hopen
    have hsame : FrameSame s (bump (cleared s) (portPage p) F.PORT_RX_FRAMES) :=
      (frameSame_cleared s).trans (frameSame_bump (f := F.PORT_RX_FRAMES) heth (by decide) (by decide))
    refine ⟨fun hmac => ?_, fun hsrc hsp hdp hpair hcoup hdst hgroup => ?_, fun smac seq sub => ?_⟩
    · refine completes_during ha rfl ?_
      rw [hin, hsrFrame_own ((hsame.isKvlType f).trans hk) hmac]
      exact twice_counted (cleared s) _ rfl rfl (by unfold fKey regKey; simp [F.PORT_RX_FRAMES, F.PORT_HSR_OWN])
    · have htransit : Transit (bump (cleared s) (portPage p) F.PORT_RX_FRAMES) f :=
        Transit.of_same ⟨hk, hsrc, hsp, hdp, hpair, hcoup, hdst, hgroup⟩ hsame rfl rfl
      refine ⟨fun he hlen ho hroom => ?_, fun e he hf => ?_⟩
      · refine completes_during ha rfl ?_
        rw [hin]
        obtain ⟨hring, hcount, hleaves⟩ := hsrFrame_new_spec htransit heth he hlen (by rwa [hsame.portTakes]) ((hsame.poolRoom ..).trans hroom)
        rw [hsame.cutOk, hsame.frameClass] at hleaves
        exact ⟨hring, hcount.trans (getF_bump_same _ _ rfl rfl), fun hcut => hsame.leaves (hleaves hcut)⟩
      · refine completes_during ha rfl ?_
        rw [hin, hsrFrame_dup htransit he hf]
        obtain ⟨_, hcount, honly⟩ := twice_counted (cleared s) (portPage p) (g := F.PORT_HSR_DUP) rfl rfl
          (by unfold fKey regKey; simp [F.PORT_RX_FRAMES, F.PORT_HSR_DUP])
        exact ⟨hcount, honly⟩
    · refine completes_during ha rfl ⟨?_, fun smac' seq' sub' hne => ?_, rfl, rfl⟩
      · rw [ddGet_ddExpire, if_pos rfl]
      · rw [ddGet_ddExpire, if_neg hne]
        rfl
  · obtain ⟨hproxies, hcount, hleaves⟩ := redboxRx_spec (s := cleared s) hsub hrole hup hfcs hlen hh hk hopen hroom
    have hclear := frameSame_cleared s
    rw [hclear.frameClass, hclear.pointHeadgate] at hleaves
    refine completes_during ha rfl ⟨?_, fun x hx hmac => ?_, hcount,
      fun hgate hmac hcells => hclear.leaves (hleaves hgate hmac ((hclear.poolRoom ..).trans hcells))⟩
    · rw [hproxies]
      simp
    · rw [hproxies] at hx
      rcases List.mem_append.mp hx with hx | hx
      · simp [hmac] at hx
      · rw [List.mem_singleton.mp hx]
  · exact completes_during ha rfl (proxyExpire_spec (cleared s) mac)

end Sys2Proof.Machine
end

section
/-! PROOFS. The node table, its registers, and a coupler that forwards a CPL (R86, R89 to R92, R95, R99, R483). -/

namespace Sys2Proof.Machine

/-! ## Paths are judged anew beside the ring -/

theorem ring_irqEvent (s : State) (p b : Nat) : (irqEvent s p b).ring = s.ring := ring_of_beside (beside_irqEvent s p b)

theorem fenceLift_ring (s : State) (flow : Nat) : (fenceLift s flow).ring = s.ring := by
  unfold fenceLift
  dsimp only
  split <;> rfl

theorem fenceStart_ring (s : State) (flow : Nat) : (fenceStart s flow).ring = s.ring := by
  unfold fenceStart
  dsimp only
  split
  · exact ring_irqEvent ..
  · exact (fenceLift_ring ..).trans (ring_irqEvent ..)

theorem pathRecheck_ring (s : State) (flow : Nat) : (pathRecheck s flow).ring = s.ring := by
  unfold pathRecheck
  dsimp only
  split
  · split
    · split <;> rfl
    · split
      · split
        · rfl
        · exact fenceStart_ring s flow
      · rfl
  · rfl

theorem pathRecheckAll_ring (s : State) : (pathRecheckAll s).ring = s.ring :=
  List.foldlRecOn (motive := fun a : State => a.ring = s.ring) _ _ rfl fun a ha fl _ => (pathRecheck_ring a fl).trans ha

/-! ## Entries of the node tables (R89) -/

theorem nodeEnt_of_ring {s t : State} (h : t.ring = s.ring) (sub : Bool) (n : Nat) : nodeEnt t sub n = nodeEnt s sub n := by rw [nodeEnt, h, nodeEnt]

/-- An entry that is set reads as it was set, and no other changes. -/
theorem nodeEnt_setNode (s : State) (sub : Bool) (n : Nat) (e : NodeEnt) (sub' : Bool) (n' : Nat) :
    nodeEnt (setNode s sub n e) sub' n' = if (sub', n') = (sub, n) then some e else nodeEnt s sub' n' := by
  by_cases hn : n' = n
  · subst hn
    cases sub <;> cases sub' <;> simp [nodeEnt, setNode]
  · cases sub <;> cases sub' <;> simp [nodeEnt, setNode, hn, tabGet_tabSet_ne]

theorem setNode_chg (s : State) (sub : Bool) (n : Nat) (e : NodeEnt) : (setNode s sub n e).ring.chg = s.ring.chg := by cases sub <;> rfl

theorem setNode_regs (s : State) (sub : Bool) (n : Nat) (e : NodeEnt) : (setNode s sub n e).regs = s.regs := by cases sub <;> rfl

/-! ## Changes (R91) -/

/-- The interrupt source of a change. -/
def changeBit (reason : Nat) : Nat := if reason = 1 then 2 else if reason = 2 then 3 else 4

/-- The hub with a change record behind the others. -/
def chgAdd (s : State) (r : ChgRec) : State := { s with ring := { s.ring with chg := s.ring.chg ++ [r] } }

theorem nodeChange_eq {s : State} (sub : Bool) (node state reason : Nat) (h : s.ring.chg.length < 64) :
    nodeChange s sub node state reason = irqEvent (chgAdd (bump s Pg.nod F.NOD_GEN_GEN)
      { node := node, sub := sub, state := state, reason := reason, gen := (getF s Pg.nod F.NOD_GEN_GEN + 1) % 2 ^ 32 % 65536 }) Pg.nod
      (changeBit reason) := by
  have hroom : (bump s Pg.nod F.NOD_GEN_GEN).ring.chg.length < 64 := h
  simp only [nodeChange, hroom, if_true, getF_bump_same s Pg.nod (f := F.NOD_GEN_GEN) rfl rfl]
  rfl

/-- A change counts, is recorded while the queue has room, and raises its source. -/
theorem nodeChange_room {s : State} (sub : Bool) (node state reason : Nat) (h : s.ring.chg.length < 64) :
    let u := nodeChange s sub node state reason
    u.ring = { s.ring with chg := s.ring.chg ++ [{ node := node, sub := sub, state := state, reason := reason, gen := getF u Pg.nod F.NOD_GEN_GEN % 65536 }] } ∧
      getF u Pg.nod F.NOD_GEN_GEN = (getF s Pg.nod F.NOD_GEN_GEN + 1) % 2 ^ 32 ∧ (getW u Pg.nod 0x10).getLsbD (changeBit reason) = true ∧
      OnlyPages [Pg.nod] s u := by
  dsimp only
  rw [nodeChange_eq sub node state reason h]
  generalize hr : (ChgRec.mk node sub state reason ((getF s Pg.nod F.NOD_GEN_GEN + 1) % 2 ^ 32 % 65536)) = r
  have hirq : SameRegs (irqKeys Pg.nod) (bump s Pg.nod F.NOD_GEN_GEN) (irqEvent (chgAdd (bump s Pg.nod F.NOD_GEN_GEN) r) Pg.nod (changeBit reason)) :=
    ((SameRegs.refl _ _).of_eq rfl).irqEvent (by simp [irqKeys]) (by simp [irqKeys])
  have hgen : getF (irqEvent (chgAdd (bump s Pg.nod F.NOD_GEN_GEN) r) Pg.nod (changeBit reason)) Pg.nod F.NOD_GEN_GEN =
      (getF s Pg.nod F.NOD_GEN_GEN + 1) % 2 ^ 32 := by
    rw [hirq.getF (by decide), getF_bump_same s _ rfl rfl]
  refine ⟨?_, hgen, ?_, ((OnlyPages.refl _ s).bump List.mem_cons_self (by decide)).trans (hirq.onlyPages (by decide))⟩
  · rw [hgen, ring_irqEvent, ← hr]
    rfl
  · rw [getW_irqEvent_raw, BitVec.getLsbD_or]
    refine Bool.or_eq_true_iff.mpr (.inr ?_)
    unfold changeBit
    split
    · decide
    split <;> decide

/-- A change of the table leaves its entries. -/
theorem nodeEnt_nodeChange {s : State} (sub : Bool) (node state reason : Nat) (h : s.ring.chg.length < 64) (sub' : Bool) (n' : Nat) :
    nodeEnt (nodeChange s sub node state reason) sub' n' = nodeEnt s sub' n' := by
  rw [nodeEnt, (nodeChange_room sub node state reason h).1, nodeEnt]

/-! ## What follows a change of the node table -/

/-- The ring, and the count and the sources of changes, stand. -/
structure ChangesKept (s t : State) : Prop where
  ring : t.ring = s.ring
  gen : getF t Pg.nod F.NOD_GEN_GEN = getF s Pg.nod F.NOD_GEN_GEN
  raw : getW t Pg.nod 0x10 = getW s Pg.nod 0x10

theorem ChangesKept.refl (s : State) : ChangesKept s s := ⟨rfl, rfl, rfl⟩

theorem ChangesKept.trans {s t u : State} (a : ChangesKept s t) (b : ChangesKept t u) : ChangesKept s u :=
  ⟨b.ring.trans a.ring, b.gen.trans a.gen, b.raw.trans a.raw⟩

theorem ChangesKept.nodeEnt {s t : State} (a : ChangesKept s t) (sub : Bool) (n : Nat) : nodeEnt t sub n = nodeEnt s sub n := nodeEnt_of_ring a.ring sub n

/-- Registers of page NOD behind the change counter's may change. -/
theorem changesKept_setF (s : State) {f : FieldD} (v : Nat) (h : f.off + f.stride * 0 = 0x44 ∨ f.off + f.stride * 0 = 0x54) :
    ChangesKept s (setF s Pg.nod f v) := by
  have hregs : SameRegs [fKey Pg.nod f] s (setF s Pg.nod f v) := (SameRegs.refl _ s).setF List.mem_cons_self
  have hkey : fKey Pg.nod F.NOD_GEN_GEN ∉ [fKey Pg.nod f] ∧ regKey Pg.nod 0x10 ∉ [fKey Pg.nod f] := by
    unfold fKey
    rcases h with h | h <;> rw [h] <;> decide
  exact ⟨rfl, hregs.getF hkey.1, hregs.getW hkey.2⟩

theorem isCoupler_onlyPages {s t : State} (h : OnlyPages [Pg.nod] s t) : isCoupler t = isCoupler s := by
  simp only [isCoupler, h.getF (p := Pg.port 2) (f := F.PORT_CFG_ROLE) (i := 0) (by decide) (by decide),
    h.getF (p := Pg.port 3) (f := F.PORT_CFG_ROLE) (i := 0) (by decide) (by decide),
    h.getF (p := Pg.port 2) (f := F.PORT_CFG_MODE) (i := 0) (by decide) (by decide),
    h.getF (p := Pg.port 3) (f := F.PORT_CFG_MODE) (i := 0) (by decide) (by decide)]

theorem uplinkEnd_kept (s : State) : ChangesKept s (uplinkEnd s) ∧ OnlyPages [Pg.nod] s (uplinkEnd s) := by
  unfold uplinkEnd
  split
  · exact ⟨.refl s, .refl _ s⟩
  · exact ⟨changesKept_setF s _ (.inl rfl), (OnlyPages.refl _ s).setF List.mem_cons_self (by decide)⟩

theorem changesKept_pathRecheckAll (s : State) : ChangesKept s (pathRecheckAll s) := by
  have hfab := fabricOnly_pathRecheckAll s
  have hnod : ¬ fabricPage Pg.nod := by unfold fabricPage; decide
  have hword : ∀ o, o < 0x1000 → getW (pathRecheckAll s) Pg.nod o = getW s Pg.nod o := fun o ho => hfab.getW hnod ho
  exact ⟨pathRecheckAll_ring s, by rw [getF, hword _ (by decide), getF], hword _ (by decide)⟩

/-- What follows from a change of the table at a hub that is no coupler leaves the table and the changes (R94, R96, R147). -/
theorem changesKept_follow {s : State} (h : isCoupler s = false) : ChangesKept s (pathRecheckAll (groupSet (uplinkEnd s))) := by
  obtain ⟨hup, hpages⟩ := uplinkEnd_kept s
  have hgroup : groupSet (uplinkEnd s) = uplinkEnd s := by rw [groupSet, isCoupler_onlyPages hpages, h, if_neg Bool.false_ne_true]
  rw [hgroup]
  exact hup.trans (changesKept_pathRecheckAll _)

/-- A change, and what follows from it: the entries stand, and the change is counted, recorded and raised. -/
theorem change_spec {x u : State} {sub : Bool} {node state reason : Nat} (h : x.ring.chg.length < 64) (hk : ChangesKept (nodeChange x sub node state reason) u) :
    (∀ sub' n', nodeEnt u sub' n' = nodeEnt x sub' n') ∧ getF u Pg.nod F.NOD_GEN_GEN = (getF x Pg.nod F.NOD_GEN_GEN + 1) % 2 ^ 32 ∧
      (getW u Pg.nod 0x10).getLsbD (changeBit reason) = true ∧
      u.ring.chg = x.ring.chg ++ [{ node := node, sub := sub, state := state, reason := reason, gen := getF u Pg.nod F.NOD_GEN_GEN % 65536 }] := by
  obtain ⟨hring, hgen, hraw, _⟩ := nodeChange_room sub node state reason h
  refine ⟨fun sub' n' => (hk.nodeEnt ..).trans (nodeEnt_nodeChange sub node state reason h sub' n'), hk.gen.trans hgen, by rw [hk.raw]; exact hraw, ?_⟩
  rw [hk.ring, hring, hk.gen]

/-! ## An ANNOUNCE updates the node table (R90) -/

/-- The frame that is taken is its own copy no more; nothing else changes but the switch core. -/
theorem takeLocal_spec {s s1 : State} {sel : Port → Frame → Kvl → Bool} {x : Port × Frame × Kvl} (h : takeLocal s sel = some (x, s1)) :
    takeLocal (cleared s) sel = some (x, cleared s1) ∧ s1 = { s with sw := s1.sw } := by
  unfold takeLocal at h
  split at h
  · cases h
  · rename_i fid y hfind
    cases h
    have hend : ∀ d, endLocal (cleared s) d 1 = cleared (endLocal s d 1) ∧ endLocal s d 1 = { s with sw := (endLocal s d 1).sw } := fun d => by
      unfold endLocal
      dsimp only
      cases hd : tabGet s.sw.frames d with
      | none => exact ⟨by rw [show (cleared s).sw = s.sw from rfl, hd]; rfl, rfl⟩
      | some e =>
        rw [show (cleared s).sw = s.sw from rfl, hd]
        dsimp only
        split
        · exact ⟨rfl, rfl⟩
        · exact ⟨rfl, rfl⟩
    refine ⟨?_, (hend fid).2⟩
    unfold takeLocal
    have hfind1 : ((cleared s).sw.localQ.findSome? fun fid => (tabGet (cleared s).sw.frames fid).bind fun d => (frameKvl (cleared s) d.frame).bind fun k =>
      if sel (d.ingress.getD .m) d.frame k then some (fid, d.ingress.getD .m, d.frame, k) else none) = some (fid, x) := hfind
    rw [hfind1]
    exact congrArg (fun t => some (x, t)) (hend fid).1

/-- The entry that an ANNOUNCE of another node without a conflict meets is the table's of its ring. -/
theorem announceIn_other {s s1 : State} {p : Port} {f : Frame} {k : Kvl}
    (h : takeLocal s (fun _ _ k => k.type == tyAnnounce) = some ((p, f, k), s1)) (hconf : (annOf f k).conflict = false)
    (hother : isSubPort p = true ∨ (annOf f k).node ≠ ownNode s1) :
    announceIn s = pathRecheckAll (groupSet (uplinkEnd (uplinkCheck (annOther s1 (isSubPort p) (annOf f k)) (isSubPort p) (annOf f k)))) := by
  have hown : (!isSubPort p && (annOf f k).node == ownNode s1) = false := by
    rcases hother with h | h <;> simp [h]
  simp only [announceIn, h, hconf, hown, Bool.false_eq_true, if_false]

/-- A node heard for the first time (R90). -/
theorem annOther_new {s : State} {sub : Bool} {a : Ann} (h : nodeEnt s sub a.node = none) (hj : (judgeEntry s sub a.node a.verSet).1 = 1) :
    annOther s sub a = nodeChange (setNode s sub a.node (annEntry s sub a (judgeEntry s sub a.node a.verSet))) sub a.node 1 1 := by
  simp only [annOther, h, hj]

/-- A PRESENT node that announces what it announced before (R90). -/
theorem annOther_same {s : State} {sub : Bool} {a : Ann} {e : NodeEnt} (h : nodeEnt s sub a.node = some e) (hst : e.state = 1) (hmac : e.mac = a.mac)
    (hep : e.epoch = a.epoch) (hgen : e.groupGen = a.groupGen) (hver : e.verSet = a.verSet) (hneg : e.negVer = (judgeEntry s sub a.node a.verSet).2) :
    annOther s sub a = setNode s sub a.node (annEntry s sub a (judgeEntry s sub a.node a.verSet)) := by
  simp [annOther, h, hst, hmac, hep, hgen, hver, hneg, negChange]

theorem judgeEntry_one {s : State} {sub : Bool} {n set : Nat} (h : (judgeEntry s sub n set).1 = 1) : judgeEntry s sub n set = (1, topVer (verEn s &&& set)) := by
  by_cases hset : (if sub then groupBefore s n else verEn s) &&& set = 0
  · rw [judgeEntry, if_pos hset] at h
    simp at h
  · rw [judgeEntry, if_neg hset]

/-- What follows the entry of an ANNOUNCE at a hub that is no coupler. -/
theorem changesKept_announce {s t : State} {sub : Bool} {a : Ann} (hc : isCoupler s = false) (h : OnlyPages [Pg.nod] s t) :
    ChangesKept t (pathRecheckAll (groupSet (uplinkEnd (uplinkCheck t sub a)))) := by
  have hct : isCoupler t = false := (isCoupler_onlyPages h).trans hc
  have hup : uplinkCheck t sub a = t := by
    simp only [uplinkCheck, hct, Bool.and_false, Bool.false_and, Bool.false_eq_true, if_false]
  rw [hup]
  exact changesKept_follow hct

/-- ANNOUNCE_RX of a node heard for the first time (R90, R91). -/
theorem announceIn_new {s s1 : State} {p : Port} {f : Frame} {k : Kvl} (hc : isCoupler s1 = false)
    (h : takeLocal s (fun _ _ k => k.type == tyAnnounce) = some ((p, f, k), s1)) (hconf : (annOf f k).conflict = false)
    (hother : isSubPort p = true ∨ (annOf f k).node ≠ ownNode s1) (hj : (judgeEntry s1 (isSubPort p) (annOf f k).node (annOf f k).verSet).1 = 1)
    (hnew : nodeEnt s1 (isSubPort p) (annOf f k).node = none) (hroom : s1.ring.chg.length < 64) :
    nodeEnt (announceIn s) (isSubPort p) (annOf f k).node =
        some (annEntry s1 (isSubPort p) (annOf f k) (1, topVer (verEn s1 &&& (annOf f k).verSet))) ∧
      (∀ sub n, (sub, n) ≠ (isSubPort p, (annOf f k).node) → nodeEnt (announceIn s) sub n = nodeEnt s1 sub n) ∧
      getF (announceIn s) Pg.nod F.NOD_GEN_GEN = (getF s1 Pg.nod F.NOD_GEN_GEN + 1) % 2 ^ 32 ∧ (getW (announceIn s) Pg.nod 0x10).getLsbD 2 = true ∧
      (announceIn s).ring.chg = s1.ring.chg ++
        [{ node := (annOf f k).node, sub := isSubPort p, state := 1, reason := 1, gen := getF (announceIn s) Pg.nod F.NOD_GEN_GEN % 65536 }] := by
  rw [announceIn_other h hconf hother, annOther_new hnew hj, judgeEntry_one hj]
  generalize hx : setNode s1 (isSubPort p) (annOf f k).node _ = x
  have hchg : x.ring.chg = s1.ring.chg := by rw [← hx, setNode_chg]
  have hregs : x.regs = s1.regs := by rw [← hx, setNode_regs]
  obtain ⟨_, _, _, hpages⟩ := nodeChange_room (isSubPort p) (annOf f k).node 1 1 (hchg ▸ hroom)
  obtain ⟨hent, hgen, hraw, hrec⟩ := change_spec (hchg ▸ hroom)
    (changesKept_announce (sub := isSubPort p) (a := annOf f k) hc (((OnlyPages.refl _ s1).of_eq hregs).trans hpages))
  refine ⟨?_, fun sub n hne => ?_, ?_, hraw, ?_⟩
  · rw [hent, ← hx, nodeEnt_setNode, if_pos rfl]
  · rw [hent, ← hx, nodeEnt_setNode, if_neg hne]
  · rw [hgen, getF_of_regs hregs]
  · rw [hrec, hchg]

/-- ANNOUNCE_RX of a node that announces what it announced before (R90). -/
theorem announceIn_same {s s1 : State} {p : Port} {f : Frame} {k : Kvl} {e : NodeEnt} (hc : isCoupler s1 = false)
    (h : takeLocal s (fun _ _ k => k.type == tyAnnounce) = some ((p, f, k), s1)) (hconf : (annOf f k).conflict = false)
    (hother : isSubPort p = true ∨ (annOf f k).node ≠ ownNode s1) (hj : (judgeEntry s1 (isSubPort p) (annOf f k).node (annOf f k).verSet).1 = 1)
    (he : nodeEnt s1 (isSubPort p) (annOf f k).node = some e) (hst : e.state = 1) (hmac : e.mac = (annOf f k).mac) (hep : e.epoch = (annOf f k).epoch)
    (hgen : e.groupGen = (annOf f k).groupGen) (hver : e.verSet = (annOf f k).verSet) (hneg : e.negVer = topVer (verEn s1 &&& (annOf f k).verSet)) :
    nodeEnt (announceIn s) (isSubPort p) (annOf f k).node = some (annEntry s1 (isSubPort p) (annOf f k) (1, e.negVer)) ∧
      (announceIn s).ring.chg = s1.ring.chg ∧ getF (announceIn s) Pg.nod F.NOD_GEN_GEN = getF s1 Pg.nod F.NOD_GEN_GEN := by
  have hone := judgeEntry_one hj
  rw [announceIn_other h hconf hother, annOther_same he hst hmac hep hgen hver (by rw [hone, hneg]), hone, ← hneg]
  have hkept := changesKept_announce (sub := isSubPort p) (a := annOf f k) hc ((OnlyPages.refl _ s1).of_eq
    (setNode_regs s1 (isSubPort p) (annOf f k).node (annEntry s1 (isSubPort p) (annOf f k) (1, e.negVer))))
  refine ⟨?_, ?_, ?_⟩
  · rw [hkept.nodeEnt, nodeEnt_setNode, if_pos rfl]
  · rw [hkept.ring, setNode_chg]
  · rw [hkept.gen, getF_of_regs (setNode_regs ..)]

/-! ## A node, or a path to it, is silent (R90, R92) -/

/-- The arrivals of a node's ANNOUNCEs are forgotten. -/
def arrivalsCut (s : State) (keep : Nat × Port → Bool) : State := { s with ring := { s.ring with arrivals := s.ring.arrivals.filter keep } }

theorem nodeGone_eq {s : State} {sub : Bool} {n : Nat} {e : NodeEnt} (h : nodeEnt s sub n = some e) (hst : e.state = 1 ∨ e.state = 3 ∨ e.state = 4)
    (hw : announceWaits s sub e.mac = false) :
    let x := setNode (arrivalsCut s fun x => !(x.1 == e.mac && isSubPort x.2 == sub)) sub n { e with state := 2, reachE := false, reachW := false }
    let y := nodeChange x sub n 2 2
    nodeGone s sub n = pathRecheckAll (groupSet (uplinkEnd (if sub then groupBump y else y))) := by
  simp only [nodeGone, h, hst, hw, and_self, if_true]
  rfl

/-- NODE_LOSS (R90, R91). -/
theorem nodeGone_spec {s : State} {sub : Bool} {n : Nat} {e : NodeEnt} (hc : isCoupler s = false) (h : nodeEnt s sub n = some e)
    (hst : e.state = 1 ∨ e.state = 3 ∨ e.state = 4) (hw : announceWaits s sub e.mac = false) (hroom : s.ring.chg.length < 64) :
    nodeEnt (nodeGone s sub n) sub n = some { e with state := 2, reachE := false, reachW := false } ∧
      (∀ sub' n', (sub', n') ≠ (sub, n) → nodeEnt (nodeGone s sub n) sub' n' = nodeEnt s sub' n') ∧
      getF (nodeGone s sub n) Pg.nod F.NOD_GEN_GEN = (getF s Pg.nod F.NOD_GEN_GEN + 1) % 2 ^ 32 ∧
      (getW (nodeGone s sub n) Pg.nod 0x10).getLsbD 3 = true ∧
      (nodeGone s sub n).ring.chg = s.ring.chg ++
        [{ node := n, sub := sub, state := 2, reason := 2, gen := getF (nodeGone s sub n) Pg.nod F.NOD_GEN_GEN % 65536 }] := by
  have heq := nodeGone_eq h hst hw
  dsimp only at heq
  generalize hx : setNode (arrivalsCut s _) sub n _ = x at heq
  have hchg : x.ring.chg = s.ring.chg := by rw [← hx, setNode_chg]; rfl
  have hregs : x.regs = s.regs := by rw [← hx, setNode_regs]; rfl
  obtain ⟨_, _, _, hpages⟩ := nodeChange_room sub n 2 2 (hchg ▸ hroom)
  have hgroup : ChangesKept (nodeChange x sub n 2 2) (if sub then groupBump (nodeChange x sub n 2 2) else nodeChange x sub n 2 2) ∧
      OnlyPages [Pg.nod] (nodeChange x sub n 2 2) (if sub then groupBump (nodeChange x sub n 2 2) else nodeChange x sub n 2 2) := by
    cases sub
    · exact ⟨.refl _, .refl _ _⟩
    · exact ⟨changesKept_setF _ _ (.inr rfl), (OnlyPages.refl _ _).bump List.mem_cons_self (by decide)⟩
  obtain ⟨hkept, hnod⟩ := hgroup
  have hcoupler := (isCoupler_onlyPages ((((OnlyPages.refl _ s).of_eq hregs).trans hpages).trans hnod)).trans hc
  have hall := hkept.trans (changesKept_follow hcoupler)
  rw [← heq] at hall
  obtain ⟨hent, hgen, hraw, hrec⟩ := change_spec (hchg ▸ hroom) hall
  refine ⟨?_, fun sub' n' hne => ?_, ?_, hraw, ?_⟩
  · rw [hent, ← hx, nodeEnt_setNode, if_pos rfl]
  · rw [hent, ← hx, nodeEnt_setNode, if_neg hne]
    rfl
  · rw [hgen, getF_of_regs hregs]
  · rw [hrec, hchg]

/-- An ANNOUNCE that meets the bound wins (R90). -/
theorem nodeGone_met {s : State} {sub : Bool} {n : Nat} {e : NodeEnt} (h : nodeEnt s sub n = some e) (hw : announceWaits s sub e.mac = true) :
    nodeGone s sub n = s := by
  simp only [nodeGone, h, hw, Bool.true_eq_false, and_false, if_false]

/-- REACH_EXPIRE of one of the two paths of a ring (R92). -/
theorem reachGone_spec {s : State} {n : Nat} {e : NodeEnt} {p : Port} (h : nodeEnt s false n = some e) (hst : e.state = 1 ∨ e.state = 3 ∨ e.state = 4)
    (hp : p = .e ∨ p = .w) (he : e.reachE = true) (hw : e.reachW = true) :
    nodeEnt (reachGone s false n p) false n = some (if p = .e then { e with reachE := false } else { e with reachW := false }) ∧
      (reachGone s false n p).ring.chg = s.ring.chg := by
  have heq : reachGone s false n p = pathRecheckAll (setNode (arrivalsCut s fun x => x != (e.mac, p)) false n
      (if p = .e then { e with reachE := false } else { e with reachW := false })) := by
    rcases hp with rfl | rfl <;> simp [reachGone, h, hst, he, hw, isHsrPort, isSubPort, arrivalsCut]
  rw [heq]
  refine ⟨?_, ?_⟩
  · rw [nodeEnt_of_ring (pathRecheckAll_ring _), nodeEnt_setNode, if_pos rfl]
  · rw [pathRecheckAll_ring, setNode_chg]
    rfl

/-! ## Registers of the node (R86, R91, R99, R483) -/

/-- CHG_POP on an empty queue reads 0. -/
theorem completes_chgPop_none {s : State} {who : Agent} (h : accReaches s who Pg.nod 0x64 = true) (hc : s.ring.chg = []) :
    Completes (.chgPop who) s fun u => Answers s u who Pg.nod 0x64 0#32 ∧ u.ring = s.ring ∧ u.regs = s.regs := by
  have hpop : chgPopNow (accNext (cleared s)) = (0#32, accNext (cleared s)) := by
    have hc1 : (accNext (cleared s)).ring.chg = [] := hc
    rw [chgPopNow, hc1]
  exact completes_read h rfl rfl hpop rfl fun u hu hb ha => ⟨ha, ring_of_beside hb, hu⟩

/-- CHG_POP gives the oldest record and removes it. -/
theorem completes_chgPop_some {s : State} {who : Agent} {r : ChgRec} {rs : List ChgRec} (h : accReaches s who Pg.nod 0x64 = true)
    (hc : s.ring.chg = r :: rs) :
    Completes (.chgPop who) s fun u => u.ring = { s.ring with chg := rs } ∧ u.regs = s.regs ∧
      Answers s u who Pg.nod 0x64 (BitVec.ofNat 32 (r.node + (if r.sub then 64 else 0) + 128 + 256 * r.state + 2048 * r.reason + 65536 * r.gen)) := by
  have hpop : chgPopNow (accNext (cleared s)) =
      (BitVec.ofNat 32 (r.node + (if r.sub then 64 else 0) + 128 + 256 * r.state + 2048 * r.reason + 65536 * r.gen),
        { accNext (cleared s) with ring := { s.ring with chg := rs } }) := by
    have hc1 : (accNext (cleared s)).ring.chg = r :: rs := hc
    rw [chgPopNow, hc1]
    rfl
  exact completes_read h rfl rfl hpop rfl fun u hu hb ha => ⟨ring_of_beside hb, hu, ha⟩

/-- A new own number that no entry holds ends a number conflict (R93, R483). -/
theorem nodeNumber_noEntries {s : State} (old new : Nat) (h : ∀ n, nodeEnt s false n = none) :
    nodeNumber s old new = if old = new then s else setB s Pg.nod F.NOD_SELF_STAT_CONFLICT false := by
  have hn : ∀ n, nodeEnt (setB s Pg.nod F.NOD_SELF_STAT_CONFLICT false) false n = none := h
  simp only [nodeNumber, hn]

theorem completes_nodeNumber {s : State} {who : Agent} {v : Word} (h : writeTaken s who Pg.nod 0x40 v = true) (hn : ∀ n, nodeEnt s false n = none) :
    Completes (.nodeNumberWrite who v) s fun u => getW u Pg.nod 0x40 = storedWord Pg.nod 0x40 (getW s Pg.nod 0x40) v v ∧
      (ownNode u ≠ ownNode s → getB u Pg.nod F.NOD_SELF_STAT_CONFLICT = false) ∧
      OnlyRegs [regKey Pg.nod 0x40, fKey Pg.nod F.NOD_SELF_STAT_CONFLICT] s u := by
  refine completes_taken h (by decide) rfl (fun _ => rfl) rfl rfl fun t u hw ho hu hb => ?_
  have hnt : ∀ n, nodeEnt t false n = none := fun n => (nodeEnt_of_ring (ring_of_beside ho.2) false n).trans (hn n)
  have hafter : afterWrite t Pg.nod 0x40 (getW s Pg.nod 0x40) = nodeNumber t (ownNode s) (ownNode t) := rfl
  rw [hafter, nodeNumber_noEntries _ _ hnt] at hu hb
  have hmono : OnlyRegs [regKey Pg.nod 0x40, fKey Pg.nod F.NOD_SELF_STAT_CONFLICT] s t := ⟨ho.1.mono (by simp), ho.2⟩
  split at hu
  · rename_i hsame
    rw [if_pos hsame] at hb
    refine ⟨(getW_of_regs hu ..).trans hw, fun hne => absurd ?_ hne, hmono.1.of_eq hu, hb.trans ho.2⟩
    rw [ownNode, getF_of_regs hu]
    exact hsame.symm
  · rename_i hdiff
    rw [if_neg hdiff] at hb
    have hset : SameRegs [fKey Pg.nod F.NOD_SELF_STAT_CONFLICT] t (setB t Pg.nod F.NOD_SELF_STAT_CONFLICT false) := (SameRegs.refl _ t).setB List.mem_cons_self
    refine ⟨?_, fun _ => ?_, (hmono.1.setB (by simp)).of_eq hu, hb.trans ho.2⟩
    · rw [getW_of_regs hu, hset.getW (by decide), hw]
    · rw [getB_of_regs hu]
      exact getB_setB_same _ _ _ _ _ (by decide) rfl

/-- KVL.VER takes what is written, while the hub negotiates by what it had (R86). -/
theorem completes_verEn {s : State} {who : Agent} {v : Word} (h : writeTaken s who Pg.kvl 0x44 v = true) :
    Completes (.verEnWrite who v) s fun u => getW u Pg.kvl 0x44 = storedWord Pg.kvl 0x44 (getW s Pg.kvl 0x44) v v ∧ verEn u = verEn s ∧ linkEn u = linkEn s ∧
      SameRegs [regKey Pg.kvl 0x44] s u ∧ u.ring = { s.ring with verOld := u.ring.verOld, helloOld := u.ring.helloOld } ∧
      beside { u with ring := s.ring } = beside s := by
  refine completes_taken h (by decide) rfl (fun _ => rfl) rfl rfl fun t u hw ho hu hb => ?_
  have hafter : afterWrite t Pg.kvl 0x44 (getW s Pg.kvl 0x44) =
      if 0x44 = 0x44 ∧ getF s Pg.kvl F.KVL_VER_EN ≠ getF t Pg.kvl F.KVL_VER_EN then verStage t (getF s Pg.kvl F.KVL_VER_EN) else t := rfl
  have hring := ring_of_beside ho.2
  have hbes : beside u = beside (verStage t (getF s Pg.kvl F.KVL_VER_EN)) ∨ beside u = beside t → beside { u with ring := s.ring } = beside s := fun hb => by
    have ht := congrArg (fun b : State => { b with ring := s.ring }) ho.2
    rcases hb with hb | hb <;> exact (congrArg (fun b : State => { b with ring := s.ring }) hb).trans ht
  rw [hafter] at hu hb
  by_cases hdiff : getF s Pg.kvl F.KVL_VER_EN ≠ getF t Pg.kvl F.KVL_VER_EN
  · rw [if_pos ⟨rfl, hdiff⟩] at hu hb
    have huring : u.ring = (verStage t (getF s Pg.kvl F.KVL_VER_EN)).ring := ring_of_beside hb
    refine ⟨(getW_of_regs hu ..).trans hw, ?_, ?_, ho.1.of_eq hu, ?_, hbes (.inl hb)⟩
    · rw [verEn, huring, verEn, ← hring]; rfl
    · rw [linkEn, huring, linkEn, ← hring]; rfl
    · rw [huring, ← hring]; rfl
  · rw [if_neg fun h => hdiff h.2] at hu hb
    have huring : u.ring = s.ring := (ring_of_beside hb).trans hring
    have hfield : getF u Pg.kvl F.KVL_VER_EN = getF s Pg.kvl F.KVL_VER_EN := (getF_of_regs hu ..).trans (not_not.mp hdiff).symm
    refine ⟨(getW_of_regs hu ..).trans hw, ?_, ?_, ho.1.of_eq hu, by rw [huring], hbes (.inr hb)⟩
    · rw [verEn, huring, hfield, verEn]
    · rw [linkEn, huring, hfield, linkEn]

/-- A re-basing entry takes PATH and CTL together (R99). -/
theorem completes_rbCtl {s : State} {who : Agent} {k : Nat} {v : Word} (hk : k < 16) (h : writeTaken s who Pg.nod (0x104 + 8 * k) v = true) :
    Completes (.rbCtlWrite who k v) s fun u =>
      tabGet u.ring.rb k = some (getW s Pg.nod (0x100 + 8 * k), storedWord Pg.nod (0x104 + 8 * k) (getW s Pg.nod (0x104 + 8 * k)) v v) ∧
        (∀ j, j ≠ k → tabGet u.ring.rb j = tabGet s.ring.rb j) ∧ SameRegs [regKey Pg.nod (0x104 + 8 * k)] s u ∧ beside { u with ring := s.ring } = beside s := by
  have hafter : ∀ t old, afterWrite t Pg.nod (0x104 + 8 * k) old = rbCommit t k (getW t Pg.nod (0x104 + 8 * k)) := fun t old => by
    interval_cases k <;> rfl
  refine completes_taken h (by omega) rfl (fun _ => rfl) rfl (by simp only [hk, if_true]) fun t u hw ho hu hb => ?_
  have hpath : getW t Pg.nod (0x100 + 8 * k) = getW s Pg.nod (0x100 + 8 * k) :=
    ho.1.getW (by simp only [regKey, List.mem_singleton]; omega)
  rw [hafter, hw] at hu hb
  have huring : u.ring = (rbCommit t k (storedWord Pg.nod (0x104 + 8 * k) (getW s Pg.nod (0x104 + 8 * k)) v v)).ring := ring_of_beside hb
  refine ⟨?_, fun j hj => ?_, ho.1.of_eq hu, ?_⟩
  · rw [huring, rbCommit, hpath]
    exact tabGet_tabSet_same ..
  · rw [huring, ← ring_of_beside ho.2]
    exact tabGet_tabSet_ne _ _ hj
  · exact (congrArg (fun b : State => { b with ring := s.ring }) hb).trans (congrArg (fun b : State => { b with ring := s.ring }) ho.2)

/-! ## A coupler forwards a CPL (R95) -/

/-- A CPL that needs no re-basing is sent on with its new route. -/
theorem forwardRun_cpl {s : State} {p : Port} {f : Frame} {k : Kvl} {w : Onward} {src : DWord} {mac : Nat} (hk : k.type = tyCpl)
    (hup : getB s Pg.nod F.NOD_SELF_STAT_UPLINK_CONFLICT = false) (hw : w.rewrite = false) (hsrc : crossSrc s (isSubPort p) w.sub k.src = some src)
    (hmac : onwardMac s w = .inr mac) :
    forwardRun s p f k 0 [] w none = sendOwn s (kvlFrame s mac (ownMac s) { k with dst := w.dst, src := src } (kvlBody f.payload k)) k.cls w.sub := by
  have hreq : k.type ≠ tyReq := by rw [hk]; decide
  unfold forwardRun
  rw [hup, Bool.false_and, if_neg Bool.false_ne_true, if_neg (fun h => by rw [hw] at h; exact Bool.false_ne_true h.1), hsrc]
  dsimp only
  rw [hmac]
  dsimp only
  rw [if_neg hreq, hw, if_neg Bool.false_ne_true]

/-- A CPL for a node behind this coupler leaves on the subring, less the first level of its route. -/
theorem couplerStep_cpl {s s1 : State} {p : Port} {f : Frame} {k : Kvl} {mac : Nat} (hc : isCoupler s1 = true) (hp : p = .e ∨ p = .w)
    (h : takeLocal s (forForward s) = some ((p, f, k), s1)) (hk : k.type = tyCpl) (hup : getB s1 Pg.nod F.NOD_SELF_STAT_UPLINK_CONFLICT = false)
    (hd0 : routeUp k.dst = 0) (hd1 : routeL1 k.dst = ownNode s1) (hd2 : routeL2 k.dst ≠ 0) (hs0 : routeUp k.src = 0) (hs1 : routeL1 k.src ≠ ownNode s1)
    (hmac : onwardMac s1 { sub := true, dst := mkRoute 0 ((routeLevels k.dst).drop 1), rewrite := false } = .inr mac) :
    couplerStep s = sendOwn s1 (kvlFrame s1 mac (ownMac s1)
      { k with dst := mkRoute 0 ((routeLevels k.dst).drop 1), src := mkRoute 1 (routeLevels k.src) } (kvlBody f.payload k)) k.cls true := by
  have hsub : isSubPort p = false := by rcases hp with rfl | rfl <;> rfl
  have hon : onward s1 false k.dst none = some { sub := true, dst := mkRoute 0 ((routeLevels k.dst).drop 1), rewrite := false } := by
    simp [onward, hc, hd0, hd1, hd2]
  have hsrc : crossSrc s1 false true k.src = some (mkRoute 1 (routeLevels k.src)) := by
    simp [crossSrc, hs0, hs1]
  have hrun := forwardRun_cpl (f := f) (p := p) (w := { sub := true, dst := mkRoute 0 ((routeLevels k.dst).drop 1), rewrite := false }) hk hup rfl
    (by rw [hsub]; exact hsrc) hmac
  unfold couplerStep
  rw [h]
  dsimp only
  rw [if_pos hk, hsub, hon]
  exact hrun

/-- COUPLER_FORWARD of such a CPL that finds cells (R95). -/
theorem couplerStep_spec {s s1 : State} {p : Port} {f : Frame} {k : Kvl} {mac : Nat} {g : Frame} (hc : isCoupler s = true) (hp : p = .e ∨ p = .w)
    (h : takeLocal s (forForward s) = some ((p, f, k), s1)) (hk : k.type = tyCpl) (hup : getB s Pg.nod F.NOD_SELF_STAT_UPLINK_CONFLICT = false)
    (hd0 : routeUp k.dst = 0) (hd1 : routeL1 k.dst = ownNode s) (hd2 : routeL2 k.dst ≠ 0) (hs0 : routeUp k.src = 0) (hs1 : routeL1 k.src ≠ ownNode s)
    (hmac : onwardMac s { sub := true, dst := mkRoute 0 ((routeLevels k.dst).drop 1), rewrite := false } = .inr mac)
    (hg : g = kvlFrame s mac (ownMac s) { k with dst := mkRoute 0 ((routeLevels k.dst).drop 1), src := mkRoute 1 (routeLevels k.src) }
      (kvlBody f.payload k))
    (hroom : hasRoom s1 (tagged s g) k.cls [.c1, .c2] = true) :
    let u := couplerStep (cleared s)
    Leaves s1 u (tagged s g) k.cls [.c1, .c2] ∧ u.sw.localQ = s1.sw.localQ ∧ u.ring = { s.ring with hsrSeq := (s.ring.hsrSeq + 1) % 65536 } ∧
      OnlyPages storePages s u := by
  obtain ⟨htake, hsw⟩ := takeLocal_spec h
  generalize s1.sw = x at hsw
  subst hsw hg
  have hroom := ((frameSame_cleared _).hasRoom ..).trans hroom
  have hstep := couplerStep_cpl (s := cleared s) (s1 := cleared { s with sw := x }) hc hp htake hk hup hd0 hd1 hd2 hs0 hs1 hmac
  dsimp only
  rw [hstep]
  obtain ⟨hleaves, hkept, hpages, hlocal⟩ := sendOwnFrame_tagged (s := cleared { s with sw := x }) rfl hroom (by decide)
  exact ⟨(frameSame_cleared _).leaves hleaves, hlocal, hkept.beside.1, hpages⟩

/-- Settles O18: the node table follows ANNOUNCEs and silence, its registers take and give what they should, and a coupler forwards a CPL. -/
theorem nodesAndCouplers : Obligations.NodesAndCouplers := by
  unfold Obligations.NodesAndCouplers
  refine ⟨fun s ha hc => ⟨fun p f k s1 htake hconf hother hj => ?_, fun sub n e he hst => ⟨fun hw hroom => ?_, fun hw => ?_⟩,
      fun n e he hst hE hW => ⟨?_, ?_⟩⟩,
    fun s who v => ⟨completes_chgPop_none, fun _ _ => completes_chgPop_some, completes_nodeNumber, completes_verEn, fun _ => completes_rbCtl⟩,
    fun s s1 p f k mac g ha hc hp htake hk hup hd0 hd1 hd2 hs0 hs1 hmac hg hroom => ?_⟩
  · obtain ⟨hclear, hsw⟩ := takeLocal_spec htake
    generalize s1.sw = x at hsw
    subst hsw
    refine ⟨fun hnew hroom => ?_, fun e he hst hmac hep hgen hver hneg => ?_⟩
    · exact completes_during ha rfl (announceIn_new (s1 := cleared { s with sw := x }) hc hclear hconf hother hj hnew hroom)
    · exact completes_during ha rfl (announceIn_same (s1 := cleared { s with sw := x }) hc hclear hconf hother hj he hst hmac hep hgen hver hneg)
  · exact completes_during ha rfl (nodeGone_spec (s := cleared s) hc he hst hw hroom)
  · exact completes_during ha rfl (nodeGone_met (s := cleared s) he hw)
  · exact completes_during ha rfl (reachGone_spec (s := cleared s) he hst (.inl rfl) hE hW)
  · exact completes_during ha rfl (reachGone_spec (s := cleared s) he hst (.inr rfl) hE hW)
  · exact completes_during ha rfl (couplerStep_spec hc hp htake hk hup hd0 hd1 hd2 hs0 hs1 hmac hg hroom)

end Sys2Proof.Machine
end

section
/-! PROOFS. Transactions take tags and numbers, and are accepted (R100, R104, R109, R110, R423, R424). -/

namespace Sys2Proof.Machine

/-! ## Flow contexts -/

theorem flowOf_setFlow_ne (s : State) {fl fl' : Nat} (f : IFlow) (h : fl' ≠ fl) : flowOf (setFlow s fl f) fl' = flowOf s fl' := by
  simp [flowOf, setFlow, tabGet_tabSet_ne _ _ h]

/-- Marking the open records of a number marks the one that the number names. -/
theorem openAt_mapIf (f : IFlow) (q : Nat) {g : OpenRec → OpenRec} (hg : ∀ o, (g o).seq = o.seq) :
    openAt { f with opens := mapIf (·.seq == q) g f.opens } q = (openAt f q).map g :=
  find?_mapIf (p := fun o : OpenRec => o.seq == q) (fun o => by rw [hg]) f.opens

/-- The open record of a number has that number. -/
theorem openAt_seq {f : IFlow} {q : Nat} {o : OpenRec} (h : openAt f q = some o) : o.seq = q := by
  simpa using List.find?_some h

/-- A record that joins its furrow changes nothing but the furrow (R107). -/
theorem joinFurrow_furrow (s : State) (fl q : Nat) (new : Bool) :
    ∃ b, joinFurrow s fl q new = setFlow s fl { flowOf s fl with furrow := b } := ⟨_, rfl⟩

/-- What the furrow does not matter to: the open record of a number. -/
theorem openAt_furrow (f : IFlow) (b : List Burst) (q : Nat) : openAt { f with furrow := b } q = openAt f q := rfl

/-! ## Acceptance (R110) -/

/-- The open records of a flow once the one of number `q` has been accepted. -/
def acceptedOpens (f : IFlow) (q : Nat) : List OpenRec := mapIf (·.seq == q) (fun x => { x with wait := .none }) f.opens

/-- An open record that is accepted waits for nothing more, joins its furrow, and its acceptance goes to its initiator (R13, R107, R110). -/
theorem accept_spec {s : State} {fl q : Nat} {o : OpenRec} (h : openAt (flowOf s fl) q = some o) :
    (∃ b, flowOf (accept s fl q) fl = { flowOf s fl with opens := acceptedOpens (flowOf s fl) q, furrow := b }) ∧
      (accept s fl q).out = s.out ++ [.accept o.txn.tag fl q] ∧ (accept s fl q).seq.accepted = s.seq.accepted ++ [(o.txn.init, o.txn.tag)] ∧
      (accept s fl q).regs = s.regs ∧ (accept s fl q).start = s.start ∧ beside { accept s fl q with seq := s.seq } = beside s := by
  simp only [accept, h]
  generalize hs1 : setFlow s fl { flowOf s fl with opens := mapIf (·.seq == q) (fun x => { x with wait := .none }) (flowOf s fl).opens } = s1
  generalize hs2 : emit { s1 with seq := { s1.seq with accepted := s1.seq.accepted ++ [(o.txn.init, o.txn.tag)] } } (.accept o.txn.tag fl q) = s2
  obtain ⟨b, hb⟩ := joinFurrow_furrow s2 fl q false
  have hf : flowOf s2 fl = { flowOf s fl with opens := acceptedOpens (flowOf s fl) q } := by
    subst hs2 hs1
    exact flowOf_setFlow_same ..
  rw [hb]
  refine ⟨⟨b, ?_⟩, ?_, ?_, ?_, ?_, ?_⟩
  · rw [flowOf_setFlow_same, hf]
  all_goals subst hs2 hs1; rfl

theorem openAt_acceptedOpens {f : IFlow} {q : Nat} {o : OpenRec} (h : openAt f q = some o) (b : List Burst) :
    openAt { f with opens := acceptedOpens f q, furrow := b } q = some { o with wait := .none } := by
  have := openAt_mapIf f q (g := fun x => { x with wait := .none }) fun _ => rfl
  rw [h] at this
  exact this

/-! ## Tags (R104, R109) -/

/-- An offer that finds a free tag goes on with it. -/
theorem issueTxn_tagged {s : State} {x : TxnReq} {tag : Nat} (hrun : s.seq.running = true) (hop : opIssued x.op = true)
    (htag : lowestFree s.seq.tags (tagRange x.init x.op).1 (tagRange x.init x.op).2 = some tag) :
    issueTxn s x = issueTagged (takeTag s tag) (txnOf x tag) := by
  simp only [issueTxn, hop, if_true, tagOffer, hrun, htag]

/-- An offer that finds no tag, or a hub that accepts nothing, waits (R104, R127, R410). -/
theorem issueTxn_waits {s : State} {x : TxnReq} (hop : opIssued x.op = true)
    (h : s.seq.running = false ∨ lowestFree s.seq.tags (tagRange x.init x.op).1 (tagRange x.init x.op).2 = none) :
    issueTxn s x = { s with seq := { s.seq with tagWait := s.seq.tagWait ++ [x] } } := by
  have hoffer : tagOffer s x = (none, { s with seq := { s.seq with tagWait := s.seq.tagWait ++ [x] } }) := by
    rcases h with h | h
    · simp only [tagOffer, h]
    · cases hrun : s.seq.running <;> simp only [tagOffer, h, hrun]
  simp only [issueTxn, hop, if_true, hoffer]

/-- NOP and FILL are no initiator's (R100). -/
theorem issueTxn_own {s : State} {x : TxnReq} (h : x.op = 7 ∨ x.op = 8) : issueTxn s x = s := by
  rcases h with h | h <;> simp [issueTxn, opIssued, h]

/-! ## Numbers (R109, R110) -/

/-- The record that a transaction becomes as it takes the next number of its flow. -/
def assignedRec (s : State) (fl : Nat) (t : Txn) : OpenRec :=
  { seq := (flowOf s fl).nextSeq, txn := t, first := (flowOf s fl).first, sent := false, fill := none,
    wait := if flowDurable s fl then .chest else .none, nop := false }

/-- The flow that has given its next number to a transaction. -/
def assignedFlow (s : State) (fl : Nat) (t : Txn) : IFlow :=
  limitAdvance { flowOf s fl with nextSeq := seqAdd (flowOf s fl).nextSeq 1, first := false, opens := (flowOf s fl).opens ++ [assignedRec s fl t] }

/-- Advancing SEQ_LIMIT leaves everything else of a flow alone (R128). -/
theorem limitAdvance_eq (f : IFlow) : ∃ l, limitAdvance f = { f with seqLimit := l } := by
  unfold limitAdvance
  split <;> exact ⟨_, rfl⟩

/-- On a flow that is no pair flow, a transaction is open under its number, and a record that needs no slot is accepted at once. -/
theorem assign_unit {s : State} {fl : Nat} {t : Txn} (hp : isPairFlow s fl = false) :
    assign s fl t = if flowDurable s fl then setFlow s fl (assignedFlow s fl t)
      else accept (setFlow s fl (assignedFlow s fl t)) fl (flowOf s fl).nextSeq := by
  unfold assign assignedFlow assignedRec
  cases hd : flowDurable s fl <;> simp [hp]

theorem mapIf_append_single {α : Type} {p : α → Bool} (f : α → α) {l : List α} {x : α} (hl : ∀ y ∈ l, p y = false) (hx : p x = true) :
    mapIf p f (l ++ [x]) = l ++ [f x] := by
  rw [mapIf, List.map_append, List.map_singleton, if_pos hx, List.map_congr_left fun y hy => if_neg (by simp [hl y hy]), List.map_id']

/-- The oldest transaction that waits in a flow takes the flow's next number and is open; it is accepted at once unless the flow is DURABLE. -/
theorem sequenceAssign_spec {s : State} {fl : Nat} {t : Txn} {ts : List Txn} (hw : (flowOf s fl).waiting = t :: ts) (hm : mayAssign s fl = true)
    (hp : isPairFlow s fl = false) (hn : ∀ o ∈ (flowOf s fl).opens, o.seq ≠ (flowOf s fl).nextSeq) :
    (∃ l b, flowOf (sequenceAssign s fl) fl = { flowOf s fl with
        waiting := ts, nextSeq := seqAdd (flowOf s fl).nextSeq 1, first := false, seqLimit := l,
        opens := (flowOf s fl).opens ++ [assignedRec s fl t], furrow := b }) ∧
      (sequenceAssign s fl).out = s.out ++ (if flowDurable s fl then [] else [.accept t.tag fl (flowOf s fl).nextSeq]) ∧
      (sequenceAssign s fl).seq.accepted = s.seq.accepted ++ (if flowDurable s fl then [] else [(t.init, t.tag)]) ∧
      (sequenceAssign s fl).regs = s.regs ∧ beside { sequenceAssign s fl with seq := s.seq } = beside s := by
  have hgate : pairGate s fl = 0 := by simp [pairGate, hp]
  generalize hs1 : setFlow s fl { flowOf s fl with waiting := ts } = s1
  have hf1 : flowOf s1 fl = { flowOf s fl with waiting := ts } := by rw [← hs1, flowOf_setFlow_same]
  have hstep : sequenceAssign s fl = assign s1 fl t := by simp [sequenceAssign, hw, hm, hgate, hs1]
  have hp1 : isPairFlow s1 fl = false := by rw [← hs1]; exact hp
  have hd : flowDurable s1 fl = flowDurable s fl := by rw [← hs1]; rfl
  have hrec : assignedRec s1 fl t = assignedRec s fl t := by simp only [assignedRec, hf1, hd]
  obtain ⟨l, hl⟩ := limitAdvance_eq { flowOf s1 fl with
    nextSeq := seqAdd (flowOf s1 fl).nextSeq 1, first := false, opens := (flowOf s1 fl).opens ++ [assignedRec s1 fl t] }
  rw [hstep, assign_unit hp1, hd, assignedFlow, hl, hrec]
  simp only [hf1]
  generalize hs2 : setFlow s1 fl _ = s2
  have hf2 : flowOf s2 fl = { flowOf s fl with
      waiting := ts, nextSeq := seqAdd (flowOf s fl).nextSeq 1, first := false, seqLimit := l, opens := (flowOf s fl).opens ++ [assignedRec s fl t] } := by
    rw [← hs2, flowOf_setFlow_same]
  have hkept : s2.out = s.out ∧ s2.seq.accepted = s.seq.accepted ∧ s2.regs = s.regs ∧ beside { s2 with seq := s.seq } = beside s := by
    subst hs2 hs1
    exact ⟨rfl, rfl, rfl, rfl⟩
  obtain ⟨hout, hacc, hregs, hbeside⟩ := hkept
  cases hdur : flowDurable s fl with
  | true => exact ⟨⟨l, _, hf2⟩, by simpa using hout, by simpa using hacc, hregs, hbeside⟩
  | false =>
    have hne : ∀ o ∈ (flowOf s fl).opens, (o.seq == (flowOf s fl).nextSeq) = false := fun o ho => by simpa using hn o ho
    have hopen : openAt (flowOf s2 fl) (flowOf s fl).nextSeq = some (assignedRec s fl t) := by
      rw [hf2, openAt, List.find?_append, List.find?_eq_none.mpr fun o ho => by simp [hne o ho]]
      simp [assignedRec]
    have hopens : acceptedOpens (flowOf s2 fl) (flowOf s fl).nextSeq = (flowOf s fl).opens ++ [assignedRec s fl t] := by
      rw [acceptedOpens, hf2, mapIf_append_single _ hne (by simp [assignedRec])]
      simp [assignedRec, hdur]
    obtain ⟨⟨b, hb⟩, haout, haacc, haregs, -, habeside⟩ := accept_spec hopen
    rw [hopens, hf2] at hb
    refine ⟨⟨l, b, hb⟩, ?_, ?_, ?_, ?_⟩
    · rw [if_neg Bool.false_ne_true, haout, hout]; rfl
    · rw [if_neg Bool.false_ne_true, haacc, hacc]; rfl
    · rw [if_neg Bool.false_ne_true, haregs, hregs]
    · rw [if_neg Bool.false_ne_true]
      exact (congrArg (fun x => beside { x with seq := s.seq }) habeside : _).trans hbeside

/-! ## Acceptance slots (R110, R423, R424) -/

theorem OnlyPages.irqEvent {ps : List Nat} {s t : State} {p b : Nat} (a : OnlyPages ps s t) (hp : p ∈ ps) : OnlyPages ps s (irqEvent t p b) := by
  unfold Machine.irqEvent
  dsimp only
  split
  · exact a.setW hp (by decide)
  · exact (a.setW hp (by decide)).setW hp (by decide)

/-- Wear is noted in page CHS alone, from a free value (R424). -/
theorem wearNote_kept (s : State) : OnlyPages [Pg.chs] s (wearNote s) ∧ (wearNote s).seq = s.seq ∧ (wearNote s).start = s.start ∧
    (wearNote s).out = s.out ∧ beside { wearNote s with fresh := s.fresh } = beside s := by
  have hset : OnlyPages [Pg.chs] s (setF (setF (freshVal s 16).2 Pg.chs F.CHS_WEAR_WORST ((freshVal s 16).1 % 2 ^ 14)) Pg.chs F.CHS_WEAR_AREA
      ((freshVal s 16).1 / 2 ^ 14)) := (((OnlyPages.refl [Pg.chs] s).of_eq rfl).setF (by simp) (by decide)).setF (by simp) (by decide)
  unfold wearNote
  dsimp only
  split
  · exact ⟨hset.irqEvent (by simp), by simp; rfl, by simp; rfl, by simp; rfl,
      (congrArg (fun x : State => { x with fresh := s.fresh }) (beside_irqEvent _ Pg.chs 3)).trans rfl⟩
  · exact ⟨hset, rfl, rfl, rfl, rfl⟩

theorem cleared_start (s : State) : (cleared s).start = s.start := rfl

theorem slotPick_of_start {s t : State} (h : t.start = s.start) : slotPick t = slotPick s := by
  unfold slotPick
  rw [h]

/-- The hub whose next acceptance slot holds this record of a flow. -/
def slotHolds (s : State) (fl : Nat) (o : OpenRec) : State :=
  { slotTouch s (slotPick s) with start := { (slotTouch s (slotPick s)).start with
      slots := tabSet (slotTouch s (slotPick s)).start.slots (slotPick s) (fl, o) } }

/-- The record whose chest write is done stands in its slot, wears the chest, and is accepted. -/
theorem durabilityDone_eq {s : State} {tag fl q : Nat} {o : OpenRec} (hrun : s.seq.running = true) (hh : tagHolder s tag = some (fl, q))
    (ho : openAt (flowOf s fl) q = some o) (hw : o.wait = .chest) :
    durabilityDone s tag = accept (wearNote (slotHolds s fl { o with wait := .none })) fl q := by
  have hwaits : slotWaits s tag = some (fl, o) := by simp [slotWaits, hh, ho, hw, hrun]
  have hq := openAt_seq ho
  subst hq
  simp only [durabilityDone, hwaits, slotHolds]

/-- The chest write of a DURABLE record is done: its slot holds it, and it is accepted (R110). -/
theorem durabilityDone_spec {s : State} {tag fl q : Nat} {o : OpenRec} (hrun : s.seq.running = true) (hh : tagHolder s tag = some (fl, q))
    (ho : openAt (flowOf s fl) q = some o) (hw : o.wait = .chest) :
    openAt (flowOf (durabilityDone s tag) fl) q = some { o with wait := .none } ∧ Out.accept o.txn.tag fl q ∈ (durabilityDone s tag).out ∧
      (durabilityDone s tag).seq.accepted = s.seq.accepted ++ [(o.txn.init, o.txn.tag)] ∧
      tabGet (durabilityDone s tag).start.slots (slotPick s) = some (fl, { o with wait := .none }) ∧ OnlyPages [Pg.chs] s (durabilityDone s tag) ∧
      beside { durabilityDone s tag with seq := s.seq, start := s.start, fresh := s.fresh } = beside s := by
  rw [durabilityDone_eq hrun hh ho hw]
  generalize hx : slotHolds s fl { o with wait := .none } = x
  have hslot : tabGet x.start.slots (slotPick s) = some (fl, { o with wait := .none }) := by rw [← hx]; exact tabGet_tabSet_same ..
  have hxs : x.seq = s.seq ∧ x.regs = s.regs ∧ beside { x with start := s.start } = beside s := by subst hx; exact ⟨rfl, rfl, rfl⟩
  obtain ⟨hxseq, hxregs, hxbeside⟩ := hxs
  obtain ⟨hpages, hseq, hstart, -, hbeside⟩ := wearNote_kept x
  have hopen : openAt (flowOf (wearNote x) fl) q = some o := by rw [flowOf, hseq, hxseq]; exact ho
  obtain ⟨⟨b, hb⟩, haout, haacc, haregs, hastart, habeside⟩ := accept_spec hopen
  refine ⟨?_, ?_, ?_, ?_, ?_, ?_⟩
  · rw [hb, openAt_acceptedOpens hopen]
  · rw [haout]; simp
  · rw [haacc, hseq, hxseq]
  · rw [hastart, hstart, hslot]
  · exact OnlyPages.trans ((OnlyPages.refl _ s).of_eq hxregs) (hpages.of_eq haregs)
  · calc beside { accept (wearNote x) fl q with seq := s.seq, start := s.start, fresh := s.fresh }
        = beside { wearNote x with seq := s.seq, start := s.start, fresh := s.fresh } :=
          congrArg (fun y : State => { y with seq := s.seq, start := s.start, fresh := s.fresh }) habeside
      _ = beside { x with seq := s.seq, start := s.start, fresh := s.fresh } :=
          congrArg (fun y : State => { y with seq := s.seq, start := s.start, fresh := s.fresh }) hbeside
      _ = beside s := congrArg (fun y : State => { y with seq := s.seq, fresh := s.fresh }) hxbeside

/-- The registers that an uncorrectable word of the chest may change beside its fault record (R423). -/
def chestErrKeys : List Nat := fKey Pg.chs F.CHS_ECC_UNCORR :: fKey Pg.chs F.CHS_STAT_STATE :: fKey Pg.chs F.CHS_ECC_ADDR_VALID :: irqKeys Pg.chs ++ flogKeys

theorem sameRegs_chestUncorr (s : State) (addr : Nat) : SameRegs chestErrKeys s (chestUncorr s addr) := by
  have hevent : SameRegs chestErrKeys s (irqEvent (bump s Pg.chs F.CHS_ECC_UNCORR) Pg.chs 2) :=
    SameRegs.irqEvent (SameRegs.bump (SameRegs.refl _ s) (by simp [chestErrKeys])) (by simp [chestErrKeys, irqKeys]) (by simp [chestErrKeys, irqKeys])
  have hlog : SameRegs chestErrKeys s (faultLog (irqEvent (bump s Pg.chs F.CHS_ECC_UNCORR) Pg.chs 2) 3 2 Pg.chs addr) :=
    hevent.trans (SameRegs.mono (sameRegs_faultLog _ _ _ _ _) fun k hk => by simp [chestErrKeys, hk])
  unfold chestUncorr
  generalize faultLog _ 3 2 Pg.chs addr = t at hlog
  have h2 : SameRegs chestErrKeys s (if getF t Pg.chs F.CHS_STAT_STATE = 0 then setF t Pg.chs F.CHS_STAT_STATE 1 else t) := by
    split
    · exact hlog.setF (by simp [chestErrKeys])
    · exact hlog
  dsimp only
  generalize (if getF t Pg.chs F.CHS_STAT_STATE = 0 then setF t Pg.chs F.CHS_STAT_STATE 1 else t) = v at h2
  split
  · exact h2
  · exact (h2.setB (by simp [chestErrKeys])).setF (by simp [chestErrKeys, fKey, F.CHS_ECC_ADDR_VALID, F.CHS_ECC_ADDR_ADDR])

theorem SwOnly.irqEvent (s : State) (p b : Nat) : SwOnly s (irqEvent s p b) := by
  unfold Machine.irqEvent
  dsimp only
  split
  · exact .setW ..
  · exact (SwOnly.setW ..).trans (.setW ..)

theorem SwOnly.faultLog (s : State) (k c pg d : Nat) : SwOnly s (faultLog s k c pg d) := by
  unfold Machine.faultLog
  split
  · exact ⟨s.sw, s.regs, _, rfl⟩
  · exact SwOnly.trans ⟨s.sw, _, s.test, rfl⟩ (.irqEvent ..)

/-- An uncorrectable word of the chest changes neither records nor slots. -/
theorem SwOnly.chestUncorr (s : State) (addr : Nat) : SwOnly s (chestUncorr s addr) := by
  unfold Machine.chestUncorr
  have hlog : SwOnly s (Machine.faultLog (Machine.irqEvent (Machine.bump s Pg.chs F.CHS_ECC_UNCORR) Pg.chs 2) 3 2 Pg.chs addr) :=
    ((SwOnly.bump ..).trans (.irqEvent ..)).trans (.faultLog ..)
  generalize Machine.faultLog _ 3 2 Pg.chs addr = t at hlog
  refine hlog.trans ?_
  dsimp only
  split <;> split <;> exact ⟨t.sw, _, t.test, rfl⟩

/-- A slot whose write meets an uncorrectable word is counted as lost (R423, log entry 128). -/
theorem slotLost_spec (s : State) (addr : Nat) :
    getF (slotLost s addr) Pg.chs F.CHS_SLOTS_LOST = (getF s Pg.chs F.CHS_SLOTS_LOST + 1) % 2 ^ 32 ∧ (getW (slotLost s addr) Pg.chs 0x10).getLsbD 4 = true ∧
      (slotLost s addr).seq = s.seq ∧ (slotLost s addr).start.slots = s.start.slots := by
  unfold slotLost
  obtain ⟨x, r, k, hkept⟩ := SwOnly.chestUncorr (slotTouch s (slotPick s)) addr
  have hsame := sameRegs_chestUncorr (slotTouch s (slotPick s)) addr
  refine ⟨?_, ?_, by simp [hkept]; rfl, by simp [hkept]; rfl⟩
  · rw [getF_irqEvent_ne _ _ _ (by decide) (by decide), getF_bump_same _ _ rfl rfl, hsame.getF (by decide)]
    rfl
  · rw [getW_irqEvent_raw, BitVec.getLsbD_or]
    simp

/-- Settles O19: an offer takes its tag or waits, the oldest that waits takes its number, and a DURABLE record is accepted with its slot. -/
theorem transactionsAreAccepted : Obligations.TransactionsAreAccepted := by
  unfold Obligations.TransactionsAreAccepted
  refine fun s ha => ⟨fun x tag hrun hop htag hr hg => ?_, fun x hop h => ?_, fun x h => ?_, fun fl t ts hw hm hp hn => ?_,
    fun tag fl q o hrun hh ho hw => completes_during ha rfl ?_,
    fun tag addr => completes_during ha rfl (slotLost_spec (cleared s) addr)⟩
  · refine completes_during ha rfl ?_
    have hsame : IssueSame s (takeTag (cleared s) tag) := ⟨fun _ _ => rfl, rfl, rfl, rfl⟩
    rw [issueTxn_tagged (s := cleared s) hrun hop htag, hsame.issueTagged hr hg]
    exact ⟨rfl, flowOf_setFlow_same .., fun _ h => flowOf_setFlow_ne _ _ h, rfl, rfl⟩
  · exact completes_during ha rfl (issueTxn_waits (s := cleared s) hop h)
  · exact completes_during ha rfl (issueTxn_own (s := cleared s) h)
  · refine completes_during ha rfl ?_
    obtain ⟨⟨l, b, hf⟩, hout, hacc, hregs, hbeside⟩ := sequenceAssign_spec (s := cleared s) hw hm hp hn
    rw [hf]
    refine ⟨rfl, rfl, rfl, rfl, fun hd => ?_, fun hd => ?_, hregs, hbeside⟩
    · have hd' : flowDurable (cleared s) fl = false := hd
      rw [hout, hacc, hd']
      exact ⟨List.mem_append_right _ (List.mem_singleton_self _), rfl⟩
    · have hd' : flowDurable (cleared s) fl = true := hd
      rw [hout, hacc, hd']
      exact ⟨List.append_nil _, rfl⟩
  · have hdone := durabilityDone_spec (s := cleared s) hrun hh ho hw
    rw [slotPick_of_start (cleared_start s)] at hdone
    exact hdone

end Sys2Proof.Machine
end

section
/-! PROOFS. Contexts are released, STREAM waits expire, the sequencer log is read, and the memories are scrubbed (R101, R120, R130, R133 to R135,
R160). -/

namespace Sys2Proof.Machine

/-! ## Contexts (R101, R120) -/

/-- A context that no pair holds and whose records all wait is released with them. -/
theorem contextRelease_held {s : State} {c : Nat} {t : TCtx} (hc : ctxOf s c = some t) (hh : t.held.all (·.st == .held) = true) (hp : t.pairCtx = false) :
    contextRelease s c = { s with seq := { s.seq with ctxs := tabDel s.seq.ctxs c } } := by
  simp [contextRelease, hc, hh, hp]

/-- A context whose record is in execution stays (log entry 142). -/
theorem contextRelease_busy {s : State} {c : Nat} {t : TCtx} (hc : ctxOf s c = some t) (hh : t.held.all (·.st == .held) = false) :
    contextRelease s c = s := by
  simp [contextRelease, hc, hh]

/-- The record at NEXT_EXPECTED has the standing that it was given. -/
theorem headHeld_setHeldSt {s : State} {c : Nat} {h : Held} (st : HeldSt) (hh : headHeld s c = some h) :
    headHeld (setHeldSt s c st) c = some { h with st := st } := by
  unfold headHeld at hh
  split at hh
  · cases hh
  · rename_i t ht
    have hctx : ctxOf (setHeldSt s c st) c = some { t with held := mapIf (·.seq == t.ne) (fun h => { h with st := st }) t.held } := by
      rw [setHeldSt, ht]
      exact tabGet_tabSet_same ..
    rw [headHeld, hctx]
    dsimp only
    rw [find?_mapIf (p := fun h : Held => h.seq == t.ne) (f := fun h => { h with st := st }) (fun _ => rfl), hh]
    rfl

theorem headHeld_of_ctxs {s t : State} (h : t.seq.ctxs = s.seq.ctxs) (c : Nat) : headHeld t c = headHeld s c := by
  simp only [headHeld, ctxOf, h]

/-- What a context's record waits for is that record. -/
theorem streamWaits_head {s : State} {e : Exec} {c q : Nat} (hw : streamWaits s e = some c) (ho : e.org = .ofCtx c q) : ∃ h, headHeld s c = some h := by
  simp only [streamWaits, ho] at hw
  split at hw
  · exact ⟨_, ‹_›⟩
  · cases hw

/-- An error that a page records is counted (R58). -/
theorem getF_noteErr_count (s : State) (p st c r : Nat) :
    getF (noteErr s p st c r) p F.ERR_COUNT_COUNT = min (getF s p F.ERR_COUNT_COUNT + 1) (2 ^ 32 - 1) := getF_recordErr_count s p ⟨st, c, r⟩

/-- A record that found no FIFO room is turned away STREAM_FULL: its DONE leaves, the error is counted, and it stands in the field again (R101). -/
theorem streamExpire_spec {s : State} {c q : Nat} {e : Exec} (hf : s.cul.execs.find? (fun e => streamWaits s e == some c) = some e)
    (ho : e.org = .ofCtx c q) :
    (streamExpire s c).cul.fieldW = s.cul.fieldW ++ [.done e.id St.targetErr 0x47 []] ∧
      getF (streamExpire s c) Pg.seq F.ERR_COUNT_COUNT = min (getF s Pg.seq F.ERR_COUNT_COUNT + 1) (2 ^ 32 - 1) ∧
      SameRegs (errKeys Pg.seq) s (streamExpire s c) ∧ ∃ h, headHeld (streamExpire s c) c = some h ∧ h.st = .inField := by
  have hwait : streamWaits s e = some c := by simpa using List.find?_some hf
  obtain ⟨h, hh⟩ := streamWaits_head hwait ho
  simp only [streamExpire, hf, streamMark, ho]
  generalize hx : setCul _ _ = x
  have hregs : x.regs = (noteErr s Pg.seq St.targetErr 0x47 0).regs := by subst hx; rfl
  have hfield : x.cul.fieldW = s.cul.fieldW ++ [.done e.id St.targetErr 0x47 []] := by
    subst hx
    simp [setCul, execDone, fieldItem, noteErr]
  have hhead : headHeld x c = some h := by
    rw [← hh]
    refine headHeld_of_ctxs ?_ c
    subst hx
    simp [setCul, execDone, fieldItem, noteErr]
  have hset : (setHeldSt x c .inField).cul = x.cul ∧ (setHeldSt x c .inField).regs = x.regs := by
    unfold setHeldSt
    split <;> exact ⟨rfl, rfl⟩
  obtain ⟨hcul, hsame⟩ := hset
  refine ⟨?_, ?_, ?_, _, headHeld_setHeldSt .inField hhead, rfl⟩
  · simp only [Bool.false_eq_true, if_false, hcul, hfield]
  · simp only [Bool.false_eq_true, if_false]
    rw [getF_of_regs (hsame.trans hregs), getF_noteErr_count]
  · simp only [Bool.false_eq_true, if_false]
    exact ((SameRegs.refl _ s).noteErr fun _ hk => hk).of_eq (hsame.trans hregs)

/-! ## The sequencer log (R130) -/

/-- The registers that hold the other words of a log record. -/
def seqLogKeys : List Nat := [regKey Pg.seq 0x64, regKey Pg.seq 0x68, regKey Pg.seq 0x6C]

/-- The other words of a log record are latched. -/
def seqLatched (s : State) (w1 w2 w3 : Word) : State := setW (setW (setW s Pg.seq 0x64 w1) Pg.seq 0x68 w2) Pg.seq 0x6C w3

theorem seqLatched_only (s : State) (w1 w2 w3 : Word) : OnlyRegs seqLogKeys s (seqLatched s w1 w2 w3) :=
  ⟨(((SameRegs.refl _ s).setW (by simp [seqLogKeys])).setW (by simp [seqLogKeys])).setW (by simp [seqLogKeys]), rfl⟩

theorem getW_seqLatched (s : State) (w1 w2 w3 : Word) : getW (seqLatched s w1 w2 w3) Pg.seq 0x64 = w1 ∧ getW (seqLatched s w1 w2 w3) Pg.seq 0x68 = w2 := by
  simp [seqLatched, getW_setW, regKey_inj]

/-- A read of an empty log gives 0. -/
theorem completes_seqLogPop_none {s : State} {who : Agent} (h : accReaches s who Pg.seq 0x60 = true) (hl : s.seq.log = []) :
    Completes (.seqLogPop who) s fun u => Answers s u who Pg.seq 0x60 0#32 ∧ SameRegs seqLogKeys s u ∧ beside u = beside s := by
  have hpop : seqPopNow (accNext (cleared s)) = (0#32, seqLatched (accNext (cleared s)) 0#32 0#32 0#32) := by
    have hl1 : (accNext (cleared s)).seq.log = [] := hl
    rw [seqPopNow, hl1]
    rfl
  obtain ⟨hregs, hbeside⟩ := seqLatched_only (accNext (cleared s)) 0#32 0#32 0#32
  exact completes_read h rfl rfl hpop rfl fun u hu hb ha => ⟨ha, hregs.of_eq hu, hb.trans hbeside⟩

/-- A read of the log gives its oldest record and removes it. -/
theorem completes_seqLogPop_some {s : State} {who : Agent} {r : SeqLog} {rs : List SeqLog} (h : accReaches s who Pg.seq 0x60 = true)
    (hl : s.seq.log = r :: rs) :
    Completes (.seqLogPop who) s fun u => u.seq = { s.seq with log := rs } ∧ getW u Pg.seq 0x64 = BitVec.ofNat 32 r.seq ∧
      getW u Pg.seq 0x68 = BitVec.ofNat 32 r.offLo ∧ SameRegs seqLogKeys s u ∧
      Answers s u who Pg.seq 0x60 (BitVec.ofNat 32 (r.status % 256 + 256 * (r.cause % 256) + 65536 * (r.flow % 4096) + 2 ^ 31)) := by
  obtain ⟨w3, hpop⟩ : ∃ w3, seqPopNow (accNext (cleared s)) =
      (BitVec.ofNat 32 (r.status % 256 + 256 * (r.cause % 256) + 65536 * (r.flow % 4096) + 2 ^ 31),
        seqLatched { accNext (cleared s) with seq := { s.seq with log := rs } } (BitVec.ofNat 32 r.seq) (BitVec.ofNat 32 r.offLo) w3) := by
    have hl1 : (accNext (cleared s)).seq.log = r :: rs := hl
    rw [seqPopNow, hl1]
    exact ⟨_, rfl⟩
  generalize hx : { accNext (cleared s) with seq := { s.seq with log := rs } } = x at hpop
  have hxregs : x.regs = s.regs ∧ x.seq = { s.seq with log := rs } ∧ x.brg = s.brg := by subst hx; exact ⟨rfl, rfl, rfl⟩
  obtain ⟨hxregs, hxseq, hxbrg⟩ := hxregs
  obtain ⟨hregs, hbeside⟩ := seqLatched_only x (BitVec.ofNat 32 r.seq) (BitVec.ofNat 32 r.offLo) w3
  obtain ⟨hw1, hw2⟩ := getW_seqLatched x (BitVec.ofNat 32 r.seq) (BitVec.ofNat 32 r.offLo) w3
  refine completes_read h rfl rfl hpop (congrArg (·.accs) hxbrg) fun u hu hb ha => ⟨(seq_of_beside (hb.trans hbeside)).trans hxseq, ?_, ?_, ?_, ha⟩
  · rw [getW_of_regs hu, hw1]
  · rw [getW_of_regs hu, hw2]
  · exact (hregs.of_eq hu).from_eq hxregs.symm

/-! ## The buffer scrub (R133 to R135) -/

/-- How a pass ends: it counts itself, or its period has ended first. -/
def scrubEnded (s : State) (late : Bool) : State :=
  if late then irqEvent (setB s Pg.buf F.BUF_SCRUB_STAT_LATE true) Pg.buf 5 else bump s Pg.buf F.BUF_SCRUB_PASSES

theorem bufferScrubEnd_none {s : State} (n : Nat) (late : Bool) (hb : s.test.badCells = []) :
    bufferScrubEnd s n none late = scrubEnded (bump s Pg.buf F.BUF_ECC_CORR n) late := by
  have hb1 : (bump s Pg.buf F.BUF_ECC_CORR n).test.badCells = [] := hb
  simp only [bufferScrubEnd, hb1, List.foldl_nil, scrubEnded]

theorem bufferScrubEnd_some {s : State} {n : Nat} {e : EccFault} (late : Bool) (hb : (eccHit (bump s Pg.buf F.BUF_ECC_CORR n) e).test.badCells = []) :
    bufferScrubEnd s n (some e) late = scrubEnded (eccHit (bump s Pg.buf F.BUF_ECC_CORR n) e) late := by
  simp only [bufferScrubEnd, hb, List.foldl_nil, scrubEnded]

/-- A counter of 32 bits that gains `n`. -/
theorem getF_bump_by (s : State) (p : Nat) {f : FieldD} (n : Nat) (hlo : f.lo = 0) (hw : f.w = 32) :
    getF (bump s p f n) p f = (getF s p f + n) % 2 ^ 32 := by
  rw [bump, getF_setF_same _ _ _ _ _ (by omega), hw]

/-- A counter of another register keeps its value. -/
theorem getF_bump_ne (s : State) {p q n : Nat} {f g : FieldD} (h : fKey q g ≠ fKey p f) : getF (bump s p f n) q g = getF s q g :=
  ((SameRegs.refl [fKey p f] s).bump List.mem_cons_self).getF (by simpa using h)

/-- A pass counts itself and the words it corrected (R135). -/
theorem bufferScrub_pass {s : State} (n : Nat) (hb : s.test.badCells = []) :
    getF (bufferScrubEnd s n none false) Pg.buf F.BUF_ECC_CORR = (getF s Pg.buf F.BUF_ECC_CORR + n) % 2 ^ 32 ∧
      getF (bufferScrubEnd s n none false) Pg.buf F.BUF_SCRUB_PASSES = (getF s Pg.buf F.BUF_SCRUB_PASSES + 1) % 2 ^ 32 ∧
      OnlyRegs [fKey Pg.buf F.BUF_ECC_CORR, fKey Pg.buf F.BUF_SCRUB_PASSES] s (bufferScrubEnd s n none false) := by
  rw [bufferScrubEnd_none n false hb, scrubEnded, if_neg Bool.false_ne_true]
  refine ⟨?_, ?_, ((SameRegs.refl _ s).bump (by simp)).bump (by simp), rfl⟩
  · rw [getF_bump_ne _ (by decide), getF_bump_by _ _ _ rfl rfl]
  · rw [getF_bump_by _ _ _ rfl rfl, getF_bump_ne _ (by decide)]

/-- A pass that its period ends is late (R135). -/
theorem bufferScrub_late {s : State} (n : Nat) (hb : s.test.badCells = []) :
    getB (bufferScrubEnd s n none true) Pg.buf F.BUF_SCRUB_STAT_LATE = true ∧
      getW (bufferScrubEnd s n none true) Pg.buf 0x10 = getW s Pg.buf 0x10 ||| 32#32 ∧
      OnlyRegs (fKey Pg.buf F.BUF_ECC_CORR :: fKey Pg.buf F.BUF_SCRUB_STAT_LATE :: irqKeys Pg.buf) s (bufferScrubEnd s n none true) := by
  rw [bufferScrubEnd_none n true hb, scrubEnded, if_pos rfl]
  refine ⟨?_, ?_, (((SameRegs.refl _ s).bump (by simp)).setB (by simp)).irqEvent (by simp [irqKeys]) (by simp [irqKeys]), by simp⟩
  · rw [getB, getF_irqEvent_ne _ _ _ (by decide) (by decide)]
    exact getB_setB_same _ _ _ _ _ (by decide) rfl
  · have hkept : SameRegs [fKey Pg.buf F.BUF_ECC_CORR, fKey Pg.buf F.BUF_SCRUB_STAT_LATE] s
        (setB (bump s Pg.buf F.BUF_ECC_CORR n) Pg.buf F.BUF_SCRUB_STAT_LATE true) := ((SameRegs.refl _ s).bump (by simp)).setB (by simp)
    rw [getW_irqEvent_raw, hkept.getW (by decide)]
    rfl

/-- The registers that the capture of an uncorrectable buffer word may change (R133). -/
def eccCaptureKeys : List Nat := fKey Pg.buf F.BUF_ECC_STAT_VALID :: fKey Pg.buf F.BUF_ECC_ADDR_INDEX :: irqKeys Pg.buf ++ flogKeys

/-- The capture of an uncorrectable word leaves counters, frames and spoiled marks alone. -/
theorem eccCapture_kept (s : State) (e : EccFault) :
    SameRegs eccCaptureKeys s (eccCapture s e) ∧ (eccCapture s e).sw = s.sw ∧ (eccCapture s e).test.badCells = s.test.badCells := by
  have hevent : SameRegs eccCaptureKeys s (irqEvent s Pg.buf 2) :=
    (SameRegs.refl _ s).irqEvent (by simp [eccCaptureKeys, irqKeys]) (by simp [eccCaptureKeys, irqKeys])
  have hlog : SameRegs eccCaptureKeys s (faultLog (irqEvent s Pg.buf 2) 3 0 Pg.buf e.index) :=
    hevent.trans (SameRegs.mono (sameRegs_faultLog _ _ _ _ _) fun k hk => by simp [eccCaptureKeys, hk])
  have hkept : (faultLog (irqEvent s Pg.buf 2) 3 0 Pg.buf e.index).sw = s.sw ∧
      (faultLog (irqEvent s Pg.buf 2) 3 0 Pg.buf e.index).test.badCells = s.test.badCells := by
    unfold faultLog
    split <;> simp
  unfold eccCapture
  generalize faultLog (irqEvent s Pg.buf 2) 3 0 Pg.buf e.index = t at hlog hkept
  dsimp only
  split
  · exact ⟨hlog, hkept⟩
  · refine ⟨(((hlog.setB ?_).setF ?_).setF ?_).setF ?_, hkept⟩ <;>
      simp [eccCaptureKeys, fKey, F.BUF_ECC_STAT_VALID, F.BUF_ECC_STAT_WHERE, F.BUF_ECC_ADDR_INDEX, F.BUF_ECC_ADDR_WORD]

/-- Which frame holds a cell depends on the frames and their links alone. -/
theorem cellOwner_of_sw {s t : State} (h : t.sw = s.sw) (c : Nat) : cellOwner t c = cellOwner s c := by
  have hchain : ∀ n c, linkChain t n c = linkChain s n c := fun n => by
    induction n with
    | zero => exact fun _ => rfl
    | succ n ih => intro c; rw [linkChain, linkChain, h, ih]
  simp only [cellOwner, cellsOf, hchain, h]

/-- An uncorrectable word of a free cell is counted, and no frame is lost (R133). -/
theorem bufferScrub_freeCell {s : State} (n : Nat) {e : EccFault} (hb : s.test.badCells = []) (he : e.single = false) (hc : cellOwner s e.index = none) :
    getF (bufferScrubEnd s n (some e) false) Pg.buf F.BUF_ECC_UNCORR = (getF s Pg.buf F.BUF_ECC_UNCORR + 1) % 2 ^ 32 ∧
      (bufferScrubEnd s n (some e) false).sw = s.sw := by
  have hhit : eccHit (bump s Pg.buf F.BUF_ECC_CORR n) e = eccCapture (bump (bump s Pg.buf F.BUF_ECC_CORR n) Pg.buf F.BUF_ECC_UNCORR) e := by
    have hc1 : cellOwner (bump s Pg.buf F.BUF_ECC_CORR n) e.index = none :=
      (cellOwner_of_sw (s := s) (t := bump s Pg.buf F.BUF_ECC_CORR n) rfl _).trans hc
    simp only [eccHit, he, Bool.false_eq_true, if_false, hc1]
  obtain ⟨hregs, hsw, hbad⟩ := eccCapture_kept (bump (bump s Pg.buf F.BUF_ECC_CORR n) Pg.buf F.BUF_ECC_UNCORR) e
  rw [bufferScrubEnd_some false (by rw [hhit, hbad]; exact hb), hhit, scrubEnded, if_neg Bool.false_ne_true]
  refine ⟨?_, hsw⟩
  rw [getF_bump_ne _ (by decide), hregs.getF (by decide), getF_bump_by _ _ _ rfl rfl, getF_bump_ne _ (by decide)]

/-! ## The journal's patrol scrub (R160) -/

theorem spoiltRead_none {s : State} (b n : Nat) (h : s.test.badWords = []) : spoiltRead s b n = (false, s) := by
  simp only [spoiltRead, h, List.filter_nil, List.foldl_nil, List.any_nil]

theorem journalScrubEnd_none {s : State} (n : Nat) (hb : s.test.badWords = []) :
    journalScrubEnd s n none = bump (bump s Pg.jrn F.JRN_ECC_CORR n) Pg.jrn F.JRN_SCRUB_PASSES := by
  have hb1 : (bump s Pg.jrn F.JRN_ECC_CORR n).test.badWords = [] := hb
  simp only [journalScrubEnd, spoiltRead_none _ _ hb1]

theorem journalScrubEnd_some {s : State} {n : Nat} {j : JEcc} (hb : (jrnHit (bump s Pg.jrn F.JRN_ECC_CORR n) j).test.badWords = []) :
    journalScrubEnd s n (some j) = bump (jrnHit (bump s Pg.jrn F.JRN_ECC_CORR n) j) Pg.jrn F.JRN_SCRUB_PASSES := by
  simp only [journalScrubEnd, spoiltRead_none _ _ hb]

/-- A pass counts itself and the words it corrected (R160). -/
theorem journalScrub_pass {s : State} (n : Nat) (hb : s.test.badWords = []) :
    getF (journalScrubEnd s n none) Pg.jrn F.JRN_ECC_CORR = (getF s Pg.jrn F.JRN_ECC_CORR + n) % 2 ^ 32 ∧
      getF (journalScrubEnd s n none) Pg.jrn F.JRN_SCRUB_PASSES = (getF s Pg.jrn F.JRN_SCRUB_PASSES + 1) % 2 ^ 32 ∧
      OnlyRegs [fKey Pg.jrn F.JRN_ECC_CORR, fKey Pg.jrn F.JRN_SCRUB_PASSES] s (journalScrubEnd s n none) := by
  rw [journalScrubEnd_none n hb]
  refine ⟨?_, ?_, ((SameRegs.refl _ s).bump (by simp)).bump (by simp), rfl⟩
  · rw [getF_bump_ne _ (by decide), getF_bump_by _ _ _ rfl rfl]
  · rw [getF_bump_by _ _ _ rfl rfl, getF_bump_ne _ (by decide)]

/-- A single-bit error is corrected and counted. -/
theorem journalScrub_single {s : State} (n : Nat) {j : JEcc} (hb : s.test.badWords = []) (hj : j.single = true) :
    getF (journalScrubEnd s n (some j)) Pg.jrn F.JRN_ECC_CORR = (getF s Pg.jrn F.JRN_ECC_CORR + n + 1) % 2 ^ 32 ∧
      OnlyRegs [fKey Pg.jrn F.JRN_ECC_CORR, fKey Pg.jrn F.JRN_SCRUB_PASSES] s (journalScrubEnd s n (some j)) := by
  have hhit : jrnHit (bump s Pg.jrn F.JRN_ECC_CORR n) j = bump (bump s Pg.jrn F.JRN_ECC_CORR n) Pg.jrn F.JRN_ECC_CORR := by rw [jrnHit, if_pos hj]
  rw [journalScrubEnd_some (by rw [hhit]; exact hb), hhit]
  refine ⟨?_, (((SameRegs.refl _ s).bump (by simp)).bump (by simp)).bump (by simp), rfl⟩
  rw [getF_bump_ne _ (by decide), getF_bump_by _ _ _ rfl rfl, getF_bump_by _ _ _ rfl rfl, Nat.mod_add_mod]

/-- What the count and the report of an uncorrectable journal word leave: the fault's record, before its address is kept. -/
def jrnReported (s : State) (e : JEcc) : State := faultLog (irqEvent (bump s Pg.jrn F.JRN_ECC_UNCORR) Pg.jrn 2) 3 1 Pg.jrn e.addr

theorem jrnReported_spec (s : State) (e : JEcc) :
    SameRegs (fKey Pg.jrn F.JRN_ECC_UNCORR :: irqKeys Pg.jrn ++ flogKeys) s (jrnReported s e) ∧
      getF (jrnReported s e) Pg.jrn F.JRN_ECC_UNCORR = (getF s Pg.jrn F.JRN_ECC_UNCORR + 1) % 2 ^ 32 ∧ (getW (jrnReported s e) Pg.jrn 0x10).getLsbD 2 = true := by
  have hevent : SameRegs (fKey Pg.jrn F.JRN_ECC_UNCORR :: irqKeys Pg.jrn ++ flogKeys) s (irqEvent (bump s Pg.jrn F.JRN_ECC_UNCORR) Pg.jrn 2) :=
    ((SameRegs.refl _ s).bump (by simp)).irqEvent (by simp [irqKeys]) (by simp [irqKeys])
  have hlog := sameRegs_faultLog (irqEvent (bump s Pg.jrn F.JRN_ECC_UNCORR) Pg.jrn 2) 3 1 Pg.jrn e.addr
  refine ⟨hevent.trans (hlog.mono fun k hk => by simp [hk]), ?_, ?_⟩
  · rw [jrnReported, hlog.getF (by decide), getF_irqEvent_ne _ _ _ (by decide) (by decide), getF_bump_same _ _ rfl rfl]
  · rw [jrnReported, hlog.getW (by decide), getW_irqEvent_raw, BitVec.getLsbD_or]
    simp

/-- The registers of the address that a journal error keeps. -/
def jrnAddrKeys : List Nat := [fKey Pg.jrn F.JRN_ECC_STAT_VALID, fKey Pg.jrn F.JRN_ECC_ADDR_LO_ADDR_LO, fKey Pg.jrn F.JRN_ECC_ADDR_HI_ADDR_HI]

/-- The address of the first uncorrectable word is kept. -/
theorem jrnUncorr_spec (s : State) (e : JEcc) :
    SameRegs jrnAddrKeys (jrnReported s e) (jrnUncorr s e) ∧ getB (jrnUncorr s e) Pg.jrn F.JRN_ECC_STAT_VALID = true ∧
      (getB s Pg.jrn F.JRN_ECC_STAT_VALID = false → getF (jrnUncorr s e) Pg.jrn F.JRN_ECC_ADDR_LO_ADDR_LO = e.addr % 2 ^ 32) := by
  have hvalid : getB (jrnReported s e) Pg.jrn F.JRN_ECC_STAT_VALID = getB s Pg.jrn F.JRN_ECC_STAT_VALID :=
    congrArg (· != 0) ((jrnReported_spec s e).1.getF (by decide))
  have hunfold : jrnUncorr s e = if getB (jrnReported s e) Pg.jrn F.JRN_ECC_STAT_VALID then jrnReported s e
    else setF (setF (setB (setB (jrnReported s e) Pg.jrn F.JRN_ECC_STAT_VALID true) Pg.jrn F.JRN_ECC_STAT_USER (decide (0x40000000 ≤ e.addr)))
      Pg.jrn F.JRN_ECC_ADDR_LO_ADDR_LO (e.addr % 2 ^ 32)) Pg.jrn F.JRN_ECC_ADDR_HI_ADDR_HI (e.addr / 2 ^ 32) := rfl
  rw [hunfold]
  split
  · rename_i hv
    exact ⟨SameRegs.refl _ _, hv, fun h => by rw [hvalid, h] at hv; cases hv⟩
  · refine ⟨((((SameRegs.refl _ _).setB ?_).setB ?_).setF ?_).setF ?_, ?_, fun _ => ?_⟩
    iterate 4 simp [jrnAddrKeys, fKey, F.JRN_ECC_STAT_VALID, F.JRN_ECC_STAT_USER]
    · rw [getB, getF_setF_ne _ _ _ _ _ _ (by decide), getF_setF_ne _ _ _ _ _ _ (by decide), setB,
        getF_setF_apart _ _ F.JRN_ECC_STAT_USER F.JRN_ECC_STAT_VALID _ _ _ rfl (by decide) (by decide)]
      exact getB_setB_same _ _ _ _ _ (by decide) rfl
    · rw [getF_setF_ne _ _ _ _ _ _ (by decide), getF_setF_same _ _ _ _ _ (by decide)]
      exact Nat.mod_mod _ _

/-- The report of a journal error leaves records, memory and spoiled marks alone. -/
theorem jrnUncorr_kept (s : State) (e : JEcc) :
    (jrnUncorr s e).seq = s.seq ∧ (jrnUncorr s e).jmem = s.jmem ∧ (jrnUncorr s e).test.badWords = s.test.badWords := by
  have hreport : (jrnReported s e).seq = s.seq ∧ (jrnReported s e).jmem = s.jmem ∧ (jrnReported s e).test.badWords = s.test.badWords := by
    unfold jrnReported faultLog
    split <;> simp
  unfold jrnUncorr
  rw [← jrnReported]
  dsimp only
  split <;> simpa using hreport

/-- An uncorrectable word of user journal memory is counted, and the first one's address is kept (R160). -/
theorem journalScrub_user {s : State} (n : Nat) {j : JEcc} (hb : s.test.badWords = []) (hj : j.single = false) (hp : jrnPlace j.addr = .user) :
    getF (journalScrubEnd s n (some j)) Pg.jrn F.JRN_ECC_UNCORR = (getF s Pg.jrn F.JRN_ECC_UNCORR + 1) % 2 ^ 32 ∧
      (getW (journalScrubEnd s n (some j)) Pg.jrn 0x10).getLsbD 2 = true ∧ getB (journalScrubEnd s n (some j)) Pg.jrn F.JRN_ECC_STAT_VALID = true ∧
      (journalScrubEnd s n (some j)).seq = s.seq ∧ (journalScrubEnd s n (some j)).jmem = s.jmem ∧
      (getB s Pg.jrn F.JRN_ECC_STAT_VALID = false → getF (journalScrubEnd s n (some j)) Pg.jrn F.JRN_ECC_ADDR_LO_ADDR_LO = j.addr % 2 ^ 32) := by
  generalize hx : bump s Pg.jrn F.JRN_ECC_CORR n = x
  have hhit : jrnHit x j = jrnUncorr x j := by simp [jrnHit, hj, jrnBroken, hp]
  obtain ⟨hseq, hjmem, hbad⟩ := jrnUncorr_kept x j
  obtain ⟨hreport, hcount, hraw⟩ := jrnReported_spec x j
  obtain ⟨haddr, hvalid, hlo⟩ := jrnUncorr_spec x j
  have hxs : x.seq = s.seq ∧ x.jmem = s.jmem ∧ x.test.badWords = [] := by subst hx; exact ⟨rfl, rfl, hb⟩
  obtain ⟨hxseq, hxjmem, hxbad⟩ := hxs
  have hcorr : SameRegs [fKey Pg.jrn F.JRN_ECC_CORR] s x := by subst hx; exact (SameRegs.refl _ s).bump List.mem_cons_self
  have hpasses : SameRegs [fKey Pg.jrn F.JRN_SCRUB_PASSES] (jrnUncorr x j) (bump (jrnUncorr x j) Pg.jrn F.JRN_SCRUB_PASSES) :=
    (SameRegs.refl _ _).bump List.mem_cons_self
  have hend : journalScrubEnd s n (some j) = bump (jrnUncorr x j) Pg.jrn F.JRN_SCRUB_PASSES := by
    rw [journalScrubEnd_some (by rw [hx, hhit, hbad, hxbad]), hx, hhit]
  rw [hend]
  refine ⟨?_, ?_, ?_, hseq.trans hxseq, hjmem.trans hxjmem, fun h => ?_⟩
  · rw [hpasses.getF (by decide), haddr.getF (by decide), hcount, hcorr.getF (by decide)]
  · rw [hpasses.getW (by decide), haddr.getW (by decide), hraw]
  · rw [getB, hpasses.getF (by decide)]
    exact hvalid
  · rw [hpasses.getF (by decide)]
    exact hlo ((congrArg (· != 0) (hcorr.getF (by decide))).trans h)

/-- Settles O24: contexts, the log and the scrubs, row by row. -/
theorem contextsLogAndScrubs : Obligations.ContextsLogAndScrubs := by
  unfold Obligations.ContextsLogAndScrubs
  refine ⟨fun s who => ⟨fun c t ha hc => ⟨fun hh hp => ?_, fun hh => ?_⟩, fun c q e ha hf ho => ?_, completes_seqLogPop_none,
      fun r rs => completes_seqLogPop_some⟩,
    fun s n ha hcells hwords => ⟨?_, ?_, fun e he hc => ?_, ?_, fun j hj => ?_, fun j hj hp => ?_⟩⟩
  · exact completes_during ha rfl (contextRelease_held (s := cleared s) hc hh hp)
  · exact completes_during ha rfl (contextRelease_busy (s := cleared s) hc hh)
  · exact completes_during ha rfl (streamExpire_spec (s := cleared s) hf ho)
  · exact completes_during ha rfl (bufferScrub_pass (s := cleared s) n hcells)
  · exact completes_during ha rfl (bufferScrub_late (s := cleared s) n hcells)
  · exact completes_during ha rfl (bufferScrub_freeCell (s := cleared s) n hcells he ((cellOwner_of_sw (s := s) (t := cleared s) rfl _).trans hc))
  · exact completes_during ha rfl (journalScrub_pass (s := cleared s) n hwords)
  · exact completes_during ha rfl (journalScrub_single (s := cleared s) n hwords hj)
  · exact completes_during ha rfl (journalScrub_user (s := cleared s) n hwords hj hp)

end Sys2Proof.Machine
end

section
/-! PROOFS. The age sweep, NOP records, and the buckets of headgates and sluices (R121, R153, R154, R165, R175, R184). -/

namespace Sys2Proof.Machine

/-! ## The age sweep (R153, R154) -/

/-- Empty class queues keep a sweep from changing anything. -/
theorem sweepQueues_empty {s : State} (h : ∀ p c, queueOf s p c = []) :
    allQueues.foldl (fun a pc => sweepQueue (queueOf a pc.1 pc.2).length a pc.1 pc.2) s = s := by
  suffices ∀ l : List (Port × Nat), l.foldl (fun a pc => sweepQueue (queueOf a pc.1 pc.2).length a pc.1 pc.2) s = s from this _
  intro l
  induction l with
  | nil => rfl
  | cons pc l ih =>
    rw [List.foldl_cons, h, List.length_nil, sweepQueue]
    exact ih

/-- With empty class queues a sweep is one of the furrows. -/
theorem ageSweep_furrows {s : State} (h : ∀ p c, queueOf s p c = []) :
    ageSweep s = (allFlows s).foldl (fun a fl => sweepFurrow (flowOf a fl).furrow.length a fl) s := by
  unfold ageSweep
  rw [sweepQueues_empty h]

/-- A sweep of a hub that holds nothing changes nothing. -/
theorem ageSweep_empty {s : State} (hq : ∀ p c, queueOf s p c = []) (hf : ∀ fl ∈ allFlows s, (flowOf s fl).furrow = []) : ageSweep s = s := by
  rw [ageSweep_furrows hq]
  generalize allFlows s = l at hf
  induction l with
  | nil => rfl
  | cons fl l ih =>
    rw [List.foldl_cons, hf fl List.mem_cons_self, List.length_nil, sweepFurrow]
    exact ih fun x hx => hf x (List.mem_cons_of_mem _ hx)

/-- The flow of which one record stands as a FILL for its age, alone in a new burst. -/
def agedFlow (s : State) (fl q : Nat) : IFlow :=
  { flowOf s fl with opens := mapIf (·.seq == q) (fun x => { x with fill := some 0x20, wait := .none }) (flowOf s fl).opens,
                     furrow := [{ seqs := [q], stamp := stampNow s (flowCls s fl) }] }

/-- A record whose burst is discarded by age stands as a FILL, which forms a burst of its own (R113, R154). -/
theorem agedRec_fill {s : State} {fl q : Nat} {o : OpenRec} (ho : openAt (flowOf s fl) q = some o) (hn : o.nop = false) (hf : o.fill = none)
    (hb : isBcast o.txn = false) (hfur : (flowOf s fl).furrow = []) : flowOf (agedRec s fl q) fl = agedFlow s fl q ∧
      (agedRec s fl q).regs = s.regs ∧ beside { agedRec s fl q with seq := s.seq } = beside s := by
  have hrec : agedRec s fl q = startFill s fl q 0x20 := by simp [agedRec, ho, hn, hf, hb]
  rw [hrec]
  simp only [startFill, hfur, List.map_nil, List.flatten_nil, List.contains_nil, Bool.false_eq_true, if_false, joinFurrow, flowOf_setFlow_same,
    List.getLast?_nil]
  exact ⟨rfl, rfl, rfl⟩

/-- The counters that the discard of a burst by age raises, with the event that goes with them. -/
def agedCounted (s : State) (c : Nat) : State := irqEvent (bump (bump s Pg.swc F.SWC_AGED_FRAMES 1 c) Pg.swc F.SWC_AGED_CPL) Pg.swc 3

theorem agedCounted_spec (s : State) {c : Nat} (hc : c < 8) : (getW (agedCounted s c) Pg.swc 0x10).getLsbD 3 = true ∧
    getF (agedCounted s c) Pg.swc F.SWC_AGED_FRAMES c = (getF s Pg.swc F.SWC_AGED_FRAMES c + 1) % 2 ^ 32 ∧
    getF (agedCounted s c) Pg.swc F.SWC_AGED_CPL = (getF s Pg.swc F.SWC_AGED_CPL + 1) % 2 ^ 32 ∧ OnlyPages [Pg.swc] s (agedCounted s c) ∧
    beside (agedCounted s c) = beside s := by
  have hoff : ∀ c < 8, regKey Pg.swc (F.SWC_AGED_FRAMES.off + F.SWC_AGED_FRAMES.stride * c) ∉
      [regKey Pg.swc 0x10, regKey Pg.swc 0x18, fKey Pg.swc F.SWC_AGED_CPL] := by decide
  have hkey := hoff c hc
  simp only [List.mem_cons, List.not_mem_nil, or_false, not_or] at hkey
  obtain ⟨hraw, hpend, hcpl⟩ := hkey
  refine ⟨?_, ?_, ?_, ?_, by simp [agedCounted]⟩
  · rw [agedCounted, getW_irqEvent_raw, BitVec.getLsbD_or]
    simp
  · rw [agedCounted, getF_irqEvent_ne _ _ _ hraw hpend, bump, getF_setF_ne _ _ _ _ _ _ hcpl, bump, getF_setF_same _ _ _ _ _ (by decide)]
    rfl
  · rw [agedCounted, getF_irqEvent_ne _ _ _ (by decide) (by decide), getF_bump_same _ _ rfl rfl, bump, getF_setF_ne _ _ _ _ _ _ (Ne.symm hcpl)]
  · refine OnlyPages.irqEvent (OnlyPages.bump (((OnlyPages.refl _ s).setW (by simp) ?_)) (by simp) (by decide)) (by simp)
    simp only [F.SWC_AGED_FRAMES]
    omega

theorem flowCls_lt (s : State) (fl : Nat) : flowCls s fl < 8 := Nat.mod_lt _ (by decide)

/-- A sweep discards the one burst that is past its limit: its record stands as a FILL, and the discard is counted. -/
theorem ageSweep_one {s : State} {fl q st : Nat} {o : OpenRec} (hq : ∀ p c, queueOf s p c = []) (hall : allFlows s = [fl])
    (hfur : (flowOf s fl).furrow = [{ seqs := [q], stamp := st }]) (ha : isAged s (flowCls s fl) st = true) (ho : openAt (flowOf s fl) q = some o)
    (hb : isBcast o.txn = false) :
    ageSweep s = agedRec (agedCounted (setFlow s fl { flowOf s fl with furrow := [] }) (flowCls s fl)) fl q := by
  rw [ageSweep_furrows hq, hall, List.foldl_cons, List.foldl_nil, hfur]
  generalize hx : agedCounted (setFlow s fl { flowOf s fl with furrow := [] }) (flowCls s fl) = x
  have hopen1 : openAt (flowOf (bump (setFlow s fl { flowOf s fl with furrow := [] }) Pg.swc F.SWC_AGED_FRAMES 1 (flowCls s fl)) fl) q = some o := by
    rw [show flowOf (bump (setFlow s fl { flowOf s fl with furrow := [] }) Pg.swc F.SWC_AGED_FRAMES 1 (flowCls s fl)) fl = _ from flowOf_setFlow_same ..]
    exact ho
  have hopenx : openAt (flowOf x fl) q = some o := by
    rw [← hx, flowOf, agedCounted, irqEvent_seq]
    exact hopen1
  have hone : furrowAged s fl = agedRec x fl q := by
    simp only [furrowAged, hfur, List.any_cons, List.any_nil, hopen1, hb, Bool.not_false, Bool.or_false, if_true, List.foldl_cons, List.foldl_nil]
    rw [← agedCounted, hx]
    simp only [hopenx, hb, Bool.false_eq_true, if_false]
  simp only [List.length_singleton, sweepFurrow, hfur, ha, if_true, hone]

theorem ageSweep_one_spec {s : State} {fl q st : Nat} {o : OpenRec} (hq : ∀ p c, queueOf s p c = []) (hall : allFlows s = [fl])
    (hfur : (flowOf s fl).furrow = [{ seqs := [q], stamp := st }]) (ha : isAged s (flowCls s fl) st = true) (ho : openAt (flowOf s fl) q = some o)
    (hn : o.nop = false) (hf : o.fill = none) (hb : isBcast o.txn = false) :
    openAt (flowOf (ageSweep s) fl) q = some { o with fill := some 0x20, wait := .none } ∧ (getW (ageSweep s) Pg.swc 0x10).getLsbD 3 = true ∧
      getF (ageSweep s) Pg.swc F.SWC_AGED_FRAMES (flowCls s fl) = (getF s Pg.swc F.SWC_AGED_FRAMES (flowCls s fl) + 1) % 2 ^ 32 ∧
      getF (ageSweep s) Pg.swc F.SWC_AGED_CPL = (getF s Pg.swc F.SWC_AGED_CPL + 1) % 2 ^ 32 ∧ OnlyPages [Pg.swc] s (ageSweep s) ∧
      beside { ageSweep s with seq := s.seq } = beside s := by
  rw [ageSweep_one hq hall hfur ha ho hb]
  obtain ⟨hraw, hframes, hcpl, hpages, hbeside⟩ := agedCounted_spec (setFlow s fl { flowOf s fl with furrow := [] }) (flowCls_lt s fl)
  generalize agedCounted (setFlow s fl { flowOf s fl with furrow := [] }) (flowCls s fl) = x at *
  have hflow : flowOf x fl = { flowOf s fl with furrow := [] } := by
    rw [flowOf, seq_of_beside hbeside]
    exact flowOf_setFlow_same ..
  have hopen : openAt (flowOf x fl) q = some o := by rw [hflow]; exact ho
  obtain ⟨hfill, hregs, hkept⟩ := agedRec_fill hopen hn hf hb (by rw [hflow])
  refine ⟨?_, ?_, ?_, ?_, hpages.of_eq hregs, ?_⟩
  · have := openAt_mapIf (flowOf x fl) q (g := fun r => { r with fill := some 0x20, wait := .none }) fun _ => rfl
    rw [hopen] at this
    rw [hfill]
    exact this
  · rw [getW_of_regs hregs, hraw]
  · rw [getF_of_regs hregs, hframes]; rfl
  · rw [getF_of_regs hregs, hcpl]; rfl
  · exact (congrArg (fun y : State => { y with seq := s.seq }) hkept).trans (congrArg (fun y : State => { y with seq := s.seq }) hbeside)

/-! ## NOP records (R121) -/

/-- The record of the NOP that a flow forms. -/
def nopRec (s : State) (fl : Nat) : OpenRec :=
  { seq := (flowOf s fl).nextSeq, first := (flowOf s fl).first, sent := false, fill := none, wait := .none, nop := true,
    txn := { tag := 0, init := flowInit s fl, flow := fl, op := 7, addr := 0, len := 0, data := [], spec := false, orphan := false } }

/-- An idle flow to one node whose floor has passed the one it last advertised, with a record other than a NOP between, forms a NOP. -/
theorem nopSend_eq {s : State} {fl : Nat} (hv : flowValid s fl = true) (ho : (flowOf s fl).opens = []) (hfur : (flowOf s fl).furrow = [])
    (hw : (flowOf s fl).waiting = []) (hst : (flowOf s fl).st = .opened) (hhop : flowHop s fl ≠ 63) (hpf : (flowOf s fl).pathFence = false)
    (hvf : (flowOf s fl).verFence = false) (hm : pairMute s fl = false) (hfloor : (flowOf s fl).floorAdv ≠ (flowOf s fl).nextSeq)
    (hclosed : ∃ q ∈ (flowOf s fl).closedNN, seqSub q (flowOf s fl).floorAdv < seqSub (flowOf s fl).nextSeq (flowOf s fl).floorAdv)
    (hlim : seqBelow (flowOf s fl).nextSeq (flowOf s fl).seqLimit = true) :
    nopSend s fl = bump (joinFurrow (setFlow s fl (limitAdvance { flowOf s fl with
      nextSeq := seqAdd (flowOf s fl).nextSeq 1, first := false, opens := [nopRec s fl] })) fl (flowOf s fl).nextSeq true) Pg.seq F.SEQ_NOP_SENT := by
  have hany : ((flowOf s fl).closedNN.any fun q =>
      decide (seqSub q (flowOf s fl).floorAdv < seqSub (flowOf s fl).nextSeq (flowOf s fl).floorAdv)) = true := by
    simpa [List.any_eq_true] using hclosed
  simp only [nopSend, oldestOpen, ho, hv, hfur, hw, hst, hpf, hvf, hm, hany, hlim, bne_iff_ne.mpr hhop, bne_iff_ne.mpr hfloor, List.isEmpty_nil,
    beq_self_eq_true, Bool.not_false, Bool.and_self, if_true, nopRec]

/-- A record that opens a new burst of an empty furrow stands there alone. -/
theorem joinFurrow_new {s : State} {fl : Nat} (q : Nat) (h : (flowOf s fl).furrow = []) :
    joinFurrow s fl q true = setFlow s fl { flowOf s fl with furrow := [{ seqs := [q], stamp := stampNow s (flowCls s fl) }] } := by
  simp only [joinFurrow, h, List.getLast?_nil]

theorem nopSend_spec {s : State} {fl : Nat} (hv : flowValid s fl = true) (ho : (flowOf s fl).opens = []) (hfur : (flowOf s fl).furrow = [])
    (hw : (flowOf s fl).waiting = []) (hst : (flowOf s fl).st = .opened) (hhop : flowHop s fl ≠ 63) (hpf : (flowOf s fl).pathFence = false)
    (hvf : (flowOf s fl).verFence = false) (hm : pairMute s fl = false) (hfloor : (flowOf s fl).floorAdv ≠ (flowOf s fl).nextSeq)
    (hclosed : ∃ q ∈ (flowOf s fl).closedNN, seqSub q (flowOf s fl).floorAdv < seqSub (flowOf s fl).nextSeq (flowOf s fl).floorAdv)
    (hlim : seqBelow (flowOf s fl).nextSeq (flowOf s fl).seqLimit = true) :
    (flowOf (nopSend s fl) fl).nextSeq = seqAdd (flowOf s fl).nextSeq 1 ∧
      (∃ o, (flowOf (nopSend s fl) fl).opens = [o] ∧ o.seq = (flowOf s fl).nextSeq ∧ o.nop = true ∧ o.txn.op = 7 ∧ o.first = (flowOf s fl).first) ∧
      (flowOf (nopSend s fl) fl).furrow.map (·.seqs) = [[(flowOf s fl).nextSeq]] ∧
      getF (nopSend s fl) Pg.seq F.SEQ_NOP_SENT = (getF s Pg.seq F.SEQ_NOP_SENT + 1) % 2 ^ 32 ∧
      OnlyRegs [fKey Pg.seq F.SEQ_NOP_SENT] s { nopSend s fl with seq := s.seq } := by
  obtain ⟨l, hl⟩ := limitAdvance_eq { flowOf s fl with nextSeq := seqAdd (flowOf s fl).nextSeq 1, first := false, opens := [nopRec s fl] }
  rw [nopSend_eq hv ho hfur hw hst hhop hpf hvf hm hfloor hclosed hlim, hl]
  generalize hx : setFlow s fl _ = x
  have hflow : flowOf x fl = { flowOf s fl with
      seqLimit := l, nextSeq := seqAdd (flowOf s fl).nextSeq 1, first := false, opens := [nopRec s fl] } := by rw [← hx, flowOf_setFlow_same]
  have hxregs : x.regs = s.regs ∧ beside { x with seq := s.seq } = beside s := by subst hx; exact ⟨rfl, rfl⟩
  obtain ⟨hxregs, hxbeside⟩ := hxregs
  rw [joinFurrow_new _ (by rw [hflow, hfur]), hflow]
  generalize hy : setFlow x fl _ = y
  have hyflow : flowOf (bump y Pg.seq F.SEQ_NOP_SENT) fl = { flowOf s fl with
      seqLimit := l, nextSeq := seqAdd (flowOf s fl).nextSeq 1, first := false, opens := [nopRec s fl],
      furrow := [{ seqs := [(flowOf s fl).nextSeq], stamp := stampNow x (flowCls x fl) }] } := by
    rw [← hy]
    exact flowOf_setFlow_same ..
  have hyregs : y.regs = s.regs := by rw [← hy]; exact hxregs
  have hkept : SameRegs [fKey Pg.seq F.SEQ_NOP_SENT] s (bump y Pg.seq F.SEQ_NOP_SENT) := ((SameRegs.refl _ s).of_eq hyregs).bump List.mem_cons_self
  rw [hyflow]
  refine ⟨rfl, ⟨nopRec s fl, rfl, rfl, rfl, rfl, rfl⟩, rfl, ?_, hkept.of_eq rfl, ?_⟩
  · rw [getF_bump_same _ _ rfl rfl, getF_of_regs hyregs]
  · rw [← hy]
    exact hxbeside

/-! ## Refill (R165) -/

/-- A fold over a range whose steps each rewrite a cell of their own: every cell is rewritten once, from what it held. -/
theorem cell_foldl_range {α : Type} {n : Nat} {f : State → Nat → State} {cell : State → Nat → α} {g : α → α}
    (hne : ∀ s i j, i < n → j < n → i ≠ j → cell (f s i) j = cell s j) (hsame : ∀ s j, j < n → cell (f s j) j = g (cell s j)) (s : State) {j : Nat}
    (hj : j < n) : cell ((List.range n).foldl f s) j = g (cell s j) := by
  have hpart : ∀ m ≤ n, cell ((List.range m).foldl f s) j = if j < m then g (cell s j) else cell s j := by
    intro m hm
    induction m with
    | zero => rfl
    | succ m ih =>
      rw [List.range_succ, List.foldl_append, List.foldl_cons, List.foldl_nil]
      rcases Nat.lt_trichotomy j m with h | h | h
      · rw [hne _ _ _ (by omega) hj (by omega), ih (by omega), if_pos h, if_pos (by omega)]
      · subst h
        rw [hsame _ _ hj, ih (by omega), if_neg (by omega), if_pos (by omega)]
      · rw [hne _ _ _ (by omega) hj (by omega), ih (by omega), if_neg (by omega), if_neg (by omega)]
  rw [hpart n (Nat.le_refl n), if_pos hj]

/-- A remainder as it was set. -/
theorem meterRem_setMeterRem (s : State) (k n j : Nat) : meterRem (setMeterRem s k n) j = if j = k then n else meterRem s j := by
  unfold meterRem setMeterRem
  dsimp only
  by_cases hj : j = k
  · subst hj
    split <;> simp [*]
  · rw [if_neg hj]
    split
    · rw [tabGet_tabDel_ne _ hj]
    · rw [tabGet_tabSet_ne _ _ hj]

/-- What decides the tokens of a bucket: its tokens, remainder, rate and burst. -/
abbrev Bucket := Int × Nat × Nat × Nat

/-- A bucket that has gained one microsecond of its rate. -/
def bucketGain (b : Bucket) : Bucket := ((refill b.1 b.2.1 b.2.2.1 b.2.2.2).1, (refill b.1 b.2.1 b.2.2.1 b.2.2.2).2, b.2.2.1, b.2.2.2)

/-- The bucket of a headgate. -/
def hdgBucket (s : State) (hg : Nat) : Bucket :=
  ((getF s (Pg.hdg hg) F.HDG_TOKENS_TOKENS (hg % 64) : Nat), meterRem s (1024 * Pg.hdg hg + hg % 64), hdgRate s (Pg.hdg hg) (hg % 64),
    getF s (Pg.hdg hg) F.HDG_CTL_BURST (hg % 64))

/-- The bucket of a sluice. -/
def sluBucket (s : State) (j : Nat) : Bucket :=
  (sluTokens s (Pg.slu (j / 64)) (j % 64), meterRem s (1024 * Pg.slu (j / 64) + j % 64), getF s (Pg.slu (j / 64)) F.SLU_ACT_RATE_RATE (j % 64),
    getF s (Pg.slu (j / 64)) F.SLU_ACT_BURST_BURST (j % 64))

theorem getF_setMeterRem (s : State) (k n p : Nat) (f : FieldD) (i : Nat) : getF (setMeterRem s k n) p f i = getF s p f i := rfl
theorem hdgRate_setMeterRem (s : State) (k n p i : Nat) : hdgRate (setMeterRem s k n) p i = hdgRate s p i := rfl

/-- A refill takes no token away, and stops at the burst. -/
theorem refill_bounds (t : Int) (rem rate burst : Nat) : t ≤ (refill t rem rate burst).1 ∧ (refill t rem rate burst).1 ≤ max t burst :=
  ⟨Int.le_max_left .., by simp only [refill]; omega⟩

/-- A field of a register that a refill writes in another entry, or in another word, stands. -/
theorem getF_refill_ne {s : State} {p q v i j k n : Nat} {f g : FieldD} (h : regKey q (g.off + g.stride * j) ≠ regKey p (f.off + f.stride * i)) :
    getF (setMeterRem (setF s p f v i) k n) q g j = getF s q g j := (getF_setMeterRem ..).trans (getF_setF_ne _ _ _ _ _ _ h)

theorem hdgRate_eq_of {s t : State} {p i : Nat} (hm : t.meter.hdgRate = s.meter.hdgRate) (hf : getF t p F.HDG_RATE_RATE i = getF s p F.HDG_RATE_RATE i) :
    hdgRate t p i = hdgRate s p i := by simp only [hdgRate, hm, hf]

theorem setMeterRem_hdgRate (s : State) (k n : Nat) : (setMeterRem s k n).meter.hdgRate = s.meter.hdgRate := rfl

/-- A headgate gains one microsecond of its rate. -/
theorem hdgBucket_refillHdg_same (s : State) (hg : Nat) : hdgBucket (refillHdg s hg) hg = bucketGain (hdgBucket s hg) := by
  have hctl : regKey (Pg.hdg hg) (F.HDG_CTL_BURST.off + F.HDG_CTL_BURST.stride * (hg % 64)) ≠
      regKey (Pg.hdg hg) (F.HDG_TOKENS_TOKENS.off + F.HDG_TOKENS_TOKENS.stride * (hg % 64)) := by
    simp only [regKey, F.HDG_CTL_BURST, F.HDG_TOKENS_TOKENS]
    omega
  have hrate : regKey (Pg.hdg hg) (F.HDG_RATE_RATE.off + F.HDG_RATE_RATE.stride * (hg % 64)) ≠
      regKey (Pg.hdg hg) (F.HDG_TOKENS_TOKENS.off + F.HDG_TOKENS_TOKENS.stride * (hg % 64)) := by
    simp only [regKey, F.HDG_RATE_RATE, F.HDG_TOKENS_TOKENS]
    omega
  have htok : getF s (Pg.hdg hg) F.HDG_TOKENS_TOKENS (hg % 64) < 2 ^ 24 := Nat.mod_lt _ (by decide)
  have hburst : getF s (Pg.hdg hg) F.HDG_CTL_BURST (hg % 64) < 2 ^ 24 := Nat.mod_lt _ (by decide)
  obtain ⟨hlow, hhigh⟩ := refill_bounds (getF s (Pg.hdg hg) F.HDG_TOKENS_TOKENS (hg % 64) : Nat) (meterRem s (1024 * Pg.hdg hg + hg % 64))
    (hdgRate s (Pg.hdg hg) (hg % 64)) (getF s (Pg.hdg hg) F.HDG_CTL_BURST (hg % 64))
  unfold refillHdg hdgBucket bucketGain
  dsimp only
  generalize refill _ _ _ _ = r at hlow hhigh
  simp only [Prod.mk.injEq]
  refine ⟨?_, ?_, hdgRate_eq_of rfl (getF_refill_ne hrate), getF_refill_ne hctl⟩
  · rw [getF_setMeterRem, getF_setF_same _ _ _ _ _ (by decide), Nat.mod_eq_of_lt (by simp only [F.HDG_TOKENS_TOKENS]; omega)]
    omega
  · rw [meterRem_setMeterRem, if_pos rfl]

/-- The refill of one headgate leaves the others alone. -/
theorem hdgBucket_refillHdg_ne (s : State) {i j : Nat} (h : i ≠ j) : hdgBucket (refillHdg s i) j = hdgBucket s j := by
  have hkey : ∀ g ∈ [F.HDG_TOKENS_TOKENS, F.HDG_CTL_BURST, F.HDG_RATE_RATE], regKey (Pg.hdg j) (g.off + g.stride * (j % 64)) ≠
      regKey (Pg.hdg i) (F.HDG_TOKENS_TOKENS.off + F.HDG_TOKENS_TOKENS.stride * (i % 64)) := by
    simp only [List.forall_mem_cons, regKey, Pg.hdg, F.HDG_TOKENS_TOKENS, F.HDG_CTL_BURST, F.HDG_RATE_RATE]
    exact ⟨by omega, by omega, by omega, fun _ hm => by cases hm⟩
  simp only [List.forall_mem_cons] at hkey
  obtain ⟨htok, hctl, hrate, -⟩ := hkey
  unfold refillHdg hdgBucket
  dsimp only
  simp only [Prod.mk.injEq]
  refine ⟨congrArg Nat.cast (getF_refill_ne htok), ?_, hdgRate_eq_of rfl (getF_refill_ne hrate), getF_refill_ne hctl⟩
  rw [meterRem_setMeterRem, if_neg (by simp only [Pg.hdg]; omega)]
  rfl

/-- A signed number of 32 bits reads as it was put. -/
theorem toSigned_ofSigned {x : Int} (h1 : -2 ^ 31 ≤ x) (h2 : x < 2 ^ 31) : toSigned 32 (ofSigned 32 x % 2 ^ 32) = x := by
  norm_num [toSigned, ofSigned]
  split <;> omega

theorem toSigned_bounds (v : Nat) : -2 ^ 31 ≤ toSigned 32 v ∧ toSigned 32 v < 2 ^ 31 := by
  simp only [toSigned]
  split <;> omega

/-- The tokens of a sluice as they were set. -/
theorem sluTokens_set (s : State) (p i : Nat) {x : Int} (h1 : -2 ^ 31 ≤ x) (h2 : x < 2 ^ 31) :
    sluTokens (setF s p F.SLU_TOKENS_TOKENS (ofSigned 32 x) i) p i = x := by
  rw [sluTokens, getF_setF_same _ _ _ _ _ (by decide)]
  exact toSigned_ofSigned h1 h2

/-- A sluice gains one microsecond of its rate. -/
theorem sluBucket_refillSlu_same (s : State) (j : Nat) : sluBucket (refillSlu s (Pg.slu (j / 64)) (j % 64)) j = bucketGain (sluBucket s j) := by
  have hkey : ∀ g ∈ [F.SLU_ACT_RATE_RATE, F.SLU_ACT_BURST_BURST], regKey (Pg.slu (j / 64)) (g.off + g.stride * (j % 64)) ≠
      regKey (Pg.slu (j / 64)) (F.SLU_TOKENS_TOKENS.off + F.SLU_TOKENS_TOKENS.stride * (j % 64)) := by
    simp only [List.forall_mem_cons, regKey, F.SLU_TOKENS_TOKENS, F.SLU_ACT_RATE_RATE, F.SLU_ACT_BURST_BURST]
    exact ⟨by omega, by omega, fun _ hm => by cases hm⟩
  simp only [List.forall_mem_cons] at hkey
  obtain ⟨hrate, hburst, -⟩ := hkey
  have hmax : getF s (Pg.slu (j / 64)) F.SLU_ACT_BURST_BURST (j % 64) < 2 ^ 25 := Nat.mod_lt _ (by decide)
  obtain ⟨hlow, hhigh⟩ := refill_bounds (sluTokens s (Pg.slu (j / 64)) (j % 64)) (meterRem s (1024 * Pg.slu (j / 64) + j % 64))
    (getF s (Pg.slu (j / 64)) F.SLU_ACT_RATE_RATE (j % 64)) (getF s (Pg.slu (j / 64)) F.SLU_ACT_BURST_BURST (j % 64))
  obtain ⟨htok1, htok2⟩ := toSigned_bounds (getF s (Pg.slu (j / 64)) F.SLU_TOKENS_TOKENS (j % 64))
  rw [← sluTokens] at htok1 htok2
  unfold refillSlu sluBucket bucketGain
  dsimp only
  generalize refill _ _ _ _ = r at hlow hhigh
  simp only [Prod.mk.injEq]
  refine ⟨sluTokens_set s _ _ (by omega) (by omega), ?_, getF_refill_ne hrate, getF_refill_ne hburst⟩
  rw [meterRem_setMeterRem, if_pos rfl]

/-- The refill of one sluice leaves the others alone. -/
theorem sluBucket_refillSlu_ne (s : State) {i j : Nat} (h : i ≠ j) : sluBucket (refillSlu s (Pg.slu (i / 64)) (i % 64)) j = sluBucket s j := by
  have hkey : ∀ g ∈ [F.SLU_TOKENS_TOKENS, F.SLU_ACT_RATE_RATE, F.SLU_ACT_BURST_BURST], regKey (Pg.slu (j / 64)) (g.off + g.stride * (j % 64)) ≠
      regKey (Pg.slu (i / 64)) (F.SLU_TOKENS_TOKENS.off + F.SLU_TOKENS_TOKENS.stride * (i % 64)) := by
    simp only [List.forall_mem_cons, regKey, Pg.slu, F.SLU_TOKENS_TOKENS, F.SLU_ACT_RATE_RATE, F.SLU_ACT_BURST_BURST]
    exact ⟨by omega, by omega, by omega, fun _ hm => by cases hm⟩
  simp only [List.forall_mem_cons] at hkey
  obtain ⟨htok, hrate, hburst, -⟩ := hkey
  unfold refillSlu sluBucket
  dsimp only
  simp only [Prod.mk.injEq]
  refine ⟨congrArg (toSigned 32) (getF_refill_ne htok), ?_, getF_refill_ne hrate, getF_refill_ne hburst⟩
  rw [meterRem_setMeterRem, if_neg (by simp only [Pg.slu]; omega)]
  rfl

/-- Headgates and sluices lie in different pages: a refill of one kind leaves the other alone. -/
theorem hdgBucket_refillSlu (s : State) {hg : Nat} (j : Nat) (h : hg < 1024) : hdgBucket (refillSlu s (Pg.slu (j / 64)) (j % 64)) hg = hdgBucket s hg := by
  have hkey : ∀ g ∈ [F.HDG_TOKENS_TOKENS, F.HDG_CTL_BURST, F.HDG_RATE_RATE], regKey (Pg.hdg hg) (g.off + g.stride * (hg % 64)) ≠
      regKey (Pg.slu (j / 64)) (F.SLU_TOKENS_TOKENS.off + F.SLU_TOKENS_TOKENS.stride * (j % 64)) := by
    simp only [List.forall_mem_cons, regKey, Pg.hdg, Pg.slu, F.SLU_TOKENS_TOKENS, F.HDG_TOKENS_TOKENS, F.HDG_CTL_BURST, F.HDG_RATE_RATE]
    exact ⟨by omega, by omega, by omega, fun _ hm => by cases hm⟩
  simp only [List.forall_mem_cons] at hkey
  obtain ⟨htok, hctl, hrate, -⟩ := hkey
  unfold refillSlu hdgBucket
  dsimp only
  simp only [Prod.mk.injEq]
  refine ⟨congrArg Nat.cast (getF_refill_ne htok), ?_, hdgRate_eq_of rfl (getF_refill_ne hrate), getF_refill_ne hctl⟩
  rw [meterRem_setMeterRem, if_neg (by simp only [Pg.hdg, Pg.slu]; omega)]
  rfl

theorem sluBucket_refillHdg (s : State) {hg : Nat} (j : Nat) (h : hg < 1024) : sluBucket (refillHdg s hg) j = sluBucket s j := by
  have hkey : ∀ g ∈ [F.SLU_TOKENS_TOKENS, F.SLU_ACT_RATE_RATE, F.SLU_ACT_BURST_BURST], regKey (Pg.slu (j / 64)) (g.off + g.stride * (j % 64)) ≠
      regKey (Pg.hdg hg) (F.HDG_TOKENS_TOKENS.off + F.HDG_TOKENS_TOKENS.stride * (hg % 64)) := by
    simp only [List.forall_mem_cons, regKey, Pg.hdg, Pg.slu, F.HDG_TOKENS_TOKENS, F.SLU_TOKENS_TOKENS, F.SLU_ACT_RATE_RATE, F.SLU_ACT_BURST_BURST]
    exact ⟨by omega, by omega, by omega, fun _ hm => by cases hm⟩
  simp only [List.forall_mem_cons] at hkey
  obtain ⟨htok, hrate, hburst, -⟩ := hkey
  unfold refillHdg sluBucket
  dsimp only
  simp only [Prod.mk.injEq]
  refine ⟨congrArg (toSigned 32) (getF_refill_ne htok), ?_, getF_refill_ne hrate, getF_refill_ne hburst⟩
  rw [meterRem_setMeterRem, if_neg (by simp only [Pg.hdg, Pg.slu]; omega)]
  rfl

/-- What every step of a fold leaves alone, the fold leaves alone. -/
theorem foldl_kept {α β : Type} {f : State → α → State} {get : State → β} {l : List α} (h : ∀ s, ∀ x ∈ l, get (f s x) = get s) (s : State) :
    get (l.foldl f s) = get s := by
  induction l generalizing s with
  | nil => rfl
  | cons x l ih => rw [List.foldl_cons, ih fun s y hy => h s y (List.mem_cons_of_mem _ hy), h s x List.mem_cons_self]

/-- The state beside its registers, with these meters. -/
def besideMeter (m : MeterSt) (s : State) : State := beside { s with meter := m }

theorem besideMeter_refillSlu (m : MeterSt) (s : State) (p i : Nat) : besideMeter m (refillSlu s p i) = besideMeter m s := rfl
theorem besideMeter_refillHdg (m : MeterSt) (s : State) (hg : Nat) : besideMeter m (refillHdg s hg) = besideMeter m s := rfl

/-- Every headgate and every sluice gains one microsecond of its rate, and nothing else changes (R165). -/
theorem refillAll_spec (s : State) :
    (∀ hg, hg < 1024 → hdgBucket (refillAll s) hg = bucketGain (hdgBucket s hg)) ∧
      (∀ j, j < 4159 → sluBucket (refillAll s) j = bucketGain (sluBucket s j)) ∧ ∀ m, besideMeter m (refillAll s) = besideMeter m s := by
  refine ⟨fun hg h => ?_, fun j h => ?_, fun m => ?_⟩
  · unfold refillAll
    rw [foldl_kept (get := fun t => hdgBucket t hg) fun t j _ => hdgBucket_refillSlu t j h]
    exact cell_foldl_range (cell := hdgBucket) (fun t i j _ _ hij => hdgBucket_refillHdg_ne t hij) (fun t j _ => hdgBucket_refillHdg_same t j) s h
  · unfold refillAll
    dsimp only
    rw [cell_foldl_range (f := fun a j => refillSlu a (Pg.slu (j / 64)) (j % 64)) (cell := sluBucket) (fun t i j _ _ hij => sluBucket_refillSlu_ne t hij)
      (fun t j _ => sluBucket_refillSlu_same t j) _ h, foldl_kept (get := fun t => sluBucket t j) fun t i hi => sluBucket_refillHdg t j (List.mem_range.mp hi)]
  · exact (foldl_kept (get := besideMeter m) (fun t j _ => besideMeter_refillSlu m t _ _) _).trans
      (foldl_kept (get := besideMeter m) (fun t hg _ => besideMeter_refillHdg m t hg) s)

/-! ## CTL words commit their entry (R175, R184) -/

theorem bucketCtl_hdg (s : State) (who : Agent) {p k : Nat} (v : Word) (h1 : 0x080 ≤ p) (h2 : p ≤ 0x08F) (hk : k < 64) :
    exec (.bucketCtlWrite who p k v) s = .next (during s fun a => ownWrite a who p (0x104 + 16 * k) v) := by
  simp only [exec, execBucketCtlWrite, h1, h2, hk, and_self, if_true]

theorem bucketCtl_slu (s : State) (who : Agent) {p k : Nat} (v : Word) (h1 : 0x090 ≤ p) (h2 : p ≤ 0x0D0) (hk : k < 64) :
    exec (.bucketCtlWrite who p k v) s = .next (during s fun a => ownWrite a who p (0x108 + 32 * k) v) := by
  have hno : ¬(0x080 ≤ p ∧ p ≤ 0x08F ∧ k < 64) := by omega
  have hyes : 0x090 ≤ p ∧ p ≤ 0x0D0 ∧ k < 64 := ⟨h1, h2, hk⟩
  simp only [exec, execBucketCtlWrite, if_neg hno, if_pos hyes]

/-- No write of a headgate's or sluice's page is a command. -/
theorem ringCmd_meter (s : State) (who : Agent) {p : Nat} (off : Nat) (v : Word) (bs : List Byte) (h : 0x080 ≤ p) (h2 : p ≤ 0x0D0) :
    ringCmd s who p off v bs false = none := by
  unfold ringCmd
  iterate 10 rw [if_neg (by simp only [Pg.gen, Pg.int, Pg.drw, Pg.fwu, Pg.bst, Pg.prt, Pg.seq, Pg.buf, Pg.par, Pg.cul, Pg.tmk]; omega)]

theorem afterWrite_hdg (s : State) {p k : Nat} (old : Word) (h1 : 0x080 ≤ p) (h2 : p ≤ 0x08F) (hk : k < 64) :
    afterWrite s p (0x104 + 16 * k) old = hdgCommit s p k := by
  have hi : arrIx (0x104 + 16 * k) 0x104 16 = k := by simp only [arrIx]; omega
  unfold afterWrite
  simp only [Pg.gen, Pg.cul, Pg.prt, Pg.kvl, Pg.nod, Pg.tmk, Pg.win, Pg.trg, hi]
  iterate 12 rw [if_neg (by omega)]
  rw [if_pos (by omega), if_pos (by omega)]

theorem afterWrite_slu (s : State) {p k : Nat} (old : Word) (h1 : 0x090 ≤ p) (h2 : p ≤ 0x0D0) (hk : k < 64) :
    afterWrite s p (0x108 + 32 * k) old = sluCommit s p k := by
  have hi : arrIx (0x108 + 32 * k) 0x108 32 = k := by simp only [arrIx]; omega
  unfold afterWrite
  simp only [Pg.gen, Pg.cul, Pg.prt, Pg.kvl, Pg.nod, Pg.tmk, Pg.win, Pg.trg, hi]
  iterate 13 rw [if_neg (by omega)]
  rw [if_pos (by omega), if_pos (by omega)]

theorem meter_of_beside {s t : State} (h : beside s = beside t) : s.meter = t.meter := show (beside s).meter = (beside t).meter from h ▸ rfl

/-- Two registers of one page at different words, as keys. -/
theorem regKey_ne_of_off {p a b : Nat} (h : a / 4 % 1024 ≠ b / 4 % 1024) : regKey p a ≠ regKey p b := by
  simp only [regKey]
  omega

/-- A headgate's CTL word commits its entry: the staged rate is the active one, and CHG_FILL says what the tokens become. -/
theorem hdgCommit_spec (t : State) (p k : Nat) :
    hdgRate (hdgCommit t p k) p k = getF t p F.HDG_RATE_RATE k ∧
      getF (hdgCommit t p k) p F.HDG_TOKENS_TOKENS k = (if getF t p F.HDG_CTL_CHG_FILL k = 0 then getF t p F.HDG_CTL_BURST k
        else if getF t p F.HDG_CTL_CHG_FILL k = 1 then 0 else min (getF t p F.HDG_TOKENS_TOKENS k) (getF t p F.HDG_CTL_BURST k)) ∧
      getW (hdgCommit t p k) p (0x104 + 16 * k) = getW t p (0x104 + 16 * k) ∧ SameRegs [fKey p F.HDG_TOKENS_TOKENS k] t (hdgCommit t p k) := by
  have hburst : getF t p F.HDG_CTL_BURST k < 2 ^ 24 := Nat.mod_lt _ (by decide)
  refine ⟨?_, ?_, ?_, (((SameRegs.refl _ t).setF List.mem_cons_self)).of_eq rfl⟩
  · unfold hdgRate hdgCommit
    dsimp only
    rw [tabGet_tabSet_same]
    rfl
  · refine (getF_setF_same t p F.HDG_TOKENS_TOKENS _ k (by decide)).trans (Nat.mod_eq_of_lt ?_)
    show _ < 2 ^ 24
    split
    · exact hburst
    · split <;> omega
  · exact getW_setW_ne _ _ (regKey_ne_of_off (by simp only [F.HDG_TOKENS_TOKENS]; omega))

/-- A sluice's CTL word commits its entry. -/
theorem sluCommit_spec (t : State) (p k : Nat) :
    getF (sluCommit t p k) p F.SLU_ACT_RATE_RATE k = getF t p F.SLU_RATE_RATE k ∧
      getF (sluCommit t p k) p F.SLU_ACT_BURST_BURST k = getF t p F.SLU_BURST_BURST k ∧
      sluTokens (sluCommit t p k) p k = (if getF t p F.SLU_CTL_CHG_FILL k = 0 then (getF t p F.SLU_BURST_BURST k : Int)
        else if getF t p F.SLU_CTL_CHG_FILL k = 1 then 0 else min (sluTokens t p k) (getF t p F.SLU_BURST_BURST k)) ∧
      getW (sluCommit t p k) p (0x108 + 32 * k) = getW t p (0x108 + 32 * k) ∧
      OnlyRegs [fKey p F.SLU_ACT_RATE_RATE k, fKey p F.SLU_ACT_BURST_BURST k, fKey p F.SLU_TOKENS_TOKENS k] t (sluCommit t p k) := by
  have hburst : getF t p F.SLU_BURST_BURST k < 2 ^ 25 := Nat.mod_lt _ (by decide)
  have hrate : getF t p F.SLU_RATE_RATE k < 2 ^ 25 := Nat.mod_lt _ (by decide)
  have hne : ∀ {a b : Nat}, a < 512 → b < 512 → a / 4 ≠ b / 4 → regKey p (a + 32 * k) ≠ regKey p (b + 32 * k) := fun ha hb hab => by
    simp only [regKey]
    omega
  obtain ⟨hmin, hmax⟩ := toSigned_bounds (getF t p F.SLU_TOKENS_TOKENS k)
  rw [← sluTokens] at hmin hmax
  unfold sluCommit
  dsimp only
  refine ⟨?_, ?_, sluTokens_set _ p k ?_ ?_, ?_, ?_, rfl⟩
  · rw [getF_setF_ne _ _ _ _ _ _ (hne (by decide) (by decide) (by decide)), getF_setF_ne _ _ _ _ _ _ (hne (by decide) (by decide) (by decide)),
      getF_setF_same _ _ _ _ _ (by decide)]
    exact Nat.mod_eq_of_lt hrate
  · rw [getF_setF_ne _ _ _ _ _ _ (hne (by decide) (by decide) (by decide)), getF_setF_same _ _ _ _ _ (by decide)]
    exact Nat.mod_eq_of_lt hburst
  · split
    · omega
    · split <;> omega
  · split
    · omega
    · split <;> omega
  · exact (getW_setW_ne _ _ (hne (by decide) (by decide) (by decide))).trans ((getW_setW_ne _ _ (hne (by decide) (by decide) (by decide))).trans
      (getW_setW_ne _ _ (hne (by decide) (by decide) (by decide))))
  · exact (((SameRegs.refl _ t).setF (by simp [fKey])).setF (by simp [fKey])).setF (by simp [fKey])

/-- A write of one word leaves the fields of the others as they were. -/
theorem getF_otherWord {s t : State} {p off k : Nat} {f : FieldD} (h : SameRegs [regKey p off] s t)
    (hne : (f.off + f.stride * k) / 4 % 1024 ≠ off / 4 % 1024) : getF t p f k = getF s p f k :=
  h.getF (by simp only [List.mem_singleton]; exact regKey_ne_of_off hne)

/-- A CTL write of a headgate that is taken commits its entry (R175, R184). -/
theorem hdgCtl_completes {s : State} {who : Agent} {v : Word} {p k : Nat} (h1 : 0x080 ≤ p) (h2 : p ≤ 0x08F) (hk : k < 64)
    (h : writeTaken s who p (0x104 + 16 * k) v = true) : ∃ u, exec (.bucketCtlWrite who p k v) s = .next (settle u) ∧
      getW u p (0x104 + 16 * k) = storedWord p (0x104 + 16 * k) (getW s p (0x104 + 16 * k)) v v ∧
        hdgRate u p k = getF s p F.HDG_RATE_RATE k ∧
        getF u p F.HDG_TOKENS_TOKENS k = (if getF u p F.HDG_CTL_CHG_FILL k = 0 then getF u p F.HDG_CTL_BURST k
          else if getF u p F.HDG_CTL_CHG_FILL k = 1 then 0 else min (getF s p F.HDG_TOKENS_TOKENS k) (getF u p F.HDG_CTL_BURST k)) ∧
        SameRegs [regKey p (0x104 + 16 * k), fKey p F.HDG_TOKENS_TOKENS k] s u := by
  refine completes_taken h (by omega) (by simp only [isFieldPage]; simp; omega) (fun t => ringCmd_meter t who _ v _ (by omega) (by omega))
    (bucketCtl_hdg s who v h1 h2 hk) rfl fun t u hw ht hu hb => ?_
  rw [afterWrite_hdg _ _ h1 h2 hk] at hu hb
  obtain ⟨hrate, htok, hctl, hregs⟩ := hdgCommit_spec t p k
  have hword : getW u p (0x104 + 16 * k) = getW t p (0x104 + 16 * k) := (getW_of_regs hu ..).trans hctl
  have hfill : getF u p F.HDG_CTL_CHG_FILL k = getF t p F.HDG_CTL_CHG_FILL k := congrArg (wordBits · _ _) hword
  have hburst : getF u p F.HDG_CTL_BURST k = getF t p F.HDG_CTL_BURST k := congrArg (wordBits · _ _) hword
  have holdRate : getF t p F.HDG_RATE_RATE k = getF s p F.HDG_RATE_RATE k := getF_otherWord ht.1 (by simp only [F.HDG_RATE_RATE]; omega)
  have holdTokens : getF t p F.HDG_TOKENS_TOKENS k = getF s p F.HDG_TOKENS_TOKENS k :=
    getF_otherWord ht.1 (by simp only [F.HDG_TOKENS_TOKENS]; omega)
  refine ⟨hword.trans hw, ?_, ?_, ?_⟩
  · have hmeter : u.meter = (hdgCommit t p k).meter := meter_of_beside hb
    rw [← holdRate, ← hrate]
    exact hdgRate_eq_of (congrArg _ hmeter) (getF_of_regs hu ..)
  · rw [getF_of_regs hu, htok, hfill, hburst, holdTokens]
  · exact ((ht.1.mono (by simp)).trans (hregs.mono (by simp))).of_eq hu

/-- A CTL write of a sluice that is taken commits its entry (R175, R184). -/
theorem sluCtl_completes {s : State} {who : Agent} {v : Word} {p k : Nat} (h1 : 0x090 ≤ p) (h2 : p ≤ 0x0D0) (hk : k < 64)
    (h : writeTaken s who p (0x108 + 32 * k) v = true) : ∃ u, exec (.bucketCtlWrite who p k v) s = .next (settle u) ∧
      getW u p (0x108 + 32 * k) = storedWord p (0x108 + 32 * k) (getW s p (0x108 + 32 * k)) v v ∧
        getF u p F.SLU_ACT_RATE_RATE k = getF s p F.SLU_RATE_RATE k ∧ getF u p F.SLU_ACT_BURST_BURST k = getF s p F.SLU_BURST_BURST k ∧
        sluTokens u p k = (if getF u p F.SLU_CTL_CHG_FILL k = 0 then (getF s p F.SLU_BURST_BURST k : Int)
          else if getF u p F.SLU_CTL_CHG_FILL k = 1 then 0 else min (sluTokens s p k) (getF s p F.SLU_BURST_BURST k)) ∧
        OnlyRegs [regKey p (0x108 + 32 * k), fKey p F.SLU_ACT_RATE_RATE k, fKey p F.SLU_ACT_BURST_BURST k, fKey p F.SLU_TOKENS_TOKENS k] s u := by
  refine completes_taken h (by omega) (by simp only [isFieldPage]; simp; omega) (fun t => ringCmd_meter t who _ v _ (by omega) (by omega))
    (bucketCtl_slu s who v h1 h2 hk) rfl fun t u hw ht hu hb => ?_
  rw [afterWrite_slu _ _ h1 h2 hk] at hu hb
  obtain ⟨hrate, hburst, htok, hctl, hregs, hbeside⟩ := sluCommit_spec t p k
  have hword : getW u p (0x108 + 32 * k) = getW t p (0x108 + 32 * k) := (getW_of_regs hu ..).trans hctl
  have hfill : getF u p F.SLU_CTL_CHG_FILL k = getF t p F.SLU_CTL_CHG_FILL k := congrArg (wordBits · _ _) hword
  have holdRate : getF t p F.SLU_RATE_RATE k = getF s p F.SLU_RATE_RATE k := getF_otherWord ht.1 (by simp only [F.SLU_RATE_RATE]; omega)
  have holdBurst : getF t p F.SLU_BURST_BURST k = getF s p F.SLU_BURST_BURST k := getF_otherWord ht.1 (by simp only [F.SLU_BURST_BURST]; omega)
  have htokens : sluTokens t p k = sluTokens s p k :=
    congrArg (toSigned 32) (getF_otherWord (f := F.SLU_TOKENS_TOKENS) ht.1 (by simp only [F.SLU_TOKENS_TOKENS]; omega))
  refine ⟨hword.trans hw, ?_, ?_, ?_, ?_, (hb.trans hbeside).trans ht.2⟩
  · rw [getF_of_regs hu, hrate, holdRate]
  · rw [getF_of_regs hu, hburst, holdBurst]
  · have hu' : sluTokens u p k = sluTokens (sluCommit t p k) p k := congrArg (toSigned 32) (getF_of_regs hu ..)
    rw [hu', htok, hfill, htokens, holdBurst]
  · exact ((ht.1.mono (by simp)).trans (hregs.mono (by simp))).of_eq hu

/-- The tokens of every headgate and of every sluice after a microsecond (R165). -/
theorem bucketRefill_spec (s : State) :
    (∀ hg, hg < 1024 → getF (refillAll s) (Pg.hdg hg) F.HDG_TOKENS_TOKENS (hg % 64) =
      max (getF s (Pg.hdg hg) F.HDG_TOKENS_TOKENS (hg % 64)) (min (getF s (Pg.hdg hg) F.HDG_CTL_BURST (hg % 64))
        (getF s (Pg.hdg hg) F.HDG_TOKENS_TOKENS (hg % 64) + (meterRem s (1024 * Pg.hdg hg + hg % 64) + hdgRate s (Pg.hdg hg) (hg % 64)) / 8000))) ∧
      (∀ j, j < 4159 → sluTokens (refillAll s) (Pg.slu (j / 64)) (j % 64) =
        max (sluTokens s (Pg.slu (j / 64)) (j % 64)) (min (getF s (Pg.slu (j / 64)) F.SLU_ACT_BURST_BURST (j % 64) : Int)
          (sluTokens s (Pg.slu (j / 64)) (j % 64) +
            ((meterRem s (1024 * Pg.slu (j / 64) + j % 64) + getF s (Pg.slu (j / 64)) F.SLU_ACT_RATE_RATE (j % 64)) / 8000 : Nat)))) ∧
      beside { refillAll s with meter := s.meter } = beside s := by
  obtain ⟨hhdg, hslu, hkept⟩ := refillAll_spec s
  refine ⟨fun hg h => ?_, fun j h => congrArg Prod.fst (hslu j h), hkept s.meter⟩
  have htokens := congrArg Prod.fst (hhdg hg h)
  simp only [hdgBucket, bucketGain, refill] at htokens
  exact_mod_cast htokens

/-- Settles O21: each clause is the specification of its function, where its conditions leave one branch; the refills rewrite each bucket once. -/
theorem sweepAndBuckets : Obligations.SweepAndBuckets := by
  unfold Obligations.SweepAndBuckets
  refine ⟨fun s ha => ⟨fun hq hf => ?_, fun fl q st o hq hall hfur hag ho hn hf hb => ?_,
    fun fl hv ho hfur hw hst hhop hpf hvf hm hfloor hclosed hlim => ?_⟩, fun s who v => ⟨fun ha => ?_, fun p k h1 h2 hk h => hdgCtl_completes h1 h2 hk h,
    fun p k h1 h2 hk _ h => sluCtl_completes h1 h2 hk h⟩⟩
  · exact completes_during ha rfl (ageSweep_empty (s := cleared s) hq hf)
  · exact completes_during ha rfl (ageSweep_one_spec (s := cleared s) hq hall hfur hag ho hn hf hb)
  · exact completes_during ha rfl (nopSend_spec (s := cleared s) hv ho hfur hw hst hhop hpf hvf hm hfloor hclosed hlim)
  · exact completes_during ha rfl (bucketRefill_spec (cleared s))

end Sys2Proof.Machine
end

section
/-! PROOFS. Bursts that leave their furrow, and frames that start on a port (R107, R138, R151, R170, R172, R173). -/

namespace Sys2Proof.Machine

/-! ## Charges -/

/-- A charge changes the registers of its sluice only (R172). -/
theorem beside_sluCharge (s : State) (pg i len : Nat) : beside (sluCharge s pg i len) = beside s := by
  unfold sluCharge
  split
  · simp
  · rfl

/-- Every meter that applies to a burst is charged, and the burst waits no more (R172). -/
def burstCharged (s : State) (fl len : Nat) (svc : List Nat) : State :=
  svc.foldl (fun a i => sluCharge a Pg.slu40 i len) (sluCharge (waitEnd s fl) (Pg.slu (fl / 64)) (fl % 64) len)

theorem burstCharged_kept (s : State) (fl len : Nat) (svc : List Nat) :
    (burstCharged s fl len svc).seq = s.seq ∧ (burstCharged s fl len svc).sw = s.sw ∧ (burstCharged s fl len svc).ring = s.ring := by
  have hbeside : beside (burstCharged s fl len svc) = beside (waitEnd s fl) :=
    (foldl_kept (get := beside) (fun a i _ => beside_sluCharge a _ i len) _).trans (beside_sluCharge ..)
  exact ⟨(seq_of_beside hbeside :), (sw_of_beside hbeside :), (ring_of_beside hbeside :)⟩

/-! ## A burst of one record (R107, R170) -/

/-- A flow of which record `q` alone has left its furrow, with `n` retries. -/
def sentFlow (s : State) (fl q n : Nat) : IFlow :=
  { flowOf s fl with
      furrow := []
      opens := mapIf (fun o => [q].contains o.seq) (fun o => { o with sent := true }) (flowOf s fl).opens
      timer := (flowOf s fl).timer || [q].contains (oldestOpen (flowOf s fl))
      retries := n
      floorAdv := oldestOpen (flowOf s fl)
      closedNN := (flowOf s fl).closedNN.filter fun x => decide (seqSub x (oldestOpen (flowOf s fl)) < 2 ^ 31) }

theorem openAt_sentFlow {s : State} {fl q n : Nat} {o : OpenRec} (h : openAt (flowOf s fl) q = some o) :
    openAt (sentFlow s fl q n) q = some { o with sent := true } := by
  have hmark := openAt_mapIf (flowOf s fl) q (g := fun o => { o with sent := true }) fun _ => rfl
  rw [h] at hmark
  have hsel : (fun o : OpenRec => [q].contains o.seq) = (·.seq == q) := by
    funext x
    simp [Bool.beq_eq_decide_eq]
  rw [openAt, sentFlow, hsel]
  exact hmark

theorem sentFlow_timer (s : State) {fl q n : Nat} (h : oldestOpen (flowOf s fl) = q) : (sentFlow s fl q n).timer = true := by simp [sentFlow, h]

/-- The flow `fl` written again as it is. -/
def flowKept (s : State) (fl : Nat) : State := setFlow s fl (flowOf s fl)

theorem flowOf_flowKept (s : State) (fl : Nat) : flowOf (flowKept s fl) fl = flowOf s fl := flowOf_setFlow_same ..

theorem frameSame_flowKept (s : State) (fl : Nat) : FrameSame s (flowKept s fl) := ⟨fun _ _ => rfl, rfl⟩

/-- A flow whose path and epoch are settled sends again under them (R123, R147). -/
theorem firstSend_settled {s : State} {fl : Nat} (hsent : (flowOf s fl).sentOnce = true) (hepoch : (flowOf s fl).peerEpoch ≠ 0) :
    firstSend s fl = flowKept s fl := by
  simp only [firstSend, hsent, if_true, hepoch, false_and, if_false]
  rfl

theorem flowPorts_flowKept (s : State) (fl : Nat) : flowPorts (flowKept s fl) fl = flowPorts s fl := by
  unfold flowPorts
  rw [flowOf_flowKept]
  rfl

theorem flowPorts_nodup (s : State) (fl : Nat) : (flowPorts s fl).Nodup := by
  unfold flowPorts
  split
  · exact List.nodup_nil
  · dsimp only
    split
    · split <;> decide
    · exact List.nodup_singleton _

theorem flowPorts_own {s : State} {fl : Nat} (h : flowP1 s fl = 0) : flowPorts s fl = [] := by rw [flowPorts, if_pos h]

theorem flowPorts_ne_nil {s : State} {fl : Nat} (h : flowP1 s fl ≠ 0) : flowPorts s fl ≠ [] := by
  rw [flowPorts, if_neg h]
  dsimp only
  split
  · split <;> exact List.cons_ne_nil _ _
  · exact List.cons_ne_nil _ _

/-- The REQ of one record of a flow that is no pair flow (R80, R105). -/
def oneReq (s : State) (fl q : Nat) (o : OpenRec) : Frame :=
  kvlFrame s (flowDmac s fl) (ownMac s) (reqHdr s fl [q]) (beBytes 4 (oldestOpen (flowOf s fl)) ++ beBytes 4 0 ++ openRecBytes o)

theorem reqFrame_one {s : State} {fl q : Nat} {o : OpenRec} (ho : openAt (flowOf s fl) q = some o) (hpair : isPairFlow s fl = false) :
    reqFrame (flowKept s fl) fl [q] = oneReq s fl q o := by
  have hhdr : reqHdr (flowKept s fl) fl [q] = reqHdr s fl [q] := by
    unfold reqHdr
    rw [flowOf_flowKept]
    rfl
  have hbody : (([q].filterMap (openAt (flowOf s fl))).map openRecBytes).flatten = openRecBytes o := by simp [ho]
  have hpair' : isPairFlow (flowKept s fl) fl = false := hpair
  unfold reqFrame
  dsimp only
  rw [flowOf_flowKept, hhdr, hpair', hbody]
  rfl

/-- The descriptor of that REQ (R138). -/
def oneDesc (s : State) (fl q st : Nat) (o : OpenRec) : Desc :=
  { ownDesc s (oneReq s fl q o) (flowCls s fl) with stamp := st, bcastTags := [], loc := if (flowPorts s fl).isEmpty then some 0 else none }

/-- The REQ is stored for this hub's own engine, or for the ports of its flow. -/
def storeReq (s : State) (fl : Nat) (d : Desc) : Option State :=
  if (flowPorts s fl).isEmpty then storeFrame (flowKept s fl) d [] else sendHsr (flowKept s fl) d (flowPorts s fl)

/-- The one record of a burst leaves its furrow. -/
theorem runSent_one {s t : State} {fl : Nat} (q : Nat) (hseq : t.seq = (flowKept s fl).seq) :
    ∃ n, runSent t fl [q] [] false = setFlow t fl (sentFlow s fl q n) := by
  have hflow : flowOf t fl = flowOf s fl := by rw [flowOf, hseq, ← flowOf, flowOf_flowKept]
  refine ⟨if !(flowOf s fl).timer && [q].contains (oldestOpen (flowOf s fl)) then flowRetries t fl else (flowOf s fl).retries, ?_⟩
  simp only [runSent, sentFlow, hflow, Bool.not_false, Bool.true_and, Bool.and_true]

theorem take_maxCount_singleton (ver q : Nat) : [q].take (maxCount ver) = [q] := by
  unfold maxCount
  split <;> rfl

/-- The service sluices that meter a burst of a flow: one for each of its ports that takes frames (R170). -/
def burstSluices (s : State) (fl : Nat) : List Nat := ((flowPorts s fl).filter (portTakes s)).map fun p => svcSluice p (flowCls s fl)

/-- A burst of one record whose sluices are open leaves its furrow once it is stored, and its meters are charged. -/
theorem furrowRelease_one {s t : State} {fl q st : Nat} {o : OpenRec} (hfur : (flowOf s fl).furrow = [{ seqs := [q], stamp := st }])
    (ho : openAt (flowOf s fl) q = some o) (hpf : (flowOf s fl).pathFence = false) (haged : isAged s (flowCls s fl) st = false)
    (hsent : (flowOf s fl).sentOnce = true) (hepoch : (flowOf s fl).peerEpoch ≠ 0) (hb : isBcast o.txn = false) (hpair : isPairFlow s fl = false)
    (hflw : sluOpen s (Pg.slu (fl / 64)) (fl % 64) = true)
    (hsvc : ∀ p ∈ flowPorts s fl, portTakes s p = true → sluOpen s Pg.slu40 (svcSluice p (flowCls s fl)) = true)
    (hstore : storeReq s fl (oneDesc s fl q st o) = some t) (hseq : t.seq = (flowKept s fl).seq) :
    ∃ n, furrowRelease s fl = setFlow (burstCharged t fl (frameLen (oneReq s fl q o)) (burstSluices s fl)) fl (sentFlow s fl q n) := by
  obtain ⟨hcseq, -, -⟩ := burstCharged_kept t fl (frameLen (oneReq s fl q o)) (burstSluices s fl)
  obtain ⟨n, hrun⟩ := runSent_one q (hcseq.trans hseq)
  refine ⟨n, ?_⟩
  rw [← hrun]
  have hopen : (burstSluices s fl).all (sluOpen s Pg.slu40) = true := by
    simp only [burstSluices, List.all_map, List.all_eq_true, List.mem_filter]
    exact fun p ⟨hp, ht⟩ => hsvc p hp ht
  have hone : burstRun (flowOf s fl) [q] = [q] := by simp [burstRun, ho]
  have htags : ((([q].filterMap (openAt (flowOf s fl))).filter fun o => isBcast o.txn).map (·.txn.tag)) = [] := by simp [ho, hb]
  have hmute : pairMute s fl = false := by simp [pairMute, hpair]
  have hframe := reqFrame_one ho hpair
  have hports : flowPorts (flowKept s fl) fl = flowPorts s fl := flowPorts_flowKept s fl
  unfold furrowRelease
  simp only [hfur, hpf, hmute, haged, hone, htags, firstSend_settled hsent hepoch, take_maxCount_singleton, Bool.or_self, Bool.false_eq_true, if_false,
    List.isEmpty_nil, List.isEmpty_cons, if_true, hports, hframe]
  have hshut : (!(sluOpen s (Pg.slu (fl / 64)) (fl % 64) && (burstSluices s fl).all (sluOpen s Pg.slu40))) = false := by
    rw [hflw, hopen]
    rfl
  refine (if_neg (ne_true_of_eq_false hshut)).trans ?_
  split
  · rename_i hnone
    cases hnone.symm.trans hstore
  · rename_i t' hsome
    obtain rfl : t' = t := Option.some.inj (hsome.symm.trans hstore)
    have hrest : (List.filter (fun x => (openAt (flowOf (runSent (burstCharged t' fl (frameLen (oneReq s fl q o)) (burstSluices s fl)) fl [q] [] false) fl) x).any
        fun o => isBcast o.txn) [q]) = [] := by
      rw [hrun, flowOf_setFlow_same]
      simp [openAt_sentFlow ho, hb]
    split
    · split
      · rfl
      · exact congrArg (List.foldl _ _) hrest
    · rfl

/-- A frame for this hub's own engine alone is held at a cell, and joins the engine's queue (R138). -/
theorem storeFrame_local {s t : State} {d : Desc} (h : storeFrame s d [] = some t) (hloc : d.loc = some 0) :
    ∃ id d1, tabGet t.sw.frames id = some d1 ∧ d1.frame = d.frame ∧ d1.loc = some 0 ∧ t.sw.localQ = s.sw.localQ ++ [id] := by
  unfold storeFrame at h
  rw [Option.map_eq_some_iff] at h
  obtain ⟨⟨id, u⟩, hform, rfl⟩ := h
  have hjoin : ∀ a : State, joinQueues a id d.cls ([].filter (portTakes s)) = a := fun _ => rfl
  simp only [hjoin]
  simp only [formFrame, List.filter_nil, List.foldl_nil, List.isEmpty_nil, Bool.true_and, hloc, Option.isNone_some, Bool.false_eq_true, if_false,
    List.map_nil, Option.isSome_some, if_true] at hform
  split at hform
  · cases hform
  · split at hform
    · cases hform
    · obtain ⟨rfl, rfl⟩ := Prod.mk.inj (Option.some.inj hform)
      rw [(spoilOnly_cellsWritten _ _).sw]
      exact ⟨_, _, tabGet_tabSet_same .., rfl, rfl, rfl⟩

/-- A REQ for this hub's own engine finds its cells and goes there. -/
theorem storeReq_own {s : State} {fl q st : Nat} {o : OpenRec} (hp : flowP1 s fl = 0)
    (hroom : poolRoom s (poolOf false (flowCls s fl)) (oneReq s fl q o) (flowPorts s fl) = true) :
    ∃ t, storeReq s fl (oneDesc s fl q st o) = some t ∧ SwOnly (flowKept s fl) t ∧
      ∃ id d, tabGet t.sw.frames id = some d ∧ d.frame = oneReq s fl q o ∧ d.loc = some 0 ∧ t.sw.localQ = s.sw.localQ ++ [id] := by
  have hports := flowPorts_own hp
  have hloc : (oneDesc s fl q st o).loc = some 0 := by simp [oneDesc, hports]
  rw [hports, ← (frameSame_flowKept s fl).poolRoom] at hroom
  obtain ⟨t, hstore, -⟩ := storeFrame_room (d := oneDesc s fl q st o) hroom rfl List.nodup_nil
  exact ⟨t, by rw [storeReq, hports]; exact hstore, storeFrame_only hstore, storeFrame_local hstore hloc⟩

/-- A REQ for other nodes finds its cells and leaves, with the next HSR sequence number (R70). -/
theorem storeReq_ports {s : State} {fl q st : Nat} {o : OpenRec} (hp : flowP1 s fl ≠ 0)
    (hroom : poolRoom s (poolOf false (flowCls s fl)) (oneReq s fl q o) (flowPorts s fl) = true) :
    ∃ t, storeReq s fl (oneDesc s fl q st o) = some t ∧ SwOnly (hsrNext (flowKept s fl)) t ∧
      Leaves s t (tagged s (oneReq s fl q o)) (flowCls s fl) (flowPorts s fl) := by
  have hports : (flowPorts s fl).isEmpty = false := List.isEmpty_eq_false_iff.mpr (flowPorts_ne_nil hp)
  have hsame : FrameSame s (hsrNext (flowKept s fl)) := ⟨fun _ _ => rfl, rfl⟩
  rw [← hsame.poolRoom] at hroom
  obtain ⟨t, hstore, hleaves⟩ := storeFrame_room (s := hsrNext (flowKept s fl)) (ports := flowPorts s fl)
    (d := descTag (oneDesc s fl q st o) { path := 0, seq := s.ring.hsrSeq }) hroom rfl (flowPorts_nodup s fl)
  have hnext : nextHsr (flowKept s fl) (oneDesc s fl q st o).frame.smac = (s.ring.hsrSeq, hsrNext (flowKept s fl)) := nextHsr_own (flowKept s fl)
  refine ⟨t, ?_, storeFrame_only hstore, hsame.leaves hleaves⟩
  rw [storeReq, hports, sendHsr, hnext]
  exact hstore

theorem SwOnly.seq {s t : State} (h : SwOnly s t) : t.seq = s.seq := by
  obtain ⟨_, _, _, rfl⟩ := h
  rfl

/-- The classes of the first queues that an idle port looks at, in falling order (R173). -/
theorem selectClass_high {s : State} {p : Port} {c : Nat} (hopen : sluOpen s Pg.slu40 (portSluice p) = true)
    (hc : [7, 6, 5, 4].find? (fun k => !(queueOf s p k).isEmpty) = some c) : selectClass s p = (some c, s) := by
  simp only [selectClass, hopen, Bool.not_true, Bool.false_eq_true, if_false, hc]

theorem wireEnd_idle {s : State} {p : Port} (outcome : Nat) (h : tabGet s.sw.onWire (portIdx p) = none) : wireEnd s p outcome = s := by
  simp only [wireEnd, h]

theorem spoilMeet_clean {s : State} (fid : Nat) (h : s.test.badCells = []) : spoilMeet s fid = s := by
  rw [spoilMeet, h, List.foldl_nil]

/-- An idle port starts the head of its highest queue (R173). -/
theorem portSelect_head {s : State} {p : Port} {c fid n : Nat} {rest : List Nat} {d : Desc} (hopen : sluOpen s Pg.slu40 (portSluice p) = true)
    (hc : [7, 6, 5, 4].find? (fun k => !(queueOf s p k).isEmpty) = some c) (hq : queueOf s p c = fid :: rest) (hd : tabGet s.sw.frames fid = some d)
    (haged : isAged s c d.stamp = false) (hbad : s.test.badCells = []) : portSelect (n + 1) s p = startFrame (setQueue s p c rest) p fid := by
  simp only [portSelect, selectClass_high hopen hc, hq, hd, haged, spoilMeet_clean fid hbad, Bool.false_eq_true, if_false, Option.isNone_some]

/-- PORT_SELECT of an idle port that no injection holds back. -/
theorem exec_portSelect_idle {s : State} {p : Port} (ha : alive s = true) (hw : tabGet s.sw.onWire (portIdx p) = none) (hbp : bpHeld s (portPage p) = false) :
    exec (.portSelect p none) s = .next (settle (portSelect (frameCount s + 1) (cleared s) p)) := by
  have hw' : tabGet (cleared s).sw.onWire (portIdx p) = none := hw
  have hbp' : bpHeld (cleared s) (portPage p) = false := hbp
  simp only [exec, execPortSelect, during_alive ha, wireEnd_idle 1 hw', hbp', Bool.and_false, Bool.false_eq_true, if_false]
  rfl

/-! ## A frame that starts (R172, R173) -/

/-- What correcting a frame at its egress leaves alone: the switch core but the marks of corrected frames, and the sequencer (R225). -/
structure EgressOnly (s t : State) : Prop where
  sw : ∃ w, t.sw = { s.sw with tcWire := w }
  seq : t.seq = s.seq

theorem EgressOnly.of_parts {s t : State} (hsw : t.sw = s.sw) (hseq : t.seq = s.seq) : EgressOnly s t := ⟨⟨s.sw.tcWire, by rw [hsw]⟩, hseq⟩

theorem egressOnly_tcEgress (s : State) (i p : Port) (rx : Nat) (f : Frame) : EgressOnly s (tcEgress s i p rx f).2.2 := by
  unfold tcEgress
  dsimp only
  split
  · exact .of_parts rfl rfl
  split
  · exact .of_parts rfl rfl
  split
  · exact .of_parts rfl rfl
  split
  · split <;> exact .of_parts rfl rfl
  · exact .of_parts rfl rfl

theorem egressOnly_egressFrame (s : State) (p : Port) (d : Desc) : EgressOnly s (egressFrame s p d).2 := by
  have hwire : ∀ r : Frame × Bool × State, EgressOnly s r.2.2 →
      let s1 := if r.2.1 then { r.2.2 with sw := { r.2.2.sw with tcWire := r.2.2.sw.tcWire ++ [portIdx p] } } else r.2.2
      let e := if d.oneStep then (oneStepInsert s1 p r.1, s1) else (r.1, s1)
      EgressOnly s e.2 := fun r hr => by
    have ⟨⟨w, hw⟩, hseq⟩ := hr
    have hmarked : EgressOnly s { r.2.2 with sw := { r.2.2.sw with tcWire := r.2.2.sw.tcWire ++ [portIdx p] } } := ⟨⟨_, by rw [hw]⟩, hseq⟩
    rcases r.2.1 <;> rcases d.oneStep
    · exact hr
    · exact hr
    · exact hmarked
    · exact hmarked
  refine hwire _ ?_
  split
  · exact egressOnly_tcEgress ..
  · exact .of_parts rfl rfl

/-- The hub with the port sluice charged for a frame that leaves. -/
def portCharged (s : State) (p : Port) (d : Desc) : State :=
  sluCharge (waitEnd (egressFrame s p d).2 (4096 + portIdx p)) Pg.slu40 (portSluice p) (egressLen s p d.frame)

theorem portCharged_spec (s : State) (p : Port) (d : Desc) : (∃ w, (portCharged s p d).sw = { s.sw with tcWire := w }) ∧
    (portCharged s p d).seq = s.seq ∧
    (isEthPort p = true → getF (portCharged s p d) (portPage p) F.PORT_TX_FRAMES = getF s (portPage p) F.PORT_TX_FRAMES) := by
  have hp := portIdx_le p
  obtain ⟨⟨w, hw⟩, hseq⟩ := egressOnly_egressFrame s p d
  obtain ⟨hegress, -⟩ := egressFrame_kept s p d
  have hbeside := beside_sluCharge (waitEnd (egressFrame s p d).2 (4096 + portIdx p)) Pg.slu40 (portSluice p) (egressLen s p d.frame)
  obtain ⟨hcharge, -⟩ := sluCharge_kept (waitEnd (egressFrame s p d).2 (4096 + portIdx p)) (i := portSluice p) (by unfold portSluice; omega)
    (egressLen s p d.frame)
  refine ⟨⟨w, (sw_of_beside hbeside).trans hw⟩, (seq_of_beside hbeside).trans hseq, fun heth => ?_⟩
  obtain ⟨hlo, hhi⟩ := portPage_eth heth
  exact (hcharge.getF (by simp only [List.mem_singleton, Pg.slu40]; omega) (by decide)).trans
    (hegress.getF (by simp only [List.mem_singleton, Pg.tmk]; omega) (by decide))

/-- The frame at the head of a class queue starts: it stands on the wire, and is out of the queue. -/
def wireStarted (s : State) (p : Port) (c fid : Nat) (rest : List Nat) (d : Desc) : State :=
  let e := portCharged (setQueue s p c rest) p d
  { e with sw := { e.sw with onWire := tabSet e.sw.onWire (portIdx p) (fid, egressStamp s p) } }

theorem wireStarted_spec (s : State) (p : Port) (c fid : Nat) (rest : List Nat) (d : Desc) :
    queueOf (wireStarted s p c fid rest d) p c = rest ∧
      tabGet (wireStarted s p c fid rest d).sw.onWire (portIdx p) = some (fid, egressStamp s p) ∧
      (isEthPort p = true → getF (wireStarted s p c fid rest d) (portPage p) F.PORT_TX_FRAMES = getF s (portPage p) F.PORT_TX_FRAMES) ∧
      (wireStarted s p c fid rest d).sw.frames = s.sw.frames ∧ (wireStarted s p c fid rest d).seq = s.seq := by
  obtain ⟨⟨w, hw⟩, hseq, hcount⟩ := portCharged_spec (setQueue s p c rest) p d
  refine ⟨?_, tabGet_tabSet_same .., hcount, ?_, hseq⟩
  · have hqueues : (wireStarted s p c fid rest d).sw.queues = (setQueue s p c rest).sw.queues := (congrArg SwitchSt.queues hw :)
    rw [queueOf, hqueues, ← queueOf, queueOf_setQueue_same]
  · exact (congrArg SwitchSt.frames hw :)

theorem startFrame_eth {s : State} {p : Port} {c fid : Nat} {rest : List Nat} {d : Desc} (heth : isEthPort p = true) (hd : tabGet s.sw.frames fid = some d) :
    ∃ g, startFrame (setQueue s p c rest) p fid = bump (emit (wireStarted s p c fid rest d) (.frame p g d.stomped)) (portPage p) F.PORT_TX_FRAMES := by
  have hm : p ≠ .m := by rintro rfl; cases heth
  have hd' : tabGet (setQueue s p c rest).sw.frames fid = some d := hd
  refine ⟨(egressFrame (setQueue s p c rest) p d).1, ?_⟩
  simp only [startFrame, hd', hm, heth, if_false, if_true]
  rfl

theorem startFrame_local {s : State} {c fid : Nat} {rest : List Nat} {d : Desc} (hd : tabGet s.sw.frames fid = some d) :
    ∃ g, startFrame (setQueue s .m c rest) .m fid = emit (wireStarted s .m c fid rest d) (.local g d.ingress d.rxTime) := by
  have hd' : tabGet (setQueue s .m c rest).sw.frames fid = some d := hd
  refine ⟨(egressFrame (setQueue s .m c rest) .m d).1, ?_⟩
  simp only [startFrame, hd', if_true]
  rfl

/-- An Ethernet port puts the head of its highest queue on the wire, and counts it. -/
theorem portSelect_eth {s : State} {p : Port} {c fid : Nat} {rest : List Nat} {d : Desc} (heth : isEthPort p = true)
    (hd : tabGet s.sw.frames fid = some d) :
    let u := startFrame (setQueue s p c rest) p fid
    queueOf u p c = rest ∧ tabGet u.sw.onWire (portIdx p) = some (fid, egressStamp s p) ∧ (∃ g, Out.frame p g d.stomped ∈ u.out) ∧
      getF u (portPage p) F.PORT_TX_FRAMES = (getF s (portPage p) F.PORT_TX_FRAMES + 1) % 2 ^ 32 ∧ u.sw.frames = s.sw.frames ∧ u.seq = s.seq := by
  obtain ⟨g, hg⟩ := startFrame_eth (c := c) (rest := rest) heth hd
  obtain ⟨hqueue, hwire, hcount, hframes, hseq⟩ := wireStarted_spec s p c fid rest d
  rw [hg]
  refine ⟨hqueue, hwire, ⟨g, ?_⟩, ?_, hframes, hseq⟩
  · simp [emit]
  · rw [getF_bump_same _ _ rfl rfl, ← hcount heth]
    rfl

/-- The processor port hands the head of its highest queue to this hub. -/
theorem portSelect_local {s : State} {c fid : Nat} {rest : List Nat} {d : Desc} (hd : tabGet s.sw.frames fid = some d) :
    let u := startFrame (setQueue s .m c rest) .m fid
    queueOf u .m c = rest ∧ tabGet u.sw.onWire (portIdx .m) = some (fid, egressStamp s .m) ∧ (∃ g, Out.local g d.ingress d.rxTime ∈ u.out) ∧
      u.sw.frames = s.sw.frames ∧ u.seq = s.seq := by
  obtain ⟨g, hg⟩ := startFrame_local (c := c) (rest := rest) hd
  obtain ⟨hqueue, hwire, -, hframes, hseq⟩ := wireStarted_spec s .m c fid rest d
  rw [hg]
  refine ⟨hqueue, hwire, ⟨g, ?_⟩, hframes, hseq⟩
  simp [emit]

/-- Settles O20: a burst of one record is stored before it leaves its furrow, and the head of the highest queue starts. -/
theorem framesLeave : Obligations.FramesLeave := by
  unfold Obligations.FramesLeave
  refine fun s ha => ⟨fun fl q st o g hfur ho hpf haged hsent hepoch hb hpair hflw hsvc hg hroom => ?_,
    fun p c fid rest d hw hopen hbp hc hq hd haged hbad => ?_⟩
  · have hg : g = oneReq (cleared s) fl q o := hg
    subst hg
    rw [← (frameSame_cleared s).poolRoom] at hroom
    have hleft : ∀ {t : State}, storeReq (cleared s) fl (oneDesc (cleared s) fl q st o) = some t → t.seq = (flowKept (cleared s) fl).seq →
        ∃ u, exec (.furrowRelease fl) s = .next (settle u) ∧ u.sw = t.sw ∧ u.ring = t.ring ∧ (flowOf u fl).furrow = [] ∧
          openAt (flowOf u fl) q = some { o with sent := true } ∧ (oldestOpen (flowOf s fl) = q → (flowOf u fl).timer = true) ∧
          (flowOf u fl).floorAdv = oldestOpen (flowOf s fl) := fun {t} hstore hseq => by
      obtain ⟨n, hrel⟩ := furrowRelease_one (s := cleared s) hfur ho hpf haged hsent hepoch hb hpair hflw hsvc hstore hseq
      obtain ⟨-, hsw, hring⟩ := burstCharged_kept t fl (frameLen (oneReq (cleared s) fl q o)) (burstSluices (cleared s) fl)
      refine completes_during ha rfl ?_
      rw [hrel, flowOf_setFlow_same]
      exact ⟨hsw, hring, rfl, openAt_sentFlow ho, sentFlow_timer s, rfl⟩
    refine ⟨fun hp => ?_, fun hp => ?_⟩
    · obtain ⟨t, hstore, hkept, id, d, hd, hframe, hloc, hlocal⟩ := storeReq_own (s := cleared s) (q := q) (st := st) (o := o) hp hroom
      obtain ⟨u, hexec, hsw, hring, hfurrow, hsentRec, htimer, hfloor⟩ := hleft hstore hkept.seq
      refine ⟨u, hexec, ⟨id, d, ?_, hframe, hloc, ?_⟩, hfurrow, hsentRec, htimer, hfloor, hring.trans hkept.beside.1⟩
      · rw [hsw, hd]
      · rw [hsw, hlocal]
        rfl
    · obtain ⟨t, hstore, hkept, hleaves⟩ := storeReq_ports (s := cleared s) (q := q) (st := st) (o := o) hp hroom
      obtain ⟨u, hexec, hsw, hring, hfurrow, hsentRec, htimer, hfloor⟩ := hleft hstore hkept.seq
      refine ⟨u, hexec, ?_, hring.trans hkept.beside.1, hfurrow, hsentRec, htimer, hfloor⟩
      have hqueues : ∀ p c, queueOf u p c = queueOf t p c := fun p c => by rw [queueOf, hsw, ← queueOf]
      have hl := (frameSame_cleared s).leaves hleaves
      simp only [Leaves, hsw, hqueues]
      exact hl
  · have hexec := exec_portSelect_idle ha hw hbp
    rw [portSelect_head (s := cleared s) hopen hc hq hd haged hbad] at hexec
    exact ⟨fun heth => ⟨_, hexec, portSelect_eth heth hd⟩, fun hm => by subst hm; exact ⟨_, hexec, portSelect_local hd⟩⟩

end Sys2Proof.Machine
end

section
/-! PROOFS. Power entry: FET faults, the power-fail warning, the checkpoint, BURN and the monitor (R127, R387, R393, R394, R397, R398, R402, R403). -/

namespace Sys2Proof.Machine

/-! ## The live fields of PWR.STAT (R397) -/

/-- The fields of PWR.STAT that an update of its live fields leaves alone. -/
def statHeld : List FieldD := [F.PWR_STAT_PG, F.PWR_STAT_ENHANCED, F.PWR_STAT_BOOT, F.PWR_STAT_RETRIES_LEFT, F.PWR_STAT_GATE_CYCLED]

/-- The registers that an update of the live fields may change. -/
def statKeys : List Nat := fKey Pg.pwr F.PWR_STAT_STATE :: fKey Pg.pwr F.PWR_PFW_ASSERTS :: irqKeys Pg.pwr

/-- `t` is `s` but for the live fields of PWR.STAT, outputs, and a warning counted and raised. -/
structure PwrFollowed (s t : State) : Prop where
  rest : beside t = beside s
  regs : SameRegs statKeys s t
  raw : ∀ b, (getW s Pg.pwr 0x10).getLsbD b = true → (getW t Pg.pwr 0x10).getLsbD b = true
  held : ∀ g ∈ statHeld, getF t Pg.pwr g = getF s Pg.pwr g

theorem PwrFollowed.trans {s t u : State} (a : PwrFollowed s t) (b : PwrFollowed t u) : PwrFollowed s u :=
  ⟨b.rest.trans a.rest, a.regs.trans b.regs, fun i hi => b.raw i (a.raw i hi), fun g hg => (b.held g hg).trans (a.held g hg)⟩

theorem getF_setF_stat54 (s : State) (v : Nat) {f g : FieldD} (hf : f.off + f.stride * 0 = 0x54) (hg : g.off + g.stride * 0 = 0x54)
    (h : f.lo + f.w ≤ g.lo ∨ g.lo + g.w ≤ f.lo) (hw : g.lo + g.w ≤ 32) : getF (setF s Pg.pwr f v) Pg.pwr g = getF s Pg.pwr g :=
  getF_setF_apart s Pg.pwr f g v 0 0 (hg.trans hf.symm) h hw

theorem statHeld_fields : ∀ g ∈ statHeld, g.off + g.stride * 0 = 0x54 ∧ g.lo + g.w ≤ 32 ∧
    ∀ f ∈ [F.PWR_STAT_STATE, F.PWR_STAT_COUNT, F.PWR_STAT_PFW, F.PWR_STAT_HOLDUP_OK], f.lo + f.w ≤ g.lo ∨ g.lo + g.w ≤ f.lo := by decide

/-- A live field of PWR.STAT is set. -/
theorem PwrFollowed.stat (s : State) {f : FieldD} (v : Nat) (hf : f ∈ [F.PWR_STAT_STATE, F.PWR_STAT_COUNT, F.PWR_STAT_PFW, F.PWR_STAT_HOLDUP_OK]) :
    PwrFollowed s (setF s Pg.pwr f v) := by
  have hoff : ∀ f ∈ [F.PWR_STAT_STATE, F.PWR_STAT_COUNT, F.PWR_STAT_PFW, F.PWR_STAT_HOLDUP_OK], f.off + f.stride * 0 = 0x54 := by decide
  have hkey : fKey Pg.pwr f = fKey Pg.pwr F.PWR_STAT_STATE := congrArg (regKey Pg.pwr) (hoff f hf)
  refine ⟨rfl, (SameRegs.refl _ s).setF (by rw [hkey]; exact List.mem_cons_self), fun b hb => ?_, fun g hg => ?_⟩
  · rw [setF, hoff f hf, getW_setW_ne _ _ (by decide)]
    exact hb
  · obtain ⟨hgo, hw, hgap⟩ := statHeld_fields g hg
    exact getF_setF_stat54 s v (hoff f hf) hgo (hgap f hf) hw

/-- STATE and COUNT of PWR.STAT are current. -/
def statLive (s : State) : State := setF (setF s Pg.pwr F.PWR_STAT_STATE (pwrState s)) Pg.pwr F.PWR_STAT_COUNT (pwrCount s / 100000)

/-- PFW asserts. -/
def pfwRaised (s : State) : State :=
  emit (irqEvent (bump (setB s Pg.pwr F.PWR_STAT_PFW true) Pg.pwr F.PWR_PFW_ASSERTS) Pg.pwr 2) (.ball "PFW" true)

/-- HOLDUP_OK is current. -/
def holdupSet (s : State) : State := setB s Pg.pwr F.PWR_STAT_HOLDUP_OK (!pwrPfw s && decide (8334 ≤ s.pwr.vinScans))

theorem sameRegs_statLive (s : State) : SameRegs [fKey Pg.pwr F.PWR_STAT_STATE] s (statLive s) :=
  ((SameRegs.refl _ s).setF (by decide)).setF (f := F.PWR_STAT_COUNT) (by decide)

theorem sameRegs_holdupSet (s : State) : SameRegs [fKey Pg.pwr F.PWR_STAT_STATE] s (holdupSet s) :=
  (SameRegs.refl _ s).setB (f := F.PWR_STAT_HOLDUP_OK) (by decide)

theorem followed_statLive (s : State) : PwrFollowed s (statLive s) :=
  (PwrFollowed.stat s _ (by simp)).trans (.stat _ _ (by simp))

theorem followed_holdupSet (s : State) : PwrFollowed s (holdupSet s) := .stat s _ (by simp)

theorem followed_pfwRaised (s : State) : PwrFollowed s (pfwRaised s) := by
  have hirq : ∀ k ∈ irqKeys Pg.pwr, k ∈ statKeys := fun k hk => List.mem_cons_of_mem _ (List.mem_cons_of_mem _ hk)
  have hbump : ∀ t, PwrFollowed t (bump t Pg.pwr F.PWR_PFW_ASSERTS) := fun t =>
    ⟨rfl, (SameRegs.refl _ t).bump (by simp [statKeys]), fun b hb => by rw [bump, setF, getW_setW_ne _ _ (by decide)]; exact hb, fun g hg => by
      obtain ⟨hoff, -⟩ := statHeld_fields g hg
      exact getF_bump_ne t (by rw [fKey, hoff]; decide)⟩
  have hraise : ∀ t, PwrFollowed t (irqEvent t Pg.pwr 2) := fun t =>
    ⟨beside_irqEvent .., (SameRegs.refl _ t).irqEvent (hirq _ (by simp [irqKeys])) (hirq _ (by simp [irqKeys])),
      fun b hb => by rw [getW_irqEvent_raw, BitVec.getLsbD_or, hb, Bool.true_or], fun g hg => by
        obtain ⟨hoff, -⟩ := statHeld_fields g hg
        exact getF_irqEvent_body _ _ _ _ (by rw [hoff]; decide) (by rw [hoff]; decide)⟩
  have hemit : ∀ t o, PwrFollowed t (emit t o) := fun t _ => ⟨rfl, .refl _ t, fun _ hb => hb, fun _ _ => rfl⟩
  exact (((PwrFollowed.stat s _ (by simp)).trans (hbump _)).trans (hraise _)).trans (hemit ..)

theorem pwr_of_beside {s t : State} (h : beside s = beside t) : s.pwr = t.pwr := show (beside s).pwr = (beside t).pwr from h ▸ rfl

theorem PwrFollowed.pwr {s t : State} (a : PwrFollowed s t) : t.pwr = s.pwr := pwr_of_beside a.rest

theorem PwrFollowed.heldB {s t : State} (a : PwrFollowed s t) {g : FieldD} (hg : g ∈ statHeld) : getB t Pg.pwr g = getB s Pg.pwr g :=
  congrArg (· != 0) (a.held g hg)

/-- Of the other registers, nothing follows the live fields. -/
theorem PwrFollowed.getF {s t : State} (a : PwrFollowed s t) {p : Nat} {g : FieldD} {i : Nat} (h : fKey p g i ∉ statKeys) :
    Machine.getF t p g i = Machine.getF s p g i := a.regs.getF h

theorem PwrFollowed.getB {s t : State} (a : PwrFollowed s t) {p : Nat} {g : FieldD} {i : Nat} (h : fKey p g i ∉ statKeys) :
    Machine.getB t p g i = Machine.getB s p g i := congrArg (· != 0) (a.getF h)

/-- No register of page MON follows the live fields. -/
theorem PwrFollowed.mon {s t : State} (a : PwrFollowed s t) (g : FieldD) (i : Nat) : Machine.getF t Pg.mon g i = Machine.getF s Pg.mon g i := by
  refine a.getF ?_
  simp only [statKeys, irqKeys, fKey, regKey, Pg.mon, Pg.pwr, F.PWR_STAT_STATE, F.PWR_PFW_ASSERTS, List.mem_cons, List.not_mem_nil, or_false, not_or]
  omega

theorem PwrFollowed.cause {s t : State} (a : PwrFollowed s t) : pfwCause t = pfwCause s := by
  have hmon : monPfw t = monPfw s := by simp only [monPfw, Machine.getB, a.mon]
  have hpg : pwrPg t = pwrPg s := a.heldB (by simp [statHeld])
  rw [pfwCause, a.pwr, hmon, hpg, ← pfwCause]

theorem pwrPfw_statLive (s : State) : pwrPfw (statLive s) = pwrPfw s :=
  congrArg (· != 0) ((getF_setF_stat54 _ _ rfl rfl (by decide) (by decide)).trans (getF_setF_stat54 _ _ rfl rfl (by decide) (by decide)))

theorem pwrPfw_holdupSet (s : State) : pwrPfw (holdupSet s) = pwrPfw s := congrArg (· != 0) (getF_setF_stat54 _ _ rfl rfl (by decide) (by decide))

/-- PFW asserts with this update. -/
def warns (s : State) : Bool := s.pwr.run && pfwCause s && !pwrPfw s

theorem pwrUpdate_eq (s : State) : pwrUpdate s = holdupSet (if warns s then pfwRaised (statLive s) else statLive s) := by
  have hwarns : ((statLive s).pwr.run && pfwCause (statLive s) && !pwrPfw (statLive s)) = warns s := by
    rw [(followed_statLive s).pwr, (followed_statLive s).cause, pwrPfw_statLive, ← warns]
  rw [← hwarns]
  rfl

theorem pwrUpdate_quiet {s : State} (h : warns s = false) : pwrUpdate s = holdupSet (statLive s) := by
  rw [pwrUpdate_eq, h, if_neg Bool.false_ne_true]

theorem pwrUpdate_warns {s : State} (h : warns s = true) : pwrUpdate s = holdupSet (pfwRaised (statLive s)) := by
  rw [pwrUpdate_eq, h, if_pos rfl]

theorem followed_pwrUpdate (s : State) : PwrFollowed s (pwrUpdate s) := by
  rw [pwrUpdate_eq]
  split
  · exact ((followed_statLive s).trans (followed_pfwRaised _)).trans (followed_holdupSet _)
  · exact (followed_statLive s).trans (followed_holdupSet _)

/-- Where PFW stands as it is, an update emits and counts nothing. -/
theorem pwrUpdate_quiet_spec {s : State} (h : warns s = false) : pwrPfw (pwrUpdate s) = pwrPfw s ∧ (pwrUpdate s).out = s.out ∧
    getF (pwrUpdate s) Pg.pwr F.PWR_PFW_ASSERTS = getF s Pg.pwr F.PWR_PFW_ASSERTS := by
  rw [pwrUpdate_quiet h]
  refine ⟨(pwrPfw_holdupSet _).trans (pwrPfw_statLive s), rfl, ?_⟩
  exact ((sameRegs_statLive s).trans (sameRegs_holdupSet _)).getF (by decide)

/-- PFW asserts with its first cause: it is counted and leaves, and HOLDUP_OK falls (R397). -/
theorem pwrUpdate_warns_spec {s : State} (h : warns s = true) : pwrPfw (pwrUpdate s) = true ∧ getB (pwrUpdate s) Pg.pwr F.PWR_STAT_HOLDUP_OK = false ∧
    .ball "PFW" true ∈ (pwrUpdate s).out ∧ getF (pwrUpdate s) Pg.pwr F.PWR_PFW_ASSERTS = (getF s Pg.pwr F.PWR_PFW_ASSERTS + 1) % 2 ^ 32 := by
  rw [pwrUpdate_warns h]
  have hpfw : pwrPfw (pfwRaised (statLive s)) = true := by
    have hset : getB (setB (statLive s) Pg.pwr F.PWR_STAT_PFW true) Pg.pwr F.PWR_STAT_PFW = true := getB_setB_same _ _ _ _ _ (by decide) rfl
    exact (congrArg (· != 0) ((getF_irqEvent_body _ _ _ _ (by decide) (by decide)).trans (getF_bump_ne _ (by decide)))).trans hset
  refine ⟨(pwrPfw_holdupSet _).trans hpfw, ?_, ?_, ?_⟩
  · rw [holdupSet, hpfw]
    exact getB_setB_same _ _ _ _ _ (by decide) rfl
  · show _ ∈ (pfwRaised (statLive s)).out
    simp [pfwRaised, emit]
  · have hlive : SameRegs [fKey Pg.pwr F.PWR_STAT_STATE] s (setB (statLive s) Pg.pwr F.PWR_STAT_PFW true) :=
      (sameRegs_statLive s).setB (f := F.PWR_STAT_PFW) (by decide)
    have hcount : getF (pfwRaised (statLive s)) Pg.pwr F.PWR_PFW_ASSERTS = (getF s Pg.pwr F.PWR_PFW_ASSERTS + 1) % 2 ^ 32 := by
      refine (getF_irqEvent_body _ _ _ _ (by decide) (by decide)).trans ?_
      rw [getF_bump_same _ _ rfl rfl, hlive.getF (by decide)]
    rw [(sameRegs_holdupSet _).getF (by decide), hcount]

/-! ## Faults of the FET and the gate (R393, R394) -/

/-- The registers that a report of a fault of the FET changes. -/
def fetKeys : List Nat := regKey Pg.pwr 0x58 :: fKey Pg.pwr F.PWR_FET_FAULTS :: irqKeys Pg.pwr

/-- A fault of the FET is latched, counted and raised (R394). -/
theorem fetFault_spec (s : State) {f : FieldD} (hoff : f.off + f.stride * 0 = 0x58) (hw : f.w = 1) (hlo : f.lo + f.w ≤ 32) :
    getB (fetFault s f) Pg.pwr f = true ∧ (getW (fetFault s f) Pg.pwr 0x10).getLsbD 4 = true ∧
      getF (fetFault s f) Pg.pwr F.PWR_FET_FAULTS = (getF s Pg.pwr F.PWR_FET_FAULTS + 1) % 2 ^ 32 ∧ SameRegs fetKeys s (fetFault s f) ∧
      beside (fetFault s f) = beside s := by
  have hkey : fKey Pg.pwr f = regKey Pg.pwr 0x58 := by rw [fKey, hoff]
  have hset : getF (setB s Pg.pwr f true) Pg.pwr F.PWR_FET_FAULTS = getF s Pg.pwr F.PWR_FET_FAULTS := by
    refine getF_setF_ne _ _ _ _ _ _ ?_
    rw [hoff]
    decide
  refine ⟨?_, ?_, ?_, ?_, by simp [fetFault]⟩
  · have hkept : getF (fetFault s f) Pg.pwr f = getF (setB s Pg.pwr f true) Pg.pwr f := by
      refine (getF_irqEvent_body _ _ _ _ (by rw [hoff]; decide) (by rw [hoff]; decide)).trans (getF_bump_ne _ ?_)
      rw [hkey]
      decide
    exact (congrArg (· != 0) hkept).trans (getB_setB_same _ _ _ _ _ hlo hw)
  · rw [fetFault, getW_irqEvent_raw, BitVec.getLsbD_or]
    simp
  · rw [fetFault, getF_irqEvent_body _ _ _ _ (by decide) (by decide), getF_bump_same _ _ rfl rfl, hset]
  · exact (((SameRegs.refl _ s).setB (by rw [hkey]; decide)).bump (by decide)).irqEvent (by decide) (by decide)

/-- A fault that has been reported stays so while the live fields follow. -/
theorem PwrFollowed.fault {s t : State} (a : PwrFollowed s t) {f : FieldD} (hoff : f.off + f.stride * 0 = 0x58) :
    Machine.getB t Pg.pwr f = Machine.getB s Pg.pwr f :=
  a.getB (by rw [fKey, hoff]; decide)

/-- GATE_WEAK is reported, and the gate stays as it is (R393). -/
theorem gateWeak_spec {s : State} (hg : s.pwr.gate = true) (hl : s.pwr.lim = false) (he : pwrEnhanced s = false) :
    getB (gateWeak s) Pg.pwr F.PWR_FAULT_GATE_WEAK = true ∧ getF (gateWeak s) Pg.pwr F.PWR_FET_FAULTS = (getF s Pg.pwr F.PWR_FET_FAULTS + 1) % 2 ^ 32 ∧
      (gateWeak s).pwr = s.pwr ∧ pwrPg (gateWeak s) = pwrPg s := by
  have heq : gateWeak s = pwrUpdate (fetFault s F.PWR_FAULT_GATE_WEAK) := by simp only [gateWeak, hg, hl, he, Bool.not_false, Bool.and_self, if_true]
  obtain ⟨hfault, -, hcount, hregs, hrest⟩ := fetFault_spec s (f := F.PWR_FAULT_GATE_WEAK) rfl rfl (by decide)
  have hfollow := followed_pwrUpdate (fetFault s F.PWR_FAULT_GATE_WEAK)
  rw [heq]
  refine ⟨(hfollow.fault rfl).trans hfault, (hfollow.getF (by decide)).trans hcount, hfollow.pwr.trans (pwr_of_beside hrest), ?_⟩
  exact (hfollow.heldB (by simp [statHeld])).trans (congrArg (· != 0) (hregs.getF (by decide)))

/-- Where nothing holds the gate off, its ramp starts (R388). -/
theorem rampStart_free {s : State} (h : gateFree s = true) : (rampStart s).pwr = { s.pwr with gate := true, retryDue := false } ∧
    SameRegs statKeys s (rampStart s) ∧ ∀ b, (getW s Pg.pwr 0x10).getLsbD b = true → (getW (rampStart s) Pg.pwr 0x10).getLsbD b = true := by
  have hstart : ∀ a : State, a.pwr = s.pwr → SameRegs statKeys s a → getW a Pg.pwr 0x10 = getW s Pg.pwr 0x10 →
      (pwrUpdate (setPwr a { a.pwr with gate := true, retryDue := false })).pwr = { s.pwr with gate := true, retryDue := false } ∧
        SameRegs statKeys s (pwrUpdate (setPwr a { a.pwr with gate := true, retryDue := false })) ∧
        ∀ b, (getW s Pg.pwr 0x10).getLsbD b = true →
          (getW (pwrUpdate (setPwr a { a.pwr with gate := true, retryDue := false })) Pg.pwr 0x10).getLsbD b = true := fun a hpwr hregs hraw => by
    have hfollow := followed_pwrUpdate (setPwr a { a.pwr with gate := true, retryDue := false })
    refine ⟨hfollow.pwr.trans ?_, (hregs.of_eq rfl).trans hfollow.regs, fun b hb => hfollow.raw b ((congrArg (·.getLsbD b) hraw).trans hb)⟩
    rw [← hpwr]
    rfl
  rw [rampStart, if_pos h]
  dsimp only
  split
  · exact hstart _ rfl ((SameRegs.refl _ s).setF (by decide)) (getW_setW_ne _ _ (by decide))
  · exact hstart s rfl (.refl _ s) rfl

/-- A FET that is short lets the gate ramp with DS_RUN 1 (R394). -/
theorem dsShort_run_spec {s : State} (hr : s.pwr.run = true) (hg : s.pwr.gate = false) (hds : getB s Pg.pwr F.PWR_CFG_DS_RUN = true) (hov : s.pwr.ov = false)
    (ht : s.pwr.tsd = false) (hl : s.pwr.latched = false) : getB (dsShort s) Pg.pwr F.PWR_FAULT_DS_SHORT = true ∧
      (getW (dsShort s) Pg.pwr 0x10).getLsbD 4 = true ∧ (dsShort s).pwr = { s.pwr with off := false, dsOff := false, gate := true, retryDue := false } := by
  obtain ⟨hfault, hraw, -, hregs, hrest⟩ := fetFault_spec s (f := F.PWR_FAULT_DS_SHORT) rfl rfl (by decide)
  have hds1 : getB (fetFault s F.PWR_FAULT_DS_SHORT) Pg.pwr F.PWR_CFG_DS_RUN = true := (congrArg (· != 0) (hregs.getF (by decide))).trans hds
  have hpwr := pwr_of_beside hrest
  have heq : dsShort s = pwrUpdate (rampStart (setPwr (fetFault s F.PWR_FAULT_DS_SHORT)
      { (fetFault s F.PWR_FAULT_DS_SHORT).pwr with off := false, dsOff := false })) := by
    simp only [dsShort, hr, hg, hds1, Bool.not_false, Bool.and_self, if_true]
  rw [heq, hpwr]
  generalize fetFault s F.PWR_FAULT_DS_SHORT = x at hfault hraw
  have hfree : gateFree (setPwr x { s.pwr with off := false, dsOff := false }) = true := by simp [gateFree, setPwr, hr, hg, hov, ht, hl]
  obtain ⟨hrpwr, hrregs, hrraw⟩ := rampStart_free hfree
  have hfollow := followed_pwrUpdate (rampStart (setPwr x { s.pwr with off := false, dsOff := false }))
  have hstill : getB (rampStart (setPwr x { s.pwr with off := false, dsOff := false })) Pg.pwr F.PWR_FAULT_DS_SHORT = getB x Pg.pwr F.PWR_FAULT_DS_SHORT :=
    congrArg (· != 0) (hrregs.getF (by decide))
  exact ⟨(hfollow.fault rfl).trans (hstill.trans hfault), hfollow.raw 4 (hrraw 4 hraw), hfollow.pwr.trans hrpwr⟩

/-- A FET that is short keeps the gate off with DS_RUN 0 (R394). -/
theorem dsShort_off_spec {s : State} (hr : s.pwr.run = true) (hg : s.pwr.gate = false) (hds : getB s Pg.pwr F.PWR_CFG_DS_RUN = false) :
    getB (dsShort s) Pg.pwr F.PWR_FAULT_DS_SHORT = true ∧ (getW (dsShort s) Pg.pwr 0x10).getLsbD 4 = true ∧
      getB (dsShort s) Pg.pwr F.PWR_STAT_GATE_CYCLED = true ∧ (dsShort s).pwr = { s.pwr with dsOff := true } := by
  obtain ⟨hfault, hraw, -, hregs, hrest⟩ := fetFault_spec s (f := F.PWR_FAULT_DS_SHORT) rfl rfl (by decide)
  have hds1 : getB (fetFault s F.PWR_FAULT_DS_SHORT) Pg.pwr F.PWR_CFG_DS_RUN = false := (congrArg (· != 0) (hregs.getF (by decide))).trans hds
  have hpwr := pwr_of_beside hrest
  have heq : dsShort s = pwrUpdate (setPwr (setB (fetFault s F.PWR_FAULT_DS_SHORT) Pg.pwr F.PWR_STAT_GATE_CYCLED true)
      { (fetFault s F.PWR_FAULT_DS_SHORT).pwr with dsOff := true }) := by
    simp only [dsShort, hr, hg, hds1, Bool.not_false, Bool.and_self, if_true, Bool.false_eq_true, if_false]
  rw [heq, hpwr]
  generalize fetFault s F.PWR_FAULT_DS_SHORT = x at hfault hraw
  have hset : SameRegs [fKey Pg.pwr F.PWR_STAT_GATE_CYCLED] x (setPwr (setB x Pg.pwr F.PWR_STAT_GATE_CYCLED true) { s.pwr with dsOff := true }) :=
    ((SameRegs.refl _ x).setB List.mem_cons_self).of_eq rfl
  have hcycled : getB (setPwr (setB x Pg.pwr F.PWR_STAT_GATE_CYCLED true) { s.pwr with dsOff := true }) Pg.pwr F.PWR_STAT_GATE_CYCLED = true :=
    getB_setB_same _ _ _ _ _ (by decide) rfl
  have hfollow := followed_pwrUpdate (setPwr (setB x Pg.pwr F.PWR_STAT_GATE_CYCLED true) { s.pwr with dsOff := true })
  refine ⟨(hfollow.fault rfl).trans ((congrArg (· != 0) (hset.getF (by decide))).trans hfault), hfollow.raw 4 ?_,
    (hfollow.heldB (by simp [statHeld])).trans hcycled, hfollow.pwr⟩
  rw [hset.getW (by decide), hraw]

/-! ## The power-fail warning (R397, R398) -/

theorem vinLow_eq {s : State} (hr : s.pwr.run = true) : vinLow s = pwrUpdate (setPwr s { s.pwr with low := true }) := if_pos hr

/-- A low VIN is a cause of PFW. -/
theorem cause_low (s : State) : pfwCause (setPwr s { s.pwr with low := true }) = true := by simp [pfwCause, setPwr]

/-- A low VIN asserts PFW where it is not asserted. -/
theorem vinLow_asserts {s : State} (hr : s.pwr.run = true) (hp : pwrPfw s = false) : (vinLow s).pwr = { s.pwr with low := true } ∧ pwrPfw (vinLow s) = true ∧
    getB (vinLow s) Pg.pwr F.PWR_STAT_HOLDUP_OK = false ∧ .ball "PFW" true ∈ (vinLow s).out ∧
    getF (vinLow s) Pg.pwr F.PWR_PFW_ASSERTS = (getF s Pg.pwr F.PWR_PFW_ASSERTS + 1) % 2 ^ 32 := by
  have hp' : pwrPfw (setPwr s { s.pwr with low := true }) = false := hp
  have hrun : (setPwr s { s.pwr with low := true }).pwr.run = true := hr
  have hwarn : warns (setPwr s { s.pwr with low := true }) = true := by rw [warns, hp', cause_low, hrun]; rfl
  rw [vinLow_eq hr]
  exact ⟨(followed_pwrUpdate _).pwr, pwrUpdate_warns_spec hwarn⟩

/-- A low VIN changes nothing more where PFW is asserted already. -/
theorem vinLow_again {s : State} (hr : s.pwr.run = true) (hp : pwrPfw s = true) : (vinLow s).pwr = { s.pwr with low := true } ∧ pwrPfw (vinLow s) = true ∧
    (vinLow s).out = s.out ∧ getF (vinLow s) Pg.pwr F.PWR_PFW_ASSERTS = getF s Pg.pwr F.PWR_PFW_ASSERTS := by
  have hp' : pwrPfw (setPwr s { s.pwr with low := true }) = true := hp
  have hquiet : warns (setPwr s { s.pwr with low := true }) = false := by rw [warns, hp', Bool.not_true, Bool.and_false]
  obtain ⟨hpfw, hout, hcount⟩ := pwrUpdate_quiet_spec hquiet
  rw [vinLow_eq hr]
  exact ⟨(followed_pwrUpdate _).pwr, hpfw.trans hp', hout, hcount⟩

/-- PFW deasserts once its last cause is gone (R398). -/
theorem pfwEnd_spec {s : State} (hr : s.pwr.run = true) (hp : pwrPfw s = true) (hc : pfwCause (setPwr s { s.pwr with low := false }) = false) :
    (pfwEnd s).pwr = { s.pwr with low := false } ∧ pwrPfw (pfwEnd s) = false ∧ .ball "PFW" false ∈ (pfwEnd s).out := by
  have heq : pfwEnd s = pwrUpdate (emit (setB (setPwr s { s.pwr with low := false }) Pg.pwr F.PWR_STAT_PFW false) (.ball "PFW" false)) :=
    if_pos (by rw [hc, hp, hr]; rfl)
  have hfollow : PwrFollowed (setPwr s { s.pwr with low := false }) (setB (setPwr s { s.pwr with low := false }) Pg.pwr F.PWR_STAT_PFW false) := .stat _ _ (by simp)
  have hclear : pwrPfw (setB (setPwr s { s.pwr with low := false }) Pg.pwr F.PWR_STAT_PFW false) = false := getB_setB_same _ _ _ _ _ (by decide) rfl
  have hcause := hfollow.cause.trans hc
  rw [heq]
  generalize setB (setPwr s { s.pwr with low := false }) Pg.pwr F.PWR_STAT_PFW false = x at hfollow hclear hcause
  have hcause' : pfwCause (emit x (.ball "PFW" false)) = false := hcause
  have hquiet : warns (emit x (.ball "PFW" false)) = false := by rw [warns, hcause', Bool.and_false, Bool.false_and]
  obtain ⟨hpfw, hout, -⟩ := pwrUpdate_quiet_spec hquiet
  exact ⟨(followed_pwrUpdate _).pwr.trans hfollow.pwr, hpfw.trans hclear, by rw [hout]; simp [emit]⟩

/-! ## The power-fail checkpoint (R127) -/

/-- The registers that a note of wear changes. -/
def wearKeys : List Nat := fKey Pg.chs F.CHS_WEAR_WORST :: irqKeys Pg.chs

theorem sameRegs_wearNote (s : State) : SameRegs wearKeys s (wearNote s) := by
  have hset : SameRegs wearKeys s (setF (setF (freshVal s 16).2 Pg.chs F.CHS_WEAR_WORST ((freshVal s 16).1 % 2 ^ 14)) Pg.chs F.CHS_WEAR_AREA
      ((freshVal s 16).1 / 2 ^ 14)) := (((SameRegs.refl _ s).of_eq rfl).setF (by decide)).setF (f := F.CHS_WEAR_AREA) (by decide)
  unfold wearNote
  dsimp only
  split
  · exact hset.irqEvent (by decide) (by decide)
  · exact hset

/-- The hub with its image in the chest, before the checkpoint is marked complete. -/
def ckptStored (s : State) : State :=
  wearNote { (ckptSize s).2 with start := { (ckptSize s).2.start with ckpt := some (flowImage s), limits := limitLog s } }

theorem checkpointDone_eq {s : State} (h : getF s Pg.chs F.CHS_STAT_CKPT = 3) : checkpointDone s =
    setF (bump (setF (ckptStored s) Pg.chs F.CHS_STAT_CKPT 1) Pg.chs F.CHS_CKPTS) Pg.seq F.SEQ_START_CKPT_KIB (ckptSize s).1 :=
  if_neg (not_not_intro h)

/-- A checkpoint that completes stores the image of the flows, and its size keeps its bound. -/
theorem checkpointDone_spec {s : State} (h : getF s Pg.chs F.CHS_STAT_CKPT = 3) : getF (checkpointDone s) Pg.chs F.CHS_STAT_CKPT = 1 ∧
    getF (checkpointDone s) Pg.chs F.CHS_CKPTS = (getF s Pg.chs F.CHS_CKPTS + 1) % 2 ^ 32 ∧ (checkpointDone s).start.ckpt = some (flowImage s) ∧
    getF (checkpointDone s) Pg.seq F.SEQ_START_CKPT_KIB ≤ 816 ∧ (checkpointDone s).seq = s.seq := by
  obtain ⟨-, hseq, hstart, -, -⟩ := wearNote_kept { (ckptSize s).2 with start := { (ckptSize s).2.start with ckpt := some (flowImage s), limits := limitLog s } }
  have hwear : SameRegs wearKeys s (ckptStored s) := ((SameRegs.refl _ s).of_eq rfl).trans (sameRegs_wearNote _)
  rw [← ckptStored] at hseq hstart
  rw [checkpointDone_eq h]
  refine ⟨?_, ?_, congrArg StartSt.ckpt hstart, ?_, hseq⟩
  · rw [getF_setF_ne _ _ _ _ _ _ (by decide), getF_bump_ne _ (by decide), getF_setF_same _ _ _ _ _ (by decide)]
    rfl
  · rw [getF_setF_ne _ _ _ _ _ _ (by decide), getF_bump_same _ _ rfl rfl, getF_setF_ne _ _ _ _ _ _ (by decide), hwear.getF (by decide)]
  · rw [getF_setF_same _ _ _ _ _ (by decide)]
    exact (Nat.mod_le _ _).trans (Nat.min_le_right _ _)

/-! ## BURN (R387) -/

/-- A write of PWR.CMD with BURN set is a BURN. -/
theorem judged_burn {s : State} {who : Agent} {v : Word} (hl : lockAllows s Pg.pwr 0x5C v = true) (hv : v.getLsbD 0 = true) :
    judged s who Pg.pwr 0x5C v = pwrBurn s := by
  refine judged_command (by decide) (by decide) hl ?_
  rw [if_pos (by decide), fieldCmd, if_pos rfl, if_pos rfl, if_pos hv]

/-- The first BURN takes the settings into OTP. -/
theorem pwrBurn_first {s : State} (h : s.pwr.otp = none) : pwrBurn s = ((St.ok, 0),
    setB (setPwr s { s.pwr with otp := some (getW s Pg.pwr 0x40, getW s Pg.pwr 0x44, getW s Pg.pwr 0x48, getW s Pg.pwr 0x4C) }) Pg.pwr F.PWR_BOOT_BURNT true) := by
  rw [pwrBurn, if_neg (by rw [h]; exact Bool.false_ne_true)]

/-- A second BURN is refused. -/
theorem pwrBurn_again {s : State} (h : s.pwr.otp ≠ none) : pwrBurn s = ((St.targetErr, 0x40), noteErr s Pg.pwr St.targetErr 0x40 0x17) :=
  if_pos (Option.isSome_iff_ne_none.mpr h)

theorem completes_burn_first {s : State} {who : Agent} {v : Word} (h : writeTaken s who Pg.pwr 0x5C v = true) (hv : v.getLsbD 0 = true)
    (ho : s.pwr.otp = none) : ∃ u, exec (.pwrBurn who v) s = .next (settle u) ∧
      u.pwr = { s.pwr with otp := some (getW s Pg.pwr 0x40, getW s Pg.pwr 0x44, getW s Pg.pwr 0x48, getW s Pg.pwr 0x4C) } ∧
      getB u Pg.pwr F.PWR_BOOT_BURNT = true := by
  simp only [writeTaken, Bool.and_eq_true] at h
  obtain ⟨⟨hreach, hlock⟩, -⟩ := h
  have hj := (judged_burn (s := accNext (cleared s)) (who := who) hlock hv).trans (pwrBurn_first ho)
  refine completes_write hreach rfl rfl hj fun u hu hb _ => ⟨pwr_of_beside hb, ?_⟩
  rw [getB_of_regs hu]
  exact getB_setB_same _ _ _ _ _ (by decide) rfl

/-- The registers that the end of an access may change. -/
def endKeys : List Nat := fKey Pg.brg F.BRG_UR_SENT :: fKey Pg.brg F.BRG_CA_SENT :: fKey Pg.brg F.BRG_ERRLOG_OVF_COUNT :: irqKeys Pg.brg

/-- The end of an access changes what page BRG counts and logs, and outputs. -/
theorem accEnd_kept (s : State) (who : Agent) (id status cause : Nat) (d : List Byte) (e : Exec) :
    SameRegs endKeys s (accEnd s who id status cause d e) ∧ (accEnd s who id status cause d e).pwr = s.pwr := by
  unfold accEnd errLog
  dsimp only
  split
  · split
    · exact ⟨(SameRegs.refl _ s).of_eq rfl, rfl⟩
    split
    · exact ⟨(((SameRegs.refl _ s).of_eq rfl).bump (f := F.BRG_UR_SENT) (by decide)).of_eq rfl, rfl⟩
    · exact ⟨(((SameRegs.refl _ s).of_eq rfl).bump (f := F.BRG_CA_SENT) (by decide)).of_eq rfl, rfl⟩
  · split
    · exact ⟨(SameRegs.refl _ s).of_eq rfl, rfl⟩
    split
    · split
      · exact ⟨(SameRegs.refl _ s).of_eq rfl, rfl⟩
      · have hcount : SameRegs endKeys s (bumpSat (emit s (.access who status cause)) Pg.brg F.BRG_ERRLOG_OVF_COUNT) :=
          ((SameRegs.refl _ s).of_eq rfl).bumpSat (by decide)
        exact ⟨hcount.irqEvent (by decide) (by decide), by simp⟩
    · exact ⟨(SameRegs.refl _ s).of_eq rfl, rfl⟩

theorem getW_noteErr_raw (s : State) (p st c r : Nat) : (getW (noteErr s p st c r) p 0x10).getLsbD 1 = true := by
  have hraise : ∀ t, (getW (irqEvent t p 1) p 0x10).getLsbD 1 = true := fun t => by
    rw [getW_irqEvent_raw, BitVec.getLsbD_or]
    simp
  unfold noteErr recordErr
  dsimp only
  split
  · exact hraise _
  · rw [getW_setW_ne _ _ (regKey_off_ne (by decide)), hraise]

theorem writeReaches_alive {s : State} {who : Agent} {p off : Nat} (h : writeReaches s who p off = true) : alive s = true := by
  simp only [writeReaches, Bool.and_eq_true] at h
  obtain ⟨⟨⟨⟨hreach, -⟩, -⟩, -⟩, -⟩ := h
  exact (accReaches_spec hreach).1

theorem completes_burn_again {s : State} {who : Agent} {v : Word} (h : writeReaches s who Pg.pwr 0x5C = true) (hl : lockAllows s Pg.pwr 0x5C v = true)
    (hv : v = 1#32) (ho : s.pwr.otp ≠ none) : ∃ u, exec (.pwrBurn who v) s = .next (settle u) ∧ u.pwr = s.pwr ∧
      (getW u Pg.pwr 0x10).getLsbD 1 = true ∧ getF u Pg.pwr F.ERR_COUNT_COUNT = min (getF s Pg.pwr F.ERR_COUNT_COUNT + 1) (2 ^ 32 - 1) := by
  have hj := (judged_burn (s := accNext (cleared s)) (who := who) hl (by rw [hv]; rfl)).trans (pwrBurn_again ho)
  have hend := ownWrite_reaches (v := v) h
  rw [hj] at hend
  obtain ⟨hregs, hpwr⟩ := accEnd_kept (noteErr (accNext (cleared s)) Pg.pwr St.targetErr 0x40 0x17) who s.cul.accId St.targetErr 0x40 []
    (accExec 2 Pg.pwr 0x5C 4 (leBytes 4 v.toNat))
  refine completes_during (writeReaches_alive h) rfl ?_
  rw [hend]
  refine ⟨hpwr.trans (noteErr_pwr ..), ?_, ?_⟩
  · rw [hregs.getW (by decide)]
    exact getW_noteErr_raw ..
  · rw [hregs.getF (by decide)]
    exact getF_noteErr_count (accNext (cleared s)) ..

/-! ## The monitor (R402, R403) -/

/-- A power of two taken away where its bit is set clears that bit and no other. -/
theorem testBit_sub_two_pow {a i : Nat} (j : Nat) (h : a.testBit i = true) : (a - 2 ^ i).testBit j = (a.testBit j && !decide (i = j)) := by
  obtain ⟨b, rfl⟩ := Nat.exists_eq_add_of_le (Nat.ge_two_pow_of_testBit h)
  rw [Nat.testBit_two_pow_add_eq, Bool.not_eq_true'] at h
  rw [Nat.add_sub_cancel_left, Nat.add_comm, testBit_add_two_pow j h]
  by_cases hij : i = j
  · subst hij
    simp [h]
  · simp [hij]

/-- A conversion lies outside the window of its channel (R403). -/
def monBad (s : State) (c v : Nat) : Bool := decide (v < getF s Pg.mon F.MON_WIN_LO c) || decide (getF s Pg.mon F.MON_WIN_HI c < v)

/-- The registers that a conversion of channel `c` may change. -/
def monKeys (c : Nat) : List Nat :=
  fKey Pg.mon F.MON_VAL_VAL c :: fKey Pg.mon F.MON_OUT_OUT :: fKey Pg.mon F.MON_OUT_SEEN_SEEN :: fKey Pg.mon F.MON_EXCURSIONS :: irqKeys Pg.mon

/-- How many scans in a row channel `c` has stood on the other side of its window, with this conversion. -/
def monRun (s : State) (c v : Nat) : Nat := if monBad s c v = (getF s Pg.mon F.MON_OUT_OUT).testBit c then 0 else s.pwr.scans.getD c 0 + 1

/-- Channel `c` leaves or returns to its window with this conversion. -/
def monFlips (s : State) (c v : Nat) : Bool :=
  monBad s c v != (getF s Pg.mon F.MON_OUT_OUT).testBit c && decide (getF s Pg.mon F.MON_CTL_FILT ≤ monRun s c v)

/-- The conversion of channel `c` is taken, and its run of scans. -/
def monTaken (s : State) (c v : Nat) : State :=
  setPwr (setF s Pg.mon F.MON_VAL_VAL v c) { s.pwr with
    scans := (List.range 12).map fun k => if k = c then (if monFlips s c v then 0 else monRun s c v) else s.pwr.scans.getD k 0 }

theorem monChannel_stays {s : State} {c v : Nat} (h : monFlips s c v = false) : monChannel s c v = monTaken s c v :=
  if_pos (by rw [← Bool.not_eq_true'] at h; exact h)

theorem monChannel_leaves {s : State} {c v : Nat} (h : monFlips s c v = true) (hb : monBad s c v = true) : monChannel s c v =
    irqEvent (bump (setF (setF (monTaken s c v) Pg.mon F.MON_OUT_OUT (getF s Pg.mon F.MON_OUT_OUT + 2 ^ c)) Pg.mon F.MON_OUT_SEEN_SEEN
      (getF s Pg.mon F.MON_OUT_SEEN_SEEN ||| 2 ^ c)) Pg.mon F.MON_EXCURSIONS) Pg.mon 2 :=
  (if_neg (by rw [Bool.not_eq_true, Bool.not_eq_false']; exact h)).trans (if_pos hb)

theorem monChannel_returns {s : State} {c v : Nat} (h : monFlips s c v = true) (hb : monBad s c v = false) : monChannel s c v =
    setF (monTaken s c v) Pg.mon F.MON_OUT_OUT (getF s Pg.mon F.MON_OUT_OUT - 2 ^ c) :=
  (if_neg (by rw [Bool.not_eq_true, Bool.not_eq_false']; exact h)).trans (if_neg (ne_true_of_eq_false hb))

/-- A conversion changes registers of its channel and of the page's marks, and its run of scans. -/
theorem monChannel_kept (s : State) (c v : Nat) : SameRegs (monKeys c) s (monChannel s c v) ∧ ∃ l, (monChannel s c v).pwr = { s.pwr with scans := l } := by
  have htaken : SameRegs (monKeys c) s (monTaken s c v) := ((SameRegs.refl _ s).setF List.mem_cons_self).of_eq rfl
  rcases hf : monFlips s c v
  · rw [monChannel_stays hf]
    exact ⟨htaken, _, rfl⟩
  · rcases hb : monBad s c v
    · rw [monChannel_returns hf hb]
      exact ⟨htaken.setF (by simp [monKeys]), _, rfl⟩
    · rw [monChannel_leaves hf hb]
      exact ⟨(((htaken.setF (by simp [monKeys])).setF (by simp [monKeys])).bump (by simp [monKeys])).irqEvent (by simp [monKeys, irqKeys])
        (by simp [monKeys, irqKeys]), _, by simp [monTaken, setPwr]; rfl⟩

theorem monKey_val {c : Nat} (hc : c < 12) : fKey Pg.mon F.MON_VAL_VAL c ∉
    fKey Pg.mon F.MON_OUT_OUT :: fKey Pg.mon F.MON_OUT_SEEN_SEEN :: fKey Pg.mon F.MON_EXCURSIONS :: irqKeys Pg.mon := by
  revert c
  decide

/-- A conversion is what its channel reads. -/
theorem monChannel_val (s : State) {c v : Nat} (hc : c < 12) (hv : v < 4096) : getF (monChannel s c v) Pg.mon F.MON_VAL_VAL c = v := by
  have htaken : getF (monTaken s c v) Pg.mon F.MON_VAL_VAL c = v := (getF_setF_same s _ _ _ _ (by decide)).trans (Nat.mod_eq_of_lt hv)
  have hlater : SameRegs (fKey Pg.mon F.MON_OUT_OUT :: fKey Pg.mon F.MON_OUT_SEEN_SEEN :: fKey Pg.mon F.MON_EXCURSIONS :: irqKeys Pg.mon)
      (monTaken s c v) (monChannel s c v) := by
    rcases hf : monFlips s c v
    · rw [monChannel_stays hf]
      exact .refl _ _
    · rcases hb : monBad s c v
      · rw [monChannel_returns hf hb]
        exact (SameRegs.refl _ _).setF (by simp)
      · rw [monChannel_leaves hf hb]
        exact ((((SameRegs.refl _ _).setF (by simp)).setF (by simp)).bump (by simp)).irqEvent (by simp [irqKeys]) (by simp [irqKeys])
  rw [hlater.getF (monKey_val hc), htaken]

/-- A bit of OUT as it was set. -/
theorem testBit_setOut (s : State) (v : Nat) {j : Nat} (hj : j < 12) :
    (getF (setF s Pg.mon F.MON_OUT_OUT v) Pg.mon F.MON_OUT_OUT).testBit j = v.testBit j := by
  have hw : j < F.MON_OUT_OUT.w := hj
  rw [getF_setF_same _ _ _ _ _ (by decide), Nat.testBit_mod_two_pow, decide_eq_true hw, Bool.true_and]

/-- The bits of OUT after a conversion: only that of its channel may change, and with it the channel is where its conversion says. -/
theorem monChannel_out (s : State) {c v : Nat} (hc : c < 12) {j : Nat} (hj : j < 12) : (getF (monChannel s c v) Pg.mon F.MON_OUT_OUT).testBit j =
    if j = c ∧ monFlips s c v = true then monBad s c v else (getF s Pg.mon F.MON_OUT_OUT).testBit j := by
  have hkey : ∀ c < 12, fKey Pg.mon F.MON_OUT_OUT ≠ fKey Pg.mon F.MON_VAL_VAL c := by decide
  rcases hf : monFlips s c v
  · have hsame : getF (monTaken s c v) Pg.mon F.MON_OUT_OUT = getF s Pg.mon F.MON_OUT_OUT := getF_setF_ne _ _ _ _ _ _ (hkey c hc)
    rw [monChannel_stays hf, hsame, if_neg (by simp)]
  · have hne : monBad s c v ≠ (getF s Pg.mon F.MON_OUT_OUT).testBit c := by
      simp only [monFlips, Bool.and_eq_true, bne_iff_ne] at hf
      exact hf.1
    rcases hb : monBad s c v
    · have hset : (getF s Pg.mon F.MON_OUT_OUT).testBit c = true := by
        rw [hb] at hne
        exact (Bool.eq_true_of_not_eq_false fun e => hne e.symm)
      rw [monChannel_returns hf hb, testBit_setOut _ _ hj, testBit_sub_two_pow _ hset]
      by_cases hjc : j = c
      · simp [hjc]
      · simp [hjc, Ne.symm hjc]
    · have hclear : (getF s Pg.mon F.MON_OUT_OUT).testBit c = false := by
        rw [hb] at hne
        exact (Bool.eq_false_of_not_eq_true fun e => hne e.symm)
      rw [monChannel_leaves hf hb, getF_irqEvent_body _ _ _ _ (by decide) (by decide), getF_bump_ne _ (by decide), getF_setF_ne _ _ _ _ _ _ (by decide),
        testBit_setOut _ _ hj, testBit_add_two_pow _ hclear]
      by_cases hjc : j = c
      · simp [hjc]
      · simp [hjc, Ne.symm hjc]

/-- The conversion that a scan gives channel `c`. -/
def scanValue (values : List Nat) (c : Nat) : Nat := values.getD c 0 % 4096

/-- The first `m` channels of a scan have been converted, and nothing that the others read has changed. -/
structure Scanned (s t : State) (values : List Nat) (m : Nat) : Prop where
  settings : ∀ c, getF t Pg.mon F.MON_WIN_LO c = getF s Pg.mon F.MON_WIN_LO c ∧ getF t Pg.mon F.MON_WIN_HI c = getF s Pg.mon F.MON_WIN_HI c
  filt : getF t Pg.mon F.MON_CTL_FILT = getF s Pg.mon F.MON_CTL_FILT
  pwr : ∃ l, t.pwr = { s.pwr with scans := l }
  val : ∀ c < m, getF t Pg.mon F.MON_VAL_VAL c = scanValue values c
  out : getF s Pg.mon F.MON_CTL_FILT ≤ 1 → ∀ c < m, (getF t Pg.mon F.MON_OUT_OUT).testBit c = monBad s c (scanValue values c)

/-- With a filter of one scan, a channel on the other side of its window flips at once. -/
theorem monChannel_at {s : State} {c v : Nat} (hc : c < 12) (hf : getF s Pg.mon F.MON_CTL_FILT ≤ 1) :
    (getF (monChannel s c v) Pg.mon F.MON_OUT_OUT).testBit c = monBad s c v := by
  rw [monChannel_out s hc hc]
  by_cases hb : monBad s c v = (getF s Pg.mon F.MON_OUT_OUT).testBit c
  · rw [hb, ite_self]
  · have hrun : monRun s c v = s.pwr.scans.getD c 0 + 1 := if_neg hb
    have hflip : monFlips s c v = true := by
      simp only [monFlips, hrun, Bool.and_eq_true, bne_iff_ne, decide_eq_true_eq]
      exact ⟨hb, by omega⟩
    rw [if_pos ⟨rfl, hflip⟩]

/-- The settings of the monitor lie apart from what a conversion changes. -/
theorem monKeys_settings (c k : Nat) (hc : c < 12) : fKey Pg.mon F.MON_WIN_LO k ∉ monKeys c ∧ fKey Pg.mon F.MON_CTL_FILT ∉ monKeys c := by
  simp only [monKeys, irqKeys, fKey, regKey, Pg.mon, F.MON_WIN_LO, F.MON_CTL_FILT, F.MON_VAL_VAL, F.MON_OUT_OUT, F.MON_OUT_SEEN_SEEN, F.MON_EXCURSIONS,
    List.mem_cons, List.not_mem_nil, or_false, not_or]
  omega

theorem scanned_step {s t : State} {values : List Nat} {m : Nat} (h : Scanned s t values m) (hm : m < 12) :
    Scanned s (monChannel t m (scanValue values m)) values (m + 1) := by
  obtain ⟨hset, hfilt, ⟨l, hpwr⟩, hval, hout⟩ := h
  obtain ⟨hregs, l', hpwr'⟩ := monChannel_kept t m (scanValue values m)
  have hbad : ∀ v, monBad t m v = monBad s m v := fun v => by simp only [monBad, hset]
  refine ⟨fun c => ?_, ?_, ⟨l', by rw [hpwr', hpwr]⟩, fun c hc => ?_, fun hf c hc => ?_⟩
  · obtain ⟨hwin, -⟩ := monKeys_settings m c hm
    obtain ⟨hlo, hhi⟩ := hset c
    exact ⟨(hregs.getF hwin).trans hlo, (hregs.getF (f := F.MON_WIN_HI) hwin).trans hhi⟩
  · exact (hregs.getF (monKeys_settings m 0 hm).2).trans hfilt
  · rcases Nat.lt_succ_iff_lt_or_eq.mp hc with hlt | rfl
    · have hkey : fKey Pg.mon F.MON_VAL_VAL c ∉ monKeys m := by
        have hne : fKey Pg.mon F.MON_VAL_VAL c ≠ fKey Pg.mon F.MON_VAL_VAL m := by
          simp only [fKey, regKey, Pg.mon, F.MON_VAL_VAL]
          omega
        exact fun hmem => (List.mem_cons.mp hmem).elim hne (monKey_val (by omega))
      rw [hregs.getF hkey, hval c hlt]
    · exact monChannel_val t hm (Nat.mod_lt _ (by decide))
  · rcases Nat.lt_succ_iff_lt_or_eq.mp hc with hlt | rfl
    · rw [monChannel_out t hm (by omega), if_neg (by omega), hout hf c hlt]
    · rw [monChannel_at hm (by rw [hfilt]; exact hf), hbad]

/-- The twelve conversions of a scan. -/
def monScanned (s : State) (values : List Nat) : State := (List.range 12).foldl (fun a c => monChannel a c (values.getD c 0 % 4096)) s

theorem scanned_monScanned (s : State) (values : List Nat) : Scanned s (monScanned s values) values 12 := by
  have hprefix : ∀ m ≤ 12, Scanned s ((List.range m).foldl (fun a c => monChannel a c (values.getD c 0 % 4096)) s) values m := fun m hm => by
    induction m with
    | zero =>
      exact ⟨fun _ => ⟨rfl, rfl⟩, rfl, ⟨s.pwr.scans, rfl⟩, fun c hc => absurd hc (Nat.not_lt_zero c), fun _ c hc => absurd hc (Nat.not_lt_zero c)⟩
    | succ m ih =>
      rw [List.range_succ, List.foldl_append, List.foldl_cons, List.foldl_nil]
      exact scanned_step (ih (by omega)) (by omega)
  exact hprefix 12 (Nat.le_refl 12)

/-- Thermal shutdown is judged from what page MON holds, and changes none of it. -/
theorem monThermal_mon (s : State) (g : FieldD) (i : Nat) : getF (monThermal s) Pg.mon g i = getF s Pg.mon g i := by
  have hkeys : SameRegs (fKey Pg.pwr F.PWR_FAULT_TSD :: irqKeys Pg.pwr) s (monThermal s) := by
    unfold monThermal
    dsimp only
    split
    · refine SameRegs.irqEvent (SameRegs.setB ?_ (by decide)) (by decide) (by decide)
      exact (SameRegs.refl _ s).of_eq rfl
    · exact (SameRegs.refl _ s).of_eq rfl
  refine hkeys.getF ?_
  simp only [irqKeys, fKey, regKey, Pg.mon, Pg.pwr, F.PWR_FAULT_TSD, List.mem_cons, List.not_mem_nil, or_false, not_or]
  omega

/-- The ring die at 150 °C or above on a second scan is a thermal shutdown (R386, R392). -/
theorem monThermal_hot {s : State} (hh : s.pwr.hotRing = true) (ht : s.pwr.tsd = false) (hv : 2000 ≤ getF s Pg.mon F.MON_VAL_VAL 9) :
    (monThermal s).pwr.tsd = true ∧ getB (monThermal s) Pg.pwr F.PWR_FAULT_TSD = true ∧ (getW (monThermal s) Pg.pwr 0x10).getLsbD 6 = true := by
  unfold monThermal
  simp only [hh, ht, decide_eq_true hv, Bool.and_self, Bool.true_or, Bool.not_false, if_true]
  refine ⟨by simp [setPwr], ?_, ?_⟩
  · exact (congrArg (· != 0) (getF_irqEvent_body _ _ _ _ (by decide) (by decide))).trans (getB_setB_same _ _ _ _ _ (by decide) rfl)
  · rw [getW_irqEvent_raw, BitVec.getLsbD_or]
    simp

/-- A scan is its conversions, the judgement of the dies, HOLDUP_OK, and the live fields. -/
theorem monScan_follows {s : State} (values : List Nat) (hr : s.pwr.run = true) :
    ∃ n, PwrFollowed (setPwr (monThermal (monScanned s values)) { (monThermal (monScanned s values)).pwr with vinScans := n }) (monScan s values) := by
  have heq : ∃ n, monScan s values = pwrUpdate (setPwr (monThermal (monScanned s values)) { (monThermal (monScanned s values)).pwr with vinScans := n }) :=
    ⟨_, if_pos hr⟩
  obtain ⟨n, heq⟩ := heq
  exact ⟨n, heq ▸ followed_pwrUpdate _⟩

theorem monScan_mon {s : State} (values : List Nat) (hr : s.pwr.run = true) (g : FieldD) (i : Nat) :
    getF (monScan s values) Pg.mon g i = getF (monScanned s values) Pg.mon g i := by
  obtain ⟨n, hfollow⟩ := monScan_follows values hr
  exact (hfollow.mon g i).trans (monThermal_mon ..)

/-- Every channel of a scan reads its conversion, and with a filter of one scan OUT says which lie outside their windows. -/
theorem monScan_channels {s : State} (values : List Nat) (hr : s.pwr.run = true) {c : Nat} (hc : c < 12) :
    getF (monScan s values) Pg.mon F.MON_VAL_VAL c = scanValue values c ∧
      (getF s Pg.mon F.MON_CTL_FILT ≤ 1 → (getF (monScan s values) Pg.mon F.MON_OUT_OUT).testBit c = monBad s c (scanValue values c)) := by
  obtain ⟨-, -, -, hval, hout⟩ := scanned_monScanned s values
  simp only [monScan_mon values hr]
  exact ⟨hval c hc, fun hf => hout hf c hc⟩

/-- A second scan with the ring die at 150 °C or above is a thermal shutdown. -/
theorem monScan_hot {s : State} (values : List Nat) (hr : s.pwr.run = true) (hh : s.pwr.hotRing = true) (ht : s.pwr.tsd = false)
    (hv : 2000 ≤ scanValue values 9) : (monScan s values).pwr.tsd = true ∧ getB (monScan s values) Pg.pwr F.PWR_FAULT_TSD = true ∧
      (getW (monScan s values) Pg.pwr 0x10).getLsbD 6 = true ∧ getF (monScan s values) Pg.mon F.MON_VAL_VAL 9 = scanValue values 9 := by
  obtain ⟨-, -, ⟨l, hpwr⟩, hval, -⟩ := scanned_monScanned s values
  obtain ⟨n, hfollow⟩ := monScan_follows values hr
  obtain ⟨htsd, hfault, hraw⟩ := monThermal_hot (s := monScanned s values) (by rw [hpwr]; exact hh) (by rw [hpwr]; exact ht)
    (by rw [hval 9 (by decide)]; exact hv)
  exact ⟨(congrArg PwrSt.tsd hfollow.pwr).trans htsd, (hfollow.fault rfl).trans hfault, hfollow.raw 6 hraw, (monScan_channels values hr (by decide)).1⟩

/-- Settles O50: each clause is the specification of its function; an update of the live fields leaves what it reports. -/
theorem powerWarnsAndMeasures : Obligations.PowerWarnsAndMeasures := by
  unfold Obligations.PowerWarnsAndMeasures
  refine fun s => ⟨fun hg hl he => ?_, fun hr hg hds hov ht hl => ?_, fun hr hg hds => ?_, fun hr hp => ?_, fun hr hp => ?_, fun hr hp hc => ?_,
    fun ha hk => ?_, fun who v h hv ho => completes_burn_first h hv ho, fun who v h hl hv ho => completes_burn_again h hl hv ho,
    fun values hr hh ht hv => ?_, fun values hr => ?_⟩
  · exact completes_anytime rfl (gateWeak_spec (s := cleared s) hg hl he)
  · exact completes_anytime rfl (dsShort_run_spec (s := cleared s) hr hg hds hov ht hl)
  · exact completes_anytime rfl (dsShort_off_spec (s := cleared s) hr hg hds)
  · exact completes_anytime rfl (vinLow_asserts (s := cleared s) hr hp)
  · exact completes_anytime rfl (vinLow_again (s := cleared s) hr hp)
  · exact completes_anytime rfl (pfwEnd_spec (s := cleared s) hr hp hc)
  · exact completes_during ha rfl (checkpointDone_spec (s := cleared s) hk)
  · exact completes_anytime rfl (monScan_hot (s := cleared s) values hr hh ht hv)
  · exact completes_anytime rfl fun c hc => monScan_channels (s := cleared s) values hr hc

end Sys2Proof.Machine
end

section
/-! PROOFS. The reset pin and the field balls (R354, R405): a state may hold a driven ball that no refresh reaches. -/

namespace Sys2Proof.Machine

/-! ## Balls without a permit (R354) -/

/-- Without a permit no ball is driven (R354). -/
theorem pinDrive_unpermitted {s : State} (h : s.fld.permitSeen = false) (p : Nat) : pinDrive s p = none := by
  unfold pinDrive
  dsimp only
  split
  · rfl
  · rw [if_pos (by rw [h, Bool.not_false, Bool.or_true])]

/-- What is driven at ball `p` (R350). -/
def ballDrive (s : State) (p : Nat) : Option Bool := (tabGet s.fld.drive p).getD none

/-- Without a permit a refresh of ball `q` lets go of it, and leaves the others alone. -/
theorem pinRefresh_unpermitted {s : State} (h : s.fld.permitSeen = false) (q : Nat) : (pinRefresh s q).fld.permitSeen = false ∧
    ballDrive (pinRefresh s q) q = none ∧ ∀ p, p ≠ q → ballDrive (pinRefresh s q) p = ballDrive s p := by
  unfold pinRefresh
  simp only [pinDrive_unpermitted h]
  split
  · rename_i hnone
    exact ⟨h, hnone, fun _ _ => rfl⟩
  · refine ⟨h, ?_, fun p hp => ?_⟩
    · simp [ballDrive, emit]
    · simp [ballDrive, emit, tabGet_tabDel_ne _ hp]

/-- Without a permit refreshes leave alone the balls that they do not name. -/
theorem foldl_pinRefresh_unnamed {s : State} (h : s.fld.permitSeen = false) {l : List Nat} {p : Nat} (hp : p ∉ l) :
    ballDrive (l.foldl pinRefresh s) p = ballDrive s p := by
  induction l generalizing s with
  | nil => rfl
  | cons q l ih =>
    obtain ⟨hpermit, -, hother⟩ := pinRefresh_unpermitted h q
    obtain ⟨hq, hl⟩ := not_or.mp (mt List.mem_cons.mpr hp)
    rw [List.foldl_cons, ih hpermit hl, hother p hq]

/-- Without a permit no refresh drives a ball. -/
theorem foldl_pinRefresh_undriven {s : State} (h : s.fld.permitSeen = false) (l : List Nat) {p : Nat} (hp : ballDrive s p = none) :
    ballDrive (l.foldl pinRefresh s) p = none := by
  induction l generalizing s with
  | nil => exact hp
  | cons q l ih =>
    obtain ⟨hpermit, hsame, hother⟩ := pinRefresh_unpermitted h q
    refine ih hpermit ?_
    by_cases hq : p = q
    · exact hq ▸ hsame
    · rw [hother p hq, hp]

/-- PIN.CFG assigns balls 0 to 191 (R343). -/
theorem assignedPins_lt {s : State} {p : Nat} (h : p ∈ assignedPins s) : p < 192 := by
  simp only [assignedPins, List.mem_filterMap] at h
  obtain ⟨e, -, he⟩ := h
  split at he
  · rename_i hb
    obtain ⟨hlo, hhi, -⟩ := hb
    have := Option.some.inj he
    omega
  · cases he

/-- Without a permit a refresh of all balls leaves alone a ball past those of PIN.CFG that reads as assigned. -/
theorem pinsRefresh_stray {s : State} (h : s.fld.permitSeen = false) {p : Nat} (hp : 192 ≤ p) (hf : pinFunc s p ≠ 0) :
    ballDrive (pinsRefresh s) p = ballDrive s p := by
  refine foldl_pinRefresh_unnamed h fun hmem => ?_
  rcases List.mem_append.mp hmem with hassigned | hdriven
  · have := assignedPins_lt hassigned
    omega
  · exact hf (by simpa using (List.mem_filter.mp hdriven).2)

theorem permitSeen_pinsRefresh (s : State) : (pinsRefresh s).fld.permitSeen = s.fld.permitSeen := by
  have hseen := congrArg (fun x : State => x.fld.permitSeen) (endOnly_pinsRefresh s).rest
  exact hseen

theorem settle_dead {s : State} (h : alive s = false) : settle s = pinsRefresh s := if_neg (ne_true_of_eq_false h)

/-! ## A ball past those of PIN.CFG -/

/-- A hub out of reset that drives a ball past the 192 of PIN.CFG, whose place there holds a FUNC. No refresh reaches such a ball. -/
def strayBall : State :=
  { State.reset with
      regs := [(regKey Pg.pin 0x400, 2#32)]
      start := { State.reset.start with inReset := false }
      fld := { State.reset.fld with drive := [(192, some true)] } }

/-- What RESET_N low makes of it before the step ends. -/
theorem strayBall_reset : (resetEnter (cleared strayBall)).start.inReset = true ∧ (resetEnter (cleared strayBall)).fld.permitSeen = false ∧
    ballDrive (resetEnter (cleared strayBall)) 192 = some true ∧ pinFunc (resetEnter (cleared strayBall)) 192 = 2 := by
  decide

/-- Refutes O55: RESET_N low lets go of the balls that PIN.CFG assigns; a state that drives a ball past them, as no run of the hub does, keeps it driven. -/
theorem not_startUpSteps : ¬ Obligations.StartUpSteps := by
  unfold Obligations.StartUpSteps
  intro h
  obtain ⟨hpin, -⟩ := h strayBall
  obtain ⟨u, hexec, -, -, -, halive, -, -, -, -, -, hdrive, -⟩ := hpin rfl
  obtain ⟨hreset, hpermit, hball, hfunc⟩ := strayBall_reset
  have hdead : alive (resetEnter (cleared strayBall)) = false := by rw [alive, hreset]; rfl
  have hend : pinsRefresh (resetEnter (cleared strayBall)) = pinsRefresh u := by
    rw [← settle_dead hdead, ← settle_dead halive]
    exact Host.Outcome.next.inj hexec
  have hpermitU : u.fld.permitSeen = false := by rw [← permitSeen_pinsRefresh, ← hend, permitSeen_pinsRefresh, hpermit]
  have hkept : ballDrive (pinsRefresh (resetEnter (cleared strayBall))) 192 = some true := by
    rw [pinsRefresh_stray hpermit (Nat.le_refl 192) (by rw [hfunc]; decide), hball]
  have hfree : ballDrive (pinsRefresh u) 192 = none := foldl_pinRefresh_undriven hpermitU _ (hdrive 192)
  rw [hend, hfree] at hkept
  cases hkept

end Sys2Proof.Machine
end

section
/-! PROOFS. Peer delay, frames of the management core and TX stamp queues (R142, R164, R226, R227, R229). -/

namespace Sys2Proof.Machine

/-! ## Peer delay (R226) -/

section
variable {s t : State} (h : FrameSame s t) (ht : t.time = s.time)
include h ht

theorem FrameSame.ingressStamp (p : Port) : ingressStamp t p = ingressStamp s p := by
  have hp := portIdx_le p
  have hlat : Machine.getF t Pg.tmk F.TMK_CORR_RX_LAT (portIdx p) = Machine.getF s Pg.tmk F.TMK_CORR_RX_LAT (portIdx p) :=
    h.getF (by simp only [F.TMK_CORR_RX_LAT]; omega) (.inr (.inl (by decide)))
  have hadj : Machine.getF t Pg.tmk F.TMK_ADJ_RX_ADJ (portIdx p) = Machine.getF s Pg.tmk F.TMK_ADJ_RX_ADJ (portIdx p) :=
    h.getF (by simp only [F.TMK_ADJ_RX_ADJ]; omega) (.inr (.inl (by decide)))
  simp only [Machine.ingressStamp, now16, ht, hlat, hadj]

theorem FrameSame.egressStamp (p : Port) : egressStamp t p = egressStamp s p := by
  have hp := portIdx_le p
  have hlat : Machine.getF t Pg.tmk F.TMK_CORR_TX_LAT (portIdx p) = Machine.getF s Pg.tmk F.TMK_CORR_TX_LAT (portIdx p) :=
    h.getF (by simp only [F.TMK_CORR_TX_LAT]; omega) (.inr (.inl (by decide)))
  have hadj : Machine.getF t Pg.tmk F.TMK_ADJ_TX_ADJ (portIdx p) = Machine.getF s Pg.tmk F.TMK_ADJ_TX_ADJ (portIdx p) :=
    h.getF (by simp only [F.TMK_ADJ_TX_ADJ]; omega) (.inr (.inl (by decide)))
  simp only [Machine.egressStamp, now16, ht, hlat, hadj]

end

/-- The answer of the hub to a peer-delay request, as it leaves on the port of the request. -/
def pdelayAnswer (s : State) (p : Port) (f : Frame) : Out := .frame p (pdelayResp s p f ((egressStamp s p : Int) - ingressStamp s p)) false

/-- A good peer-delay request at a ring port is counted; then the hub answers it, or the management core gets it. -/
theorem pdelayRx_request {s : State} {p : Port} {f : Frame} (hp : p = .e ∨ p = .w) (hup : portUp s p = true) (hptp : isPtp f = true)
    (hmac : f.dmac = 0x0180C200000E) (htype : ptpType f = 2)
    (hgood : rxGood f { late := false, linkLost := false, fecCorr := 0, fecUncorr := 0 } = true) (hopen : ingressShut s p = false) :
    pdelayRx s p f =
      if getB s Pg.tmk F.TMK_CTL_PDELAY_HW = true then bump (emit (bump s (portPage p) F.PORT_RX_FRAMES) (pdelayAnswer s p f)) Pg.tmk F.TMK_PDELAY_RESP
      else emit (bump s (portPage p) F.PORT_RX_FRAMES) (.local f (some p) (ingressStamp s p)) := by
  have heth : isEthPort p = true := by rcases hp with rfl | rfl <;> rfl
  have hring : (p == .e || p == .w) = true := by rcases hp with rfl | rfl <;> rfl
  have hmsg : isPdelay f = true := by simp [isPdelay, hptp, hmac, htype]
  have hsame : FrameSame s (bump s (portPage p) F.PORT_RX_FRAMES) := frameSame_bump heth (by decide) (by decide)
  have hhw : getB (bump s (portPage p) F.PORT_RX_FRAMES) Pg.tmk F.TMK_CTL_PDELAY_HW = getB s Pg.tmk F.TMK_CTL_PDELAY_HW := hsame.getB (by decide) (by decide)
  have hresp : pdelayResp (bump s (portPage p) F.PORT_RX_FRAMES) p f = pdelayResp s p f := rfl
  simp only [pdelayRx, pdelayAnswer, hmsg, hring, hup, hgood, hopen, htype, hhw, hresp, hsame.ingressStamp rfl, hsame.egressStamp rfl, Bool.and_self,
    Bool.not_true, Bool.false_eq_true, if_false, beq_self_eq_true, Bool.true_and]

section
variable {s : State} {p : Port} {f : Frame} (hp : p = .e ∨ p = .w) (hup : portUp s p = true) (hptp : isPtp f = true)
  (hmac : f.dmac = 0x0180C200000E) (htype : ptpType f = 2)
  (hgood : rxGood f { late := false, linkLost := false, fecCorr := 0, fecUncorr := 0 } = true) (hopen : ingressShut s p = false)
include hp hup hptp hmac htype hgood hopen

/-- With PDELAY_HW 1 the hub answers. -/
theorem pdelayRx_answered (hhw : getB s Pg.tmk F.TMK_CTL_PDELAY_HW = true) : pdelayAnswer s p f ∈ (pdelayRx s p f).out ∧
    getF (pdelayRx s p f) Pg.tmk F.TMK_PDELAY_RESP = (getF s Pg.tmk F.TMK_PDELAY_RESP + 1) % 2 ^ 32 ∧
    OnlyRegs [fKey Pg.tmk F.TMK_PDELAY_RESP, fKey (portPage p) F.PORT_RX_FRAMES] s (pdelayRx s p f) := by
  have hne : fKey Pg.tmk F.TMK_PDELAY_RESP ≠ fKey (portPage p) F.PORT_RX_FRAMES := by rcases hp with rfl | rfl <;> decide
  rw [pdelayRx_request hp hup hptp hmac htype hgood hopen, if_pos hhw]
  refine ⟨List.mem_append_right _ (List.mem_singleton_self _), ?_, ?_, rfl⟩
  · rw [getF_bump_same _ _ rfl rfl]
    exact congrArg (fun n => (n + 1) % 2 ^ 32) (getF_bump_ne s hne)
  · have hcount : SameRegs [fKey Pg.tmk F.TMK_PDELAY_RESP, fKey (portPage p) F.PORT_RX_FRAMES] s (bump s (portPage p) F.PORT_RX_FRAMES) :=
      (SameRegs.refl _ s).bump (by simp)
    exact SameRegs.bump (hcount.of_eq rfl) (by simp)

/-- With PDELAY_HW 0 the management core gets the request. -/
theorem pdelayRx_delivered (hhw : getB s Pg.tmk F.TMK_CTL_PDELAY_HW = false) :
    Out.local f (some p) (ingressStamp s p) ∈ (pdelayRx s p f).out ∧ OnlyRegs [fKey (portPage p) F.PORT_RX_FRAMES] s (pdelayRx s p f) := by
  rw [pdelayRx_request hp hup hptp hmac htype hgood hopen, if_neg (ne_true_of_eq_false hhw)]
  exact ⟨List.mem_append_right _ (List.mem_singleton_self _), SameRegs.bump (SameRegs.refl _ s) (List.mem_singleton_self _), rfl⟩

end

/-! ## Frames of the management core (R142, R164, R227) -/

/-- The descriptor of a frame that the management core sends: its stamps are asked for with the frame. -/
def coreDesc (s : State) (f : Frame) (c : Nat) (one : Bool) (req : Option Nat) : Desc :=
  { ownDesc s f c with rxTime := now16 s, tsId := req, oneStep := one }

/-- A frame of the core that no headgate meters keeps its class and leaves as the hub's own frames do. -/
theorem managementSend_unmetered {s : State} {f : Frame} {ports : List Port} (one : Bool) (req : Option Nat) (heth : ∀ p ∈ ports, isEthPort p = true)
    (hgate : isKvlType s f = true ∨ pointHeadgate s 2 (frameClass s f) = none) :
    managementSend s f ports one req =
      sendOwnFrame s { desc := coreDesc s f (frameClass s f) one req, ports := ports, tagged := ports.any (isHsrPort s) } := by
  have hpass : (if (!isKvlType s f) = true then pointCheck s 2 (frameClass s f) (frameLen f) else (some (frameClass s f), s)) =
      (some (frameClass s f), s) := by
    rcases hgate with hk | hnone
    · rw [hk, Bool.not_true, if_neg Bool.false_ne_true]
    · rw [pointCheck, hnone, ite_self]
  rw [managementSend, hpass, List.filter_eq_self.mpr heth]
  rfl

/-- An own frame that finds cells, with none waiting for its pool before it, is formed at once. -/
theorem sendOwnFrame_formed {s t : State} {o : OwnFrame} (hfirst : s.sw.ownWait.any (·.desc.pool == o.desc.pool) = false)
    (hform : formOwn s o = some t) : sendOwnFrame s o = t := by
  simp only [sendOwnFrame, hfirst, Bool.false_eq_true, if_false, hform]

/-- On ports that run no HSR it leaves as it is. -/
theorem managementSend_plain {s : State} {f : Frame} {ports : List Port} (one : Bool) (req : Option Nat) (hnd : ports.Nodup)
    (heth : ∀ p ∈ ports, isEthPort p = true) (hgate : isKvlType s f = true ∨ pointHeadgate s 2 (frameClass s f) = none)
    (hplain : ∀ p ∈ ports, isHsrPort s p = false) (hroom : hasRoom s f (frameClass s f) ports = true) :
    Leaves s (managementSend s f ports one req) f (frameClass s f) ports ∧ (managementSend s f ports one req).ring = s.ring ∧
      OnlyPages storePages s (managementSend s f ports one req) := by
  obtain ⟨hcells, hfirst⟩ := hasRoom_spec hroom
  have htag : ports.any (isHsrPort s) = false := List.any_eq_false.mpr fun p hp => ne_true_of_eq_false (hplain p hp)
  obtain ⟨t, hstore, hleaves⟩ := storeFrame_room (d := coreDesc s f (frameClass s f) one req) hcells rfl hnd
  have hform : formOwn s { desc := coreDesc s f (frameClass s f) one req, ports := ports, tagged := false } = some t := hstore
  rw [managementSend_unmetered one req heth hgate, htag, sendOwnFrame_formed hfirst hform]
  exact ⟨hleaves, (storeFrame_only hstore).beside.1, (storeFrame_kept hstore).1⟩

/-- To a port that runs HSR it leaves with the hub's next sequence number. -/
theorem managementSend_tagged {s : State} {f : Frame} {ports : List Port} (one : Bool) (req : Option Nat) (hnd : ports.Nodup)
    (heth : ∀ p ∈ ports, isEthPort p = true) (hgate : isKvlType s f = true ∨ pointHeadgate s 2 (frameClass s f) = none)
    (hhsr : ∃ p ∈ ports, isHsrPort s p = true) (hmac : f.smac = ownMac s) (hroom : hasRoom s (tagged s f) (frameClass s f) ports = true) :
    Leaves s (managementSend s f ports one req) (tagged s f) (frameClass s f) ports ∧
      (managementSend s f ports one req).ring = { s.ring with hsrSeq := (s.ring.hsrSeq + 1) % 65536 } ∧
      OnlyPages storePages s (managementSend s f ports one req) := by
  obtain ⟨hcells, hfirst⟩ := hasRoom_spec hroom
  have hsame : FrameSame s (hsrNext s) := ⟨fun _ _ => rfl, rfl⟩
  rw [← hsame.poolRoom] at hcells
  have htag : ports.any (isHsrPort s) = true := List.any_eq_true.mpr hhsr
  obtain ⟨t, hstore, hleaves⟩ := storeFrame_room (s := hsrNext s)
    (d := descTag (coreDesc s f (frameClass s f) one req) { path := 0, seq := s.ring.hsrSeq }) hcells rfl hnd
  have hsend : sendHsr s (coreDesc s f (frameClass s f) one req) ports = some t := by
    have hnext : nextHsr s (coreDesc s f (frameClass s f) one req).frame.smac = (s.ring.hsrSeq, hsrNext s) :=
      (congrArg (nextHsr s) hmac).trans (nextHsr_own s)
    rw [sendHsr, hnext]
    exact hstore
  have hform : formOwn s { desc := coreDesc s f (frameClass s f) one req, ports := ports, tagged := true } = some t := hsend
  rw [managementSend_unmetered one req heth hgate, htag, sendOwnFrame_formed hfirst hform]
  exact ⟨hsame.leaves hleaves, (storeFrame_only hstore).beside.1, fun k hk => (storeFrame_kept hstore).1 k hk⟩

/-! ## TX stamp queues (R229) -/

/-- A read of POP_ID pops its queue. -/
theorem regRead_tsq (s : State) {p : Nat} (hp : p < 4) : regRead s Pg.tsq (0x40 + 16 * p) = tsqPopNow s p := by
  have hat : fieldAt F.TSQ_POP_ID_ID (0x40 + 16 * p) = some p := by
    revert p
    decide
  have hpop : popWord s Pg.tsq (0x40 + 16 * p) = some (tsqPopNow s p) := by
    simp [popWord, hat, Pg.tsq, Pg.seq, Pg.brg, Pg.bst, Pg.nod]
  rw [regRead, hpop]

theorem tsqOf_setTsq (s : State) (p : Nat) (q : List TsqEnt) : tsqOf (setTsq s p q) p = q := by
  cases q <;> simp [tsqOf, setTsq]

theorem getF_setTsq_level (s : State) (p : Nat) (q : List TsqEnt) : getF (setTsq s p q) Pg.tsq F.TSQ_LEVEL_LEVEL p = q.length % 2 ^ 6 :=
  getF_setF_same _ _ _ _ _ (by decide)

theorem exec_tsqPop (s : State) (who : Agent) {p : Nat} (hp : p < 4) :
    exec (.tsqPop who p) s = .next (during s fun a => ownRead a who Pg.tsq (0x40 + 16 * p)) :=
  congrArg (fun f => Host.Outcome.next (during s f)) (funext fun _ => if_pos hp)

/-- A pop of an empty queue reads 0. -/
theorem completes_tsqPop_none {s : State} {who : Agent} {p : Nat} (hp : p < 4) (h : accReaches s who Pg.tsq (0x40 + 16 * p) = true)
    (hq : tsqOf s p = []) : Completes (.tsqPop who p) s fun u =>
      Answers s u who Pg.tsq (0x40 + 16 * p) 0#32 ∧ getF u Pg.tsq F.TSQ_POP_NS_STAMP p = 0 ∧ beside u = beside s := by
  have hpop : tsqPopNow (accNext (cleared s)) p = (0#32, setF (accNext (cleared s)) Pg.tsq F.TSQ_POP_NS_STAMP 0 p) := by
    have hq1 : tsqOf (accNext (cleared s)) p = [] := hq
    rw [tsqPopNow, hq1]
  refine completes_read h (exec_tsqPop s who hp) rfl ((regRead_tsq _ hp).trans hpop) rfl fun u hu hb ha => ⟨ha, ?_, hb⟩
  rw [getF_of_regs hu, getF_setF_same _ _ _ _ _ (by decide), Nat.zero_mod]

/-- A pop gives the oldest entry and removes it. -/
theorem completes_tsqPop_some {s : State} {who : Agent} {p : Nat} {e : TsqEnt} {q : List TsqEnt} (hp : p < 4)
    (h : accReaches s who Pg.tsq (0x40 + 16 * p) = true) (hq : tsqOf s p = e :: q) : Completes (.tsqPop who p) s fun u =>
      Answers s u who Pg.tsq (0x40 + 16 * p) (BitVec.ofNat 32 (e.id % 65536 + (if e.notSent then 65536 else 0) + 2 ^ 31)) ∧
        getF u Pg.tsq F.TSQ_POP_NS_STAMP p = e.stamp % 2 ^ 32 ∧ tsqOf u p = q ∧ getF u Pg.tsq F.TSQ_LEVEL_LEVEL p = q.length % 2 ^ 6 := by
  have hpop : tsqPopNow (accNext (cleared s)) p = (BitVec.ofNat 32 (e.id % 65536 + (if e.notSent then 65536 else 0) + 2 ^ 31),
      setF (setTsq (accNext (cleared s)) p q) Pg.tsq F.TSQ_POP_NS_STAMP e.stamp p) := by
    have hq1 : tsqOf (accNext (cleared s)) p = e :: q := hq
    rw [tsqPopNow, hq1]
  refine completes_read h (exec_tsqPop s who hp) rfl ((regRead_tsq _ hp).trans hpop) rfl fun u hu hb ha => ⟨ha, ?_, ?_, ?_⟩
  · rw [getF_of_regs hu, getF_setF_same _ _ _ _ _ (by decide)]
    rfl
  · rw [tsqOf, time_of_beside hb]
    exact tsqOf_setTsq ..
  · have hne : fKey Pg.tsq F.TSQ_LEVEL_LEVEL p ≠ fKey Pg.tsq F.TSQ_POP_NS_STAMP p := by
      simp only [fKey, regKey, F.TSQ_LEVEL_LEVEL, F.TSQ_POP_NS_STAMP]
      omega
    rw [getF_of_regs hu, getF_setF_ne _ _ _ _ _ _ hne, getF_setTsq_level]

/-- Settles O31: a peer-delay request is answered or delivered, an unmetered frame of the core finds its cells, a pop reads its queue. -/
theorem timedFrames : Obligations.TimedFrames := by
  unfold Obligations.TimedFrames
  refine fun s ha => ⟨fun p f hp hup hptp hmac htype hgood hopen => ⟨fun hhw => ?_, fun hhw => ?_⟩,
    fun f ports one req hnd heth hgate => ⟨fun hplain hroom => ?_, fun hhsr hmac hroom => ?_⟩,
    fun who p hp h => ⟨fun hq => completes_tsqPop_none hp h hq, fun e q hq => completes_tsqPop_some hp h hq⟩⟩
  · exact completes_during ha rfl (pdelayRx_answered (s := cleared s) hp hup hptp hmac htype hgood hopen hhw)
  · exact completes_during ha rfl (pdelayRx_delivered (s := cleared s) hp hup hptp hmac htype hgood hopen hhw)
  · exact completes_during ha rfl
      (managementSend_plain (s := cleared s) one req hnd heth hgate hplain ((frameSame_cleared s).hasRoom .. |>.trans hroom))
  · exact completes_during ha rfl
      (managementSend_tagged (s := cleared s) one req hnd heth hgate hhsr hmac ((frameSame_cleared s).hasRoom .. |>.trans hroom))

end Sys2Proof.Machine
end

section
/-! PROOFS. How inbound transactions end, and the pops of the bridge's two logs (R202, R207, R210, R211, R215). -/

namespace Sys2Proof.Machine

/-! ## The record of an inbound transaction completes (R117, R118) -/

/-- The record at NEXT_EXPECTED is the only one that its context holds, and no repeat of it waits. -/
def HeadAlone (s : State) (c : Nat) (h : Held) : Prop :=
  ∃ x, ctxOf s c = some x ∧ x.held = [h] ∧ h.seq = x.ne ∧ h.repeats = []

/-- One answer has joined those of this step: `ans` to the record `h`. -/
def AnswersRec (s u : State) (h : Held) (ans : CplRec) : Prop :=
  ∃ a, u.seq.answers = s.seq.answers ++ [a] ∧ a.seq = h.seq ∧ a.ans = ans

theorem mirrorNote_seq_brg (s : State) (kind key seq : Nat) (body : List Byte) :
    (mirrorNote s kind key seq body).seq = s.seq ∧ (mirrorNote s kind key seq body).brg = s.brg := by
  unfold mirrorNote mirrorPush
  split <;> exact ⟨rfl, rfl⟩

theorem runLater_kept (s : State) (c : Nat) :
    (runLater s c).seq.answers = s.seq.answers ∧ (runLater s c).brg = s.brg ∧ (runLater s c).regs = s.regs := by
  unfold runLater
  split <;> exact ⟨rfl, rfl, rfl⟩

/-- A record that no repeat waits for gets one answer; the bridge and its page stand. -/
theorem completeRec_alone {s : State} {c : Nat} {h : Held} (r : CplRec) (hh : HeadAlone s c h) :
    AnswersRec s (completeRec s c r) h { r with tag := h.req.tag } ∧ (completeRec s c r).brg = s.brg ∧
      ∀ k, ¬ fabricPage (k / 1024) → tabGet (completeRec s c r).regs k = tabGet s.regs k := by
  obtain ⟨x, hctx, hheld, hseq, hrep⟩ := hh
  have hfind : x.held.find? (·.seq == x.ne) = some h := by simp [hheld, hseq]
  unfold completeRec
  simp -zeta only [hctx, hfind, hrep, List.foldl_nil]
  extract_lets t1 s1 fl s2 s3
  have h2 : s2.seq = s1.seq ∧ s2.brg = s.brg ∧ FabricOnly s s2 := by
    simp only [s2]
    split
    · obtain ⟨hq, hb⟩ := mirrorNote_seq_brg s1 4 c h.seq (beBytes 1 r.status ++ beBytes 1 fl ++ beBytes 1 r.cause ++
        (if h.req.op = 2 ∨ h.req.op = 5 ∨ h.req.op = 6 then h.req.data else r.data))
      exact ⟨hq, hb, .trans (t := s1) ⟨fun _ _ => rfl, rfl⟩ (fabricOnly_mirrorNote ..)⟩
    · exact ⟨rfl, rfl, ⟨fun _ _ => rfl, rfl⟩⟩
  obtain ⟨hq, hb, hf⟩ := h2
  obtain ⟨ha, hb', hr⟩ := runLater_kept s3 c
  refine ⟨⟨_, ha.trans (congrArg (·.answers ++ _) hq), rfl, rfl⟩, hb'.trans hb, fun k hk => ?_⟩
  rw [hr]
  exact hf.regs k hk

theorem HeadAlone.of_seq {s t : State} {c : Nat} {h : Held} (hh : HeadAlone s c h) (e : t.seq = s.seq) : HeadAlone t c h := by
  unfold HeadAlone ctxOf at hh ⊢
  rwa [e]

theorem AnswersRec.of_seq {s t u : State} {h : Held} {ans : CplRec} (a : AnswersRec t u h ans) (e : t.seq = s.seq) : AnswersRec s u h ans := by
  unfold AnswersRec at a ⊢
  rwa [← e]

/-- Fields of the bridge's page lie outside the fabric's pages. -/
theorem brgField_outside {f : FieldD} (h : f.off + f.stride * 0 < 0x1000) : ¬ fabricPage (fKey Pg.brg f / 1024) := by
  rw [show fKey Pg.brg f / 1024 = Pg.brg from (regKey_split h).1]
  unfold fabricPage
  decide

/-- The end of an inbound transaction: its record is answered, the transaction is gone, and the bridge's fields stand (R210, R211). -/
theorem ibEnd_spec {s : State} {c : Nat} {h : Held} (r : CplRec) (hh : HeadAlone s c h) :
    AnswersRec s (ibEnd s c r) h { r with tag := h.req.tag } ∧ (ibEnd s c r).brg.ibTxns = s.brg.ibTxns.filter (·.ctx != c) ∧
      ∀ f : FieldD, f.off + f.stride * 0 < 0x1000 → getF (ibEnd s c r) Pg.brg f = getF s Pg.brg f := by
  obtain ⟨ha, hb, hr⟩ := completeRec_alone (s := setBrg s { s.brg with ibTxns := s.brg.ibTxns.filter (·.ctx != c) }) r hh
  refine ⟨ha, congrArg (·.ibTxns) hb, fun f hf => ?_⟩
  have hk := hr _ (brgField_outside hf)
  simp only [getF, getW]
  exact congrArg (fun o => wordBits (Option.getD o _) _ _) hk

/-- An inbound transaction that fails at the host ends TARGET_ERR and is counted (R211). -/
theorem ibFail_spec {s : State} {c : Nat} {h : Held} (cause : Nat) (hh : HeadAlone s c h) :
    AnswersRec s (ibFail s c cause) h (ansRec St.targetErr cause h.req.tag) ∧
      (ibFail s c cause).brg.ibTxns = s.brg.ibTxns.filter (·.ctx != c) ∧
      getF (ibFail s c cause) Pg.brg F.BRG_IB_ERR = (getF s Pg.brg F.BRG_IB_ERR + 1) % 2 ^ 32 := by
  have hq : (irqEvent (bump (noteErr s Pg.brg St.targetErr cause 0) Pg.brg F.BRG_IB_ERR) Pg.brg 6).seq = s.seq := by simp
  obtain ⟨ha, hb, hf⟩ := ibEnd_spec (ansRec St.targetErr cause 0) (hh.of_seq hq)
  have hnote : getF (noteErr s Pg.brg St.targetErr cause 0) Pg.brg F.BRG_IB_ERR = getF s Pg.brg F.BRG_IB_ERR :=
    (SameRegs.noteErr (ks := errKeys Pg.brg) (.refl _ s) fun _ hk => hk).getF (by decide)
  refine ⟨ha.of_seq hq, hb.trans (by simp), ?_⟩
  rw [ibFail, hf _ (by decide), getF_irqEvent_ne _ _ _ (by decide) (by decide), getF_bump_same _ _ rfl rfl, hnote]

/-! ## Completions of the host (R210) -/

/-- A table filled place by place. -/
theorem tabGet_fill {α : Type} (g : Nat → α) (n i : Nat) :
    tabGet ((List.range n).foldl (fun a j => tabSet a j (g j)) []) i = if i < n then some (g i) else none := by
  induction n with
  | zero => rfl
  | succ n ih =>
    rw [List.range_succ, List.foldl_append, List.foldl_cons, List.foldl_nil]
    by_cases hi : i = n
    · subst hi
      rw [tabGet_tabSet_same, if_pos (Nat.lt_succ_self _)]
    · rw [tabGet_tabSet_ne _ _ hi, ih]
      exact if_congr (by omega) rfl rfl

/-- Read data put by place and taken out in order. -/
theorem map_tabGet_fill (data : List Byte) :
    ((List.range data.length).map fun i => (tabGet ((List.range data.length).foldl (fun a j => tabSet a j (data.getD j 0#8)) []) i).getD 0#8) = data := by
  refine List.ext_getElem (by simp) fun i h1 h2 => ?_
  simp [tabGet_fill, h2]

/-- A transaction whose entry is rewritten under its own context leaves with it. -/
theorem filter_ctx_mapIf {c : Nat} {t1 : IbTxn} (h : t1.ctx = c) (l : List IbTxn) :
    (mapIf (fun t : IbTxn => t.ctx == c) (fun _ => t1) l).filter (·.ctx != c) = l.filter (·.ctx != c) := by
  induction l with
  | nil => rfl
  | cons x xs ih =>
    unfold mapIf at ih ⊢
    rw [List.map_cons, List.filter_cons, List.filter_cons, ih]
    by_cases hx : x.ctx = c <;> simp [hx, h]

/-- The last data of an inbound read (R210): its record is answered OK with them, and the transaction is counted. -/
theorem hostCompletion_last {s : State} {t : IbTxn} {r : IbRd} {h : Held} {tag : Nat} {data : List Byte} (hh : HeadAlone s t.ctx h)
    (hfind : s.brg.ibTxns.find? (fun t => t.reads.any (·.tag == tag)) = some t) (hreads : t.reads = [r]) (htag : r.tag = tag) (htodo : t.todo = [])
    (hgot : r.got = []) (hdata : t.data = []) (hplace : r.place = 0) (hlen : r.len = t.total) (hd : data.length = r.len) :
    AnswersRec s (hostCompletion s tag 0 data false) h { ansRec St.ok 0 h.req.tag with data := data } ∧
      (hostCompletion s tag 0 data false).brg.ibTxns = s.brg.ibTxns.filter (·.ctx != t.ctx) ∧
      getF (hostCompletion s tag 0 data false) Pg.brg F.BRG_IB_TXN = (getF s Pg.brg F.BRG_IB_TXN + 1) % 2 ^ 32 ∧
      getF (hostCompletion s tag 0 data false) Pg.brg F.BRG_IB_ERR = getF s Pg.brg F.BRG_IB_ERR := by
  have hend : ∃ t1 : IbTxn, t1.ctx = t.ctx ∧ hostCompletion s tag 0 data false =
      ibEnd (bump (setBrg s { s.brg with ibTxns := mapIf (·.ctx == t.ctx) (fun _ => t1) s.brg.ibTxns }) Pg.brg F.BRG_IB_TXN) t.ctx
        { ansRec St.ok 0 0 with data := data } := by
    refine ⟨{ t with reads := [], data := (List.range data.length).foldl (fun a i => tabSet a i (data.getD i 0#8)) [] }, rfl, ?_⟩
    have hread : [r].find? (·.tag == tag) = some r := by simp [htag]
    have htake : data.take data.length = data := List.take_length
    have hdrop : [r].filter (fun x => x.tag != tag) = [] := by simp [htag]
    simp only [hostCompletion, hfind, hread, hgot, List.nil_append, ← hd, htake, beq_self_eq_true, if_true, hreads, hdrop, htodo, hdata, hplace,
      Nat.zero_add, List.isEmpty_nil, Bool.and_self, ← hlen, map_tabGet_fill, Bool.false_eq_true, if_false, ne_eq, not_true_eq_false,
      Nat.zero_ne_one]
  obtain ⟨t1, hctx, hend⟩ := hend
  have hh1 := hh.of_seq (t := bump (setBrg s { s.brg with ibTxns := mapIf (·.ctx == t.ctx) (fun _ => t1) s.brg.ibTxns }) Pg.brg F.BRG_IB_TXN) rfl
  obtain ⟨ha, hb, hf⟩ := ibEnd_spec { ansRec St.ok 0 0 with data := data } hh1
  rw [hend]
  refine ⟨ha, hb.trans (filter_ctx_mapIf hctx _), ?_, ?_⟩
  · rw [hf _ (by decide), getF_bump_same _ _ rfl rfl]
    rfl
  · rw [hf _ (by decide), bump, getF_setF_ne _ _ _ _ _ _ (by decide)]
    rfl

/-- A transaction that has ended is not there for the bound that it met. -/
theorem inboundLate_gone {s : State} {c : Nat} (h : ∀ t ∈ s.brg.ibTxns, t.ctx ≠ c) : inboundLate s c = s := by
  have hnone : s.brg.ibTxns.find? (·.ctx == c) = none := List.find?_eq_none.2 fun t ht => by simpa using h t ht
  rw [inboundLate, hnone]

/-- A completion that ends its transaction at the bound wins (R211). -/
theorem inboundMeet_ended {s : State} {c : Nat} {m : HostCpl}
    (h : (hostCompletion s m.tag m.status m.data m.poisoned).brg.ibTxns = s.brg.ibTxns.filter (·.ctx != c)) :
    inboundMeet s c (some m) = hostCompletion s m.tag m.status m.data m.poisoned := by
  simp only [inboundMeet]
  split
  · rfl
  · exact inboundLate_gone fun t ht => by
      rw [h, List.mem_filter] at ht
      simpa using ht.2

/-- An Unsupported Request ends the transaction of its read (R211). -/
theorem hostCompletion_ur {s : State} {t : IbTxn} {tag : Nat} (data : List Byte)
    (hfind : s.brg.ibTxns.find? (fun t => t.reads.any (·.tag == tag)) = some t) : hostCompletion s tag 1 data false = ibFail s t.ctx 0x40 := by
  have hany : t.reads.any (·.tag == tag) = true := by simpa using List.find?_some hfind
  obtain ⟨r, hr⟩ := Option.isSome_iff_exists.1 (List.find?_isSome.2 (List.any_eq_true.1 hany))
  simp only [hostCompletion, hfind, hr, if_true]

/-! ## Pops of the logs (R215) -/

theorem regRead_errlog (s : State) : regRead s Pg.brg 0x60 = errPopNow s := rfl
theorem regRead_specloss (s : State) : regRead s Pg.brg 0x74 = lossPopNow s := rfl

/-- States that agree beside their registers agree on the bridge's logs. -/
theorem logs_of_beside {s t : State} (h : beside s = beside t) : s.brg.errlog = t.brg.errlog ∧ s.brg.loss = t.brg.loss :=
  ⟨show (beside s).brg.errlog = (beside t).brg.errlog from h ▸ rfl, show (beside s).brg.loss = (beside t).brg.loss from h ▸ rfl⟩

/-- A pop of the empty error log reads 0. -/
theorem completes_errlogPop_none {s : State} {who : Agent} (h : accReaches s who Pg.brg 0x60 = true) (hl : s.brg.errlog = []) :
    Completes (.errlogPop who) s fun u => SameRegs [regKey Pg.brg 0x64, regKey Pg.brg 0x68, regKey Pg.brg 0x6C] s u ∧
      Answers s u who Pg.brg 0x60 0#32 ∧ u.brg.errlog = [] ∧ u.brg.loss = s.brg.loss := by
  have hpop : errPopNow (accNext (cleared s)) =
      (0#32, setW (setW (setW (accNext (cleared s)) Pg.brg 0x64 0#32) Pg.brg 0x68 0#32) Pg.brg 0x6C 0#32) := by
    have hl1 : (accNext (cleared s)).brg.errlog = [] := hl
    rw [errPopNow, hl1]
  refine completes_read h rfl rfl ((regRead_errlog _).trans hpop) rfl fun u hu hb ha => ?_
  obtain ⟨hlog, hloss⟩ := logs_of_beside hb
  exact ⟨((((SameRegs.refl _ s).setW (by simp)).setW (by simp)).setW (by simp)).of_eq hu, ha, hlog.trans hl, hloss⟩

/-- A pop of the error log gives the oldest record and removes it. -/
theorem completes_errlogPop_some {s : State} {who : Agent} {r : ErrRec} {rs : List ErrRec} (h : accReaches s who Pg.brg 0x60 = true)
    (hl : s.brg.errlog = r :: rs) : Completes (.errlogPop who) s fun u =>
      SameRegs [regKey Pg.brg 0x64, regKey Pg.brg 0x68, regKey Pg.brg 0x6C] s u ∧ u.brg.errlog = rs ∧ u.brg.loss = s.brg.loss ∧
        getW u Pg.brg 0x64 = BitVec.ofNat 32 r.addr ∧
          Answers s u who Pg.brg 0x60 (BitVec.ofNat 32 (r.status % 256 + 256 * (r.cause % 256) + 2 ^ 16 * (r.kind % 8) +
            (if r.discarded then 2 ^ 19 else 0) + 2 ^ 20 * (r.win % 16) + 2 ^ 31)) := by
  have hpop : errPopNow (accNext (cleared s)) =
      (BitVec.ofNat 32 (r.status % 256 + 256 * (r.cause % 256) + 2 ^ 16 * (r.kind % 8) + (if r.discarded then 2 ^ 19 else 0) +
          2 ^ 20 * (r.win % 16) + 2 ^ 31),
        setW (setW (setW (setBrg (accNext (cleared s)) { s.brg with errlog := rs }) Pg.brg 0x64 (BitVec.ofNat 32 r.addr)) Pg.brg 0x68
          (BitVec.ofNat 32 (r.addr / 2 ^ 32))) Pg.brg 0x6C (fieldPut (fieldPut 0#32 F.BRG_ERRLOG3_LEN r.len) F.BRG_ERRLOG3_TAG r.tag)) := by
    have hl1 : (accNext (cleared s)).brg.errlog = r :: rs := hl
    rw [errPopNow, hl1]
    rfl
  refine completes_read h rfl rfl ((regRead_errlog _).trans hpop) rfl fun u hu hb ha => ?_
  obtain ⟨hlog, hloss⟩ := logs_of_beside hb
  refine ⟨((((SameRegs.refl _ s).setW (by simp)).setW (by simp)).setW (by simp)).of_eq hu, hlog, hloss, ?_, ha⟩
  rw [getW_of_regs hu, getW_setW_ne _ _ (by decide), getW_setW_ne _ _ (by decide), getW_setW_same]

/-- A pop of the empty loss log reads 0. -/
theorem completes_speclossPop_none {s : State} {who : Agent} (h : accReaches s who Pg.brg 0x74 = true) (hl : s.brg.loss = []) :
    Completes (.speclossPop who) s fun u => SameRegs [regKey Pg.brg 0x78, regKey Pg.brg 0x7C] s u ∧ Answers s u who Pg.brg 0x74 0#32 ∧
      u.brg.loss = [] ∧ u.brg.errlog = s.brg.errlog := by
  have hpop : lossPopNow (accNext (cleared s)) = (0#32, setW (setW (accNext (cleared s)) Pg.brg 0x78 0#32) Pg.brg 0x7C 0#32) := by
    have hl1 : (accNext (cleared s)).brg.loss = [] := hl
    rw [lossPopNow, hl1]
  refine completes_read h rfl rfl ((regRead_specloss _).trans hpop) rfl fun u hu hb ha => ?_
  obtain ⟨hlog, hloss⟩ := logs_of_beside hb
  exact ⟨(((SameRegs.refl _ s).setW (by simp)).setW (by simp)).of_eq hu, ha, hloss.trans hl, hlog⟩

/-- A pop of the loss log gives the oldest record and removes it. -/
theorem completes_speclossPop_some {s : State} {who : Agent} {r : LossRec} {rs : List LossRec} (h : accReaches s who Pg.brg 0x74 = true)
    (hl : s.brg.loss = r :: rs) : Completes (.speclossPop who) s fun u => SameRegs [regKey Pg.brg 0x78, regKey Pg.brg 0x7C] s u ∧ u.brg.loss = rs ∧
      u.brg.errlog = s.brg.errlog ∧ getW u Pg.brg 0x78 = BitVec.ofNat 32 r.addr ∧
        Answers s u who Pg.brg 0x74
          (BitVec.ofNat 32 (r.win % 16 + (if r.unknown then 16 else 0) + 256 * (r.firstUnused % 256) + 65536 * (r.tag % 1024) + 2 ^ 31)) := by
  have hpop : lossPopNow (accNext (cleared s)) =
      (BitVec.ofNat 32 (r.win % 16 + (if r.unknown then 16 else 0) + 256 * (r.firstUnused % 256) + 65536 * (r.tag % 1024) + 2 ^ 31),
        setW (setW (setBrg (accNext (cleared s)) { s.brg with loss := rs }) Pg.brg 0x78 (BitVec.ofNat 32 r.addr)) Pg.brg 0x7C
          (BitVec.ofNat 32 (r.addr / 2 ^ 32))) := by
    have hl1 : (accNext (cleared s)).brg.loss = r :: rs := hl
    rw [lossPopNow, hl1]
    rfl
  refine completes_read h rfl rfl ((regRead_specloss _).trans hpop) rfl fun u hu hb ha => ?_
  obtain ⟨hlog, hloss⟩ := logs_of_beside hb
  refine ⟨(((SameRegs.refl _ s).setW (by simp)).setW (by simp)).of_eq hu, hloss, hlog, ?_, ha⟩
  rw [getW_of_regs hu, getW_setW_ne _ _ (by decide), getW_setW_same]

/-- Settles O28: the record of a transaction that ends is answered once, and a pop reads its log. -/
theorem inboundEndsAndLogs : Obligations.InboundEndsAndLogs := by
  unfold Obligations.InboundEndsAndLogs
  refine ⟨fun s t x h ha hctx hheld hseq hrep => ?_, fun s who => ⟨fun hr hl => completes_errlogPop_none hr hl,
    fun r rs hr hl => completes_errlogPop_some hr hl, fun hr hl => completes_speclossPop_none hr hl, fun r rs hr hl => completes_speclossPop_some hr hl⟩⟩
  have hh : HeadAlone (cleared s) t.ctx h := ⟨x, hctx, hheld, hseq, hrep⟩
  refine ⟨fun tag r data hfind hreads htag htodo hgot hdata hplace hlen hd => ?_, fun tag data hfind => ?_, fun hfind hne => ?_, fun hfind hbegun => ?_⟩
  · obtain ⟨hans, hgone, htxn, herr⟩ := hostCompletion_last hh hfind hreads htag htodo hgot hdata hplace hlen hd
    refine ⟨completes_during ha rfl ⟨hans, hgone, htxn⟩, completes_during ha rfl ?_⟩
    rw [inboundMeet_ended hgone]
    exact ⟨hans, hgone, herr⟩
  · obtain ⟨hans, _, herr⟩ := ibFail_spec 0x40 hh
    refine completes_during ha rfl ?_
    rw [hostCompletion_ur (s := cleared s) data hfind]
    exact ⟨hans, herr⟩
  · have hlate : inboundMeet (cleared s) t.ctx none = ibFail (cleared s) t.ctx 0x43 := by
      have hfind' : (cleared s).brg.ibTxns.find? (·.ctx == t.ctx) = some t := hfind
      rw [inboundMeet, inboundLate, hfind']
      exact if_neg (by simpa using hne)
    exact completes_during ha rfl (hlate ▸ ibFail_spec 0x43 hh)
  · have huncr : inboundUncredited (cleared s) t.ctx = ibFail (cleared s) t.ctx 0x44 := by
      have hfind' : (cleared s).brg.ibTxns.find? (·.ctx == t.ctx) = some t := hfind
      rw [inboundUncredited, hfind']
      exact if_neg (by simp [hbegun])
    exact completes_during ha rfl (huncr ▸ ibFail_spec 0x44 hh)

end Sys2Proof.Machine
end

section
/-! PROOFS. What the bridge's own work leaves alone: offers and their pieces, run-ahead, answers to the host, closures (R195 to R208). -/

namespace Sys2Proof.Machine

/-! ## States with the same bridge -/

/-- Registers of the bridge's page that its own work never writes: LINK_CFG and the counts of host requests. -/
def hostKeys : List Nat := [regKey Pg.brg 0x48, fKey Pg.brg F.BRG_HOST_RD, fKey Pg.brg F.BRG_HOST_WR]

theorem header_notHost (p : Nat) {o : Nat} (h : o < 0x40) : regKey p o ∉ hostKeys := by
  simp only [hostKeys, fKey, regKey, Pg.brg, F.BRG_HOST_RD, F.BRG_HOST_WR, List.mem_cons, List.not_mem_nil, or_false]
  omega

theorem past_notHost {p : Nat} (o : Nat) (h : Pg.brg < p) : regKey p o ∉ hostKeys := by
  simp only [Pg.brg] at h
  simp only [hostKeys, fKey, regKey, Pg.brg, F.BRG_HOST_RD, F.BRG_HOST_WR, List.mem_cons, List.not_mem_nil, or_false]
  omega

/-- The bridge's state and those registers stand, and outputs are only added. -/
structure BrgSame (s t : State) : Prop where
  brg : t.brg = s.brg
  regs : ∀ k ∈ hostKeys, tabGet t.regs k = tabGet s.regs k
  out : s.out ⊆ t.out

theorem BrgSame.refl (s : State) : BrgSame s s := ⟨rfl, fun _ _ => rfl, List.Subset.refl _⟩

theorem BrgSame.trans {s t u : State} (a : BrgSame s t) (b : BrgSame t u) : BrgSame s u :=
  ⟨b.brg.trans a.brg, fun k hk => (b.regs k hk).trans (a.regs k hk), List.Subset.trans a.out b.out⟩

/-- An update beside the bridge, the registers and the outputs. -/
theorem BrgSame.of_eq {s t u : State} (a : BrgSame s t) (hb : u.brg = t.brg) (hr : u.regs = t.regs) (ho : u.out = t.out) : BrgSame s u :=
  a.trans ⟨hb, fun k _ => by rw [hr], by rw [ho]; exact List.Subset.refl _⟩

theorem BrgSame.setW {s t : State} {p o : Nat} {v : Word} (a : BrgSame s t) (h : regKey p o ∉ hostKeys) : BrgSame s (setW t p o v) :=
  a.trans ⟨rfl, fun _ hk => tabGet_tabSet_ne _ _ (by rintro rfl; exact h hk), List.Subset.refl _⟩

theorem BrgSame.setF {s t : State} {p : Nat} {f : FieldD} {v i : Nat} (a : BrgSame s t) (h : fKey p f i ∉ hostKeys) : BrgSame s (setF t p f v i) :=
  a.setW h

theorem BrgSame.bump {s t : State} {p : Nat} {f : FieldD} {n i : Nat} (a : BrgSame s t) (h : fKey p f i ∉ hostKeys) : BrgSame s (bump t p f n i) :=
  a.setW h

theorem BrgSame.bumpSat {s t : State} {p : Nat} {f : FieldD} {n i : Nat} (a : BrgSame s t) (h : fKey p f i ∉ hostKeys) :
    BrgSame s (bumpSat t p f n i) := a.setW h

theorem BrgSame.irqEvent {s t : State} {p b : Nat} (a : BrgSame s t) : BrgSame s (irqEvent t p b) := by
  unfold Machine.irqEvent
  dsimp only
  split
  · exact a.setW (header_notHost p (by decide))
  · exact (a.setW (header_notHost p (by decide))).setW (header_notHost p (by decide))

theorem BrgSame.noteErr {s t : State} {p st c r : Nat} (a : BrgSame s t) : BrgSame s (noteErr t p st c r) := by
  have h : BrgSame s (Machine.irqEvent (Machine.bumpSat t p F.ERR_COUNT_COUNT) p 1) := (a.bumpSat (header_notHost p (by decide))).irqEvent
  unfold Machine.noteErr recordErr
  dsimp only
  split
  · exact h
  · exact h.setW (header_notHost p (by decide))

theorem BrgSame.emit {s t : State} {o : Out} (a : BrgSame s t) : BrgSame s (emit t o) :=
  a.trans ⟨rfl, fun _ _ => rfl, List.subset_append_left _ _⟩

/-- What each step of a fold keeps, the fold keeps. -/
theorem BrgSame.foldl {α : Type} {s t : State} {f : State → α → State} (a : BrgSame s t) (h : ∀ b x, BrgSame b (f b x)) (l : List α) :
    BrgSame s (l.foldl f t) := by
  induction l generalizing t with
  | nil => exact a
  | cons x l ih => exact ih (a.trans (h t x))

/-! ## The sequencing engine beside the bridge (R109, R113, R130) -/

theorem brgSame_seqLog (s : State) (r : SeqLog) : BrgSame s (seqLog s r) := by
  unfold seqLog
  split
  · exact .of_eq (.refl s) rfl rfl rfl
  · exact ((BrgSame.refl s).bumpSat (by decide)).irqEvent

theorem brgSame_refuse (s : State) (t : Txn) (status cause page : Nat) : BrgSame s (refuse s t status cause page) :=
  ((BrgSame.refl s).noteErr.trans (brgSame_seqLog ..)).of_eq rfl rfl rfl

theorem brgSame_headgate (s : State) (hg charge : Nat) : BrgSame s (headgate s hg charge).2 := by
  have hfar : ∀ f : FieldD, ∀ i, fKey (Pg.hdg hg) f i ∉ hostKeys := fun f i => past_notHost _ (Nat.lt_of_lt_of_le (by decide) (Nat.le_add_right 0x080 _))
  unfold headgate
  extract_lets pg i t s1
  split
  · exact .refl s
  · split
    · exact (BrgSame.refl s).setF (hfar _ _)
    · have h1 : BrgSame s s1 := (BrgSame.refl s).bump (hfar _ _)
      split
      · exact h1.bump (hfar _ _)
      · exact h1

theorem brgSame_issueTagged (s : State) (t : Txn) : BrgSame s (issueTagged s t) := by
  unfold issueTagged
  split
  · exact brgSame_refuse ..
  · split
    · exact .of_eq (.refl s) rfl rfl rfl
    · rename_i hg _
      have hv := brgSame_headgate s hg (txnCharge t.op t.len)
      dsimp only
      split
      · exact ((hv.trans (brgSame_refuse ..)).bump (past_notHost _ (Nat.lt_of_lt_of_le (by decide) (Nat.le_add_right 0x080 _)))).irqEvent
      · exact hv.of_eq rfl rfl rfl

theorem brgSame_startFill (s : State) (flow q reason : Nat) : BrgSame s (startFill s flow q reason) := by
  unfold startFill joinFurrow
  dsimp only
  split <;> exact .of_eq (.refl s) rfl rfl rfl

/-! ## What the bridge's offers and answers leave alone -/

/-- The bridge's work on its offers: it forms no write and no window and gives no number, and of the host reads it leaves those whose numbers
`keep` names. -/
structure PumpKept (keep : Nat → Prop) (s t : State) : Prop where
  perst : t.brg.perst = s.brg.perst
  ob : t.brg.ob = s.brg.ob
  nextId : t.brg.nextId = s.brg.nextId
  writes : t.brg.writes = s.brg.writes
  reads : ∀ i, keep i → t.brg.reads.filter (·.rid == i) = s.brg.reads.filter (·.rid == i)
  regs : ∀ k ∈ hostKeys, tabGet t.regs k = tabGet s.regs k
  out : s.out ⊆ t.out

/-- Every host read. -/
def everyRead (_ : Nat) : Prop := True

theorem BrgSame.pump {s t : State} (a : BrgSame s t) (keep : Nat → Prop) : PumpKept keep s t :=
  ⟨by rw [a.brg], by rw [a.brg], by rw [a.brg], by rw [a.brg], fun _ _ => by rw [a.brg], a.regs, a.out⟩

theorem PumpKept.refl (keep : Nat → Prop) (s : State) : PumpKept keep s s := (BrgSame.refl s).pump keep

variable {keep : Nat → Prop} {s t u : State}

theorem PumpKept.trans (a : PumpKept keep s t) (b : PumpKept keep t u) : PumpKept keep s u :=
  ⟨b.perst.trans a.perst, b.ob.trans a.ob, b.nextId.trans a.nextId, b.writes.trans a.writes, fun i hi => (b.reads i hi).trans (a.reads i hi),
    fun k hk => (b.regs k hk).trans (a.regs k hk), List.Subset.trans a.out b.out⟩

theorem PumpKept.mono {weak : Nat → Prop} (a : PumpKept keep s t) (h : ∀ i, weak i → keep i) : PumpKept weak s t :=
  { a with reads := fun i hi => a.reads i (h i hi) }

/-- What leaves every read alone leaves those that `keep` names. -/
theorem PumpKept.every (a : PumpKept everyRead s t) (keep : Nat → Prop) : PumpKept keep s t := a.mono fun _ _ => trivial

theorem PumpKept.same (a : PumpKept keep s t) (b : BrgSame t u) : PumpKept keep s u := a.trans (b.pump keep)

/-- An update of the bridge beside what it keeps. -/
theorem PumpKept.setBrg {b : BridgeSt} (a : PumpKept keep s t) (hp : b.perst = t.brg.perst) (ho : b.ob = t.brg.ob) (hn : b.nextId = t.brg.nextId)
    (hw : b.writes = t.brg.writes) (hr : ∀ i, keep i → b.reads.filter (·.rid == i) = t.brg.reads.filter (·.rid == i)) :
    PumpKept keep s (setBrg t b) :=
  a.trans ⟨hp, ho, hn, hw, hr, fun _ _ => rfl, List.Subset.refl _⟩

/-- Such an update, before what keeps the rest. -/
theorem PumpKept.fromBrg {b : BridgeSt} (a : PumpKept keep (Machine.setBrg s b) t) (hp : b.perst = s.brg.perst) (ho : b.ob = s.brg.ob)
    (hn : b.nextId = s.brg.nextId) (hw : b.writes = s.brg.writes)
    (hr : ∀ i, keep i → b.reads.filter (·.rid == i) = s.brg.reads.filter (·.rid == i)) : PumpKept keep s t :=
  ((PumpKept.refl keep s).setBrg hp ho hn hw hr).trans a

theorem PumpKept.foldl {α : Type} {f : State → α → State} (a : PumpKept keep s t) (l : List α) (h : ∀ b, ∀ x ∈ l, PumpKept keep b (f b x)) :
    PumpKept keep s (l.foldl f t) := by
  induction l generalizing t with
  | nil => exact a
  | cons x l ih => exact ih (a.trans (h t x List.mem_cons_self)) fun b y hy => h b y (List.mem_cons_of_mem _ hy)

/-! ## Run-ahead (R205 to R208) -/

theorem pumpKept_specLoss (s : State) (r : LossRec) : PumpKept everyRead s (specLoss s r) := by
  unfold specLoss
  split
  · exact ((PumpKept.refl _ s).setBrg (b := { s.brg with loss := s.brg.loss ++ [r] }) rfl rfl rfl rfl fun _ _ => rfl).same (BrgSame.refl _).irqEvent
  · exact (((BrgSame.refl s).bumpSat (by decide)).irqEvent).pump _

theorem pumpKept_partLoss (s : State) (p : PfPart) : PumpKept everyRead s (partLoss s p) := by
  unfold partLoss
  split
  · exact pumpKept_specLoss ..
  · exact .refl _ s

theorem pumpKept_partDiscard (s : State) (p : PfPart) : PumpKept everyRead s (partDiscard s p) := by
  unfold partDiscard
  split
  · exact (PumpKept.refl _ s).setBrg rfl rfl rfl rfl fun _ _ => rfl
  · exact (pumpKept_partLoss ..).fromBrg rfl rfl rfl rfl fun _ _ => rfl

theorem pumpKept_discardParts (s : State) (f : PfPart → Bool) : PumpKept everyRead s (discardParts s f) := by
  unfold discardParts
  dsimp only
  split
  · exact .refl _ s
  · exact (((BrgSame.refl s).bump (by decide)).pump _).foldl _ fun a p _ => pumpKept_partDiscard a p

theorem pumpKept_aheadReads (s : State) (win : Nat) (w : ObWin) (last : Nat) : PumpKept everyRead s (aheadReads s win w last) := by
  unfold aheadReads
  split
  · exact .refl _ s
  · refine (PumpKept.refl _ s).foldl _ fun a i _ => (PumpKept.refl _ a).foldl _ fun b r _ => ?_
    split
    · exact .refl _ b
    · split
      · exact (PumpKept.refl _ b).setBrg rfl rfl rfl rfl fun _ _ => rfl
      · exact .refl _ b

theorem pumpKept_runAhead (s : State) (win : Nat) (w : ObWin) (last : Nat) : PumpKept everyRead s (runAhead s win w last) := by
  unfold runAhead
  split
  · exact .refl _ s
  · exact (pumpKept_discardParts ..).trans (pumpKept_aheadReads ..)

/-! ## Reads that are answered, sent or kept waiting (R201, R205, R206) -/

theorem brgSame_readFail (s : State) (ptag win : Nat) (ur : Bool) : BrgSame s (readFail s ptag win ur) := by
  unfold readFail
  refine (((BrgSame.refl s).bump ?_).bump (past_notHost (p := Pg.win) _ (by decide))).emit
  cases ur <;> decide

theorem brgSame_emitCpls (s : State) (ptag : Nat) (ks : List Nat) (data : List Byte) : BrgSame s (emitCpls s ptag ks data) := by
  induction ks generalizing s data with
  | nil => exact .refl s
  | cons k ks ih => exact (BrgSame.refl s).emit.trans (ih _ _)

/-- Reads of another number are found beside those that go. -/
theorem filter_rid_gone {i rid : Nat} (h : i ≠ rid) (l : List HostRd) : (l.filter (·.rid != rid)).filter (·.rid == i) = l.filter (·.rid == i) := by
  rw [List.filter_filter]
  refine List.filter_congr fun x _ => ?_
  by_cases hx : x.rid = i <;> simp [hx, h]

/-- Reads of another number are found beside those that change. -/
theorem filter_rid_mapIf {i rid : Nat} {g : HostRd → HostRd} (h : i ≠ rid) (hg : ∀ x, (g x).rid = x.rid) (l : List HostRd) :
    (mapIf (fun x : HostRd => x.rid == rid) g l).filter (·.rid == i) = l.filter (·.rid == i) := by
  induction l with
  | nil => rfl
  | cons x xs ih =>
    unfold mapIf at ih ⊢
    rw [List.map_cons, List.filter_cons, List.filter_cons, ih]
    by_cases hx : x.rid = rid <;> simp [hx, hg, h.symm]

theorem pumpKept_readRespond (s : State) (r : HostRd) : PumpKept (· ≠ r.rid) s (readRespond s r) := by
  have h1 : PumpKept (· ≠ r.rid) s (setBrg s { s.brg with reads := s.brg.reads.filter (·.rid != r.rid) }) :=
    (PumpKept.refl _ s).setBrg rfl rfl rfl rfl fun _ hi => filter_rid_gone hi _
  unfold readRespond
  dsimp only
  split
  · exact h1.same (brgSame_emitCpls ..)
  · exact h1.same (brgSame_readFail ..)

theorem pumpKept_demandRead (s : State) (r : HostRd) (w : ObWin) : PumpKept (· ≠ r.rid) s (demandRead s r w) := by
  unfold demandRead
  exact ((pumpKept_runAhead ..).every _).fromBrg rfl rfl rfl rfl fun _ hi =>
    filter_rid_mapIf (g := fun x => { x with sent := true }) hi (fun _ => rfl) _

theorem pumpKept_hitRead (s : State) (r : HostRd) (w : ObWin) : PumpKept (· ≠ r.rid) s (hitRead s r w) := by
  have hm : PumpKept (· ≠ r.rid) s (markGiven s r.win (neededBytes r)) := (PumpKept.refl _ s).setBrg rfl rfl rfl rfl fun _ _ => rfl
  have h0 : PumpKept (· ≠ r.rid) s (bump (markGiven s r.win (neededBytes r)) Pg.win F.WIN_PF_HIT 1 r.win) :=
    hm.same ((BrgSame.refl _).bump (past_notHost (p := Pg.win) _ (by decide)))
  unfold hitRead
  extract_lets need r1 s1
  have h1 : PumpKept (· ≠ r.rid) s s1 := h0.trans (pumpKept_readRespond _ r1)
  exact h1.trans (((pumpKept_runAhead ..).every _).fromBrg rfl rfl rfl rfl fun _ _ => rfl)

theorem pumpKept_serveRead (s : State) (r : HostRd) (w : ObWin) : PumpKept (· ≠ r.rid) s (serveRead s r w) := by
  unfold serveRead
  extract_lets need opened
  split
  · exact pumpKept_hitRead ..
  · split
    · exact ((pumpKept_aheadReads ..).every _).fromBrg rfl rfl rfl rfl fun _ hi =>
        filter_rid_mapIf (g := fun x => { x with lines := opened }) hi (fun _ => rfl) _
    · split
      · exact (((BrgSame.refl s).bump (by decide)).pump _).trans (pumpKept_demandRead ..)
      · exact pumpKept_demandRead ..

/-- A host read that has been sent on and is no flush: the bridge's turns no longer touch it. -/
def ReadsSent (s : State) (i : Nat) : Prop := ∀ x ∈ s.brg.reads, x.rid = i → x.sent = true ∧ x.flush = false

theorem ReadsSent.kept {i : Nat} (h : ReadsSent s i) (a : PumpKept (ReadsSent s) s t) : ReadsSent t i := fun x hx hi => by
  have hmem : x ∈ t.brg.reads.filter (·.rid == i) := List.mem_filter.2 ⟨hx, by simpa using hi⟩
  rw [a.reads i h] at hmem
  exact h x (List.mem_filter.1 hmem).1 hi

theorem pumpKept_linesCame (s : State) : PumpKept (ReadsSent s) s (linesCame s) := by
  refine (PumpKept.refl _ s).foldl _ fun a r hr => ?_
  obtain ⟨hmem, hwait⟩ := List.mem_filter.1 hr
  have hne : ∀ i, ReadsSent s i → i ≠ r.rid := fun i hi he => by
    obtain ⟨hsent, _⟩ := hi r hmem he.symm
    simp [readWaits, hsent] at hwait
  split
  · exact (pumpKept_serveRead a r _).mono hne
  · exact .refl _ a

/-! ## Offers go on (R197, R198, R200) -/

theorem pumpKept_brgIssue (s : State) (o : BrgOffer) (w : ObWin) (tag : Nat) : PumpKept everyRead s (brgIssue s o w tag) := by
  unfold brgIssue
  extract_lets isW isS b1 s1 s2
  have h1 : PumpKept everyRead s s1 :=
    PumpKept.setBrg ((BrgSame.of_eq (u := takeTag s tag) (.refl s) rfl rfl rfl).pump _) rfl rfl rfl rfl fun _ _ => rfl
  have h2 : PumpKept everyRead s s2 := by
    simp only [s2]
    split
    · exact h1.same ((BrgSame.refl _).bump (by decide))
    · exact h1
  exact h2.same (brgSame_issueTagged ..)

theorem pumpKept_pumpOffers (os : List BrgOffer) (ww rw sw : List Nat) (s : State) : PumpKept everyRead s (pumpOffers os ww rw sw s) := by
  induction os generalizing ww rw sw s with
  | nil => exact .refl _ s
  | cons o os ih =>
    have hissue : ∀ w tag ww rw sw, PumpKept everyRead s (pumpOffers os ww rw sw (brgIssue s o w tag)) := fun _ _ _ _ _ =>
      (pumpKept_brgIssue ..).trans (ih ..)
    have hgone : ∀ st ww rw sw, PumpKept everyRead s (pumpOffers os ww rw sw (specGone s o.win st)) := fun _ ww rw sw =>
      (ih ww rw sw (specGone ..)).fromBrg rfl rfl rfl rfl fun _ _ => rfl
    unfold pumpOffers
    split
    · exact ih ..
    · extract_lets b kept
      have hkept : ∀ ww rw sw, PumpKept everyRead s (pumpOffers os ww rw sw kept) := fun ww rw sw =>
        (ih ww rw sw kept).fromBrg rfl rfl rfl rfl fun _ _ => rfl
      split
      · split
        · exact hissue ..
        · exact hkept ..
      · extract_lets need
        split
        · exact hkept ..
        · split
          · exact hissue ..
          · exact hkept ..
      · exact hkept ..
      · split
        · exact hgone ..
        · split
          · split
            · exact hissue ..
            · exact hgone ..
          · exact hkept ..

theorem pumpKept_pumpFlush (s : State) : PumpKept (ReadsSent s) s (pumpFlush s) := by
  refine (PumpKept.refl _ s).foldl _ fun a r hr => ?_
  obtain ⟨hmem, hready⟩ := List.mem_filter.1 hr
  have hne : ∀ i, ReadsSent s i → i ≠ r.rid := fun i hi he => by
    obtain ⟨_, hflush⟩ := hi r hmem he.symm
    simp [hflush] at hready
  exact ((BrgSame.refl _).emit.pump _).fromBrg rfl rfl rfl rfl fun i hi => filter_rid_gone (hne i hi) _

theorem pumpKept_brgTurn (s : State) : PumpKept (ReadsSent s) s (brgTurn s) := by
  unfold brgTurn
  extract_lets s1
  have h1 : PumpKept (ReadsSent s) s s1 := pumpKept_linesCame s
  have h2 := (h1.setBrg (b := { s1.brg with offers := [] }) rfl rfl rfl rfl fun _ _ => rfl).trans
    ((pumpKept_pumpOffers s1.brg.offers [] [] [] _).every _)
  exact h2.trans ((pumpKept_pumpFlush _).mono fun i hi => hi.kept h2)

/-- The bridge's pump forms nothing new, and leaves alone the reads that have been sent on. -/
theorem pumpKept_brgPump (s : State) : PumpKept (ReadsSent s) s (brgPump s) := by
  unfold brgPump
  have hstep : ∀ (l : List Nat) (a : State), PumpKept (ReadsSent s) s a → PumpKept (ReadsSent s) s (l.foldl (fun a _ => brgTurn a) a) := fun l => by
    induction l with
    | nil => exact fun _ ha => ha
    | cons _ l ih => exact fun a ha => ih _ (ha.trans ((pumpKept_brgTurn a).mono fun i hi => hi.kept ha))
  exact hstep _ s (.refl _ s)

end Sys2Proof.Machine
end

section
/-! PROOFS. What the end of the bridge's work leaves alone: closures, reads that are abandoned, and its reset (R196, R202, R207, R214). -/

namespace Sys2Proof.Machine

/-- The reset pin and the host's words of the bridge's page stand. -/
structure LinkKept (s t : State) : Prop where
  perst : t.brg.perst = s.brg.perst
  regs : ∀ k ∈ hostKeys, tabGet t.regs k = tabGet s.regs k

theorem LinkKept.refl (s : State) : LinkKept s s := ⟨rfl, fun _ _ => rfl⟩

variable {s t u : State}

theorem LinkKept.trans (a : LinkKept s t) (b : LinkKept t u) : LinkKept s u :=
  ⟨b.perst.trans a.perst, fun k hk => (b.regs k hk).trans (a.regs k hk)⟩

theorem BrgSame.link (a : BrgSame s t) : LinkKept s t := ⟨by rw [a.brg], a.regs⟩

theorem PumpKept.link {keep : Nat → Prop} (a : PumpKept keep s t) : LinkKept s t := ⟨a.perst, a.regs⟩

/-- An update of the bridge beside its reset pin. -/
theorem LinkKept.setBrg {b : BridgeSt} (a : LinkKept s t) (hp : b.perst = t.brg.perst) : LinkKept s (setBrg t b) := a.trans ⟨hp, fun _ _ => rfl⟩

/-- Such an update, before what keeps the rest. -/
theorem LinkKept.fromBrg {b : BridgeSt} (a : LinkKept (Machine.setBrg s b) t) (hp : b.perst = s.brg.perst) : LinkKept s t :=
  ((LinkKept.refl s).setBrg hp).trans a

theorem LinkKept.foldl {α : Type} {f : State → α → State} (a : LinkKept s t) (h : ∀ b x, LinkKept b (f b x)) (l : List α) :
    LinkKept s (l.foldl f t) := by
  induction l generalizing t with
  | nil => exact a
  | cons x l ih => exact ih (a.trans (h t x))

theorem linkKept_brgPump (s : State) : LinkKept s (brgPump s) := (pumpKept_brgPump s).link

theorem linkKept_errLog (s : State) (r : ErrRec) : LinkKept s (errLog s r) := by
  unfold errLog
  split
  · exact ⟨rfl, fun _ _ => rfl⟩
  · exact (((BrgSame.refl s).bumpSat (by decide)).irqEvent).link

theorem linkKept_pieceTaken (s : State) (wid : Nat) : LinkKept s (pieceTaken s wid) := by
  have hnote : ∀ a : State, BrgSame a (creditNote a Pg.brg) := fun a => by
    unfold creditNote
    split
    · exact .refl a
    · exact (BrgSame.refl a).bump (by decide)
  unfold pieceTaken
  extract_lets b s1
  have h1 : LinkKept s s1 := (LinkKept.refl s).setBrg rfl
  split
  · exact h1.trans (hnote s1).emit.link
  · exact h1

theorem linkKept_writeClosed (s : State) (o : BrgOpen) (wid status cause : Nat) : LinkKept s (writeClosed s o wid status cause) := by
  have hbump : ∀ a f, Pg.brg < Pg.win → LinkKept a (bump a Pg.win f 1 o.win) := fun a f h => ((BrgSame.refl a).bump (past_notHost _ h)).link
  unfold writeClosed
  extract_lets s1 s2 s3
  have h1 : LinkKept s s1 := hbump s _ (by decide)
  have h2 : LinkKept s s2 := by
    simp only [s2]
    split
    · exact h1
    · exact (h1.trans (hbump s1 _ (by decide))).trans (linkKept_errLog ..)
  have h3 : LinkKept s s3 := by
    simp only [s3]
    split
    · exact h2
    · exact h2.trans (linkKept_pieceTaken ..)
  exact h3.setBrg rfl

theorem linkKept_readClosed (s : State) (o : BrgOpen) (rid idx : Nat) (d : RdDone) : LinkKept s (readClosed s o rid idx d) := by
  unfold readClosed
  split
  · exact .refl s
  · extract_lets r1 b1 s1 all s2
    have h1 : LinkKept s s1 := (LinkKept.refl s).setBrg rfl
    have h2 : LinkKept s s2 := h1.trans (linkKept_errLog ..)
    split
    · split
      · exact h2.setBrg rfl
      · exact h2
    · split
      · exact h1.trans (pumpKept_readRespond ..).link
      · exact h1

theorem linkKept_specClosed (s : State) (o : BrgOpen) (status cause : Nat) (effectful : Bool) (data : List Byte) :
    LinkKept s (specClosed s o status cause effectful data) := by
  unfold specClosed
  split
  · exact .refl s
  · dsimp only
    split
    · exact (pumpKept_partLoss ..).link.fromBrg rfl
    · exact (LinkKept.refl s).setBrg rfl

theorem linkKept_brgClosed (s : State) (c : Closing) : LinkKept s (brgClosed s c) := by
  unfold brgClosed
  split
  · exact .refl s
  · extract_lets b s1 s2
    have h1 : LinkKept s s1 := (LinkKept.refl s).setBrg rfl
    have h2 : LinkKept s1 s2 := by
      simp only [s2]
      split
      · exact linkKept_writeClosed ..
      · exact linkKept_readClosed ..
      · exact linkKept_specClosed ..
      · exact .refl s1
    exact (h1.trans h2).trans (linkKept_brgPump s2)

theorem linkKept_abortPiece (s : State) (o : BrgOpen) : LinkKept s (abortPiece s o) := by
  have hwait : ∀ fl, LinkKept s (unwait s fl o.tag) := fun _ => ⟨rfl, fun _ _ => rfl⟩
  unfold abortPiece
  extract_lets fl
  split
  · exact (hwait fl).trans (linkKept_brgClosed ..)
  · split
    · split
      · split
        · exact .refl s
        · exact (brgSame_startFill ..).link
      · exact .refl s
    · exact .refl s

theorem linkKept_abandonRead (s : State) (r : HostRd) (status cause : Nat) : LinkKept s (abandonRead s r status cause) := by
  have hlog : ∀ (a : State) (p : Piece) d, LinkKept a (abandonLog a r.win p.addr p.len d) := fun a p d => linkKept_errLog ..
  unfold abandonRead
  split
  · exact (LinkKept.refl s).setBrg rfl
  · extract_lets unsent b1 s1 d s2 b2 s3
    have h1 : LinkKept s s1 := (LinkKept.refl s).setBrg rfl
    have h2 : LinkKept s s2 := by
      refine h1.foldl (fun a i => ?_) _
      split
      · exact hlog ..
      · split
        · exact (hlog ..).setBrg rfl
        · exact .refl a
      · exact .refl a
    have h3 : LinkKept s s3 := h2.setBrg rfl
    exact h3.foldl (fun a o => linkKept_abortPiece a o) _

/-- The transactions that have not been accepted end: refused, or aborted. -/
theorem brgSame_endAborted (s : State) (sel : Txn → Bool) (cause page : Nat) : BrgSame s (endUnaccepted s sel St.aborted cause page) := by
  unfold endUnaccepted
  extract_lets gone s1
  have h0 : BrgSame s (mapFlows s fun f => { f with waiting := f.waiting.filter fun t => !sel t }) := .of_eq (.refl s) rfl rfl rfl
  have h1 : BrgSame s s1 := h0.foldl (fun a t => brgSame_refuse ..) gone
  exact h1.foldl (fun a x => brgSame_startFill ..) _

theorem linkKept_brgReset (s : State) : LinkKept s (brgReset s false St.aborted 0) := by
  unfold brgReset
  extract_lets wOffers b1 s1 s2 s3 s4
  have h1 : LinkKept s s1 := (LinkKept.refl s).setBrg rfl
  have h2 : LinkKept s s2 := by
    refine h1.foldl (fun a o => ?_) _
    split
    · exact (BrgSame.refl a).noteErr.link.trans (linkKept_writeClosed ..)
    · exact .refl a
  have h3 : LinkKept s s3 := h2.trans (brgSame_endAborted ..).link
  have h4 : LinkKept s s4 := h3.foldl (fun a r => linkKept_abandonRead ..) _
  exact h4.trans (pumpKept_discardParts ..).link

end Sys2Proof.Machine
end

section
/-! PROOFS. The bridge's windows commit, and its link, configuration space and credits (R185 to R188, R191, R207, R209, R211, R213, R214, R471). -/

namespace Sys2Proof.Machine

/-! ## Discards and the registers they count in (R207) -/

/-- Registers that a record of lost data changes. -/
def lossKeys : List Nat := fKey Pg.brg F.BRG_SPECLOSS_OVF_COUNT :: irqKeys Pg.brg

/-- Registers that a discard of held lines changes. -/
def discardKeys : List Nat := fKey Pg.brg F.BRG_PF_DISCARD :: lossKeys

theorem sameRegs_partLoss (s : State) (p : PfPart) : SameRegs lossKeys s (partLoss s p) := by
  unfold partLoss specLoss
  split
  · refine SameRegs.irqEvent ?_ (by decide) (by decide)
    split
    · exact .refl _ s
    · exact (SameRegs.refl _ s).bumpSat (by decide)
  · exact .refl _ s

theorem sameRegs_partDiscard (s : State) (p : PfPart) : SameRegs discardKeys s (partDiscard s p) := by
  unfold partDiscard
  split
  · exact .refl _ s
  · exact ((sameRegs_partLoss _ p).mono fun _ hk => List.mem_cons_of_mem _ hk).from_eq rfl

theorem sameRegs_discardParts (s : State) (f : PfPart → Bool) : SameRegs discardKeys s (discardParts s f) := by
  have hfold : ∀ (l : List PfPart) a, SameRegs discardKeys s a → SameRegs discardKeys s (l.foldl partDiscard a) := fun l => by
    induction l with
    | nil => exact fun _ h => h
    | cons p l ih => exact fun a h => ih _ (h.trans (sameRegs_partDiscard a p))
  unfold discardParts
  dsimp only
  split
  · exact .refl _ s
  · exact hfold _ _ ((SameRegs.refl _ s).bump (by decide))

theorem discardParts_none {s : State} {f : PfPart → Bool} (h : ∀ p ∈ s.brg.parts, f p = false) : discardParts s f = s := by
  have hnil : s.brg.parts.filter (fun p => f p && !p.dropped) = [] := List.filter_eq_nil_iff.2 fun p hp => by simp [h p hp]
  simp only [discardParts, hnil, List.isEmpty_nil, if_true]

/-! ## Windows commit (R191, R207, R209) -/

/-- The window that stood, or the one that is committed. -/
theorem obCommit_windows (s : State) (k : Nat) (v : Word) :
    tabGet (obCommit s k v).brg.ob k = some (obStaged s k v) ∧ ∀ j, j ≠ k → tabGet (obCommit s k v).brg.ob j = tabGet s.brg.ob j := by
  have hob : (obCommit s k v).brg.ob = tabSet s.brg.ob k (obStaged s k v) := by
    unfold obCommit
    dsimp only
    split
    · rfl
    · exact congrArg (tabSet · k _) (pumpKept_discardParts ..).ob
  rw [hob]
  exact ⟨tabGet_tabSet_same .., fun j hj => tabGet_tabSet_ne _ _ hj⟩

/-- A commit changes no register but those in which a discard counts. -/
theorem sameRegs_obCommit (s : State) (k : Nat) (v : Word) : SameRegs discardKeys s (obCommit s k v) := by
  unfold obCommit
  dsimp only
  split
  · exact .refl _ s
  · exact (sameRegs_discardParts s _).of_eq rfl

/-- A window that stays enabled, or holds no line, discards none. -/
theorem obCommit_keepsParts {s : State} {k : Nat} {v : Word} (h : (obStaged s k v).en = true ∨ ∀ p ∈ s.brg.parts, p.win ≠ k) :
    (obCommit s k v).regs = s.regs ∧ (obCommit s k v).brg.parts = s.brg.parts := by
  have hsame : (if (obStaged s k v).en then s else discardParts s fun p => p.win == k) = s := by
    split
    · rfl
    · rename_i hen
      exact discardParts_none fun p hp => by simpa using h.resolve_left hen p hp
  simp only [obCommit, hsame]
  exact ⟨rfl, rfl⟩

/-- A window is staged by its other registers and the value of its CTL. -/
theorem obStaged_otherWords {s t : State} {k : Nat} (v : Word) (h : SameRegs [regKey Pg.win (0x110 + 64 * k)] s t) : obStaged t k v = obStaged s k v := by
  have hf : ∀ f ∈ [F.WIN_OB_HOST_LO_HOST_LO, F.WIN_OB_HOST_HI_HOST_HI, F.WIN_OB_FAB_LO_FAB_LO, F.WIN_OB_FAB_HI_FAB_HI, F.WIN_OB_TIME_TIMEOUT,
      F.WIN_OB_TIME_PF_LIFE], getF t Pg.win f k = getF s Pg.win f k := fun f hf => by
    have hoff : f.stride = 64 ∧ 0x100 ≤ f.off ∧ f.off < 0x118 ∧ f.off / 4 ≠ 0x110 / 4 := by
      revert f
      decide
    obtain ⟨hstride, hlo, hhi, hne⟩ := hoff
    refine h.getF ?_
    simp only [List.mem_singleton, fKey, hstride, regKey]
    omega
  simp only [List.forall_mem_cons] at hf
  obtain ⟨h1, h2, h3, h4, h5, h6, _⟩ := hf
  simp only [obStaged, h1, h2, h3, h4, h5, h6]

theorem ibStaged_otherWords {s t : State} {k : Nat} (v : Word) (h : SameRegs [regKey Pg.win (0x610 + 32 * k)] s t) : ibStaged t k v = ibStaged s k v := by
  have hf : ∀ f ∈ [F.WIN_IB_FAB_LO_FAB_LO, F.WIN_IB_FAB_HI_FAB_HI, F.WIN_IB_HOST_LO_HOST_LO, F.WIN_IB_HOST_HI_HOST_HI],
      getF t Pg.win f k = getF s Pg.win f k := fun f hf => by
    have hoff : f.stride = 32 ∧ 0x600 ≤ f.off ∧ f.off < 0x610 := by
      revert f
      decide
    obtain ⟨hstride, hlo, hhi⟩ := hoff
    refine h.getF ?_
    simp only [List.mem_singleton, fKey, hstride, regKey]
    omega
  simp only [List.forall_mem_cons] at hf
  obtain ⟨h1, h2, h3, h4, _⟩ := hf
  simp only [ibStaged, h1, h2, h3, h4]

/-- States that agree beside their registers agree on the bridge's windows and lines. -/
theorem windows_of_beside {s t : State} (h : beside s = beside t) : s.brg.ob = t.brg.ob ∧ s.brg.ib = t.brg.ib ∧ s.brg.parts = t.brg.parts :=
  ⟨show (beside s).brg.ob = (beside t).brg.ob from h ▸ rfl, show (beside s).brg.ib = (beside t).brg.ib from h ▸ rfl,
    show (beside s).brg.parts = (beside t).brg.parts from h ▸ rfl⟩

/-- What follows from a register of the windows' page. -/
theorem afterWrite_win (s : State) {off : Nat} (old : Word) (h : 0x40 ≤ off) : afterWrite s Pg.win off old =
    if 0x100 ≤ off ∧ off < 0x500 ∧ off % 64 = 0x10 then obCommit s (arrIx off 0x110 64) (getW s Pg.win off)
    else if 0x600 ≤ off ∧ off < 0x700 ∧ off % 32 = 0x10 then ibCommit s (arrIx off 0x610 32) (getW s Pg.win off) else s := by
  unfold afterWrite
  rw [if_neg (by omega), if_neg (by omega)]
  rfl

theorem afterWrite_ob (s : State) {k : Nat} (old : Word) (hk : k < 16) :
    afterWrite s Pg.win (0x110 + 64 * k) old = obCommit s k (getW s Pg.win (0x110 + 64 * k)) := by
  have hi : arrIx (0x110 + 64 * k) 0x110 64 = k := by simp only [arrIx]; omega
  rw [afterWrite_win _ _ (by omega), if_pos (by omega), hi]

theorem afterWrite_ib (s : State) {k : Nat} (old : Word) (hk : k < 8) :
    afterWrite s Pg.win (0x610 + 32 * k) old = ibCommit s k (getW s Pg.win (0x610 + 32 * k)) := by
  have hi : arrIx (0x610 + 32 * k) 0x610 32 = k := by simp only [arrIx]; omega
  rw [afterWrite_win _ _ (by omega), if_neg (by omega), if_pos (by omega), hi]

/-- A CTL write of an outbound window (R191). -/
theorem completes_obCtl {s : State} {who : Agent} {k : Nat} {v : Word} (hk : k < 16) (h : writeTaken s who Pg.win (0x110 + 64 * k) v = true) :
    Completes (.obCtlWrite who k v) s fun u =>
      getW u Pg.win (0x110 + 64 * k) = storedWord Pg.win (0x110 + 64 * k) (getW s Pg.win (0x110 + 64 * k)) v v ∧
        tabGet u.brg.ob k = some (obStaged s k (getW u Pg.win (0x110 + 64 * k))) ∧ (∀ j, j ≠ k → tabGet u.brg.ob j = tabGet s.brg.ob j) ∧
        ((obStaged s k (getW u Pg.win (0x110 + 64 * k))).en = true ∨ (∀ p ∈ s.brg.parts, p.win ≠ k) →
          SameRegs [regKey Pg.win (0x110 + 64 * k)] s u ∧ u.brg.parts = s.brg.parts) := by
  refine completes_taken h (by omega) rfl (fun _ => rfl) rfl (by simp only [hk, if_true]) fun t u hw ht hu hb => ?_
  rw [afterWrite_ob _ _ hk] at hu hb
  obtain ⟨hob, _, hpartsU⟩ := windows_of_beside hb
  obtain ⟨hobS, _, hpartsS⟩ := windows_of_beside ht.2
  have hword : getW u Pg.win (0x110 + 64 * k) = getW t Pg.win (0x110 + 64 * k) :=
    (getW_of_regs hu ..).trans ((sameRegs_obCommit t k _).getW (by
      simp only [discardKeys, lossKeys, irqKeys, fKey, regKey, Pg.win, Pg.brg, F.BRG_PF_DISCARD, F.BRG_SPECLOSS_OVF_COUNT, List.mem_cons, List.not_mem_nil, or_false]
      omega))
  obtain ⟨hthis, hothers⟩ := obCommit_windows t k (getW t Pg.win (0x110 + 64 * k))
  have hstaged := obStaged_otherWords (getW t Pg.win (0x110 + 64 * k)) ht.1
  rw [hword, hob, ← hstaged, ← hobS, ← hpartsS]
  refine ⟨hw, hthis, hothers, fun hkeep => ?_⟩
  obtain ⟨hregs, hparts⟩ := obCommit_keepsParts hkeep
  exact ⟨ht.1.of_eq (hu.trans hregs), hpartsU.trans hparts⟩

/-- A CTL write of an inbound window (R209). -/
theorem completes_ibCtl {s : State} {who : Agent} {k : Nat} {v : Word} (hk : k < 8) (h : writeTaken s who Pg.win (0x610 + 32 * k) v = true) :
    Completes (.ibCtlWrite who k v) s fun u =>
      getW u Pg.win (0x610 + 32 * k) = storedWord Pg.win (0x610 + 32 * k) (getW s Pg.win (0x610 + 32 * k)) v v ∧
        tabGet u.brg.ib k = some (ibStaged s k (getW u Pg.win (0x610 + 32 * k))) ∧ (∀ j, j ≠ k → tabGet u.brg.ib j = tabGet s.brg.ib j) ∧
        SameRegs [regKey Pg.win (0x610 + 32 * k)] s u := by
  refine completes_taken h (by omega) rfl (fun _ => rfl) rfl (by simp only [hk, if_true]) fun t u hw ht hu hb => ?_
  rw [afterWrite_ib _ _ hk] at hu hb
  have hword : getW u Pg.win (0x610 + 32 * k) = getW t Pg.win (0x610 + 32 * k) := getW_of_regs hu ..
  obtain ⟨_, hib, _⟩ := windows_of_beside hb
  obtain ⟨_, hibS, _⟩ := windows_of_beside ht.2
  have hset : u.brg.ib = tabSet t.brg.ib k (ibStaged t k (getW t Pg.win (0x610 + 32 * k))) := hib
  rw [hword, hset, hibS, ibStaged_otherWords _ ht.1]
  exact ⟨hw, tabGet_tabSet_same .., fun j hj => tabGet_tabSet_ne _ _ hj, ht.1.of_eq hu⟩

/-! ## The link (R185, R188, R214, R471) -/

/-- A field of LINK_STAT beside the one that is set. -/
theorem getF_setF_linkStat (s : State) (v : Nat) {f g : FieldD} (hf : f.off + f.stride * 0 = 0x4C) (hg : g.off + g.stride * 0 = 0x4C)
    (h : f.lo + f.w ≤ g.lo ∨ g.lo + g.w ≤ f.lo) (hw : g.lo + g.w ≤ 32) : getF (setF s Pg.brg f v) Pg.brg g = getF s Pg.brg g :=
  getF_setF_apart _ _ _ _ _ _ _ (hg.trans hf.symm) h hw

/-- Configuration space as a reset leaves it: the host's enables are off, what it wrote and its credits are gone, and the link is as it was. -/
theorem cfgReset_spec (s : State) : brgUp (cfgReset s) = brgUp s ∧ getB (cfgReset s) Pg.brg F.BRG_LINK_STAT_BME = false ∧
    getB (cfgReset s) Pg.brg F.BRG_LINK_STAT_MSE = false ∧ (cfgReset s).intr.pba = 0#64 ∧ getW (cfgReset s) Pg.brg 0x48 = getW s Pg.brg 0x48 ∧
      (cfgReset s).brg = { s.brg with msix := [], phCred := 0, pdCred := 0, nhCred := 0, bars := [] } := by
  refine ⟨?_, ?_, ?_, rfl, ?_, rfl⟩
  · simp (disch := decide) only [brgUp, getB, cfgReset, setB, getF_setF_linkStat]
    rfl
  · simp (disch := decide) only [getB, cfgReset, setB, getF_setF_linkStat, getF_setF_same]
    rfl
  · simp (disch := decide) only [getB, cfgReset, setB, getF_setF_linkStat, getF_setF_same]
    rfl
  · simp (disch := decide) only [cfgReset, setB, setF, getW_setW_ne]
    rfl

/-- The link is down after it has gone, and the reset pin and the staged LINK_CFG stand. -/
theorem linkGone_spec (s t : State)
    (ht : t = if brgUp s then irqEvent (setB (brgReset s false St.aborted 0) Pg.brg F.BRG_LINK_STAT_UP false) Pg.brg 5 else s) :
    brgUp t = false ∧ LinkKept s t := by
  subst ht
  split
  · refine ⟨?_, (linkKept_brgReset s).trans (((BrgSame.refl _).setF (by decide)).irqEvent).link⟩
    rw [brgUp, getB, getF_irqEvent_ne _ _ _ (by decide) (by decide)]
    exact getB_setB_same _ _ _ _ _ (by decide) rfl
  · rename_i h
    exact ⟨by simpa using h, .refl s⟩

/-- The link goes down (R188, R214): configuration space is as a reset leaves it, and LINK_CFG takes effect. -/
theorem pcieDown_spec (s : State) : brgUp (pcieDown s) = false ∧ getB (pcieDown s) Pg.brg F.BRG_LINK_STAT_BME = false ∧
    getB (pcieDown s) Pg.brg F.BRG_LINK_STAT_MSE = false ∧ (pcieDown s).brg.msix = [] ∧ (pcieDown s).brg.bars = [] ∧ (pcieDown s).brg.phCred = 0 ∧
      (pcieDown s).brg.pdCred = 0 ∧ (pcieDown s).brg.nhCred = 0 ∧ (pcieDown s).intr.pba = 0#64 ∧ (pcieDown s).brg.linkCfg = getW s Pg.brg 0x48 ∧
        (pcieDown s).brg.perst = s.brg.perst := by
  unfold pcieDown
  extract_lets s1 s2
  obtain ⟨hdown, hkept⟩ := linkGone_spec s s1 rfl
  obtain ⟨hup, hbme, hmse, hpba, hcfg, hbrg⟩ := cfgReset_spec s1
  have hword : getW s1 Pg.brg 0x48 = getW s Pg.brg 0x48 := by simp only [getW, hkept.regs (regKey Pg.brg 0x48) (by decide)]
  have hperst := hkept.perst
  clear_value s1
  exact ⟨hup.trans hdown, hbme, hmse, congrArg (·.msix) hbrg, congrArg (·.bars) hbrg, congrArg (·.phCred) hbrg, congrArg (·.pdCred) hbrg,
    congrArg (·.nhCred) hbrg, hpba, hcfg.trans hword, (congrArg (·.perst) hbrg).trans hperst⟩

/-- The link trains to the lesser of both ends (R185). -/
theorem pcieUp_spec {s : State} {speed width : Nat} (hdown : brgUp s = false) (hperst : s.brg.perst = false)
    (hstep : 9 ≤ getF s Pg.rst F.RST_STAT_STEP) : brgUp (pcieUp s speed width) = true ∧
      getF (pcieUp s speed width) Pg.brg F.BRG_LINK_STAT_SPEED = max 1 (min speed (wordBits s.brg.linkCfg 0 2)) ∧
      getF (pcieUp s speed width) Pg.brg F.BRG_LINK_STAT_WIDTH = max 1 (min width (if wordBits s.brg.linkCfg 2 1 = 1 then 1 else 2)) ∧
      getW (pcieUp s speed width) Pg.brg 0x10 = getW s Pg.brg 0x10 ||| 32#32 ∧
        OnlyRegs (fKey Pg.brg F.BRG_LINK_STAT_UP :: irqKeys Pg.brg) s (pcieUp s speed width) := by
  have htop : wordBits s.brg.linkCfg 0 2 < 4 := Nat.mod_lt _ (by decide)
  have htrain : (brgUp s || s.brg.perst || decide (getF s Pg.rst F.RST_STAT_STEP < 9)) = false := by simp [hdown, hperst, hstep]
  unfold pcieUp
  rw [htrain, if_neg Bool.false_ne_true]
  generalize wordBits s.brg.linkCfg 0 2 = top at htop
  generalize hlanes : (if wordBits s.brg.linkCfg 2 1 = 1 then 1 else 2) = lanes
  have hlt : lanes < 4 := by
    rw [← hlanes]
    split <;> decide
  have hstat : ∀ (a : State) (g : FieldD), g.off + g.stride * 0 = 0x4C → getF (irqEvent a Pg.brg 5) Pg.brg g = getF a Pg.brg g := fun a g hg =>
    getF_irqEvent_ne _ _ _ (by rw [hg]; decide) (by rw [hg]; decide)
  refine ⟨?_, ?_, ?_, ?_, ⟨?_, by simp⟩⟩
  · rw [brgUp, getB, hstat _ _ rfl]
    exact getB_setB_same _ _ _ _ _ (by decide) rfl
  · rw [hstat _ _ rfl, setB, getF_setF_linkStat _ _ rfl rfl (.inl (by decide)) (by decide),
      getF_setF_linkStat _ _ rfl rfl (.inr (by decide)) (by decide), getF_setF_same _ _ _ _ _ (by decide)]
    exact Nat.mod_eq_of_lt (show _ < 4 by omega)
  · rw [hstat _ _ rfl, setB, getF_setF_linkStat _ _ rfl rfl (.inl (by decide)) (by decide), getF_setF_same _ _ _ _ _ (by decide)]
    exact Nat.mod_eq_of_lt (show _ < 4 by omega)
  · rw [getW_irqEvent_raw]
    simp (disch := decide) only [setB, setF, getW_setW_ne]
    rfl
  · exact ((((SameRegs.refl _ s).setF (by decide)).setF (by decide)).setB (by decide)).irqEvent (by decide) (by decide)

/-! ## Requests to configuration space and to the MSI-X table (R186, R187, R213) -/

section
variable {s : State} (hup : brgUp s = true)
include hup

/-- While the link is up, a request that only sets two flags of LINK_STAT sets them. -/
theorem cfgWrite_command (a b : Bool) :
    cfgWrite s (.command a b) = setB (setB s Pg.brg F.BRG_LINK_STAT_MSE a) Pg.brg F.BRG_LINK_STAT_BME b := by
  simp only [cfgWrite, hup]
  rfl

theorem cfgWrite_msixCtl (a b : Bool) :
    cfgWrite s (.msixCtl a b) = setB (setB s Pg.brg F.BRG_LINK_STAT_MSIX_EN a) Pg.brg F.BRG_LINK_STAT_FMASK b := by
  simp only [cfgWrite, hup]
  rfl

theorem cfgWrite_devCtl {a b : Nat} (ha : a ≤ 1) (hb : b ≤ 5) :
    cfgWrite s (.devCtl a b) = setF (setF s Pg.brg F.BRG_LINK_STAT_MPS a) Pg.brg F.BRG_LINK_STAT_MRRS b := by
  simp only [cfgWrite, hup, ha, hb, if_true]
  rfl

theorem cfgWrite_power (a : Bool) : cfgWrite s (.power a) = setB s Pg.brg F.BRG_LINK_STAT_D3 a := by
  simp only [cfgWrite, hup]
  rfl

theorem cfgWrite_table {e w : Nat} (x : Word) (hbars : barsOpen s = true) (hroom : postedRoom s 4 = true) (he : e < 64) (hw : w < 4) :
    cfgWrite s (.table e w x) = setBrg s { s.brg with msix := tabSet s.brg.msix (4 * e + w) x } := by
  simp only [cfgWrite, hup, hbars, hroom, he, hw]
  rfl

theorem cfgWrite_bar {n : Nat} (x : Word) (hn : n < 6) : cfgWrite s (.bar n x) = setBrg s { s.brg with bars := tabSet s.brg.bars n x } := by
  simp only [cfgWrite, hup, hn]
  rfl

theorem cfgWrite_read (ptag off : Nat) : cfgWrite s (.read ptag off) = emit s (.cpl ptag 0 (leBytes 4 (cfgWord s (off / 4 * 4)).toNat)) := by
  simp only [cfgWrite, hup]
  rfl

theorem cfgWrite_tableRead (ptag off : Nat) (hbars : barsOpen s = true) (hroom : readRoom s = true) :
    cfgWrite s (.tableRead ptag off) = emit s (.cpl ptag 0 (leBytes 4 (bar4Word s (off / 4 * 4)).toNat)) := by
  simp only [cfgWrite, hup, hbars, hroom]
  rfl

theorem creditsIn_up (a b c : Nat) : creditsIn s a b c =
    setBrg s { s.brg with phCred := s.brg.phCred + a, pdCred := s.brg.pdCred + b, nhCred := s.brg.nhCred + c } := if_pos hup

end

/-- Two flags of LINK_STAT that lie apart both read as they are set, and nothing else changes. -/
theorem setB_linkStat_two (s : State) (a b : Bool) {f g : FieldD} (hf : f.off + f.stride * 0 = 0x4C) (hg : g.off + g.stride * 0 = 0x4C)
    (hfw : f.w = 1) (hgw : g.w = 1) (hfl : f.lo + f.w ≤ 32) (hgl : g.lo + g.w ≤ 32) (h : g.lo + g.w ≤ f.lo ∨ f.lo + f.w ≤ g.lo) :
    getB (setB (setB s Pg.brg f a) Pg.brg g b) Pg.brg f = a ∧ getB (setB (setB s Pg.brg f a) Pg.brg g b) Pg.brg g = b ∧
      OnlyRegs [fKey Pg.brg F.BRG_LINK_STAT_UP] s (setB (setB s Pg.brg f a) Pg.brg g b) := by
  have hkey : ∀ k : FieldD, k.off + k.stride * 0 = 0x4C → fKey Pg.brg k ∈ [fKey Pg.brg F.BRG_LINK_STAT_UP] := fun k hk => by
    simp only [fKey, hk, List.mem_singleton]
    rfl
  refine ⟨?_, getB_setB_same _ _ _ _ _ hgl hgw, ((SameRegs.refl _ s).setB (hkey f hf)).setB (hkey g hg), rfl⟩
  rw [getB, setB, getF_setF_linkStat _ _ hg hf h hfl]
  exact getB_setB_same _ _ _ _ _ hfl hfw

/-- The requests that set fields of LINK_STAT (R187, R213). -/
theorem configRequests {s : State} (ha : alive s = true) (hup : brgUp s = true) :
    (∀ a b, Completes (.pcieConfigWrite (.command a b)) s fun u => getB u Pg.brg F.BRG_LINK_STAT_MSE = a ∧ getB u Pg.brg F.BRG_LINK_STAT_BME = b ∧
        OnlyRegs [fKey Pg.brg F.BRG_LINK_STAT_UP] s u) ∧
      (∀ a b, Completes (.pcieConfigWrite (.msixCtl a b)) s fun u => getB u Pg.brg F.BRG_LINK_STAT_MSIX_EN = a ∧
        getB u Pg.brg F.BRG_LINK_STAT_FMASK = b ∧ OnlyRegs [fKey Pg.brg F.BRG_LINK_STAT_UP] s u) ∧
      (∀ a b, a ≤ 1 → b ≤ 5 → Completes (.pcieConfigWrite (.devCtl a b)) s fun u => getF u Pg.brg F.BRG_LINK_STAT_MPS = a ∧
        getF u Pg.brg F.BRG_LINK_STAT_MRRS = b ∧ OnlyRegs [fKey Pg.brg F.BRG_LINK_STAT_UP] s u) ∧
      (∀ a, Completes (.pcieConfigWrite (.power a)) s fun u => getB u Pg.brg F.BRG_LINK_STAT_D3 = a ∧
        OnlyRegs [fKey Pg.brg F.BRG_LINK_STAT_UP] s u) := by
  have hup' : brgUp (cleared s) = true := hup
  have hbase : ∀ {ks : List Nat} {u : State}, OnlyRegs ks (cleared s) u → OnlyRegs ks s u := fun h => ⟨h.1.from_eq rfl, h.2⟩
  refine ⟨fun a b => completes_during ha rfl ?_, fun a b => completes_during ha rfl ?_, fun a b hm hr => completes_during ha rfl ?_,
    fun a => completes_during ha rfl ?_⟩
  · rw [cfgWrite_command hup']
    obtain ⟨h1, h2, h3⟩ := setB_linkStat_two (cleared s) a b (f := F.BRG_LINK_STAT_MSE) (g := F.BRG_LINK_STAT_BME) rfl rfl rfl rfl (by decide) (by decide)
      (by decide)
    exact ⟨h1, h2, hbase h3⟩
  · rw [cfgWrite_msixCtl hup']
    obtain ⟨h1, h2, h3⟩ := setB_linkStat_two (cleared s) a b (f := F.BRG_LINK_STAT_MSIX_EN) (g := F.BRG_LINK_STAT_FMASK) rfl rfl rfl rfl (by decide)
      (by decide) (by decide)
    exact ⟨h1, h2, hbase h3⟩
  · rw [cfgWrite_devCtl hup' hm hr]
    refine ⟨?_, ?_, hbase ⟨((SameRegs.refl _ _).setF (by decide)).setF (by decide), rfl⟩⟩
    · rw [getF_setF_linkStat _ _ rfl rfl (by decide) (by decide), getF_setF_same _ _ _ _ _ (by decide)]
      exact Nat.mod_eq_of_lt (show a < 8 by omega)
    · rw [getF_setF_same _ _ _ _ _ (by decide)]
      exact Nat.mod_eq_of_lt (show b < 8 by omega)
  · rw [cfgWrite_power hup']
    exact ⟨getB_setB_same _ _ _ _ _ (by decide) rfl, hbase ⟨(SameRegs.refl _ _).setB (by decide), rfl⟩⟩

/-- The requests to the MSI-X table, the BARs and configuration space, and the host's credits (R187, R211, R213). -/
theorem tableRequests {s : State} (ha : alive s = true) (hup : brgUp s = true) :
    (∀ e w x, barsOpen s = true → postedRoom s 4 = true → e < 64 → w < 4 → Completes (.pcieConfigWrite (.table e w x)) s fun u =>
        msixWord u e w = x ∧ u.regs = s.regs ∧ beside { u with brg := s.brg } = beside s) ∧
      (∀ n x, n < 6 → Completes (.pcieConfigWrite (.bar n x)) s fun u => u.brg = { s.brg with bars := tabSet s.brg.bars n x } ∧ u.regs = s.regs ∧
        beside { u with brg := s.brg } = beside s) ∧
      (∀ ptag off, Completes (.pcieConfigWrite (.read ptag off)) s fun u =>
        Out.cpl ptag 0 (leBytes 4 (cfgWord s (off / 4 * 4)).toNat) ∈ u.out ∧ OnlyRegs [] s u) ∧
      (∀ ptag off, barsOpen s = true → readRoom s = true → Completes (.pcieConfigWrite (.tableRead ptag off)) s fun u =>
        Out.cpl ptag 0 (leBytes 4 (bar4Word s (off / 4 * 4)).toNat) ∈ u.out ∧ OnlyRegs [] s u) ∧
      (∀ a b c, Completes (.hostCreditUpdate a b c) s fun u =>
        u.brg = { s.brg with phCred := s.brg.phCred + a, pdCred := s.brg.pdCred + b, nhCred := s.brg.nhCred + c } ∧ u.regs = s.regs ∧
          beside { u with brg := s.brg } = beside s) := by
  have hup' : brgUp (cleared s) = true := hup
  refine ⟨fun e w x hbars hroom he hw => completes_during ha rfl ?_, fun n x hn => completes_during ha rfl ?_,
    fun ptag off => completes_during ha rfl ?_, fun ptag off hbars hroom => completes_during ha rfl ?_, fun a b c => completes_during ha rfl ?_⟩
  · rw [cfgWrite_table (s := cleared s) hup' x hbars hroom he hw]
    exact ⟨congrArg (Option.getD · _) (tabGet_tabSet_same ..), rfl, rfl⟩
  · rw [cfgWrite_bar hup' x hn]
    exact ⟨rfl, rfl, rfl⟩
  · rw [cfgWrite_read hup']
    exact ⟨List.mem_append_right _ (List.mem_singleton_self _), SameRegs.refl _ _, rfl⟩
  · rw [cfgWrite_tableRead (s := cleared s) hup' ptag off hbars hroom]
    exact ⟨List.mem_append_right _ (List.mem_singleton_self _), SameRegs.refl _ _, rfl⟩
  · rw [creditsIn_up hup']
    exact ⟨rfl, rfl, rfl⟩

/-- Settles O27: a window commits from its staged words, and the link's events leave what `pcieUp_spec` and `pcieDown_spec` say. -/
theorem windowsAndLink : Obligations.WindowsAndLink := by
  unfold Obligations.WindowsAndLink
  refine ⟨fun s who k v => ⟨fun hk h => completes_obCtl hk h, fun hk h => completes_ibCtl hk h⟩, fun s ha => ⟨fun speed width hdown hperst hstep => ?_,
    fun ev hev => ?_, completes_during ha rfl ?_, completes_during ha rfl ⟨rfl, rfl⟩, fun hup => ?_⟩⟩
  · obtain ⟨hu, hspeed, hwidth, hraw, hregs, hbeside⟩ := pcieUp_spec (s := cleared s) (speed := speed) (width := width) hdown hperst hstep
    exact completes_during ha rfl ⟨hu, hspeed, hwidth, hraw, hregs.from_eq rfl, hbeside⟩
  · obtain ⟨h1, h2, h3, h4, h5, h6, h7, h8, h9, h10, _⟩ := pcieDown_spec (cleared s)
    rcases hev with rfl | rfl <;> exact completes_during ha rfl ⟨h1, h2, h3, h4, h5, h6, h7, h8, h9, h10⟩
  · obtain ⟨hdown, _, _, _, _, _, _, _, _, hcfg, hperst⟩ := pcieDown_spec (setBrg (cleared s) { (cleared s).brg with perst := true })
    exact ⟨hperst, hdown, hcfg⟩
  · obtain ⟨h1, h2, h3, h4⟩ := configRequests ha hup
    exact ⟨h1, h2, h3, h4, tableRequests ha hup⟩

end Sys2Proof.Machine
end

section
/-! PROOFS. The pieces of a host request: every enabled byte stands in one (R193 to R195). -/

namespace Sys2Proof.Machine

/-! ## Runs keep their bytes -/

/-- What joins the last run of a list stands at its end. -/
theorem flatten_joinLast {α : Type} (acc : List (List α)) (g : List α) :
    (acc.dropLast ++ [acc.getLast?.getD [] ++ g]).flatten = acc.flatten ++ g := by
  obtain rfl | ⟨l, x, rfl⟩ := List.eq_nil_or_concat' acc
  · simp
  · simp

theorem gatherRuns_flatten (xs : List (Nat × Nat)) (acc : List (List (Nat × Nat))) : (gatherRuns xs acc).flatten = acc.flatten ++ xs := by
  induction xs generalizing acc with
  | nil => simp [gatherRuns]
  | cons x xs ih =>
    unfold gatherRuns
    split
    · rename_i r hr
      have hjoin := flatten_joinLast acc [x]
      rw [hr, Option.getD_some] at hjoin
      split <;> rw [ih]
      · rw [hjoin, List.append_assoc, List.singleton_append]
      · simp
    · rename_i hnone
      rw [ih, List.getLast?_eq_none_iff.1 hnone]
      simp

theorem gatherUnits_flatten (u : Nat) (xs : List (Nat × Nat)) (acc : List (List (Nat × Nat))) :
    (gatherUnits u xs acc).flatten = acc.flatten ++ xs := by
  induction xs generalizing acc with
  | nil => simp [gatherUnits]
  | cons x xs ih =>
    unfold gatherUnits
    split
    · rename_i g hg
      have hjoin := flatten_joinLast acc [x]
      rw [hg, Option.getD_some] at hjoin
      split <;> rw [ih]
      · rw [hjoin, List.append_assoc, List.singleton_append]
      · simp
    · rename_i hnone
      rw [ih, List.getLast?_eq_none_iff.1 hnone]
      simp

theorem joinUnits_flatten (u : Nat) (gs : List (List (Nat × Nat))) (whole : Bool) (acc : List (List (Nat × Nat))) :
    (joinUnits u gs whole acc).flatten = acc.flatten ++ gs.flatten := by
  induction gs generalizing whole acc with
  | nil => simp [joinUnits]
  | cons g gs ih =>
    unfold joinUnits
    dsimp only
    split
    · rw [ih, flatten_joinLast, List.append_assoc, List.flatten_cons]
    · rw [ih]
      simp

/-- A list of lists that holds something has a member that does. -/
theorem exists_ne_nil_of_flatten {α : Type} {l : List (List α)} (h : l.flatten ≠ []) : ∃ r ∈ l, r ≠ [] := by
  simpa [List.flatten_eq_nil_iff] using h

/-- A run of host bytes gives a fabric run. -/
theorem exists_fabricRun (w : ObWin) {run : List (Nat × Nat)} (h : run ≠ []) : ∃ r ∈ fabricRuns w run, r ≠ [] := by
  unfold fabricRuns
  split
  · refine exists_ne_nil_of_flatten fun hnil => ?_
    rw [joinUnits_flatten, List.flatten_nil, List.nil_append, List.flatten_eq_nil_iff] at hnil
    obtain ⟨g, hg, hne⟩ := exists_ne_nil_of_flatten (l := gatherUnits w.unit run []) (by simpa [gatherUnits_flatten] using h)
    exact hne (by simpa using hnil _ (List.mem_map_of_mem hg))
  · exact ⟨run, List.mem_singleton_self _, h⟩

theorem one_le_pieceLen (split : Bool) (a : Nat) {left : Nat} (h : 1 ≤ left) : 1 ≤ pieceLen split a left := by
  unfold pieceLen
  split_ifs <;> omega

/-- A request with an enabled byte is formed into pieces, of which one covers a byte (R195). -/
theorem exists_piece (w : ObWin) (o : Nat) (bytes : List Byte) {en : List Bool} (h : en.contains true = true) :
    ∃ p ∈ formPieces w o en bytes, 1 ≤ p.len := by
  obtain ⟨i, hi, hget⟩ := List.getElem_of_mem (List.contains_iff_mem.1 h)
  have henabled : (enabledRuns o en).flatten ≠ [] := by
    rw [enabledRuns, gatherRuns_flatten]
    refine List.ne_nil_of_mem (a := (o + i, i)) (List.mem_append_right _ (List.mem_map.2 ⟨i, List.mem_filter.2 ⟨List.mem_range.2 hi, ?_⟩, rfl⟩))
    simp [List.getD_eq_getElem?_getD, hi, hget]
  obtain ⟨run, hrun, hne⟩ := exists_ne_nil_of_flatten henabled
  obtain ⟨r, hr, hrne⟩ := exists_fabricRun w hne
  obtain ⟨⟨a, b⟩, tl, rfl⟩ := List.exists_cons_of_ne_nil hrne
  have hmem : (a, b) :: tl ∈ ((enabledRuns o en).map (fabricRuns w)).flatten := List.mem_flatten.2 ⟨_, List.mem_map_of_mem hrun, hr⟩
  exact ⟨_, List.mem_flatten.2 ⟨_, List.mem_map_of_mem hmem, List.mem_cons_self ..⟩, one_le_pieceLen _ _ (Nat.succ_pos _)⟩

/-- A read with an enabled byte needs a byte of its window. -/
theorem neededBytes_ne_nil {r : HostRd} (h : ∃ p ∈ r.pieces, 1 ≤ p.len) : neededBytes r ≠ [] := by
  obtain ⟨p, hp, hlen⟩ := h
  exact List.ne_nil_of_mem (a := p.addr + 0)
    (List.mem_flatten.2 ⟨_, List.mem_map_of_mem hp, List.mem_map_of_mem (List.mem_range.2 hlen)⟩)

end Sys2Proof.Machine
end

section
/-! PROOFS. Host writes, reads and flushes through the outbound windows (R185, R190, R195 to R198, R201, R206). -/

namespace Sys2Proof.Machine

variable {s t : State}

/-! ## A request is counted -/

theorem getF_hostKey {f : FieldD} (h : ∀ k ∈ hostKeys, tabGet t.regs k = tabGet s.regs k) (hf : fKey Pg.brg f ∈ hostKeys) :
    getF t Pg.brg f = getF s Pg.brg f := by
  have hk : tabGet t.regs (regKey Pg.brg (f.off + f.stride * 0)) = tabGet s.regs (regKey Pg.brg (f.off + f.stride * 0)) := h _ hf
  simp only [getF, getW, hk]

/-- A count of the bridge's page does not decide whether its block takes a request. -/
theorem blockRefuses_bumpBody (s : State) {f : FieldD} (hoff : 0x40 ≤ f.off + f.stride * 0) (hhi : f.off + f.stride * 0 < 0x1000) :
    blockRefuses (bump s Pg.brg f) Pg.brg = blockRefuses s Pg.brg := by
  have hhead : ∀ g : FieldD, g.off + g.stride * 0 < 0x40 → getF (bump s Pg.brg f) Pg.brg g = getF s Pg.brg g := fun g hg =>
    getF_bump_ne s (by simp only [fKey, regKey]; omega)
  have hstat : pageBusyState (bump s Pg.brg f) Pg.brg = pageBusyState s Pg.brg := hhead F.PAGE_STAT_STATE (by decide)
  have hen : pageEnabled (bump s Pg.brg f) Pg.brg = pageEnabled s Pg.brg := congrArg (· != 0) (hhead F.PAGE_CTL_ENABLE (by decide))
  simp only [blockRefuses, hstat, hen]

/-! ## Host writes (R190, R196) -/

theorem hostWrite_noWindow {off : Nat} {bytes : List (Option Byte)} (hbars : barsOpen s = true) (hroom : postedRoom s bytes.length = true)
    (hfind : obFind s off bytes.length = none) :
    hostWrite s off bytes = writeRefused (bump s Pg.brg F.BRG_HOST_WR) St.addrErr 0x46 3 0 off bytes.length := by
  have hfind' : obFind (bump s Pg.brg F.BRG_HOST_WR) off bytes.length = none := hfind
  simp only [hostWrite, hbars, hroom, hfind']
  rfl

/-- A write that is refused: its record joins the log while there is room, and the bridge notes an error (R190). -/
theorem writeRefused_spec (status cause kind win addr len : Nat) (h : s.brg.errlog.length < 256) :
    (writeRefused s status cause kind win addr len).brg = { s.brg with errlog := s.brg.errlog ++
        [{ status := status, cause := cause, kind := kind, discarded := false, win := win, addr := addr, len := min len 256, tag := 0 }] } ∧
      SameRegs (errKeys Pg.brg) s (writeRefused s status cause kind win addr len) := by
  unfold writeRefused errLog
  rw [if_pos h, noteErr_brg]
  exact ⟨rfl, SameRegs.noteErr (SameRegs.refl _ s) fun _ hk => hk⟩

/-- The counts of a write that a window takes, with the held lines that its pieces touch discarded (R196, R207). -/
def writeStarted (s : State) (wi : Nat) (ps : List Piece) : State :=
  discardParts (bump (bump s Pg.brg F.BRG_HOST_WR) Pg.win F.WIN_WR_RECV ps.length wi) fun p =>
    p.win == wi && ps.any fun q => decide (q.addr / 256 ≤ p.start / 256) && decide (p.start / 256 ≤ (q.addr + q.len - 1) / 256)

/-- The bridge holds the write, of `n` bytes, and offers its pieces (R196). -/
def writeHeld (s : State) (wi n : Nat) (ps : List Piece) : State :=
  setBrg (writeStarted s wi ps) { (writeStarted s wi ps).brg with
    nextId := s.brg.nextId + 1
    writes := (writeStarted s wi ps).brg.writes ++
      [{ wid := s.brg.nextId, win := wi, units := (n + 15) / 16, unaccepted := ps.length, unclosed := ps.length }]
    offers := (writeStarted s wi ps).brg.offers ++
      ps.map fun p => { use := .write s.brg.nextId, win := wi, addr := p.addr, len := p.len, data := p.data } }

theorem pumpKept_writeStarted (s : State) (wi : Nat) (ps : List Piece) : PumpKept everyRead (bump s Pg.brg F.BRG_HOST_WR) (writeStarted s wi ps) :=
  (((BrgSame.refl _).bump (past_notHost (p := Pg.win) _ (by decide))).pump _).trans (pumpKept_discardParts _ _)

theorem hostWrite_taken {off wi : Nat} {w : ObWin} {bytes : List (Option Byte)} {ps : List Piece} (hbars : barsOpen s = true)
    (hroom : postedRoom s bytes.length = true) (hfind : obFind s off bytes.length = some (wi, w)) (htakes : blockRefuses s Pg.brg = none)
    (hlane : laneAllows w (enabledRuns (off - w.host) (bytes.map Option.isSome)) = true)
    (hps : formPieces w (off - w.host) (bytes.map Option.isSome) (bytes.map (·.getD 0#8)) = ps) (hne : ps ≠ []) :
    hostWrite s off bytes = brgPump (writeHeld s wi bytes.length ps) := by
  have hfind' : obFind (bump s Pg.brg F.BRG_HOST_WR) off bytes.length = some (wi, w) := hfind
  have htakes' := (blockRefuses_bumpBody s (f := F.BRG_HOST_WR) (by decide) (by decide)).trans htakes
  have hempty : ps.isEmpty = false := by simpa using hne
  simp only [hostWrite, hbars, hroom, hfind', htakes', hlane, hps, hempty]
  rfl

/-- The bridge counts the write and holds its pieces, whatever it can offer of them. -/
theorem hostWrite_taken_spec {off wi : Nat} {w : ObWin} {bytes : List (Option Byte)} {ps : List Piece} (hbars : barsOpen s = true)
    (hroom : postedRoom s bytes.length = true) (hfind : obFind s off bytes.length = some (wi, w)) (htakes : blockRefuses s Pg.brg = none)
    (hlane : laneAllows w (enabledRuns (off - w.host) (bytes.map Option.isSome)) = true)
    (hps : formPieces w (off - w.host) (bytes.map Option.isSome) (bytes.map (·.getD 0#8)) = ps) (hne : ps ≠ []) :
    getF (hostWrite s off bytes) Pg.brg F.BRG_HOST_WR = (getF s Pg.brg F.BRG_HOST_WR + 1) % 2 ^ 32 ∧
      (hostWrite s off bytes).brg.nextId = s.brg.nextId + 1 ∧ (hostWrite s off bytes).brg.writes = s.brg.writes ++
        [{ wid := s.brg.nextId, win := wi, units := (bytes.length + 15) / 16, unaccepted := ps.length, unclosed := ps.length }] := by
  rw [hostWrite_taken hbars hroom hfind htakes hlane hps hne]
  have hkept := pumpKept_writeStarted s wi ps
  have hpump := pumpKept_brgPump (writeHeld s wi bytes.length ps)
  refine ⟨?_, hpump.nextId, hpump.writes.trans (congrArg (· ++ _) hkept.writes)⟩
  rw [getF_hostKey (fun k hk => (hpump.regs k hk).trans (hkept.regs k hk)) (by decide), getF_bump_same _ _ rfl rfl]

/-! ## Host reads (R190, R197, R205) -/

theorem hostRead_noWindow {ptag off : Nat} {en : List Bool} (hen : en.contains true = true) (hbars : barsOpen s = true) (hroom : readRoom s = true)
    (hfind : obFind s off en.length = none) : hostRead s ptag off en =
      emit (bump (noteErr (bump s Pg.brg F.BRG_HOST_RD) Pg.brg St.addrErr 0x46 0) Pg.brg F.BRG_UR_SENT) (.cpl ptag 1 []) := by
  have hfind' : (if en.length ≤ 4096 then obFind (bump s Pg.brg F.BRG_HOST_RD) off en.length else none) = none := by
    split
    · exact hfind
    · rfl
  simp only [hostRead, hen, hbars, hroom, hfind']
  rfl

/-- A host read as the bridge takes it up (R197). -/
def newRead (s : State) (ptag off wi : Nat) (w : ObWin) (en : List Bool) : HostRd :=
  { rid := s.brg.nextId, ptag := ptag, win := wi, off := off, len := en.length, pieces := formPieces w (off - w.host) en [], done := [], sent := false,
    lines := [], needWr := if w.order then s.brg.writes.map (·.wid) else [], flush := false, abandoned := false }

/-- The bridge holds a host read that it has taken up. -/
def readTaken (s : State) (r : HostRd) : State :=
  setBrg (bump s Pg.brg F.BRG_HOST_RD) { s.brg with nextId := s.brg.nextId + 1, reads := s.brg.reads ++ [r] }

theorem hostRead_taken {ptag off wi : Nat} {w : ObWin} {en : List Bool} (hen : en.contains true = true) (hbars : barsOpen s = true)
    (hroom : readRoom s = true) (hlen : en.length ≤ 4096) (hfind : obFind s off en.length = some (wi, w)) (htakes : blockRefuses s Pg.brg = none)
    (hlane : laneAllows w (enabledRuns (off - w.host) en) = true) :
    hostRead s ptag off en = brgPump (serveRead (readTaken s (newRead s ptag off wi w en)) (newRead s ptag off wi w en) w) := by
  have hfind' : (if en.length ≤ 4096 then obFind (bump s Pg.brg F.BRG_HOST_RD) off en.length else none) = some (wi, w) := by
    rw [if_pos hlen]
    exact hfind
  have htakes' := (blockRefuses_bumpBody s (f := F.BRG_HOST_RD) (by decide) (by decide)).trans htakes
  simp only [hostRead, hen, hbars, hroom, hfind', htakes', hlane]
  rfl

/-- A read of a window that holds no part is sent on demand (R205). -/
theorem serveRead_noParts {r : HostRd} {w : ObWin} (hparts : ∀ x ∈ s.brg.parts, x.win ≠ r.win) (hneed : neededBytes r ≠ []) :
    serveRead s r w = demandRead s r w := by
  have hheld : ∀ a, heldByte s r.win a = none := fun a => by
    rw [heldByte, List.find?_eq_none.2 fun p hp => by simp [hparts p hp]]
  have hfailed : ∀ a, failedByte s r.win a = false := fun a => List.any_eq_false.2 fun p hp => by simp [hparts p hp]
  have hmiss : ((neededBytes r).all fun a => (heldByte s r.win a).isSome) = false := by
    obtain ⟨a, ha⟩ := List.exists_mem_of_ne_nil _ hneed
    exact List.all_eq_false.2 ⟨a, ha, by simp [hheld a]⟩
  have hopen : (s.brg.parts.filter fun p => p.win == r.win && p.isOpen && !p.dropped &&
      (neededBytes r).any fun a => decide (p.start ≤ a) && decide (a < p.start + p.len)) = [] :=
    List.filter_eq_nil_iff.2 fun p hp => by simp [hparts p hp]
  have hnone : (neededBytes r).any (failedByte s r.win) = false := List.any_eq_false.2 fun a _ => by simp [hfailed a]
  simp only [serveRead, hmiss, hopen, hnone, List.map_nil, List.isEmpty_nil, Bool.not_true, Bool.and_false, Bool.false_eq_true, if_false]

/-- A demand without run-ahead changes the bridge's offers and marks its read as sent (R205). -/
theorem demandRead_noAhead {r : HostRd} {w : ObWin} (h : w.prefetch = 0) :
    (demandRead s r w).brg.reads = mapIf (·.rid == r.rid) (fun x => { x with sent := true }) s.brg.reads ∧ (demandRead s r w).regs = s.regs := by
  simp only [demandRead, runAhead, h, true_or, if_true]
  exact ⟨rfl, rfl⟩

/-- A read of a window without run-ahead and without a part is counted, and it is on its way (R197, R205). -/
theorem hostRead_demand {ptag off wi : Nat} {w : ObWin} {en : List Bool} (hen : en.contains true = true) (hbars : barsOpen s = true)
    (hroom : readRoom s = true) (hlen : en.length ≤ 4096) (hfind : obFind s off en.length = some (wi, w)) (htakes : blockRefuses s Pg.brg = none)
    (hlane : laneAllows w (enabledRuns (off - w.host) en) = true) (hahead : w.prefetch = 0) (hparts : ∀ x ∈ s.brg.parts, x.win ≠ wi)
    (hnew : ∀ x ∈ s.brg.reads, x.rid ≠ s.brg.nextId) :
    getF (hostRead s ptag off en) Pg.brg F.BRG_HOST_RD = (getF s Pg.brg F.BRG_HOST_RD + 1) % 2 ^ 32 ∧
      { newRead s ptag off wi w en with sent := true } ∈ (hostRead s ptag off en).brg.reads := by
  rw [hostRead_taken hen hbars hroom hlen hfind htakes hlane]
  generalize hr : newRead s ptag off wi w en = r
  have hrid : r.rid = s.brg.nextId := by rw [← hr]; rfl
  have hflush : r.flush = false := by rw [← hr]; rfl
  have hwin : r.win = wi := by rw [← hr]; rfl
  have hneed : neededBytes r ≠ [] := neededBytes_ne_nil (by rw [← hr]; exact exists_piece w _ _ hen)
  have hmiss : ∀ x ∈ (readTaken s r).brg.parts, x.win ≠ r.win := fun x hx => hwin ▸ hparts x hx
  rw [serveRead_noParts hmiss hneed]
  obtain ⟨hreads, hregs⟩ := demandRead_noAhead (s := readTaken s r) (r := r) hahead
  have hreads' : (demandRead (readTaken s r) r w).brg.reads = s.brg.reads ++ [{ r with sent := true }] :=
    hreads.trans (mapIf_append_single _ (fun y hy => by simpa [hrid] using hnew y hy) (by simp))
  have hsent : ReadsSent (demandRead (readTaken s r) r w) s.brg.nextId := fun x hx hi => by
    rw [hreads', List.mem_append, List.mem_singleton] at hx
    obtain hx | rfl := hx
    · exact absurd hi (hnew x hx)
    · exact ⟨rfl, hflush⟩
  have hpump := pumpKept_brgPump (demandRead (readTaken s r) r w)
  refine ⟨?_, ?_⟩
  · rw [getF_hostKey hpump.regs (by decide), getF_of_regs hregs]
    exact getF_bump_same s Pg.brg rfl rfl
  · have hmem : { r with sent := true } ∈ (demandRead (readTaken s r) r w).brg.reads.filter (·.rid == s.brg.nextId) :=
      List.mem_filter.2 ⟨by simp [hreads'], by simp [hrid]⟩
    rw [← hpump.reads _ hsent] at hmem
    exact (List.mem_filter.1 hmem).1

/-! ## Flush reads (R198) -/

/-- What a flush pump changes is in the bridge and the outputs. -/
theorem pumpFlush_beside (s : State) : { pumpFlush s with brg := s.brg, out := s.out } = s := by
  have hfold : ∀ (l : List HostRd) (a : State), { l.foldl (fun a r =>
      emit (setBrg a { a.brg with reads := a.brg.reads.filter (·.rid != r.rid) }) (.cpl r.ptag 0 [0#8, 0#8, 0#8, 0#8])) a with
        brg := s.brg, out := s.out } = { a with brg := s.brg, out := s.out } := fun l => by
    induction l with
    | nil => exact fun _ => rfl
    | cons _ l ih => exact fun a => ih _
  exact hfold _ s

/-- A flush read that waits for no write is answered 0. -/
theorem pumpFlush_answers {r : HostRd} (h : r ∈ s.brg.reads) (hflush : r.flush = true)
    (hdone : (r.needWr.any fun i => s.brg.writes.any (·.wid == i)) = false) : Out.cpl r.ptag 0 [0#8, 0#8, 0#8, 0#8] ∈ (pumpFlush s).out := by
  have hout : ∀ (l : List HostRd) (a : State), (l.foldl (fun a r =>
      emit (setBrg a { a.brg with reads := a.brg.reads.filter (·.rid != r.rid) }) (.cpl r.ptag 0 [0#8, 0#8, 0#8, 0#8])) a).out =
        a.out ++ l.map fun r => .cpl r.ptag 0 [0#8, 0#8, 0#8, 0#8] := fun l => by
    induction l with
    | nil => exact fun a => (List.append_nil _).symm
    | cons x l ih => exact fun a => (ih _).trans (List.append_assoc ..)
  rw [pumpFlush, hout]
  exact List.mem_append_right _ (List.mem_map_of_mem (List.mem_filter.2 ⟨h, by simp [hflush, hdone]⟩))

/-- A flush with no write of its window before it is answered 0 at once (R198). -/
theorem hostFlush_spec {ptag off wi : Nat} {w : ObWin} (hbars : barsOpen s = true) (hroom : readRoom s = true)
    (hfind : obFind s off 4 = some (wi, w)) (htakes : blockRefuses s Pg.brg = none) (hwrites : ∀ x ∈ s.brg.writes, x.win ≠ wi) :
    Out.cpl ptag 0 [0#8, 0#8, 0#8, 0#8] ∈ (hostFlush s ptag off).out ∧
      OnlyRegs [fKey Pg.brg F.BRG_HOST_RD] s { hostFlush s ptag off with brg := s.brg } := by
  have hfind' : obFind (bump s Pg.brg F.BRG_HOST_RD) off 4 = some (wi, w) := hfind
  have htakes' := (blockRefuses_bumpBody s (f := F.BRG_HOST_RD) (by decide) (by decide)).trans htakes
  have hnone : s.brg.writes.filter (·.win == wi) = [] := List.filter_eq_nil_iff.2 fun x hx => by simpa using hwrites x hx
  obtain ⟨r, hr, heq⟩ : ∃ r : HostRd, (r.ptag = ptag ∧ r.flush = true ∧ r.needWr = []) ∧ hostFlush s ptag off = pumpFlush (readTaken s r) := by
    refine ⟨{ rid := s.brg.nextId, ptag := ptag, win := wi, off := off, len := 4, pieces := [], done := [], sent := true, lines := [],
              needWr := (s.brg.writes.filter (·.win == wi)).map (·.wid), flush := true, abandoned := false }, ⟨rfl, rfl, by rw [hnone]; rfl⟩, ?_⟩
    simp only [hostFlush, hbars, hroom, hfind', htakes']
    rfl
  obtain ⟨hptag, hflush, hneed⟩ := hr
  have hsame := pumpFlush_beside (readTaken s r)
  rw [heq]
  refine ⟨hptag ▸ pumpFlush_answers (List.mem_append_right _ (List.mem_singleton_self r)) hflush (by rw [hneed]; rfl), ?_, ?_⟩
  · have hregs : (pumpFlush (readTaken s r)).regs = (readTaken s r).regs := congrArg (·.regs) hsame
    exact ((SameRegs.refl _ s).bump (List.mem_singleton_self _)).of_eq hregs
  · exact congrArg (fun u => beside { u with brg := s.brg }) hsame

end Sys2Proof.Machine
end

section
/-! PROOFS. Host reads that wait too long and held lines that reach their life (R202, R203, R206 to R208). -/

namespace Sys2Proof.Machine

variable {s t : State}

/-! ## A read that is abandoned with no piece open (R202) -/

/-- Registers that a record of the error log changes. -/
def errlogKeys : List Nat := fKey Pg.brg F.BRG_ERRLOG_OVF_COUNT :: irqKeys Pg.brg

/-- Records join the error log: the engine, the outputs and the bridge's open pieces stand, and every read with this number is abandoned. -/
structure Abandons (rid : Nat) (s t : State) : Prop where
  seq : t.seq = s.seq
  out : t.out = s.out
  opens : t.brg.opens = s.brg.opens
  regs : SameRegs errlogKeys s t
  reads : ∀ x ∈ t.brg.reads, x.rid = rid → x.abandoned = true

/-- A record of the error log leaves the reads alone. -/
theorem Abandons.log {rid : Nat} (a : Abandons rid s t) (r : ErrRec) : Abandons rid s (errLog t r) ∧ (errLog t r).brg.reads = t.brg.reads := by
  unfold errLog
  split
  · exact ⟨{ a with }, rfl⟩
  · have hbrg : (irqEvent (bumpSat t Pg.brg F.BRG_ERRLOG_OVF_COUNT) Pg.brg 3).brg = t.brg := irqEvent_brg ..
    refine ⟨⟨?_, ?_, ?_, (a.regs.bumpSat (by decide)).irqEvent (by decide) (by decide), ?_⟩, by rw [hbrg]⟩
    · rw [irqEvent_seq]
      exact a.seq
    · rw [irqEvent_out]
      exact a.out
    · rw [hbrg]
      exact a.opens
    · rw [hbrg]
      exact a.reads

/-- The reads change, and those with this number stay abandoned. -/
theorem Abandons.setReads {rid : Nat} {l : List HostRd} (a : Abandons rid s t) (h : ∀ x ∈ l, x.rid = rid → x.abandoned = true) :
    Abandons rid s (setBrg t { t.brg with reads := l }) := { a with reads := h }

theorem Abandons.foldl {α : Type} {rid : Nat} {f : State → α → State} (a : Abandons rid s t) (h : ∀ b x, Abandons rid s b → Abandons rid s (f b x))
    (l : List α) : Abandons rid s (l.foldl f t) := by
  induction l generalizing t with
  | nil => exact a
  | cons x l ih => exact ih (h t x a)

/-- Reads of a number that are left abandoned. -/
theorem abandoned_mapIf {rid : Nat} {g : HostRd → HostRd} {l : List HostRd} (h : ∀ y ∈ l, y.rid = rid → (g y).abandoned = true) (x : HostRd)
    (hx : x ∈ mapIf (fun x : HostRd => x.rid == rid) g l) (hi : x.rid = rid) : x.abandoned = true := by
  obtain ⟨y, hy, rfl⟩ := List.mem_map.1 hx
  by_cases hyr : y.rid = rid
  · rw [if_pos (by simpa using hyr)]
    exact h y hy hyr
  · rw [if_neg (by simpa using hyr)] at hi
    exact absurd hi hyr

/-- A fold over nothing. -/
theorem foldl_filter_none {α β : Type} {f : β → α → β} {p : α → Bool} {l : List α} {b : β} (h : ∀ x ∈ l, p x = false) :
    (l.filter p).foldl f b = b := by
  rw [List.filter_eq_nil_iff.2 fun x hx => by simp [h x hx], List.foldl_nil]

/-- A host read with no piece open is abandoned: what it has is logged, and nothing is aborted (R202). -/
theorem abandons_abandonRead {r : HostRd} (status cause : Nat) (hflush : r.flush = false) (hopen : ∀ o ∈ s.brg.opens, ∀ k, o.use ≠ .read r.rid k) :
    Abandons r.rid s (abandonRead s r status cause) := by
  unfold abandonRead
  rw [hflush, if_neg Bool.false_ne_true]
  extract_lets unsent b1 s1 d s2 b2 s3
  have h1 : Abandons r.rid s s1 := ⟨rfl, rfl, rfl, SameRegs.refl _ s, abandoned_mapIf fun _ _ _ => rfl⟩
  have h2 : Abandons r.rid s s2 := by
    refine h1.foldl (fun a i ha => ?_) _
    split
    · exact (ha.log _).1
    · split
      · exact (ha.log _).1.setReads (abandoned_mapIf ha.reads)
      · exact ha
    · exact ha
  have h3 : Abandons r.rid s s3 := h2.setReads fun x hx hi => h2.reads x (List.mem_filter.1 hx).1 hi
  rw [foldl_filter_none fun o ho => ?_]
  · exact h3
  · rw [h3.opens] at ho
    split
    · rename_i i k huse
      exact beq_eq_false_iff_ne.2 fun hi => hopen o ho k (hi ▸ huse)
    · rfl

/-- A counter of an array counts by one. -/
theorem getF_bump_at (s : State) (p i : Nat) {f : FieldD} (hlo : f.lo = 0) (hw : f.w = 32) :
    getF (bump s p f 1 i) p f i = (getF s p f i + 1) % 2 ^ 32 := by
  rw [bump, getF_setF_same _ _ _ _ _ (by omega), hw]

/-- It leaves the others. -/
theorem getF_bump_other (s : State) {p q n i j : Nat} {f g : FieldD} (h : fKey q g j ≠ fKey p f i) : getF (bump s p f n i) q g j = getF s q g j :=
  getF_setF_ne _ _ _ _ _ _ h

/-- The window's count of reads that fail lies beside the fields of the bridge's page. -/
theorem brgField_ne_rdFail (win : Nat) {f : FieldD} (hf : f.off + f.stride * 0 < 0x1000) : fKey Pg.brg f ≠ fKey Pg.win F.WIN_RD_FAIL win := by
  simp only [fKey, regKey, Pg.win, Pg.brg, F.WIN_RD_FAIL]
  omega

/-- A read that is answered CA is counted, at the bridge and at its window (R202). -/
theorem readFail_counts (s : State) (ptag win : Nat) :
    getF (readFail s ptag win false) Pg.brg F.BRG_CA_SENT = (getF s Pg.brg F.BRG_CA_SENT + 1) % 2 ^ 32 ∧
      getF (readFail s ptag win false) Pg.win F.WIN_RD_FAIL win = (getF s Pg.win F.WIN_RD_FAIL win + 1) % 2 ^ 32 ∧
      getF (readFail s ptag win false) Pg.brg F.BRG_LATE = getF s Pg.brg F.BRG_LATE := by
  have hfield : ∀ p f i, getF (readFail s ptag win false) p f i = getF (bump (bump s Pg.brg F.BRG_CA_SENT) Pg.win F.WIN_RD_FAIL 1 win) p f i :=
    fun _ _ _ => rfl
  refine ⟨?_, ?_, ?_⟩ <;> rw [hfield]
  · rw [getF_bump_other _ (brgField_ne_rdFail win (by decide)), getF_bump_same _ _ rfl rfl]
  · rw [getF_bump_at _ _ _ rfl rfl, getF_bump_other _ (brgField_ne_rdFail win (by decide)).symm]
  · rw [getF_bump_other _ (brgField_ne_rdFail win (by decide)), getF_bump_ne _ (by decide)]

/-- A host read waits too long: it is answered CA, counted as late, and abandoned (R202). -/
theorem hostReadTimeout_spec {ptag : Nat} {r : HostRd}
    (hfind : s.brg.reads.find? (fun r => r.ptag == ptag && !r.abandoned && !r.flush) = some r)
    (hopen : ∀ o ∈ s.brg.opens, ∀ k, o.use ≠ .read r.rid k) : Out.cpl ptag 4 [] ∈ (hostReadTimeout s ptag).out ∧
      getF (hostReadTimeout s ptag) Pg.brg F.BRG_CA_SENT = (getF s Pg.brg F.BRG_CA_SENT + 1) % 2 ^ 32 ∧
      getF (hostReadTimeout s ptag) Pg.brg F.BRG_LATE = (getF s Pg.brg F.BRG_LATE + 1) % 2 ^ 32 ∧
      getF (hostReadTimeout s ptag) Pg.win F.WIN_RD_FAIL r.win = (getF s Pg.win F.WIN_RD_FAIL r.win + 1) % 2 ^ 32 ∧
      (hostReadTimeout s ptag).seq = s.seq ∧ ∀ x ∈ (hostReadTimeout s ptag).brg.reads, x.rid = r.rid → x.abandoned = true := by
  have hflush : r.flush = false := by
    have h := List.find?_some hfind
    simp only [Bool.and_eq_true, Bool.not_eq_true'] at h
    exact h.2
  have heq : hostReadTimeout s ptag = abandonRead (bump (readFail s ptag r.win false) Pg.brg F.BRG_LATE) r St.aborted 0 := by
    simp only [hostReadTimeout, hfind]
  rw [heq]
  have ha := abandons_abandonRead (s := bump (readFail s ptag r.win false) Pg.brg F.BRG_LATE) St.aborted 0 hflush hopen
  have hwin : ∀ k ∈ errlogKeys, fKey Pg.win F.WIN_RD_FAIL r.win ≠ k := fun k hk => by
    simp only [errlogKeys, irqKeys, fKey, regKey, Pg.brg, F.BRG_ERRLOG_OVF_COUNT, List.mem_cons, List.not_mem_nil, or_false] at hk
    simp only [fKey, regKey, Pg.win, F.WIN_RD_FAIL]
    omega
  obtain ⟨hca, hfail, hother⟩ := readFail_counts s ptag r.win
  refine ⟨?_, ?_, ?_, ?_, ha.seq, ha.reads⟩
  · rw [ha.out]
    exact List.mem_append_right _ (List.mem_singleton_self _)
  · rw [ha.regs.getF (by decide), getF_bump_ne _ (by decide), hca]
  · rw [ha.regs.getF (by decide), getF_bump_same _ _ rfl rfl, hother]
  · rw [ha.regs.getF fun h => hwin _ h rfl, getF_bump_other _ (brgField_ne_rdFail r.win (by decide)).symm, hfail]

/-! ## Held lines at the end of their life (R207) -/

/-- A held part that is discarded leaves, whatever is recorded of it. -/
theorem partDiscard_held {p : PfPart} (h : p.isOpen = false) :
    (partDiscard s p).brg.parts = s.brg.parts.filter (fun q => !(q.win == p.win && q.start == p.start && !q.dropped)) := by
  unfold partDiscard partLoss
  rw [h, if_neg Bool.false_ne_true]
  split
  · unfold specLoss
    rw [irqEvent_brg]
    split <;> rfl
  · rfl

/-- One held part that reaches its life is discarded and counted; a record is made of lost data only (R207). -/
theorem lineExpire_single {win start : Nat} {p : PfPart}
    (h : s.brg.parts.filter (fun p => (p.win == win && p.start == start && !p.isOpen) && !p.dropped) = [p]) :
    (lineExpire s win start).brg.parts = (s.brg.parts.filter fun q => !(q.win == win && q.start == start && !q.dropped)) ∧
      getF (lineExpire s win start) Pg.brg F.BRG_PF_DISCARD = (getF s Pg.brg F.BRG_PF_DISCARD + 1) % 2 ^ 32 ∧
      (p.effectful = false → p.unknown = false → (lineExpire s win start).brg.loss = s.brg.loss ∧
        SameRegs [fKey Pg.brg F.BRG_PF_DISCARD] s (lineExpire s win start)) := by
  have hp : p ∈ [p] := List.mem_singleton_self p
  rw [← h] at hp
  have hp' := (List.mem_filter.1 hp).2
  simp only [Bool.and_eq_true, Bool.not_eq_true', beq_iff_eq] at hp'
  obtain ⟨⟨⟨hwin, hstart⟩, hheld⟩, _⟩ := hp'
  have heq : lineExpire s win start = partDiscard (bump s Pg.brg F.BRG_PF_DISCARD) p := by
    simp only [lineExpire, discardParts, h]
    rfl
  have hdone : partDiscard (bump s Pg.brg F.BRG_PF_DISCARD) p = partLoss (setBrg (bump s Pg.brg F.BRG_PF_DISCARD) { s.brg with
      parts := s.brg.parts.filter fun q => !(q.win == p.win && q.start == p.start && !q.dropped) }) p := by
    unfold partDiscard
    rw [hheld, if_neg Bool.false_ne_true]
    rfl
  rw [heq]
  refine ⟨?_, ?_, fun heff hunk => ?_⟩
  · rw [partDiscard_held hheld, hwin, hstart]
    rfl
  · rw [hdone, (sameRegs_partLoss _ p).getF (by decide)]
    exact getF_bump_same s Pg.brg rfl rfl
  · have hnoloss : ((p.effectful && decide (p.given.length < p.len)) || p.unknown) = false := by simp [heff, hunk]
    rw [hdone, partLoss, hnoloss, if_neg Bool.false_ne_true]
    exact ⟨rfl, (SameRegs.refl _ s).bump (List.mem_singleton_self _)⟩

/-- After a line has reached its life, what is left of it is open or on its way out. -/
theorem lineExpire_gone (s : State) (win start : Nat) :
    ∀ x ∈ (lineExpire s win start).brg.parts, x.win = win → x.start = start → x.isOpen = true ∨ x.dropped = true := by
  have hlast : ∀ (ps : List PfPart) (a : State), ps ≠ [] → (∀ p ∈ ps, p.win = win ∧ p.start = start ∧ p.isOpen = false) →
      ∀ x ∈ (ps.foldl partDiscard a).brg.parts, x.win = win → x.start = start → x.dropped = true := fun ps a hne hall x hx hw hs => by
    obtain rfl | ⟨l, p, rfl⟩ := List.eq_nil_or_concat' ps
    · exact absurd rfl hne
    · obtain ⟨hpw, hps, hheld⟩ := hall p (by simp)
      rw [List.foldl_append, List.foldl_cons, List.foldl_nil, partDiscard_held hheld, List.mem_filter] at hx
      simpa [hpw, hps, hw, hs] using hx.2
  intro x hx hw hs
  unfold lineExpire discardParts at hx
  dsimp only at hx
  split at hx
  · rename_i hnone
    have := List.filter_eq_nil_iff.1 (List.isEmpty_iff.1 hnone) x hx
    simpa [hw, hs, Classical.or_iff_not_imp_left] using this
  · rename_i hsome
    refine .inr (hlast _ _ (by simpa using hsome) (fun p hp => ?_) x hx hw hs)
    have hp' := (List.mem_filter.1 hp).2
    simp only [Bool.and_eq_true, Bool.not_eq_true', beq_iff_eq] at hp'
    obtain ⟨⟨⟨hpw, hps⟩, hheld⟩, _⟩ := hp'
    exact ⟨hpw, hps, hheld⟩

/-! ## A demand hit (R201, R206, R208) -/

theorem mem_of_tabGet {α : Type} {l : Tab α} {k : Nat} {v : α} (h : tabGet l k = some v) : (k, v) ∈ l := by
  induction l with
  | nil => exact nomatch h
  | cons e l ih =>
    obtain ⟨k', v'⟩ := e
    unfold tabGet at h
    split at h
    · rename_i hk
      obtain rfl := Option.some.inj h
      exact hk ▸ List.mem_cons_self
    · exact List.mem_cons_of_mem _ (ih h)

/-- A read whose pieces all closed OK has no worst piece. -/
theorem worstPiece_none {r : HostRd} (h : ∀ e ∈ r.done, e.2.status = St.ok) : worstPiece r = none := by
  unfold worstPiece
  rw [List.filterMap_eq_nil_iff.2 fun i _ => ?_]
  · rfl
  · split
    · rename_i d hd
      exact if_pos (h _ (mem_of_tabGet hd))
    · rfl

/-- The first data of a read are among what leaves. -/
theorem emitCpls_first (s : State) (ptag k : Nat) (ks : List Nat) (data : List Byte) :
    Out.cpl ptag 0 (data.take k) ∈ (emitCpls s ptag (k :: ks) data).out :=
  (brgSame_emitCpls (emit s (.cpl ptag 0 (data.take k))) ptag ks (data.drop k)).out (List.mem_append_right _ (List.mem_singleton_self _))

/-- A read whose pieces all closed OK is answered with data (R201). -/
theorem readRespond_ok {r : HostRd} (h : ∀ e ∈ r.done, e.2.status = St.ok) (hlen : r.len ≠ 0) : ∃ d, Out.cpl r.ptag 0 d ∈ (readRespond s r).out := by
  unfold readRespond
  dsimp only
  rw [worstPiece_none h, cplSizes, if_neg hlen]
  exact ⟨_, emitCpls_first ..⟩

/-- A hit with its data: every piece is OK, from the held lines (R206). -/
def hitData (s : State) (r : HostRd) : HostRd :=
  { r with done := (List.range r.pieces.length).filterMap fun i => (r.pieces[i]?).map fun p =>
      (i, ({ status := 0, cause := 0, data := (List.range p.len).map fun j => (heldByte s r.win (p.addr + j)).getD 0#8, tag := 0 } : RdDone)) }

/-- The bridge as it answers a hit. -/
def hitSent (s : State) (r : HostRd) : State :=
  readRespond (bump (markGiven s r.win (neededBytes r)) Pg.win F.WIN_PF_HIT 1 r.win) (hitData s r)

theorem hitData_ok (s : State) (r : HostRd) : ∀ e ∈ (hitData s r).done, e.2.status = St.ok := fun e he => by
  obtain ⟨i, _, hi⟩ := List.mem_filterMap.1 he
  obtain ⟨p, _, rfl⟩ := Option.map_eq_some_iff.1 hi
  rfl

/-- What a hit sends stays sent while the bridge reads ahead. -/
theorem hitSent_out (s : State) (r : HostRd) (w : ObWin) : (hitSent s r).out ⊆ (hitRead s r w).out :=
  (pumpKept_runAhead (setBrg (hitSent s r) { (hitSent s r).brg with offers := (hitSent s r).brg.offers.filter (!isPlace r.rid ·) }) r.win w
    ((neededBytes r).foldl max 0)).out

/-- A hit is answered with data (R206). -/
theorem hitRead_answers {r : HostRd} {w : ObWin} (hlen : r.len ≠ 0) : ∃ d, Out.cpl r.ptag 0 d ∈ (hitRead s r w).out := by
  obtain ⟨d, hd⟩ := readRespond_ok (s := bump (markGiven s r.win (neededBytes r)) Pg.win F.WIN_PF_HIT 1 r.win) (hitData_ok s r) hlen
  exact ⟨d, hitSent_out s r w hd⟩

/-- A read that held lines can answer is a hit (R206). -/
theorem serveRead_hit {r : HostRd} {w : ObWin} (h : ∀ x ∈ r.pieces, ∀ j, j < x.len → (heldByte s r.win (x.addr + j)).isSome = true) :
    serveRead s r w = hitRead s r w := by
  have hall : ((neededBytes r).all fun a => (heldByte s r.win a).isSome) = true := by
    refine List.all_eq_true.2 fun a ha => ?_
    obtain ⟨_, hl, ha⟩ := List.mem_flatten.1 ha
    obtain ⟨x, hx, rfl⟩ := List.mem_map.1 hl
    obtain ⟨j, hj, rfl⟩ := List.mem_map.1 ha
    exact h x hx j (List.mem_range.1 hj)
  simp only [serveRead, hall, if_true]

/-- A host read that held lines can answer is answered with data before anything else (R206). -/
theorem hostRead_hit {ptag off wi : Nat} {w : ObWin} {en : List Bool} (hbars : barsOpen s = true) (hroom : readRoom s = true)
    (hen : en.contains true = true) (hlen : en.length ≤ 4096) (hfind : obFind s off en.length = some (wi, w)) (htakes : blockRefuses s Pg.brg = none)
    (hlane : laneAllows w (enabledRuns (off - w.host) en) = true)
    (hheld : ∀ x ∈ formPieces w (off - w.host) en [], ∀ j, j < x.len → (heldByte s wi (x.addr + j)).isSome = true) :
    ∃ d, Out.cpl ptag 0 d ∈ (hostRead s ptag off en).out := by
  have hne : (newRead s ptag off wi w en).len ≠ 0 := fun h => by
    rw [List.length_eq_zero_iff.1 h] at hen
    exact nomatch hen
  rw [hostRead_taken hen hbars hroom hlen hfind htakes hlane,
    serveRead_hit (s := readTaken s (newRead s ptag off wi w en)) (r := newRead s ptag off wi w en) hheld]
  obtain ⟨d, hd⟩ := hitRead_answers (s := readTaken s (newRead s ptag off wi w en)) (w := w) hne
  exact ⟨d, (pumpKept_brgPump _).out hd⟩

/-- The refusal of a read counts as UR (R190). -/
theorem hostRead_noWindow_counts (s : State) :
    getF (bump (noteErr (bump s Pg.brg F.BRG_HOST_RD) Pg.brg St.addrErr 0x46 0) Pg.brg F.BRG_UR_SENT) Pg.brg F.BRG_UR_SENT =
      (getF s Pg.brg F.BRG_UR_SENT + 1) % 2 ^ 32 := by
  rw [getF_bump_same _ _ rfl rfl, (SameRegs.noteErr (ks := errKeys Pg.brg) (SameRegs.refl _ _) fun _ hk => hk).getF (by decide),
    getF_bump_ne _ (by decide)]

/-- Settles O26: requests that are taken are held beside what the bridge can offer at once, and a bound finds what has not ended before it. -/
theorem hostRequestsAndTimeouts : Obligations.HostRequestsAndTimeouts := by
  unfold Obligations.HostRequestsAndTimeouts
  refine ⟨fun s ptag off ha hbars => ⟨fun bytes hroom => ⟨fun hfind hlog => ?_, fun wi w hfind htakes hlane hne => ?_⟩,
    fun en hroom hen => ⟨fun hfind => ?_, fun wi w hlen hfind htakes hlane hahead hparts hnew => ?_⟩,
    fun wi w hroom hfind htakes hwrites => ?_⟩,
    fun s ha => ⟨fun ptag r hfind hopen => ?_, fun ptag hnone => ?_, fun win start p hp => ?_,
      fun win start ptag off en wi w hbars hroom hen hlen hfind htakes hlane hheld => ?_⟩⟩
  · obtain ⟨hbrg, hregs⟩ := writeRefused_spec (s := bump (cleared s) Pg.brg F.BRG_HOST_WR) St.addrErr 0x46 3 0 off bytes.length hlog
    refine completes_during ha rfl ?_
    rw [hostWrite_noWindow (s := cleared s) hbars hroom hfind]
    refine ⟨?_, hbrg, ?_⟩
    · rw [hregs.getF (by decide)]
      exact getF_bump_same (cleared s) Pg.brg rfl rfl
    · exact (SameRegs.bump (SameRegs.refl _ s) (List.mem_cons_self ..)).trans (hregs.mono fun _ hk => List.mem_cons_of_mem _ hk)
  · exact completes_during ha rfl (hostWrite_taken_spec (s := cleared s) hbars hroom hfind htakes hlane rfl hne)
  · refine completes_during ha rfl ?_
    rw [hostRead_noWindow (s := cleared s) hen hbars hroom hfind]
    refine ⟨List.mem_append_right _ (List.mem_singleton_self _), ?_, ?_⟩
    · exact hostRead_noWindow_counts (cleared s)
    · exact noteErr_brg ..
  · obtain ⟨hcount, hmem⟩ := hostRead_demand (s := cleared s) (ptag := ptag) hen hbars hroom hlen hfind htakes hlane hahead hparts hnew
    exact completes_during ha rfl ⟨hcount, _, hmem, rfl, rfl, rfl, rfl, rfl, rfl, fun ho => if_pos ho⟩
  · obtain ⟨hout, hregs, hbeside⟩ := hostFlush_spec (s := cleared s) (ptag := ptag) hbars hroom hfind htakes hwrites
    exact completes_during ha rfl ⟨hout, hregs.from_eq rfl, hbeside⟩
  · exact completes_during ha rfl (hostReadTimeout_spec (s := cleared s) hfind hopen)
  · refine completes_during ha rfl ?_
    rw [readTimeoutMeet, if_pos rfl, hostReadTimeout, hnone]
  · exact completes_during ha rfl (lineExpire_single (s := cleared s) hp)
  · obtain ⟨d, hd⟩ := hostRead_hit (s := cleared s) (ptag := ptag) hbars hroom hen hlen hfind htakes hlane hheld
    exact completes_during ha rfl ⟨⟨d, (pumpKept_discardParts ..).out hd⟩, lineExpire_gone _ win start⟩

end Sys2Proof.Machine
end

section
/-! PROOFS. The tick of an idle hub, the reading and the steps of local time, and the servo (R26, R217, R218, R230 to R234). -/

namespace Sys2Proof.Machine

/-- Settles O2: a step on an empty queue is the tick, which moves the watch count and the clocks of `TimeSt` only. -/
theorem emptyQueueTicks : Obligations.EmptyQueueTicks := by
  unfold Obligations.EmptyQueueTicks
  intro s hq
  have hstep : step s = .next (timeTick (cleared s)) := by
    unfold step
    split
    · rfl
    · rename_i hcons
      cases hq.symm.trans hcons
  exact ⟨hstep, rfl, rfl⟩

/-! ## The latch of NOW (R218) -/

/-- The words that the latch holds. -/
theorem nowLatchRegs_spec (s : State) : getF (nowLatchRegs s) Pg.tmk F.TMK_NOW_NS_NS = nowNs s ∧
    getF (nowLatchRegs s) Pg.tmk F.TMK_NOW_SEC_LO_SEC_LO = nowSec s % 2 ^ 32 ∧
    getF (nowLatchRegs s) Pg.tmk F.TMK_NOW_SEC_HI_SEC_HI = nowSec s / 2 ^ 32 % 2 ^ 16 ∧
    getF (nowLatchRegs s) Pg.tmk F.TMK_NOW_STAMP_STAMP = totalNs s % 2 ^ 32 := by
  have hns : nowNs s % 2 ^ 30 = nowNs s := Nat.mod_eq_of_lt (lt_trans (Nat.mod_lt _ (by decide)) (by decide))
  unfold nowLatchRegs
  refine ⟨?_, ?_, ?_, ?_⟩
  · rw [getF_setF_ne _ _ _ _ _ _ (by decide), getF_setF_ne _ _ _ _ _ _ (by decide), getF_setF_ne _ _ _ _ _ _ (by decide),
      getF_setF_same _ _ _ _ _ (by decide)]
    exact hns
  · rw [getF_setF_ne _ _ _ _ _ _ (by decide), getF_setF_ne _ _ _ _ _ _ (by decide), getF_setF_same _ _ _ _ _ (by decide)]
    exact Nat.mod_mod _ _
  · rw [getF_setF_ne _ _ _ _ _ _ (by decide), getF_setF_same _ _ _ _ _ (by decide)]
    rfl
  · rw [getF_setF_same _ _ _ _ _ (by decide)]
    exact Nat.mod_mod _ _

/-- The latch is registers of page TMK. -/
theorem nowLatchRegs_only (s : State) : OnlyPages [Pg.tmk] s (nowLatchRegs s) ∧ beside (nowLatchRegs s) = beside s :=
  ⟨((((OnlyPages.refl _ s).setF (List.mem_singleton_self _) (by decide)).setF (List.mem_singleton_self _) (by decide)).setF
    (List.mem_singleton_self _) (by decide)).setF (List.mem_singleton_self _) (by decide), rfl⟩

/-- NOW_SEC_LO has no RC field: a read of it changes nothing. -/
theorem regRead_nowSecLo (s : State) : (regRead s Pg.tmk 0x4C).2 = s := by
  have hrc : accMask Pg.tmk 0x4C (fun a => a == .rc) = 0#32 := by decide
  have hpop : popWord s Pg.tmk 0x4C = none := rfl
  have hno : ¬(Pg.tmk = Pg.tmk ∧ 0x4C = 0x48) := by decide
  rw [regRead, hpop]
  dsimp only
  rw [if_neg hno, hrc, if_pos rfl]

/-- A read of NOW_NS, alone or with NOW_SEC_LO, latches once. -/
theorem bytesRead_now (s : State) {len : Nat} (h : len = 4 ∨ len = 8) : (bytesRead s Pg.tmk 0x48 len).2 = nowLatchRegs s := by
  rcases h with rfl | rfl
  · exact congrArg Prod.snd (bytesRead_one (by decide))
  · exact regRead_nowSecLo (nowLatchRegs s)

/-- NOW_LATCH completes with the latch. -/
theorem completes_nowLatch {s : State} {who : Agent} {len : Nat} (hlen : len = 4 ∨ len = 8) (h : accReaches s who Pg.tmk 0x48 = true) :
    Completes (.nowLatch who len) s fun u =>
      getF u Pg.tmk F.TMK_NOW_NS_NS = nowNs s ∧ getF u Pg.tmk F.TMK_NOW_SEC_LO_SEC_LO = nowSec s % 2 ^ 32 ∧
        getF u Pg.tmk F.TMK_NOW_SEC_HI_SEC_HI = nowSec s / 2 ^ 32 % 2 ^ 16 ∧ getF u Pg.tmk F.TMK_NOW_STAMP_STAMP = totalNs s % 2 ^ 32 ∧
        OnlyPages [Pg.tmk] s u ∧ beside u = beside s := by
  obtain ⟨ha, -, hdeaf, -, hhung⟩ := accReaches_spec h
  have hd : testDeaf (accNext (cleared s)) who Pg.tmk = false := hdeaf
  have hh : hungRefuses (accNext (cleared s)) Pg.tmk 0x48 = false := hhung
  have hb : accBad Pg.tmk 0x48 len = false := by rcases hlen with rfl | rfl <;> decide
  have hread : accRead (accNext (cleared s)) who (cleared s).cul.accId Pg.tmk 0x48 len false =
      accEnd (nowLatchRegs (accNext (cleared s))) who (cleared s).cul.accId St.ok 0 (bytesRead (accNext (cleared s)) Pg.tmk 0x48 len).1
        (accExec 1 Pg.tmk 0x48 len []) := by
    rw [← bytesRead_now _ hlen]
    simp only [accRead, hd, hb, pageAccess, hh, Bool.false_and, Bool.false_eq_true, if_false, if_true]
  obtain ⟨hns, hlo, hhi, hstamp⟩ := nowLatchRegs_spec (accNext (cleared s))
  obtain ⟨honly, hbeside⟩ := nowLatchRegs_only (accNext (cleared s))
  have hregs := accEnd_ok_regs (nowLatchRegs (accNext (cleared s))) who (cleared s).cul.accId 0 (bytesRead (accNext (cleared s)) Pg.tmk 0x48 len).1
    (accExec 1 Pg.tmk 0x48 len [])
  have hexec : exec (.nowLatch who len) s = .next (during s fun a => accRead (accNext a) who a.cul.accId Pg.tmk 0x48 len false) := rfl
  refine completes_during ha hexec ?_
  rw [hread]
  refine ⟨(getF_of_regs hregs ..).trans hns, (getF_of_regs hregs ..).trans hlo, (getF_of_regs hregs ..).trans hhi,
    (getF_of_regs hregs ..).trans hstamp, honly.of_eq hregs, (beside_accEnd_ok ..).trans hbeside⟩

/-! ## Steps of local time (R230) -/

/-- The registers that a step of local time writes. -/
def stepKeys : List Nat := fKey Pg.tmk F.TMK_STEPS :: irqKeys Pg.tmk

/-- What a step of local time by `d` units leaves. -/
structure TimeStepped (s u : State) (d : Int) : Prop where
  time : u.time = { s.time with acc := timeMove s.time.acc d }
  steps : getF u Pg.tmk F.TMK_STEPS = (getF s Pg.tmk F.TMK_STEPS + 1) % 2 ^ 32
  raw : getW u Pg.tmk 0x10 = getW s Pg.tmk 0x10 ||| 4#32
  item : u.cul.ringW = s.cul.ringW ++ [.step d]
  wait : u.cul.stepWait = s.cul.stepWait + 1
  regs : SameRegs stepKeys s u

/-- Local time has moved, and the marker exchange in hand is discarded. -/
def timeMoved (s : State) (d : Int) : State :=
  { s with time := { s.time with acc := timeMove s.time.acc d }, cul := { s.cul with markX := s.cul.markX + 1 } }

theorem timeStep_stepped (s : State) (d : Int) : TimeStepped s (timeStep s d) d where
  time := by
    simp only [timeStep, ringItem, irqEvent_time]
    rfl
  steps := by
    refine (getF_irqEvent_ne _ _ _ (by decide) (by decide)).trans ?_
    exact getF_bump_same _ _ rfl rfl
  raw := by
    refine (getW_irqEvent_raw ..).trans ?_
    rw [bump, setF, getW_setW_ne _ _ (by decide)]
    rfl
  item := by
    simp only [timeStep, ringItem, irqEvent_cul]
    rfl
  wait := by
    simp only [timeStep, ringItem, irqEvent_cul]
    rfl
  regs := by
    have hbump : SameRegs stepKeys s (bump (timeMoved s d) Pg.tmk F.TMK_STEPS) := SameRegs.bump (fun _ _ => rfl) (by simp [stepKeys])
    exact (hbump.irqEvent (p := Pg.tmk) (b := 2) (by simp [stepKeys, irqKeys]) (by simp [stepKeys, irqKeys])).of_eq rfl

/-- States that agree beside their registers agree on what waits for the field die. -/
theorem culQueues_of_beside {s t : State} (h : beside s = beside t) :
    s.cul.ringW = t.cul.ringW ∧ s.cul.execId = t.cul.execId ∧ s.cul.stepWait = t.cul.stepWait :=
  ⟨show (beside s).cul.ringW = (beside t).cul.ringW from h ▸ rfl, show (beside s).cul.execId = (beside t).cul.execId from h ▸ rfl,
    show (beside s).cul.stepWait = (beside t).cul.stepWait from h ▸ rfl⟩

/-- The end of the access that a step came with leaves it as it is. -/
theorem TimeStepped.accessed {s t u : State} {d : Int} (h : TimeStepped (accNext (cleared s)) t d) (hr : u.regs = t.regs) (hb : beside u = beside t) :
    TimeStepped s u d := by
  obtain ⟨hitem, -, hwait⟩ := culQueues_of_beside hb
  exact ⟨(time_of_beside hb).trans h.time, (getF_of_regs hr ..).trans h.steps, (getW_of_regs hr ..).trans h.raw, hitem.trans h.item,
    hwait.trans h.wait, h.regs.of_eq hr⟩

/-- A command register of page TMK has neither a lock field nor the servo for its owner. -/
theorem judged_tmk {s t : State} {who : Agent} {off : Nat} {v : Word} (hoff : off = 0x64 ∨ off = 0x68 ∨ off = 0x70)
    (h : tmkCmd s off v = some t) : judged s who Pg.tmk off v = (ackOk, t) := by
  have hlock : lockAllows s Pg.tmk off v = true := lockAllows_of (by rcases hoff with rfl | rfl | rfl <;> decide) (.inr (by omega))
  refine judged_command (by omega) (by omega) hlock ?_
  have hcmd : (if isFieldPage Pg.tmk then fieldCmd s Pg.tmk off v else ringCmd s who Pg.tmk off v (leBytes 4 v.toNat) false) =
      (tmkCmd s off v).map fun a => (ackOk, a) := rfl
  rw [hcmd, h]
  rfl

/-- A move by a difference arrives at its target. -/
theorem timeMove_to (a b : Nat) : timeMove a ((b : Int) - a) = b % timeWrap := by
  rw [timeMove, add_sub_cancel, ← Int.natCast_mod, Int.toNat_natCast]

/-- TIME_SET steps local time to the staged time. -/
theorem completes_timeSet {s : State} {who : Agent} (h : writeReaches s who Pg.tmk 0x64 = true) : Completes (.timeSet who) s fun u =>
    ∃ d, TimeStepped s u d ∧ u.time.acc = ((getF s Pg.tmk F.TMK_SET_SEC_LO_SEC_LO + 2 ^ 32 * getF s Pg.tmk F.TMK_SET_SEC_HI_SEC_HI) * 1000000000 +
      getF s Pg.tmk F.TMK_SET_NS_NS) * unitNs % timeWrap := by
  refine completes_write h rfl rfl (judged_tmk (.inl rfl) rfl) fun u hr hb _ => ?_
  have hstep := (timeStep_stepped (accNext (cleared s)) _).accessed hr hb
  exact ⟨_, hstep, (congrArg TimeSt.acc hstep.time).trans (timeMove_to ..)⟩

/-- TIME_ADJUST steps local time by what is written. -/
theorem completes_timeAdjust {s : State} {who : Agent} {v : Word} (h : writeReaches s who Pg.tmk 0x68 = true) :
    Completes (.timeAdjust who v) s fun u => TimeStepped s u (v.toInt * unitNs) :=
  completes_write h rfl rfl (judged_tmk (.inr (.inl rfl)) rfl) fun _ hr hb _ => (timeStep_stepped ..).accessed hr hb

/-! ## The servo (R231 to R234) -/

theorem clampTo_bounds {l : Int} (x : Int) (h : 0 ≤ l) : -l ≤ clampTo l x ∧ clampTo l x ≤ l := by
  unfold clampTo
  omega

/-- The limit of the servo, in the units of FREQ and INTEG. -/
def servoLim (s : State) : Int := 256 * (getF s Pg.tmk F.TMK_SERVO_LIMIT_LIMIT : Int)

/-- What the limit admits has room in a signed register. -/
theorem clampTo_servoLim (s : State) (x : Int) : -2 ^ 31 ≤ clampTo (servoLim s) x ∧ clampTo (servoLim s) x < 2 ^ 31 := by
  have hlim : getF s Pg.tmk F.TMK_SERVO_LIMIT_LIMIT < 2 ^ 20 := Nat.mod_lt _ (by decide)
  obtain ⟨hlow, hhigh⟩ := clampTo_bounds (l := servoLim s) x (by unfold servoLim; omega)
  unfold servoLim at *
  omega

/-- A register word put as a signed number reads as the word. -/
theorem ofSigned_toInt (v : Word) : ofSigned 32 v.toInt % 2 ^ 32 = v.toNat := by
  have hlt := v.isLt
  rw [ofSigned, BitVec.toInt_eq_toNat_bmod, Int.bmod_emod, ← Int.natCast_mod, Int.toNat_natCast, Nat.mod_mod, Nat.mod_eq_of_lt hlt]

/-- The registers that a change of SERVO_STATE writes. -/
def servoKeys : List Nat := fKey Pg.tmk F.TMK_STAT_SERVO_STATE :: irqKeys Pg.tmk

theorem servoState_spec (s : State) {st : Nat} (h : st < 4) :
    getF (servoState s st) Pg.tmk F.TMK_STAT_SERVO_STATE = st ∧ SameRegs servoKeys s (servoState s st) ∧ (servoState s st).time = s.time := by
  refine ⟨?_, ?_, (holdKept_servoState s st).time⟩
  · unfold servoState
    split
    · assumption
    · rw [getF_irqEvent_ne _ _ _ (by decide) (by decide), getF_setF_same _ _ _ _ _ (by decide)]
      exact Nat.mod_eq_of_lt h
  · unfold servoState
    split
    · exact .refl _ s
    · exact ((SameRegs.refl _ s).setF (by simp [servoKeys])).irqEvent (by simp [servoKeys, irqKeys]) (by simp [servoKeys, irqKeys])

theorem setFreq_spec (s : State) {f : Int} (h1 : -2 ^ 31 ≤ f) (h2 : f < 2 ^ 31) :
    tmkFreq (setFreq s f) = f ∧ SameRegs [fKey Pg.tmk F.TMK_FREQ_FREQ] s (setFreq s f) ∧ (setFreq s f).time = s.time := by
  refine ⟨?_, ?_, (holdKept_setFreq s f).time⟩
  · unfold setFreq
    split
    · assumption
    · refine (congrArg (toSigned 32) (getF_setF_same _ _ _ _ _ (by decide))).trans ?_
      exact toSigned_ofSigned h1 h2
  · unfold setFreq
    split
    · exact .refl _ s
    · exact ((SameRegs.refl _ s).setF (List.mem_singleton_self _)).of_eq rfl

/-- The servo has taken note of a sample. -/
def sampled (s : State) (e : Int) : State := bump (setF s Pg.tmk F.TMK_LAST_E_E (ofSigned 32 e)) Pg.tmk F.TMK_SERVO_SAMPLES

theorem sampled_spec (s : State) (v : Word) : getF (sampled s v.toInt) Pg.tmk F.TMK_LAST_E_E = v.toNat ∧
    getF (sampled s v.toInt) Pg.tmk F.TMK_SERVO_SAMPLES = (getF s Pg.tmk F.TMK_SERVO_SAMPLES + 1) % 2 ^ 32 ∧
    SameRegs [fKey Pg.tmk F.TMK_LAST_E_E, fKey Pg.tmk F.TMK_SERVO_SAMPLES] s (sampled s v.toInt) := by
  refine ⟨?_, ?_, ((SameRegs.refl _ s).setF (by simp)).bump (by simp)⟩
  · rw [sampled, getF_bump_ne _ (by decide), getF_setF_same _ _ _ _ _ (by decide)]
    exact ofSigned_toInt v
  · rw [sampled, getF_bump_same _ _ rfl rfl, getF_setF_ne _ _ _ _ _ _ (by decide)]

/-- The state after a sample, before SERVO_STATE follows: `t` with this number of good samples. -/
def goodSet (t : State) (n : Nat) : State := { t with time := { t.time with good := n } }

/-- A sample at or beyond the threshold steps local time (R232). -/
theorem servoSample_beyond {s : State} {e : Int} (hen : getB s Pg.tmk F.TMK_SERVO_CTL_EN = true)
    (h : getF s Pg.tmk F.TMK_SERVO_STEP_THRESH * 16 ≤ e.natAbs) :
    servoSample s e = servoState (goodSet (timeStep (sampled s e) (-e * 16000000000)) 0) 1 := by
  have hthresh : (getF s Pg.tmk F.TMK_SERVO_STEP_THRESH : Int) * 16 ≤ e.natAbs := by exact_mod_cast h
  rw [servoSample, hen, Bool.not_true, if_neg Bool.false_ne_true]
  dsimp only
  rw [if_pos hthresh]
  rfl

/-- The integral and the frequency that a sample gives, and the number of good samples (R232). -/
def servoInteg (s : State) (e : Int) : Int :=
  clampTo (servoLim s) (roundDiv (toSigned 32 (getF s Pg.tmk F.TMK_INTEG_INTEG) * 2 ^ 20 + getF s Pg.tmk F.TMK_SERVO_KI_KI * e) (2 ^ 20))
def servoFreq (s : State) (e : Int) : Int :=
  clampTo (servoLim s) (-(roundDiv (getF s Pg.tmk F.TMK_SERVO_KP_KP * e + servoInteg s e * 2 ^ 12) (2 ^ 12)))
def servoGood (s : State) (e : Int) : Nat := if e.natAbs < 16 * getF s Pg.tmk F.TMK_SERVO_LOCK_LOCK_NS then min (s.time.good + 1) 8 else 0

/-- A sample below the threshold moves the integral and the frequency (R232). -/
theorem servoSample_within {s : State} {e : Int} (hen : getB s Pg.tmk F.TMK_SERVO_CTL_EN = true)
    (h : e.natAbs < getF s Pg.tmk F.TMK_SERVO_STEP_THRESH * 16) :
    servoSample s e = servoState (goodSet (setFreq (setF (sampled s e) Pg.tmk F.TMK_INTEG_INTEG (ofSigned 32 (servoInteg s e))) (servoFreq s e))
      (servoGood s e)) (if servoGood s e = 8 then 2 else 1) := by
  have hthresh : ¬ (getF s Pg.tmk F.TMK_SERVO_STEP_THRESH : Int) * 16 ≤ e.natAbs := by
    rw [not_le]
    exact_mod_cast h
  have hgood : (if (e.natAbs : Int) < 16 * (getF s Pg.tmk F.TMK_SERVO_LOCK_LOCK_NS : Int) then min (s.time.good + 1) 8 else 0) = servoGood s e :=
    if_congr (by exact_mod_cast Iff.rfl) rfl rfl
  rw [servoSample, hen, Bool.not_true, if_neg Bool.false_ne_true]
  dsimp only
  rw [if_neg hthresh, hgood]
  rfl

/-- What a sample at or beyond the threshold leaves. -/
theorem servoSample_beyond_spec {s : State} {v : Word} (hen : getB s Pg.tmk F.TMK_SERVO_CTL_EN = true)
    (h : getF s Pg.tmk F.TMK_SERVO_STEP_THRESH * 16 ≤ v.toInt.natAbs) :
    (servoSample s v.toInt).time = { s.time with acc := timeMove s.time.acc (-v.toInt * 16000000000), good := 0 } ∧
      getF (servoSample s v.toInt) Pg.tmk F.TMK_LAST_E_E = v.toNat ∧
      getF (servoSample s v.toInt) Pg.tmk F.TMK_SERVO_SAMPLES = (getF s Pg.tmk F.TMK_SERVO_SAMPLES + 1) % 2 ^ 32 ∧
      getF (servoSample s v.toInt) Pg.tmk F.TMK_STAT_SERVO_STATE = 1 ∧
      getF (servoSample s v.toInt) Pg.tmk F.TMK_STEPS = (getF s Pg.tmk F.TMK_STEPS + 1) % 2 ^ 32 := by
  obtain ⟨hlast, hsamples, hregs⟩ := sampled_spec s v
  have hstep := timeStep_stepped (sampled s v.toInt) (-v.toInt * 16000000000)
  obtain ⟨hstate, hservo, htime⟩ := servoState_spec (goodSet (timeStep (sampled s v.toInt) (-v.toInt * 16000000000)) 0) (st := 1) (by decide)
  have hstepped : SameRegs stepKeys (sampled s v.toInt) (goodSet (timeStep (sampled s v.toInt) (-v.toInt * 16000000000)) 0) := hstep.regs
  rw [servoSample_beyond hen h]
  refine ⟨htime.trans ?_, ?_, ?_, hstate, ?_⟩
  · exact congrArg (fun t : TimeSt => { t with good := 0 }) hstep.time
  · rw [hservo.getF (by decide), hstepped.getF (by decide), hlast]
  · rw [hservo.getF (by decide), hstepped.getF (by decide), hsamples]
  · rw [hservo.getF (by decide)]
    exact hstep.steps.trans (by rw [hregs.getF (by decide)])

/-- What a sample below the threshold leaves. -/
theorem servoSample_within_spec {s : State} {v : Word} (hen : getB s Pg.tmk F.TMK_SERVO_CTL_EN = true)
    (h : v.toInt.natAbs < getF s Pg.tmk F.TMK_SERVO_STEP_THRESH * 16) :
    toSigned 32 (getF (servoSample s v.toInt) Pg.tmk F.TMK_INTEG_INTEG) = servoInteg s v.toInt ∧
      tmkFreq (servoSample s v.toInt) = servoFreq s v.toInt ∧ getF (servoSample s v.toInt) Pg.tmk F.TMK_LAST_E_E = v.toNat ∧
      (servoSample s v.toInt).time = { s.time with good := servoGood s v.toInt } ∧
      getF (servoSample s v.toInt) Pg.tmk F.TMK_STAT_SERVO_STATE = (if servoGood s v.toInt = 8 then 2 else 1) := by
  obtain ⟨hlast, -, -⟩ := sampled_spec s v
  obtain ⟨hinteg1, hinteg2⟩ : -2 ^ 31 ≤ servoInteg s v.toInt ∧ servoInteg s v.toInt < 2 ^ 31 := clampTo_servoLim ..
  obtain ⟨hfreq1, hfreq2⟩ : -2 ^ 31 ≤ servoFreq s v.toInt ∧ servoFreq s v.toInt < 2 ^ 31 := clampTo_servoLim ..
  obtain ⟨hfreq, hset, hsetTime⟩ := setFreq_spec
    (setF (sampled s v.toInt) Pg.tmk F.TMK_INTEG_INTEG (ofSigned 32 (servoInteg s v.toInt))) hfreq1 hfreq2
  rw [servoSample_within hen h]
  generalize hmid : setFreq (setF (sampled s v.toInt) Pg.tmk F.TMK_INTEG_INTEG (ofSigned 32 (servoInteg s v.toInt))) (servoFreq s v.toInt) = mid at *
  obtain ⟨hstate, hservo, htime⟩ := servoState_spec (goodSet mid (servoGood s v.toInt)) (st := if servoGood s v.toInt = 8 then 2 else 1)
    (by split <;> decide)
  have hkeep : ∀ f, fKey Pg.tmk f ∉ servoKeys →
      getF (servoState (goodSet mid (servoGood s v.toInt)) (if servoGood s v.toInt = 8 then 2 else 1)) Pg.tmk f = getF mid Pg.tmk f :=
    fun f hf => hservo.getF hf
  refine ⟨?_, ?_, ?_, htime.trans ?_, hstate⟩
  · rw [hkeep _ (by decide), hset.getF (by decide), getF_setF_same _ _ _ _ _ (by decide)]
    exact toSigned_ofSigned hinteg1 hinteg2
  · rw [tmkFreq, hkeep _ (by decide), ← tmkFreq, hfreq]
  · rw [hkeep _ (by decide), hset.getF (by decide), getF_setF_ne _ _ _ _ _ _ (by decide), hlast]
  · exact congrArg (fun t : TimeSt => { t with good := servoGood s v.toInt }) hsetTime

/-- Holdover falls back to the integral (R232). -/
theorem servoHold_spec {s : State} (hen : getB s Pg.tmk F.TMK_SERVO_CTL_EN = true) :
    tmkFreq (servoHold s) = clampTo (servoLim s) (-(toSigned 32 (getF s Pg.tmk F.TMK_INTEG_INTEG))) ∧
      getF (servoHold s) Pg.tmk F.TMK_STAT_SERVO_STATE = 3 ∧ (servoHold s).time = s.time := by
  obtain ⟨h1, h2⟩ := clampTo_servoLim s (-(toSigned 32 (getF s Pg.tmk F.TMK_INTEG_INTEG)))
  obtain ⟨hfreq, -, htime⟩ := setFreq_spec s h1 h2
  have hhold : servoHold s = servoState (setFreq s (clampTo (servoLim s) (-(toSigned 32 (getF s Pg.tmk F.TMK_INTEG_INTEG))))) 3 := by
    rw [servoHold, hen, Bool.not_true, if_neg Bool.false_ne_true]
    rfl
  obtain ⟨hstate, hservo, htime3⟩ :=
    servoState_spec (setFreq s (clampTo (servoLim s) (-(toSigned 32 (getF s Pg.tmk F.TMK_INTEG_INTEG))))) (st := 3) (by decide)
  rw [hhold]
  refine ⟨?_, hstate, htime3.trans htime⟩
  rw [tmkFreq, hservo.getF (by decide), ← tmkFreq, hfreq]

/-- A sample that PPS or a step discards only counts (R231, R234). -/
theorem servoIn_discarded {s : State} {v : Word} {meet : Bool} (h : getB s Pg.tmk F.TMK_SERVO_CTL_PPS_FEED = true ∨ meet = true) :
    servoIn s v meet = bump s Pg.tmk F.TMK_SERVO_DISCARD := by
  rw [servoIn, if_pos (by simpa using h)]

/-- A sample that nothing discards is the servo's. -/
theorem servoIn_taken {s : State} (v : Word) (h : getB s Pg.tmk F.TMK_SERVO_CTL_PPS_FEED = false) : servoIn s v false = servoSample s v.toInt := by
  rw [servoIn, h, Bool.or_false, if_neg Bool.false_ne_true]

/-- SERVO_SAMPLE with a sample that nothing discards. -/
theorem completes_servoSample {s : State} {who : Agent} {v : Word} {P : State → Prop} (h : writeReaches s who Pg.tmk 0x70 = true)
    (hfeed : getB s Pg.tmk F.TMK_SERVO_CTL_PPS_FEED = false)
    (hP : ∀ u, u.regs = (servoSample (accNext (cleared s)) v.toInt).regs → u.time = (servoSample (accNext (cleared s)) v.toInt).time → P u) :
    Completes (.servoSample who v false) s P := by
  have hin : tmkCmd (accNext (cleared s)) 0x70 v = some (servoSample (accNext (cleared s)) v.toInt) :=
    congrArg some (servoIn_taken (s := accNext (cleared s)) v hfeed)
  exact completes_write h rfl rfl (judged_tmk (.inr (.inr rfl)) hin) fun u hr hb _ => hP u hr (time_of_beside hb)

/-- Settles O29: a read of NOW_NS latches one instant, a set or an adjustment is one step, and a sample is discarded, steps local time or moves
the integral and the frequency. -/
theorem timeAndServo : Obligations.TimeAndServo := by
  unfold Obligations.TimeAndServo
  refine ⟨fun s who => ⟨fun len hlen h => completes_nowLatch hlen h, fun h => ?set, fun v h => ?adjust⟩,
    fun s who v lim integ freq => ⟨fun ha => ?meet, fun h hfeed => ?feed, fun h hfeed hen hbeyond => ?beyond,
      fun h hfeed hen hwithin hlim hinteg hfreq => ?within, fun ha hen => ?hold, fun ha => completes_during ha rfl rfl⟩⟩
  case set =>
    obtain ⟨u, hexec, d, hstep, hacc⟩ := completes_timeSet h
    exact ⟨u, hexec, hacc, hstep.steps, hstep.raw, ⟨d, hstep.item⟩, hstep.wait, hstep.regs⟩
  case adjust =>
    obtain ⟨u, hexec, hstep⟩ := completes_timeAdjust (v := v) h
    exact ⟨u, hexec, hstep.time, hstep.steps, hstep.raw, hstep.item, hstep.wait, hstep.regs⟩
  case meet =>
    have honly : OnlyRegs [fKey Pg.tmk F.TMK_SERVO_DISCARD] s (bump (accNext (cleared s)) Pg.tmk F.TMK_SERVO_DISCARD) :=
      ⟨SameRegs.bump (fun _ _ => rfl) (List.mem_singleton_self _), rfl⟩
    refine completes_during (f := fun a => accEnd (servoIn (nextAcc a).2 v true) who (nextAcc a).1 St.ok 0 [] (accExec 2 Pg.tmk 0x70 4 [])) ha rfl ?_
    rw [servoIn_discarded (.inr rfl)]
    exact ⟨(getF_of_regs (accEnd_ok_regs ..) ..).trans (getF_bump_same _ _ rfl rfl), honly.accEnd_ok ..⟩
  case feed =>
    have hin : tmkCmd (accNext (cleared s)) 0x70 v = some (bump (accNext (cleared s)) Pg.tmk F.TMK_SERVO_DISCARD) :=
      congrArg some (servoIn_discarded (s := accNext (cleared s)) (.inl hfeed))
    refine completes_write h rfl rfl (judged_tmk (.inr (.inr rfl)) hin) fun u hr hb _ => ⟨?_, ?_, hb⟩
    · exact (getF_of_regs hr ..).trans (getF_bump_same _ _ rfl rfl)
    · exact (SameRegs.bump (fun _ _ => rfl) (List.mem_singleton_self _)).of_eq hr
  case beyond =>
    obtain ⟨htime, hlast, hsamples, hstate, hsteps⟩ := servoSample_beyond_spec (s := accNext (cleared s)) hen hbeyond
    refine completes_servoSample h hfeed fun u hr ht => ⟨ht.trans htime, ?_, ?_, ?_, ?_⟩
    · exact (getF_of_regs hr ..).trans hlast
    · exact (getF_of_regs hr ..).trans hsamples
    · exact (getF_of_regs hr ..).trans hstate
    · exact (getF_of_regs hr ..).trans hsteps
  case within =>
    subst hlim hinteg hfreq
    obtain ⟨hinteg, hfreq, hlast, htime, hstate⟩ := servoSample_within_spec (s := accNext (cleared s)) hen hwithin
    refine completes_servoSample h hfeed fun u hr ht => ?_
    have htime' : u.time = { s.time with good := servoGood s v.toInt } := ht.trans htime
    refine ⟨?_, ?_, (getF_of_regs hr ..).trans hlast, by rw [htime'], congrArg TimeSt.good htime', ?_⟩
    · exact (congrArg (toSigned 32) (getF_of_regs hr ..)).trans hinteg
    · exact (congrArg (toSigned 32) (getF_of_regs hr ..)).trans hfreq
    · rw [htime']
      exact (getF_of_regs hr ..).trans hstate
  case hold =>
    exact completes_during ha rfl (servoHold_spec (s := cleared s) hen)

end Sys2Proof.Machine
end

section
/-! PROOFS. Triggers and captures (R237 to R239, R242). -/

namespace Sys2Proof.Machine

/-! ## A commit (R237) -/

/-- A register of page TRG beside the control register of trigger `t`. -/
theorem trgKey_ne {f : FieldD} {t : Nat} (hs : f.stride = 32) (ho : f.off / 4 ≠ 0x114 / 4) :
    fKey Pg.trg f t ∉ [regKey Pg.trg (0x114 + 32 * t)] := by
  rw [List.mem_singleton, fKey, hs]
  refine regKey_off_ne ?_
  omega

/-- The staged program does not read the register that commits it. -/
theorem trigStaged_same {s u : State} {t : Nat} (v : Word) (h : SameRegs [regKey Pg.trg (0x114 + 32 * t)] s u) (ht : u.time = s.time) :
    trigStaged u t v = trigStaged s t v := by
  have hsec : getF u Pg.trg F.TRG_START_SEC_LO_SEC_LO t = getF s Pg.trg F.TRG_START_SEC_LO_SEC_LO t := h.getF (trgKey_ne rfl (by decide))
  have hns : getF u Pg.trg F.TRG_START_NS_NS t = getF s Pg.trg F.TRG_START_NS_NS t := h.getF (trgKey_ne rfl (by decide))
  have hper : getF u Pg.trg F.TRG_PERIOD_NS_PERIOD t = getF s Pg.trg F.TRG_PERIOD_NS_PERIOD t := h.getF (trgKey_ne rfl (by decide))
  have hfrac : getF u Pg.trg F.TRG_PERIOD_FRAC_FRAC t = getF s Pg.trg F.TRG_PERIOD_FRAC_FRAC t := h.getF (trgKey_ne rfl (by decide))
  have hcount : getF u Pg.trg F.TRG_COUNT_COUNT t = getF s Pg.trg F.TRG_COUNT_COUNT t := h.getF (trgKey_ne rfl (by decide))
  simp only [trigStaged, nowSec, totalNs, ht, hsec, hns, hper, hfrac, hcount]

/-- The register of a trigger's ARMED, DONE and MISSED. -/
theorem trgStat_keys (t : Nat) : fKey Pg.trg F.TRG_STAT_DONE t = fKey Pg.trg F.TRG_STAT_ARMED t ∧
    fKey Pg.trg F.TRG_STAT_MISSED t = fKey Pg.trg F.TRG_STAT_ARMED t := ⟨rfl, rfl⟩

/-- What a commit leaves (R237, R238). -/
theorem trigCommit_spec (s : State) (t : Nat) (v : Word) :
    getB (trigCommit s t v) Pg.trg F.TRG_STAT_ARMED t = (wordBits v 0 2 != 0) ∧ getB (trigCommit s t v) Pg.trg F.TRG_STAT_DONE t = false ∧
      getF (trigCommit s t v) Pg.trg F.TRG_STAT_MISSED t = 0 ∧
      (trigCommit s t v).cul.ringW = s.cul.ringW ++ [.cfg s.cul.execId (.trig t (trigStaged s t v))] ∧
      SameRegs [fKey Pg.trg F.TRG_STAT_ARMED t] s (trigCommit s t v) := by
  obtain ⟨hdone, hmissed⟩ := trgStat_keys t
  have hregs : (trigCommit s t v).regs =
      (setF (setB (setB s Pg.trg F.TRG_STAT_DONE false t) Pg.trg F.TRG_STAT_ARMED (wordBits v 0 2 != 0) t) Pg.trg F.TRG_STAT_MISSED 0 t).regs := rfl
  refine ⟨?_, ?_, ?_, rfl, ?_⟩
  · rw [getB_of_regs hregs, getB, getF_setF_apart _ _ F.TRG_STAT_MISSED F.TRG_STAT_ARMED _ _ _ rfl (by decide) (by decide), ← getB]
    exact getB_setB_same _ _ _ _ _ (by decide) rfl
  · rw [getB_of_regs hregs, getB, getF_setF_apart _ _ F.TRG_STAT_MISSED F.TRG_STAT_DONE _ _ _ rfl (by decide) (by decide), setB,
      getF_setF_apart _ _ F.TRG_STAT_ARMED F.TRG_STAT_DONE _ _ _ rfl (by decide) (by decide), ← getB]
    exact getB_setB_same _ _ _ _ _ (by decide) rfl
  · rw [getF_of_regs hregs, getF_setF_same _ _ _ _ _ (by decide), Nat.zero_mod]
  · exact ((((SameRegs.refl _ s).setB (by simp [hdone])).setB (by simp)).setF (by simp [hmissed])).of_eq hregs

/-- A commit is what follows from a write of the trigger's control register. -/
theorem afterWrite_trigger (s : State) {t : Nat} (ht : t < 8) (old : Word) :
    afterWrite s Pg.trg (0x114 + 32 * t) old = trigCommit s t (getW s Pg.trg (0x114 + 32 * t)) := by
  interval_cases t <;> rfl

/-- TRIGGER_COMMIT (R237). -/
theorem completes_triggerCommit {s : State} {who : Agent} {t : Nat} {v : Word} (ht : t < 8)
    (h : writeTaken s who Pg.trg (0x114 + 32 * t) v = true) : Completes (.triggerCommit who t v) s fun u =>
      getW u Pg.trg (0x114 + 32 * t) = storedWord Pg.trg (0x114 + 32 * t) (getW s Pg.trg (0x114 + 32 * t)) v v ∧
        getB u Pg.trg F.TRG_STAT_ARMED t = (wordBits (getW u Pg.trg (0x114 + 32 * t)) 0 2 != 0) ∧ getB u Pg.trg F.TRG_STAT_DONE t = false ∧
        getF u Pg.trg F.TRG_STAT_MISSED t = 0 ∧
        u.cul.ringW = s.cul.ringW ++ [.cfg s.cul.execId (.trig t (trigStaged s t (getW u Pg.trg (0x114 + 32 * t))))] ∧
        SameRegs [regKey Pg.trg (0x114 + 32 * t), fKey Pg.trg F.TRG_STAT_ARMED t] s u := by
  refine completes_taken h (by omega) rfl (fun _ => rfl) rfl (if_pos ht) fun x u hw ho hu hb => ?_
  rw [afterWrite_trigger x ht] at hu hb
  obtain ⟨hregs, hbeside⟩ := ho
  obtain ⟨harmed, hdone, hmissed, hitem, honly⟩ := trigCommit_spec x t (getW x Pg.trg (0x114 + 32 * t))
  have hctl : getW u Pg.trg (0x114 + 32 * t) = getW x Pg.trg (0x114 + 32 * t) := by
    rw [getW_of_regs hu, honly.getW]
    rw [List.mem_singleton]
    exact fun he => trgKey_ne (f := F.TRG_STAT_ARMED) (t := t) rfl (by decide) (List.mem_singleton.2 he.symm)
  obtain ⟨hring, hid, -⟩ := culQueues_of_beside hbeside
  obtain ⟨hsent, -, -⟩ := culQueues_of_beside hb
  refine ⟨hctl.trans hw, ?_, ?_, ?_, ?_, ?_⟩
  · rw [getB_of_regs hu, harmed, hctl]
  · rw [getB_of_regs hu, hdone]
  · rw [getF_of_regs hu, hmissed]
  · rw [hctl, ← trigStaged_same _ hregs (time_of_beside hbeside), ← hring, ← hid, ← hitem, hsent]
  · exact ((hregs.mono (by simp)).trans (honly.mono (by simp))).of_eq hu

/-! ## An edge (R237, R238) -/

/-- An edge without a limit, whose time has come: the pulse begins, and the edge counts. -/
theorem trigEdge_fires {s : State} {t : Nat} {g : Trig} (hg : trigOf s t = some g) (harmed : g.armed = true)
    (htime : edgeTime g.prog g.k ≤ fieldNs s) (hlimit : edgeLimit g.prog = none) (hcan : g.prog.canEn = false) :
    trigEdge s t = bump (setF (setTrig s t { g with k := g.k + 1, used := g.used + 1, pulse := true }) Pg.trg F.TRG_STAT_MISSED
      (min (getF s Pg.trg F.TRG_STAT_MISSED t) 65535) t) Pg.trg F.TRG_FIRED_COUNT 1 t := by
  simp only [trigEdge, hg, harmed, htime, trigFire, trigCount, hlimit, hcan, decide_true, Bool.and_self, Bool.not_false, Bool.false_eq_true, if_true,
    if_false, Nat.add_zero]

theorem trigEdge_spec {s : State} {t : Nat} {g : Trig} (hg : trigOf s t = some g) (harmed : g.armed = true)
    (htime : edgeTime g.prog g.k ≤ fieldNs s) (hlimit : edgeLimit g.prog = none) (hcan : g.prog.canEn = false) :
    trigOf (trigEdge s t) t = some { g with k := g.k + 1, used := g.used + 1, pulse := true } ∧
      getF (trigEdge s t) Pg.trg F.TRG_FIRED_COUNT t = (getF s Pg.trg F.TRG_FIRED_COUNT t + 1) % 2 ^ 32 ∧
      ∀ j, j ≠ t → trigOf (trigEdge s t) j = trigOf s j := by
  rw [trigEdge_fires hg harmed htime hlimit hcan]
  have hset : ∀ (g : Trig) (m : Nat), SameRegs [fKey Pg.trg F.TRG_STAT_ARMED t] s (setF (setTrig s t g) Pg.trg F.TRG_STAT_MISSED m t) := fun g m =>
    SameRegs.setF (SameRegs.setB (fun _ _ => rfl) (List.mem_singleton_self _)) (List.mem_singleton_self _)
  have hne : fKey Pg.trg F.TRG_FIRED_COUNT t ∉ [fKey Pg.trg F.TRG_STAT_ARMED t] := by
    rw [List.mem_singleton]
    refine regKey_off_ne ?_
    simp only [F.TRG_FIRED_COUNT, F.TRG_STAT_ARMED]
    omega
  refine ⟨tabGet_tabSet_same .., ?_, fun j hj => tabGet_tabSet_ne _ _ hj⟩
  rw [bump, getF_setF_same _ _ _ _ _ (by decide), (hset _ _).getF hne]
  rfl

/-- The end of a pulse (R237). -/
theorem trigPulseEnd_eq {s : State} {t : Nat} {g : Trig} (hg : trigOf s t = some g) :
    trigPulseEnd s t = { s with time := { s.time with trig := tabSet s.time.trig t { g with pulse := false } } } := by
  simp only [trigPulseEnd, hg]

/-! ## Captures (R242) -/

/-- An edge that the capture takes, its first and with room: it is stamped and leaves for the ring die. -/
theorem capEdge_taken {s : State} {c : Nat} (rising : Bool) (hedge : getF s Pg.trg F.TRG_CAP_CTL_EDGE c = 3)
    (hlast : tabGet s.time.capLast c = none) (hroom : (capOf s c).length + capWaiting s c < 16) :
    capEdge s c rising = fieldRecord { s with time := { s.time with capLast := tabSet s.time.capLast c s.time.facc } }
      (.cap c { rising := rising, unsync := !fieldSync s, stamp := stamp32 (fieldNs s) }) := by
  cases rising <;> simp [capEdge, hedge, hlast, Nat.not_le.2 hroom]

/-- An edge that finds the FIFO full is missed. -/
theorem capEdge_missed {s : State} {c : Nat} (rising : Bool) (hedge : getF s Pg.trg F.TRG_CAP_CTL_EDGE c = 3)
    (hfull : 16 ≤ (capOf s c).length + capWaiting s c) :
    capEdge s c rising = irqEvent (bumpSat s Pg.trg F.TRG_CAP_MISSED_COUNT 1 c) Pg.trg 5 := by
  cases rising <;> simp [capEdge, hedge, hfull]

/-- An edge that the capture does not take. -/
theorem capEdge_off {s : State} {c : Nat} (rising : Bool) (hedge : getF s Pg.trg F.TRG_CAP_CTL_EDGE c = 0) : capEdge s c rising = s := by
  cases rising <;> simp [capEdge, hedge]

/-- The registers of captures lie behind those of the interrupts. -/
theorem capMissed_ne_irq (c o : Nat) (h : o < 0x40) :
    regKey Pg.trg (F.TRG_CAP_MISSED_COUNT.off + F.TRG_CAP_MISSED_COUNT.stride * c) ≠ regKey Pg.trg o := by
  refine regKey_off_ne ?_
  simp only [F.TRG_CAP_MISSED_COUNT]
  omega

theorem capEdge_missed_spec {s : State} {c : Nat} (rising : Bool) (hedge : getF s Pg.trg F.TRG_CAP_CTL_EDGE c = 3)
    (hfull : 16 ≤ (capOf s c).length + capWaiting s c) :
    getF (capEdge s c rising) Pg.trg F.TRG_CAP_MISSED_COUNT c = min (getF s Pg.trg F.TRG_CAP_MISSED_COUNT c + 1) (2 ^ 32 - 1) ∧
      getW (capEdge s c rising) Pg.trg 0x10 = getW s Pg.trg 0x10 ||| 32#32 ∧
      OnlyRegs (fKey Pg.trg F.TRG_CAP_MISSED_COUNT c :: irqKeys Pg.trg) s (capEdge s c rising) := by
  rw [capEdge_missed rising hedge hfull]
  refine ⟨?_, ?_, ?_, ?_⟩
  · rw [getF_irqEvent_ne _ _ _ (capMissed_ne_irq c _ (by decide)) (capMissed_ne_irq c _ (by decide)), bumpSat, getF_setF_same _ _ _ _ _ (by decide)]
    exact Nat.mod_eq_of_lt (Nat.lt_of_le_of_lt (Nat.min_le_right ..) (by decide))
  · rw [getW_irqEvent_raw, bumpSat, setF, getW_setW_ne _ _ (capMissed_ne_irq c _ (by decide)).symm]
    rfl
  · exact ((SameRegs.refl _ s).bumpSat (by simp)).irqEvent (by simp [irqKeys]) (by simp [irqKeys])
  · exact beside_irqEvent ..

theorem exec_captureEdge (s : State) {c : Nat} (hc : c < 8) (rising : Bool) :
    exec (.captureEdge c rising) s = .next (during s fun a => capEdge a c rising) :=
  congrArg (fun f => Host.Outcome.next (during s f)) (funext fun _ => if_pos hc)

/-- A read of CAP_POP0 pops its capture. -/
theorem regRead_capture (s : State) {c : Nat} (hc : c < 8) : regRead s Pg.trg (0x404 + 16 * c) = capPopNow s c := by
  have hat : fieldAt F.TRG_CAP_POP0_VALID (0x404 + 16 * c) = some c := by
    revert c
    decide
  have hpop : popWord s Pg.trg (0x404 + 16 * c) = some (capPopNow s c) := by
    simp [popWord, hat, Pg.trg, Pg.tsq, Pg.seq, Pg.brg, Pg.bst, Pg.nod]
  rw [regRead, hpop]

theorem exec_capturePop (s : State) (who : Agent) {c : Nat} (hc : c < 8) :
    exec (.capturePop who c) s = .next (during s fun a => ownRead a who Pg.trg (0x404 + 16 * c)) :=
  congrArg (fun f => Host.Outcome.next (during s f)) (funext fun _ => if_pos hc)

/-- A pop of an empty capture reads 0. -/
theorem completes_capturePop_none {s : State} {who : Agent} {c : Nat} (hc : c < 8) (h : accReaches s who Pg.trg (0x404 + 16 * c) = true)
    (hq : capOf s c = []) : Completes (.capturePop who c) s fun u => SameRegs [fKey Pg.trg F.TRG_CAP_POP1_STAMP c] s u ∧
      Answers s u who Pg.trg (0x404 + 16 * c) 0#32 ∧ getF u Pg.trg F.TRG_CAP_POP1_STAMP c = 0 := by
  have hpop : capPopNow (accNext (cleared s)) c = (0#32, setF (accNext (cleared s)) Pg.trg F.TRG_CAP_POP1_STAMP 0 c) := by
    have hq1 : capOf (accNext (cleared s)) c = [] := hq
    rw [capPopNow, hq1]
  refine completes_read h (exec_capturePop s who hc) rfl ((regRead_capture _ hc).trans hpop) rfl fun u hu hb ha => ⟨?_, ha, ?_⟩
  · exact (SameRegs.setF (fun _ _ => rfl) (List.mem_singleton_self _)).of_eq hu
  · rw [getF_of_regs hu, getF_setF_same _ _ _ _ _ (by decide), Nat.zero_mod]

/-- The captures without the oldest of capture `c`, of which `q` are left. -/
def capLeft (s : State) (c : Nat) (q : List CapEnt) : State :=
  { s with time := { s.time with cap := if q.isEmpty then tabDel s.time.cap c else tabSet s.time.cap c q } }

theorem capOf_capLeft (s : State) (c : Nat) (q : List CapEnt) : capOf (capLeft s c q) c = q := by
  cases q <;> simp [capOf, capLeft]

/-- A pop gives the oldest capture and removes it. -/
theorem completes_capturePop_some {s : State} {who : Agent} {c : Nat} {e : CapEnt} {q : List CapEnt} (hc : c < 8)
    (h : accReaches s who Pg.trg (0x404 + 16 * c) = true) (hq : capOf s c = e :: q) : Completes (.capturePop who c) s fun u =>
      SameRegs [fKey Pg.trg F.TRG_CAP_POP1_STAMP c] s u ∧ getF u Pg.trg F.TRG_CAP_POP1_STAMP c = e.stamp % 2 ^ 32 ∧ capOf u c = q ∧
        Answers s u who Pg.trg (0x404 + 16 * c) (BitVec.ofNat 32 ((if e.rising then 1 else 0) + (if e.unsync then 2 else 0) + 2 ^ 31)) := by
  have hpop : capPopNow (accNext (cleared s)) c = (BitVec.ofNat 32 ((if e.rising then 1 else 0) + (if e.unsync then 2 else 0) + 2 ^ 31),
      setF (capLeft (accNext (cleared s)) c q) Pg.trg F.TRG_CAP_POP1_STAMP e.stamp c) := by
    have hq1 : capOf (accNext (cleared s)) c = e :: q := hq
    rw [capPopNow, hq1]
    rfl
  refine completes_read h (exec_capturePop s who hc) rfl ((regRead_capture _ hc).trans hpop) rfl fun u hu hb ha => ⟨?_, ?_, ?_, ha⟩
  · exact (SameRegs.setF (fun _ _ => rfl) (List.mem_singleton_self _)).of_eq hu
  · rw [getF_of_regs hu, getF_setF_same _ _ _ _ _ (by decide)]
    rfl
  · rw [capOf, time_of_beside hb]
    exact capOf_capLeft (accNext (cleared s)) c q

/-- Settles O32: a commit is what follows from its write, an edge whose time has come fires, and a capture stamps, misses or pops. -/
theorem triggersAndCaptures : Obligations.TriggersAndCaptures := by
  unfold Obligations.TriggersAndCaptures
  refine ⟨fun s t => ⟨fun who v ht h => completes_triggerCommit ht h, fun g ha hg harmed htime hlimit hcan => ?_, fun g ha hg => ?_⟩,
    fun s c hc => ⟨fun rising ha hedge => ⟨fun hlast hroom => ?_, fun hfull => ?_⟩, fun ha rising hedge => ?_,
      fun who h => ⟨fun hq => completes_capturePop_none hc h hq, fun e q hq => completes_capturePop_some hc h hq⟩⟩⟩
  · exact completes_during ha rfl (trigEdge_spec (s := cleared s) hg harmed htime hlimit hcan)
  · refine completes_during ha rfl ?_
    rw [trigPulseEnd_eq (s := cleared s) hg]
    exact ⟨tabGet_tabSet_same .., fun j hj => tabGet_tabSet_ne _ _ hj, rfl, rfl⟩
  · refine completes_during ha (exec_captureEdge s hc rising) ?_
    rw [capEdge_taken (s := cleared s) rising hedge hlast hroom]
    exact ⟨rfl, rfl, tabGet_tabSet_same .., rfl⟩
  · exact completes_during ha (exec_captureEdge s hc rising) (capEdge_missed_spec (s := cleared s) rising hedge hfull)
  · exact completes_during ha (exec_captureEdge s hc rising) (capEdge_off (s := cleared s) rising hedge)

end Sys2Proof.Machine
end

section
/-! PROOFS. Credits, keep-alives and permits of the culvert, and the field die's copy of the time (R236, R238, R251, R252, R258 to R260). -/

namespace Sys2Proof.Machine

/-! ## Credit words and keep-alives (R251, R252) -/

theorem getD_atVc (l : List Nat) {vc : Nat} (f : Nat → Nat) (h : vc < 4) : (atVc l vc f).getD vc 0 = f (l.getD vc 0) := by
  interval_cases vc <;> rfl

/-- A count without itself is 0. -/
theorem getD_atVc_drained (l : List Nat) {vc : Nat} (h : vc < 4) : (atVc l vc (· - l.getD vc 0)).getD vc 0 = 0 :=
  (getD_atVc l _ h).trans (Nat.sub_self _)

/-- The send credits of every VC lie in one register, 7 bits each. -/
theorem credF_spec (vc : Nat) : fKey Pg.cul (credF vc) = fKey Pg.cul F.CUL_CREDITS_REQ ∧ (credF vc).w = 7 ∧
    (credF vc).lo + (credF vc).w ≤ 32 := by
  unfold credF
  split_ifs <;> decide

theorem creditNote_none {s : State} {p : Nat} (h : creditHeld s p = 0) : creditNote s p = s := if_pos h

/-- A credit word of a ring die that withholds none. -/
theorem creditWord_toField {s : State} {vc : Nat} (hup : culUp s = true) (hvc : vc < 4) (hheld : creditHeld s Pg.cul = 0) :
    creditWord s true vc = setCul s { s.cul with
      fieldCred := atVc s.cul.fieldCred vc (· + s.cul.ringFreed.getD vc 0), ringFreed := atVc s.cul.ringFreed vc (· - s.cul.ringFreed.getD vc 0)
      evtUncred := if vc = 2 then s.cul.evtUncred.drop (s.cul.ringFreed.getD vc 0) else s.cul.evtUncred } := by
  simp only [creditWord, hup, Nat.not_lt.2 (Nat.le_of_lt_succ hvc), hheld, creditNote_none hheld, decide_false, Bool.not_true, Bool.or_self,
    Bool.false_eq_true, if_false, if_true, Nat.sub_zero]

/-- A credit word of a field die that withholds none. -/
theorem creditWord_toRing {s : State} {vc : Nat} (hup : culUp s = true) (hvc : vc < 4) (hheld : creditHeld s Pg.cul = 0) :
    creditWord s false vc = setF (setCul s { s.cul with fieldFreed := atVc s.cul.fieldFreed vc (· - s.cul.fieldFreed.getD vc 0) }) Pg.cul (credF vc)
      (getF s Pg.cul (credF vc) + s.cul.fieldFreed.getD vc 0) := by
  simp only [creditWord, hup, Nat.not_lt.2 (Nat.le_of_lt_succ hvc), hheld, creditNote_none hheld, decide_false, Bool.not_true, Bool.or_self,
    Bool.false_eq_true, if_false, Nat.sub_zero]

theorem creditWord_toRing_spec {s : State} {vc : Nat} (hup : culUp s = true) (hvc : vc < 4) (hheld : creditHeld s Pg.cul = 0) :
    getF (creditWord s false vc) Pg.cul (credF vc) = (getF s Pg.cul (credF vc) + s.cul.fieldFreed.getD vc 0) % 2 ^ 7 ∧
      (creditWord s false vc).cul.fieldFreed.getD vc 0 = 0 ∧
      OnlyRegs [fKey Pg.cul F.CUL_CREDITS_REQ] s { creditWord s false vc with cul := s.cul } := by
  obtain ⟨hkey, hw, hfits⟩ := credF_spec vc
  rw [creditWord_toRing hup hvc hheld]
  refine ⟨?_, ?_, ?_, rfl⟩
  · rw [getF_setF_same _ _ _ _ _ hfits, hw]
  · exact getD_atVc_drained s.cul.fieldFreed hvc
  · rw [← hkey]
    exact SameRegs.setF (SameRegs.refl _ s) (List.mem_singleton_self _)

theorem exec_creditReturn (s : State) (toField : Bool) {vc : Nat} (hvc : vc < 4) :
    exec (.creditReturn toField vc) s = .next (during s fun a => creditWord a toField vc) :=
  congrArg (fun f => Host.Outcome.next (during s f)) (funext fun _ => if_pos hvc)

/-- A keep-alive leaves and counts. -/
theorem keepItem_spec {s : State} (fromField : Bool) (hup : culUp s = true) :
    itemOut (!fromField) .keep ∈ (keepItem s fromField).out ∧
      getF (keepItem s fromField) Pg.cul (if fromField then F.CUL_ITEMS_RX else F.CUL_ITEMS_TX) =
        (getF s Pg.cul (if fromField then F.CUL_ITEMS_RX else F.CUL_ITEMS_TX) + 1) % 2 ^ 32 ∧
      OnlyRegs [fKey Pg.cul (if fromField then F.CUL_ITEMS_RX else F.CUL_ITEMS_TX)] s (keepItem s fromField) := by
  rw [keepItem, hup, Bool.not_true, if_neg Bool.false_ne_true]
  refine ⟨mem_emit .., ?_, ?_, rfl⟩
  · exact getF_bump_same _ _ (by cases fromField <;> rfl) (by cases fromField <;> rfl)
  · exact SameRegs.bump (SameRegs.refl _ s) (List.mem_singleton_self _)

/-! ## Permits (R258) -/

/-- What a permit that arrives sets: the slots it leaves, its length, and that one has come. -/
def permitView (s : State) : List Item × Nat × Bool × Bool := (s.cul.ringS, s.cul.permit, s.cul.permitLive, s.fld.permitSeen)

theorem permitView_soeRecord (s : State) (stamp pin kind : Nat) (level unsync : Bool) (bounces delay : Nat) :
    permitView (soeRecord s stamp pin kind level unsync bounces delay) = permitView s := by
  unfold soeRecord
  dsimp only
  split
  · simp only [permitView, irqEvent_cul, irqEvent_fld]
    rfl
  · rfl

/-- An INITIAL record of a pin leaves the permit as it is (R354). -/
theorem permitView_diInitial (s : State) (p : Nat) : permitView (diInitial s p) = permitView s := by
  unfold diInitial
  dsimp only
  split
  · split
    · unfold disNow disRecord
      split
      · exact permitView_soeRecord ..
      · rfl
    · rfl
  · rfl

/-- A permit that arrives replaces the running one. -/
theorem permitIn_spec {s : State} {n : Nat} {rest : List Item} (hs : s.cul.ringS = .permit n :: rest) :
    permitView (permitIn s) = (rest, n, n != 0, true) := by
  rw [permitIn, takeRing_head hs rfl]
  exact foldl_kept (fun a p _ => permitView_diInitial a p) _

/-! ## Frequency and steps of the copy (R238, R260) -/

/-- The port's reference message and windows are registers and a state of their own (R320 to R322). -/
theorem canOutcome_kept (s : State) (n b outcome : Nat) (keep : Bool) :
    (canOutcome s n b outcome keep).time = s.time ∧ (canOutcome s n b outcome keep).cul = s.cul := by
  unfold canOutcome
  dsimp only
  split_ifs <;> simp [setMask]

theorem canWindowEnd_kept (s : State) (n j : Nat) : (canWindowEnd s n j).time = s.time ∧ (canWindowEnd s n j).cul = s.cul := by
  unfold canWindowEnd
  dsimp only
  split
  · split
    · exact canOutcome_kept ..
    · exact ⟨rfl, rfl⟩
  · exact ⟨rfl, rfl⟩

theorem canRefMiss_kept (s : State) (n : Nat) (again : Bool) : (canRefMiss s n again).time = s.time ∧ (canRefMiss s n again).cul = s.cul := by
  simp [canRefMiss]

theorem canRefEdge_kept (s : State) (n : Nat) : (canRefEdge s n).time = s.time ∧ (canRefEdge s n).cul = s.cul := by
  have hwin : ∀ l : List Nat, (l.foldl (fun a j => canWindowEnd a n j) s).time = s.time ∧
      (l.foldl (fun a j => canWindowEnd a n j) s).cul = s.cul :=
    fun l => ⟨foldl_kept (get := State.time) (fun a j _ => (canWindowEnd_kept a n j).1) s,
      foldl_kept (get := State.cul) (fun a j _ => (canWindowEnd_kept a n j).2) s⟩
  unfold canRefEdge
  extract_lets pg s1 s2 c old cyc
  have h1 : s1.time = s.time ∧ s1.cul = s.cul := hwin _
  have h2 : s2.time = s.time ∧ s2.cul = s.cul := by
    simp only [s2]
    split
    · obtain ⟨htime, hcul⟩ := canRefMiss_kept s1 n false
      exact ⟨htime.trans h1.1, hcul.trans h1.2⟩
    · exact h1
  split
  · exact ⟨rfl, rfl⟩
  · exact h2

/-- What a step moves at the field die: the copy and what is left of the steps under way, beside local time and the slots. -/
def stepView (s : State) : Nat × Nat × Nat × List Item := (s.time.acc, s.time.facc, s.cul.stepWait, s.cul.ringS)

theorem stepView_irqEvent (s : State) (p b : Nat) : stepView (irqEvent s p b) = stepView s := by simp only [stepView, irqEvent_time, irqEvent_cul]

theorem stepView_trigCount (s : State) (t : Nat) (g : Trig) (n missed : Nat) : stepView (trigCount s t g n missed) = stepView s := by
  unfold trigCount
  extract_lets used g1 fin m s1
  have h1 : stepView s1 = stepView s := rfl
  split
  · exact (stepView_irqEvent ..).trans h1
  · exact h1

theorem stepView_trigFire (s : State) (t : Nat) (g : Trig) (n missed : Nat) : stepView (trigFire s t g n missed) = stepView s := by
  unfold trigFire
  extract_lets s1
  have h1 : stepView s1 = stepView s := stepView_trigCount ..
  split
  · obtain ⟨htime, hcul⟩ := canRefEdge_kept s1 g.prog.canPort
    rw [stepView, htime, hcul]
    exact h1
  · exact h1

/-- Late edges that are judged leave the clocks alone (R238). -/
theorem stepView_trigLate (s : State) (t : Nat) : stepView (trigLate s t) = stepView s := by
  unfold trigLate
  split
  · rfl
  · extract_lets all lim m s1
    have h1 : stepView s1 = stepView s := stepView_irqEvent ..
    split
    · rfl
    · split
      · exact (stepView_trigCount ..).trans h1
      · exact (stepView_trigFire ..).trans h1

/-- A step that arrives moves the copy, and nothing but late edges follows from it. -/
theorem stepIn_spec {s : State} {d : Int} {rest : List Item} (hs : s.cul.ringS = .step d :: rest) :
    stepView (stepIn s) = (s.time.acc, timeMove s.time.facc d, s.cul.stepWait - 1, rest) ∧ (d ≤ 0 → (stepIn s).regs = s.regs) := by
  rw [stepIn, takeRing_head hs rfl]
  unfold fieldStep
  dsimp only
  split
  · rename_i hforward
    exact ⟨foldl_kept (fun a t _ => stepView_trigLate a t) _, fun hback => absurd hforward (Int.not_lt.2 hback)⟩
  · exact ⟨rfl, fun _ => rfl⟩

theorem freqIn_eq {s : State} {f : Int} {rest : List Item} (hs : s.cul.ringS = .freq f :: rest) :
    freqIn s = { ringTook s (.freq f) rest with time := { s.time with ffreq := f } } := by
  rw [freqIn, takeRing_head hs rfl]
  rfl

/-! ## Marker exchanges (R259, R260) -/

theorem markIn_eq {s : State} {x t : Nat} {rest : List Item} (hs : s.cul.ringS = .mark x t :: rest) :
    markIn s = fieldItem (ringTook s (.mark x t) rest) (.markReply x t (s.time.facc / 16000000000) (s.time.facc / 16000000000)) := by
  rw [markIn, takeRing_head hs rfl]
  rfl

/-- The correction of the copy for an offset of `o` in 1/16 ns: slewed out over the interval, or a step. -/
def copyCorrected (s : State) (o : Int) : State :=
  if o.natAbs ≤ 16000 then
    { s with time := { s.time with fslew := -o * 16000000000, fslewNs := 10000 * getF s Pg.cul F.CUL_TIME_CTL_INTERVAL } }
  else { s with time := { s.time with facc := timeMove s.time.facc (-o * 16000000000) } }

/-- An exchange counts as good, and FIELD_SYNC follows the fourth; another ends the count and FIELD_SYNC. -/
def syncJudged (s : State) (o : Int) : State :=
  if o.natAbs ≤ 64 then
    if 4 ≤ s.cul.markGood + 1 then setB (setCul s { s.cul with markGood := s.cul.markGood + 1 }) Pg.tmk F.TMK_STAT_FIELD_SYNC true
    else setCul s { s.cul with markGood := s.cul.markGood + 1 }
  else fieldSyncLoss s

/-- A reply to the exchange in hand, with no step under way. -/
theorem markReplyIn_eq {s : State} {x t1 t2 t3 : Nat} {rest : List Item} (hup : culUp s = true) (hs : s.cul.fieldS = .markReply x t1 t2 t3 :: rest)
    (hx : x = s.cul.markX) (hw : s.cul.stepWait = 0) :
    markReplyIn s = syncJudged (copyCorrected (setF (fieldTook s (.markReply x t1 t2 t3) rest) Pg.cul F.CUL_TIME_ERR_OFFSET
      (ofSigned 32 (markOffset t1 t2 t3 (now16 s)))) (markOffset t1 t2 t3 (now16 s))) (markOffset t1 t2 t3 (now16 s)) := by
  have hmine : ¬(x ≠ (fieldTook s (.markReply x t1 t2 t3) rest).cul.markX ∨ (fieldTook s (.markReply x t1 t2 t3) rest).cul.stepWait ≠ 0) := by
    rintro (h | h)
    · exact h hx
    · exact h hw
  rw [markReplyIn, takeField_head hup hs rfl]
  dsimp only
  rw [if_neg hmine]
  rfl

/-- The correction touches the copy of the time only. -/
theorem copyCorrected_kept (s : State) (o : Int) : (copyCorrected s o).regs = s.regs ∧ (copyCorrected s o).cul = s.cul := by
  unfold copyCorrected
  split <;> exact ⟨rfl, rfl⟩

/-- The registers that FIELD_SYNC writes as it changes. -/
def syncKeys : List Nat := fKey Pg.tmk F.TMK_STAT_FIELD_SYNC :: irqKeys Pg.tmk

theorem fieldSyncLoss_spec (s : State) : (fieldSyncLoss s).time = s.time ∧ (fieldSyncLoss s).cul = { s.cul with markGood := 0 } ∧
    getB (fieldSyncLoss s) Pg.tmk F.TMK_STAT_FIELD_SYNC = false ∧ SameRegs syncKeys s (fieldSyncLoss s) := by
  unfold fieldSyncLoss
  dsimp only
  split
  · refine ⟨by simp only [irqEvent_time]; rfl, by simp only [irqEvent_cul]; rfl, ?_, ?_⟩
    · rw [getB, getF_irqEvent_ne _ _ _ (by decide) (by decide), ← getB]
      exact getB_setB_same _ _ _ _ _ (by decide) rfl
    · have hset : SameRegs syncKeys s (setB (setCul s { s.cul with markGood := 0 }) Pg.tmk F.TMK_STAT_FIELD_SYNC false) :=
        SameRegs.setB (fun _ _ => rfl) (by simp [syncKeys])
      exact hset.irqEvent (by simp [syncKeys, irqKeys]) (by simp [syncKeys, irqKeys])
  · rename_i hoff
    exact ⟨rfl, rfl, eq_false_of_ne_true hoff, .refl _ s⟩

/-- What the judgement of an exchange leaves. -/
theorem syncJudged_spec (s : State) (o : Int) :
    (syncJudged s o).time = s.time ∧ (syncJudged s o).cul.fieldS = s.cul.fieldS ∧ SameRegs syncKeys s (syncJudged s o) ∧
      (o.natAbs ≤ 64 → (syncJudged s o).cul.markGood = s.cul.markGood + 1 ∧
        (3 ≤ s.cul.markGood → getB (syncJudged s o) Pg.tmk F.TMK_STAT_FIELD_SYNC = true)) ∧
      (64 < o.natAbs → (syncJudged s o).cul.markGood = 0 ∧ getB (syncJudged s o) Pg.tmk F.TMK_STAT_FIELD_SYNC = false) := by
  unfold syncJudged
  split
  · rename_i hgood
    have hno : ¬ 64 < o.natAbs := Nat.not_lt.2 hgood
    split
    · exact ⟨rfl, rfl, SameRegs.setB (SameRegs.refl _ s) (by simp [syncKeys]),
        fun _ => ⟨rfl, fun _ => getB_setB_same _ _ _ _ _ (by decide) rfl⟩, fun h => absurd h hno⟩
    · exact ⟨rfl, rfl, .refl _ s, fun _ => ⟨rfl, fun h => by omega⟩, fun h => absurd h hno⟩
  · rename_i hbad
    obtain ⟨htime, hcul, hsync, hregs⟩ := fieldSyncLoss_spec s
    exact ⟨htime, by rw [hcul], hregs, fun h => absurd h hbad, fun _ => ⟨by rw [hcul], hsync⟩⟩

/-- What a reply to the exchange in hand leaves. -/
theorem markReplyIn_spec {s : State} {x t1 t2 t3 : Nat} {rest : List Item} {o : Int} (hup : culUp s = true)
    (hs : s.cul.fieldS = .markReply x t1 t2 t3 :: rest) (hx : x = s.cul.markX) (hw : s.cul.stepWait = 0) (ho : o = markOffset t1 t2 t3 (now16 s)) :
    getF (markReplyIn s) Pg.cul F.CUL_TIME_ERR_OFFSET = ofSigned 32 o % 2 ^ 32 ∧ (markReplyIn s).cul.fieldS = rest ∧
      (o.natAbs ≤ 16000 → (markReplyIn s).time =
        { s.time with fslew := -o * 16000000000, fslewNs := 10000 * getF s Pg.cul F.CUL_TIME_CTL_INTERVAL }) ∧
      (16000 < o.natAbs → (markReplyIn s).time = { s.time with facc := timeMove s.time.facc (-o * 16000000000) }) ∧
      (o.natAbs ≤ 64 → (markReplyIn s).cul.markGood = s.cul.markGood + 1 ∧
        (3 ≤ s.cul.markGood → getB (markReplyIn s) Pg.tmk F.TMK_STAT_FIELD_SYNC = true)) ∧
      (64 < o.natAbs → (markReplyIn s).cul.markGood = 0 ∧ getB (markReplyIn s) Pg.tmk F.TMK_STAT_FIELD_SYNC = false) := by
  rw [markReplyIn_eq hup hs hx hw, ← ho]
  generalize hshown : setF (fieldTook s (.markReply x t1 t2 t3) rest) Pg.cul F.CUL_TIME_ERR_OFFSET (ofSigned 32 o) = shown
  have herr : getF shown Pg.cul F.CUL_TIME_ERR_OFFSET = ofSigned 32 o % 2 ^ 32 := hshown ▸ getF_setF_same _ _ _ _ _ (by decide)
  have hslots : shown.cul.fieldS = rest ∧ shown.cul.markGood = s.cul.markGood := hshown ▸ ⟨rfl, rfl⟩
  have htime : shown.time = s.time := hshown ▸ rfl
  have hint : getF shown Pg.cul F.CUL_TIME_CTL_INTERVAL = getF s Pg.cul F.CUL_TIME_CTL_INTERVAL := by
    rw [← hshown, getF_setF_ne _ _ _ _ _ _ (by decide)]
    exact (fieldTook_regs s _ rest).getF (by decide)
  obtain ⟨hcregs, hccul⟩ := copyCorrected_kept shown o
  obtain ⟨hjtime, hjslots, hjregs, hgood, hbad⟩ := syncJudged_spec (copyCorrected shown o) o
  rw [hccul] at hgood hjslots
  rw [hslots.2] at hgood
  refine ⟨?_, hjslots.trans hslots.1, fun hsmall => ?_, fun hlarge => ?_, hgood, hbad⟩
  · rw [hjregs.getF (by decide), getF_of_regs hcregs, herr]
  · rw [hjtime, copyCorrected, if_pos hsmall, htime, hint]
  · rw [hjtime, copyCorrected, if_neg (Nat.not_le.2 hlarge), htime]

/-- Settles O34: credit words, keep-alives, permits and time items are each one change of the culvert, its page or the copy of the time. -/
theorem creditsPermitsAndTime : Obligations.CreditsPermitsAndTime := by
  unfold Obligations.CreditsPermitsAndTime
  refine ⟨fun s ha => ⟨fun vc hup hvc hheld => ?toField, fun vc hup hvc hheld => ?toRing, fun from_ hup => ?keep, fun hup hrole => ?renew,
      fun hdown => ?down, fun n rest hs => ?permit, completes_during ha rfl ⟨rfl, rfl, rfl⟩⟩,
    fun s rest ha => ⟨fun f hs => ?freq, fun d hs => ?step, fun hup => ?markSend, fun x t hs => ?mark,
      fun x t1 t2 t3 o hup hs hx hw ho => ?reply⟩⟩
  case toField =>
    refine completes_during ha (exec_creditReturn s true hvc) ?_
    rw [creditWord_toField (s := cleared s) hup hvc hheld]
    exact ⟨rfl, getD_atVc_drained s.cul.ringFreed hvc, rfl, rfl⟩
  case toRing =>
    exact completes_during ha (exec_creditReturn s false hvc) (creditWord_toRing_spec (s := cleared s) hup hvc hheld)
  case keep =>
    exact completes_during ha rfl (keepItem_spec (s := cleared s) from_ hup)
  case renew =>
    have hlen : permitLen (cleared s) = 1000000 * getF s Pg.cul F.CUL_PERMIT_MS := if_pos hrole
    have hup' : culUp (cleared s) = true := hup
    refine completes_during ha rfl ?_
    rw [sendPermit, if_pos hup', hlen]
    exact ⟨rfl, rfl, rfl⟩
  case down =>
    have hdown' : ¬ culUp (cleared s) = true := ne_true_of_eq_false hdown
    refine completes_during ha rfl ?_
    rw [sendPermit, if_neg hdown']
    exact ⟨rfl, rfl, rfl⟩
  case permit =>
    have hview := permitIn_spec (s := cleared s) hs
    simp only [permitView, Prod.mk.injEq] at hview
    exact completes_during ha rfl hview
  case freq =>
    refine completes_during ha rfl ?_
    rw [freqIn_eq (s := cleared s) hs]
    exact ⟨rfl, rfl, rfl⟩
  case step =>
    obtain ⟨hview, hregs⟩ := stepIn_spec (s := cleared s) hs
    simp only [stepView, Prod.mk.injEq] at hview
    obtain ⟨hacc, hfacc, hwait, hslots⟩ := hview
    exact completes_during ha rfl ⟨hfacc, hacc, hwait, hslots, hregs⟩
  case markSend =>
    have hup' : culUp (cleared s) = true := hup
    refine completes_during ha rfl ?_
    rw [markOut, if_pos hup']
    exact ⟨rfl, rfl⟩
  case mark =>
    refine completes_during ha rfl ?_
    rw [markIn_eq (s := cleared s) hs]
    exact ⟨rfl, rfl, rfl⟩
  case reply =>
    exact completes_during ha rfl (markReplyIn_spec (s := cleared s) hup hs hx hw ho)

end Sys2Proof.Machine
end

section
/-! PROOFS. What resets the culvert, and how it trains (R253 to R257, R261 to R263). -/

namespace Sys2Proof.Machine

/-! ## EXECs that fail (R254, R261) -/

/-- The registers that the end of a failed EXEC may change: those of the fabric's pages, what the bridge counts and logs, the errors that page CUL
notes, and its count of HANGs. -/
def failedMoves (k : Nat) : Prop := fabricPage (k / 1024) ∨ k ∈ endKeys ∨ k ∈ errKeys Pg.cul ∨ k = fKey Pg.cul F.CUL_HANG_ITEMS

/-- What the ends of failed EXECs leave: the culvert, the outputs so far, the interrupt sources of page CUL that are set, and other registers. -/
structure EndsKept (s t : State) : Prop where
  cul : t.cul = s.cul
  out : ∀ o ∈ s.out, o ∈ t.out
  raw : ∀ i, (getW s Pg.cul 0x10).getLsbD i = true → (getW t Pg.cul 0x10).getLsbD i = true
  regs : ∀ k, ¬ failedMoves k → tabGet t.regs k = tabGet s.regs k

theorem EndsKept.refl (s : State) : EndsKept s s := ⟨rfl, fun _ h => h, fun _ h => h, fun _ _ => rfl⟩

theorem EndsKept.trans {s t u : State} (a : EndsKept s t) (b : EndsKept t u) : EndsKept s u :=
  ⟨b.cul.trans a.cul, fun o h => b.out o (a.out o h), fun i h => b.raw i (a.raw i h), fun k hk => (b.regs k hk).trans (a.regs k hk)⟩

theorem EndsKept.foldl {α : Type} {f : State → α → State} (h : ∀ s x, EndsKept s (f s x)) (l : List α) (s : State) : EndsKept s (l.foldl f s) := by
  induction l generalizing s with
  | nil => exact .refl s
  | cons x l ih => exact (h s x).trans (ih _)

theorem EndsKept.getF {s t : State} (a : EndsKept s t) {p : Nat} {f : FieldD} (h : ¬ failedMoves (fKey p f)) : getF t p f = getF s p f := by
  have hk : tabGet t.regs (regKey p (f.off + f.stride * 0)) = tabGet s.regs (regKey p (f.off + f.stride * 0)) := a.regs _ h
  simp only [Machine.getF, getW, hk]

/-- What a reset and a failed training attempt show lies outside of it: two counters, the state, its reason, and FIELD_STALE. -/
theorem not_failedMoves : ∀ k ∈ [fKey Pg.cul F.CUL_STALLS, fKey Pg.cul F.CUL_RETRAINS, fKey Pg.cul F.CUL_STAT_STATE, fKey Pg.cul F.CUL_STAT_WHY,
    fKey Pg.int F.INT_STAT_FIELD_STALE], ¬ failedMoves k := by
  unfold failedMoves fabricPage
  decide

/-- An update of the fabric's pages, or beside the registers. -/
theorem EndsKept.of_fabric {s t : State} (hf : FabricOnly s t) (hcul : t.cul = s.cul) (hout : t.out = s.out) : EndsKept s t where
  cul := hcul
  out o h := by rwa [hout]
  raw i h := by
    have hk : tabGet t.regs (regKey Pg.cul 0x10) = tabGet s.regs (regKey Pg.cul 0x10) := hf.regs _ (by unfold fabricPage; decide)
    simpa only [getW, hk] using h
  regs k hk := hf.regs k fun hp => hk (.inl hp)

/-- Page CUL notes the error of an EXEC. -/
theorem endsKept_noteErr (s : State) (st c : Nat) : EndsKept s (noteErr s Pg.cul st c 0) where
  cul := noteErr_cul ..
  out o h := by rwa [noteErr_out]
  raw i h := by
    have hevent : (getW (irqEvent (bumpSat s Pg.cul F.ERR_COUNT_COUNT) Pg.cul 1) Pg.cul 0x10).getLsbD i = true := by
      refine irqEvent_raw_mono 1 ?_
      rwa [bumpSat, setF, getW_setW_ne _ _ (by decide)]
    unfold noteErr recordErr
    dsimp only
    split
    · exact hevent
    · rwa [getW_setW_ne _ _ (by decide)]
  regs k hk := SameRegs.noteErr (ks := errKeys Pg.cul) (.refl _ s) (fun _ h => h) k fun h => hk (.inr (.inr (.inl h)))

theorem endsKept_hangCount (s : State) : EndsKept s (bump s Pg.cul F.CUL_HANG_ITEMS) where
  cul := rfl
  out _ h := h
  raw i h := by rwa [bump, setF, getW_setW_ne _ _ (by decide)]
  regs k hk := SameRegs.bump (ks := [fKey Pg.cul F.CUL_HANG_ITEMS]) (.refl _ s) (List.mem_singleton_self _) k fun h =>
    hk (.inr (.inr (.inr (List.mem_singleton.1 h))))

/-! ## To whom an EXEC ends -/

theorem endsKept_mirrorNote (s : State) (kind key seq : Nat) (body : List Byte) : EndsKept s (mirrorNote s kind key seq body) := by
  obtain ⟨hcul, hout⟩ : (mirrorNote s kind key seq body).cul = s.cul ∧ (mirrorNote s kind key seq body).out = s.out := by
    unfold mirrorNote mirrorPush
    split <;> exact ⟨rfl, rfl⟩
  exact .of_fabric (fabricOnly_mirrorNote ..) hcul hout

theorem endsKept_seq (s : State) (x : SeqSt) : EndsKept s { s with seq := x } := .of_fabric (.seq (.refl s)) rfl rfl

theorem endsKept_runLater (s : State) (c : Nat) : EndsKept s (runLater s c) := by
  unfold runLater
  split
  · exact .refl s
  · exact endsKept_seq s _

/-- A record that completes is a matter of the sequencer and of the mirror. -/
theorem endsKept_completeRec (s : State) (c : Nat) (r : CplRec) : EndsKept s (completeRec s c r) := by
  unfold completeRec
  split
  · exact .refl s
  split
  · exact .refl s
  · extract_lets t1 s1 fl s2 s3
    have h1 : EndsKept s s1 := endsKept_seq s _
    have h2 : EndsKept s1 s2 := by
      simp only [s2]
      split
      · exact endsKept_mirrorNote ..
      · exact .refl s1
    have h3 : EndsKept s2 s3 := endsKept_seq s2 _
    have hrepeat : ∀ (a : State) (x : SeqSt), EndsKept a (bump { a with seq := x } Pg.seq F.SEQ_DUP_ANSWERED) := fun a x =>
      .of_fabric (.bump (.seq (.refl a)) fabricPage_seq (by decide)) rfl rfl
    exact (h1.trans (h2.trans h3)).trans ((EndsKept.foldl (fun a _ => hrepeat a _) _ s3).trans (endsKept_runLater ..))

/-- The end of an access is the bridge's matter, and an output. -/
theorem accEnd_grows (s : State) (who : Agent) (id status cause : Nat) (d : List Byte) (e : Exec) :
    (accEnd s who id status cause d e).cul = s.cul ∧ ∀ o ∈ s.out, o ∈ (accEnd s who id status cause d e).out := by
  have hone : ∀ (a : State) (o : Out), ∀ x ∈ a.out, x ∈ (emit a o).out := fun _ _ _ hx => List.mem_append_left _ hx
  unfold accEnd
  dsimp only
  split
  · split_ifs <;> exact ⟨rfl, fun o ho => hone _ _ o ho⟩
  · split
    · exact ⟨rfl, fun o ho => hone _ _ o (hone _ _ o ho)⟩
    split
    · obtain ⟨hcul, hout⟩ := errLog_cul (emit s (.access who status cause))
        { status := status, cause := cause, kind := 2, discarded := false, win := 0, addr := e.off, len := e.len, tag := 0 }
      exact ⟨hcul, fun o ho => hout ▸ hone _ _ o ho⟩
    · exact ⟨rfl, fun o ho => hone _ _ o ho⟩

theorem endsKept_accEnd (s : State) (who : Agent) (id status cause : Nat) (d : List Byte) (e : Exec) :
    EndsKept s (accEnd s who id status cause d e) := by
  obtain ⟨hcul, hout⟩ := accEnd_grows s who id status cause d e
  obtain ⟨hregs, -⟩ := accEnd_kept s who id status cause d e
  refine ⟨hcul, hout, fun i h => ?_, fun k hk => hregs k fun hend => hk (.inr (.inl hend))⟩
  rwa [hregs.getW (by decide)]

/-- An EXEC ends at its record, at its access, or as a fresh pending state where it has been read. -/
theorem execEnd_cases (s : State) (e : Exec) (status cause : Nat) (d : List Byte) :
    EndsKept s (execEnd s e status cause d) ∨ status = St.ok ∧ ∃ p b, execEnd s e status cause d = pendFresh s p b := by
  unfold execEnd
  split
  · split
    · split
      · exact .inl (endsKept_completeRec ..)
      · exact .inl (.refl s)
    · exact .inl (.refl s)
  · exact .inl (endsKept_accEnd ..)
  · split
    · rename_i hok
      exact .inr ⟨hok, _, _, rfl⟩
    · exact .inl (.refl s)

theorem endsKept_execEnd (s : State) (e : Exec) {status : Nat} (cause : Nat) (d : List Byte) (h : status ≠ St.ok) :
    EndsKept s (execEnd s e status cause d) :=
  (execEnd_cases s e status cause d).resolve_right fun hok => h hok.1

/-- An EXEC that fails is noted by page CUL and ends. -/
theorem endsKept_failed (s : State) (e : Exec) {status : Nat} (cause : Nat) (h : status ≠ St.ok) :
    EndsKept s (execEnd (noteErr s Pg.cul status cause 0) e status cause []) :=
  (endsKept_noteErr s status cause).trans (endsKept_execEnd _ e cause [] h)

/-- The state of the culvert is beside the registers. -/
theorem getF_setCul (s : State) (c : CulSt) (p : Nat) (f : FieldD) (i : Nat) : getF (setCul s c) p f i = getF s p f i := rfl
theorem getW_setCul (s : State) (c : CulSt) (p o : Nat) : getW (setCul s c) p o = getW s p o := rfl

/-! ## Credits and training attempts (R254, R256, R257) -/

/-- The ring die holds `n` send credits of every VC. -/
def creditsSet (s : State) (n : Nat) : State := [0, 1, 2, 3].foldl (fun a vc => setF a Pg.cul (credF vc) n) s

theorem sameRegs_creditsSet (s : State) (n : Nat) : SameRegs [fKey Pg.cul F.CUL_CREDITS_REQ] s (creditsSet s n) := by
  have hkey : ∀ vc, fKey Pg.cul (credF vc) ∈ [fKey Pg.cul F.CUL_CREDITS_REQ] := fun vc => List.mem_singleton.2 (credF_spec vc).1
  exact ((((SameRegs.refl _ s).setF (hkey 0)).setF (hkey 1)).setF (hkey 2)).setF (hkey 3)

theorem creditsSet_cul (s : State) (n : Nat) : (creditsSet s n).cul = s.cul := by
  simp only [creditsSet, List.foldl_cons, List.foldl_nil, setF_cul]

theorem creditsSet_out (s : State) (n : Nat) : (creditsSet s n).out = s.out := by
  simp only [creditsSet, List.foldl_cons, List.foldl_nil, setF_out]

theorem getF_creditsSet (s : State) (n vc : Nat) : getF (creditsSet s n) Pg.cul (credF vc) = n % 2 ^ 7 := by
  have hfield : ∀ f ∈ [F.CUL_CREDITS_REQ, F.CUL_CREDITS_RSP, F.CUL_CREDITS_EVT, F.CUL_CREDITS_TIME], getF (creditsSet s n) Pg.cul f = n % 2 ^ 7 := by
    have hput : creditsSet s n = setF (setF (setF (setF s Pg.cul F.CUL_CREDITS_REQ n) Pg.cul F.CUL_CREDITS_RSP n) Pg.cul F.CUL_CREDITS_EVT n)
      Pg.cul F.CUL_CREDITS_TIME n := rfl
    simp only [List.forall_mem_cons, hput]
    refine ⟨?_, ?_, ?_, getF_setF_same _ _ _ _ _ (by decide), fun _ h => nomatch h⟩
    · rw [getF_setF_apart _ _ _ _ _ _ _ (by rfl) (by decide) (by decide), getF_setF_apart _ _ _ _ _ _ _ (by rfl) (by decide) (by decide),
        getF_setF_apart _ _ _ _ _ _ _ (by rfl) (by decide) (by decide)]
      exact getF_setF_same _ _ _ _ _ (by decide)
    · rw [getF_setF_apart _ _ _ _ _ _ _ (by rfl) (by decide) (by decide), getF_setF_apart _ _ _ _ _ _ _ (by rfl) (by decide) (by decide)]
      exact getF_setF_same _ _ _ _ _ (by decide)
    · rw [getF_setF_apart _ _ _ _ _ _ _ (by rfl) (by decide) (by decide)]
      exact getF_setF_same _ _ _ _ _ (by decide)
  refine hfield _ ?_
  unfold credF
  split_ifs <;> simp

/-- The registers that the start of a training attempt writes. -/
def trainKeys : List Nat := [fKey Pg.cul F.CUL_STAT_STATE, fKey Pg.cul F.CUL_RETRAINS]

/-- A training attempt shows TRAINING and counts. -/
theorem trainStart_spec (s : State) (n : Nat) :
    culState (trainStart s n) = 1 ∧ getF (trainStart s n) Pg.cul F.CUL_RETRAINS = (getF s Pg.cul F.CUL_RETRAINS + 1) % 2 ^ 32 ∧
      (trainStart s n).cul = { s.cul with attempt := n } ∧ SameRegs trainKeys s (trainStart s n) := by
  refine ⟨?_, ?_, rfl, ((SameRegs.from_eq (SameRegs.refl _ _) rfl).setF (by decide)).bump (by decide)⟩
  · rw [culState, trainStart, bump, getF_setF_ne _ _ _ _ _ _ (by decide)]
    exact getF_setF_same _ _ _ _ _ (by decide)
  · rw [trainStart, getF_bump_same _ _ rfl rfl, getF_setF_ne _ _ _ _ _ _ (by decide)]
    rfl

/-! ## Culvert resets (R254) -/

/-- A reset of the culvert before it ends the EXECs: STALLED and counted, FIELD_STALE set, FIELD_SYNC cleared, the fault log written (R254). -/
def stalledNow (s : State) (trigger : Nat) : State :=
  faultLog (fieldSyncLoss (setF (bump (irqEvent (setF (setF s Pg.cul F.CUL_STAT_STATE 3) Pg.cul F.CUL_VER_NEG 0) Pg.cul 2) Pg.cul F.CUL_STALLS)
    Pg.int F.INT_STAT_FIELD_STALE 1)) 2 trigger Pg.cul s.cul.execs.length

theorem fieldSyncLoss_out (s : State) : (fieldSyncLoss s).out = s.out := by
  unfold fieldSyncLoss
  dsimp only
  split
  · rw [irqEvent_out]
    rfl
  · rfl

theorem faultLog_out (s : State) (k c pg d : Nat) : (faultLog s k c pg d).out = s.out := by
  unfold faultLog
  split
  · rfl
  · rw [irqEvent_out]
    rfl

theorem stalledNow_spec (s : State) (trigger : Nat) :
    getF (stalledNow s trigger) Pg.cul F.CUL_STALLS = (getF s Pg.cul F.CUL_STALLS + 1) % 2 ^ 32 ∧
      getF (stalledNow s trigger) Pg.cul F.CUL_RETRAINS = getF s Pg.cul F.CUL_RETRAINS ∧
      (getW (stalledNow s trigger) Pg.cul 0x10).getLsbD 2 = true ∧ getF (stalledNow s trigger) Pg.int F.INT_STAT_FIELD_STALE = 1 ∧
      (stalledNow s trigger).out = s.out := by
  unfold stalledNow
  generalize ht : setF (setF s Pg.cul F.CUL_STAT_STATE 3) Pg.cul F.CUL_VER_NEG 0 = t
  generalize hv : setF (bump (irqEvent t Pg.cul 2) Pg.cul F.CUL_STALLS) Pg.int F.INT_STAT_FIELD_STALE 1 = v
  obtain ⟨-, -, -, hsync⟩ := fieldSyncLoss_spec v
  have hpast : SameRegs (syncKeys ++ flogKeys) v (faultLog (fieldSyncLoss v) 2 trigger Pg.cul s.cul.execs.length) :=
    (hsync.mono fun k => List.mem_append_left _).trans
      (SameRegs.mono (sameRegs_faultLog _ 2 trigger Pg.cul _) fun k => List.mem_append_right _)
  have hcount : ∀ f ∈ [F.CUL_STALLS, F.CUL_RETRAINS], getF (irqEvent t Pg.cul 2) Pg.cul f = getF s Pg.cul f := by
    have hfirst : SameRegs [fKey Pg.cul F.CUL_STAT_STATE, fKey Pg.cul F.CUL_VER_NEG, regKey Pg.cul 0x10, regKey Pg.cul 0x18] s (irqEvent t Pg.cul 2) :=
      ht ▸ (((SameRegs.refl _ s).setF (by decide)).setF (by decide)).irqEvent (by decide) (by decide)
    simp only [List.forall_mem_cons]
    exact ⟨hfirst.getF (by decide), hfirst.getF (by decide), fun _ h => nomatch h⟩
  simp only [List.forall_mem_cons] at hcount
  obtain ⟨hstalls, hretrains, -⟩ := hcount
  refine ⟨?_, ?_, ?_, ?_, ?_⟩
  · rw [hpast.getF (by decide), ← hv, getF_setF_ne _ _ _ _ _ _ (by decide), getF_bump_same _ _ rfl rfl, hstalls]
  · rw [hpast.getF (by decide), ← hv, getF_setF_ne _ _ _ _ _ _ (by decide), bump, getF_setF_ne _ _ _ _ _ _ (by decide), hretrains]
  · rw [hpast.getW (by decide), ← hv, setF, getW_setW_ne _ _ (by decide), bump, setF, getW_setW_ne _ _ (by decide), getW_irqEvent_raw,
      BitVec.getLsbD_or]
    exact Bool.or_eq_true_iff.mpr (.inr (by decide))
  · rw [hpast.getF (by decide), ← hv]
    exact getF_setF_same _ _ _ _ _ (by decide)
  · rw [faultLog_out, fieldSyncLoss_out, ← hv, setF_out, bump_out, irqEvent_out, ← ht]
    rfl

/-- A reset marks its page, gives up the slots, ends each EXEC with HANG, takes the credits and starts the first training attempt. -/
theorem culReset_parts (s : State) (trigger : Nat) : ∃ (c : CulSt) (t : State), c.execs = [] ∧ c.fieldS = [] ∧ c.rspWait = false ∧
    EndsKept (setCul (stalledNow s trigger) c) t ∧ culReset s trigger = trainStart (creditsSet t 0) 1 :=
  ⟨_, _, rfl, rfl, rfl,
    .foldl (fun a e => (endsKept_noteErr a _ _).trans ((endsKept_hangCount _).trans (endsKept_execEnd _ e _ _ (by decide)))) s.cul.execs _, rfl⟩

/-- The culvert has been reset and trains: what `u` shows of it, counted from `s`. -/
def ResetTrains (s u : State) : Prop :=
  culState u = 1 ∧ getF u Pg.cul F.CUL_STALLS = (getF s Pg.cul F.CUL_STALLS + 1) % 2 ^ 32 ∧
    getF u Pg.cul F.CUL_RETRAINS = (getF s Pg.cul F.CUL_RETRAINS + 1) % 2 ^ 32 ∧ (getW u Pg.cul 0x10).getLsbD 2 = true ∧
    u.cul.execs = [] ∧ u.cul.fieldS = [] ∧ u.cul.rspWait = false ∧ u.cul.attempt = 1 ∧ (∀ vc, getF u Pg.cul (credF vc) = 0) ∧
    getF u Pg.int F.INT_STAT_FIELD_STALE = 1

theorem culReset_resetTrains (s : State) (trigger : Nat) : ResetTrains s (culReset s trigger) := by
  obtain ⟨c, t, hexecs, hslots, hwait, hends, heq⟩ := culReset_parts s trigger
  obtain ⟨hstalls, hretrains, hraw, hstale, -⟩ := stalledNow_spec s trigger
  obtain ⟨hstate, hcount, hcul, hregs⟩ := trainStart_spec (creditsSet t 0) 1
  have hcred := sameRegs_creditsSet t 0
  rw [← heq] at hstate hcount hcul hregs
  rw [creditsSet_cul, hends.cul] at hcul
  refine ⟨hstate, ?_, ?_, ?_, ?_, ?_, ?_, ?_, fun vc => ?_, ?_⟩
  · rw [hregs.getF (by decide), hcred.getF (by decide), hends.getF (not_failedMoves _ (by decide)), getF_setCul, hstalls]
  · rw [hcount, hcred.getF (by decide), hends.getF (not_failedMoves _ (by decide)), getF_setCul, hretrains]
  · rw [hregs.getW (by decide), hcred.getW (by decide)]
    have hkept := hends.raw 2
    rw [getW_setCul] at hkept
    exact hkept hraw
  · rw [hcul]
    exact hexecs
  · rw [hcul]
    exact hslots
  · rw [hcul]
    exact hwait
  · rw [hcul]
  · have hkey : fKey Pg.cul (credF vc) ∉ trainKeys := (credF_spec vc).1 ▸ by decide
    rw [hregs.getF hkey, getF_creditsSet, Nat.zero_mod]
  · rw [hregs.getF (by decide), hcred.getF (by decide), hends.getF (not_failedMoves _ (by decide)), getF_setCul, hstale]

/-- What has gone out before a reset stays. -/
theorem culReset_out (s : State) (trigger : Nat) : ∀ o ∈ s.out, o ∈ (culReset s trigger).out := by
  obtain ⟨c, t, -, -, -, hends, heq⟩ := culReset_parts s trigger
  obtain ⟨-, -, -, -, hout⟩ := stalledNow_spec s trigger
  have hkept := hends.out
  rw [setCul_out, hout] at hkept
  rwa [heq, trainStart, bump_out, setF_out, setCul_out, creditsSet_out]

/-- A state with the same counts is reset to the same. -/
theorem ResetTrains.of_counts {s t u : State} (a : ResetTrains t u) (hstalls : getF t Pg.cul F.CUL_STALLS = getF s Pg.cul F.CUL_STALLS)
    (hretrains : getF t Pg.cul F.CUL_RETRAINS = getF s Pg.cul F.CUL_RETRAINS) : ResetTrains s u := by
  unfold ResetTrains at a ⊢
  rwa [hstalls, hretrains] at a

/-- The registers, and what lies beside them, show a reset. -/
theorem ResetTrains.shown {s u v : State} (a : ResetTrains s u) (hr : v.regs = u.regs) (hb : beside v = beside u) : ResetTrains s v := by
  have hcul : ∀ {α : Type} (g : CulSt → α), g { v.cul with accId := 0 } = g { u.cul with accId := 0 } := fun g => congrArg (fun x : State => g x.cul) hb
  obtain ⟨hstate, hstalls, hretrains, hraw, hexecs, hslots, hwait, hattempt, hcred, hstale⟩ := a
  exact ⟨(getF_of_regs hr ..).trans hstate, (getF_of_regs hr ..).trans hstalls, (getF_of_regs hr ..).trans hretrains, getW_of_regs hr _ _ ▸ hraw,
    (hcul CulSt.execs).trans hexecs, (hcul CulSt.fieldS).trans hslots, (hcul CulSt.rspWait).trans hwait, (hcul CulSt.attempt).trans hattempt,
    fun vc => (getF_of_regs hr ..).trans (hcred vc), (getF_of_regs hr ..).trans hstale⟩

/-! ## What resets the culvert (R253, R255, R263) -/

theorem culTrip_resetTrains {s : State} (trigger : Nat) (h : culUp s = true) : ResetTrains s (culTrip s trigger) := by
  have hup : culState s = 2 := beq_iff_eq.1 h
  have hcount : ∀ f ∈ [F.CUL_STALLS, F.CUL_RETRAINS], getF (bump s Pg.cul F.CUL_CHECK_FAIL) Pg.cul f = getF s Pg.cul f := by
    simp only [List.forall_mem_cons]
    exact ⟨getF_setF_ne _ _ _ _ _ _ (by decide), getF_setF_ne _ _ _ _ _ _ (by decide), fun _ h => nomatch h⟩
  simp only [List.forall_mem_cons] at hcount
  obtain ⟨hstalls, hretrains, -⟩ := hcount
  rw [culTrip, if_pos hup]
  split
  · exact (culReset_resetTrains _ trigger).of_counts hstalls hretrains
  · exact culReset_resetTrains s trigger

/-- The registers that a fresh pending state may change. -/
def freshKeys : List Nat := fKey Pg.int F.INT_STAT_FIELD_STALE :: irqKeys Pg.int

theorem sameRegs_pendFresh (s : State) (p : Nat) (b : Bool) : SameRegs freshKeys s (pendFresh s p b) := by
  unfold pendFresh
  extract_lets rest intr s1 more left
  have h1 : SameRegs freshKeys s s1 := fun _ _ => rfl
  split
  · exact h1
  · exact (h1.setB (by decide)).irqEvent (by decide) (by decide)

/-- Counters of culvert resets and of training attempts stand through the end of an EXEC. -/
theorem getF_execEnd_counts (s : State) (e : Exec) (status cause : Nat) (d : List Byte) {f : FieldD} (h : f = F.CUL_STALLS ∨ f = F.CUL_RETRAINS) :
    getF (execEnd s e status cause d) Pg.cul f = getF s Pg.cul f := by
  rcases execEnd_cases s e status cause d with hkept | ⟨-, p, b, heq⟩
  · exact hkept.getF (not_failedMoves _ (by rcases h with rfl | rfl <;> decide))
  · rw [heq]
    exact (sameRegs_pendFresh s p b).getF (by rcases h with rfl | rfl <;> decide)

theorem getF_doneIn_counts (s : State) {f : FieldD} (h : f = F.CUL_STALLS ∨ f = F.CUL_RETRAINS) : getF (doneIn s) Pg.cul f = getF s Pg.cul f := by
  have htook : ∀ {p i t}, takeField s p = some (i, t) → getF t Pg.cul f = getF s Pg.cul f := fun {p i t} ht => by
    unfold takeField at ht
    split at ht
    · obtain ⟨r, -, hr⟩ := Option.map_eq_some_iff.1 ht
      obtain ⟨-, rfl⟩ := Prod.mk.inj hr
      rw [bump, getF_setF_ne _ _ _ _ _ _ (by rcases h with rfl | rfl <;> decide)]
      rfl
    · exact nomatch ht
  unfold doneIn
  split
  · rename_i ht
    split
    · exact (getF_execEnd_counts _ _ _ _ _ h).trans ((getF_of_regs (by rfl) ..).trans (htook ht))
    · rw [bump, getF_setF_ne _ _ _ _ _ _ (by rcases h with rfl | rfl <;> decide), htook ht]
  · rfl

/-- A DONE that meets the symbol bound comes first; the reset follows (R255). -/
theorem symbolTimeout_resetTrains {s : State} (done : Bool) (h : culUp s = true) : ResetTrains s (symbolTimeout s done) := by
  rw [symbolTimeout, if_pos h]
  split
  · exact (culReset_resetTrains _ 0).of_counts (getF_doneIn_counts s (.inl rfl)) (getF_doneIn_counts s (.inr rfl))
  · exact culReset_resetTrains s 0

theorem symbolTimeout_access {s : State} {id st cause : Nat} {data : List Byte} {rest : List Item} {e : Exec} {who : Agent} {a : Nat}
    (hup : culUp s = true) (hs : s.cul.fieldS = .done id st cause data :: rest) (he : s.cul.execs.find? (·.id == id) = some e)
    (horg : e.org = .acc who a) (hacc : tabGet s.brg.accs a = none) : Out.access who st cause ∈ (symbolTimeout s true).out := by
  obtain ⟨hout, -, -⟩ := doneIn_access hup hs he horg hacc
  rw [symbolTimeout, if_pos hup]
  exact culReset_out (doneIn s) 0 _ hout

/-- A write of CUL.RETRAIN.GO is a reset of a culvert that is not OFF. -/
theorem judged_retrain {s : State} (who : Agent) (h : culState s ≠ 0) : judged s who Pg.cul 0x60 1#32 = (ackOk, culReset s 5) := by
  refine judged_command (by decide) (by decide) (lockAllows_of (by decide) (.inl (by decide))) ?_
  rw [if_neg (by decide), show culReset s 5 = culRetrain s from (if_neg h).symm]
  rfl

theorem completes_retrain {s : State} {who : Agent} (hw : writeReaches s who Pg.cul 0x60 = true) (h : culState s ≠ 0) :
    Completes (.culvertRetrain who) s (ResetTrains s) :=
  completes_write hw rfl rfl (judged_retrain (s := accNext (cleared s)) who h) fun _ hr hb _ =>
    (culReset_resetTrains (accNext (cleared s)) 5).shown hr hb

/-! ## Attempts that fail (R256, R257, R261) -/

/-- An attempt before the last shows its failed step. -/
theorem trainFail_again {s : State} (why : Nat) (h : culState s = 1) (hmore : s.cul.attempt < getF s Pg.cul F.CUL_CTL_RETRIES) :
    trainFail s why = setF s Pg.cul F.CUL_STAT_WHY (min why 4) := by
  rw [trainFail, if_neg (not_not_intro h)]
  exact if_pos hmore

/-- WHY holds every step's number. -/
theorem getF_setWhy (s : State) (why : Nat) : getF (setF s Pg.cul F.CUL_STAT_WHY (min why 4)) Pg.cul F.CUL_STAT_WHY = min why 4 := by
  rw [getF_setF_same _ _ _ _ _ (by decide)]
  exact Nat.mod_eq_of_lt (Nat.lt_of_le_of_lt (Nat.min_le_right why 4) (by decide))

theorem trainFail_again_spec {s : State} (why : Nat) (h : culState s = 1) (hmore : s.cul.attempt < getF s Pg.cul F.CUL_CTL_RETRIES) :
    getF (trainFail s why) Pg.cul F.CUL_STAT_WHY = min why 4 ∧ OnlyRegs [fKey Pg.cul F.CUL_STAT_WHY] s (trainFail s why) := by
  rw [trainFail_again why h hmore]
  exact ⟨getF_setWhy s why, (SameRegs.refl _ s).setF (List.mem_singleton_self _), rfl⟩

/-- The culvert has FAILED at step `why`, before the EXECs that wait end. -/
def failedNow (s : State) (why : Nat) : State :=
  irqEvent (setF (setF s Pg.cul F.CUL_STAT_WHY (min why 4)) Pg.cul F.CUL_STAT_STATE 4) Pg.cul 4

theorem failedNow_spec (s : State) (why : Nat) : getF (failedNow s why) Pg.cul F.CUL_STAT_WHY = min why 4 ∧ culState (failedNow s why) = 4 ∧
    (getW (failedNow s why) Pg.cul 0x10).getLsbD 4 = true := by
  refine ⟨?_, ?_, ?_⟩
  · rw [failedNow, getF_irqEvent_ne _ _ _ (by decide) (by decide), getF_setF_apart _ _ _ _ _ _ _ (by rfl) (by decide) (by decide)]
    exact getF_setWhy s why
  · rw [failedNow, culState, getF_irqEvent_ne _ _ _ (by decide) (by decide)]
    exact getF_setF_same _ _ _ _ _ (by decide)
  · rw [failedNow, getW_irqEvent_raw, BitVec.getLsbD_or]
    exact Bool.or_eq_true_iff.mpr (.inr (by decide))

/-- The last attempt that fails ends every EXEC that waits. -/
theorem trainFail_last {s : State} (why : Nat) (h : culState s = 1) (hlast : getF s Pg.cul F.CUL_CTL_RETRIES ≤ s.cul.attempt) :
    ∃ c : CulSt, (∀ e, Item.exec e ∉ c.ringW) ∧ EndsKept (setCul (failedNow s why) c) (trainFail s why) := by
  rw [trainFail, if_neg (not_not_intro h)]
  dsimp only
  rw [if_neg (Nat.not_lt.2 hlast)]
  exact ⟨_, fun e hmem => Bool.false_ne_true (List.mem_filter.1 hmem).2, .foldl (fun a e => endsKept_failed a e _ (by decide)) _ _⟩

theorem trainFail_last_spec {s : State} (why : Nat) (h : culState s = 1) (hlast : getF s Pg.cul F.CUL_CTL_RETRIES ≤ s.cul.attempt) :
    getF (trainFail s why) Pg.cul F.CUL_STAT_WHY = min why 4 ∧ culState (trainFail s why) = 4 ∧
      (getW (trainFail s why) Pg.cul 0x10).getLsbD 4 = true ∧ ∀ e, Item.exec e ∉ (trainFail s why).cul.ringW := by
  obtain ⟨c, hnone, hends⟩ := trainFail_last why h hlast
  obtain ⟨hwhy, hstate, hraw⟩ := failedNow_spec s why
  have hkept := hends.raw 4
  rw [getW_setCul] at hkept
  refine ⟨?_, ?_, hkept hraw, fun e => ?_⟩
  · rw [hends.getF (not_failedMoves _ (by decide)), getF_setCul, hwhy]
  · rw [culState, hends.getF (not_failedMoves _ (by decide)), getF_setCul]
    exact hstate
  · rw [hends.cul]
    exact hnone e

/-- A HELLO without a common version, or of another revision, fails step 3. -/
theorem culvertUpNow_refused {s : State} {en rev : Nat} (h : culState s = 1)
    (hbad : (getF s Pg.cul F.CUL_VER_EN &&& en) % 4 = 0 ∨ rev ≠ s.dev.fieldRev) (hmore : s.cul.attempt < getF s Pg.cul F.CUL_CTL_RETRIES) :
    getF (culvertUpNow s en rev) Pg.cul F.CUL_STAT_WHY = 3 ∧ getF (culvertUpNow s en rev) Pg.cul F.CUL_STAT_FIELD_REV = rev % 2 ^ 4 ∧
      OnlyRegs [fKey Pg.cul F.CUL_STAT_WHY] s (culvertUpNow s en rev) := by
  have hstate : culState (setF s Pg.cul F.CUL_STAT_FIELD_REV rev) = 1 := by
    rw [culState, getF_setF_apart _ _ _ _ _ _ _ (by rfl) (by decide) (by decide)]
    exact h
  have hretries : getF (setF s Pg.cul F.CUL_STAT_FIELD_REV rev) Pg.cul F.CUL_CTL_RETRIES = getF s Pg.cul F.CUL_CTL_RETRIES :=
    getF_setF_ne _ _ _ _ _ _ (by decide)
  have heq : culvertUpNow s en rev = setF (setF s Pg.cul F.CUL_STAT_FIELD_REV rev) Pg.cul F.CUL_STAT_WHY 3 := by
    rw [culvertUpNow, if_neg (not_not_intro h), if_pos hbad]
    exact trainFail_again 3 hstate (hretries.symm ▸ hmore)
  rw [heq]
  refine ⟨getF_setF_same _ _ _ _ _ (by decide), ?_, ((SameRegs.refl _ s).setF (by decide)).setF (by decide), rfl⟩
  rw [getF_setF_apart _ _ _ _ _ _ _ (by rfl) (by decide) (by decide)]
  exact getF_setF_same _ _ _ _ _ (by decide)

/-! ## Training ends (R254, R256) -/

/-- What the end of training settles: the registers, the field die's credits, and the EVT items that wait for theirs. -/
def upView (s : State) : Tab Word × List Nat × List Item := (s.regs, s.cul.fieldCred, s.cul.evtUncred)

theorem upView_fieldRecord (s : State) (r : FieldRec) : upView (fieldRecord s r) = upView s := rfl

/-- The LOSS records of version 1 only join the field die's queue (R254). -/
theorem upView_evtLost (s : State) (l : List Item) : upView (evtLost s l) = upView s := by
  unfold evtLost
  extract_lets soe can cap s1 s2
  have h1 : upView s1 = upView s := by
    clear_value soe
    simp only [s1]
    split <;> rfl
  have h2 : upView s2 = upView s1 := foldl_kept (fun a n _ => by split <;> rfl) s1
  split
  · exact (upView_fieldRecord ..).trans (h2.trans h1)
  · exact h2.trans h1

/-- Reads of pending states wait for the culvert and change nothing yet. -/
theorem upView_pendReads {s : State} (h : culState s ≠ 4) (l : List Nat) :
    upView (l.foldl (fun a p => execSend a .pendRead 1 (0x1000 * p + 0x18) 4 [] false) s) = upView s := by
  induction l generalizing s with
  | nil => rfl
  | cons p l ih =>
    have hone : upView (execSend s .pendRead 1 (0x1000 * p + 0x18) 4 [] false) = upView s := by
      rw [execSend]
      dsimp only
      rw [if_neg h]
      rfl
    have hstate : culState (execSend s .pendRead 1 (0x1000 * p + 0x18) 4 [] false) = culState s := getF_of_regs (congrArg Prod.fst hone) ..
    rw [List.foldl_cons, ih (hstate.symm ▸ h), hone]

/-- The culvert's page at the end of training: UP under version `ver`, with its credits. -/
def trainedNow (s : State) (ver rev : Nat) : State :=
  creditsSet (irqEvent (setF (setF (setF s Pg.cul F.CUL_VER_NEG ver) Pg.cul F.CUL_STAT_STATE 2) Pg.cul F.CUL_STAT_FIELD_REV rev) Pg.cul 3) (32 * ver)

theorem trainedNow_spec (s : State) {ver : Nat} (rev : Nat) (hv : ver = 1 ∨ ver = 2) : culState (trainedNow s ver rev) = 2 ∧
    getF (trainedNow s ver rev) Pg.cul F.CUL_VER_NEG = ver ∧ (∀ vc, getF (trainedNow s ver rev) Pg.cul (credF vc) = 32 * ver) ∧
    (getW (trainedNow s ver rev) Pg.cul 0x10).getLsbD 3 = true := by
  have hver : ver % 2 ^ 2 = ver ∧ 32 * ver % 2 ^ 7 = 32 * ver := by
    rcases hv with rfl | rfl <;> decide
  have hcred := sameRegs_creditsSet
    (irqEvent (setF (setF (setF s Pg.cul F.CUL_VER_NEG ver) Pg.cul F.CUL_STAT_STATE 2) Pg.cul F.CUL_STAT_FIELD_REV rev) Pg.cul 3) (32 * ver)
  refine ⟨?_, ?_, fun vc => (getF_creditsSet ..).trans hver.2, ?_⟩
  · rw [culState, trainedNow, hcred.getF (by decide), getF_irqEvent_ne _ _ _ (by decide) (by decide),
      getF_setF_apart _ _ _ _ _ _ _ (by rfl) (by decide) (by decide)]
    exact getF_setF_same _ _ _ _ _ (by decide)
  · rw [trainedNow, hcred.getF (by decide), getF_irqEvent_ne _ _ _ (by decide) (by decide), getF_setF_ne _ _ _ _ _ _ (by decide),
      getF_setF_ne _ _ _ _ _ _ (by decide)]
    exact (getF_setF_same _ _ _ _ _ (by decide)).trans hver.1
  · rw [trainedNow, hcred.getW (by decide), getW_irqEvent_raw, BitVec.getLsbD_or]
    exact Bool.or_eq_true_iff.mpr (.inr (by decide))

/-- A HELLO of the right revision with a common version ends training. -/
theorem upView_culvertUpNow {s : State} {en ver : Nat} (h : culState s = 1) (hcommon : (getF s Pg.cul F.CUL_VER_EN &&& en) % 4 ≠ 0)
    (hver : ver = if (getF s Pg.cul F.CUL_VER_EN &&& en).testBit 1 then 2 else 1) :
    upView (culvertUpNow s en s.dev.fieldRev) = ((trainedNow s ver s.dev.fieldRev).regs, [32 * ver, 32 * ver, 32 * ver, 32 * ver], []) := by
  have hv : ver = 1 ∨ ver = 2 := hver ▸ (ite_eq_or_eq ..).symm
  have hn : (if ver = 2 then 64 else 32) = 32 * ver := by
    rcases hv with rfl | rfl <;> rfl
  have hgood : ¬((getF s Pg.cul F.CUL_VER_EN &&& en) % 4 = 0 ∨ s.dev.fieldRev ≠ s.dev.fieldRev) :=
    not_or.2 ⟨hcommon, not_not_intro rfl⟩
  rw [culvertUpNow, if_neg (not_not_intro h), if_neg hgood, ← hver]
  extract_lets v n s1 s2 first offers lost cul s3 s4
  have h2 : s2 = trainedNow s ver s.dev.fieldRev := congrArg (creditsSet (irqEvent s1 Pg.cul 3)) hn
  have h3 : upView s3 = ((trainedNow s ver s.dev.fieldRev).regs, [32 * ver, 32 * ver, 32 * ver, 32 * ver], []) := by
    have hcred : s3.cul.fieldCred = [32 * ver, 32 * ver, 32 * ver, 32 * ver] := congrArg (fun n => [n, n, n, n]) hn
    have hregs : s3.regs = s2.regs := setCul_regs ..
    exact congrArg₂ Prod.mk (hregs.trans (congrArg State.regs h2)) (congrArg (·, []) hcred)
  have h4 : upView s4 = upView s3 := by
    simp only [s4]
    split
    · rfl
    · exact upView_evtLost ..
  have hstate : culState s4 ≠ 4 := by
    have hup : culState s4 = culState (trainedNow s ver s.dev.fieldRev) := getF_of_regs (congrArg Prod.fst (h4.trans h3)) ..
    rw [hup, (trainedNow_spec s _ hv).1]
    decide
  rw [upView_pendReads hstate, h4, h3]

theorem culvertUpNow_spec {s : State} {en ver : Nat} (h : culState s = 1) (hcommon : (getF s Pg.cul F.CUL_VER_EN &&& en) % 4 ≠ 0)
    (hver : ver = if (getF s Pg.cul F.CUL_VER_EN &&& en).testBit 1 then 2 else 1) :
    culState (culvertUpNow s en s.dev.fieldRev) = 2 ∧ getF (culvertUpNow s en s.dev.fieldRev) Pg.cul F.CUL_VER_NEG = ver ∧
      (∀ vc, getF (culvertUpNow s en s.dev.fieldRev) Pg.cul (credF vc) = 32 * ver) ∧
      (culvertUpNow s en s.dev.fieldRev).cul.fieldCred = [32 * ver, 32 * ver, 32 * ver, 32 * ver] ∧
      (getW (culvertUpNow s en s.dev.fieldRev) Pg.cul 0x10).getLsbD 3 = true ∧ (culvertUpNow s en s.dev.fieldRev).cul.evtUncred = [] := by
  have hv : ver = 1 ∨ ver = 2 := hver ▸ (ite_eq_or_eq ..).symm
  have hview := upView_culvertUpNow h hcommon hver
  simp only [upView, Prod.mk.injEq] at hview
  obtain ⟨hregs, hcred, hevt⟩ := hview
  obtain ⟨hstate, hneg, hring, hraw⟩ := trainedNow_spec s s.dev.fieldRev hv
  exact ⟨(getF_of_regs hregs ..).trans hstate, (getF_of_regs hregs ..).trans hneg, fun vc => (getF_of_regs hregs ..).trans (hring vc), hcred,
    getW_of_regs hregs _ _ ▸ hraw, hevt⟩

/-- The wake pattern empties the field die's slots and takes its credits (R256). -/
theorem wakeIn_spec {s : State} (h : culState s = 1) : (wakeIn s).cul.ringS = [] ∧ (wakeIn s).cul.fieldCred = [0, 0, 0, 0] ∧
    (wakeIn s).cul.fieldFreed = [0, 0, 0, 0] ∧ (wakeIn s).cul.ringLost = false ∧ (wakeIn s).regs = s.regs := by
  rw [wakeIn, if_pos h]
  exact ⟨rfl, rfl, rfl, rfl, rfl⟩

/-- Settles O35: every trigger comes to one reset, whose ends of EXECs leave the culvert alone; training attempts are changes of page CUL. -/
theorem culvertResetsAndTraining : Obligations.CulvertResetsAndTraining := by
  unfold Obligations.CulvertResetsAndTraining
  refine ⟨fun s c ha => ⟨?resets, fun id st cause data e who a rest hup hs he horg hacc => ?done⟩,
    fun s ha => ⟨fun h => ⟨fun why hmore => ?again, fun why hlast => ?last, ?retry, fun en n hcommon hn => ?up, fun en rev hbad hmore => ?refused, ?wake⟩,
      completes_during ha rfl ⟨rfl, rfl, rfl⟩⟩⟩
  case resets =>
    rintro (⟨hup, ⟨b, rfl⟩ | rfl | rfl | rfl | rfl⟩ | ⟨who, rfl, hw, hon⟩ | ⟨rfl, hwait⟩)
    · exact completes_during ha rfl (symbolTimeout_resetTrains (s := cleared s) b hup)
    · exact completes_during ha rfl (culTrip_resetTrains (s := cleared s) 1 hup)
    · exact completes_during ha rfl (culTrip_resetTrains (s := cleared s) 2 hup)
    · exact completes_during ha rfl (culTrip_resetTrains (s := cleared s) 3 hup)
    · exact completes_during ha rfl (culTrip_resetTrains (s := cleared s) 4 hup)
    · exact completes_retrain hw hon
    · have hreset : rspWaitEnd (cleared s) = culReset (cleared s) 5 := if_pos hwait
      exact completes_during ha rfl (hreset ▸ culReset_resetTrains (cleared s) 5)
  case done =>
    exact completes_during ha rfl (symbolTimeout_access (s := cleared s) hup hs he horg hacc)
  case again =>
    exact completes_during ha rfl (trainFail_again_spec (s := cleared s) why h hmore)
  case last =>
    exact completes_during ha rfl (trainFail_last_spec (s := cleared s) why h hlast)
  case retry =>
    obtain ⟨hstate, hcount, hcul, -⟩ := trainStart_spec (cleared s) (s.cul.attempt + 1)
    have hretry : trainRetry (cleared s) = trainStart (cleared s) (s.cul.attempt + 1) := if_pos h
    exact completes_during ha rfl (hretry ▸ ⟨hstate, hcul, hcount⟩)
  case up =>
    exact completes_during ha rfl (culvertUpNow_spec (s := cleared s) h hcommon hn)
  case refused =>
    exact completes_during ha rfl (culvertUpNow_refused (s := cleared s) h hbad hmore)
  case wake =>
    exact completes_during ha rfl (wakeIn_spec (s := cleared s) h)

end Sys2Proof.Machine
end

section
/-! PROOFS. The packing FIFOs: what their operations make of the words they hold, and what they leave alone (R271 to R273, R276, R277). -/

namespace Sys2Proof.Machine

/-! ## Reads of a FIFO and of a serial port -/

@[simp] theorem fifoOf_setFifo (s : State) (ep : Nat) (f : FifoSt) : fifoOf (setFifo s ep f) ep = f := by simp [fifoOf, setFifo]
@[simp] theorem serOf_setSer (s : State) (n : Nat) (p : SerSt) : serOf (setSer s n p) n = p := by simp [serOf, setSer]
@[simp] theorem serOf_setFifo (s : State) (n ep : Nat) (f : FifoSt) : serOf (setFifo s ep f) n = serOf s n := rfl

theorem fifoOf_of_fld {s t : State} (h : s.fld = t.fld) (ep : Nat) : fifoOf s ep = fifoOf t ep := by simp only [fifoOf, h]
theorem serOf_of_fld {s t : State} (h : s.fld = t.fld) (n : Nat) : serOf s n = serOf t n := by simp only [serOf, h]

@[simp] theorem fifoOf_irqEvent (s : State) (p b ep : Nat) : fifoOf (irqEvent s p b) ep = fifoOf s ep := fifoOf_of_fld (irqEvent_fld ..) ep
@[simp] theorem serOf_irqEvent (s : State) (p b n : Nat) : serOf (irqEvent s p b) n = serOf s n := serOf_of_fld (irqEvent_fld ..) n
@[simp] theorem fifoOf_bump (s : State) (p : Nat) (f : FieldD) (n i ep : Nat) : fifoOf (bump s p f n i) ep = fifoOf s ep := rfl

theorem epPage_ser {n : Nat} (hn : n < 32) : epPage n = Pg.ser n := if_pos hn
theorem rxDepth_ser {n : Nat} (hn : n < 32) : rxDepth n = 128 := if_pos hn

/-- The pages of the serial ports lie behind those of the ring die. -/
theorem ser_ne_ring {p : Nat} (n : Nat) (hp : p < 0x100) : Pg.ser n ≠ p := Nat.ne_of_gt (Nat.lt_of_lt_of_le hp (Nat.le_add_right 0x100 n))

/-- A command to an endpoint or block by its number completes with its effect where the number is one of these. -/
theorem completes_numbered {c : Instr} {s : State} {n k : Nat} {f : State → State} {P : State → Prop} (ha : alive s = true) (hn : n < k)
    (he : exec c s = .next (during s fun a => if n < k then f a else a)) (hp : P (f (cleared s))) : Completes c s P :=
  completes_during ha he (by rwa [if_pos hn])

/-- An event sets its bit of IRQ_RAW. -/
theorem irqEvent_raw_set (s : State) (p : Nat) {b : Nat} (h : b < 32) : (getW (irqEvent s p b) p 0x10).getLsbD b = true := by
  rw [getW_irqEvent_raw, BitVec.getLsbD_or, BitVec.getLsbD_ofNat, Nat.testBit_two_pow_self, decide_eq_true h, Bool.and_self, Bool.or_true]

theorem SameRegs.event {s t : State} {p b : Nat} (a : SameRegs (irqKeys p) s t) : SameRegs (irqKeys p) s (Machine.irqEvent t p b) :=
  a.irqEvent List.mem_cons_self (List.mem_cons_of_mem _ List.mem_cons_self)

/-! ## Reception of a serial port leaves its counters alone -/

/-- The registers of a serial port that the close of a word writes: the message stamps and the interrupt registers (R277). -/
def msgKeys (n : Nat) : List Nat :=
  fKey (Pg.ser n) F.SER_MSG_START_STAMP :: fKey (Pg.ser n) F.SER_MSG_END_STAMP :: fKey (Pg.ser n) F.SER_MSG_FLAGS_UNSYNC :: irqKeys (Pg.ser n)

/-- Beside the registers of `msgKeys` and those of page MIR, which count mirror records, every register stands; sources that are set stay set. -/
structure RxKept (n : Nat) (s t : State) : Prop where
  regs : ∀ k, k ∉ msgKeys n → k / 1024 ≠ Pg.mir → tabGet t.regs k = tabGet s.regs k
  raw : ∀ i, (getW s (Pg.ser n) 0x10).getLsbD i = true → (getW t (Pg.ser n) 0x10).getLsbD i = true

theorem RxKept.refl (n : Nat) (s : State) : RxKept n s s := ⟨fun _ _ _ => rfl, fun _ h => h⟩

theorem RxKept.trans {n : Nat} {s t u : State} (a : RxKept n s t) (b : RxKept n t u) : RxKept n s u :=
  ⟨fun k hk hm => (b.regs k hk hm).trans (a.regs k hk hm), fun i h => b.raw i (a.raw i h)⟩

/-- An update beside the registers. -/
theorem RxKept.of_regs {n : Nat} {s t : State} (h : t.regs = s.regs) : RxKept n s t :=
  ⟨fun _ _ _ => by rw [h], fun i hi => by rwa [getW_of_regs h]⟩

theorem RxKept.irqEvent (n : Nat) (s : State) (b : Nat) : RxKept n s (irqEvent s (Pg.ser n) b) :=
  ⟨fun k hk _ => (SameRegs.refl (msgKeys n) s).irqEvent (by simp [msgKeys, irqKeys]) (by simp [msgKeys, irqKeys]) k hk,
    fun _ h => irqEvent_raw_mono b h⟩

/-- A counter of the port, or another of its registers that no close of a word writes. -/
theorem RxKept.getF {n : Nat} {s t : State} (a : RxKept n s t) {f : FieldD} (h : 0x70 ≤ f.off + f.stride * 0) (ho : f.off + f.stride * 0 < 0x1000) :
    getF t (Pg.ser n) f = getF s (Pg.ser n) f := by
  have hpage : regKey (Pg.ser n) (f.off + f.stride * 0) / 1024 ≠ Pg.mir := by
    rw [(regKey_split ho).1]
    exact ser_ne_ring n (by decide)
  have hkey : regKey (Pg.ser n) (f.off + f.stride * 0) ∉ msgKeys n := by
    simp only [msgKeys, irqKeys, fKey, regKey, F.SER_MSG_START_STAMP, F.SER_MSG_END_STAMP, F.SER_MSG_FLAGS_UNSYNC, List.mem_cons, List.not_mem_nil,
      or_false]
    omega
  rw [Machine.getF, Machine.getF, getW, getW, a.regs _ hkey hpage]

/-! ## Closed words enter the FIFO (R272, R273) -/

/-- A word that is mirrored changes nothing of the field, and registers of page MIR only (R369). -/
theorem wordMirror_spec (s : State) (ep : Nat) (w : FWord) : (wordMirror s ep w).fld = s.fld ∧ OnlyPages [Pg.mir] s (wordMirror s ep w) := by
  unfold wordMirror mirrorNote mirrorPush
  split
  · exact ⟨rfl, (OnlyPages.setF (.of_eq (.refl _ s) rfl) (List.mem_singleton_self _) (by decide)).bump (List.mem_singleton_self _) (by decide)⟩
  · exact ⟨rfl, .refl _ s⟩

@[simp] theorem fifoOf_wordMirror (s : State) (ep : Nat) (w : FWord) (k : Nat) : fifoOf (wordMirror s ep w) k = fifoOf s k :=
  fifoOf_of_fld (wordMirror_spec s ep w).1 k

theorem wordMirror_off {s : State} (ep : Nat) (w : FWord) (h : mirroring s = false) : wordMirror s ep w = s := by
  rw [wordMirror, mirrorNote, h, if_neg Bool.false_ne_true]

theorem rxKept_wordMirror (n : Nat) (s : State) (ep : Nat) (w : FWord) : RxKept n s (wordMirror s ep w) := by
  obtain ⟨-, hpages⟩ := wordMirror_spec s ep w
  have hser : Pg.ser n ∉ [Pg.mir] := by
    rw [List.mem_singleton]
    exact ser_ne_ring n (by decide)
  exact ⟨fun k _ hm => hpages k (by simpa using hm), fun i h => by rwa [hpages.getW hser (by decide)]⟩

/-- A sealed word enters where a word is free. -/
theorem sealedEnter_room {s : State} {ep : Nat} {w : FWord} (hw : (fifoOf s ep).sealed = some w) (hroom : (fifoOf s ep).rx.length < rxDepth ep) :
    sealedEnter s ep = wordMirror (setFifo s ep { fifoOf s ep with rx := (fifoOf s ep).rx ++ [w], sealed := none }) ep w := by
  simp only [sealedEnter, hw, hroom, if_true]

/-- Whether a sealed word enters or not, the open word, the ports and the other registers stand. -/
theorem sealedEnter_spec (n : Nat) (s : State) (ep : Nat) : (fifoOf (sealedEnter s ep) ep).opened = (fifoOf s ep).opened ∧
    serOf (sealedEnter s ep) n = serOf s n ∧ RxKept n s (sealedEnter s ep) := by
  unfold sealedEnter
  dsimp only
  split
  · split
    · refine ⟨by rw [fifoOf_wordMirror, fifoOf_setFifo], (serOf_of_fld (wordMirror_spec ..).1 n).trans (serOf_setFifo ..), ?_⟩
      exact .trans (t := setFifo s ep _) (.of_regs rfl) (rxKept_wordMirror n ..)
    · exact ⟨rfl, rfl, .refl n s⟩
  · exact ⟨rfl, rfl, .refl n s⟩

/-- The registers after the message stamps have been latched (R277). -/
def stampsLatched (s : State) (n : Nat) : State :=
  let st := (serOf s n).msgStart.getD (0, false)
  setB (setF (setF s (Pg.ser n) F.SER_MSG_START_STAMP st.1) (Pg.ser n) F.SER_MSG_END_STAMP (serOf s n).charEnd.1) (Pg.ser n)
    F.SER_MSG_FLAGS_UNSYNC (st.2 || (serOf s n).charEnd.2)

theorem msgLatch_eq (s : State) {n : Nat} (hn : n < 32) :
    msgLatch s n = irqEvent (setSer (stampsLatched s n) n { serOf s n with msgStart := none }) (Pg.ser n) 2 := if_pos hn

theorem rxKept_stampsLatched (s : State) (n : Nat) : RxKept n s (stampsLatched s n) := by
  constructor
  · exact fun k hk _ => (((SameRegs.refl (msgKeys n) s).setF (by simp [msgKeys])).setF (by simp [msgKeys])).setB (by simp [msgKeys]) k hk
  · intro i h
    have hirq : SameRegs [fKey (Pg.ser n) F.SER_MSG_START_STAMP, fKey (Pg.ser n) F.SER_MSG_END_STAMP, fKey (Pg.ser n) F.SER_MSG_FLAGS_UNSYNC] s
      (stampsLatched s n) := (((SameRegs.refl _ s).setF (by simp)).setF (by simp)).setB (by simp)
    rwa [hirq.getW]
    simp [fKey, regKey, F.SER_MSG_START_STAMP, F.SER_MSG_END_STAMP, F.SER_MSG_FLAGS_UNSYNC]

theorem getF_stampsLatched_end (s : State) (n : Nat) :
    getF (stampsLatched s n) (Pg.ser n) F.SER_MSG_END_STAMP = (serOf s n).charEnd.1 % 2 ^ 32 := by
  rw [stampsLatched, setB, getF_setF_ne _ _ _ _ _ _ (regKey_off_ne (by decide)), getF_setF_same _ _ _ _ _ (by decide)]
  rfl

/-- The message stamps are latched with an event of their own, and MSG_END is when the last stop bit ended (R277). -/
theorem msgLatch_spec (s : State) {n : Nat} (hn : n < 32) : (∀ ep, fifoOf (msgLatch s n) ep = fifoOf s ep) ∧
    (getW (msgLatch s n) (Pg.ser n) 0x10).getLsbD 2 = true ∧
    getF (msgLatch s n) (Pg.ser n) F.SER_MSG_END_STAMP = (serOf s n).charEnd.1 % 2 ^ 32 ∧ RxKept n s (msgLatch s n) := by
  rw [msgLatch_eq s hn]
  have hset : RxKept n s (setSer (stampsLatched s n) n { serOf s n with msgStart := none }) := (rxKept_stampsLatched s n).trans (.of_regs rfl)
  refine ⟨fun ep => fifoOf_irqEvent .., irqEvent_raw_set _ _ (by decide), ?_, hset.trans (.irqEvent n _ 2)⟩
  rw [getF_irqEvent_body _ _ _ _ (by decide) (by decide)]
  exact getF_stampsLatched_end s n

/-- The open word as it is closed with LAST. -/
def lastWord (f : FifoSt) : FWord := { data := f.opened, last := true, gap := f.openGap }

/-- The open word waits sealed. -/
def openSealed (s : State) (ep : Nat) : State :=
  setFifo s ep { fifoOf s ep with opened := [], openGap := false, sealed := some (lastWord (fifoOf s ep)) }

theorem sealOpen_some {s : State} {ep : Nat} (h : (fifoOf s ep).opened ≠ []) : sealOpen s ep = msgLatch (sealedEnter (openSealed s ep) ep) ep := by
  rw [sealOpen, if_neg (by simpa using h)]
  rfl

/-- An open word that holds bytes enters the FIFO with LAST where a word is free. -/
theorem sealOpen_room {s : State} {n : Nat} (hn : n < 32) (h : (fifoOf s n).opened ≠ []) (hroom : (fifoOf s n).rx.length < 128) :
    (fifoOf (sealOpen s n) n).opened = [] ∧ (fifoOf (sealOpen s n) n).rx = (fifoOf s n).rx ++ [lastWord (fifoOf s n)] ∧
      (getW (sealOpen s n) (Pg.ser n) 0x10).getLsbD 2 = true ∧
      getF (sealOpen s n) (Pg.ser n) F.SER_MSG_END_STAMP = (serOf s n).charEnd.1 % 2 ^ 32 := by
  obtain ⟨hfifo, hraw, hend, -⟩ := msgLatch_spec (sealedEnter (openSealed s n) n) hn
  have hsealed : fifoOf (openSealed s n) n = { fifoOf s n with opened := [], openGap := false, sealed := some (lastWord (fifoOf s n)) } :=
    fifoOf_setFifo ..
  have hdepth : (fifoOf s n).rx.length < rxDepth n := by rwa [rxDepth_ser hn]
  have henter := sealedEnter_room (s := openSealed s n) (ep := n) (w := lastWord (fifoOf s n)) (by rw [hsealed]) (by rwa [hsealed])
  have hnow : fifoOf (sealOpen s n) n =
      { fifoOf (openSealed s n) n with rx := (fifoOf (openSealed s n) n).rx ++ [lastWord (fifoOf s n)], sealed := none } := by
    rw [sealOpen_some h, hfifo, henter, fifoOf_wordMirror, fifoOf_setFifo]
  rw [hnow, sealOpen_some h, hsealed]
  exact ⟨rfl, rfl, hraw, hend.trans (by rw [(sealedEnter_spec n _ n).2.1]; rfl)⟩

/-- Whatever it held, the open word holds nothing after a flush, and the counters stand. -/
theorem sealOpen_spec (s : State) {n : Nat} (hn : n < 32) : (fifoOf (sealOpen s n) n).opened = [] ∧ RxKept n s (sealOpen s n) := by
  by_cases h : (fifoOf s n).opened = []
  · have hs : sealOpen s n = s := by rw [sealOpen, if_pos (by simpa using h)]
    exact hs.symm ▸ ⟨h, .refl n s⟩
  · rw [sealOpen_some h]
    obtain ⟨hfifo, -, -, hlatch⟩ := msgLatch_spec (sealedEnter (openSealed s n) n) hn
    obtain ⟨hopen, -, henter⟩ := sealedEnter_spec n (openSealed s n) n
    refine ⟨?_, .trans (t := openSealed s n) (.of_regs rfl) (henter.trans hlatch)⟩
    rw [hfifo, hopen, openSealed, fifoOf_setFifo]

/-! ## Flow control (R276) -/

/-- The flow-control signal follows the fill; words and registers beside its event stand. -/
theorem fcUpdate_spec (s : State) (ep : Nat) : (∃ b, fifoOf (fcUpdate s ep) ep = { fifoOf s ep with fc := b }) ∧
    SameRegs (irqKeys (epPage ep)) s (fcUpdate s ep) := by
  unfold fcUpdate
  dsimp only
  split
  · exact ⟨⟨true, by rw [fifoOf_irqEvent, fifoOf_setFifo]⟩, SameRegs.event (fun _ _ => rfl)⟩
  · split
    · exact ⟨⟨false, fifoOf_setFifo ..⟩, fun _ _ => rfl⟩
    · exact ⟨⟨(fifoOf s ep).fc, rfl⟩, .refl _ s⟩

theorem rxKept_fcUpdate (s : State) {n : Nat} (hn : n < 32) : RxKept n s (fcUpdate s n) := by
  unfold fcUpdate
  dsimp only
  rw [epPage_ser hn]
  split
  · exact .trans (t := setFifo s n _) (.of_regs rfl) (.irqEvent n ..)
  · split
    · exact .of_regs rfl
    · exact .refl n s

/-! ## Bytes arrive (R272) -/

/-- What a FIFO holds while no word waits sealed: its closed words, the bytes of its open word, and its transmit words. -/
structure Holds (f : FifoSt) (rx : List FWord) (opened : List Byte) (tx : List FWord) : Prop where
  rx : f.rx = rx
  opened : f.opened = opened
  tx : f.tx = tx
  sealed : f.sealed = none

theorem Holds.fcUpdate {s : State} {ep : Nat} {rx : List FWord} {o : List Byte} {tx : List FWord} (h : Holds (fifoOf s ep) rx o tx) :
    Holds (fifoOf (fcUpdate s ep) ep) rx o tx := by
  obtain ⟨⟨b, hb⟩, -⟩ := fcUpdate_spec s ep
  rw [hb]
  exact ⟨h.rx, h.opened, h.tx, h.sealed⟩

/-- Bytes that the open word has room for join it. -/
theorem rxUnit_joins {s : State} {ep : Nat} {rx : List FWord} {o bs : List Byte} {tx : List FWord} (h : Holds (fifoOf s ep) rx o tx)
    (hlen : o.length + bs.length ≤ 8) :
    Holds (fifoOf (rxUnit s ep bs) ep) rx (o ++ bs) tx ∧ SameRegs (irqKeys (epPage ep)) s (rxUnit s ep bs) := by
  have hroom : rxRoom s ep bs.length = true := by simp [rxRoom, h.sealed, h.opened, hlen]
  simp only [rxUnit, hroom, Bool.not_true, Bool.false_eq_true, if_false, h.opened, hlen, if_true]
  cases o with
  | nil =>
    refine ⟨Holds.fcUpdate ?_, .trans (t := setFifo s ep _) (fun _ _ => rfl) (fcUpdate_spec ..).2⟩
    rw [List.isEmpty_nil, if_pos rfl, fifoOf_setFifo]
    exact ⟨h.rx, rfl, h.tx, h.sealed⟩
  | cons b o =>
    refine ⟨Holds.fcUpdate ?_, .trans (t := setFifo s ep _) (fun _ _ => rfl) (fcUpdate_spec ..).2⟩
    rw [List.isEmpty_cons, if_neg Bool.false_ne_true, fifoOf_setFifo]
    exact ⟨h.rx, rfl, h.tx, h.sealed⟩

/-- The same byte by byte. -/
theorem rxUnits_join {s : State} {ep : Nat} {rx : List FWord} {o bs : List Byte} {tx : List FWord} (h : Holds (fifoOf s ep) rx o tx)
    (hlen : o.length + bs.length ≤ 8) : Holds (fifoOf (bs.foldl (fun a b => rxUnit a ep [b]) s) ep) rx (o ++ bs) tx ∧
      SameRegs (irqKeys (epPage ep)) s (bs.foldl (fun a b => rxUnit a ep [b]) s) := by
  induction bs generalizing s o with
  | nil => exact ⟨by rwa [List.append_nil], .refl _ s⟩
  | cons b bs ih =>
    rw [List.length_cons] at hlen
    obtain ⟨hone, hregs⟩ := rxUnit_joins (bs := [b]) h (by rw [List.length_singleton]; omega)
    obtain ⟨hall, hrest⟩ := ih hone (by simp only [List.length_append, List.length_singleton]; omega)
    exact ⟨by rwa [List.append_assoc] at hall, hregs.trans hrest⟩

/-- A byte that finds eight in the open word closes it without LAST, and opens the next word. -/
theorem rxUnit_closes {s : State} {ep : Nat} {rx : List FWord} {o : List Byte} {tx : List FWord} (b : Byte) (h : Holds (fifoOf s ep) rx o tx)
    (hlen : o.length = 8) (hroom : rx.length < rxDepth ep) :
    Holds (fifoOf (rxUnit s ep [b]) ep) (rx ++ [{ data := o, last := false, gap := (fifoOf s ep).openGap }]) [b] tx := by
  have hok : rxRoom s ep [b].length = true := by simp [rxRoom, h.sealed, h.rx, hroom]
  have hsome : o.isEmpty = false := by cases o with | nil => cases hlen | cons => rfl
  have hfull : ¬ o.length + [b].length ≤ 8 := by rw [hlen, List.length_singleton]; decide
  simp only [rxUnit, hok, Bool.not_true, Bool.false_eq_true, if_false, h.opened, hsome, hfull]
  refine Holds.fcUpdate ?_
  rw [fifoOf_wordMirror, fifoOf_setFifo]
  exact ⟨congrArg (· ++ _) h.rx, rfl, h.tx, h.sealed⟩

/-- Bytes that are lost are counted, and the next word opened carries GAP (R273). -/
theorem rxLoss_spec (s : State) {n : Nat} (hn : n < 32) (k : Nat) : (fifoOf (rxLoss s n k) n).gapNext = true ∧
    RxKept n (bump s (Pg.ser n) F.SER_RX_LOST k) (rxLoss s n k) := by
  have hfld : epFld n F.SER_RX_LOST F.BEN_RX_LOST = F.SER_RX_LOST := if_pos hn
  unfold rxLoss
  dsimp only
  rw [epPage_ser hn, hfld]
  exact ⟨by rw [fifoOf_setFifo], ((RxKept.irqEvent n _ _).trans (sealOpen_spec _ hn).2).trans (.of_regs rfl)⟩

end Sys2Proof.Machine
end

section
/-! PROOFS. What a serial port does with what it receives (R266, R267, R269, R271 to R273, R277). -/

namespace Sys2Proof.Machine

/-! ## Characters (R266, R267, R269, R272) -/

/-- A character is one byte, or two. -/
theorem charBytes_cons (s : State) (n data : Nat) : ∃ b bs, charBytes s n data = b :: bs ∧ bs.length ≤ 1 := by
  unfold charBytes
  dsimp only
  split
  · exact ⟨_, [], rfl, by decide⟩
  · split
    · exact ⟨_, [], rfl, by decide⟩
    · exact ⟨_, _, rfl, Nat.le_refl _⟩

/-- A port that still waits for mark takes nothing, and waits anew (R268). -/
theorem serCharRx_unmarked {s : State} {n st : Nat} (data : Nat) (pe fe us : Bool) (hon : serOn s n = true) (h : markSeen s n st = false) :
    serCharRx s n data pe fe st us = setSer s n { serOf s n with markFrom := some (fieldNs s) } := by
  have hsome : (serOf s n).markFrom.isSome = true := by
    cases hm : (serOf s n).markFrom with
    | none => simp [markSeen, hm] at h
    | some t => rfl
  simp only [serCharRx, hon, h, markBroken, hsome, Bool.not_true, Bool.not_false, Bool.false_eq_true, if_false, if_true]

/-- A port that drives drops its echo (R269). -/
theorem serCharRx_deaf {s : State} {n st : Nat} (data : Nat) (pe fe us : Bool) (hon : serOn s n = true) (hm : markSeen s n st = true)
    (h : serDeaf s n = true) : serCharRx s n data pe fe st us = bump s (Pg.ser n) F.SER_ECHO_DROP := by
  simp only [serCharRx, hon, hm, h, Bool.not_true, Bool.false_eq_true, if_false, if_true]

/-- A good character that the FIFO has room for is stored byte by byte, and counted. -/
theorem serCharRx_good {s : State} {n st : Nat} (data : Nat) (us : Bool) (hon : serOn s n = true) (hm : markSeen s n st = true)
    (hd : serDeaf s n = false) (hroom : rxRoom s n (charBytes s n data).length = true) : ∃ p q, serCharRx s n data false false st us =
      bump ((charBytes s n data).foldl (fun a b => rxUnit a n [b]) (setSer (setSer s n p) n q)) (Pg.ser n) F.SER_RX_CHARS := by
  have hroom' : ∀ p, rxRoom (setSer s n p) n (charBytes s n data).length = true := fun _ => hroom
  simp only [serCharRx, hon, hm, hd, hroom', Bool.not_true, Bool.or_self, Bool.false_and, Bool.false_eq_true, if_false, if_true]
  exact ⟨_, _, rfl⟩

/-- A character with a parity error that ERR_ACT discards is counted and lost (R267). -/
theorem serCharRx_dropped {s : State} {n st : Nat} (data : Nat) (us : Bool) (hon : serOn s n = true) (hm : markSeen s n st = true)
    (hd : serDeaf s n = false) (hact : getB s (Pg.ser n) F.SER_CFG_ERR_ACT = true) : ∃ p, serCharRx s n data true false st us =
      fcUpdate (rxLoss (irqEvent (bump (setSer s n p) (Pg.ser n) F.SER_PARITY_ERR) (Pg.ser n) 8) n (charBytes s n data).length) n := by
  simp only [serCharRx, hon, hm, hd, hact, Bool.not_true, Bool.true_or, Bool.and_self, Bool.false_eq_true, if_false, if_true]
  exact ⟨_, rfl⟩

/-- A good character that the open word has room for. -/
theorem serCharRx_joins {s : State} {n st : Nat} (data : Nat) (us : Bool) (hn : n < 32) (hon : serOn s n = true) (hm : markSeen s n st = true)
    (hd : serDeaf s n = false) (hs : (fifoOf s n).sealed = none) (hlen : (fifoOf s n).opened.length + (charBytes s n data).length ≤ 8) :
    Holds (fifoOf (serCharRx s n data false false st us) n) (fifoOf s n).rx ((fifoOf s n).opened ++ charBytes s n data) (fifoOf s n).tx ∧
      getF (serCharRx s n data false false st us) (Pg.ser n) F.SER_RX_CHARS = (getF s (Pg.ser n) F.SER_RX_CHARS + 1) % 2 ^ 32 ∧
      SameRegs (fKey (Pg.ser n) F.SER_RX_CHARS :: irqKeys (Pg.ser n)) s (serCharRx s n data false false st us) := by
  obtain ⟨p, q, he⟩ := serCharRx_good data us hon hm hd (by simp [rxRoom, hs, hlen])
  obtain ⟨hholds, hregs⟩ := rxUnits_join (s := setSer (setSer s n p) n q) (ep := n) ⟨rfl, rfl, rfl, hs⟩ hlen
  rw [epPage_ser hn] at hregs
  have hcount : fKey (Pg.ser n) F.SER_RX_CHARS ∉ irqKeys (Pg.ser n) := by simp [fKey, irqKeys, regKey, F.SER_RX_CHARS]
  rw [he]
  refine ⟨hholds, ?_, ?_⟩
  · rw [getF_bump_same _ _ rfl rfl, hregs.getF hcount]
    rfl
  · exact SameRegs.bump ((hregs.mono fun _ => List.mem_cons_of_mem _).from_eq rfl) List.mem_cons_self

/-- A good character that finds eight bytes in the open word, which closes. -/
theorem serCharRx_closes {s : State} {n st : Nat} (data : Nat) (us : Bool) (hn : n < 32) (hon : serOn s n = true) (hm : markSeen s n st = true)
    (hd : serDeaf s n = false) (hs : (fifoOf s n).sealed = none) (hlen : (fifoOf s n).opened.length = 8) (hroom : (fifoOf s n).rx.length < 128) :
    Holds (fifoOf (serCharRx s n data false false st us) n)
      ((fifoOf s n).rx ++ [{ data := (fifoOf s n).opened, last := false, gap := (fifoOf s n).openGap }]) (charBytes s n data) (fifoOf s n).tx := by
  have hdepth : (fifoOf s n).rx.length < rxDepth n := by rwa [rxDepth_ser hn]
  obtain ⟨p, q, he⟩ := serCharRx_good data us hon hm hd (by simp [rxRoom, hs, hdepth])
  obtain ⟨b, bs, hbytes, hshort⟩ := charBytes_cons s n data
  have hone := rxUnit_closes (s := setSer (setSer s n p) n q) (ep := n) b ⟨rfl, rfl, rfl, hs⟩ hlen hdepth
  obtain ⟨hall, -⟩ := rxUnits_join (bs := bs) hone (by rw [List.length_singleton]; omega)
  rw [he, hbytes]
  exact hall

/-- A character that is dropped counts its error and its bytes, and the next word carries GAP (R267, R273). -/
theorem serCharRx_dropped_spec {s : State} {n st : Nat} (data : Nat) (us : Bool) (hn : n < 32) (hon : serOn s n = true) (hm : markSeen s n st = true)
    (hd : serDeaf s n = false) (hact : getB s (Pg.ser n) F.SER_CFG_ERR_ACT = true) :
    getF (serCharRx s n data true false st us) (Pg.ser n) F.SER_PARITY_ERR = (getF s (Pg.ser n) F.SER_PARITY_ERR + 1) % 2 ^ 32 ∧
      (getW (serCharRx s n data true false st us) (Pg.ser n) 0x10).getLsbD 8 = true ∧
      getF (serCharRx s n data true false st us) (Pg.ser n) F.SER_RX_LOST =
        (getF s (Pg.ser n) F.SER_RX_LOST + (charBytes s n data).length) % 2 ^ 32 ∧
      (fifoOf (serCharRx s n data true false st us) n).gapNext = true := by
  obtain ⟨p, he⟩ := serCharRx_dropped data us hon hm hd hact
  rw [he]
  obtain ⟨hgap, hloss⟩ := rxLoss_spec (irqEvent (bump (setSer s n p) (Pg.ser n) F.SER_PARITY_ERR) (Pg.ser n) 8) hn (charBytes s n data).length
  have hkept := hloss.trans (rxKept_fcUpdate _ hn)
  refine ⟨?_, hkept.raw 8 ?_, ?_, ?_⟩
  · rw [hkept.getF (by decide) (by decide), getF_bump_ne _ (regKey_off_ne (by decide)), getF_irqEvent_body _ _ _ _ (by decide) (by decide),
      getF_bump_same _ _ rfl rfl]
    rfl
  · rw [bump, setF, getW_setW_ne _ _ (regKey_off_ne (by decide))]
    exact irqEvent_raw_set _ _ (by decide)
  · rw [hkept.getF (by decide) (by decide), getF_bump_by _ _ _ rfl rfl, getF_irqEvent_body _ _ _ _ (by decide) (by decide),
      getF_bump_ne _ (regKey_off_ne (by decide))]
    rfl
  · obtain ⟨⟨b, hb⟩, -⟩ := fcUpdate_spec (rxLoss (irqEvent (bump (setSer s n p) (Pg.ser n) F.SER_PARITY_ERR) (Pg.ser n) 8) n
      (charBytes s n data).length) n
    rw [hb]
    exact hgap

/-! ## Break, character time and idle (R271) -/

/-- The port as a break finds it: a character in progress counts as a framing error. -/
def breakFound (s : State) (n : Nat) (inChar : Bool) : State :=
  if inChar then irqEvent (bump s (Pg.ser n) F.SER_FRAMING_ERR) (Pg.ser n) 8 else s

theorem serBreak_heard {s : State} {n : Nat} (inChar : Bool) (hon : serOn s n = true) (hd : serDeaf s n = false) : serBreak s n inChar =
    rxFlush (irqEvent (bump (markBroken (breakFound s n inChar) n) (Pg.ser n) F.SER_BREAKS) (Pg.ser n) 5) n := by
  simp only [serBreak, hon, hd, breakFound, Bool.not_true, Bool.or_self, Bool.false_eq_true, if_false]

theorem markBroken_regs (s : State) (n : Nat) : (markBroken s n).regs = s.regs := by
  unfold markBroken
  split <;> rfl

/-- A counter of 32 bits holds less than its wrap. -/
theorem getF_counter_mod (s : State) (p : Nat) {f : FieldD} (hw : f.w = 32) : getF s p f % 2 ^ 32 = getF s p f := by
  rw [getF, wordBits, hw, Nat.mod_mod]

theorem breakFound_spec (s : State) (n : Nat) (inChar : Bool) :
    getF (breakFound s n inChar) (Pg.ser n) F.SER_FRAMING_ERR = (getF s (Pg.ser n) F.SER_FRAMING_ERR + if inChar then 1 else 0) % 2 ^ 32 ∧
      getF (breakFound s n inChar) (Pg.ser n) F.SER_BREAKS = getF s (Pg.ser n) F.SER_BREAKS := by
  cases inChar with
  | false => exact ⟨(getF_counter_mod s _ rfl).symm, rfl⟩
  | true =>
    rw [breakFound, if_pos rfl]
    constructor
    · rw [getF_irqEvent_body _ _ _ _ (by decide) (by decide), getF_bump_same _ _ rfl rfl, if_pos rfl]
    · rw [getF_irqEvent_body _ _ _ _ (by decide) (by decide), getF_bump_ne _ (regKey_off_ne (by decide))]

/-- The character time flushes the open word. -/
theorem serTimeout_expired {s : State} {n : Nat} (hon : serOn s n = true) : serTimeout s n false = sealOpen s n := by
  simp only [serTimeout, hon, rxFlush, Bool.not_false, Bool.and_self, if_true]

/-- A start bit that meets it wins. -/
theorem serTimeout_startBit (s : State) (n : Nat) : serTimeout s n true = s := by
  simp only [serTimeout, Bool.not_true, Bool.and_false, Bool.false_eq_true, if_false]

/-- A break counts, and flushes the open word. -/
theorem serBreak_spec {s : State} {n : Nat} (inChar : Bool) (hn : n < 32) (hon : serOn s n = true) (hd : serDeaf s n = false) :
    getF (serBreak s n inChar) (Pg.ser n) F.SER_BREAKS = (getF s (Pg.ser n) F.SER_BREAKS + 1) % 2 ^ 32 ∧
      (getW (serBreak s n inChar) (Pg.ser n) 0x10).getLsbD 5 = true ∧
      getF (serBreak s n inChar) (Pg.ser n) F.SER_FRAMING_ERR = (getF s (Pg.ser n) F.SER_FRAMING_ERR + if inChar then 1 else 0) % 2 ^ 32 ∧
      (fifoOf (serBreak s n inChar) n).opened = [] := by
  rw [serBreak_heard inChar hon hd, rxFlush]
  obtain ⟨hopen, hkept⟩ := sealOpen_spec (irqEvent (bump (markBroken (breakFound s n inChar) n) (Pg.ser n) F.SER_BREAKS) (Pg.ser n) 5) hn
  obtain ⟨hframing, hbreaks⟩ := breakFound_spec s n inChar
  refine ⟨?_, hkept.raw 5 (irqEvent_raw_set _ _ (by decide)), ?_, hopen⟩
  · rw [hkept.getF (by decide) (by decide), getF_irqEvent_body _ _ _ _ (by decide) (by decide), getF_bump_same _ _ rfl rfl,
      getF_of_regs (markBroken_regs ..), hbreaks]
  · rw [hkept.getF (by decide) (by decide), getF_irqEvent_body _ _ _ _ (by decide) (by decide), getF_bump_ne _ (regKey_off_ne (by decide)),
      getF_of_regs (markBroken_regs ..), hframing]

/-- Idle fires once (R271). -/
theorem serIdle_armed {s : State} {n : Nat} (hon : serOn s n = true) (h : (serOf s n).idleArmed = true) :
    serIdle s n = irqEvent (setSer s n { serOf s n with idleArmed := false }) (Pg.ser n) 6 := by
  simp only [serIdle, hon, h, Bool.and_self, if_true]

theorem serIdle_spec {s : State} {n : Nat} (hon : serOn s n = true) (h : (serOf s n).idleArmed = true) :
    (getW (serIdle s n) (Pg.ser n) 0x10).getLsbD 6 = true ∧ serOf (serIdle s n) n = { serOf s n with idleArmed := false } ∧
      OnlyRegs (irqKeys (Pg.ser n)) s { serIdle s n with fld := s.fld } := by
  rw [serIdle_armed hon h]
  refine ⟨irqEvent_raw_set _ _ (by decide), by rw [serOf_irqEvent, serOf_setSer], SameRegs.event (s := s) (fun _ _ => rfl), ?_⟩
  have hb := beside_irqEvent (setSer s n { serOf s n with idleArmed := false }) (Pg.ser n) 6
  exact congrArg (fun t => { t with fld := s.fld }) hb

/-! ## A sealed word enters (R273) -/

theorem sealedEnter_ser {s : State} {n : Nat} {w : FWord} (hn : n < 32) (hw : (fifoOf s n).sealed = some w) (hroom : (fifoOf s n).rx.length < 128) :
    fifoOf (sealedEnter s n) n = { fifoOf s n with rx := (fifoOf s n).rx ++ [w], sealed := none } ∧
      (mirroring s = false → (sealedEnter s n).regs = s.regs ∧ beside { sealedEnter s n with fld := s.fld } = beside s) := by
  have hdepth : (fifoOf s n).rx.length < rxDepth n := by rwa [rxDepth_ser hn]
  rw [sealedEnter_room hw hdepth]
  refine ⟨by rw [fifoOf_wordMirror, fifoOf_setFifo], fun hoff => ?_⟩
  have hoff' : ∀ f, mirroring (setFifo s n f) = false := fun _ => hoff
  rw [wordMirror_off _ _ (hoff' _)]
  exact ⟨rfl, rfl⟩

/-- Settles O36: each character and line event is one case of its operation, and its words are told by the operations of the FIFO. -/
theorem serialReceives : Obligations.SerialReceives := by
  unfold Obligations.SerialReceives
  intro s n ha hn hon
  refine ⟨fun data pe fe st us hm => completes_numbered ha hn rfl ?unmarked, fun data pe fe st us hm hd => completes_numbered ha hn rfl ?echo,
    fun data st us hm hd hs hlen => completes_numbered ha hn rfl ?joins,
    fun data st us hm hd hs hlen hroom => completes_numbered ha hn rfl ?closes,
    fun data st us hm hd hact => completes_numbered ha hn rfl (serCharRx_dropped_spec (s := cleared s) data us hn hon hm hd hact),
    fun inChar hd => completes_numbered ha hn rfl (serBreak_spec (s := cleared s) inChar hn hon hd),
    fun hne hs hroom => completes_numbered ha hn rfl ?timeout, completes_numbered ha hn rfl ?start,
    fun harmed => completes_numbered ha hn rfl (serIdle_spec (s := cleared s) hon harmed),
    fun w hw hroom => completes_numbered ha hn rfl (sealedEnter_ser (s := cleared s) hn hw hroom)⟩
  case unmarked =>
    rw [serCharRx_unmarked (s := cleared s) data pe fe us hon hm]
    exact ⟨serOf_setSer .., rfl, rfl⟩
  case echo =>
    rw [serCharRx_deaf (s := cleared s) data pe fe us hon hm hd]
    exact ⟨getF_bump_same _ _ rfl rfl, SameRegs.bump (s := s) (fun _ _ => rfl) List.mem_cons_self, rfl⟩
  case joins =>
    obtain ⟨hholds, hcount, hregs⟩ := serCharRx_joins (s := cleared s) data us hn hon hm hd hs hlen
    exact ⟨hholds.opened, hholds.rx, hholds.tx, hcount, hregs⟩
  case closes =>
    have hholds := serCharRx_closes (s := cleared s) data us hn hon hm hd hs hlen hroom
    exact ⟨hholds.opened, hholds.rx⟩
  case timeout =>
    rw [serTimeout_expired (s := cleared s) hon]
    exact sealOpen_room (s := cleared s) hn hne hroom
  case start =>
    exact serTimeout_startBit ..

end Sys2Proof.Machine
end

section
/-! PROOFS. The commands of a serial port, and how it sends (R268 to R273, R275). -/

namespace Sys2Proof.Machine

/-! ## Writes of SER.CMD (R271 to R273, R275) -/

theorem isFieldPage_ser {n : Nat} (hn : n < 32) : isFieldPage (Pg.ser n) = true := by
  interval_cases n <;> rfl

/-- A write of SER.CMD is a command. -/
theorem fieldCmd_ser (s : State) {n : Nat} (hn : n < 32) (v : Word) : fieldCmd s (Pg.ser n) 0x58 v = some (ackOk, serCmd s n v) := by
  have hpwr : Pg.ser n ≠ Pg.pwr := ser_ne_ring n (by decide)
  have hser : 0x100 ≤ Pg.ser n ∧ Pg.ser n ≤ 0x11F := by simp only [Pg.ser]; omega
  have hsub : Pg.ser n - 0x100 = n := Nat.add_sub_cancel_left 0x100 n
  rw [fieldCmd, if_neg hpwr, if_pos hser, if_pos rfl, hsub]

/-- A write of SER.CMD that its page takes completes with what the command makes of the port. -/
theorem completes_serCmd {c : Instr} {s : State} {who : Agent} {n : Nat} {v : Word} {P : State → Prop} (hn : n < 32)
    (h : writeTaken s who (Pg.ser n) 0x58 v = true)
    (he : exec c s = .next (during s fun a => if n < 32 then ownWrite a who (Pg.ser n) 0x58 v else a))
    (hP : ∀ u, u.fld = (serCmd (accNext (cleared s)) n v).fld → u.regs = (serCmd (accNext (cleared s)) n v).regs → P u) : Completes c s P := by
  obtain ⟨-, -, hreach, -⟩ := writeTaken_bounds h
  simp only [writeTaken, Bool.and_eq_true] at h
  obtain ⟨⟨-, hlock⟩, -⟩ := h
  have hj := judged_command (s := accNext (cleared s)) (who := who) (by decide) (by decide) hlock
    (by rw [isFieldPage_ser hn, if_pos rfl]; exact fieldCmd_ser _ hn v)
  exact completes_write hreach he (if_pos hn) hj fun u hu hb _ => hP u (fld_of_beside hb) hu

/-- FLUSH closes the open word (R272). -/
theorem serCmd_flush (s : State) (n : Nat) : serCmd s n 1#32 = sealOpen s n := by
  simp [serCmd, rxFlush]

theorem serCmd_txBreak (s : State) (n : Nat) : serCmd s n 2#32 = serTxBreak s n := by
  simp [serCmd]

theorem serCmd_rxClear (s : State) (n : Nat) : serCmd s n 4#32 = serRxClear s n := by
  simp [serCmd]

theorem serCmd_txClear (s : State) (n : Nat) : serCmd s n 8#32 = serTxClear s n := by
  simp [serCmd]

/-- RX_CLEAR discards every receive word, and the next one opened carries GAP (R273). -/
theorem serRxClear_fifo (s : State) (n : Nat) : (fifoOf (serRxClear s n) n).rx = [] ∧ (fifoOf (serRxClear s n) n).opened = [] ∧
    (fifoOf (serRxClear s n) n).sealed = none ∧ (fifoOf (serRxClear s n) n).gapNext = true ∧
    (fifoOf (serRxClear s n) n).tx = (fifoOf s n).tx := by
  have hclear : ∃ t, fifoOf (serRxClear s n) n = fifoOf (fcUpdate t n) n ∧ fifoOf t n =
      { fifoOf s n with rx := [], opened := [], openGap := false, sealed := none, gapNext := true, holdOver := false } :=
    ⟨_, rfl, fifoOf_setFifo s n _⟩
  obtain ⟨t, hnow, ht⟩ := hclear
  obtain ⟨⟨b, hb⟩, -⟩ := fcUpdate_spec t n
  rw [hnow, hb, ht]
  exact ⟨rfl, rfl, rfl, rfl, rfl⟩

theorem serEmpty_spec (s : State) (n : Nat) : fifoOf (serEmpty s n) n = fifoOf s n ∧ SameRegs (irqKeys (Pg.ser n)) s (serEmpty s n) := by
  unfold serEmpty
  split
  · exact ⟨fifoOf_irqEvent .., SameRegs.event (.refl _ s)⟩
  · exact ⟨rfl, .refl _ s⟩

/-- TX_CLEAR with no word begun discards every transmit word and counts its bytes (R275). -/
theorem txClear_unbegun {s : State} {n : Nat} (hn : n < 32) (h : (fifoOf s n).txTaken = 0) : txClear s n true =
    bump (setFifo s n { fifoOf s n with tx := [], txGapNext := true }) (Pg.ser n) F.SER_TX_DISCARD (closedBytes (fifoOf s n).tx) := by
  have hfld : epFld n F.SER_TX_DISCARD F.BEN_TX_DISCARD = F.SER_TX_DISCARD := if_pos hn
  simp only [txClear, h, if_true, epPage_ser hn, hfld, Bool.or_true]

theorem serTxClear_spec {s : State} {n : Nat} (hn : n < 32) (h : (fifoOf s n).txTaken = 0) : (fifoOf (serTxClear s n) n).tx = [] ∧
    (fifoOf (serTxClear s n) n).txGapNext = true ∧ (fifoOf (serTxClear s n) n).rx = (fifoOf s n).rx ∧
    getF (serTxClear s n) (Pg.ser n) F.SER_TX_DISCARD = (getF s (Pg.ser n) F.SER_TX_DISCARD + closedBytes (fifoOf s n).tx) % 2 ^ 32 := by
  have hkept : fifoOf (serTxClear s n) n = fifoOf (txClear s n true) n ∧ SameRegs (irqKeys (Pg.ser n)) (txClear s n true) (serTxClear s n) := by
    unfold serTxClear
    dsimp only
    split
    · exact serEmpty_spec ..
    · exact ⟨rfl, .refl _ _⟩
  obtain ⟨hfifo, hregs⟩ := hkept
  have hdiscard : fKey (Pg.ser n) F.SER_TX_DISCARD ∉ irqKeys (Pg.ser n) := by simp [fKey, irqKeys, regKey, F.SER_TX_DISCARD]
  rw [hfifo, hregs.getF hdiscard, txClear_unbegun hn h, fifoOf_bump, fifoOf_setFifo, getF_bump_by _ _ _ rfl rfl]
  exact ⟨rfl, rfl, rfl, rfl⟩

/-! ## STAT of a serial port -/

/-- STAT shows the driver; FIFOs, outputs, CTS and the other registers stand. -/
theorem serStat_spec (s : State) (n : Nat) : (serStat s n).fld = s.fld ∧ (serStat s n).out = s.out ∧
    getB (serStat s n) (Pg.ser n) F.SER_STAT_DE = (serMode s n != 0 && (serOf s n).phase != .idle) ∧
    getB (serStat s n) (Pg.ser n) F.SER_STAT_CTS = getB s (Pg.ser n) F.SER_STAT_CTS ∧
    SameRegs [fKey (Pg.ser n) F.SER_STAT_DE] s (serStat s n) := by
  refine ⟨rfl, rfl, getB_setB_same _ _ _ _ _ (by decide) rfl, ?_, ?_⟩
  · rw [serStat, getB, getB, setB, getF_setF_apart _ _ F.SER_STAT_DE F.SER_STAT_CTS _ _ _ rfl (by decide) (by decide), setB,
      getF_setF_apart _ _ F.SER_STAT_TX_BUSY F.SER_STAT_CTS _ _ _ rfl (by decide) (by decide)]
  · exact SameRegs.setB (SameRegs.setB (f := F.SER_STAT_TX_BUSY) (.refl _ s) List.mem_cons_self) List.mem_cons_self

theorem serOf_serStat (s : State) (n : Nat) : serOf (serStat s n) n = serOf s n := rfl

/-- TX_BREAK of a port that runs: the break follows the character on the line, or begins at once (R271). -/
theorem serTxBreak_spec {s : State} {n : Nat} (hon : serOn s n = true) (h : (serOf s n).breaking = false) :
    serOf (serTxBreak s n) n = (if (serOf s n).inChar.isSome then { serOf s n with breakReq := true } else { serOf s n with breaking := true }) ∧
      fifoOf (serTxBreak s n) n = fifoOf s n := by
  simp only [serTxBreak, h, hon, Bool.not_true, Bool.or_self, Bool.false_eq_true, if_false]
  split
  · exact ⟨serOf_setSer .., rfl⟩
  · exact ⟨by rw [serOf_serStat, serOf_setSer], rfl⟩

/-! ## A character starts (R266, R269, R275) -/

/-- The oldest byte of the transmit FIFO is taken: its word goes with its last byte, and a GAP counts. -/
theorem txTake_byte {s : State} {n : Nat} {w : FWord} {ws : List FWord} {b : Byte} {more : List Byte} (hn : n < 32) (htx : (fifoOf s n).tx = w :: ws)
    (hb : w.data.drop (fifoOf s n).txTaken = b :: more) : ∃ t, txTake s n 1 = some ([b], more.isEmpty && w.last, t) ∧ t.out = s.out ∧
      serOf t n = serOf s n ∧ (fifoOf t n).tx = (if more.isEmpty then ws else w :: ws) ∧ (fifoOf t n).rx = (fifoOf s n).rx ∧
      SameRegs [fKey (Pg.ser n) F.SER_TX_GAP] s t := by
  have hdone : decide (w.data.length ≤ (fifoOf s n).txTaken + 1) = more.isEmpty := by
    have hlen := congrArg List.length hb
    rw [List.length_drop, List.length_cons] at hlen
    cases more with
    | nil => exact decide_eq_true (by rw [List.length_nil] at hlen; omega)
    | cons c cs => exact decide_eq_false (by rw [List.length_cons] at hlen; omega)
  have hfld : epFld n F.SER_TX_GAP F.BEN_TX_GAP = F.SER_TX_GAP := if_pos hn
  simp only [txTake, htx, hb, hdone, epPage_ser hn, hfld, List.take_succ_cons, List.take_zero]
  refine ⟨_, rfl, ?_, ?_, by rw [fifoOf_setFifo], by rw [fifoOf_setFifo], ?_⟩
  · split <;> rfl
  · split <;> rfl
  · split
    · exact ((SameRegs.refl _ s).bump List.mem_cons_self).of_eq rfl
    · exact fun _ _ => rfl

/-- With 8 data bits the next character is the oldest byte of the transmit FIFO. -/
theorem serStartChar_byte {s : State} {n : Nat} {w : FWord} {ws : List FWord} {b : Byte} {more : List Byte} (hn : n < 32)
    (htx : (fifoOf s n).tx = w :: ws) (hb : w.data.drop (fifoOf s n).txTaken = b :: more) (hbits : getF s (Pg.ser n) F.SER_CFG_DATA_BITS = 1) :
    (serStartChar s n).out = s.out ++ [.char n b.toNat (charLine (getW s (Pg.ser n) 0x40) b.toNat)] ∧
      serOf (serStartChar s n) n = { serOf s n with phase := .active, inChar := some (more.isEmpty && w.last) } ∧
      (fifoOf (serStartChar s n) n).tx = (if more.isEmpty then ws else w :: ws) ∧ (fifoOf (serStartChar s n) n).rx = (fifoOf s n).rx ∧
      SameRegs [fKey (Pg.ser n) F.SER_TX_GAP] s (serStartChar s n) := by
  obtain ⟨t, ht, hout, hser, htx', hrx', hregs⟩ := txTake_byte hn htx hb
  have hunit : serUnit s n = 1 := by rw [serUnit, hbits, if_neg (by decide)]
  have hval : leNat [b] % 512 = b.toNat := by
    have := b.isLt
    simp only [leNat]
    omega
  have hstart : serStartChar s n = emit (setSer t n { serOf t n with phase := .active, inChar := some (more.isEmpty && w.last) })
      (.char n b.toNat (charLine (getW s (Pg.ser n) 0x40) b.toNat)) := by
    rw [serStartChar, hunit, ht, hbits, ← hval]
    rfl
  rw [hstart, ← hout, ← hser]
  exact ⟨rfl, serOf_setSer .., htx', hrx', hregs.of_eq rfl⟩

/-- The transmitter is ready: a word may go on or begin, and neither a character nor a break is on the line or asked for. -/
structure TxReady (s : State) (n : Nat) : Prop where
  words : (fifoOf s n).tx ≠ []
  gate : txGate s n = true
  inChar : (serOf s n).inChar = none
  breaking : (serOf s n).breaking = false
  breakReq : (serOf s n).breakReq = false
  may : serMayStart s n = true

/-- A ready transmitter goes by its phase. -/
theorem serTxStart_ready {s : State} {n : Nat} (lead : Bool) (h : TxReady s n) : serTxStart s n lead =
    if (serOf s n).phase = .active ∨ (serMode s n = 0 ∧ (serOf s n).phase = .idle) then serStat (serStartChar s n) n
    else if (serOf s n).phase = .idle then serStat (setSer s n { serOf s n with phase := .lead }) n
    else if (serOf s n).phase = .lead ∧ lead = true then serStat (serStartChar s n) n
    else s := by
  have hwords : (fifoOf s n).tx.isEmpty = false := by simpa using h.words
  simp only [serTxStart, hwords, h.gate, h.inChar, h.breaking, h.breakReq, h.may, Option.isNone_none, Bool.not_false, Bool.and_self, Bool.not_true,
    Bool.false_eq_true, if_false]

/-- A transmission goes on, of a PLAIN port begins, or begins after LEAD. -/
theorem serTxStart_starts {s : State} {n : Nat} {lead : Bool} (h : TxReady s n) (hphase : (serOf s n).phase = .active ∨
    (serMode s n = 0 ∧ (serOf s n).phase = .idle) ∨ ((serOf s n).phase = .lead ∧ lead = true)) :
    serTxStart s n lead = serStat (serStartChar s n) n := by
  rw [serTxStart_ready lead h]
  rcases hphase with hactive | hplain | ⟨hlead, hover⟩
  · rw [if_pos (.inl hactive)]
  · rw [if_pos (.inr hplain)]
  · simp [hlead, hover]

/-- A port with a driver asserts DE first. -/
theorem serTxStart_leads {s : State} {n : Nat} (lead : Bool) (h : TxReady s n) (hmode : serMode s n ≠ 0) (hidle : (serOf s n).phase = .idle) :
    serTxStart s n lead = serStat (setSer s n { serOf s n with phase := .lead }) n := by
  rw [serTxStart_ready lead h, if_neg (by simp [hidle, hmode]), if_pos hidle]

/-! ## A character or a transmission ends (R269, R275) -/

/-- The port once a character has left the line. -/
def charSent (s : State) (n : Nat) : State := bump (setSer s n { serOf s n with inChar := none }) (Pg.ser n) F.SER_TX_CHARS

theorem charSent_spec (s : State) (n : Nat) : serOf (charSent s n) n = { serOf s n with inChar := none } ∧
    getF (charSent s n) (Pg.ser n) F.SER_TX_CHARS = (getF s (Pg.ser n) F.SER_TX_CHARS + 1) % 2 ^ 32 ∧
    SameRegs [fKey (Pg.ser n) F.SER_TX_CHARS] s (charSent s n) :=
  ⟨serOf_setSer .., getF_bump_same _ _ rfl rfl, SameRegs.bump (fun _ _ => rfl) List.mem_cons_self⟩

/-- The end of the last character: TX_EMPTY is set, and LAG starts or a PLAIN port is idle. -/
theorem serCharTxEnd_last {s : State} {n : Nat} {l : Bool} (hin : (serOf s n).inChar = some l) (hreq : (serOf s n).breakReq = false)
    (htx : (fifoOf s n).tx = []) : serCharTxEnd s n = serStat (serTxEnd (irqEvent (charSent s n) (Pg.ser n) 4) n) n := by
  have hempty : serEmpty (charSent s n) n = irqEvent (charSent s n) (Pg.ser n) 4 := by
    have htx' : (fifoOf (charSent s n) n).tx = [] := htx
    rw [serEmpty, (charSent_spec s n).1, htx']
    rfl
  have hnone : (fifoOf (irqEvent (charSent s n) (Pg.ser n) 4) n).tx = [] := by
    rw [fifoOf_irqEvent]
    exact htx
  simp only [serCharTxEnd, hin]
  show serStat (if ((serOf s n).breakReq && serOn (serEmpty (charSent s n) n) n) = true then _
    else if (!serOn (serEmpty (charSent s n) n) n || (fifoOf (serEmpty (charSent s n) n) n).tx.isEmpty || _) = true then
      serTxEnd (serEmpty (charSent s n) n) n
    else _) n = _
  rw [hreq, Bool.false_and, if_neg Bool.false_ne_true, hempty, hnone, List.isEmpty_nil, Bool.or_true, Bool.true_or, if_pos rfl]

theorem serCharTxEnd_spec {s : State} {n : Nat} {l : Bool} (hin : (serOf s n).inChar = some l) (hreq : (serOf s n).breakReq = false)
    (htx : (fifoOf s n).tx = []) : getF (serCharTxEnd s n) (Pg.ser n) F.SER_TX_CHARS = (getF s (Pg.ser n) F.SER_TX_CHARS + 1) % 2 ^ 32 ∧
      (getW (serCharTxEnd s n) (Pg.ser n) 0x10).getLsbD 4 = true ∧
      serOf (serCharTxEnd s n) n = { serOf s n with inChar := none, phase := if serMode s n = 0 then .idle else .lag } ∧
      SameRegs (fKey (Pg.ser n) F.SER_TX_CHARS :: fKey (Pg.ser n) F.SER_STAT_DE :: irqKeys (Pg.ser n)) s (serCharTxEnd s n) := by
  rw [serCharTxEnd_last hin hreq htx]
  obtain ⟨hser, hcount, honly⟩ := charSent_spec s n
  have hirq : SameRegs (irqKeys (Pg.ser n)) (charSent s n) (serTxEnd (irqEvent (charSent s n) (Pg.ser n) 4) n) :=
    (SameRegs.event (.refl _ _)).of_eq rfl
  obtain ⟨-, -, -, -, hstat⟩ := serStat_spec (serTxEnd (irqEvent (charSent s n) (Pg.ser n) 4) n) n
  have hmode : serMode (irqEvent (charSent s n) (Pg.ser n) 4) n = serMode s n := by
    rw [serMode, getF_irqEvent_body _ _ _ _ (by decide) (by decide), honly.getF (by simp [fKey, regKey, F.SER_TX_CHARS, F.SER_CFG_MODE])]
    rfl
  refine ⟨?_, ?_, ?_, ?_⟩
  · rw [hstat.getF (by simp [fKey, regKey, F.SER_TX_CHARS, F.SER_STAT_DE]), hirq.getF (by simp [fKey, irqKeys, regKey, F.SER_TX_CHARS]), hcount]
  · rw [hstat.getW (by simp [fKey, regKey, F.SER_STAT_DE])]
    exact irqEvent_raw_set _ _ (by decide)
  · rw [serOf_serStat, serTxEnd, serOf_setSer, serOf_irqEvent, hser, hmode]
  · exact ((honly.mono (by simp)).trans (hirq.mono (by simp +contextual))).trans (hstat.mono (by simp))

/-- After LAG the driver is released (R269). -/
theorem serDeRelease_spec {s : State} {n : Nat} (h : (serOf s n).phase = .lag) : serOf (serDeRelease s n) n = { serOf s n with phase := .idle } ∧
    getB (serDeRelease s n) (Pg.ser n) F.SER_STAT_DE = false ∧
    OnlyRegs [fKey (Pg.ser n) F.SER_STAT_DE] s { serDeRelease s n with fld := s.fld } := by
  have hrel : serDeRelease s n = serStat (setSer s n { serOf s n with phase := .idle }) n := if_pos h
  obtain ⟨-, -, hde, -, hregs⟩ := serStat_spec (setSer s n { serOf s n with phase := .idle }) n
  rw [hrel]
  refine ⟨by rw [serOf_serStat, serOf_setSer], ?_, fun k hk => hregs k hk, rfl⟩
  rw [hde, serOf_setSer]
  exact Bool.and_false _

/-! ## CTS (R270) -/

/-- The port shows CTS by its polarity. -/
def ctsShown (s : State) (n : Nat) (level : Bool) : State :=
  setB s (Pg.ser n) F.SER_STAT_CTS (level == getB s (Pg.ser n) F.SER_CFG_CTS_POL)

theorem ctsShown_spec (s : State) (n : Nat) (level : Bool) :
    getB (ctsShown s n level) (Pg.ser n) F.SER_STAT_CTS = (level == getB s (Pg.ser n) F.SER_CFG_CTS_POL) ∧
      SameRegs [fKey (Pg.ser n) F.SER_STAT_CTS] s (ctsShown s n level) :=
  ⟨getB_setB_same _ _ _ _ _ (by decide) rfl, (SameRegs.refl _ s).setB List.mem_cons_self⟩

/-- CTS starts nothing where no transmission waits for its next character. -/
theorem serCts_shown {s : State} {n : Nat} (level : Bool) (h : (serOf s n).phase = .active → (serOf s n).inChar ≠ none) :
    serCts s n level = ctsShown s n level := by
  refine if_neg ?_
  simp only [Bool.and_eq_true, beq_iff_eq, Option.isNone_iff_eq_none]
  exact fun hgo => h hgo.1.1.1.1.2 hgo.1.1.1.2

/-- Fields of pages before the serial ports do not tell CTS. -/
theorem getF_ctsShown_ring (s : State) (n : Nat) (level : Bool) {p : Nat} {f : FieldD} (hp : p < 0x100) (hf : f.off + f.stride * 0 < 0x1000) :
    getF (ctsShown s n level) p f = getF s p f :=
  getF_setF_ne _ _ _ _ _ _ (regKey_page_ne (ser_ne_ring n hp).symm (by decide) hf)

theorem txGate_ctsShown (s : State) (n : Nat) (level : Bool) : txGate (ctsShown s n level) n = txGate s n := by
  have hrole : pairRole (ctsShown s n level) = pairRole s := getF_ctsShown_ring s n level (by decide) (by decide)
  have hstate : mirState (ctsShown s n level) = mirState s := getF_ctsShown_ring s n level (by decide) (by decide)
  have hacked : ∀ m, mirAcked (ctsShown s n level) m = mirAcked s m := fun m => by
    rw [mirAcked, mirAcked, getF_ctsShown_ring s n level (by decide) (by decide)]
  have hfifo : fifoOf (ctsShown s n level) n = fifoOf s n := rfl
  simp only [txGate, mirroring, mirrorOn, hrole, hstate, hacked, hfifo]

theorem serOn_ctsShown (s : State) (n : Nat) (level : Bool) : serOn (ctsShown s n level) n = serOn s n := by
  have hrole : pairRole (ctsShown s n level) = pairRole s := getF_ctsShown_ring s n level (by decide) (by decide)
  have hpage : pageEnabled (ctsShown s n level) (Pg.ser n) = pageEnabled s (Pg.ser n) := by
    rw [pageEnabled, pageEnabled, getB, getB, (ctsShown_spec s n level).2.getF (by simp [fKey, regKey, F.PAGE_CTL_ENABLE, F.SER_STAT_CTS])]
  simp only [serOn, pairSilent, hrole, hpage]

/-- CTS that lets a waiting transmission go on starts its next character. -/
theorem serCts_goes {s : State} {n : Nat} {level : Bool} (hlevel : level = !getB s (Pg.ser n) F.SER_CFG_CTS_POL) (hgate : txGate s n = true)
    (hon : serOn s n = true) (hactive : (serOf s n).phase = .active) (hin : (serOf s n).inChar = none) (hbreak : (serOf s n).breaking = false) :
    serCts s n level = serStat (serStartChar (ctsShown s n level) n) n := by
  have hgo : (level == getB s (Pg.ser n) F.SER_CFG_CTS_POL) = false := by rw [hlevel]; exact Bool.not_beq_self _
  have hmay : serMayStart (ctsShown s n level) n = true := by
    rw [serMayStart, serOn_ctsShown, hon, (ctsShown_spec s n level).1, hgo, Bool.and_false]
    rfl
  have hgate' : txGate (ctsShown s n level) n = true := (txGate_ctsShown s n level).trans hgate
  have hser : serOf (ctsShown s n level) n = serOf s n := rfl
  refine if_pos ?_
  show (!(level == getB s (Pg.ser n) F.SER_CFG_CTS_POL) && (serOf (ctsShown s n level) n).phase == .active &&
    (serOf (ctsShown s n level) n).inChar.isNone && !(serOf (ctsShown s n level) n).breaking && serMayStart (ctsShown s n level) n &&
    txGate (ctsShown s n level) n) = true
  rw [hgo, hser, hactive, hin, hbreak, hmay, hgate']
  rfl

theorem serCts_goes_spec {s : State} {n : Nat} {level : Bool} {w : FWord} {ws : List FWord} {b : Byte} {more : List Byte} (hn : n < 32)
    (hlevel : level = !getB s (Pg.ser n) F.SER_CFG_CTS_POL) (htx : (fifoOf s n).tx = w :: ws) (hb : w.data.drop (fifoOf s n).txTaken = b :: more)
    (hgate : txGate s n = true) (hon : serOn s n = true) (hactive : (serOf s n).phase = .active) (hin : (serOf s n).inChar = none)
    (hbreak : (serOf s n).breaking = false) (hbits : getF s (Pg.ser n) F.SER_CFG_DATA_BITS = 1) :
    getB (serCts s n level) (Pg.ser n) F.SER_STAT_CTS = false ∧
      (serCts s n level).out = s.out ++ [.char n b.toNat (charLine (getW s (Pg.ser n) 0x40) b.toNat)] ∧
      serOf (serCts s n level) n = { serOf s n with inChar := some (more.isEmpty && w.last) } ∧
      (fifoOf (serCts s n level) n).tx = (if more.isEmpty then ws else w :: ws) := by
  obtain ⟨hcts, hregs⟩ := ctsShown_spec s n level
  have hcfg : getW (ctsShown s n level) (Pg.ser n) 0x40 = getW s (Pg.ser n) 0x40 := hregs.getW (by simp [fKey, regKey, F.SER_STAT_CTS])
  have hbits' : getF (ctsShown s n level) (Pg.ser n) F.SER_CFG_DATA_BITS = 1 := (getF_of_getW hcfg).trans hbits
  obtain ⟨hout, hser, htx', -, hstart⟩ := serStartChar_byte (s := ctsShown s n level) hn htx hb hbits'
  obtain ⟨-, -, -, hsame, -⟩ := serStat_spec (serStartChar (ctsShown s n level) n) n
  rw [serCts_goes hlevel hgate hon hactive hin hbreak]
  refine ⟨?_, ?_, ?_, htx'⟩
  · rw [hsame, getB, hstart.getF (by simp [fKey, regKey, F.SER_STAT_CTS, F.SER_TX_GAP]), ← getB, hcts, hlevel]
    exact Bool.not_beq_self _
  · rw [hcfg] at hout
    exact hout
  · rw [serOf_serStat, hser, ← hactive]
    rfl

/-- Settles O37: a write of SER.CMD is its command, and the transmitter goes by its phase. -/
theorem serialCommandsAndSends : Obligations.SerialCommandsAndSends := by
  unfold Obligations.SerialCommandsAndSends
  refine ⟨fun s who n hn => ⟨fun h hs hroom hne => completes_serCmd hn h rfl fun u hu _ => ?flush,
      fun h hon hbreak => completes_serCmd hn h rfl fun u hu _ => ?txBreak, fun h => completes_serCmd hn h rfl fun u hu _ => ?rxClear,
      fun h htaken => completes_serCmd hn h rfl fun u hu hr => ?txClear⟩,
    fun s n ha hn => ⟨fun w ws b more lead htx hb hgate hin hbreak hreq hmay hbits hphase => completes_numbered ha hn rfl ?starts,
      fun lead htx hgate hin hbreak hreq hmay hmode hidle => completes_numbered ha hn rfl ?leads,
      fun l hin hreq htx => completes_numbered ha hn rfl (serCharTxEnd_spec (s := cleared s) hin hreq htx),
      fun h => completes_numbered ha hn rfl (serDeRelease_spec (s := cleared s) h), fun level h => completes_numbered ha hn rfl ?cts,
      fun w ws b more htx hb hgate hon hactive hin hbreak hbits => completes_numbered ha hn rfl ?goes⟩⟩
  case flush =>
    rw [serCmd_flush] at hu
    obtain ⟨hopen, hrx, -⟩ := sealOpen_room (s := accNext (cleared s)) hn hne hroom
    rw [fifoOf_of_fld hu]
    exact ⟨hopen, hrx⟩
  case txBreak =>
    rw [serCmd_txBreak] at hu
    rw [serOf_of_fld hu, fifoOf_of_fld hu]
    exact serTxBreak_spec (s := accNext (cleared s)) hon hbreak
  case rxClear =>
    rw [serCmd_rxClear] at hu
    rw [fifoOf_of_fld hu]
    exact serRxClear_fifo (accNext (cleared s)) n
  case txClear =>
    rw [serCmd_txClear] at hu hr
    rw [fifoOf_of_fld hu, getF_of_regs hr]
    exact serTxClear_spec (s := accNext (cleared s)) hn htaken
  case starts =>
    have hne : (fifoOf s n).tx ≠ [] := by rw [htx]; exact List.cons_ne_nil _ _
    rw [serTxStart_starts (s := cleared s) ⟨hne, hgate, hin, hbreak, hreq, hmay⟩ hphase]
    obtain ⟨hout, hser, htx', hrx', hregs⟩ := serStartChar_byte (s := cleared s) hn htx hb hbits
    obtain ⟨-, -, -, -, hstat⟩ := serStat_spec (serStartChar (cleared s) n) n
    exact ⟨hout, hser, htx', hrx', (hregs.mono (by simp)).trans (hstat.mono (by simp))⟩
  case leads =>
    rw [serTxStart_leads (s := cleared s) lead ⟨htx, hgate, hin, hbreak, hreq, hmay⟩ hmode hidle]
    obtain ⟨-, -, hde, -, hregs⟩ := serStat_spec (setSer (cleared s) n { serOf (cleared s) n with phase := .lead }) n
    refine ⟨by rw [serOf_serStat, serOf_setSer]; rfl, ?_, rfl, rfl, hregs⟩
    have hmode' : (serMode s n != 0) = true := by simpa using hmode
    rw [hde, serOf_setSer]
    exact Bool.and_eq_true_iff.2 ⟨hmode', rfl⟩
  case cts =>
    rw [serCts_shown (s := cleared s) level h]
    obtain ⟨hcts, hregs⟩ := ctsShown_spec (cleared s) n level
    exact ⟨hcts, hregs, rfl⟩
  case goes =>
    exact serCts_goes_spec (s := cleared s) hn rfl htx hb hgate hon hactive hin hbreak hbits

end Sys2Proof.Machine
end

section
/-! PROOFS. When a push forms and what it carries (R278, R279). -/

namespace Sys2Proof.Machine

/-- The words that a push carries: the first one with the GAP of a push that failed (R279). -/
def pushWords (s : State) (ep : Nat) : List FWord :=
  match pushTake s ep with
  | [] => []
  | w :: r => { w with gap := w.gap || (fifoOf s ep).pushGap } :: r

theorem pushWords_length (s : State) (ep : Nat) : (pushWords s ep).length = (pushTake s ep).length := by
  unfold pushWords
  split
  · rename_i h; rw [h]
  · rename_i h; rw [h, List.length_cons, List.length_cons]

/-- A push whose reasons, depth and tag allow it is formed from the oldest words and offered to the ring die. -/
theorem pushForm_formed {s : State} {ep tag : Nat} (hon : pushOn s ep = true) (hdue : pushDue s ep = true)
    (hdepth : (openPushes s ep).length < getF s (epPage ep) (epFld ep F.SER_PUSH_CFG_DEPTH F.BEN_PUSH_CFG_DEPTH))
    (htag : lowestFree (s.fld.pushes.map (·.tag)) 704 1024 = some tag) : PushFormed s (pushForm s ep) ep tag := by
  unfold pushForm
  simp only [hon, hdue, hdepth, htag, decide_true, Bool.and_self, Bool.not_true, Bool.false_eq_true, if_false]
  exact ⟨_, rfl, rfl, rfl, pushWords_length s ep, rfl, rfl, rfl, rfl, rfl, rfl⟩

/-- The endpoint once HOLD has passed. -/
def heldOver (s : State) (ep : Nat) : State := setFifo s ep { fifoOf s ep with holdOver := true }

theorem fifoOf_heldOver (s : State) (ep : Nat) : fifoOf (heldOver s ep) ep = { fifoOf s ep with holdOver := true } := fifoOf_setFifo ..

theorem freeWords_heldOver (s : State) (ep : Nat) : freeWords (heldOver s ep) ep = freeWords s ep := by
  rw [freeWords, fifoOf_heldOver]
  rfl

/-- HOLD makes a push due with fewer words than MAX_WORDS. -/
theorem pushDue_heldOver {s : State} {ep : Nat} (h : freeWords s ep ≠ []) : pushDue (heldOver s ep) ep = true := by
  have hsome : (freeWords s ep).isEmpty = false := by simpa using h
  simp only [pushDue, freeWords_heldOver, fifoOf_heldOver, hsome, Bool.or_true, Bool.not_false, Bool.and_self]

/-- That HOLD has passed bears on nothing that a push carries. -/
theorem PushFormed.of_heldOver {s u : State} {ep tag : Nat} (h : PushFormed (heldOver s ep) u ep tag) : PushFormed s u ep tag := by
  have htake : pushTake (heldOver s ep) ep = pushTake s ep := by
    rw [pushTake, freeWords_heldOver]
    rfl
  unfold PushFormed at h
  rw [htake, freeWords_heldOver, fifoOf_heldOver] at h
  exact h

/-- PUSH_HOLD_EXPIRE (R278). -/
theorem pushHold_formed {s : State} {ep tag : Nat} (hon : pushOn s ep = true) (hfree : freeWords s ep ≠ [])
    (hdepth : (openPushes s ep).length < getF s (epPage ep) (epFld ep F.SER_PUSH_CFG_DEPTH F.BEN_PUSH_CFG_DEPTH))
    (htag : lowestFree (s.fld.pushes.map (·.tag)) 704 1024 = some tag) : PushFormed s (pushHold s ep) ep tag := by
  have hhold : pushHold s ep = pushForm (heldOver s ep) ep := if_pos (by simpa using hfree)
  rw [hhold]
  exact (pushForm_formed (s := heldOver s ep) hon (pushDue_heldOver hfree) hdepth htag).of_heldOver

/-- Settles O38: a push that is due forms from the oldest words, and HOLD makes it due. -/
theorem pushesForm : Obligations.PushesForm := by
  unfold Obligations.PushesForm
  intro s ep tag ha hep hon hdepth htag
  exact ⟨fun hdue => completes_numbered ha hep rfl (pushForm_formed (s := cleared s) hon hdue hdepth htag),
    fun hfree => completes_numbered ha hep rfl (pushHold_formed (s := cleared s) hon hfree hdepth htag)⟩

end Sys2Proof.Machine
end

section
/-! PROOFS. The benches: what their updates leave alone, and what their FIFOs' operations leave alone (R285, R287, R290, R295). -/

namespace Sys2Proof.Machine

/-! ## Fields of one page -/

/-- Two fields share no bit: they stand in different registers, or apart in one. -/
def fieldsApart (f g : FieldD) : Bool :=
  g.off / 4 != f.off / 4 || (g.off == f.off && decide (g.lo + g.w ≤ 32) && (decide (f.lo + f.w ≤ g.lo) || decide (g.lo + g.w ≤ f.lo)))

/-- A field of the same page that shares no bit keeps its value. -/
theorem getF_setF_clear (s : State) (p v : Nat) {f g : FieldD} (h : fieldsApart f g = true) : getF (setF s p f v) p g = getF s p g := by
  simp only [fieldsApart, Bool.or_eq_true, Bool.and_eq_true, bne_iff_ne, beq_iff_eq, decide_eq_true_eq] at h
  rcases h with hword | ⟨⟨hoff, hwidth⟩, hbits⟩
  · exact getF_setF_ne _ _ _ _ _ _ (regKey_off_ne (by simpa using hword))
  · exact getF_setF_apart _ _ _ _ _ _ _ (by simpa using hoff) hbits hwidth

/-- A field of a register past the header that is no ERR register keeps its value when its page notes an error. -/
theorem getF_noteErr_body (s : State) (p st c r : Nat) {g : FieldD} (h : 0x40 ≤ g.off + g.stride * 0) :
    getF (noteErr s p st c r) p g = getF s p g := by
  refine ((SameRegs.refl (errKeys p) s).noteErr fun _ hk => hk).getF ?_
  simp only [errKeys, fKey, regKey, List.mem_cons, List.not_mem_nil, or_false]
  omega

/-- Sources that are set stay set when their page notes an error. -/
theorem noteErr_raw_mono {s : State} {p i : Nat} (st c r : Nat) (h : (getW s p 0x10).getLsbD i = true) :
    (getW (noteErr s p st c r) p 0x10).getLsbD i = true := by
  have hcount : (getW (irqEvent (bumpSat s p F.ERR_COUNT_COUNT) p 1) p 0x10).getLsbD i = true := by
    refine irqEvent_raw_mono 1 ?_
    rwa [bumpSat, setF, getW_setW_ne _ _ (regKey_off_ne (by decide))]
  unfold noteErr recordErr
  dsimp only
  split
  · exact hcount
  · rwa [getW_setW_ne _ _ (regKey_off_ne (by decide))]

/-- Field writes past the header leave IRQ_RAW alone. -/
theorem getW_setF_header (s : State) (p v : Nat) {f : FieldD} {o : Nat} (h : 0x40 ≤ f.off + f.stride * 0) (ho : o < 0x40) :
    getW (setF s p f v) p o = getW s p o :=
  getW_setW_ne _ _ (regKey_off_ne (by omega))

/-! ## Reads of a bench -/

@[simp] theorem benOf_setBen (s : State) (n : Nat) (b : BenSt) : benOf (setBen s n b) n = b := by simp [benOf, setBen]

theorem benOf_setBen_ne (s : State) {m n : Nat} (b : BenSt) (h : n ≠ m) : benOf (setBen s m b) n = benOf s n := by
  simp only [benOf, setBen, tabGet_tabSet_ne _ _ h]

theorem benOf_of_ben {s t : State} (h : t.fld.ben = s.fld.ben) (n : Nat) : benOf t n = benOf s n := by simp only [benOf, h]
theorem benOf_of_fld {s t : State} (h : t.fld = s.fld) (n : Nat) : benOf t n = benOf s n := benOf_of_ben (congrArg _ h) n

@[simp] theorem benOf_irqEvent (s : State) (p b n : Nat) : benOf (irqEvent s p b) n = benOf s n := benOf_of_fld (irqEvent_fld ..) n

theorem benRun_of_regs {s t : State} (h : t.regs = s.regs) (n : Nat) : benRun t n = benRun s n := getF_of_regs h ..

/-- The pages of the benches lie behind those of the ring die. -/
theorem ben_ne_ring {p : Nat} (n : Nat) (hp : p < 0x100) : Pg.ben n ≠ p := by simp only [Pg.ben]; omega

theorem epPage_ben (n : Nat) : epPage (32 + n) = Pg.ben n := by
  rw [epPage, if_neg (by omega), Nat.add_sub_cancel_left]

theorem epFld_ben (n : Nat) (fs fb : FieldD) : epFld (32 + n) fs fb = fb := if_neg (by omega)
theorem rxDepth_ben (n : Nat) : rxDepth (32 + n) = 256 := if_neg (by omega)
theorem txDepth_ben (n : Nat) : txDepth (32 + n) = 256 := if_neg (by omega)

/-- A bench latches no message stamps. -/
theorem msgLatch_ben (s : State) (n : Nat) : msgLatch s (32 + n) = s := if_neg (by omega)

/-- A field of a page of the ring die beside an update of a bench's page. -/
theorem getF_setF_ring (s : State) (n v : Nat) {p : Nat} {f g : FieldD} (hp : p < 0x100) (hf : f.off + f.stride * 0 < 0x1000)
    (hg : g.off + g.stride * 0 < 0x1000) : getF (setF s (Pg.ben n) g v) p f = getF s p f :=
  getF_setF_ne _ _ _ _ _ _ (regKey_page_ne (ben_ne_ring n hp).symm hg hf)

/-! ## The FIFO actions of a bench -/

/-- The registers of a bench's page that its FIFOs write: their counters and the interrupt registers. -/
def benFifoKeys (n : Nat) : List Nat := fKey (Pg.ben n) F.BEN_RX_LOST :: fKey (Pg.ben n) F.BEN_TX_GAP :: irqKeys (Pg.ben n)

/-- What the FIFO actions of bench `n` leave alone: registers but `benFifoKeys` and those of page MIR, the benches' own state, and the time. -/
structure FifoKept (n : Nat) (s t : State) : Prop where
  regs : ∀ k, k ∉ benFifoKeys n → k / 1024 ≠ Pg.mir → tabGet t.regs k = tabGet s.regs k
  ben : t.fld.ben = s.fld.ben
  time : t.time = s.time
  cul : t.cul = s.cul

theorem FifoKept.refl (n : Nat) (s : State) : FifoKept n s s := ⟨fun _ _ _ => rfl, rfl, rfl, rfl⟩

theorem FifoKept.trans {n : Nat} {s t u : State} (a : FifoKept n s t) (b : FifoKept n t u) : FifoKept n s u :=
  ⟨fun k hk hm => (b.regs k hk hm).trans (a.regs k hk hm), b.ben.trans a.ben, b.time.trans a.time, b.cul.trans a.cul⟩

theorem FifoKept.setFifo {n ep : Nat} {s t : State} {f : FifoSt} (a : FifoKept n s t) : FifoKept n s (setFifo t ep f) :=
  ⟨a.regs, a.ben, a.time, a.cul⟩

theorem FifoKept.irqEvent {n : Nat} {s t : State} {b : Nat} (a : FifoKept n s t) : FifoKept n s (irqEvent t (Pg.ben n) b) :=
  a.trans ⟨fun k hk _ => (SameRegs.refl (benFifoKeys n) t).irqEvent (by simp [benFifoKeys, irqKeys]) (by simp [benFifoKeys, irqKeys]) k hk,
    congrArg _ (irqEvent_fld ..), irqEvent_time .., irqEvent_cul ..⟩

theorem FifoKept.bump {n k : Nat} {s t : State} {f : FieldD} (a : FifoKept n s t) (h : fKey (Pg.ben n) f ∈ benFifoKeys n) :
    FifoKept n s (bump t (Pg.ben n) f k) :=
  a.trans ⟨fun k hk _ => (SameRegs.refl (benFifoKeys n) t).bump h k hk, rfl, rfl, rfl⟩

/-- A field of the bench that its FIFOs do not count in. -/
theorem FifoKept.getF {n : Nat} {s t : State} (a : FifoKept n s t) {f : FieldD} (h : (f.off + f.stride * 0) / 4 ∉ [4, 6, 0x2B, 0x2C])
    (ho : f.off + f.stride * 0 < 0x1000) : getF t (Pg.ben n) f = getF s (Pg.ben n) f := by
  have hpage : regKey (Pg.ben n) (f.off + f.stride * 0) / 1024 ≠ Pg.mir := by
    rw [(regKey_split ho).1]
    exact ben_ne_ring n (by decide)
  have hkey : regKey (Pg.ben n) (f.off + f.stride * 0) ∉ benFifoKeys n := by
    simp only [benFifoKeys, irqKeys, fKey, regKey, F.BEN_RX_LOST, F.BEN_TX_GAP, List.mem_cons, List.not_mem_nil, or_false] at h ⊢
    omega
  rw [Machine.getF, Machine.getF, getW, getW, a.regs _ hkey hpage]

/-- A field of a page of the ring die other than MIR. -/
theorem FifoKept.getF_ring {n p : Nat} {s t : State} (a : FifoKept n s t) {f : FieldD} (hp : p < 0x100) (hm : p ≠ Pg.mir)
    (ho : f.off + f.stride * 0 < 0x1000) : Machine.getF t p f = Machine.getF s p f := by
  have hpage : regKey p (f.off + f.stride * 0) / 1024 = p := (regKey_split ho).1
  have hkey : regKey p (f.off + f.stride * 0) ∉ benFifoKeys n := by
    simp only [benFifoKeys, irqKeys, fKey, regKey, Pg.ben, F.BEN_RX_LOST, F.BEN_TX_GAP, List.mem_cons, List.not_mem_nil, or_false]
    omega
  rw [Machine.getF, Machine.getF, getW, getW, a.regs _ hkey (by rwa [hpage])]

theorem fifoKept_wordMirror (n : Nat) (s : State) (ep : Nat) (w : FWord) : FifoKept n s (wordMirror s ep w) := by
  obtain ⟨hfld, hpages⟩ := wordMirror_spec s ep w
  refine ⟨fun k _ hm => hpages k (by simpa using hm), congrArg _ hfld, ?_, ?_⟩ <;>
    (unfold wordMirror mirrorNote mirrorPush; split <;> rfl)

theorem fifoKept_sealedEnter (n : Nat) (s : State) : FifoKept n s (sealedEnter s (32 + n)) := by
  unfold sealedEnter
  dsimp only
  split
  · split
    · exact .trans (t := setFifo s (32 + n) _) (FifoKept.refl n s).setFifo (fifoKept_wordMirror ..)
    · exact .refl n s
  · exact .refl n s

theorem fifoKept_sealOpen (n : Nat) (s : State) : FifoKept n s (sealOpen s (32 + n)) := by
  unfold sealOpen
  dsimp only
  rw [msgLatch_ben]
  split
  · exact .refl n s
  · exact .trans (t := setFifo s (32 + n) _) (FifoKept.refl n s).setFifo (fifoKept_sealedEnter ..)

theorem fifoKept_rxLoss (n : Nat) (s : State) (k : Nat) : FifoKept n s (rxLoss s (32 + n) k) := by
  unfold rxLoss
  dsimp only
  rw [epPage_ben, epFld_ben]
  have hcount : FifoKept n s (bump s (Pg.ben n) F.BEN_RX_LOST k) := (FifoKept.refl n s).bump (by simp [benFifoKeys])
  exact (hcount.irqEvent.trans (fifoKept_sealOpen ..)).setFifo

theorem fifoKept_fcUpdate (n : Nat) (s : State) : FifoKept n s (fcUpdate s (32 + n)) := by
  unfold fcUpdate
  dsimp only
  rw [epPage_ben]
  split
  · exact (FifoKept.refl n s).setFifo.irqEvent
  · split
    · exact (FifoKept.refl n s).setFifo
    · exact .refl n s

/-- A unit that a bench pushes. -/
theorem fifoKept_rxUnit (n : Nat) (s : State) (bs : List Byte) : FifoKept n s (rxUnit s (32 + n) bs) := by
  unfold rxUnit
  dsimp only
  refine FifoKept.trans ?_ (fifoKept_fcUpdate ..)
  split
  · exact fifoKept_rxLoss ..
  · split
    · exact (FifoKept.refl n s).setFifo
    · split
      · exact (FifoKept.refl n s).setFifo
      · exact .trans (t := setFifo s (32 + n) _) (FifoKept.refl n s).setFifo (fifoKept_wordMirror ..)

/-- A unit that a bench pops. -/
theorem fifoKept_txTake {n : Nat} {s : State} {k : Nat} {r : List Byte × Bool × State} (h : txTake s (32 + n) k = some r) : FifoKept n s r.2.2 := by
  unfold txTake at h
  dsimp only at h
  rw [epPage_ben, epFld_ben] at h
  split at h
  · cases h
  · obtain rfl := Option.some.inj h
    refine FifoKept.setFifo ?_
    split
    · exact (FifoKept.refl n s).bump (by simp [benFifoKeys])
    · exact .refl n s

/-- What a bench's stop changes (R290, R291). -/
theorem benStop_regs (s : State) (n why : Nat) : SameRegs (fKey (Pg.ben n) F.BEN_STAT_STOP_WHY :: irqKeys (Pg.ben n)) s (benStop s n why) := by
  unfold benStop
  dsimp only
  split
  · exact .refl _ s
  · refine (SameRegs.setF (SameRegs.setF (SameRegs.setF (.refl _ s) ?_) ?_) ?_).irqEvent ?_ ?_ <;>
      simp [fKey, irqKeys, F.BEN_STAT_STOP_WHY, F.BEN_STAT_STALL_ON, F.BEN_STAT_RUN_STATE]

theorem benStop_raw_mono {s : State} {n i : Nat} (why : Nat) (h : (getW s (Pg.ben n) 0x10).getLsbD i = true) :
    (getW (benStop s n why) (Pg.ben n) 0x10).getLsbD i = true := by
  unfold benStop
  dsimp only
  split
  · exact h
  · refine irqEvent_raw_mono 3 ?_
    simpa (disch := decide) only [getW_setF_header] using h

theorem benStop_fld (s : State) (n why : Nat) : (benStop s n why).fld = s.fld := by
  unfold benStop
  dsimp only
  split
  · rfl
  · rw [irqEvent_fld]; rfl

end Sys2Proof.Machine
end

section
/-! PROOFS. What an entry of a bench's table does: ticks, events, stalls and stops (R285 to R291, R294, R297). -/

namespace Sys2Proof.Machine

/-! ## An entry applies (R285, R297) -/

/-- The bench `b` has taken its step with entry `e`: shift register, count, next state and RUNNING, and the step counts. -/
def benStepped (s : State) (n : Nat) (e : Word) (b : BenSt) (sr cnt : Nat) : State :=
  bump (setF (setF (setF (setF (setF (setBen s n b) (Pg.ben n) F.BEN_SR_SR sr) (Pg.ben n) F.BEN_COUNT_COUNT cnt)
    (Pg.ben n) F.BEN_STATE_STATE (wordBits e 16 6)) (Pg.ben n) F.BEN_STAT_RUN_STATE 1) (Pg.ben n) F.BEN_STAT_STALL_ON 0) (Pg.ben n) F.BEN_STEPS

/-- EVENT latches the stamp, the state and the index (R297). -/
def benEvent (s : State) (n idx : Nat) : State :=
  let a := setF (setF (setF s (Pg.ben n) F.BEN_EVT_STAMP_STAMP (stamp32 (fieldNs s))) (Pg.ben n) F.BEN_EVT_INFO_STATE (idx / 16))
    (Pg.ben n) F.BEN_EVT_INFO_INDEX idx
  irqEvent (bump (setB a (Pg.ben n) F.BEN_EVT_INFO_UNSYNC (!fieldSync a)) (Pg.ben n) F.BEN_EVENTS) (Pg.ben n) 2

/-- What comes last of an entry: its event, and its stop. -/
def benEnd (s : State) (n : Nat) (e : Word) (idx : Nat) : State :=
  if wordBits e 26 2 = 3 then benStop (if e.getLsbD 28 then benEvent s n idx else s) n 2 else if e.getLsbD 28 then benEvent s n idx else s

/-- An entry applies in three parts: its FIFO actions, its step, and what comes last. -/
theorem benApply_parts (s : State) (n : Nat) (e : Word) (sin : Bool) : ∃ t b sr cnt, FifoKept n s t ∧
    benApply s n e sin = benEnd (benStepped t n e b sr cnt) n e (getF s (Pg.ben n) F.BEN_STAT_INDEX) := by
  unfold benApply
  extract_lets pg idx w u lsb shift fifo sr0 shiftOut sout sr1 cnt1 s1 pop s2 sr2 cnt2 s3 s4
  refine ⟨s4, _, sr2, cnt2, ?_, rfl⟩
  have h1 : FifoKept n s s1 := by
    simp only [s1]
    split
    · exact fifoKept_rxUnit ..
    · exact .refl n s
  have h2 : FifoKept n s s2 := by
    have hpop : ∀ r, pop = some r → FifoKept n s1 r.2.2 := fun r hr => by
      simp only [pop] at hr
      split at hr
      · exact fifoKept_txTake hr
      · cases hr
    simp only [s2]
    clear_value pop
    cases pop with
    | none => exact h1
    | some r => exact h1.trans (hpop r rfl)
  have h3 : FifoKept n s s3 := by
    simp only [s3]
    split
    · exact h2.irqEvent
    · exact h2
  simp only [s4]
  split
  · exact h3.trans (fifoKept_sealOpen ..)
  · exact h3

/-- The step leaves every field of the bench's page that shares no bit with those it writes. -/
theorem getF_benStepped (s : State) (n : Nat) (e : Word) (b : BenSt) (sr cnt : Nat) {f : FieldD}
    (h : ∀ g ∈ [F.BEN_SR_SR, F.BEN_COUNT_COUNT, F.BEN_STATE_STATE, F.BEN_STAT_RUN_STATE, F.BEN_STAT_STALL_ON, F.BEN_STEPS], fieldsApart g f = true) :
    getF (benStepped s n e b sr cnt) (Pg.ben n) f = getF s (Pg.ben n) f := by
  simp only [List.forall_mem_cons] at h
  obtain ⟨hsr, hcount, hstate, hrun, hstall, hsteps, -⟩ := h
  rw [benStepped, bump, getF_setF_clear _ _ _ hsteps, getF_setF_clear _ _ _ hstall, getF_setF_clear _ _ _ hrun, getF_setF_clear _ _ _ hstate,
    getF_setF_clear _ _ _ hcount, getF_setF_clear _ _ _ hsr]
  rfl

/-- The step writes no page of the ring die. -/
theorem getF_benStepped_ring (s : State) (n : Nat) (e : Word) (b : BenSt) (sr cnt : Nat) {p : Nat} {f : FieldD} (hp : p < 0x100)
    (hf : f.off + f.stride * 0 < 0x1000) : getF (benStepped s n e b sr cnt) p f = getF s p f := by
  simp (disch := decide) only [benStepped, bump, getF_setF_ring _ _ _ hp hf]
  rfl

/-- The fields that an event latches or counts (R297). -/
def eventFields : List FieldD :=
  [F.BEN_EVT_STAMP_STAMP, F.BEN_EVT_INFO_STATE, F.BEN_EVT_INFO_INDEX, F.BEN_EVT_INFO_UNSYNC, F.BEN_EVENTS]

theorem eventFields_apart : ∀ f ∈ eventFields,
    (∀ g ∈ [F.BEN_SR_SR, F.BEN_COUNT_COUNT, F.BEN_STATE_STATE, F.BEN_STAT_RUN_STATE, F.BEN_STAT_STALL_ON, F.BEN_STEPS], fieldsApart g f = true) ∧
      fieldsApart F.BEN_STAT_INDEX f = true ∧ (f.off + f.stride * 0) / 4 ∉ [4, 6, 0x2B, 0x2C] ∧ f.off + f.stride * 0 < 0x1000 := by
  decide

/-- A field past the header that shares no register with BEN.STAT stands through a stop. -/
theorem getF_benStop (s : State) (n why : Nat) {f : FieldD} (h : (f.off + f.stride * 0) / 4 ∉ [4, 6, 0x12]) :
    getF (benStop s n why) (Pg.ben n) f = getF s (Pg.ben n) f := by
  refine (benStop_regs s n why).getF ?_
  simp only [fKey, irqKeys, regKey, F.BEN_STAT_STOP_WHY, List.mem_cons, List.not_mem_nil, or_false] at h ⊢
  omega

/-- A stop after the step leaves what `benEvent` latched. -/
theorem getF_benEnd (s : State) (n : Nat) (e : Word) (idx : Nat) {f : FieldD} (h : f ∈ eventFields) :
    getF (benEnd s n e idx) (Pg.ben n) f = getF (if e.getLsbD 28 then benEvent s n idx else s) (Pg.ben n) f := by
  have hoff : ∀ f ∈ eventFields, (f.off + f.stride * 0) / 4 ∉ [4, 6, 0x12] := by decide
  unfold benEnd
  split
  · exact getF_benStop _ _ _ (hoff f h)
  · rfl

/-- What an event latches (R236, R297). -/
theorem benEvent_spec (s : State) (n : Nat) {idx : Nat} (hidx : idx < 1024) :
    getF (benEvent s n idx) (Pg.ben n) F.BEN_EVT_STAMP_STAMP = stamp32 (fieldNs s) ∧
      getF (benEvent s n idx) (Pg.ben n) F.BEN_EVT_INFO_STATE = idx / 16 ∧ getF (benEvent s n idx) (Pg.ben n) F.BEN_EVT_INFO_INDEX = idx ∧
      getB (benEvent s n idx) (Pg.ben n) F.BEN_EVT_INFO_UNSYNC = !fieldSync s ∧
      getF (benEvent s n idx) (Pg.ben n) F.BEN_EVENTS = (getF s (Pg.ben n) F.BEN_EVENTS + 1) % 2 ^ 32 ∧
      (getW (benEvent s n idx) (Pg.ben n) 0x10).getLsbD 2 = true := by
  have hsync : fieldSync (setF (setF (setF s (Pg.ben n) F.BEN_EVT_STAMP_STAMP (stamp32 (fieldNs s))) (Pg.ben n) F.BEN_EVT_INFO_STATE (idx / 16))
      (Pg.ben n) F.BEN_EVT_INFO_INDEX idx) = fieldSync s := by
    simp (disch := decide) only [fieldSync, getB, getF_setF_ring]; rfl
  simp only [benEvent, hsync]
  refine ⟨?_, ?_, ?_, ?_, ?_, irqEvent_raw_set _ _ (by decide)⟩
  · simp (disch := decide) only [getF_irqEvent_body, bump, setB, getF_setF_clear, getF_setF_same]
    exact Nat.mod_mod ..
  · simp (disch := decide) only [getF_irqEvent_body, bump, setB, getF_setF_clear, getF_setF_same]
    exact Nat.mod_eq_of_lt (show idx / 16 < 64 by omega)
  · simp (disch := decide) only [getF_irqEvent_body, bump, setB, getF_setF_clear, getF_setF_same]
    exact Nat.mod_eq_of_lt hidx
  · rw [getB, getF_irqEvent_body _ _ _ _ (by decide) (by decide), bump, getF_setF_clear _ _ _ (by decide), ← getB]
    exact getB_setB_same _ _ _ _ _ (by decide) rfl
  · rw [getF_irqEvent_body _ _ _ _ (by decide) (by decide), getF_bump_same _ _ rfl rfl]
    simp (disch := decide) only [setB, getF_setF_clear]

/-! ## What an entry waits for (R289) -/

/-- What a bench's STAT shows bears on no FIFO action. -/
theorem benBlocked_setF_index (s : State) (n v : Nat) (e : Word) : benBlocked (setF s (Pg.ben n) F.BEN_STAT_INDEX v) n e = benBlocked s n e := by
  have hgate : txGate (setF s (Pg.ben n) F.BEN_STAT_INDEX v) (32 + n) = txGate s (32 + n) := by
    have hfifo : fifoOf (setF s (Pg.ben n) F.BEN_STAT_INDEX v) (32 + n) = fifoOf s (32 + n) := rfl
    simp (disch := decide) only [txGate, hfifo, mirroring, mirrorOn, mirState, mirAcked, pairRole, getF_setF_ring]
  have hroom : ∀ k, rxRoom (setF s (Pg.ben n) F.BEN_STAT_INDEX v) (32 + n) k = rxRoom s (32 + n) k := fun _ => rfl
  have htx : fifoOf (setF s (Pg.ben n) F.BEN_STAT_INDEX v) (32 + n) = fifoOf s (32 + n) := rfl
  have hunit : benUnit (setF s (Pg.ben n) F.BEN_STAT_INDEX v) n = benUnit s n := by
    rw [benUnit, getF_setF_clear _ _ _ (by decide), benUnit]
  have hact : getB (setF s (Pg.ben n) F.BEN_STAT_INDEX v) (Pg.ben n) F.BEN_CTL_FULL_ACT = getB s (Pg.ben n) F.BEN_CTL_FULL_ACT := by
    rw [getB, getF_setF_clear _ _ _ (by decide), getB]
  rw [benBlocked, hact, hunit, hroom, htx, hgate, benBlocked]

/-! ## Ticks (R285, R294) -/

/-- A table has 64 states of 16 entries. -/
theorem tickIndex_lt (s : State) (n : Nat) : tickIndex s n < 1024 := by
  have hstate : getF s (Pg.ben n) F.BEN_STATE_STATE < 64 := Nat.mod_lt _ (by decide)
  unfold tickIndex
  dsimp only
  split_ifs <;> omega

/-- The bench has found its entry's index. -/
def benIndexed (s : State) (n : Nat) : State := setF s (Pg.ben n) F.BEN_STAT_INDEX (tickIndex s n)

theorem getF_benIndexed (s : State) (n : Nat) : getF (benIndexed s n) (Pg.ben n) F.BEN_STAT_INDEX = tickIndex s n :=
  (getF_setF_same _ _ _ _ _ (by decide)).trans (Nat.mod_eq_of_lt (tickIndex_lt s n))

theorem benRun_benIndexed (s : State) (n : Nat) : benRun (benIndexed s n) n = benRun s n := getF_setF_clear _ _ _ (by decide)

/-- The entry whose parity is bad stops its bench (R294). -/
def benParity (s : State) (n : Nat) : State :=
  faultLog (noteErr (benStop (setB (benIndexed s n) (Pg.ben n) F.BEN_ERR_TABLE_PARITY true) n 4) (Pg.ben n) 0 0x43 0) 7 n (Pg.ben n) (tickIndex s n)

/-- The level that a running bench shifts in (R285). -/
def benSin (s : State) (n : Nat) : Bool := benSelect s n (getF s (Pg.ben n) F.BEN_SHIFT_CFG_SIN_SEL)

theorem benTick_stopped {s : State} {n : Nat} (h : benRun s n = 0) : benTick s n none = s := by
  simp only [benTick, h, if_true]

theorem benTick_stalled {s : State} {n : Nat} (h : benRun s n = 2) : benTick s n none = benTake s n (benOf s n).heldEntry (benOf s n).heldSin := by
  simp only [benTick, h, if_true, if_neg (show ¬ 2 = 0 by decide)]

/-- A running bench goes by the entry at its index. -/
theorem benTick_running {s : State} {n : Nat} (h : benRun s n = 1) : benTick s n none =
    if (benOf s n).badParity.contains (tickIndex s n) then benParity s n
    else benTake (benIndexed s n) n (benEntry s n (tickIndex s n)) (benSin s n) := by
  have h0 : ¬ benRun s n = 0 := by omega
  have h2 : ¬ benRun s n = 2 := by omega
  unfold benTick
  dsimp only
  rw [if_neg h0, if_neg h2]
  rfl

/-- Where nothing blocks its entry, a bench that runs or stalls applies it. -/
theorem benTick_applies {s : State} {n idx : Nat} {e : Word} (h : benRun s n = 1 ∧ idx = tickIndex s n ∧ e = benEntry s n idx ∧
      (benOf s n).badParity.contains idx = false ∨ benRun s n = 2 ∧ idx = getF s (Pg.ben n) F.BEN_STAT_INDEX ∧ e = (benOf s n).heldEntry)
    (hfree : benBlocked s n e = 0) : ∃ t sin, benTick s n none = benApply t n e sin ∧ getF t (Pg.ben n) F.BEN_STAT_INDEX = idx ∧
      (t = s ∨ t = benIndexed s n) := by
  rcases h with ⟨hrun, rfl, rfl, hparity⟩ | ⟨hrun, rfl, rfl⟩
  · refine ⟨benIndexed s n, benSin s n, ?_, getF_benIndexed s n, .inr rfl⟩
    have hfree' : benBlocked (benIndexed s n) n (benEntry s n (tickIndex s n)) = 0 := (benBlocked_setF_index ..).trans hfree
    rw [benTick_running hrun, hparity, if_neg Bool.false_ne_true, benTake, if_pos hfree']
  · exact ⟨s, _, by rw [benTick_stalled hrun, benTake, if_pos hfree], rfl, .inl rfl⟩

/-- What stands before a tick's event is what stood before the tick. -/
theorem benTick_before {s t u : State} {n : Nat} (ht : t = s ∨ t = benIndexed s n) (hu : FifoKept n t u) (e : Word) (b : BenSt) (sr cnt : Nat) :
    (∀ f ∈ eventFields, getF (benStepped u n e b sr cnt) (Pg.ben n) f = getF s (Pg.ben n) f) ∧
      fieldNs (benStepped u n e b sr cnt) = fieldNs s ∧ fieldSync (benStepped u n e b sr cnt) = fieldSync s := by
  have htime : t.time = s.time := by rcases ht with rfl | rfl <;> rfl
  have hcul : t.cul = s.cul := by rcases ht with rfl | rfl <;> rfl
  refine ⟨fun f hf => ?_, ?_, ?_⟩
  · obtain ⟨hstep, hindex, hfifo, hoff⟩ := eventFields_apart f hf
    rw [getF_benStepped _ _ _ _ _ _ hstep, hu.getF hfifo hoff]
    rcases ht with rfl | rfl
    · rfl
    · exact getF_setF_clear _ _ _ hindex
  · have hsame : (benStepped u n e b sr cnt).time = s.time := hu.time.trans htime
    rw [fieldNs, fieldNs, hsame]
  · have hwait : (benStepped u n e b sr cnt).cul = s.cul := hu.cul.trans hcul
    have hflag : getF (benStepped u n e b sr cnt) Pg.tmk F.TMK_STAT_FIELD_SYNC = getF s Pg.tmk F.TMK_STAT_FIELD_SYNC := by
      rw [getF_benStepped_ring _ _ _ _ _ _ (by decide) (by decide), hu.getF_ring (by decide) (by decide) (by decide)]
      rcases ht with rfl | rfl
      · rfl
      · exact getF_setF_ring _ _ _ (by decide) (by decide) (by decide)
    rw [fieldSync, fieldSync, getB, getB, hflag, hwait]

/-- Settles O11: an entry's FIFO actions and its step leave the event latch alone, and its event latches before it stops the bench. -/
theorem benchEventsLatch : Obligations.BenchEventsLatch := by
  unfold Obligations.BenchEventsLatch
  intro s n idx e ha hn h hfree
  have hidx : idx < 1024 := by
    rcases h with ⟨-, rfl, -⟩ | ⟨-, rfl, -⟩
    · exact tickIndex_lt s n
    · exact Nat.mod_lt _ (by decide)
  obtain ⟨t, sin, hticks, hat, ht⟩ := benTick_applies (s := cleared s) h hfree
  obtain ⟨u, b, sr, cnt, hu, happly⟩ := benApply_parts t n e sin
  obtain ⟨hfields, hns, hsync⟩ := benTick_before ht hu e b sr cnt
  rw [hat] at happly
  have hnow := hticks.trans happly
  have hend : ∀ f ∈ eventFields, _ := fun f hf => getF_benEnd (benStepped u n e b sr cnt) n e idx hf
  refine ⟨fun hev => completes_numbered ha hn rfl ?latched, fun hev => completes_numbered ha hn rfl ?kept⟩
  case latched =>
    obtain ⟨hstamp, hstate, hindex, hunsync, hcount, hraw⟩ := benEvent_spec (benStepped u n e b sr cnt) n hidx
    rw [hnow]
    simp only [hev, if_true] at hend
    rw [hend _ (by decide), hend _ (by decide), hend _ (by decide), hend _ (by decide), getB, hend _ (by decide), ← getB, hstamp, hstate, hindex,
      hunsync, hcount, hns, hsync, hfields _ (by decide)]
    refine ⟨rfl, rfl, rfl, rfl, rfl, ?_⟩
    unfold benEnd
    rw [if_pos hev]
    split
    · exact benStop_raw_mono 2 hraw
    · exact hraw
  case kept =>
    have hsame : ∀ f ∈ eventFields, getF (benTick (cleared s) n none) (Pg.ben n) f = getF s (Pg.ben n) f := fun f hf => by
      rw [hnow, hend f hf, hev, if_neg Bool.false_ne_true]
      exact hfields f hf
    exact ⟨hsame _ (by decide), hsame _ (by decide), hsame _ (by decide), by rw [getB, hsame _ (by decide), ← getB], hsame _ (by decide)⟩

end Sys2Proof.Machine
end

section
/-! PROOFS. A bench's tick: entries that only drive, stalls, bad parity and the end of a stall (R285, R287 to R291, R294). -/

namespace Sys2Proof.Machine

/-! ## Sums of bits -/

/-- The number whose bits below `m` are `b`. -/
def bitsSum (m : Nat) (b : Nat → Bool) : Nat := ((List.range m).map fun k => if b k then 2 ^ k else 0).foldl (· + ·) 0

theorem bitsSum_succ (m : Nat) (b : Nat → Bool) : bitsSum (m + 1) b = bitsSum m b + if b m then 2 ^ m else 0 := by
  simp [bitsSum, List.range_succ]

theorem bitsSum_lt (m : Nat) (b : Nat → Bool) : bitsSum m b < 2 ^ m := by
  induction m with
  | zero => exact Nat.one_pos
  | succ m ih =>
    rw [bitsSum_succ, Nat.pow_succ]
    split <;> omega

/-- Bit `k` of the sum is the bit that was summed. -/
theorem testBit_bitsSum {m k : Nat} (b : Nat → Bool) (h : k < m) : (bitsSum m b).testBit k = b k := by
  induction m with
  | zero => omega
  | succ m ih =>
    have hlow : (bitsSum m b).testBit m = false := Nat.testBit_lt_two_pow (bitsSum_lt m b)
    have hhigh : bitsSum (m + 1) b = 2 ^ m * (if b m then 1 else 0) + bitsSum m b := by
      rw [bitsSum_succ]
      split <;> omega
    rw [hhigh, Nat.testBit_two_pow_mul_add _ (bitsSum_lt m b)]
    by_cases hk : k < m
    · rw [if_pos hk, ih hk]
    · obtain rfl : k = m := by omega
      rw [if_neg hk, Nat.sub_self]
      cases b k <;> rfl

/-- Bits among bits that are 0. -/
theorem wordBits_zero_of_within {v : Word} {lo w lo' w' : Nat} (h : wordBits v lo w = 0) (hlo : lo ≤ lo') (hw : lo' + w' ≤ lo + w) :
    wordBits v lo' w' = 0 := by
  refine Nat.eq_of_testBit_eq fun i => ?_
  rw [testBit_wordBits, Nat.zero_testBit, Bool.and_eq_false_iff, decide_eq_false_iff_not]
  by_cases hi : i < w'
  · refine .inr ?_
    have hbit := testBit_wordBits v lo w (lo' - lo + i)
    rw [h, Nat.zero_testBit, decide_eq_true (by omega), Bool.true_and, show lo + (lo' - lo + i) = lo' + i by omega] at hbit
    exact hbit.symm
  · exact .inl hi

/-- A bit among bits that are 0. -/
theorem getLsbD_false_of_within {v : Word} {lo w i : Nat} (h : wordBits v lo w = 0) (hlo : lo ≤ i) (hi : i < lo + w) : v.getLsbD i = false := by
  have hbit := testBit_wordBits v i 1 0
  rw [wordBits_zero_of_within h hlo (by omega), Nat.zero_testBit] at hbit
  simpa using hbit.symm

/-! ## An entry that only drives -/

/-- The bench with its slots driven by an entry under its mask (R285). -/
def slotsDriven (e : Word) (b : BenSt) : BenSt :=
  { b with slots := bitsSum 8 fun k => if (wordBits e 8 8).testBit k then (wordBits e 0 8).testBit k else b.slots.testBit k }

theorem testBit_slotsDriven (e : Word) (b : BenSt) {k : Nat} (h : k < 8) :
    (slotsDriven e b).slots.testBit k = if (wordBits e 8 8).testBit k then (wordBits e 0 8).testBit k else b.slots.testBit k :=
  testBit_bitsSum _ h

/-- An entry with no action besides takes its step and drives its slots. -/
theorem benApply_drives (s : State) (n : Nat) {e : Word} (sin : Bool) (h : wordBits e 22 8 = 0) : benApply s n e sin =
    benStepped s n e (slotsDriven e (benOf s n)) (getF s (Pg.ben n) F.BEN_SR_SR) (getF s (Pg.ben n) F.BEN_COUNT_COUNT) := by
  have hshift : wordBits e 22 2 = 0 := wordBits_zero_of_within h (by decide) (by decide)
  have hfifo : wordBits e 24 2 = 0 := wordBits_zero_of_within h (by decide) (by decide)
  have hdiv : wordBits e 26 2 = 0 := wordBits_zero_of_within h (by decide) (by decide)
  have hevent : e.getLsbD 28 = false := getLsbD_false_of_within h (by decide) (by decide)
  have hflush : e.getLsbD 29 = false := getLsbD_false_of_within h (by decide) (by decide)
  unfold benApply
  simp only [hshift, hfifo, hdiv, hevent, hflush, if_true, Bool.false_eq_true, if_false, Option.isSome_none, Bool.false_and, Bool.and_false, Bool.or_self,
    show ¬ (0 = 1) by decide, show ¬ (0 = 2) by decide, show ¬ (0 = 3) by decide, or_self, show (0 == 2) = false from rfl,
    show (0 == 3) = false from rfl]
  rfl

/-- What a bench shows after its step. -/
theorem benStepped_spec (s : State) (n : Nat) (e : Word) (b : BenSt) (sr cnt : Nat) : benRun (benStepped s n e b sr cnt) n = 1 ∧
    benOf (benStepped s n e b sr cnt) n = b ∧
    getF (benStepped s n e b sr cnt) (Pg.ben n) F.BEN_STATE_STATE = wordBits e 16 6 ∧
    getF (benStepped s n e b sr cnt) (Pg.ben n) F.BEN_STAT_INDEX = getF s (Pg.ben n) F.BEN_STAT_INDEX ∧
    getF (benStepped s n e b sr cnt) (Pg.ben n) F.BEN_STEPS = (getF s (Pg.ben n) F.BEN_STEPS + 1) % 2 ^ 32 ∧
    SameRegs [fKey (Pg.ben n) F.BEN_STAT_INDEX, fKey (Pg.ben n) F.BEN_STATE_STATE, fKey (Pg.ben n) F.BEN_SR_SR, fKey (Pg.ben n) F.BEN_COUNT_COUNT,
      fKey (Pg.ben n) F.BEN_STEPS] s (benStepped s n e b sr cnt) := by
  refine ⟨?_, benOf_setBen .., ?_, getF_benStepped _ _ _ _ _ _ (by decide), ?_, ?_⟩
  · simp (disch := decide) only [benRun, benStepped, bump, getF_setF_clear, getF_setF_same]
    rfl
  · simp (disch := decide) only [benStepped, bump, getF_setF_clear, getF_setF_same]
    exact Nat.mod_mod ..
  · rw [benStepped, getF_bump_same _ _ rfl rfl]
    simp (disch := decide) only [getF_setF_clear]
    rfl
  · refine SameRegs.bump (SameRegs.setF (SameRegs.setF (SameRegs.setF (SameRegs.setF (SameRegs.setF (fun _ _ => rfl) ?_) ?_) ?_) ?_) ?_) ?_ <;>
      simp [fKey, F.BEN_STAT_RUN_STATE, F.BEN_STAT_STALL_ON, F.BEN_STAT_INDEX]

/-- A tick whose entry only drives. -/
theorem benTick_drives {s : State} {n : Nat} (hrun : benRun s n = 1) (hparity : (benOf s n).badParity.contains (tickIndex s n) = false)
    (h : wordBits (benEntry s n (tickIndex s n)) 22 8 = 0) : ∃ sr cnt, benTick s n none =
      benStepped (benIndexed s n) n (benEntry s n (tickIndex s n)) (slotsDriven (benEntry s n (tickIndex s n)) (benOf s n)) sr cnt := by
  have hfree : benBlocked s n (benEntry s n (tickIndex s n)) = 0 := by
    have hfifo : wordBits (benEntry s n (tickIndex s n)) 24 2 = 0 := wordBits_zero_of_within h (by decide) (by decide)
    rw [benBlocked, hfifo]
    rfl
  have hfree' : benBlocked (benIndexed s n) n (benEntry s n (tickIndex s n)) = 0 := (benBlocked_setF_index ..).trans hfree
  rw [benTick_running hrun, hparity, if_neg Bool.false_ne_true, benTake, if_pos hfree', benApply_drives _ _ _ h]
  exact ⟨_, _, rfl⟩

/-! ## Stalls (R289) -/

/-- The bench stalls at its entry, on receive room or on a transmit unit. -/
def benStalled (s : State) (n : Nat) (e : Word) (sin : Bool) (on : Nat) : State :=
  irqEvent (bump (setF (setF (setBen s n { benOf s n with heldEntry := e, heldSin := sin }) (Pg.ben n) F.BEN_STAT_RUN_STATE 2)
    (Pg.ben n) F.BEN_STAT_STALL_ON on) (Pg.ben n) F.BEN_STALLS) (Pg.ben n) 4

theorem benTake_stalls {s : State} {n : Nat} {e : Word} (sin : Bool) (hblocked : benBlocked s n e ≠ 0) (hrun : benRun s n ≠ 2) :
    benTake s n e sin = benStalled s n e sin (benBlocked s n e) := by
  rw [benTake, if_neg hblocked, if_neg hrun]
  rfl

/-- A pop with no transmit word waits for one. -/
theorem benBlocked_pop {s : State} {n : Nat} {e : Word} (h : wordBits e 24 2 = 2) (htx : (fifoOf s (32 + n)).tx = []) : benBlocked s n e = 2 := by
  rw [benBlocked, h, htx]
  rfl

theorem benStalled_spec (s : State) (n : Nat) (e : Word) (sin : Bool) {on : Nat} (hon : on < 4) : benRun (benStalled s n e sin on) n = 2 ∧
    getF (benStalled s n e sin on) (Pg.ben n) F.BEN_STAT_STALL_ON = on ∧
    getF (benStalled s n e sin on) (Pg.ben n) F.BEN_STALLS = (getF s (Pg.ben n) F.BEN_STALLS + 1) % 2 ^ 32 ∧
    (getW (benStalled s n e sin on) (Pg.ben n) 0x10).getLsbD 4 = true ∧
    benOf (benStalled s n e sin on) n = { benOf s n with heldEntry := e, heldSin := (benOf (benStalled s n e sin on) n).heldSin } ∧
    getF (benStalled s n e sin on) (Pg.ben n) F.BEN_STATE_STATE = getF s (Pg.ben n) F.BEN_STATE_STATE := by
  refine ⟨?_, ?_, ?_, irqEvent_raw_set _ _ (by decide), ?_, ?_⟩
  · simp (disch := decide) only [benRun, benStalled, getF_irqEvent_body, bump, getF_setF_clear, getF_setF_same]
    rfl
  · simp (disch := decide) only [benStalled, getF_irqEvent_body, bump, getF_setF_clear, getF_setF_same]
    exact Nat.mod_eq_of_lt hon
  · rw [benStalled, getF_irqEvent_body _ _ _ _ (by decide) (by decide), getF_bump_same _ _ rfl rfl]
    simp (disch := decide) only [getF_setF_clear]
    rfl
  · have hben : benOf (benStalled s n e sin on) n = { benOf s n with heldEntry := e, heldSin := sin } := by
      rw [benStalled, benOf_irqEvent]
      exact benOf_setBen ..
    rw [hben]
  · simp (disch := decide) only [benStalled, getF_irqEvent_body, bump, getF_setF_clear]
    rfl

/-- A tick whose pop finds no unit. -/
theorem benTick_stalls {s : State} {n : Nat} (hrun : benRun s n = 1) (hparity : (benOf s n).badParity.contains (tickIndex s n) = false)
    (h : wordBits (benEntry s n (tickIndex s n)) 24 2 = 2) (htx : (fifoOf s (32 + n)).tx = []) :
    benTick s n none = benStalled (benIndexed s n) n (benEntry s n (tickIndex s n)) (benSin s n) 2 := by
  have hon : benBlocked (benIndexed s n) n (benEntry s n (tickIndex s n)) = 2 := benBlocked_pop h htx
  have hrun' : benRun (benIndexed s n) n ≠ 2 := by rw [benRun_benIndexed, hrun]; decide
  rw [benTick_running hrun, hparity, if_neg Bool.false_ne_true, benTake_stalls _ (by rw [hon]; decide) hrun', hon]

/-- The end of a stall whose FIFO action is still not possible (R289, R291). -/
theorem benStallTimeout_spec {s : State} {n : Nat} (hrun : benRun s n = 2) (hblocked : benBlocked s n (benOf s n).heldEntry ≠ 0) :
    benRun (benStallTimeout s n) n = 0 ∧ getF (benStallTimeout s n) (Pg.ben n) F.BEN_STAT_STOP_WHY = 3 ∧
      getB (benStallTimeout s n) (Pg.ben n) F.BEN_ERR_STALL_TIMEOUT = true ∧ (getW (benStallTimeout s n) (Pg.ben n) 0x10).getLsbD 3 = true ∧
      OnlyRegs (fKey (Pg.ben n) F.BEN_STAT_STOP_WHY :: fKey (Pg.ben n) F.BEN_ERR_STALL_TIMEOUT :: errKeys (Pg.ben n)) s (benStallTimeout s n) := by
  have hne : benRun s n ≠ 0 := by rw [hrun]; decide
  obtain ⟨hstop, hwhy, hraw, hregs, hbeside⟩ := benStop_spec hne (show 3 < 8 by decide)
  rw [benStallTimeout, if_pos ⟨hrun, hblocked⟩]
  refine ⟨?_, ?_, ?_, noteErr_raw_mono _ _ _ ?_, ?_, ?_⟩
  · rw [benRun, getF_noteErr_body _ _ _ _ _ (by decide), setB, getF_setF_clear _ _ _ (by decide), ← benRun, hstop]
  · rw [getF_noteErr_body _ _ _ _ _ (by decide), setB, getF_setF_clear _ _ _ (by decide), hwhy]
  · rw [getB, getF_noteErr_body _ _ _ _ _ (by decide), ← getB]
    exact getB_setB_same _ _ _ _ _ (by decide) rfl
  · rwa [setB, getW_setF_header _ _ _ (by decide) (by decide)]
  · have hall : ∀ k ∈ [regKey (Pg.ben n) 0x10, regKey (Pg.ben n) 0x18, fKey (Pg.ben n) F.BEN_STAT_RUN_STATE, fKey (Pg.ben n) F.BEN_STAT_STALL_ON,
        fKey (Pg.ben n) F.BEN_STAT_STOP_WHY], k ∈ fKey (Pg.ben n) F.BEN_STAT_STOP_WHY :: fKey (Pg.ben n) F.BEN_ERR_STALL_TIMEOUT :: errKeys (Pg.ben n) := by
      simp [errKeys, fKey, F.BEN_STAT_RUN_STATE, F.BEN_STAT_STALL_ON, F.BEN_STAT_STOP_WHY]
    exact ((hregs.mono hall).setB (by simp)).noteErr (by simp +contextual)
  · rw [beside_noteErr, beside_setB, hbeside]

/-! ## Bad parity (R294) -/

theorem faultLog_fld (s : State) (k c pg d : Nat) : (faultLog s k c pg d).fld = s.fld := by
  unfold faultLog
  split
  · rfl
  · rw [irqEvent_fld]; rfl

/-- A fault record writes no register of a bench. -/
theorem ben_not_flogKeys (n : Nat) {o : Nat} (h : o < 0x1000) : regKey (Pg.ben n) o ∉ flogKeys := by
  simp only [flogKeys, fKey, regKey, Pg.ben, Pg.bst, F.BST_FLOG_OVF_COUNT, List.mem_cons, List.not_mem_nil, or_false]
  omega

/-- What the stop of a running bench for an entry with bad parity leaves. -/
theorem benParity_spec {s : State} {n : Nat} (hrun : benRun s n ≠ 0) : benRun (benParity s n) n = 0 ∧
    getF (benParity s n) (Pg.ben n) F.BEN_STAT_STOP_WHY = 4 ∧ getB (benParity s n) (Pg.ben n) F.BEN_ERR_TABLE_PARITY = true ∧
    (getW (benParity s n) (Pg.ben n) 0x10).getLsbD 3 = true ∧ benOf (benParity s n) n = benOf s n := by
  have hrun' : benRun (setB (benIndexed s n) (Pg.ben n) F.BEN_ERR_TABLE_PARITY true) n ≠ 0 := by
    rwa [benRun, setB, getF_setF_clear _ _ _ (by decide), ← benRun, benRun_benIndexed]
  obtain ⟨hstop, hwhy, hraw, -⟩ := benStop_spec hrun' (show 4 < 8 by decide)
  have hfield : ∀ f : FieldD, 0x40 ≤ f.off + f.stride * 0 → f.off + f.stride * 0 < 0x1000 → getF (benParity s n) (Pg.ben n) f =
      getF (benStop (setB (benIndexed s n) (Pg.ben n) F.BEN_ERR_TABLE_PARITY true) n 4) (Pg.ben n) f := fun f hf hlt =>
    ((sameRegs_faultLog _ _ _ _ _).getF (ben_not_flogKeys n hlt)).trans (getF_noteErr_body _ _ _ _ _ hf)
  refine ⟨?_, ?_, ?_, ?_, ?_⟩
  · rw [benRun, hfield _ (by decide) (by decide), ← benRun, hstop]
  · rw [hfield _ (by decide) (by decide), hwhy]
  · rw [getB, hfield _ (by decide) (by decide), getF_benStop _ _ _ (by decide), ← getB]
    exact getB_setB_same _ _ _ _ _ (by decide) rfl
  · rw [benParity, (sameRegs_faultLog _ _ _ _ _).getW (ben_not_flogKeys n (by decide))]
    exact noteErr_raw_mono _ _ _ hraw
  · refine benOf_of_fld ?_ n
    rw [benParity, faultLog_fld, noteErr_fld, benStop_fld]
    rfl

theorem benTick_parity {s : State} {n : Nat} (hrun : benRun s n = 1) (hparity : (benOf s n).badParity.contains (tickIndex s n) = true) :
    benTick s n none = benParity s n := by
  rw [benTick_running hrun, if_pos hparity]

/-- Entry `k` of the bench's table has gone bad. -/
def benUpset (s : State) (n k : Nat) : State := setBen s n { benOf s n with badParity := k % 1024 :: (benOf s n).badParity }

/-- A tick whose own entry has gone bad. -/
theorem benTick_upset {s : State} {n k : Nat} (hrun : benRun s n = 1) (hk : k = tickIndex s n) :
    benTick s n (some k) = benParity (benUpset s n k) n := by
  have hbad : (benOf (benUpset s n k) n).badParity = k % 1024 :: (benOf s n).badParity := by rw [benUpset, benOf_setBen]
  have hindex : tickIndex (benUpset s n k) n = k := hk.symm
  have hmod : k % 1024 = k := Nat.mod_eq_of_lt (hk ▸ tickIndex_lt s n)
  refine (benTick_parity (s := benUpset s n k) hrun ?_)
  rw [hindex, hbad, hmod, List.contains_cons, beq_self_eq_true, Bool.true_or]

/-- Settles O39: a tick goes by the state of its bench, the parity of its entry and what its FIFO action waits for. -/
theorem benchTicks : Obligations.BenchTicks := by
  unfold Obligations.BenchTicks
  intro s n idx ha hn
  refine ⟨fun hrun => completes_numbered ha hn rfl (benTick_stopped (s := cleared s) hrun), fun e hrun he hidx => ?running,
    fun hrun hfree => completes_numbered ha hn rfl (if_neg fun h => h.2 hfree),
    fun hrun hblocked => completes_numbered ha hn rfl (benStallTimeout_spec (s := cleared s) hrun hblocked)⟩
  subst hidx
  subst he
  refine ⟨fun hparity hdrive => completes_numbered ha hn rfl ?drives, fun hparity hpop htx => completes_numbered ha hn rfl ?stalls,
    fun hparity => completes_numbered ha hn rfl ?parity, fun k _ hk => completes_numbered ha hn rfl ?upset⟩
  case drives =>
    obtain ⟨sr, cnt, htick⟩ := benTick_drives (s := cleared s) hrun hparity hdrive
    rw [htick]
    obtain ⟨hrun', hben, hstate, hindex, hsteps, hregs⟩ := benStepped_spec (benIndexed (cleared s) n) n (benEntry s n (tickIndex s n))
      (slotsDriven (benEntry s n (tickIndex s n)) (benOf s n)) sr cnt
    refine ⟨hrun', hstate, hindex.trans (getF_benIndexed ..), hsteps.trans ?_, fun k hk => ?_, rfl, .trans (t := benIndexed (cleared s) n) ?_ hregs⟩
    · rw [benIndexed, getF_setF_clear _ _ _ (by decide)]
      rfl
    · exact (congrArg (·.slots.testBit k) hben).trans (testBit_slotsDriven _ _ hk)
    · exact SameRegs.setF (fun _ _ => rfl) List.mem_cons_self
  case stalls =>
    rw [benTick_stalls (s := cleared s) hrun hparity hpop htx]
    obtain ⟨hrun', hon, hstalls, hraw, hben, hstate⟩ := benStalled_spec (benIndexed (cleared s) n) n (benEntry s n (tickIndex s n))
      (benSin (cleared s) n) (show 2 < 4 by decide)
    refine ⟨hrun', hon, hstalls.trans ?_, hraw, hben, hstate.trans (getF_setF_clear _ _ _ (by decide))⟩
    rw [benIndexed, getF_setF_clear _ _ _ (by decide)]
    rfl
  case parity =>
    rw [benTick_parity (s := cleared s) hrun hparity]
    obtain ⟨hstop, hwhy, herr, hraw, hben⟩ := benParity_spec (s := cleared s) (n := n) (show benRun s n ≠ 0 by rw [hrun]; decide)
    exact ⟨hstop, hwhy, herr, hraw, congrArg _ hben⟩
  case upset =>
    rw [benTick_upset (s := cleared s) hrun hk]
    obtain ⟨hstop, hwhy, herr, -, hben⟩ := benParity_spec (s := benUpset (cleared s) n k) (n := n) (show benRun s n ≠ 0 by rw [hrun]; decide)
    refine ⟨hstop, hwhy, herr, ?_⟩
    rw [hben, benUpset, benOf_setBen, hk, Nat.mod_eq_of_lt (tickIndex_lt s n)]
    exact List.mem_cons_self

end Sys2Proof.Machine
end

section
/-! PROOFS. Benches start and stop, alone and by masks, and the commands of their FIFOs (R290, R292, R295, R296, R300). -/

namespace Sys2Proof.Machine

/-! ## Writes that are commands of the field die -/

theorem isFieldPage_ben {n : Nat} (hn : n < 16) : isFieldPage (Pg.ben n) = true := by
  interval_cases n <;> rfl

/-- A write that its page of the field die takes as a command completes with what the command makes of the hub. -/
theorem completes_fieldCmd {c : Instr} {s : State} {who : Agent} {p off : Nat} {v : Word} {cause : Nat} {t : State} {f : State → State}
    {P : State → Prop} (h : writeTaken s who p off v = true) (hoff : 0x40 ≤ off) (hpage : isFieldPage p = true)
    (he : exec c s = .next (during s f)) (hown : f (cleared s) = ownWrite (cleared s) who p off v)
    (hcmd : fieldCmd (accNext (cleared s)) p off v = some ((St.ok, cause), t))
    (hP : ∀ u, u.fld = t.fld → u.regs = t.regs → P u) : Completes c s P := by
  obtain ⟨-, -, hreach, -⟩ := writeTaken_bounds h
  simp only [writeTaken, Bool.and_eq_true] at h
  obtain ⟨⟨-, hlock⟩, -⟩ := h
  have hj := judged_command (s := accNext (cleared s)) (who := who) (by omega) (by omega) hlock (by rw [hpage, if_pos rfl]; exact hcmd)
  exact completes_write hreach he hown hj fun u hu hb _ => hP u (fld_of_beside hb) hu

/-- The page of a bench is its own. -/
theorem ben_page {n : Nat} (hn : n < 16) : Pg.ben n ≠ Pg.pwr ∧ ¬(0x100 ≤ Pg.ben n ∧ Pg.ben n ≤ 0x11F) ∧ (0x120 ≤ Pg.ben n ∧ Pg.ben n ≤ 0x12F) ∧
    Pg.ben n - 0x120 = n := by
  simp only [Pg.ben, Pg.pwr]
  omega

/-- A write of BEN.CMD that RUN of a disabled bench does not refuse completes with the command (R54, R290). -/
theorem completes_benCmd {c : Instr} {s : State} {who : Agent} {n : Nat} {v : Word} {P : State → Prop} (hn : n < 16)
    (h : writeTaken s who (Pg.ben n) 0x44 v = true) (hen : v.getLsbD 0 = false ∨ pageEnabled s (Pg.ben n) = true)
    (he : exec c s = .next (during s fun a => if n < 16 then ownWrite a who (Pg.ben n) 0x44 v else a))
    (hP : ∀ u, u.fld = (benCmd (accNext (cleared s)) n v).fld → u.regs = (benCmd (accNext (cleared s)) n v).regs → P u) : Completes c s P := by
  obtain ⟨hpwr, hser, hben, hsub⟩ := ben_page hn
  have henabled : ∀ a, (v.getLsbD 0 && a && !pageEnabled (accNext (cleared s)) (Pg.ben n)) = false := fun a => by
    rcases hen with hrun | hon
    · rw [hrun, Bool.false_and, Bool.false_and]
    · rw [show pageEnabled (accNext (cleared s)) (Pg.ben n) = true from hon, Bool.not_true, Bool.and_false]
  have hcmd : fieldCmd (accNext (cleared s)) (Pg.ben n) 0x44 v = some (ackOk, benCmd (accNext (cleared s)) n v) := by
    rw [fieldCmd, if_neg hpwr, if_neg hser, if_pos hben, if_pos rfl, hsub, benCmdWrite, henabled, if_neg Bool.false_ne_true]
  exact completes_fieldCmd h (by decide) (isFieldPage_ben hn) he (if_pos hn) hcmd hP

theorem benCmd_run {s : State} {n : Nat} (h : benRun s n = 0) : benCmd s n 1#32 = benStart s n := by
  simp [benCmd, h]

theorem benCmd_stop (s : State) (n : Nat) : benCmd s n 2#32 = benStop s n 1 := by
  simp [benCmd]

theorem benCmd_flush (s : State) (n : Nat) : benCmd s n 4#32 = sealOpen s (32 + n) := by
  simp [benCmd, rxFlush]

theorem benCmd_rxClear (s : State) (n : Nat) : benCmd s n 8#32 = rxDiscard s (32 + n) true := by
  simp [benCmd]

theorem benCmd_txClear (s : State) (n : Nat) : benCmd s n 16#32 = benTxClear s n := by
  simp [benCmd]

/-! ## Starts (R290, R292) -/

theorem benStart_runs {s : State} {n : Nat} (hrun : benRun s n = 0) (hpair : pairSilent s = false) : benStart s n =
    setF (if getB s (Pg.ben n) F.BEN_CTL_RESTART_CLEAR then benClear s n else s) (Pg.ben n) F.BEN_STAT_RUN_STATE 1 :=
  if_neg (by simp [hrun, hpair])

theorem benRun_benStart {s : State} {n : Nat} (hrun : benRun s n = 0) (hpair : pairSilent s = false) : benRun (benStart s n) n = 1 := by
  rw [benStart_runs hrun hpair]
  exact getF_setF_same _ _ _ _ _ (by decide)

/-- A bench that runs, or whose member is silent, does not start. -/
theorem benStart_none {s : State} {n : Nat} (h : benRun s n ≠ 0 ∨ pairSilent s = true) : benStart s n = s := if_pos h

/-- A bench whose CTL clears nothing only starts. -/
theorem benStart_plain {s : State} {n : Nat} (hrun : benRun s n = 0) (hpair : pairSilent s = false)
    (hclear : getB s (Pg.ben n) F.BEN_CTL_RESTART_CLEAR = false) : benStart s n = setF s (Pg.ben n) F.BEN_STAT_RUN_STATE 1 := by
  rw [benStart_runs hrun hpair, hclear, if_neg Bool.false_ne_true]

/-- What a clearing start sets first (R292). -/
theorem benStart_clears {s : State} {n : Nat} (hrun : benRun s n = 0) (hpair : pairSilent s = false)
    (hclear : getB s (Pg.ben n) F.BEN_CTL_RESTART_CLEAR = true) :
    getF (benStart s n) (Pg.ben n) F.BEN_STATE_STATE = getF s (Pg.ben n) F.BEN_OUT_CFG_START_STATE ∧ getF (benStart s n) (Pg.ben n) F.BEN_SR_SR = 0 ∧
      getF (benStart s n) (Pg.ben n) F.BEN_COUNT_COUNT = 0 ∧
      benOf (benStart s n) n = { benOf s n with slots := getF s (Pg.ben n) F.BEN_OUT_CFG_INIT, divisor := getF s (Pg.ben n) F.BEN_DIV_A_DIV } := by
  have hset : ∀ t b, ∀ f : FieldD, getF (setBen t n b) (Pg.ben n) f = getF t (Pg.ben n) f := fun _ _ _ => rfl
  rw [benStart_runs hrun hpair, hclear, if_pos rfl, benClear]
  refine ⟨?_, ?_, ?_, benOf_setBen ..⟩ <;> simp (disch := decide) only [getF_setF_clear, getF_setF_same, hset]
  · exact Nat.mod_mod ..
  · rfl
  · rfl

theorem fifoOf_benStart (s : State) (n ep : Nat) : fifoOf (benStart s n) ep = fifoOf s ep := by
  unfold benStart
  split
  · rfl
  · split <;> rfl

theorem benTable_benStart (s : State) (n : Nat) : (benOf (benStart s n) n).table = (benOf s n).table := by
  unfold benStart
  split
  · rfl
  · split
    · exact congrArg (·.table) (benOf_setBen (setF (setF (setF s (Pg.ben n) F.BEN_STATE_STATE _) (Pg.ben n) F.BEN_SR_SR 0) (Pg.ben n) F.BEN_COUNT_COUNT 0)
        n _)
    · rfl

/-! ## Masks (R300) -/

/-- The registers of bench `n` and of the ring die, and the bench's own state, stand. -/
structure BenApart (n : Nat) (s t : State) : Prop where
  regs : ∀ k, k / 1024 = Pg.ben n ∨ k / 1024 < 0x100 → tabGet t.regs k = tabGet s.regs k
  ben : benOf t n = benOf s n

theorem BenApart.refl (n : Nat) (s : State) : BenApart n s s := ⟨fun _ _ => rfl, rfl⟩

theorem BenApart.trans {n : Nat} {s t u : State} (a : BenApart n s t) (b : BenApart n t u) : BenApart n s u :=
  ⟨fun k hk => (b.regs k hk).trans (a.regs k hk), b.ben.trans a.ben⟩

theorem BenApart.getF {n : Nat} {s t : State} (a : BenApart n s t) {p : Nat} {f : FieldD} (hp : p = Pg.ben n ∨ p < 0x100)
    (ho : f.off + f.stride * 0 < 0x1000) : getF t p f = getF s p f := by
  rw [Machine.getF, Machine.getF, getW, getW, a.regs _ (by rwa [(regKey_split ho).1])]

theorem BenApart.benRun {n : Nat} {s t : State} (a : BenApart n s t) : benRun t n = benRun s n := a.getF (.inl rfl) (by decide)

theorem BenApart.pageEnabled {n : Nat} {s t : State} (a : BenApart n s t) : pageEnabled t (Pg.ben n) = pageEnabled s (Pg.ben n) := by
  rw [Machine.pageEnabled, getB, a.getF (.inl rfl) (by decide), Machine.pageEnabled, getB]

theorem BenApart.pairSilent {n : Nat} {s t : State} (a : BenApart n s t) : pairSilent t = pairSilent s := by
  rw [Machine.pairSilent, pairRole, a.getF (.inr (by decide)) (by decide), Machine.pairSilent, pairRole]

/-- Updates of another bench's page. -/
theorem BenApart.of_onlyPages {m n : Nat} {s t : State} (h : n ≠ m) (a : OnlyPages [Pg.ben m] s t) (hben : benOf t n = benOf s n) :
    BenApart n s t := by
  refine ⟨fun k hk => a k ?_, hben⟩
  simp only [Pg.ben, List.mem_singleton] at hk ⊢
  omega

theorem benStart_apart {m n : Nat} (s : State) (h : n ≠ m) : BenApart n s (benStart s m) := by
  have hpage : ∀ {t : State} {f : FieldD} {v : Nat}, f.off + f.stride * 0 < 0x1000 → OnlyPages [Pg.ben m] s t →
      OnlyPages [Pg.ben m] s (setF t (Pg.ben m) f v) := fun ho a => a.setF (List.mem_singleton_self _) ho
  have hclear : OnlyPages [Pg.ben m] s (benClear s m) := by
    refine OnlyPages.of_eq (hpage ?_ (hpage ?_ (hpage ?_ (.refl _ s)))) rfl <;> decide
  unfold benStart
  split
  · exact .refl n s
  · split
    · exact .of_onlyPages h (hpage (by decide) hclear) (benOf_setBen_ne _ _ h)
    · exact .of_onlyPages h (hpage (by decide) (.refl _ s)) rfl

theorem benStop_apart {m n : Nat} (s : State) (why : Nat) (h : n ≠ m) : BenApart n s (benStop s m why) := by
  refine .of_onlyPages h ((benStop_regs s m why).onlyPages fun k hk => ?_) (benOf_of_fld (benStop_fld ..) n)
  simp only [fKey, irqKeys, regKey, F.BEN_STAT_STOP_WHY, List.mem_cons, List.not_mem_nil, or_false] at hk ⊢
  omega

theorem foldl_apart {n : Nat} {f : State → Nat → State} (h : ∀ a m, n ≠ m → BenApart n a (f a m)) {l : List Nat} (hl : n ∉ l) (s : State) :
    BenApart n s (l.foldl f s) := by
  induction l generalizing s with
  | nil => exact .refl n s
  | cons m l ih =>
    simp only [List.mem_cons, not_or] at hl
    obtain ⟨hm, hrest⟩ := hl
    exact (h s m hm).trans (ih hrest _)

/-- Work on the benches one by one reaches bench `n` once, and the others' leaves it alone. -/
theorem foldl_benches {n : Nat} (hn : n < 16) {f : State → Nat → State} (h : ∀ a m, n ≠ m → BenApart n a (f a m)) (s : State) :
    ∃ a, BenApart n s a ∧ BenApart n (f a n) ((List.range 16).foldl f s) := by
  obtain ⟨before, after, hsplit⟩ := List.append_of_mem (List.mem_range.2 hn)
  have hnodup : (before ++ n :: after).Nodup := hsplit ▸ List.nodup_range
  obtain ⟨hout, -⟩ := List.nodup_cons.1 (List.nodup_middle.1 hnodup)
  rw [List.mem_append, not_or] at hout
  obtain ⟨hbefore, hafter⟩ := hout
  rw [hsplit, List.foldl_append, List.foldl_cons]
  exact ⟨before.foldl f s, foldl_apart h hbefore s, foldl_apart h hafter _⟩

theorem benRunMask_spec (s : State) {n : Nat} (mask : Nat) (hn : n < 16) : benRun (benRunMask s mask) n =
    if mask.testBit n && pageEnabled s (Pg.ben n) && benRun s n == 0 && !pairSilent s then 1 else benRun s n := by
  obtain ⟨a, hbefore, hafter⟩ := foldl_benches (n := n) hn (s := s)
    (f := fun a m => if mask.testBit m && pageEnabled a (Pg.ben m) then benStart a m else a) fun a m hm => by
      split
      · exact benStart_apart a hm
      · exact .refl n a
  rw [benRunMask, hafter.benRun, ← hbefore.benRun, ← hbefore.pageEnabled, ← hbefore.pairSilent]
  cases mask.testBit n && pageEnabled a (Pg.ben n) with
  | false => rfl
  | true =>
    rw [if_pos rfl, Bool.true_and]
    by_cases hstart : benRun a n = 0 ∧ pairSilent a = false
    · obtain ⟨hrun, hpair⟩ := hstart
      rw [benRun_benStart hrun hpair, hrun, hpair]
      rfl
    · have hnone : benRun a n ≠ 0 ∨ pairSilent a = true := by
        rcases Nat.eq_zero_or_pos (benRun a n) with hrun | hrun
        · exact .inr (by simpa [hrun] using hstart)
        · exact .inl (Nat.ne_of_gt hrun)
      rw [benStart_none hnone, if_neg]
      simpa using hstart

theorem benStopMask_spec (s : State) {n : Nat} (mask : Nat) (hn : n < 16) :
    benRun (benStopMask s mask) n = (if mask.testBit n then 0 else benRun s n) ∧ benOf (benStopMask s mask) n = benOf s n := by
  obtain ⟨a, hbefore, hafter⟩ := foldl_benches (n := n) hn (s := s) (f := fun a m => if mask.testBit m then benStop a m 1 else a) fun a m hm => by
    split
    · exact benStop_apart a 1 hm
    · exact .refl n a
  have hstop : benRun (benStop a n 1) n = 0 := by
    by_cases hrun : benRun a n = 0
    · rw [benStop_idle 1 hrun, hrun]
    · exact (benStop_spec hrun (by decide)).1
  rw [benStopMask, hafter.benRun, hafter.ben, ← hbefore.benRun, ← hbefore.ben]
  cases mask.testBit n with
  | false => exact ⟨rfl, rfl⟩
  | true => exact ⟨hstop, benOf_of_fld (benStop_fld ..) n⟩

/-! ## The commands of the FIFOs (R295, R296) -/

/-- A flush closes the open word with LAST, which enters the FIFO (R295). -/
theorem sealOpen_ben {s : State} {n : Nat} (h : (fifoOf s (32 + n)).opened ≠ []) (hroom : (fifoOf s (32 + n)).rx.length < 256) :
    (fifoOf (sealOpen s (32 + n)) (32 + n)).opened = [] ∧
      (fifoOf (sealOpen s (32 + n)) (32 + n)).rx = (fifoOf s (32 + n)).rx ++ [lastWord (fifoOf s (32 + n))] := by
  have hsealed : fifoOf (openSealed s (32 + n)) (32 + n) =
      { fifoOf s (32 + n) with opened := [], openGap := false, sealed := some (lastWord (fifoOf s (32 + n))) } := fifoOf_setFifo ..
  rw [sealOpen_some h, msgLatch_ben, sealedEnter_room (s := openSealed s (32 + n)) (w := lastWord (fifoOf s (32 + n))) (by rw [hsealed])
    (by rwa [hsealed, rxDepth_ben]), fifoOf_wordMirror, fifoOf_setFifo, hsealed]
  exact ⟨rfl, rfl⟩

/-- TX_CLEAR with no word begun (R295). -/
theorem benTxClear_spec {s : State} {n : Nat} (h : (fifoOf s (32 + n)).txTaken = 0) : (fifoOf (benTxClear s n) (32 + n)).tx = [] ∧
    (fifoOf (benTxClear s n) (32 + n)).txGapNext = true ∧ (fifoOf (benTxClear s n) (32 + n)).rx = (fifoOf s (32 + n)).rx ∧
    getF (benTxClear s n) (Pg.ben n) F.BEN_TX_DISCARD = (getF s (Pg.ben n) F.BEN_TX_DISCARD + closedBytes (fifoOf s (32 + n)).tx) % 2 ^ 32 := by
  have hclear : txClear s (32 + n) true = bump (setFifo s (32 + n) { fifoOf s (32 + n) with tx := [], txGapNext := true }) (Pg.ben n)
      F.BEN_TX_DISCARD (closedBytes (fifoOf s (32 + n)).tx) := by
    simp only [txClear, h, if_true, epPage_ben, epFld_ben, Bool.or_true]
  have hevent : fifoOf (benTxClear s n) (32 + n) = fifoOf (txClear s (32 + n) true) (32 + n) ∧
      getF (benTxClear s n) (Pg.ben n) F.BEN_TX_DISCARD = getF (txClear s (32 + n) true) (Pg.ben n) F.BEN_TX_DISCARD := by
    unfold benTxClear
    dsimp only
    split
    · exact ⟨fifoOf_irqEvent .., getF_irqEvent_body _ _ _ _ (by decide) (by decide)⟩
    · exact ⟨rfl, rfl⟩
  obtain ⟨hfifo, hcount⟩ := hevent
  rw [hfifo, hcount, hclear, fifoOf_bump, fifoOf_setFifo, getF_bump_by _ _ _ rfl rfl]
  exact ⟨rfl, rfl, rfl, rfl⟩

/-- A unit of a bench is one byte or two, and so one word (R285). -/
theorem packWords_unit (s : State) (n v : Nat) (gap : Bool) :
    packWords 33 (leBytes (benUnit s n) v) gap = [{ data := leBytes (benUnit s n) v, last := true, gap := gap }] := by
  unfold benUnit
  split <;> rfl

/-- TXD pushes its unit as a word with LAST (R296). -/
theorem benTxd_room {s : State} {n : Nat} (v : Nat) (h : (fifoOf s (32 + n)).tx.length < 256) : benTxd s n v =
    (0, setFifo s (32 + n) { fifoOf s (32 + n) with
      tx := (fifoOf s (32 + n)).tx ++ [{ data := leBytes (benUnit s n) v, last := true, gap := (fifoOf s (32 + n)).txGapNext }], txGapNext := false }) := by
  have hsome : (leBytes (benUnit s n) v).isEmpty = false := by
    unfold benUnit
    split <;> rfl
  rw [benTxd, txDepth_ben, if_pos h, txPush, hsome, if_neg Bool.false_ne_true, packWords_unit]

/-- Settles O40: each write is a command of its bench or of BTB, and each command one operation. -/
theorem benchControlAndFifos : Obligations.BenchControlAndFifos := by
  unfold Obligations.BenchControlAndFifos
  refine ⟨fun s who => ⟨fun n hn h hrun hen hpair => completes_benCmd hn h (.inr hen) rfl fun u hu hr => ?run,
      fun n hn h hrun => completes_benCmd hn h (.inl rfl) rfl fun u hu hr => ?stop,
      fun v h => completes_fieldCmd h (by decide) rfl rfl rfl rfl fun u hu hr n hn => ?runMask,
      fun v h => completes_fieldCmd h (by decide) rfl rfl rfl rfl fun u hu hr n hn => ?stopMask⟩,
    fun s who n hn => ⟨fun h hs hroom hne => completes_benCmd hn h (.inl rfl) rfl fun u hu _ => ?flush,
      fun h => completes_benCmd hn h (.inl rfl) rfl fun u hu _ => ?rxClear,
      fun h htaken => completes_benCmd hn h (.inl rfl) rfl fun u hu hr => ?txClear, fun v h hroom => ?txd⟩⟩
  case run =>
    rw [benCmd_run (s := accNext (cleared s)) hrun] at hu hr
    rw [benRun_of_regs hr, fifoOf_of_fld hu, benOf_of_fld hu, getF_of_regs hr, getF_of_regs hr, getF_of_regs hr]
    refine ⟨benRun_benStart (s := accNext (cleared s)) hrun hpair, fifoOf_benStart .., benTable_benStart .., fun hclear => ?_, fun hclear => ?_⟩
    · obtain ⟨hstate, hsr, hcount, hben⟩ := benStart_clears (s := accNext (cleared s)) hrun hpair hclear
      rw [hben]
      exact ⟨hstate, hsr, hcount, rfl, rfl⟩
    · rw [benStart_plain (s := accNext (cleared s)) hrun hpair hclear]
      exact ⟨getF_setF_clear _ _ _ (by decide), rfl⟩
  case stop =>
    rw [benCmd_stop] at hu hr
    obtain ⟨hstop, hwhy, hraw, -⟩ := benStop_spec (s := accNext (cleared s)) (why := 1) hrun (by decide)
    rw [benStop_fld] at hu
    rw [benRun_of_regs hr, getF_of_regs hr, getW_of_regs hr]
    exact ⟨hstop, hwhy, hraw, benOf_of_fld hu n, fifoOf_of_fld hu _⟩
  case runMask =>
    have hbit : (wordBits v 0 16).testBit n = v.getLsbD n := by rw [testBit_wordBits, decide_eq_true hn, Bool.true_and, Nat.zero_add]
    rw [benRun_of_regs hr, ← hbit]
    exact benRunMask_spec (accNext (cleared s)) _ hn
  case stopMask =>
    have hbit : (wordBits v 0 16).testBit n = v.getLsbD n := by rw [testBit_wordBits, decide_eq_true hn, Bool.true_and, Nat.zero_add]
    rw [benRun_of_regs hr, benOf_of_fld hu, ← hbit]
    exact benStopMask_spec (accNext (cleared s)) _ hn
  case flush =>
    rw [benCmd_flush] at hu
    rw [fifoOf_of_fld hu]
    exact sealOpen_ben (s := accNext (cleared s)) hne hroom
  case rxClear =>
    rw [benCmd_rxClear] at hu
    rw [fifoOf_of_fld hu]
    exact serRxClear_fifo (accNext (cleared s)) (32 + n)
  case txClear =>
    rw [benCmd_txClear] at hu hr
    rw [fifoOf_of_fld hu, getF_of_regs hr]
    exact benTxClear_spec (s := accNext (cleared s)) htaken
  case txd =>
    obtain ⟨hpwr, hser, hben, hsub⟩ := ben_page hn
    have hroom' : (fifoOf (accNext (cleared s)) (32 + n)).tx.length < 256 := hroom
    have hword : wordBits v 0 16 = v.toNat % 2 ^ 16 := by rw [wordBits, Nat.pow_zero, Nat.div_one]
    have hcmd : fieldCmd (accNext (cleared s)) (Pg.ben n) 0x7C v =
        some (ackOk, (benTxd (accNext (cleared s)) n (v.toNat % 2 ^ 16)).2) := by
      rw [fieldCmd, if_neg hpwr, if_neg hser, if_pos hben, if_neg (by decide), if_pos rfl, hsub, hword, benTxd_room _ hroom']
      rfl
    refine completes_fieldCmd h (by decide) (isFieldPage_ben hn) rfl (if_pos hn) hcmd fun u hu _ => ?_
    rw [benTxd_room _ hroom'] at hu
    rw [fifoOf_of_fld hu, fifoOf_setFifo]
    exact ⟨rfl, rfl, rfl⟩

end Sys2Proof.Machine
end

section
/-! PROOFS. Writes of a bench's table and program, and the CRC of a table (R293, R294, R301). -/

namespace Sys2Proof.Machine

/-! ## The end of an access -/

/-- However an access ends, the field die stands. -/
theorem accEnd_fld (s : State) (who : Agent) (id status cause : Nat) (d : List Byte) (e : Exec) :
    (accEnd s who id status cause d e).fld = s.fld := by
  have hlog : ∀ (t : State) (r : ErrRec), (errLog t r).fld = t.fld := fun t r => by
    unfold errLog
    split
    · rfl
    · rw [irqEvent_fld]; rfl
  unfold accEnd
  dsimp only
  split
  · split_ifs <;> rfl
  · split
    · rfl
    · split
      · exact hlog _ _
      · rfl

/-- The end of an access leaves the registers behind those of page BRG alone. -/
theorem getW_accEnd_past {p o : Nat} (hp : 0x100 ≤ p) (s : State) (who : Agent) (id status cause : Nat) (d : List Byte) (e : Exec) :
    getW (accEnd s who id status cause d e) p o = getW s p o := by
  obtain ⟨hregs, -⟩ := accEnd_kept s who id status cause d e
  refine hregs.getW ?_
  simp only [endKeys, irqKeys, fKey, regKey, Pg.brg, F.BRG_UR_SENT, F.BRG_CA_SENT, F.BRG_ERRLOG_OVF_COUNT, List.mem_cons, List.not_mem_nil, or_false]
  omega

theorem getF_accEnd_past {p : Nat} {f : FieldD} (hp : 0x100 ≤ p) (s : State) (who : Agent) (id status cause : Nat) (d : List Byte) (e : Exec) :
    getF (accEnd s who id status cause d e) p f = getF s p f := by
  rw [getF, getW_accEnd_past hp, getF]

theorem ben_past (n : Nat) : 0x100 ≤ Pg.ben n := by simp only [Pg.ben]; omega

/-! ## Writes of a table (R293) -/

/-- Only the low 32 bits of a number stand in four bytes. -/
theorem leBytes_four_mod (v : Nat) : leBytes 4 (v % 2 ^ 32) = leBytes 4 v := by
  simp only [leBytes, List.cons.injEq, and_true]
  refine ⟨?_, ?_, ?_, ?_⟩ <;> (refine BitVec.eq_of_toNat_eq ?_; simp only [BitVec.toNat_ofNat]; omega)

/-- Four bytes written replace a word. -/
theorem mergeBytes_whole (old : Word) (v : Nat) : mergeBytes old 0 (leBytes 4 v) = BitVec.ofNat 32 v := by
  have h := mergeBytes_four old (BitVec.ofNat 32 v)
  rwa [BitVec.toNat_ofNat, leBytes_four_mod] at h

/-- A table holds a word, and lists no zero. -/
def wordPutIn (t : Tab Word) (i : Nat) (v : Word) : Tab Word := if v = 0#32 then tabDel t i else tabSet t i v

theorem getD_wordPutIn (t : Tab Word) (i j : Nat) (v : Word) :
    (tabGet (wordPutIn t i v) j).getD 0#32 = if j = i then v else (tabGet t j).getD 0#32 := by
  unfold wordPutIn
  by_cases hj : j = i
  · subst hj
    rw [if_pos rfl]
    split
    · rename_i hv
      rw [tabGet_tabDel_same, hv]
      rfl
    · rw [tabGet_tabSet_same]
      rfl
  · rw [if_neg hj]
    split
    · rw [tabGet_tabDel_ne _ hj]
    · rw [tabGet_tabSet_ne _ _ hj]

/-- Entry `i` of the bench's table written with `v`: its parity is good. -/
def entryPut (b : BenSt) (i v : Nat) : BenSt :=
  { b with table := wordPutIn b.table i (BitVec.ofNat 32 v), badParity := b.badParity.filter fun j => !(decide (i ≤ j) && decide (j < i + 1)) }

/-- A whole entry written; a check of the table in hand becomes DIRTY (R301). -/
theorem benTableWrite_entry (s : State) (n i v : Nat) : benTableWrite s n (4 * i) (leBytes 4 v) =
    if getB s Pg.btb F.BTB_CRC_STAT_BUSY && s.fld.crcBench == n then
      setB (setBen s n (entryPut (benOf s n) i v)) Pg.btb F.BTB_CRC_STAT_DIRTY true
    else setBen s n (entryPut (benOf s n) i v) := by
  have hdiv : 4 * i / 4 = i := by omega
  have hmod : 4 * i % 4 = 0 := by omega
  have hcount : (0 + 4 + 3) / 4 = 1 := rfl
  unfold benTableWrite
  simp only [hdiv, hmod, leBytes_length, hcount, List.range_one, List.foldl_cons, List.foldl_nil, Nat.add_zero, if_true, Nat.sub_zero, List.drop_zero,
    List.take_of_length_le (Nat.le_of_eq (leBytes_length 4 v)), mergeBytes_whole]
  rfl

/-- What the write of an entry leaves. -/
theorem benTableWrite_spec (s : State) (n i v : Nat) : benOf (benTableWrite s n (4 * i) (leBytes 4 v)) n = entryPut (benOf s n) i v ∧
    benRun (benTableWrite s n (4 * i) (leBytes 4 v)) n = benRun s n ∧
    (getB s Pg.btb F.BTB_CRC_STAT_BUSY = true → s.fld.crcBench = n →
      getB (benTableWrite s n (4 * i) (leBytes 4 v)) Pg.btb F.BTB_CRC_STAT_DIRTY = true) := by
  rw [benTableWrite_entry]
  split
  · refine ⟨benOf_setBen s n _, ?_, fun _ _ => getB_setB_same _ _ _ _ _ (by decide) rfl⟩
    exact getF_setF_ne _ _ _ _ _ _ (by simp only [regKey, Pg.ben, Pg.btb, F.BEN_STAT_RUN_STATE, F.BTB_CRC_STAT_DIRTY]; omega)
  · rename_i hno
    exact ⟨benOf_setBen s n _, rfl, fun hbusy hbench => absurd (by rw [hbusy, hbench, beq_self_eq_true]; rfl) hno⟩

theorem benTableStore_stopped {s : State} {n : Nat} (o : Nat) (bs : List Byte) (h : benRun s n = 0) :
    benTableStore s n o bs false = ((St.ok, 0), benTableWrite s n o bs) := if_neg (by simpa using h)

theorem benTableStore_refused {s : State} {n : Nat} {meet : Bool} (i : Nat) (bs : List Byte) (h : benRun s n ≠ 0 ∨ meet = true) :
    benTableStore s n (4 * i) bs meet = ((St.targetErr, 0x40), benRefused s n i true) := by
  rw [benTableStore, if_pos h, Nat.mul_div_cancel_left i (by decide)]

/-- A write of the table that its block takes is judged by the bench. -/
theorem programWrite_table {s : State} {n i : Nat} (who : Agent) (v : Nat) (meet : Bool) (hi : i < 1024) (h : blockRefuses s (Pg.ben n) = none) :
    ∃ id e, programWrite s who n true (4 * i) (leBytes 4 v) meet =
      accEnd (benTableStore (accNext s) n (4 * i) (leBytes 4 v) meet).2 who id (benTableStore (accNext s) n (4 * i) (leBytes 4 v) meet).1.1
        (benTableStore (accNext s) n (4 * i) (leBytes 4 v) meet).1.2 [] e := by
  have hfits : ¬(0x1000 < 4 * i + (leBytes 4 v).length ∨ leBytes 4 v = [] ∨ 256 < (leBytes 4 v).length) := by
    rw [← List.length_eq_zero_iff, leBytes_length]
    omega
  have h' : blockRefuses (nextAcc s).2 (Pg.ben n) = none := h
  unfold programWrite
  dsimp only
  rw [if_pos rfl, if_neg hfits, h']
  exact ⟨_, _, rfl⟩

/-! ## Writes that are refused (R293) -/

/-- The refusal of a write is noted, in the table or at this register; the bench and the registers of its program stand. -/
structure RefusalNoted (n wher : Nat) (inTable : Bool) (s u : State) : Prop where
  fld : u.fld = s.fld
  noted : getB u (Pg.ben n) F.BEN_ERR_WRITE_WHILE_RUN = true
  wher : getF u (Pg.ben n) F.BEN_ERR_WHERE = wher
  inTable : getB u (Pg.ben n) F.BEN_ERR_IN_TABLE = inTable
  raw : (getW u (Pg.ben n) 0x10).getLsbD 1 = true
  program : ∀ off, 0x40 ≤ off → off < 0x80 → getW u (Pg.ben n) off = getW s (Pg.ben n) off

theorem benRefused_noted (s : State) (n : Nat) {wher : Nat} (inTable : Bool) (hw : wher < 1024) :
    RefusalNoted n wher inTable s (benRefused s n wher inTable) where
  fld := noteErr_fld ..
  noted := by
    simp (disch := decide) only [getB, benRefused, getF_noteErr_body, setB, getF_setF_clear, getF_setF_same]
    rfl
  wher := by
    simp (disch := decide) only [benRefused, getF_noteErr_body, setB, getF_setF_clear, getF_setF_same]
    exact Nat.mod_eq_of_lt hw
  inTable := by
    rw [getB, benRefused, getF_noteErr_body _ _ _ _ _ (by decide), ← getB]
    exact getB_setB_same _ _ _ _ _ (by decide) rfl
  raw := getW_noteErr_raw ..
  program off hlo hhi := by
    have hregs : SameRegs (fKey (Pg.ben n) F.BEN_ERR_WRITE_WHILE_RUN :: errKeys (Pg.ben n)) s (benRefused s n wher inTable) := by
      refine SameRegs.noteErr (SameRegs.setB (SameRegs.setF (SameRegs.setB (.refl _ s) ?_) ?_) ?_) (by simp +contextual) <;>
        simp [fKey, F.BEN_ERR_WRITE_WHILE_RUN, F.BEN_ERR_WHERE, F.BEN_ERR_IN_TABLE]
    refine hregs.getW ?_
    simp only [errKeys, fKey, regKey, F.BEN_ERR_WRITE_WHILE_RUN, List.mem_cons, List.not_mem_nil, or_false]
    omega

/-- The end of the refused access adds nothing to it. -/
theorem RefusalNoted.accEnd {n wher : Nat} {inTable : Bool} {s t : State} (a : RefusalNoted n wher inTable s t) (who : Agent)
    (id status cause : Nat) (d : List Byte) (e : Exec) : RefusalNoted n wher inTable s (accEnd t who id status cause d e) where
  fld := (accEnd_fld ..).trans a.fld
  noted := by rw [getB, getF_accEnd_past (ben_past n), ← getB, a.noted]
  wher := by rw [getF_accEnd_past (ben_past n), a.wher]
  inTable := by rw [getB, getF_accEnd_past (ben_past n), ← getB, a.inTable]
  raw := by rw [getW_accEnd_past (ben_past n), a.raw]
  program off hlo hhi := by rw [getW_accEnd_past (ben_past n), a.program off hlo hhi]

/-- A write of the table of a bench that is not stopped, or that starts with it, is refused. -/
theorem programWrite_refused {s : State} {n i : Nat} {meet : Bool} (who : Agent) (v : Nat) (hi : i < 1024) (hno : benRun s n ≠ 0 ∨ meet = true)
    (h : blockRefuses s (Pg.ben n) = none) : RefusalNoted n i true (accNext s) (programWrite s who n true (4 * i) (leBytes 4 v) meet) := by
  obtain ⟨id, e, hwrite⟩ := programWrite_table who v meet hi h
  rw [hwrite, benTableStore_refused (s := accNext s) i _ hno]
  exact (benRefused_noted (accNext s) n true hi).accEnd ..

/-- The program and the working registers stand from 0x4C to 0x68. -/
theorem benProgReg_bounds {off : Nat} (h : benProgReg off = true) : 0x4C ≤ off ∧ off < 0x80 := by
  simp only [benProgReg, Bool.or_eq_true, Bool.and_eq_true, decide_eq_true_eq, beq_iff_eq] at h
  omega

/-- A write of a register of the program of a bench that starts with it is refused. -/
theorem programWrite_register {s : State} {n off : Nat} (who : Agent) (bs : List Byte) (h : benProgReg off = true) (hal : off % 4 = 0) :
    RefusalNoted n (off / 4) false (accNext s) (programWrite s who n false off bs true) := by
  obtain ⟨-, hhi⟩ := benProgReg_bounds h
  have hword : off / 4 * 4 = off := by omega
  have hwrite : programWrite s who n false off bs true = Machine.accEnd (benRefused (accNext s) n (off / 4) false) who s.cul.accId St.targetErr 0x40 []
      (accExec 2 (Pg.ben n) off bs.length bs) := by
    rw [programWrite, if_neg Bool.false_ne_true, hword, h, Bool.and_self, if_pos rfl]
    rfl
  rw [hwrite]
  exact (benRefused_noted (accNext s) n false (by omega)).accEnd ..

/-! ## Writes of a program's registers (R293) -/

/-- A stopped bench's register takes a write as a register does. -/
theorem completes_benSr {s : State} {who : Agent} {n : Nat} {v : Word} {P : State → Prop} (hn : n < 16)
    (h : writeTaken s who (Pg.ben n) 0x64 v = true) (hrun : benRun s n = 0)
    (hP : ∀ u, getW u (Pg.ben n) 0x64 = v → SameRegs [regKey (Pg.ben n) 0x64] s u → u.fld = s.fld → P u) :
    Completes (.benchProgramWrite who n false 0x64 (leBytes 4 v.toNat) false) s P := by
  obtain ⟨hpwr, hser, hben, hsub⟩ := ben_page hn
  obtain ⟨-, -, hreach, -⟩ := writeTaken_bounds h
  simp only [writeTaken, Bool.and_eq_true] at h
  obtain ⟨⟨-, hlock⟩, hval⟩ := h
  have hcmd : fieldCmd (accNext (cleared s)) (Pg.ben n) 0x64 v = none := by
    have hstopped : benRun (accNext (cleared s)) n = 0 := hrun
    rw [fieldCmd, if_neg hpwr, if_neg hser, if_pos hben, if_neg (by decide), if_neg (by decide), hsub, hstopped]
    rfl
  have hafter : ∀ t old, afterWrite t (Pg.ben n) 0x64 old = t := fun t old => by
    interval_cases n <;> rfl
  have hstored : ∀ old, storedWord (Pg.ben n) 0x64 old v v = v := fun old => by
    have hmask : ∀ ok : Acc → Bool, accMask (Pg.ben n) 0x64 ok = if ok .rw then 0xFFFFFFFF#32 else 0#32 := fun ok => by
      have hfields : fieldsAt (Pg.ben n) 0x64 = [(F.BEN_SR_SR, 0)] := by interval_cases n <;> decide
      rw [accMask, hfields]
      cases hok : ok .rw <;> simp [F.BEN_SR_SR, hok]
    have hones : ∀ x : Word, x &&& 0xFFFFFFFF#32 = x := fun x => by
      rw [show (0xFFFFFFFF#32 : Word) = BitVec.allOnes 32 by decide, BitVec.and_allOnes]
    simp [storedWord, hmask, isWritable, hones]
  have hj := judged_stored (s := accNext (cleared s)) (who := who) (by decide) (by decide) hlock hval
    (by rw [isFieldPage_ben hn, if_pos rfl]; exact hcmd) (fun e => absurd e (by decide))
  obtain ⟨t, hstore, hword, hregs, hbeside⟩ := storeWrite_spec (accNext (cleared s)) (p := Pg.ben n) (off := 0x64) v v (by decide) (by decide)
  rw [hstore, hafter] at hj
  refine completes_write hreach rfl (if_pos hn) hj fun u hu hb _ => hP u ?_ (SameRegs.of_eq hregs hu) ?_
  · rw [getW_of_regs hu, hword, hstored]
  · rw [fld_of_beside hb, fld_of_beside hbeside]
    rfl

/-! ## The CRC of a table (R301) -/

theorem tableCrcGo_idle {s : State} (n : Nat) (h : getB s Pg.btb F.BTB_CRC_STAT_BUSY = false) : getB (tableCrcGo s n) Pg.btb F.BTB_CRC_STAT_BUSY = true ∧
    getB (tableCrcGo s n) Pg.btb F.BTB_CRC_STAT_DIRTY = false ∧ (tableCrcGo s n).fld.crcBench = n % 16 := by
  rw [tableCrcGo, if_neg (by rw [h]; exact Bool.false_ne_true)]
  refine ⟨?_, getB_setB_same _ _ _ _ _ (by decide) rfl, rfl⟩
  refine Eq.trans (?_ : _ = getB (setB s Pg.btb F.BTB_CRC_STAT_BUSY true) Pg.btb F.BTB_CRC_STAT_BUSY) (getB_setB_same _ _ _ _ _ (by decide) rfl)
  exact congrArg (· != 0) (getF_setF_clear _ _ _ (by decide))

/-- The check that ends: the registers it writes, `r` the CRC or a free value, `t` the hub past the value it took. -/
def crcEnded (t : State) (r : Nat) : State :=
  irqEvent (setB (setF t Pg.btb F.BTB_CRC_RESULT_CRC r) Pg.btb F.BTB_CRC_STAT_BUSY false) Pg.btb 2

theorem crcEnded_spec (t : State) (r : Nat) : getB (crcEnded t r) Pg.btb F.BTB_CRC_STAT_BUSY = false ∧
    (getW (crcEnded t r) Pg.btb 0x10).getLsbD 2 = true ∧ getF (crcEnded t r) Pg.btb F.BTB_CRC_RESULT_CRC = r % 2 ^ 32 ∧
    OnlyRegs (fKey Pg.btb F.BTB_CRC_RESULT_CRC :: fKey Pg.btb F.BTB_CRC_STAT_BUSY :: irqKeys Pg.btb) t (crcEnded t r) := by
  refine ⟨?_, irqEvent_raw_set _ _ (by decide), ?_, ?_, ?_⟩
  · rw [getB, crcEnded, getF_irqEvent_body _ _ _ _ (by decide) (by decide), ← getB]
    exact getB_setB_same _ _ _ _ _ (by decide) rfl
  · simp (disch := decide) only [crcEnded, getF_irqEvent_body, setB, getF_setF_clear, getF_setF_same]
    rfl
  · exact ((SameRegs.setF (.refl _ t) (by simp)).setB (by simp)).irqEvent (by simp [irqKeys]) (by simp [irqKeys])
  · rw [crcEnded, beside_irqEvent, beside_setB, beside_setF]

/-- A table that has been written meanwhile gives a free value; another gives its CRC. -/
theorem tableCrcDone_busy {s : State} (h : getB s Pg.btb F.BTB_CRC_STAT_BUSY = true) : ∃ fresh r,
    tableCrcDone s = crcEnded { s with fresh := fresh } r ∧
      (getB s Pg.btb F.BTB_CRC_STAT_DIRTY = false → r = crc32c (benTableBytes s s.fld.crcBench)) := by
  simp only [tableCrcDone, h, Bool.not_true, Bool.false_eq_true, if_false]
  cases hdirty : getB s Pg.btb F.BTB_CRC_STAT_DIRTY with
  | true => exact ⟨s.fresh + 1, _, rfl, fun e => absurd e (by decide)⟩
  | false => exact ⟨s.fresh, _, rfl, fun _ => rfl⟩

/-- Settles O41: a table's write is stored or refused by its bench, a program's register is a register of a stopped bench only, and the check of a
table is busy from GO to its end. -/
theorem benchPrograms : Obligations.BenchPrograms := by
  unfold Obligations.BenchPrograms
  intro s who n ha hn
  refine ⟨fun i v hi hrun hblock => completes_numbered ha hn rfl ?stored, fun i v meet hi hno hblock => completes_numbered ha hn rfl ?refused,
    fun v h hrun => completes_benSr hn h hrun fun u hw hregs hfld => ⟨?word, hregs, hfld⟩,
    fun off v hreach hen hprog hal => completes_numbered ha hn rfl ?register,
    fun v h hgo hbusy => completes_fieldCmd (cause := 0) h (by decide) rfl rfl rfl rfl fun u hu hr => ?go,
    fun hbusy => completes_during ha rfl ?done⟩
  case stored =>
    obtain ⟨id, e, hwrite⟩ := programWrite_table (s := cleared s) who v false hi hblock
    obtain ⟨hben, hrun', hdirty⟩ := benTableWrite_spec (accNext (cleared s)) n i v
    rw [hwrite, benTableStore_stopped (s := accNext (cleared s)) _ _ hrun, benOf_of_fld (accEnd_fld ..), hben, benRun_of_regs (accEnd_ok_regs ..),
      hrun', getB_of_regs (accEnd_ok_regs ..)]
    refine ⟨fun j => ?_, by simp [entryPut], hrun, hdirty⟩
    unfold benEntry
    rw [benOf_of_fld (accEnd_fld ..), hben]
    exact getD_wordPutIn ..
  case refused =>
    have hnoted := programWrite_refused (s := cleared s) who v hi hno hblock
    exact ⟨benOf_of_fld hnoted.fld n, hnoted.noted, hnoted.wher, hnoted.inTable, hnoted.raw⟩
  case word =>
    have hmod : v.toNat % 2 ^ 32 = v.toNat := Nat.mod_eq_of_lt v.isLt
    rw [getF, show getW u (Pg.ben n) (F.BEN_SR_SR.off + F.BEN_SR_SR.stride * 0) = v from hw, wordBits]
    simpa [F.BEN_SR_SR] using hmod
  case register =>
    obtain ⟨hlo, hhi⟩ := benProgReg_bounds hprog
    have hnoted := programWrite_register (s := cleared s) (n := n) who (leBytes 4 v) hprog hal
    exact ⟨hnoted.program off (by omega) hhi, hnoted.noted, hnoted.wher, hnoted.inTable⟩
  case go =>
    have hbit : wordBits v 0 4 % 16 = v.toNat % 16 := by
      rw [wordBits, Nat.pow_zero, Nat.div_one]
      exact Nat.mod_mod ..
    obtain ⟨hbusy', hclean, hbench⟩ := tableCrcGo_idle (s := accNext (cleared s)) (wordBits v 0 4) hbusy
    rw [hgo, if_pos rfl] at hu hr
    rw [getB_of_regs hr, getB_of_regs hr, hu]
    exact ⟨hbusy', hclean, hbench.trans hbit⟩
  case done =>
    obtain ⟨fresh, r, hdone, hcrc⟩ := tableCrcDone_busy (s := cleared s) hbusy
    obtain ⟨hidle, hraw, hresult, hregs, hbeside⟩ := crcEnded_spec { cleared s with fresh := fresh } r
    rw [hdone]
    refine ⟨hidle, hraw, fun hclean => hresult.trans (by rw [hcrc hclean]; rfl), hregs, ?_⟩
    exact congrArg (fun t => { t with fresh := s.fresh }) hbeside

end Sys2Proof.Machine
end
